-- ==== Sys2Proof/Word.lean ====
section
/-!
DEFINITION. Sys2Proof/Word.lean: the word and byte types and their plainest arithmetic.
A register of the BX640 is a 32-bit word (R19, R1121); data are bytes; a multi-byte binary field is little-endian (R14).
-/
namespace Sys2Proof

/-- A register word (R19). -/
abbrev Word := BitVec 32

/-- A byte. -/
abbrev Byte := BitVec 8

/-- A string of bytes, offset 0 first (R16). -/
abbrev Bytes := List Byte

end Sys2Proof
end

