-- ==== Sys2Proof/Vocab.lean ====
section
/-!
DEFINITION. Sys2Proof/Vocab.lean: the operand vocabulary of the commands: paths, roles, modes and other fixed sets
of names that the rows of the opcode table carry.
-/
namespace Sys2Proof

/-- The paths that carry Baleong (chapter 03, Model). A Seam path is one session for each source slot (R192). -/
inductive Path where
  | collar
  | mgt
  | seam (slot : Nat)
  deriving DecidableEq, Repr

/-- The roles of Table COL-7; `none` is a Seam source that holds no role (R192, R977). -/
inductive Role where
  | operator | host | mantle | service | none
  deriving DecidableEq, Repr

/-- A Sleeve frame as its lanes brought it (R279, R303 to R305): whether it came on the counter lanes (R297), the lanes on which its SOF
arrived without a character error and those on which EOF did at the character time that LENGTH implies, its sequence number, whether the
CRC passes once correctable characters are corrected, and for each character time in between that has errors the lanes in error (8
is L8). -/
structure SlvRx where
  counter : Bool
  sof : List Nat
  eof : List Nat
  seq : Nat
  crcOk : Bool
  errs : List (List Nat)
  deriving DecidableEq, Repr

/-- How the MGT frame of a line arrived (R279, R304): whole and in sequence; or as its lanes brought it; or it was accepted earlier, like the
ring frame of a Seam line, and its line, which has waited since then for the reply before it, is taken up now (R173). -/
inductive FrameRx where
  | whole
  | seen (rx : SlvRx)
  | taken
  deriving DecidableEq, Repr

/-- A trusted Baleong line as the card received it (R141): its path and its tag. The elements after the tag are the
operands of the command's own constructor; `bad` marks a line with an unknown object, an unknown, repeated or missing key, or a
value that its form cannot hold (R147). `rx` is the MGT frame that brought it. -/
structure Ln where
  path : Path
  tag : Option String
  bad : Bool
  rx : FrameRx := .whole
  deriving DecidableEq, Repr

/-- A complete or partial line as received: its characters before the terminator and its marks (R132, R166). `marks` counts the characters
received with a parity or framing error, which the card holds like any other (R130); `rx` is the MGT frame that brought it. -/
structure RawLine where
  chars : List Nat
  parity : Bool
  framing : Bool
  overrun : Bool
  idle : Bool
  marks : Nat := 0
  rx : FrameRx := .whole
  deriving DecidableEq, Repr

/-- The strap pins as they stand when the card samples them (R76). -/
structure Straps where
  slotId : Nat
  mantleCap : Bool
  bootSel : Nat
  deriving DecidableEq, Repr

/-- One lane's copy of an ACK or REP (R282, R284): the lane, whether its K-code arrived without a character error, and its data
characters, `none` for one with an error. -/
structure CtlCopy where
  lane : Nat
  code : Bool
  args : List (Option Nat)
  deriving DecidableEq, Repr

/-- What one lane brought of Phase B (R205, R206, R236): whether it achieved comma alignment and any needed inversion, how many character
times after the first lane its SOF and EOF stood (`none` when either was not seen), its character errors, the training bytes received. -/
structure LaneTrain where
  lane : Nat
  aligned : Bool
  skew : Option Nat
  errs : Nat
  bytes : Bytes
  deriving DecidableEq, Repr

/-- What the receiver of a Seam port saw of an item besides its fields (R279, R859): its sequence number, whether EOF stood
where LENGTH implies and whether the CRC passes once correctable characters are corrected, and for each character time
with an error the lanes in error (8 is L8). -/
structure RxInfo where
  seq : Nat
  eofOk : Bool
  crcOk : Bool
  errs : List (List Nat)
  deriving DecidableEq, Repr

/-- What an ECC pool finds in a codeword (R495 to R497): the programmed codeword with a zero syndrome, or corrected; another codeword, which
a miscorrection beyond t leaves; an uncorrectable codeword, or an erased one. -/
inductive Decode where
  | clean
  | corrected (bits : Nat)
  | other (bits : Nat) (word : Bytes)
  | failed
  | erased
  deriving DecidableEq, Repr

/-- What a DRAM or SRAM access is made for, or what the line it touches holds (Tables DRC-6, ACC-6, ACC-7): data of a command,
a ring body slot, a cache entry of a flush or a fill, a map segment, a cache entry as a line's holder, a tag line, a Tailor core's access, a scrub. -/
inductive Owner where
  | command (queue tag : Nat)
  | ring (queue tag : Nat)
  | flush (pocket lba : Nat)
  | fill (pocket lba : Nat)
  | segment (entry : Nat)
  | entry (pocket lba : Nat)
  | tags
  | tailor (core : Nat) (p1 : Bool)
  | scrub
  deriving DecidableEq, Repr

/-- What the burst of a DRAM line brings (R512 to R514): the symbols read wrong, each as 8 × device + symbol; the devices that mismatch when
the patterns are written and read back; whether the decoder takes errors beyond it for others (a miscorrection, R515, R517). -/
structure LineErrs where
  syms : List Nat
  devs : List Nat
  miss : Bool
  deriving DecidableEq, Repr

/-- A burst without an error. -/
def LineErrs.none : LineErrs := { syms := [], devs := [], miss := false }

/-- A ring frame (Table SEAM-2) without its hop number. `cls` 1 TWIN, 2 MGT, 3 HTG, 4 BEAT; `flags` is byte 17 (bit 0: sent eastbound), `spare`
bytes 20 to 23, zero at the source and passed on unchanged (R859), `area` bytes 24 to 63. -/
structure RFrame where
  cls : Nat
  sub : Nat
  src : Nat
  dst : Nat
  rseq : Nat
  ttl : Nat
  flags : Nat
  inc : Nat
  spare : Bytes
  area : Bytes
  payload : Bytes
  deriving DecidableEq, Repr

/-- A JTAG instruction (R950): BYPASS, IDCODE, another of IEEE 1149.1 or 1149.6 (with whether it drives balls from the boundary
register), the scan chain of a domain, an internal test data register; `closed` is the TAP held in Test-Logic-Reset. -/
inductive JtagInstr where
  | closed
  | bypass
  | idcode
  | standard (drives : Bool)
  | scan (dom : Nat)
  | internal
  deriving DecidableEq, Repr

/-- What a request asks of a DRAM channel: the line's bytes, or a write of the bytes that are given. -/
inductive DramOp where
  | read
  | write (bytes : List (Option Byte))
  deriving DecidableEq, Repr

/-- A die's parameter page (R433, Tables FLS-1, FLS-3): whether it declares NV-DDR3, or Toggle DDR at VCCQ 1.2 V, the highest rate it
advertises, in MT/s, and the properties of Table FLS-3; `offsets`: read-level offset features (R499). -/
structure ParamPage where
  nvddr3 : Bool
  toggle12 : Bool
  maxRate : Nat
  dataArea : Nat
  spare : Nat
  planes : Nat
  wlPages : Nat
  pages : Nat
  blocks : Nat
  luns : Nat
  onePass : Bool
  offsets : Bool
  deriving DecidableEq, Repr

/-- A flash target that responds at discovery (R433): its channel and chip enable; the ID read, with the signatures of ONFI and of JEDEC; the
redundant copies of its parameter page, `none` where the CRC fails; the rate codes of Table FLS-2 at which the ID read after the switch
matches; the blocks its maker marked bad, each with its LUN. -/
structure DieFound where
  ch : Nat
  ce : Nat
  ident : Nat
  onfi : Bool
  jedec : Bool
  copies : List (Option ParamPage)
  codes : List Nat
  bad : List (Nat × Nat)
  deriving DecidableEq, Repr

/-- What the DRAM mode registers say (R91, R542, R571): the populated ranks of each channel (bit r), the density code, the identity
of the devices, whether all are the same part, whether they declare RFM. -/
structure DramFound where
  pop : List Nat
  dens : Nat
  ident : Nat
  same : Bool
  rfm : Bool
  deriving DecidableEq, Repr

/-- The regulator as PMBus reads it (R806, R807): whether VOUT_MODE is linear, its exponent N, VOUT_MAX in steps, packet error
checking, PMBUS_REVISION. -/
structure Regulator where
  linear : Bool
  exp : Int
  vmax : Nat
  pec : Bool
  rev : Nat
  deriving DecidableEq, Repr

/-- Latency classes (Table POC-1). -/
inductive QosClass where
  | urgent | normal | bulk
  deriving DecidableEq, Repr

/-- The code and the name of a latency class (Table POC-1). -/
def QosClass.code : QosClass → Nat
  | .urgent => 0
  | .normal => 1
  | .bulk => 2
def QosClass.name : QosClass → String
  | .urgent => "urgent"
  | .normal => "normal"
  | .bulk => "bulk"

/-- The attributes that `pocket create` and `pocket set` name (R991, R992). -/
structure PocketAttrs where
  size : Option Nat          -- Stitches
  cls : Option QosClass
  weight : Option Nat
  limit : Option Nat
  unit : Option Nat          -- 4096 or 512
  deriving DecidableEq, Repr

/-- The attributes that `queue create` and `queue set` name (R996): `ack` 1 HELD, 2 PAIRED, 3 SET. -/
structure QueueAttrs where
  depth : Option Nat
  ack : Option Nat
  baste : Option Bool
  deriving DecidableEq, Repr

/-- The share values that `cache set` names, in MiB (R1017). -/
structure ShareAttrs where
  cleanMin : Option Nat
  cleanMax : Option Nat
  dirtyMin : Option Nat
  dirtyMax : Option Nat
  deriving DecidableEq, Repr

/-- The settings that `cache cfg` names (R1019): `ahead` in KiB, `window` in MiB. -/
structure CacheAttrs where
  baste : Option Bool
  prefetch : Option Bool
  flushHi : Option Nat
  flushLo : Option Nat
  ahead : Option Nat
  window : Option Nat
  deriving DecidableEq, Repr

/-- TARGET of `peek` and `poke` (R1098): the address that a register's name or a literal address gives, and the least significant bit of the
field where one is named. -/
structure Target where
  addr : Nat
  field : Option Nat
  deriving DecidableEq, Repr

/-- What a LINE item of the primary asks for (R871, R873): the line of Table SEAM-4 as its secondary reads it; `bad` is one that it cannot
execute. -/
inductive TwinCmd where
  | darned
  | pocketCreate (pocket : Nat) (attrs : PocketAttrs)
  | pocketSet (pocket : Nat) (attrs : PocketAttrs)
  | pocketSuspend (pocket : Nat)
  | pocketResume (pocket : Nat)
  | pocketDelete (pocket : Nat)
  | queueCreate (queue pocket : Nat) (attrs : QueueAttrs)
  | queueSet (queue : Nat) (attrs : QueueAttrs)
  | queueDelete (queue : Nat)
  | cacheSet (pocket : Nat) (share : ShareAttrs)
  | cacheCfg (attrs : CacheAttrs)
  | blobAdd (hex : Bytes)
  | keyLoad (slot kind wrap : Nat) (owner : Option Nat)
  | keyErase (slot : Nat)
  | integ (pocket : Nat) (slot : Option Nat)
  | unpair
  | swap
  | bad
  deriving DecidableEq, Repr

/-- The settings that `link cfg` names (R1031): `lease` 0 auto, 1 fixed, 2 plain. -/
structure LinkAttrs where
  maxFrame : Option Nat
  turnFrames : Option Nat
  turnUs : Option Nat
  idleUs : Option Nat
  lease : Option Nat
  fixedM : Option Nat
  deriving DecidableEq, Repr

/-- The settings that `lining cfg` names (R1053): `float` in mV, `ilim` in mA, `esrMax` in 0.1 mΩ, `efix` in 0.1 J, `eta` and `kder` in
thousandths. -/
structure LiningAttrs where
  chg : Option Bool
  float : Option Nat
  ilim : Option Nat
  slotW : Option Nat
  esrMax : Option Nat
  eta : Option Nat
  kder : Option Nat
  efix : Option Nat
  cap : Option Nat
  floorW : Option Nat
  deriving DecidableEq, Repr

/-- The Lining descriptor's fields that `lining desc` names (R1057): `nom` in 10 mF, `esrMax` in 0.1 mΩ, `float` in mV, `ilim` in mA. -/
structure DescAttrs where
  nom : Option Nat
  esrMax : Option Nat
  float : Option Nat
  ilim : Option Nat
  slotW : Option Nat
  deriving DecidableEq, Repr

/-- The settings that `flash cfg` names (R1058). -/
structure MoverAttrs where
  op : Option Nat
  openHost : Option Nat
  gcStart : Option Nat
  gcUrgent : Option Nat
  wlSpread : Option Nat
  deriving DecidableEq, Repr

/-- The settings that `dram cfg` names (R1062): `rateMax` in MT/s. -/
structure DramAttrs where
  rateMax : Option Nat
  spare : Option Bool
  deadline : Option Bool
  close : Option Bool
  idleNs : Option Nat
  guardNs : Option Nat
  act : Option Nat
  share : Option Nat
  deriving DecidableEq, Repr

/-- The settings that `ecc cfg` names (R1065). -/
structure EccAttrs where
  refresh : Option Nat
  retry : Option Nat
  rb : Option Nat
  patrol : Option Bool
  scrub : Option Bool
  z : Option Nat
  growth : Option Nat
  fixedT : Option Nat
  tInit : Option Nat
  warnH : Option Nat
  deriving DecidableEq, Repr

end Sys2Proof
end

