-- ==== Sys2Proof/Syntax.lean ====
section
/-!
DEFINITION. Sys2Proof/Syntax.lean: the commands of the block, one constructor for each row of the opcode table.
A command is what the card's surroundings do to it: an event at a pin, a clock, a frame or a line received, a register
access. What the surroundings decide (a measured value, a received byte, whether a die or a codeword passed) is an operand.
-/
namespace Sys2Proof

/-- The commands (spec/opcode_table.json), in the table's order. -/
inductive Instr where
  /-- SUPPLY_GOOD rising releases the internal power-on reset and starts the start-up ladder (R79). -/
  | supplyGoodRise (us : Nat)
  /-- SUPPLY_GOOD low for 1 µs or more causes a power-on reset, discarding dirty data (R69). -/
  | supplyGoodFall (ns us : Nat)
  /-- Crystal amplitude below the good level for 5 µs holds every domain in power-on reset and restarts the ladder once XTAL_OK returns (R1157). -/
  | crystalLoss (ns us : Nat)
  /-- The crystal is good after 4,096 reference cycles: AON is released, straps are sampled and Lining charge control starts (R79). -/
  | aonRelease (straps : Straps) (cdetHigh : Bool) (us : Nat)
  /-- The core, flash I/O, DDR5 and SerDes PLLs lock and CORECLK runs at 750 MHz (R79). -/
  | pllLock (us : Nat)
  /-- The fuse shadow loads and is CRC-checked; serial, lifecycle, trims and the repair map are applied and the root key is passed to the key vault (R79). -/
  | fuseShadowLoad (ok : Bool) (us : Nat)
  /-- On-chip SRAM is filled with zero data and correct check bits (R509). -/
  | sramFill (repair : Option Nat) (us : Nat)
  /-- Every ECC checker is tested with injected errors before the Tailor cores are released (R527). -/
  | checkerSelfTest (failed : List (Nat × Nat)) (us : Nat)
  /-- T0 and T1 are released at the ROM entry point (R79). -/
  | tailorRelease (rom : List (Nat × (Nat × (Nat × Nat)))) (us : Nat)
  /-- The card sends the Collar banner line at 115,200 baud in typed mode (R80). -/
  | collarBanner (us : Nat)
  /-- Each flash target is reset, identified, checked against Table FLS-3 and switched to its chosen mode (R433). -/
  | dieDiscovery (found : List DieFound) (bad : List (Bool × Nat)) (us : Nat)
  /-- The boot records are read, a blank card is detected, and an unclean shutdown is flagged (R87). -/
  | bootRecordsRead (bad : List (Bool × Nat)) (us : Nat)
  /-- DRAM is restored from the stored training record and verified, or the staging path is selected (R91). -/
  | dramRestore (found : DramFound) (temp : Int) (verified : Bool) (places : List (Nat × Nat)) (us : Nat)
  /-- The newest valid key journal image is loaded and each entry is unwrapped under the root key (R637). -/
  | keyJournalLoad (bad : List (Nat × Nat × Nat)) (lost : List Nat) (us : Nat)
  /-- The Pocket table, queue contexts and map checkpoint index are loaded (R79). -/
  | pocketTableLoad (us : Nat)
  /-- The start-up ladder ends: READY rises and the boot ready notice is raised (R85). -/
  | readyRise (reg : Option Regulator) (us : Nat)
  /-- The AON start-up timer expires before READY: the card retries in RETRAIN form by a warm reset, or enters LIMP with cause STALL (R86). -/
  | startupTimerExpiry (reg : Option Regulator) (us : Nat)
  /-- Full DRAM training completes or fails; on success a new training record is written (R92). -/
  | dramTrainingDone (failedFast failed : List Nat) (ident : Nat) (temp : Int) (delays : List (Nat × Nat)) (us : Nat)
  /-- At a command boundary, the card moves from the staging path to the DRAM path inside a pause of at most 50 µs (R100). -/
  | stagingToDramSwitch (places : List (Nat × Nat)) (us : Nat)
  /-- The unclean-shutdown replay of map deltas completes and SYS_BOOTSTAT.REPLAY clears (R90). -/
  | replayDone (us : Nat)
  /-- The background load of every map segment ends; MAP_RESIDENT is set and the map resident notice is raised (R102). -/
  | mapBackgroundLoadDone (us : Nat)
  /-- The T0 watchdog expires without a kick and causes a warm reset (R108). -/
  | watchdogExpiry (us : Nat)
  /-- A write of 1 to SYS_WDOG.KICK restarts the watchdog count (R108). -/
  | sysWdogKick (value us : Nat)
  /-- SYS_RSTCTL.KIND = 1 with the key starts a cold reset with flush (R104). -/
  | sysRstctlCold (key : Nat) (p1 : Bool) (us : Nat)
  /-- SYS_RSTCTL.KIND = 2 with the key starts a warm reset with flush (R104). -/
  | sysRstctlWarm (key : Nat) (p1 : Bool) (us : Nat)
  /-- SYS_RSTCTL.KIND = 4 with the key restarts T1 by resetting D50 (R103). -/
  | sysRstctlT1Restart (key : Nat) (p1 : Bool) (us : Nat)
  /-- The pre-reset flush and checkpoint end; the domains are reset and the start-up ladder resumes from the reset point (R105). -/
  | resetFlushDone (straps : Straps) (cdetHigh : Bool) (us : Nat)
  /-- A write to SYS_COLCFG.BAUD_DIV changes the Collar speed at the next character boundary (R125). -/
  | sysColcfgBaudWrite (div : Nat)
  /-- A character arrives on COL_RXD: it is echoed, edited or discarded by mode, and a parity or framing error marks its line (R152). -/
  | collarCharacter (c : Nat) (parity framing : Bool) (us : Nat)
  /-- A complete line that cannot be trusted is discarded and answered RP with its reason (R166). -/
  | lineDiscard (path : Path) (line : RawLine)
  /-- COL_RXD held low for 100 ms: the Collar session returns to defaults and the banner and queued notices are sent (R133). -/
  | collarBreak (ended : Bool) (left : Nat)
  /-- Two character times after the reply to line speed=, the Collar switches to the new speed (R137). -/
  | lineSpeedSwitch
  /-- A partial strict line receives no character for 1 s and is discarded with RP idle (R152). -/
  | strictIdleTimeout
  /-- A typed partial line idle for 5 s lets queued notices out, then the prompt and partial line are reprinted (R163). -/
  | typedNoticeRelease
  /-- When a path becomes idle, the card sends its queued notices (R162). -/
  | noticeSend (path : Path)
  /-- A line consisting only of = resends the stored last reply byte for byte (R169). -/
  | resendRequest (path : Path) (parity framing : Bool) (rx : FrameRx)
  /-- 60 s after the reply that issued it, a SERVICE challenge ceases to be valid (R183). -/
  | challengeExpiry (path : Path)
  /-- 10 s after a wrong response, challenge requests are no longer answered BZ (R185). -/
  | challengeLockoutEnd
  /-- After 15 minutes without a line, SERVICE returns to the path's starting role with a role expired notice (R186). -/
  | serviceIdleExpiry (path : Path)
  /-- The work of a long command ends and the job done notice reports its status (R161). -/
  | jobDone (num : Nat) (status : Nat)
  /-- SLV_RST_N low for 1 µs: a Sleeve reset idles the lanes, keeps accepted submissions and ends incomplete transfers with DOMAIN_RESET (R219). -/
  | slvRstNFall (ns : Nat)
  /-- SLV_RST_N rises and the card sends GRT once READY is also high (R83). -/
  | slvRstNRise (us : Nat)
  /-- No valid SEL within 200 µs of the GRT's TURN, so the card sends GRT again (R230). -/
  | grtRepeat
  /-- A valid SEL arrives; the card fixes the mode in force and sends CNF twice, establishing S0 (R232). -/
  | selReceive (payload : Bytes) (crcOk : Bool) (errs : Nat)
  /-- 1 ms after a refused version or a floor training failure, the card sends a new GRT with REASON 4 (R229). -/
  | grtRestart (us : Nat)
  /-- Attempt k begins at S_k: lane domains switch for the mode and the card sends Phase A (R233). -/
  | trainingAttemptStart
  /-- The host's Phase B and training report arrive and the card judges each lane (R236). -/
  | trainingReportReceive (payload : Bytes) (crcOk : Bool) (errs : Nat) (phaseB : List LaneTrain)
  /-- The card sends its PASS or FAIL verdict naming the next mode (R238). -/
  | trainingVerdict
  /-- No host preamble within 50 µs of a PASS verdict, so the attempt counts as failed (R242). -/
  | passPreambleTimeout
  /-- The host's first data-phase preamble arrives and the card raises the sleeve up notice (R244). -/
  | dataPhaseEntry (us : Nat)
  /-- A turn carrying the LNK RETRAIN frame is received and a retrain starts (R292). -/
  | lnkRetrainReceive (rx : SlvRx) (subtype arg : Nat)
  /-- 50 to 100 µs after the turn carrying the retrain frame, the card sends its first GRT (R246). -/
  | retrainGrt (us : Nat)
  /-- With clock stop in force and nothing to send for IDLE_HOLD_US, the card sends STOP and idles its lanes (R248). -/
  | clockStopSend
  /-- On STOP, the card switches D17 to D26 off and arms the AON squelch detector on L0 (R249). -/
  | clockStopReceive (lanes : List Nat)
  /-- A host wake burst on L0 wakes the lane domains and the card replies with its own burst (R251). -/
  | hostWakeBurst (us : Nat)
  /-- The card has an item to send on a stopped link and sends a wake burst (R251). -/
  | cardWakeBurst
  /-- No host preamble within 150 µs of the card's burst: the card sends another, and after three it negotiates with REASON 5 (R253). -/
  | wakeBurstRetry (us : Nat)
  /-- A lane's internal loopback check ends, and the lane moves to SHADOW or back to OFF (R254). -/
  | laneLoopbackDone (lane : Nat) (ok : Bool) (us : Nat)
  /-- Every 10 s the card retries a lane it took out of service itself (R255). -/
  | laneRetry (lane : Nat)
  /-- 16 character errors within 1 ms on a lane in use take it out of service and start a retrain with REASON 3 (R254). -/
  | laneErrorThreshold (lane : Nat)
  /-- A CMD frame is received; its submission entries are accepted in order or refused (R274). -/
  | cmdFrameReceive (rx : SlvRx) (queue : Nat) (payload : Bytes) (us : Nat)
  /-- A host DAT frame is received and its write data enters the inbound area (R273). -/
  | datFrameReceive (rx : SlvRx) (type tag queue offset : Nat) (payload : Bytes)
  /-- An ACK acknowledges every item before E and may send the sender back (R283). -/
  | ackReceive (copies : List CtlCopy)
  /-- A REP n makes the sender go back and send item n and every later item again (R290). -/
  | repReceive (copies : List CtlCopy)
  /-- The peer's TURN hands the link to the card (R286). -/
  | turnReceive (lanes : List Nat)
  /-- Every lane the owner drove is idle for 1 µs, so the turn is taken as ended (R289). -/
  | turnIdleInference
  /-- The card opens its turn with preamble, ACK, lease and any REP, then sends repeats and new items (R286). -/
  | cardTurnStart (fit : Nat) (us : Nat)
  /-- An item would be sent for the ninth time, so a retrain with REASON 1 starts (R291). -/
  | repeatLimit
  /-- A write of 1 to SLV_CTL.RETRAIN starts a retrain with REASON 2 (R247). -/
  | slvCtlRetrain
  /-- The arbiter dispatches a READ, which serves cache hits, reads flash for misses and sends DAT frames, basted where allowed (R339). -/
  | read (us : Nat)
  /-- The arbiter dispatches a WRITE, which latches its key, is admitted write-back or through, encrypts and is mirrored (R339). -/
  | write (us : Nat)
  /-- The arbiter dispatches a TRIM, which clears VALID bits and reaches HELD, PAIRED or SET (R343). -/
  | trim (us : Nat)
  /-- The arbiter dispatches a FLUSH, which completes once every covered block is programmed and committed (R413). -/
  | flush (us : Nat)
  /-- The arbiter dispatches a VERIFY, which reads the range and checks codewords and tags (R339). -/
  | verify (us : Nat)
  /-- The arbiter dispatches a COPY, which decrypts the source and encrypts it for the destination (R339). -/
  | copy (us : Nat)
  /-- The arbiter dispatches a SEAL, which computes one GMAC over the host data and returns it (R340). -/
  | seal (us : Nat)
  /-- A waiting size reduction applies once the commands beyond the new end have completed (R365). -/
  | pocketSizeReduceApply (pocket : Nat)
  /-- After its commands drain, a deleted Pocket's last minute closes and its queues and number return to FREE (R319). -/
  | pocketDeleteFinish (pocket : Nat)
  /-- The last completion of a DRAINING queue is sent and the queue becomes FREE (R327). -/
  | queueFree (queue : Nat)
  /-- 50 ms after a tag's last basted frame, recovery is abandoned and the CPL is posted (R378). -/
  | basteCplDeadline (queue tag us : Nat)
  /-- A prefetch read is issued at low priority and its decoded block fills a prefetch line (R387). -/
  | prefetchFill (pocket lba : Nat) (errs : List Nat)
  /-- The mover programs dirty or through Stitches into an open Bolt in background, urgent or targeted mode (R412). -/
  | moverFlush (pocket stitch group idx : Nat) (unc : List Nat) (pad : Bool)
  /-- A flash quad's CHECK ends, and the quad moves to SHADOW or back to OFF (R471). -/
  | quadCheckDone (quad loops : Nat) (same : Bool) (us : Nat)
  /-- Every 60 s the card retries a quad it took out of service itself (R474). -/
  | quadRetry (quad : Nat)
  /-- A FREE Bolt is erased and opened with a new BOLT_SEQ, and SHADOW quads join it (R446). -/
  | boltOpen (group idx use : Nat)
  /-- A word-line program reports its result, and its Stitches reach SET (R443). -/
  | stitchProgramDone (ppa : Nat) (ok : Bool)
  /-- A VICTIM Bolt with no valid Stitch and no outstanding read returns to the free pool (R446). -/
  | boltRelease (group idx : Nat)
  /-- The read of a map row completes and the segment becomes resident, releasing waiting commands (R456). -/
  | mapSegmentReadDone (entry : Nat)
  /-- A DIRTY segment is written to a new map row and its index entry is updated (R458). -/
  | mapSegmentWriteDone (entry fit : Nat)
  /-- 30 s after the last checkpoint, with a segment DIRTY, a checkpoint starts (R460). -/
  | checkpointTimer (us : Nat)
  /-- A checkpoint ends with the checkpoint record written in the boot area (R460). -/
  | checkpointDone (us : Nat)
  /-- With too few FREE Bolts, the mover chooses a victim and copies its valid Stitches (R465). -/
  | gcStart
  /-- The erase-count spread of a group exceeds SPREAD and its least-worn FULL Bolt is taken as a victim (R467). -/
  | wearLevelStart (group : Nat)
  /-- An ECC pool finishes a codeword's syndromes and confirms it, corrects it, or escalates to read-retry (R495). -/
  | codewordDecode (ppa j : Nat) (errs : List Nat) (us : Nat)
  /-- A read-retry step ends, either decoding the failing codewords or moving to the next step or to rebuild (R498). -/
  | retryStepDone (ppa : Nat) (errs : List (Nat × List Nat)) (us : Nat)
  /-- An outer-parity rebuild of a page ends in success or failure (R501). -/
  | rebuildDone (ppa : Nat) (reads : List (Nat × List (List (List Nat)))) (us : Nat)
  /-- A recovery still running 40 ms after the failure was found fails (R504). -/
  | recoveryTimeout (ppa us : Nat)
  /-- A queued Stitch is copied in corrected form and committed by compare and swap (R505). -/
  | relocation
  /-- An uncorrectable SRAM read returns poison and the card acts by Table SDP-1 for the array (R511). -/
  | sramUncorrectable (array domain : Nat) (bits : List Nat) (owner : Owner) (unit : Nat) (closed : Option Nat)
  /-- A request enters a DRAM channel and its colour is checked against the line's tag (R687). -/
  | dramRequest (port addr : Nat) (op : DramOp) (hint : Bool) (owner : Owner) (staging : Bool) (tag evict : LineErrs) (ns : Nat)
  /-- The channel scheduler issues the next request by priority or urgency, guard and row hits (R560). -/
  | dramSchedule (ch ns : Nat)
  /-- A DRAM line read is decoded; up to 4 symbol errors are corrected (R513). -/
  | dramLineRead (ch : Nat) (errs : LineErrs) (stuck : Bool) (holds : Owner) (us : Nat)
  /-- A merge buffer entry held for 2 µs is merged and written to DRAM (R519). -/
  | mergeEntryTimeout (ch line : Nat) (errs : LineErrs) (ns : Nat)
  /-- A due REFab is issued to a rank, ahead of every request (R570). -/
  | dramRefresh (ch rank : Nat)
  /-- Every 32 ms all activate tables are cleared (R571). -/
  | actTableClear
  /-- Under HINT, an open row with no hit for IDLE_NS is closed (R563). -/
  | rowIdleClose (ch rank bank ns : Nat)
  /-- A falling edge of DRn_ALERT_N is counted and raises the dram alert notice (R545). -/
  | dramAlert (ch us : Nat)
  /-- The migration copies the next line of the source rank to the target through the decoder (R574). -/
  | migrationCopyLine (ch : Nat) (errs : LineErrs) (holds : Owner)
  /-- Every line is copied, so the target takes the source's logical rank number (R576). -/
  | migrationDone (ch : Nat)
  /-- A rank retires without a spare: the card flushes, checkpoints and performs a warm reset (R577). -/
  | rankShrink (ch : Nat)
  /-- Every 100 ms or 5 °C change, the DQS oscillator is read and write DQS delays move by a step (R583). -/
  | dqsTrack (ch : Nat) (moves : List Nat)
  /-- A write of DRCn_TPAT.START runs the selected training pattern on an idle channel (R584). -/
  | drcTpatStart (ch rank dir pat : Nat) (got : List Nat)
  /-- A free bulk core takes the oldest waiting block of the next Pocket in turn (R600). -/
  | bulkBlockStart (core : Nat) (raw : Bytes)
  /-- A bulk core finishes encrypting or decrypting a 4 KiB block (R599). -/
  | bulkBlockDone (core : Nat)
  /-- An integrity core recomputes a block's GMAC and compares it with the stored tag (R608). -/
  | gmacVerify (queue tag blk : Nat)
  /-- The nonce counter comes within 2^18 of the limit and a reservation record is written (R614). -/
  | nonceReserve
  /-- The reservation record programs successfully, raising the limit by 2^20 and releasing waiting dispatches (R614). -/
  | nonceReserveDone (ok : Bool)
  /-- No latch holds a RETIRING slot's key, so the slot becomes EMPTY through a journal update (R632). -/
  | keyDrainEnd (slot : Nat)
  /-- 2 ms after RETIRING began, commands still latching the key complete with KEY_RETIRED (R632). -/
  | keyDrainTimeout (slot us : Nat)
  /-- The journal commit page programs successfully, switching the slot and passing the OK point (R635). -/
  | journalCommit (us : Nat)
  /-- A journal update not at its OK point 25 ms after the terminator fails with TIMEOUT (R641). -/
  | journalTimeout (paged : Bool) (us : Nat)
  /-- After an OK point, the next block of the newly inactive copy is erased when room is short (R640). -/
  | journalBlockErase (us : Nat)
  /-- KEY_RBCTL.START with DIR 0 runs one AES block encryption under the named slot (R618). -/
  | keyRbEncrypt (core : Nat) (p1 : Bool) (slot : Nat)
  /-- KEY_RBCTL.START with DIR 1 runs one AES block decryption under the named slot (R618). -/
  | keyRbDecrypt (core : Nat) (p1 : Bool) (slot : Nat)
  /-- A cipher pair's known-answer test ends, and the pair moves to SHADOW or back to OFF (R642). -/
  | cipherPairKat (pair : Nat) (ok : Bool) (us : Nat)
  /-- A refused Tailor access raises PRIV_FAULT, writes a fault record, and restarts T1 or warm-resets for T0 (R668). -/
  | mpuFault (core : Nat) (p1 : Bool) (access addr us : Nat)
  /-- The ROM loads, re-verifies and programs the extension and enters it at P1 (R675). -/
  | extensionStart
  /-- A write of 1 to MPUc_CTL.LOCK locks regions 0 to 7 and EN (R665). -/
  | mpuLock (core writer : Nat) (p1 : Bool)
  /-- TAG_WCTL.START writes VALUE to the tag of LINE, or refuses for cache and inbound lines (R680). -/
  | tagWrite (core value : Nat) (p1 : Bool)
  /-- LIN_V and LIN_I are sampled, updating V_oc, charge regulation, state changes and capacitance windows (R704). -/
  | liningSample (vMv : Nat) (iMa tDc : Int) (headMa us : Nat)
  /-- The 10 ms soft ramp ends and the controller regulates current in CC (R709). -/
  | chargeRampDone (us : Nat)
  /-- The charge current stays below 5 % of I_lim for 1 s in CV, so the converter stops and the bank floats (R709). -/
  | chargeFloatEntry (us : Nat)
  /-- A capacitance or ESR estimate is due, and a probe or step is made (R714). -/
  | estimateRefreshDue (us : Nat)
  /-- The charge target is lowered by 0.5 A for 1 ms and ESR_est is measured across the step (R716). -/
  | esrStep (dvUv diMa us : Nat)
  /-- A probe's 200 mV discharge ends and charging resumes in CC (R715). -/
  | probeDone (us : Nat)
  /-- Every stopping fault has been absent for 10 s, so charging ramps again or the controller goes OFF (R709). -/
  | liningFaultRetry (us : Nat)
  /-- 2 s without 0.1 A while V_oc is below 0.5 V marks the bank ABSENT (R709). -/
  | bankAbsentTimeout (us : Nat)
  /-- ACMP1 crosses V_f + 150 mV in buck, so LIN_EN goes low and the controller enters FAULT (R713). -/
  | linOvervolt (us : Nat)
  /-- ACMP2 reports the bank above the hot limit, so charging stops (R712). -/
  | linHot (us : Nat)
  /-- A sensor reading out of range, or at the range end for 10 ms, is a SENSOR fault (R706). -/
  | sensorFault (us : Nat)
  /-- The current does not follow its target within 50 ms while the converter switches (R1175). -/
  | converterFault (us : Nat)
  /-- A write of LIN_CFG.CHG_EN starts a ramp from OFF or stops charging within 1 ms (R709). -/
  | linCfgChgEn (word : BitVec 32) (p1 : Bool)
  /-- LIN_PROBE.START starts a probe from CV or FLOAT (R715). -/
  | linProbeStart (p1 : Bool)
  /-- Every 1 ms the dirty budget B is computed from the measured Lining (R722). -/
  | budgetRecompute (us : Nat)
  /-- A flush episode ends and gives an e_B sample (R725). -/
  | ebSample (bytes energyUj durUs : Nat)
  /-- When the 10 s notice window ends, a changed through condition is reported (R728). -/
  | throughNotice (us : Nat)
  /-- CDET_N high for 200 ns starts the removal ladder (R735). -/
  | removalTriggerCdet (ns us : Nat)
  /-- ACMP0 crossing below VIN_TRIP starts the removal ladder (R731). -/
  | removalTriggerVin (us : Nat)
  /-- A write of 1 to RMV_CTL.DRILL in BLANK, MAKE or RETURN starts the removal ladder (R732). -/
  | rmvCtlDrill (p1 : Bool) (us : Nat)
  /-- The removal flush ends and the clean checkpoint is written (R735). -/
  | removalFlushDone (us : Nat)
  /-- After the checkpoint, the remaining domains switch off in order and the card is PARKED (R735). -/
  | removalCheckpointDone (us : Nat)
  /-- LIN_V falls below V_MIN, so LIN_EN goes low and the card stops (R740). -/
  | bankExhausted (us : Nat)
  /-- CDET_N goes low during the ladder, setting REINSERT and starting the 100 ms re-arm count (R750). -/
  | cdetNFall (us : Nat)
  /-- PARKED with CDET_N low and VIN above VIN_OK for 100 ms, the card releases isolation (R741). -/
  | rearm (vinUs us : Nat)
  /-- 1 ms after re-arming, a power-on reset of D00 to D50 starts the start-up ladder (R742). -/
  | rearmPowerOn (us : Nat)
  /-- A draining domain drains within its window, is fenced and switched off (R773). -/
  | drainComplete (d : Nat)
  /-- The drain window expires: a wait-mode power-down is refused, and an abort-mode one fences and aborts transfers (R773). -/
  | drainWindowEnd (d refuser us : Nat)
  /-- After a domain's 1 µs reset hold, its SRAM is filled and it enters CHECK (R777). -/
  | resetHoldEnd (d us : Nat)
  /-- A domain's switch-on ramp completes; clamps and reset are released and SRAM is filled (R779). -/
  | domainSwitchOnDone (d : Nat)
  /-- A domain's unit check passes to SHADOW or fails back to OFF (R779). -/
  | domainCheckDone (d : Nat) (ok : Bool) (us : Nat)
  /-- A SHADOW domain reaches its rejoin boundary and enters IN (R1172). -/
  | domainRejoin (d : Nat)
  /-- A fabric request outstanding for 100 ms resets its target domain, or warm-resets the card (R771). -/
  | fabricHang (d us : Nat)
  /-- A fabric reply is acted on only when its epochs match; otherwise it is discarded and counted (R766). -/
  | fabricReply (sentEpoch replyEpoch requester echo : Nat)
  /-- A domain the card took out of service itself is retried at its interval (R782). -/
  | domainRetry (d : Nat)
  /-- PWR_DREQ.START with OP 0 switches the named domain on (R794). -/
  | pwrDreqOn (op d us : Nat)
  /-- PWR_DREQ.START with OP 1 drains and switches the named domain off in the chosen mode (R794). -/
  | pwrDreqOff (d : Nat) (abort : Bool) (us : Nat)
  /-- PWR_DREQ.START with OP 2 resets the named domain (R794). -/
  | pwrDreqReset (d us : Nat)
  /-- With IDLE armed and 64 idle cycles, CORECLK stops to every switched domain (R797). -/
  | coreclkGate
  /-- New work restarts CORECLK within 40 ns (R797). -/
  | coreclkRestart
  /-- The 12 µs pause of a level change is taken and the core PLL relocks (R803). -/
  | levelChangePause (us : Nat)
  /-- The regulator fails to reach a target within 1 ms, so PMBus is marked faulty (R808). -/
  | regulatorTimeout (us : Nat)
  /-- PMB_ALERT_N falls: the card reads STATUS_WORD, raises a notice and clears faults (R808). -/
  | pmbusAlert (status us : Nat)
  /-- The die above the throttle point for 10 ms, and every 100 ms after, lowers the level one step (R805). -/
  | throttleStep (t : Int) (us : Nat)
  /-- The die 10 °C below the throttle point for 1 s returns the card to the configured level (R805). -/
  | throttleRelease (us : Nat)
  /-- After the drains, a power-state entry latches its set and fences and switches its domains off (R811). -/
  | pointOfNoReturn (us endUs : Nat)
  /-- A comparator crosses its threshold, setting CROSS and latching a wake when enabled (R826). -/
  | acmpCrossing (n : Nat) (out : Bool) (us : Nat)
  /-- An ADC channel is converted and checked against its enabled windows (R829). -/
  | adcSample (ch code us : Nat)
  /-- PWR_WTIMER.S seconds after entry, the wake timer latches a wake (R825). -/
  | wakeTimer (us : Nat)
  /-- Leaving NAP, TACK or DORMANT completes and the latched events are replayed (R821). -/
  | stateExitDone (us : Nat)
  /-- At each TACK period boundary, AON samples, tops up the bank, logs retention and passes energy to the Hangtag (R823). -/
  | tackVisit (codes : List Nat) (outs : List Bool) (us : Nat)
  /-- A write of PWR_RETLOG.CLR restarts the retention log (R823). -/
  | pwrRetlogClr
  /-- A monitoring port's receivers achieve comma alignment and lock on a mode (R845). -/
  | seamMonitorLock (port rate : Nat) (two : Bool)
  /-- Within 5 µs of a token's EOF, a monitoring card opens both bypasses and sends JOIN (R847). -/
  | ringInsert (us : Nat)
  /-- No lock for 30 ms, or mismatched monitors for 100 ms, so the card opens both switches and negotiates hops (R848). -/
  | ringFormTimeout (us : Nat)
  /-- A JOIN, or a hop frame from a new partner, resets the hop's numbering and resends unacknowledged items (R849). -/
  | hopJoinReceive (port : Nat) (payload : Bytes)
  /-- A port sends IDENT every 20 µs during negotiation or every 100 µs once up (R854). -/
  | identSend (port : Nat)
  /-- An IDENT naming this card as partner starts attempt 1 (R854). -/
  | identReceive (port : Nat) (payload : Bytes)
  /-- The far end's REPORT for an attempt arrives and may bring the hop up (R855). -/
  | hopReportReceive (port : Nat) (payload : Bytes) (lanes : List LaneTrain)
  /-- A 200 µs hop attempt ends without the hop up and the next mode is taken (R856). -/
  | hopAttemptEnd (port : Nat)
  /-- 1 s after a failed hop, full negotiation restarts (R856). -/
  | hopRetry (port : Nat)
  /-- Loss of alignment or 16 errors in 1 ms restarts full hop negotiation (R857). -/
  | hopError (port : Nat)
  /-- A hop down for 10 ms closes both switches and the card leaves the ring (R852). -/
  | hopDownLeave (port us : Nat)
  /-- A ring frame is accepted, delivered, forwarded or removed, and deduplicated by source record (R860). -/
  | ringFrameReceive (port : Nat) (rx : RxInfo) (frame : RFrame) (us : Nat)
  /-- A hop ACK acknowledges the items before E (R861). -/
  | seamAckReceive (port : Nat) (copies : List (Nat × Nat))
  /-- A hop REP sends the sender back to item n (R861). -/
  | seamRepReceive (port : Nat) (copies : List (Nat × Nat))
  /-- No ACK progress for 20 µs, so the sender goes back to its oldest unacknowledged item (R861). -/
  | seamGoBackTimeout (port : Nat)
  /-- Every 10 ms on its grid, a joined card broadcasts its BEAT (R865). -/
  | beatSend (us : Nat)
  /-- A BEAT arrives; PASS is set and forwarded, the roster and Mantle state are updated (R866). -/
  | beatReceive (port : Nat) (rx : RxInfo) (frame : RFrame) (us : Nat)
  /-- A source's BEAT is missing for 30 ms and it is counted silent (R867). -/
  | beatSilence (slot us : Nat)
  /-- After 30 ms in ELECTING, the highest-ranked candidate becomes the active Mantle (R888). -/
  | mantleElectionTimer (us : Nat)
  /-- The standby sends its first MANTLE BEAT at the next grid point after the Mantle falls silent (R890). -/
  | mantleStandbyTakeover (us : Nat)
  /-- 100 ms after the counter reaches m without a TICK, the card closes minute m − 1 on its own counter (R893). -/
  | localMinuteClose (us : Nat)
  /-- The secondary applies a DATA item in TSEQ order into its cache (R873). -/
  | twinData (tseq lba pocket half : Nat) (integ poison : Bool) (ikey count : Nat) (tag bytes : Bytes)
  /-- The secondary applies a TRIM item to its map (R873). -/
  | twinTrim (tseq lba pocket count : Nat)
  /-- The secondary applies a COPY item (R873). -/
  | twinCopy (tseq src pocket count dst : Nat) (integ : Bool) (dkey ikey : Nat)
  /-- The secondary executes a LINE item under its configuration lock (R873). -/
  | twinLine (tseq : Nat) (cmd : TwinCmd) (us : Nat)
  /-- The secondary applies a DARN item as a DATA item (R873). -/
  | twinDarn (tseq lba pocket half : Nat) (integ poison : Bool) (ikey count : Nat) (tag bytes : Bytes)
  /-- The secondary unmaps a darned range with no data (R873). -/
  | twinUnmap (tseq lba pocket count : Nat)
  /-- The secondary applies the end of a darned region's copy (R884). -/
  | twinRegionEnd (tseq region pocket : Nat)
  /-- The secondary receives HOLD and does not take over for its duration (R882). -/
  | twinHold (tseq ms us : Nat)
  /-- A HOLD's stated duration ends (R882). -/
  | holdExpiry (us : Nat)
  /-- An ACK confirms TWIN items, and writes reach PAIRED (R874). -/
  | twinAck (upTo us : Nat)
  /-- A NAK makes the primary resend once, and a second refusal moves the twinset to LOST (R875). -/
  | twinNak (tseq : Nat)
  /-- A PAIR from a returning partner makes the primary mark regions and resend configuration (R881). -/
  | twinPairItem (durable : Nat) (clean served fresh : Bool) (us : Nat)
  /-- No confirmation for 200 µs, so the primary goes back to the first unconfirmed item (R876). -/
  | twinConfirmTimeout
  /-- No confirmation for 50 ms with items unconfirmed moves the primary to LOST (R878). -/
  | twinLostTimeout (us : Nat)
  /-- A secondary in WAIT from STANDBY takes over once the primary is silent and absent from the roster (R879). -/
  | takeoverAuto (us : Nat)
  /-- The primary copies the next marked region to the secondary as DARN items (R884). -/
  | darnRegion (reads : List (Nat × List (List Nat))) (unc : List Nat)
  /-- A REPLY frame from a member is relayed as a data line of mantle relay (R1090). -/
  | seamReplyReceive (src req : Nat) (last : Bool) (text : String) (us : Nat)
  /-- A member's NOTICE frame is sent on the Mantle's Collar line with the member prefix (R1091). -/
  | seamNoticeReceive (src : Nat) (text : String)
  /-- Every 100 µs the sample energy is measured and shared among Pockets, and busy and cache meters are added (R910). -/
  | htgSample (codeV codeI : Nat) (busy : List (Nat × Nat)) (us : Nat)
  /-- Within 1 s of a close, each CLOSED bucket is broadcast in an HTG frame and becomes SENT (R929). -/
  | bucketBroadcast (us : Nat)
  /-- Every 2 s each SENT bucket is broadcast again until acknowledged (R929). -/
  | bucketRepeat (us : Nat)
  /-- The Mantle or standby stores a received bucket, and the active Mantle acknowledges it (R930). -/
  | htgBucketReceive (src : Nat) (bucket : Bytes)
  /-- A bucket acknowledgement marks the bucket COLLECTED (R930). -/
  | htgBucketAckReceive (pocket gen minute : Nat)
  /-- A write to HTG_PSEL latches a one-cycle snapshot of the named meter (R941). -/
  | htgPselWrite (core meter pocket : Nat)
  /-- A write to HTG_BSEL loads the named bucket into HTG_BUF (R941). -/
  | htgBselWrite (core index pocket : Nat)
  /-- At wafer test, a JTAG test data register moves a BLANK card to MAKE (R944). -/
  | jtagMakeTransition (failed : Option (Nat × Nat))
  /-- Lifecycle bits are programmed and verified, followed by the life notice and a cold reset, or by a TIMEOUT failure (R945). -/
  | lifecycleProgramDone (failed : Option (Nat × Nat))
  /-- A write of BIST_CTL.START from T0 starts a checked swatch run (R956). -/
  | bistCtlStart (sw d : Nat) (t0 : Bool) (us : Nat)
  /-- A swatch run ends with PASS or FAIL and its result is recorded (R961). -/
  | bistRunDone (pass : Bool) (detail us : Nat)
  /-- A swatch run overruns its bound, is aborted with TIMEOUT and its domain is reset (R960). -/
  | bistRunTimeout (detail us : Nat)
  /-- LCS_CTL.START with the key requests a lifecycle transition from T0 (R969). -/
  | lcsCtlStart (key target : Nat) (t0 : Bool)
  /-- hello alone reports the path's role, path and lifecycle (R976). -/
  | hello (ln : Ln) (us : Nat)
  /-- hello role= returns the path to its starting role (R977). -/
  | helloRole (ln : Ln) (role : Role) (us : Nat)
  /-- hello role=service grants SERVICE or issues a challenge in FIELD (R978). -/
  | helloService (ln : Ln) (us : Nat)
  /-- hello role=service response= checks the challenge response and grants SERVICE or refuses (R979). -/
  | helloResponse (ln : Ln) (resp : Bytes) (us : Nat)
  /-- id reports the part, step, code, serial, slot and boot state (R980). -/
  | id (ln : Ln) (us : Nat)
  /-- ver reports the Baleong, ROM and extension versions (R981). -/
  | ver (ln : Ln) (us : Nat)
  /-- help lists every verb with its subcommands (R982). -/
  | help (ln : Ln) (us : Nat)
  /-- help VERB lists each form of the verb with class, roles and keys (R983). -/
  | helpVerb (ln : Ln) (verb : String) (sub : Option String) (us : Nat)
  /-- line alone reports the Collar speed, mode and cts (R986). -/
  | lineShow (ln : Ln) (us : Nat)
  /-- line speed= sets BAUD_DIV for a new Collar speed (R135). -/
  | lineSpeed (ln : Ln) (speed : Nat) (us : Nat)
  /-- line mode= switches the Collar between typed and strict mode (R153). -/
  | lineMode (ln : Ln) (strict : Bool) (us : Nat)
  /-- line cts= sets SYS_COLCFG.CTS_EN (R986). -/
  | lineCts (ln : Ln) (on : Bool) (us : Nat)
  /-- clock show reports the minute counter, second, source and sync (R987). -/
  | clockShow (ln : Ln) (us : Nat)
  /-- clock set sets the AON minute counter and clears UNSYNC, closing minutes when raised (R988). -/
  | clockSet (ln : Ln) (minute sec : Nat) (us : Nat)
  /-- pocket create creates a Pocket from FREE with its attributes and records the configuration (R318). -/
  | pocketCreate (ln : Ln) (pocket : Nat) (attrs : PocketAttrs) (us : Nat)
  /-- pocket set changes Pocket attributes together or not at all (R992). -/
  | pocketSet (ln : Ln) (pocket : Nat) (attrs : PocketAttrs) (us : Nat)
  /-- pocket suspend stops dispatch from an ACTIVE Pocket (R318). -/
  | pocketSuspend (ln : Ln) (pocket : Nat) (us : Nat)
  /-- pocket resume resumes dispatch from a SUSPENDED Pocket (R318). -/
  | pocketResume (ln : Ln) (pocket : Nat) (us : Nat)
  /-- pocket delete runs the deletion steps and replies once keys are destroyed and committed (R995). -/
  | pocketDelete (ln : Ln) (pocket : Nat) (us : Nat)
  /-- pocket show reports one Pocket's attributes (R994). -/
  | pocketShow (ln : Ln) (pocket : Nat) (us : Nat)
  /-- pocket list sends one data line per Pocket that is not FREE (R972). -/
  | pocketList (ln : Ln) (us : Nat)
  /-- queue create opens a FREE queue for a Pocket (R996). -/
  | queueCreate (ln : Ln) (queue pocket : Nat) (attrs : QueueAttrs) (us : Nat)
  /-- queue set changes a queue's depth, acknowledgement level or basting (R996). -/
  | queueSet (ln : Ln) (queue : Nat) (attrs : QueueAttrs) (us : Nat)
  /-- queue delete moves a queue to DRAINING and refuses new submissions (R997). -/
  | queueDelete (ln : Ln) (queue : Nat) (us : Nat)
  /-- queue show reports one queue's state and attributes (R998). -/
  | queueShow (ln : Ln) (queue : Nat) (us : Nat)
  /-- queue list sends up to 256 lines of queues that are not FREE (R999). -/
  | queueList (ln : Ln) (pocket : Option Nat) (frm : Nat) (us : Nat)
  /-- key blob add appends bytes to the path's blob buffer (R1000). -/
  | keyBlobAdd (ln : Ln) (hex : Bytes) (us : Nat)
  /-- key blob clear empties the path's blob buffer (R1000). -/
  | keyBlobClear (ln : Ln) (us : Nat)
  /-- key load wrap= unwraps the blob under a WK slot into the named slot through a journal update (R1004). -/
  | keyLoadWrap (ln : Ln) (slot kind wrap : Nat) (owner : Option Nat) (us : Nat)
  /-- key load plain=yes loads plain material into a WK slot (R1004). -/
  | keyLoadPlain (ln : Ln) (slot kind : Nat) (owner : Option Nat) (us : Nat)
  /-- key gen draws and loads fresh material and returns it wrapped as data lines (R1006). -/
  | keyGen (ln : Ln) (slot kind wrap : Nat) (owner : Option Nat) (us : Nat)
  /-- key erase moves a slot to RETIRING, drains it and empties it (R1008). -/
  | keyErase (ln : Ln) (slot : Nat) (us : Nat)
  /-- key show reports one slot's state, kind, owner, KCV and latches (R1009). -/
  | keyShow (ln : Ln) (slot : Nat) (us : Nat)
  /-- key show clear clears UPDATE_LOST flags through a journal update (R1010). -/
  | keyShowClear (ln : Ln) (slot : Option Nat) (us : Nat)
  /-- key list sends one line per slot that is not EMPTY (R1011). -/
  | keyList (ln : Ln) (owner : Option Nat) (frm : Nat) (us : Nat)
  /-- cipher show reports bulk cores, integrity cores and the nonce counter and limit (R1016). -/
  | cipherShow (ln : Ln) (us : Nat)
  /-- cipher gmac computes a GMAC with one nonce from the card's counter (R1013). -/
  | cipherGmac (ln : Ln) (slot : Nat) (hex : Option Bytes) (us : Nat)
  /-- cipher cmac computes a CMAC tag (R1013). -/
  | cipherCmac (ln : Ln) (slot : Nat) (hex : Option Bytes) (us : Nat)
  /-- cipher enc runs one raw-block encryption (R1014). -/
  | cipherEnc (ln : Ln) (slot : Nat) (hex : Bytes) (us : Nat)
  /-- cipher dec runs one raw-block decryption (R1014). -/
  | cipherDec (ln : Ln) (slot : Nat) (hex : Bytes) (us : Nat)
  /-- cache show reports a Pocket's share or the card-wide cache settings (R1018). -/
  | cacheShow (ln : Ln) (pocket : Option Nat) (us : Nat)
  /-- cache set changes a Pocket's clean and dirty share values (R1017). -/
  | cacheSet (ln : Ln) (pocket : Nat) (share : ShareAttrs) (us : Nat)
  /-- cache cfg sets basting, prefetch, flush marks, ahead and inbound window (R1019). -/
  | cacheCfg (ln : Ln) (attrs : CacheAttrs) (us : Nat)
  /-- map show reports segment, checkpoint and replay state (R1021). -/
  | mapShow (ln : Ln) (us : Nat)
  /-- map lookup resolves an LBA to its map entry, paging the segment in if needed (R1022). -/
  | mapLookup (ln : Ln) (pocket lba : Nat) (us : Nat)
  /-- map checkpoint writes a checkpoint and replies with its duration (R1023). -/
  | mapCheckpoint (ln : Ln) (us : Nat)
  /-- map cfg sets MAP_CFG.DIRTY_CAP (R1024). -/
  | mapCfg (ln : Ln) (dirtyCap : Nat) (us : Nat)
  /-- meter show reports a Pocket's open minute so far (R1025). -/
  | meterShow (ln : Ln) (pocket : Nat) (us : Nat)
  /-- meter read sends a Pocket's buckets as data lines (R1026). -/
  | meterRead (ln : Ln) (pocket : Nat) (index : Option Nat) (us : Nat)
  /-- meter ack marks a named bucket COLLECTED on a card not joined to a ring (R1027). -/
  | meterAck (ln : Ln) (pocket gen minute : Nat) (us : Nat)
  /-- meter cfg sets HTG_CFG.K and HTG_BASE.BASE (R1028). -/
  | meterCfg (ln : Ln) (k base : Option Nat) (us : Nat)
  /-- link show reports the Sleeve state and mode in force (R1029). -/
  | linkShow (ln : Ln) (us : Nat)
  /-- link retrain replies OK and starts a retrain with REASON 2 (R1030). -/
  | linkRetrain (ln : Ln) (us : Nat)
  /-- link cfg sets the SLV frame, turn, idle and lease settings (R1031). -/
  | linkCfg (ln : Ln) (attrs : LinkAttrs) (us : Nat)
  /-- power alone reports state, level, throttle, PMBus and last wake (R1048). -/
  | powerShow (ln : Ln) (us : Nat)
  /-- power state=run disarms IDLE (R1045). -/
  | powerStateRun (ln : Ln) (us : Nat)
  /-- power state=idle arms IDLE (R1045). -/
  | powerStateIdle (ln : Ln) (us : Nat)
  /-- power state=nap checks Table PWS-3 and begins the entry steps for NAP (R811). -/
  | powerStateNap (ln : Ln) (set : Option (List Nat)) (drain : Option Nat) (abort : Bool) (us : Nat)
  /-- power state=tack checks Table PWS-3 and begins the entry steps for TACK (R811). -/
  | powerStateTack (ln : Ln) (drain : Option Nat) (abort : Bool) (us : Nat)
  /-- power state=dormant flushes, checkpoints and begins the entry steps for DORMANT (R811). -/
  | powerStateDormant (ln : Ln) (drain : Option Nat) (abort : Bool) (us : Nat)
  /-- power level= stores the configured level and moves to it (R1046). -/
  | powerLevel (ln : Ln) (level us : Nat)
  /-- power with setting keys writes the NAP set, Tack period and channel, wake timer and wake enables (R1047). -/
  | powerSettings (ln : Ln) (nap : Option (List Nat)) (tackS tch timer : Option Nat) (wakePmbus wakeLining : Option Bool) (us : Nat)
  /-- domain show reports domain state, epoch and permissions (R1052). -/
  | domainShow (ln : Ln) (dom : Option Nat) (us : Nat)
  /-- domain on switches a domain on and replies when its CHECK ends (R1051). -/
  | domainOn (ln : Ln) (dom us : Nat)
  /-- domain off drains and switches a domain off, marking it CMD_OFF (R1050). -/
  | domainOff (ln : Ln) (dom : Nat) (abort : Bool) (drain : Option Nat) (us : Nat)
  /-- lining show reports charge state, measurements, budget and faults (R1054). -/
  | liningShow (ln : Ln) (us : Nat)
  /-- lining cfg writes the LIN configuration fields within their ranges (R1053). -/
  | liningCfg (ln : Ln) (attrs : LiningAttrs) (us : Nat)
  /-- lining probe starts a probe as a job (R1055). -/
  | liningProbe (ln : Ln) (us : Nat)
  /-- lining drill replies and then writes RMV_CTL.DRILL (R1056). -/
  | liningDrill (ln : Ln) (us : Nat)
  /-- lining desc programs Lining descriptor fields in MAKE (R1057). -/
  | liningDesc (ln : Ln) (attrs : DescAttrs) (bad : Option Nat) (us : Nat)
  /-- flash show reports capacity, Bolts, READONLY, GC and wear (R1060). -/
  | flashShow (ln : Ln) (us : Nat)
  /-- flash die reports each target of a channel from the die table (R1061). -/
  | flashDie (ln : Ln) (ch us : Nat)
  /-- flash cfg writes the MOV over-provisioning, open Bolt, GC and wear settings (R1058). -/
  | flashCfg (ln : Ln) (attrs : MoverAttrs) (us : Nat)
  /-- flash format, confirmed by serial, starts erasing every Bolt as a job (R1059). -/
  | flashFormat (ln : Ln) (confirm us : Nat)
  /-- The format fixes U, writes an empty map and clean checkpoint, and ends its job (R1059). -/
  | flashFormatDone (us : Nat)
  /-- dram show reports channels, ranks and carve-outs (R1064). -/
  | dramShow (ln : Ln) (us : Nat)
  /-- dram cfg writes DRC channel settings (R1062). -/
  | dramCfg (ln : Ln) (ch : Option Nat) (attrs : DramAttrs) (us : Nat)
  /-- dram port sets a requester port's target and priority (R1062). -/
  | dramPort (ln : Ln) (port : Nat) (ch targetNs prio : Option Nat) (us : Nat)
  /-- dram masks validates and stores a hash mask set for the next reset (R1063). -/
  | dramMasks (ln : Ln) (cs bg0 bg1 bg2 ba0 ba1 us : Nat)
  /-- ecc show reports ECC settings, injection, self-test, lap times and device marks (R1067). -/
  | eccShow (ln : Ln) (us : Nat)
  /-- ecc group reports a bolt group's next strength and measured rate (R1067). -/
  | eccGroup (ln : Ln) (group us : Nat)
  /-- ecc cfg writes ECC_CFG, ECC_STR and WARN_H (R1065). -/
  | eccCfg (ln : Ln) (attrs : EccAttrs) (us : Nat)
  /-- ecc inject arms one error injection (R1066). -/
  | eccInject (ln : Ln) (target : Nat) (unit bits : Option Nat) (us : Nat)
  /-- A write of ECC_INJ.ARM arms one injection into the target's next write (R528). -/
  | eccInjArm (target unit bits : Nat) (p1 : Bool)
  /-- mpu show reports a core's regions and the extension state (R1072). -/
  | mpuShow (ln : Ln) (core : Option Nat) (us : Nat)
  /-- mpu load empties and assigns the extension image buffer with a length (R1068). -/
  | mpuLoad (ln : Ln) (length us : Nat)
  /-- mpu add appends bytes to the image buffer at the expected offset (R1069). -/
  | mpuAdd (ln : Ln) (off : Nat) (hex : Bytes) (us : Nat)
  /-- mpu admit verifies the image and stores and starts the extension (R1070). -/
  | mpuAdmit (ln : Ln) (slot us : Nat)
  /-- mpu remove halts and removes the extension (R1071). -/
  | mpuRemove (ln : Ln) (us : Nat)
  /-- colour show reports the tag store bases and fault total (R1073). -/
  | colourShow (ln : Ln) (us : Nat)
  /-- colour tag reads one tag through the tag cache (R1074). -/
  | colourTag (ln : Ln) (addr : Nat) (errs : LineErrs) (us : Nat)
  /-- twin show reports role, state and pairing progress (R1084). -/
  | twinShow (ln : Ln) (us : Nat)
  /-- twin pair checks local conditions and holds a pending pairing for 60 s (R1075). -/
  | twinPair (ln : Ln) (slot : Nat) (primary : Bool) (wk : Nat) (second : Bool) (us : Nat)
  /-- Every 250 ms a pending secondary sends twin offer to the named slot (R1076). -/
  | twinOfferSend (us : Nat)
  /-- The would-be primary judges a twin offer and, when it is good, completes the pairing (R1077). -/
  | twinOffer (ln : Ln) (wk kcvNum cap serial us : Nat)
  /-- A pending pairing not completed after 60 s lapses with a notice (R1079). -/
  | twinPairLapse (us : Nat)
  /-- twin unpair sends HOLD and a LINE item that ends the twinset (R1080). -/
  | twinUnpair (ln : Ln) (us : Nat)
  /-- twin swap exchanges primary and secondary roles after confirming every item (R1081). -/
  | twinSwap (ln : Ln) (us : Nat)
  /-- Items not all confirmed 1 s into a swap, so the swap is abandoned with TIMEOUT (R1081). -/
  | twinSwapTimeout (us : Nat)
  /-- twin takeover makes the waiting secondary primary under R879 (R1082). -/
  | twinTakeover (ln : Ln) (us : Nat)
  /-- twin integ names or clears a Pocket's twin integrity slot (R1083). -/
  | twinInteg (ln : Ln) (pocket : Nat) (slot : Option Nat) (us : Nat)
  /-- ring show reports ring membership, Mantle and port states (R1085). -/
  | ringShow (ln : Ln) (us : Nat)
  /-- ring retrain restarts negotiation of the named hops (R1086). -/
  | ringRetrain (ln : Ln) (east west : Bool) (us : Nat)
  /-- ring cfg writes SEAM_CFG, and join=off leaves the ring (R1087). -/
  | ringCfg (ln : Ln) (join : Option Bool) (force : Bool) (rate lanes share : Option Nat) (us : Nat)
  /-- mantle show reports Mantle state, slots, minute and grid (R1088). -/
  | mantleShow (ln : Ln) (us : Nat)
  /-- mantle relay sends a line to a member's MANTLE session and relays its reply (R1089). -/
  | mantleRelay (ln : Ln) (slot : Nat) (text : String) (us : Nat)
  /-- The member's reply has not ended 1.2 s after sending, so the relay ends with TIMEOUT (R1090). -/
  | mantleRelayTimeout (us : Nat)
  /-- mantle read sends stored buckets of a slot and Pocket (R1092). -/
  | mantleRead (ln : Ln) (slot pocket : Nat) (minute : Option Nat) (us : Nat)
  /-- bist run checks and runs one swatch on one domain (R1093). -/
  | bistRun (ln : Ln) (swatch dom us : Nat)
  /-- bist show reports a swatch's last result and counts (R1095). -/
  | bistShow (ln : Ln) (swatch us : Nat)
  /-- bist list sends one line per swatch (R1095). -/
  | bistList (ln : Ln) (us : Nat)
  /-- life show reports the lifecycle state, copies and gates (R1096). -/
  | lifeShow (ln : Ln) (us : Nat)
  /-- life set, confirmed by serial, requests a lifecycle transition (R1097). -/
  | lifeSet (ln : Ln) (target confirm us : Nat)
  /-- peek reads one or more register words or a field, clearing RC fields (R1099). -/
  | peek (ln : Ln) (target : Target) (n : Option Nat) (us : Nat)
  /-- poke writes a register or a field and reads it back (R1100). -/
  | poke (ln : Ln) (target : Target) (value : Nat) (got : List Nat) (us : Nat)
  /-- reset card performs a cold reset with flush (R1102). -/
  | resetCard (ln : Ln) (us : Nat)
  /-- reset warm performs a warm reset with flush (R1102). -/
  | resetWarm (ln : Ln) (us : Nat)
  /-- reset domain resets one domain and replies when its CHECK ends (R1103). -/
  | resetDomain (ln : Ln) (dom us : Nat)
  /-- log show reports the fault record totals (R1104). -/
  | logShow (ln : Ln) (us : Nat)
  /-- log faults sends decoded fault records (R1105). -/
  | logFaults (ln : Ln) (frm count : Option Nat) (us : Nat)
  /-- A write to a register with no row of its own acts on its fields by their access types (R20), with the other core's write of the same
  cycle (R1127). -/
  | registerWrite (core addr bytes : Nat) (p1 : Bool) (epoch : Nat) (word : BitVec 32) (other : Option (BitVec 32)) (got : List Nat) (us : Nat)
  /-- A read of a register holding RC fields returns them and clears them to their reset values (R22). -/
  | registerReadClear (core addr bytes : Nat) (p1 : Bool) (epoch us : Nat)
  /-- A trusted line whose verb or subcommand is unknown is answered ER BAD_VERB (R147). -/
  | unknownCommandLine (ln : Ln)
  /-- With CTS_EN at 1, COL_CTS_N going low lets the card start its next waiting character, and going high holds it back (R129). -/
  | colCtsNChange (high : Bool) (left : Nat)
  /-- On a channel with no other read queued, the flash patrol issues its next page read, Bolt by Bolt in BOLT_SEQ order (R525). -/
  | flashPatrolRead (us : Nat)
  /-- A patrol lap lasting longer than ECC_FPATROL.WARN_H raises the flash patrol slow notice once per lap (R526). -/
  | patrolSlow (us : Nat)
  /-- A card that joined and has seen no MANTLE BEAT for 30 ms moves from NONE to ELECTING, and any card's BEAT then serves as the token (R888). -/
  | joinNoMantleTimeout (us : Nat)
  /-- A MEMBER that has waited 20 ms past the Mantle's silence without the standby's MANTLE BEAT enters ELECTING (R888). -/
  | standbyBeatWaitExpiry (us : Nat)
  /-- A monitoring Seam port's receivers lose comma alignment, so the port is no longer locked and insertion conditions change (R845). -/
  | seamMonitorLockLoss (port : Nat)
  /-- XTAL_OK becomes good again after a crystal loss, and the start-up ladder restarts with that moment standing for SUPPLY_GOOD rising (R1157). -/
  | crystalRecovery (us : Nat)
  /-- A flash erase reports its result; a failed position becomes absent and its block is retired, and once all positions are done the Bolt is OPEN (R446). -/
  | blockEraseDone (group idx ch : Nat) (ok : Bool)
  /-- An instruction shifted into the JTAG TAP acts according to the lifecycle gate, or as BYPASS (R950). -/
  | jtagInstruction (instr : JtagInstr)
  deriving DecidableEq, Repr

end Sys2Proof
end

