-- ==== Sys2Proof/Machine/Crypto.lean ====
section
/-!
DEFINITION. Sys2Proof/Machine/Crypto.lean: the standard algorithms that the spec names: AES-128 and AES-256 (FIPS 197),
XTS-AES (IEEE 1619, R597 to R604), GMAC and its GHASH (R605, R612), CMAC, the AES key wrap of RFC 3394 (R624 to R626)
and CRC-32C. Bytes are natural numbers below 256 inside; the wrappers take and give `Bytes`.
-/
namespace Sys2Proof.Machine
open Sys2Proof

/-- The AES substitution box, entry i in bits [8i+7:8i]. -/
def sboxNat : Nat := 0x16BB54B00F2D99416842E6BF0D89A18CDF2855CEE9871E9B948ED9691198F8E19E1DC186B95735610EF6034866B53E708A8BBD4B1F74DDE8C6B4A61C2E2578BA08AE7A65EAF4566CA94ED58D6D37C8E779E4959162ACD3C25C2406490A3A32E0DB0B5EDE14B8EE4688902A22DC4F816073195D643D7EA7C41744975FEC130CCDD2F3FF1021DAB6BCF5389D928F40A351A89F3C507F02F94585334D43FBAAEFD0CF584C4A39BECB6A5BB1FC20ED00D153842FE329B3D63B52A05A6E1B1A2C830975B227EBE28012079A059618C323C7041531D871F1E5A534CCF73F362693FDB7C072A49CAFA2D4ADF04759FA7DC982CA76ABD7FE2B670130C56F6BF27B777C63

/-- The inverse substitution box. -/
def invSboxNat : Nat := 0x7D0C2155631469E126D677BA7E042B17619953833CBBEBC8B0F52AAE4D3BE0A0EF9CC9939F7AE52D0D4AB519A97F51605FEC8027591012B131C7078833A8DD1FF45ACD78FEC0DB9A2079D2C64B3E56FC1BBE18AA0E62B76F89C5291D711AF1476EDF751CE837F9E28535ADE72274AC9673E6B4F0CECFF297EADC674F4111913A6B8A130103BDAFC1020F3FCA8F1E2CD00645B3B80558E4F70AD3BC8C00ABD890849D8DA75746155EDAB9EDFD5048706C92B6655DCC5CA4D41698688664F6F87225D18B6D49A25B76B224D92866A12E084EC3FA420B954CEE3D23C2A632947B54CBE9DEC444438E3487FF2F9B8239E37CFBD7F3819EA340BF38A53630D56A0952

def subByte (b : Nat) : Nat := (sboxNat >>> (8 * b)) % 256
def invSubByte (b : Nat) : Nat := (invSboxNat >>> (8 * b)) % 256

/-- Multiplication by x in GF(2^8). -/
def xtime (a : Nat) : Nat := if 128 ≤ a then (2 * a) % 256 ^^^ 0x1B else 2 * a

/-- Multiplication in GF(2^8) by a constant below 16. -/
def gmul (c a : Nat) : Nat :=
  let a2 := xtime a
  let a4 := xtime a2
  let a8 := xtime a4
  (if c % 2 = 1 then a else 0) ^^^ (if c / 2 % 2 = 1 then a2 else 0) ^^^
    (if c / 4 % 2 = 1 then a4 else 0) ^^^ (if c / 8 % 2 = 1 then a8 else 0)

/-- Bytewise exclusive OR; the longer list is cut. -/
def xorList : List Nat → List Nat → List Nat
  | a :: as, b :: bs => (a ^^^ b) :: xorList as bs
  | _, _ => []

def pick (xs : List Nat) (is : List Nat) : List Nat := is.map (fun i => xs.getD i 0)

def shiftRows (s : List Nat) : List Nat := pick s [0, 5, 10, 15, 4, 9, 14, 3, 8, 13, 2, 7, 12, 1, 6, 11]
def invShiftRows (s : List Nat) : List Nat := pick s [0, 13, 10, 7, 4, 1, 14, 11, 8, 5, 2, 15, 12, 9, 6, 3]

/-- One column times the circulant matrix with first row a b c d. -/
def mixColumn (m : Nat × Nat × Nat × Nat) (x0 x1 x2 x3 : Nat) : List Nat :=
  let (a, b, c, d) := m
  [gmul a x0 ^^^ gmul b x1 ^^^ gmul c x2 ^^^ gmul d x3,
   gmul d x0 ^^^ gmul a x1 ^^^ gmul b x2 ^^^ gmul c x3,
   gmul c x0 ^^^ gmul d x1 ^^^ gmul a x2 ^^^ gmul b x3,
   gmul b x0 ^^^ gmul c x1 ^^^ gmul d x2 ^^^ gmul a x3]

def mixColumns (m : Nat × Nat × Nat × Nat) : List Nat → List Nat
  | a :: b :: c :: d :: r => mixColumn m a b c d ++ mixColumns m r
  | _ => []

/-- The key schedule, newest word first: `i` is the index of the next word, `nk` the key length in words. -/
def expandWords (nk : Nat) : Nat → Nat → Nat → List (List Nat) → List (List Nat)
  | 0, _, _, ws => ws
  | n + 1, i, rcon, ws =>
    let prev := ws.getD 0 []
    let back := ws.getD (nk - 1) []
    let t :=
      if i % nk = 0 then
        xorList ((prev.drop 1 ++ prev.take 1).map subByte) [rcon, 0, 0, 0]
      else if nk = 8 ∧ i % nk = 4 then prev.map subByte
      else prev
    expandWords nk n (i + 1) (if i % nk = 0 then xtime rcon else rcon) (xorList back t :: ws)

def chunk (n : Nat) : Nat → List Nat → List (List Nat)
  | 0, _ => []
  | k + 1, xs => xs.take n :: chunk n k (xs.drop n)

/-- The round keys of a 16-byte or 32-byte key. -/
def roundKeys (key : List Nat) : List (List Nat) :=
  let nk := key.length / 4
  let rounds := nk + 6
  let total := 4 * (rounds + 1)
  let ws := (expandWords nk (total - nk) nk 1 (chunk 4 nk key).reverse).reverse
  chunk 16 (rounds + 1) ws.flatten

def encRounds : List (List Nat) → List Nat → List Nat
  | [], s => s
  | [k], s => xorList (shiftRows (s.map subByte)) k
  | k :: ks, s => encRounds ks (xorList (mixColumns (2, 3, 1, 1) (shiftRows (s.map subByte))) k)

/-- AES encryption of a 16-byte block. -/
def aesEncNat (key blk : List Nat) : List Nat :=
  match roundKeys key with
  | [] => blk
  | k :: ks => encRounds ks (xorList blk k)

def decRounds : List (List Nat) → List Nat → List Nat
  | [], s => s
  | [k], s => xorList ((invShiftRows s).map invSubByte) k
  | k :: ks, s => decRounds ks (mixColumns (14, 11, 13, 9) (xorList ((invShiftRows s).map invSubByte) k))

/-- AES decryption of a 16-byte block. -/
def aesDecNat (key blk : List Nat) : List Nat :=
  match (roundKeys key).reverse with
  | [] => blk
  | k :: ks => decRounds ks (xorList blk k)

def toNats (b : Bytes) : List Nat := b.map BitVec.toNat
def ofNats (b : List Nat) : Bytes := b.map (BitVec.ofNat 8)

/-- AES encryption of a block of bytes. -/
def aesEnc (key blk : Bytes) : Bytes := ofNats (aesEncNat (toNats key) (toNats blk))
/-- AES decryption of a block of bytes. -/
def aesDec (key blk : Bytes) : Bytes := ofNats (aesDecNat (toNats key) (toNats blk))

/-- `n` bytes of a number, least significant first (R14). -/
def leBytes : Nat → Nat → Bytes
  | 0, _ => []
  | n + 1, v => BitVec.ofNat 8 v :: leBytes n (v / 256)

/-- `n` bytes of a number, most significant first. -/
def beBytes (n v : Nat) : Bytes := (leBytes n v).reverse

/-- The number of bytes held least significant first. -/
def leNat : Bytes → Nat
  | [] => 0
  | b :: r => b.toNat + 256 * leNat r

/-- The number of bytes held most significant first. -/
def beNat (b : Bytes) : Nat := leNat b.reverse

/-- Bytes padded with zeros to a length. -/
def padTo (n : Nat) (b : Bytes) : Bytes := b ++ List.replicate (n - b.length) 0

/-- Byte strings cut in blocks of 16, the last one as it is; `k` bounds their number. -/
def blocks16 : Nat → Bytes → List Bytes
  | 0, _ => []
  | k + 1, b => if b.length ≤ 16 then [b] else b.take 16 :: blocks16 k (b.drop 16)

def xorBytes (a b : Bytes) : Bytes := List.zipWith (· ^^^ ·) a b

/-! ### GMAC -/

/-- The GHASH product step: `n` bits of `x` still to take, most significant first. -/
def ghashMulAux : Nat → Nat → Nat → Nat → Nat
  | 0, _, _, z => z
  | n + 1, x, v, z =>
    let z' := if x.testBit n then z ^^^ v else z
    let v' := if v % 2 = 1 then (v / 2) ^^^ 0xE1000000000000000000000000000000 else v / 2
    ghashMulAux n x v' z'

/-- The product of two blocks in GHASH's field. -/
def ghashMul (x h : Nat) : Nat := ghashMulAux 128 x h 0

/-- GHASH over the data blocks of an authenticated string, each padded with zeros, and the length block. -/
def ghash (h : Nat) (aad : Bytes) : Nat :=
  let bs := if aad = [] then [] else (blocks16 (aad.length + 1) aad).map (fun b => beNat (padTo 16 b))
  let y := bs.foldl (fun y x => ghashMul (y ^^^ x) h) 0
  ghashMul (y ^^^ (aad.length * 8 * 2 ^ 64)) h

/-- GMAC with a 12-byte nonce over bytes that are authenticated only (R605, R612): 16 bytes. -/
def gmac (key nonce data : Bytes) : Bytes :=
  let h := beNat (aesEnc key (List.replicate 16 0))
  let s := ghash h data
  xorBytes (beBytes 16 s) (aesEnc key (nonce ++ [0, 0, 0, 1]))

/-! ### CMAC -/

/-- Doubling in CMAC's field. -/
def cmacDbl (n : Nat) : Nat :=
  let d := (2 * n) % 2 ^ 128
  if n.testBit 127 then d ^^^ 0x87 else d

def cmacBlocks (key : Bytes) (k1 k2 : Nat) (x : Bytes) : List Bytes → Bytes
  | [] => x
  | [b] =>
    let m := if b.length = 16 then beNat b ^^^ k1 else beNat (padTo 16 (b ++ [0x80])) ^^^ k2
    aesEnc key (xorBytes x (beBytes 16 m))
  | b :: r => cmacBlocks key k1 k2 (aesEnc key (xorBytes x b)) r

/-- AES-CMAC of a message (16 bytes). -/
def cmac (key msg : Bytes) : Bytes :=
  let l := beNat (aesEnc key (List.replicate 16 0))
  let k1 := cmacDbl l
  let k2 := cmacDbl k1
  cmacBlocks key k1 k2 (List.replicate 16 0) (blocks16 (msg.length + 1) msg)

/-! ### XTS -/

/-- The tweak times x in XTS's field, the tweak as a little-endian number. -/
def xtsNext (t : Nat) : Nat :=
  let d := (2 * t) % 2 ^ 128
  if t.testBit 127 then d ^^^ 0x87 else d

def xtsBlocks (dec : Bool) (key1 : Bytes) : Nat → Nat → Bytes → Bytes
  | 0, _, _ => []
  | n + 1, t, b =>
    let tw := leBytes 16 t
    let x := xorBytes (b.take 16) tw
    let y := if dec then aesDec key1 x else aesEnc key1 x
    xorBytes y tw ++ xtsBlocks dec key1 n (xtsNext t) (b.drop 16)

/-- XTS over one data unit whose length is a multiple of 16: key halves, tweak number, data. -/
def xts (dec : Bool) (key : Bytes) (tweak : Nat) (data : Bytes) : Bytes :=
  let half := key.length / 2
  let t := leNat (aesEnc (key.drop half) (leBytes 16 tweak))
  xtsBlocks dec (key.take half) (data.length / 16) t data

/-! ### Key wrap (RFC 3394) -/

/-- One pass of the wrap over the 8-byte blocks: step number, A, blocks to do, blocks done in reverse. -/
def wrapPass (kek : Bytes) : Nat → Nat → List Bytes → List Bytes → Nat × List Bytes
  | _, a, [], out => (a, out.reverse)
  | t, a, r :: rs, out =>
    let b := aesEnc kek (beBytes 8 a ++ r)
    wrapPass kek (t + 1) ((beNat (b.take 8)) ^^^ t) rs (b.drop 8 :: out)

def wrapPasses (kek : Bytes) (n : Nat) : Nat → Nat → Nat → List Bytes → Nat × List Bytes
  | 0, _, a, rs => (a, rs)
  | k + 1, j, a, rs =>
    let (a', rs') := wrapPass kek (n * j + 1) a rs []
    wrapPasses kek n k (j + 1) a' rs'

def chunk8 : Nat → Bytes → List Bytes
  | 0, _ => []
  | k + 1, b => b.take 8 :: chunk8 k (b.drop 8)

/-- Key material wrapped under a key-encrypting key with an initial value: 8 bytes longer than the material. -/
def keyWrap (kek : Bytes) (iv : Nat) (material : Bytes) : Bytes :=
  let n := material.length / 8
  let (a, rs) := wrapPasses kek n 6 0 iv (chunk8 n material)
  beBytes 8 a ++ rs.flatten

/-- One pass of the unwrap, over the blocks last first. -/
def unwrapPass (kek : Bytes) : Nat → Nat → List Bytes → List Bytes → Nat × List Bytes
  | _, a, [], out => (a, out)
  | t, a, r :: rs, out =>
    let b := aesDec kek (beBytes 8 (a ^^^ t) ++ r)
    unwrapPass kek (t - 1) (beNat (b.take 8)) rs (b.drop 8 :: out)

def unwrapPasses (kek : Bytes) (n : Nat) : Nat → Nat → List Bytes → Nat × List Bytes
  | 0, a, rs => (a, rs)
  | k + 1, a, rs =>
    let (a', rs') := unwrapPass kek (n * (k + 1)) a rs.reverse []
    unwrapPasses kek n k a' rs'

/-- The initial value and the material a wrapped blob holds. -/
def keyUnwrap (kek blob : Bytes) : Nat × Bytes :=
  let n := blob.length / 8 - 1
  let (a, rs) := unwrapPasses kek n 6 (beNat (blob.take 8)) (chunk8 n (blob.drop 8))
  (a, rs.flatten)

/-! ### CRC-32C -/

def crc32Bit (r : Nat) : Nat := if r % 2 = 1 then (r / 2) ^^^ 0x82F63B78 else r / 2

def crc32Bits : Nat → Nat → Nat
  | 0, r => r
  | n + 1, r => crc32Bits n (crc32Bit r)

/-- CRC-32C of a byte string. -/
def crc32c (b : Bytes) : Nat := (b.foldl (fun r x => crc32Bits 8 (r ^^^ x.toNat)) 0xFFFFFFFF) ^^^ 0xFFFFFFFF

end Sys2Proof.Machine
end

