-- ==== Sys2Proof/Machine/Bch.lean ====
section
/-!
DEFINITION. Sys2Proof/Machine/Bch.lean: the code of flash codewords (R484 to R487, R495, R497): GF(2^16), minimal polynomials, the
generator, parity, and what a decoder of strength t finds in received bytes. A polynomial over GF(2) is the number whose bit i is the
coefficient of x^i.
-/
namespace Sys2Proof.Machine
open Sys2Proof

/-! ### Polynomials over GF(2), and GF(2^16) -/

/-- The product of two polynomials, the second of at most `n` coefficients. -/
def polyMul (a b n : Nat) : Nat := (List.range n).foldl (fun acc i => if b.testBit i then acc ^^^ (a <<< i) else acc) 0

/-- The degree of a polynomial, 0 for the constants. -/
def polyDeg (a : Nat) : Nat := Nat.log2 a

/-- The remainder of a polynomial of at most `n` coefficients by `g`. -/
def polyMod (g : Nat) : Nat → Nat → Nat
  | 0, a => a
  | n + 1, a => polyMod g n (if polyDeg g ≤ n ∧ a.testBit n then a ^^^ (g <<< (n - polyDeg g)) else a)

/-- The field polynomial x^16 + x^12 + x^3 + x + 1 (R485). -/
def fieldPoly : Nat := 0x1100B

/-- The product of two field elements. -/
def gfMul (a b : Nat) : Nat := polyMod fieldPoly 31 (polyMul a b 16)

/-- The powers of α, the root x of the field polynomial: α^(2^k), for k below 16. -/
def alphaSquares : List Nat := (List.range 15).foldl (fun l _ => l ++ [let a := l.getLastD 0; gfMul a a]) [2]

/-- α^i, for i below 2^16. -/
def alphaPow (i : Nat) : Nat :=
  (List.range 16).foldl (fun acc k => if i.testBit k then gfMul acc (alphaSquares.getD k 1) else acc) 1

/-- The exponents of the conjugates of α^i: i times a power of two, modulo 65,535. -/
def conjugates (i : Nat) : List Nat := ((List.range 16).map (fun k => i * 2 ^ k % 65535)).eraseDups

/-- A polynomial over the field, its coefficients from x^0 up, times (x + r). -/
def timesRoot (p : List Nat) (r : Nat) : List Nat :=
  (List.range (p.length + 1)).map (fun k => (if k = 0 then 0 else p.getD (k - 1) 0) ^^^ gfMul (p.getD k 0) r)

/-- The minimal polynomial of α^i: the product of (x + c) over its conjugates, whose coefficients are 0 and 1. -/
def minPoly (i : Nat) : Nat :=
  (((conjugates i).foldl (fun p e => timesRoot p (alphaPow e)) [1]).zipIdx.map (fun c => if c.1 = 0 then 0 else 2 ^ c.2)).sum

/-- g(x): the least common multiple of the minimal polynomials of α, α^2, …, α^(2t) (R485). Conjugate powers share one. -/
def genPoly (t : Nat) : Nat :=
  let reps := ((List.range (2 * t)).map (fun i => (conjugates (i + 1)).foldl min 65535)).eraseDups
  reps.foldl (fun g i => polyMul g (minPoly i) 17) 1

/-! ### Codewords -/

/-- The 2t parity bytes of a message: the remainder of x^(16t) m(x) by g(x), right-aligned, most significant coefficient first (R486). The
message's byte 0 comes first, and of a byte bit 7. -/
def bchParity (t : Nat) (msg : Bytes) : Bytes :=
  beBytes (2 * t) (polyMod (genPoly t) (8 * msg.length + 16 * t) (beNat msg <<< (16 * t)))

/-- A flash codeword: the data bytes, the metadata bytes, the parity bytes (R484). -/
def bchEncode (t : Nat) (msg : Bytes) : Bytes := msg ++ bchParity t msg

/-- Is the syndrome of received bytes zero: are they a codeword (R495)? -/
def syndromeZero (t : Nat) (raw : Bytes) : Bool := polyMod (genPoly t) (8 * raw.length) (beNat raw) == 0

/-- Bytes with some bits inverted: bit n is bit n mod 8 of byte n div 8. -/
def flipBits (raw : Bytes) (bits : List Nat) : Bytes :=
  bits.foldl (fun r n => match r[n / 8]? with | some b => r.set (n / 8) (b ^^^ BitVec.ofNat 8 (2 ^ (n % 8))) | none => r) raw

/-- The bits that are inverted an odd number of times. -/
def oddBits (bits : List Nat) : List Nat := bits.foldl (fun l n => if l.contains n then l.erase n else n :: l) []

/-- Zero bits of some bytes (R497). -/
def zeroBits (raw : Bytes) : Nat := (raw.map (fun b => ((List.range 8).filter (fun i => !b.getLsbD i)).length)).sum

/-- The sets of `k` positions below `n`. -/
def positionSets : Nat → Nat → List (List Nat)
  | _, 0 => [[]]
  | 0, _ + 1 => []
  | n + 1, k + 1 => positionSets n (k + 1) ++ (positionSets n k).map (fun l => n :: l)

/-- The correction a decoder of strength t makes: at most t bits whose inversion gives a codeword. There is at most one such set, because
the code's distance exceeds 2t. -/
def bchFix (t : Nat) (raw : Bytes) : Option (List Nat) :=
  (List.range (t + 1)).findSome? (fun k => (positionSets (8 * raw.length) k).find? (fun bits => syndromeZero t (flipBits raw bits)))

end Sys2Proof.Machine
end

