-- ==== Sys2Proof/Machine/TypesBase.lean ====
section
/-!
DEFINITION. Sys2Proof/Machine/TypesBase.lean: plain data of the start-up ladder, of resets and of the Baleong sessions
(chapters 02 and 03).
-/
namespace Sys2Proof.Machine
open Sys2Proof

/-- The status codes of Table COL-6 (R193). -/
inductive Status where
  | done | badVerb | badArg | badCheck | lineTooLong | badFrame
  | wrongState | domainOff | domainReset | notReady
  | noQueue | queueFull | noSlot | budget | quota
  | keyEmpty | keyRetired | unwrapFail | colourFault | privFault | lifecycle | role
  | mediaUncorrectable | macMismatch | rankRetired | poison | timeout
  | unpickedEcc | unpickedMac
  | pwrRefused | pwrAborted | drainTimeout
  deriving DecidableEq, Repr

/-- One `key=value` element of a card line. -/
abbrev KV := String × String

/-- A notice `! event key=value …` (Table COL-4). -/
structure Notice where
  event : String
  kv : List KV
  deriving DecidableEq, Repr

/-- The three replies that are stored as the last reply (R155, R170). The free English text of an ER line is left out (R157). -/
inductive Reply where
  | ok (tag : Option String) (data : List (List KV)) (kv : List KV)
  | er (tag : Option String) (st : Status)
  | bz (tag : Option String)
  deriving DecidableEq, Repr

/-- The RP reasons of Table COL-5, in its order (R167). -/
inductive RpReason where
  | parity | framing | char | overrun | idle | long | check
  deriving DecidableEq, Repr

/-- What the card sends on a Baleong path, in order. `strict` says whether the lines carry the ` *XXXX` checksum. -/
inductive CardLine where
  | reply (strict : Bool) (r : Reply)
  | rp (why : RpReason)
  | notice (strict : Bool) (n : Notice)
  | banner (serial : Nat)
  | prompt
  | echo (chars : List Nat)
  deriving DecidableEq, Repr

/-- An outstanding SERVICE challenge: its number and the time of the last character of the reply that issued it (R182, R183). -/
structure Challenge where
  num : Nat
  issuedUs : Nat
  deriving DecidableEq, Repr

/-- What a line whose reply has not been sent yet waits for (R160, R995, R1007, R1051, R1103 and their like). -/
inductive AwaitFor where
  | domainOn (d : Nat)
  | domainOff (d : Nat)
  | domainReset (d : Nat)
  | journal
  | pocketDelete (p : Nat)
  | sizeReduce (p : Nat)
  | powerState (target : Nat)
  | level
  | mapLookup (p lba : Nat)
  | nonce (slot : Nat) (msg : List (BitVec 8))
  | checkpoint
  | relay (req : Nat)
  | swap
  | unpair
  | pairing
  | bist (swatch : Nat)
  | life
  deriving DecidableEq, Repr

/-- A line awaiting its reply: what it waits for, since when (R161). -/
structure Await where
  tag : Option String
  what : AwaitFor
  sinceUs : Nat
  deriving DecidableEq, Repr

/-- A Baleong session of one path (chapter 03, Model). -/
structure Session where
  role : Role
  last : Option (Bool × Reply)
  chal : Option Challenge
  notices : List Notice
  lost : Nat
  blob : Bytes
  await : Option Await
  deriving DecidableEq, Repr

/-- A line of an MGT or Seam path that the card has received and not yet taken up (R173): its tag, whether its arguments are in order, its verb
and subcommand. The row that brought it stands a second time, with the mark `FrameRx.taken`, for the moment at which it is taken up. -/
structure Waited where
  path : Path
  tag : Option String
  bad : Bool
  verb : String
  sub : Option String
  deriving DecidableEq, Repr

/-- A long command running as a job (R161): what it is, and what its end waits for where its line had waited for that. -/
structure Job where
  num : Nat
  path : Path
  what : String
  await : Option AwaitFor
  deriving DecidableEq, Repr

/-- The Collar line and the Baleong sessions (chapter 03). -/
structure Collar where
  collar : Session
  mgt : Session
  seam : List (Nat × Session)
  part : RawLine               -- the partial line
  held : List RawLine          -- complete lines received and not yet processed (R130)
  switchDiv : Option Nat       -- BAUD_DIV waiting for the switch of R137
  ctsHigh : Bool               -- level of COL_CTS_N (R129)
  txHold : List CardLine       -- what the card holds back until COL_CTS_N goes low (R129)
  txCut : Nat                  -- characters of the first of these that have gone already (R129)
  waiting : List Waited        -- lines of MGT and Seam paths that came while the reply before them was owed, oldest first (R173)
  ctsNext : Option Bool        -- CTS_EN as a `line cts=` sets it, from the first character after its reply (R986)
  lockout : Bool               -- the 10 s lockout of R185
  lock : Option Path           -- holder of the configuration lock (R175)
  txLock : Bool                -- the reply of a changing command waits in `txHold`, and the lock with it (R129, R175)
  lastChange : Option (Path × Nat)  -- the last changing command accepted: its path and its moment (R199)
  muted : List (Path × AwaitFor)    -- commands that go on although their reply will not be sent (R133, R191, R201)
  inBreak : Bool               -- COL_RXD has been low for 100 ms (R133, R196)
  t0Lock : Bool                -- the lock is held for a request of T0 through a register (R956, R969)
  jobNext : Nat
  jobs : List Job
  rpLog : List (Path × Status) -- statuses logged for RP lines (R166)
  sent : List (Path × CardLine)
  deriving DecidableEq, Repr

/-- The rows of the start-up ladder, Table BOOT-4. -/
inductive BootRow where
  | release | aon | pll | fuse | sram | check | tailor | banner
  | flash | records | dram | keys | tables | ready
  deriving DecidableEq, Repr

/-- The reset kinds of Table BOOT-22's KIND field. -/
inductive ResetKind where
  | powerOn | cold | warm | sleeve | t1
  deriving DecidableEq, Repr

/-- The boot forms of Table BOOT-3. -/
inductive BootForm where
  | normal | noExt | retrain | factory
  deriving DecidableEq, Repr

/-- A cold or warm reset that flushes first, waiting for its flush to end (R104, R123): its kind and its cause bits in SYS_RSTCAUSE. -/
structure PendingReset where
  kind : ResetKind
  causes : List Nat
  deriving DecidableEq, Repr

/-- Start-up and reset state that no register holds (chapter 02). -/
structure Boot where
  supply : Bool                 -- level of SUPPLY_GOOD
  xtalLost : Bool               -- the crystal was lost and has not come back (R1157)
  running : Bool                -- a start-up ladder runs
  done : List BootRow           -- rows of Table BOOT-4 complete or skipped (R1173)
  kind : ResetKind              -- the reset the ladder follows (R86, R105)
  retry : Bool                  -- the retry in RETRAIN form (R86)
  pending : Option PendingReset
  romErrs : Nat                 -- uncorrectable ROM reads since the last cold or power-on reset (Table SDP-1)
  rootKey : Bool                -- the root key was passed to the key vault and is usable (R79, R114)
  fuseSerial : Nat
  fuseCode : Nat
  ready : Bool                  -- READY pin (R73)
  onUs : Nat                    -- time SYS_REFCNT counts from
  triggerUs : Nat               -- time of the ladder's trigger
  wdogUs : Nat                  -- last kick of the T0 watchdog (R108)
  sleeveHigh : Bool             -- level of SLV_RST_N
  sleeveFell : Bool             -- a Sleeve reset is in force
  deriving DecidableEq, Repr

end Sys2Proof.Machine
end

