-- ==== Sys2Proof/Machine/Render.lean ====
section
/-!
DEFINITION. Sys2Proof/Machine/Render.lean: how the card writes numbers, identifiers and lines (chapters 00, 03, 19:
R15, R145, R148 to R151, R155 to R159, R973, R974), and the CRC-16 of Baleong lines.
-/
namespace Sys2Proof.Machine
open Sys2Proof

/-- One hexadecimal digit in upper case. -/
def hexDigit (n : Nat) : Char :=
  ['0', '1', '2', '3', '4', '5', '6', '7', '8', '9', 'A', 'B', 'C', 'D', 'E', 'F'].getD (n % 16) '0'

/-- `d` hexadecimal digits of `n`, most significant first (R15). -/
def hexChars : Nat → Nat → List Char
  | 0, _ => []
  | d + 1, n => hexChars d (n / 16) ++ [hexDigit n]

/-- Digits with an underscore every four, counted from the right (R4). -/
def groupFours : List Char → List Char
  | [] => []
  | c :: cs => if cs.length % 4 = 0 ∧ cs ≠ [] then c :: '_' :: groupFours cs else c :: groupFours cs

/-- `d` hexadecimal digits with no prefix: a serial, a challenge, a checksum. -/
def hexPlain (d n : Nat) : String := String.ofList (hexChars d n)

/-- A mask or flag word: `0x` and grouped digits (R4, R974). -/
def hex0x (d n : Nat) : String := String.ofList ('0' :: 'x' :: groupFours (hexChars d n))

/-- A register word in a reply, `0x0000_5974`. -/
def hexWord (w : BitVec 32) : String := hex0x 8 w.toNat

/-- A decimal count (R974). -/
def dec (n : Nat) : String := toString n

/-- A signed decimal. -/
def decInt (n : Int) : String := toString n

/-- Decimal digits at a fixed width, leading zeros kept (R145). -/
def decFixed : Nat → Nat → List Char
  | 0, _ => []
  | d + 1, n => decFixed d (n / 10) ++ [hexDigit (n % 10)]

/-- A unit identifier at full width: a prefix and fixed digits (R145). -/
def unitId (prefixChars : List Char) (d n : Nat) : String := String.ofList (prefixChars ++ decFixed d n)

/-- `Snn`, `Pnnn`, `Qnnnn`, `Dnn`, `Cnn`, `SWnn`. -/
def slotId (n : Nat) : String := unitId ['S'] 2 n
def pocketId (n : Nat) : String := unitId ['P'] 3 n
def queueId (n : Nat) : String := unitId ['Q'] 4 n
def domainId (n : Nat) : String := unitId ['D'] 2 n
def channelId (n : Nat) : String := unitId ['C'] 2 n
def swatchId (n : Nat) : String := unitId ['S', 'W'] 2 n
/-- A key slot by its slot code: DK000 to DK511, then WK00 to WK63. -/
def keySlotId (n : Nat) : String := if n < 512 then unitId ['D', 'K'] 3 n else unitId ['W', 'K'] 2 (n - 512)

/-- A value with `f` decimals given as a whole number of its last place (R1170 rounds before this). -/
def decPlaces (f n : Nat) : String :=
  dec (n / 10 ^ f) ++ "." ++ String.ofList (decFixed f (n % 10 ^ f))

/-- Rounding of a duration to the nearest unit, halves upward (R1170). -/
def roundDiv (n d : Nat) : Nat := (2 * n + d) / (2 * d)

/-- A byte string in groups of four digits (R973). -/
def hexBytesAux : List Byte → List Char
  | [] => []
  | [b] => hexChars 2 b.toNat
  | [b, c] => hexChars 2 b.toNat ++ hexChars 2 c.toNat
  | b :: c :: rest => hexChars 2 b.toNat ++ hexChars 2 c.toNat ++ '_' :: hexBytesAux rest
def hexBytes (bs : List Byte) : String := String.ofList (hexBytesAux bs)

/-- `yes` / `no`, `on` / `off`. -/
def yesNo (b : Bool) : String := if b then "yes" else "no"
def onOff (b : Bool) : String := if b then "on" else "off"

/-- Code of a status (Table COL-6). -/
def Status.code : Status → Nat
  | .done => 0x000 | .badVerb => 0x101 | .badArg => 0x102 | .badCheck => 0x103 | .lineTooLong => 0x104
  | .badFrame => 0x105 | .wrongState => 0x201 | .domainOff => 0x202 | .domainReset => 0x203 | .notReady => 0x204
  | .noQueue => 0x301 | .queueFull => 0x302 | .noSlot => 0x303 | .budget => 0x304 | .quota => 0x305
  | .keyEmpty => 0x401 | .keyRetired => 0x402 | .unwrapFail => 0x403 | .colourFault => 0x404 | .privFault => 0x405
  | .lifecycle => 0x406 | .role => 0x407 | .mediaUncorrectable => 0x501 | .macMismatch => 0x502
  | .rankRetired => 0x503 | .poison => 0x504 | .timeout => 0x505 | .unpickedEcc => 0x601 | .unpickedMac => 0x602
  | .pwrRefused => 0x701 | .pwrAborted => 0x702 | .drainTimeout => 0x703

/-- Every status of Table COL-6. -/
def Status.all : List Status :=
  [.done, .badVerb, .badArg, .badCheck, .lineTooLong, .badFrame, .wrongState, .domainOff, .domainReset, .notReady,
   .noQueue, .queueFull, .noSlot, .budget, .quota, .keyEmpty, .keyRetired, .unwrapFail, .colourFault, .privFault,
   .lifecycle, .role, .mediaUncorrectable, .macMismatch, .rankRetired, .poison, .timeout, .unpickedEcc, .unpickedMac,
   .pwrRefused, .pwrAborted, .drainTimeout]

/-- The status with a code, if Table COL-6 has one. -/
def Status.ofCode (n : Nat) : Option Status := Status.all.find? (fun st => st.code == n)

/-- Name of a status (Table COL-6). -/
def Status.name : Status → String
  | .done => "DONE" | .badVerb => "BAD_VERB" | .badArg => "BAD_ARG" | .badCheck => "BAD_CHECK"
  | .lineTooLong => "LINE_TOO_LONG" | .badFrame => "BAD_FRAME" | .wrongState => "WRONG_STATE"
  | .domainOff => "DOMAIN_OFF" | .domainReset => "DOMAIN_RESET" | .notReady => "NOT_READY"
  | .noQueue => "NO_QUEUE" | .queueFull => "QUEUE_FULL" | .noSlot => "NO_SLOT" | .budget => "BUDGET"
  | .quota => "QUOTA" | .keyEmpty => "KEY_EMPTY" | .keyRetired => "KEY_RETIRED" | .unwrapFail => "UNWRAP_FAIL"
  | .colourFault => "COLOUR_FAULT" | .privFault => "PRIV_FAULT" | .lifecycle => "LIFECYCLE" | .role => "ROLE"
  | .mediaUncorrectable => "MEDIA_UNCORRECTABLE" | .macMismatch => "MAC_MISMATCH"
  | .rankRetired => "RANK_RETIRED" | .poison => "POISON" | .timeout => "TIMEOUT"
  | .unpickedEcc => "UNPICKED_ECC" | .unpickedMac => "UNPICKED_MAC" | .pwrRefused => "PWR_REFUSED"
  | .pwrAborted => "PWR_ABORTED" | .drainTimeout => "DRAIN_TIMEOUT"

/-- One bit of the CRC-16/CCITT register shifted out (Table COL-2). -/
def crc16Bit (r : BitVec 16) : BitVec 16 :=
  if r.getLsbD 15 then (r <<< 1) ^^^ 0x1021#16 else r <<< 1

/-- `n` shifts. -/
def crc16Bits : Nat → BitVec 16 → BitVec 16
  | 0, r => r
  | n + 1, r => crc16Bits n (crc16Bit r)

/-- The CRC-16 register after one more byte (R148). -/
def crc16Step (r : BitVec 16) (c : Nat) : BitVec 16 := crc16Bits 8 (r ^^^ (BitVec.ofNat 16 (c % 256) <<< 8))

/-- The checksum of a line's characters (R148, R149). -/
def crc16 (cs : List Nat) : BitVec 16 := cs.foldl crc16Step 0xFFFF#16

/-- The elements of a card line: ` key=value …`, or a bare value where the key is empty. -/
def kvText : List KV → String
  | [] => ""
  | (k, v) :: r => " " ++ (if k = "" then v else k ++ "=" ++ v) ++ kvText r

/-- A tag in a reply, echoed as received (R156). -/
def tagText : Option String → String
  | none => ""
  | some t => " " ++ t

/-- The covered text of each line of a reply, in order: the data lines, then the OK, ER or BZ line (R158, Table COL-4). -/
def Reply.texts : Reply → List String
  | .ok t data kv => data.map (fun d => "+" ++ kvText d) ++ ["OK" ++ tagText t ++ kvText kv]
  | .er t st => ["ER" ++ tagText t ++ " " ++ hex0x 3 st.code ++ " " ++ st.name]
  | .bz t => ["BZ" ++ tagText t]

/-- A line's text kept to the 240 characters that a line may have, with the six of its checksum in strict mode (R159, R194). -/
def cutLine (strict : Bool) (t : String) : String := String.ofList (t.toList.take (if strict then 234 else 240))

/-- A covered text with its checksum, in strict mode (R150, R151, R159). -/
def withCheck (strict : Bool) (t : String) : String :=
  let c := cutLine strict t
  if strict then c ++ " *" ++ hexPlain 4 (crc16 (c.toList.map Char.toNat)).toNat else c

/-- The name of an RP reason (Table COL-5). -/
def RpReason.name : RpReason → String
  | .parity => "parity" | .framing => "framing" | .char => "char" | .overrun => "overrun" | .idle => "idle"
  | .long => "long" | .check => "check"

/-- The status an RP is logged as (Table COL-5). -/
def RpReason.status : RpReason → Status
  | .long => .lineTooLong
  | .check => .badCheck
  | _ => .badFrame

/-- The text lines the card sends for one item, without CR LF (R155, R159, R168; the banner is R80). -/
def CardLine.texts : CardLine → List String
  | .reply s r => r.texts.map (withCheck s)
  | .rp w => ["RP " ++ w.name]
  | .notice s n => [withCheck s ("! " ++ n.event ++ kvText n.kv)]
  | .banner n => ["Eloafort Vionax BX640 B0 Baleong 2.1 serial=" ++ hexPlain 8 n]
  | .prompt => ["bx> "]
  | .echo cs => [String.ofList (cs.map Char.ofNat)]

/-- The characters the card sends for one item on the Collar line: every line ends with CR LF (R159); the prompt and an echo are no lines
(Table COL-3). -/
def CardLine.chars (l : CardLine) : List Nat :=
  let ends : List Nat := match l with | .prompt => [] | .echo _ => [] | _ => [0x0D, 0x0A]
  (l.texts.map (fun t => t.toList.map Char.toNat ++ ends)).flatten

/-- Name of a role in replies and notices (Table COL-7, R978). -/
def roleName : Role → String
  | .operator => "OPERATOR" | .host => "HOST" | .mantle => "MANTLE" | .service => "SERVICE" | .none => "NONE"

end Sys2Proof.Machine
end

