-- ==== Sys2Proof/Config.lean ====
section
/-!
DEFINITION. Sys2Proof/Config.lean: the values the spec leaves open, as constants with no body.
Nothing can evaluate them, so a statement about a machine with one of these values in it holds for every value.
Each is applied to `State.free`, a counter that every use advances (assumption log entry 3).
-/
namespace Sys2Proof.Config

/-- A number drawn from the card's random source: a challenge (R180), an incarnation number (Table SEAM-2). -/
opaque random32 : Nat → BitVec 32

/-- A byte of key material drawn from the random source (R628): the draw's number and the byte's offset. -/
opaque randomByte : Nat → Nat → BitVec 8

/-- The byte a DRAM line that was never written returns (R521): the read's number and the byte's offset. -/
opaque dramPowerUp : Nat → Nat → BitVec 8

/-- The root key, in the fuses (R621): 32 bytes that no command reads. -/
opaque rootKey : Nat → BitVec 8

/-- The image pages that flash holds of a key journal update which power loss or a reset cuts, by the journal's JSEQ before it (R638). -/
opaque cutPages : Nat → Nat

/-- The byte that a miscorrection leaves in a DRAM line (R515, R517): the reading's number and the byte's offset. -/
opaque miscorrected : Nat → Nat → BitVec 8

/-- A bit of a training pattern that the spec names and does not state (Table DRC-8): the MPC read training pattern, a reserved value of PAT, the check
bits under the user pattern. Its PAT, its bit and its beat. -/
opaque trainBit : Nat → Nat → Nat → Bool

/-- The constant a poison line holds (R516), which the spec names and does not state. -/
opaque poisonByte : Nat → BitVec 8

/-- A byte of an on-chip array after a swatch that leaves its contents undefined (Table LCS-4): the draw's number and the offset. -/
opaque sramByte : Nat → Nat → BitVec 8

/-- How a lifecycle bit senses whose programming power loss cut short (R948, R966): the draw's number and the copy. -/
opaque fuseSense : Nat → Nat → BitVec 4

/-- The pages of a boot record and its CRC (R463), whose content's layout the spec does not give: by RSEQ. -/
opaque recordPages : Nat → Nat
opaque recordCrc : Nat → BitVec 32

/-- The revision of the mask ROM (R981): its two numbers. -/
opaque romRevision : Nat × Nat

end Sys2Proof.Config
end

