-- ==== Sys2Proof/Machine/Regs.lean ====
section
/-!
DEFINITION. Sys2Proof/Machine/Regs.lean: the register map of the BX640.
Every register and field of the spec's register tables (Tables BOOT-9 to BOOT-22, PWS-10, PWD-5, LIN-8, LIN-9,
SLVF-6 to SLVF-14, SEAM-9, POC-10 to POC-17, BST-2 to BST-4, CIP-10, CIP-11, ACC-10, ACC-11, HTG-4, SDP-4 to SDP-6,
LCS-6, LCS-7, DRC-10, DRC-11, FLS-12 to FLS-15) at the address of Tables MAP-2 and MAP-3 (R1120, R1125),
with its access type (R20, Table SCP-2) and its reset value (R23).
-/
namespace Sys2Proof.Machine

/-- A register field: the address of its register, the number of its least significant bit, its width (R12, R13). -/
structure Fld where
  addr : Nat
  lsb : Nat
  width : Nat
  deriving DecidableEq, Repr

/-- The access types of Table SCP-2 (R20). -/
inductive Acc where
  | rw | ro | wo | w1c | w1s | rc
  deriving DecidableEq, Repr

/-- One field of a register row: name, least significant bit, width, access type. -/
structure FSpec where
  name : String
  lsb : Nat
  width : Nat
  acc : Acc
  deriving DecidableEq, Repr

/-- A run of registers: base address, stride, count, the name and the reset word of the i-th one, and the fields they share. -/
structure RegRow where
  name : Nat → String
  base : Nat
  stride : Nat
  count : Nat
  rst : Nat → Nat
  fields : List FSpec

/-! SYS_ID -/
def SYS_ID.addr : Nat := 0x40000000
def SYS_ID.PART : Fld := ⟨0x40000000, 16, 16⟩
def SYS_ID.STEP : Fld := ⟨0x40000000, 8, 8⟩
def SYS_ID.CODE : Fld := ⟨0x40000000, 0, 4⟩
/-! SYS_SERIAL -/
def SYS_SERIAL.addr : Nat := 0x40000004
def SYS_SERIAL.SERIAL : Fld := ⟨0x40000004, 0, 32⟩
/-! SYS_STRAP -/
def SYS_STRAP.addr : Nat := 0x40000008
def SYS_STRAP.SLOT_VALID : Fld := ⟨0x40000008, 8, 1⟩
def SYS_STRAP.BOOT_SEL : Fld := ⟨0x40000008, 6, 2⟩
def SYS_STRAP.MANTLE_CAP : Fld := ⟨0x40000008, 5, 1⟩
def SYS_STRAP.SLOT_ID : Fld := ⟨0x40000008, 0, 5⟩
/-! SYS_BOOTSTAT -/
def SYS_BOOTSTAT.addr : Nat := 0x4000000C
def SYS_BOOTSTAT.DRAM_FAIL : Fld := ⟨0x4000000C, 12, 1⟩
def SYS_BOOTSTAT.LIMP : Fld := ⟨0x4000000C, 11, 1⟩
def SYS_BOOTSTAT.REPLAY : Fld := ⟨0x4000000C, 10, 1⟩
def SYS_BOOTSTAT.UNCLEAN : Fld := ⟨0x4000000C, 9, 1⟩
def SYS_BOOTSTAT.FIRST_BOOT : Fld := ⟨0x4000000C, 8, 1⟩
def SYS_BOOTSTAT.STORED_TRAIN : Fld := ⟨0x4000000C, 7, 1⟩
def SYS_BOOTSTAT.MAP_RESIDENT : Fld := ⟨0x4000000C, 6, 1⟩
def SYS_BOOTSTAT.STAGING : Fld := ⟨0x4000000C, 5, 1⟩
def SYS_BOOTSTAT.READY : Fld := ⟨0x4000000C, 4, 1⟩
def SYS_BOOTSTAT.PHASE : Fld := ⟨0x4000000C, 0, 4⟩
/-! SYS_BOOTTIME -/
def SYS_BOOTTIME.addr : Nat := 0x40000010
def SYS_BOOTTIME.READY_US : Fld := ⟨0x40000010, 0, 20⟩
/-! SYS_RSTCAUSE -/
def SYS_RSTCAUSE.addr : Nat := 0x40000014
def SYS_RSTCAUSE.LIFE : Fld := ⟨0x40000014, 12, 1⟩
def SYS_RSTCAUSE.BIST : Fld := ⟨0x40000014, 11, 1⟩
def SYS_RSTCAUSE.SHRINK : Fld := ⟨0x40000014, 10, 1⟩
def SYS_RSTCAUSE.MEMERR : Fld := ⟨0x40000014, 9, 1⟩
def SYS_RSTCAUSE.HANG : Fld := ⟨0x40000014, 8, 1⟩
def SYS_RSTCAUSE.MPU : Fld := ⟨0x40000014, 7, 1⟩
def SYS_RSTCAUSE.T1 : Fld := ⟨0x40000014, 6, 1⟩
def SYS_RSTCAUSE.SLEEVE : Fld := ⟨0x40000014, 5, 1⟩
def SYS_RSTCAUSE.STALL : Fld := ⟨0x40000014, 4, 1⟩
def SYS_RSTCAUSE.WDOG : Fld := ⟨0x40000014, 3, 1⟩
def SYS_RSTCAUSE.WARM_CMD : Fld := ⟨0x40000014, 2, 1⟩
def SYS_RSTCAUSE.COLD_CMD : Fld := ⟨0x40000014, 1, 1⟩
def SYS_RSTCAUSE.POWER_ON : Fld := ⟨0x40000014, 0, 1⟩
/-! SYS_RSTCTL -/
def SYS_RSTCTL.addr : Nat := 0x40000018
def SYS_RSTCTL.KEY : Fld := ⟨0x40000018, 8, 8⟩
def SYS_RSTCTL.KIND : Fld := ⟨0x40000018, 0, 3⟩
/-! SYS_WDOG -/
def SYS_WDOG.addr : Nat := 0x4000001C
def SYS_WDOG.KICK : Fld := ⟨0x4000001C, 31, 1⟩
def SYS_WDOG.EN : Fld := ⟨0x4000001C, 30, 1⟩
def SYS_WDOG.TIMEOUT_MS : Fld := ⟨0x4000001C, 0, 14⟩
/-! SYS_LIMP -/
def SYS_LIMP.addr : Nat := 0x40000020
def SYS_LIMP.UNIT : Fld := ⟨0x40000020, 8, 8⟩
def SYS_LIMP.CAUSE : Fld := ⟨0x40000020, 0, 4⟩
/-! SYS_REFCNT_LO -/
def SYS_REFCNT_LO.addr : Nat := 0x40000024
def SYS_REFCNT_LO.COUNT : Fld := ⟨0x40000024, 0, 32⟩
/-! SYS_REFCNT_HI -/
def SYS_REFCNT_HI.addr : Nat := 0x40000028
def SYS_REFCNT_HI.COUNT : Fld := ⟨0x40000028, 0, 32⟩
/-! SYS_CLKSTAT -/
def SYS_CLKSTAT.addr : Nat := 0x4000002C
def SYS_CLKSTAT.XTAL_OK : Fld := ⟨0x4000002C, 13, 1⟩
def SYS_CLKSTAT.SEAM_LOCK : Fld := ⟨0x4000002C, 12, 1⟩
def SYS_CLKSTAT.SLV_LOCK : Fld := ⟨0x4000002C, 11, 1⟩
def SYS_CLKSTAT.DDR_LOCK : Fld := ⟨0x4000002C, 10, 1⟩
def SYS_CLKSTAT.FIO_LOCK : Fld := ⟨0x4000002C, 9, 1⟩
def SYS_CLKSTAT.CORE_LOCK : Fld := ⟨0x4000002C, 8, 1⟩
def SYS_CLKSTAT.CORE_MULT : Fld := ⟨0x4000002C, 0, 5⟩
/-! SYS_OBS -/
def SYS_OBS.addr : Nat := 0x40000030
def SYS_OBS.SEL : Fld := ⟨0x40000030, 0, 3⟩
/-! SYS_COLCFG -/
def SYS_COLCFG.addr : Nat := 0x40000034
def SYS_COLCFG.STRICT : Fld := ⟨0x40000034, 21, 1⟩
def SYS_COLCFG.CTS_EN : Fld := ⟨0x40000034, 20, 1⟩
def SYS_COLCFG.BAUD_DIV : Fld := ⟨0x40000034, 0, 20⟩
/-! SYS_RSTLAST -/
def SYS_RSTLAST.addr : Nat := 0x40000038
def SYS_RSTLAST.KIND : Fld := ⟨0x40000038, 8, 3⟩
def SYS_RSTLAST.CAUSE : Fld := ⟨0x40000038, 0, 5⟩
/-! SLV_CFG -/
def SLV_CFG.addr : Nat := 0x40040000
def SLV_CFG.MAX_FRAME : Fld := ⟨0x40040000, 0, 13⟩
/-! SLV_TURN -/
def SLV_TURN.addr : Nat := 0x40040004
def SLV_TURN.TURN_MAX_FRAMES : Fld := ⟨0x40040004, 16, 11⟩
def SLV_TURN.TURN_MAX_US : Fld := ⟨0x40040004, 0, 10⟩
/-! SLV_IDLE -/
def SLV_IDLE.addr : Nat := 0x40040008
def SLV_IDLE.IDLE_HOLD_US : Fld := ⟨0x40040008, 0, 14⟩
/-! SLV_LEASE -/
def SLV_LEASE.addr : Nat := 0x4004000C
def SLV_LEASE.MODE : Fld := ⟨0x4004000C, 4, 2⟩
def SLV_LEASE.FIXED_M : Fld := ⟨0x4004000C, 0, 4⟩
/-! SLV_STAT -/
def SLV_STAT.addr : Nat := 0x40040010
def SLV_STAT.STATE : Fld := ⟨0x40040010, 24, 2⟩
def SLV_STAT.LEASE_M : Fld := ⟨0x40040010, 20, 4⟩
def SLV_STAT.OWNER : Fld := ⟨0x40040010, 15, 1⟩
def SLV_STAT.STOP : Fld := ⟨0x40040010, 14, 1⟩
def SLV_STAT.SPLIT : Fld := ⟨0x40040010, 13, 1⟩
def SLV_STAT.GUSSET : Fld := ⟨0x40040010, 12, 1⟩
def SLV_STAT.RATE : Fld := ⟨0x40040010, 8, 3⟩
def SLV_STAT.LANES : Fld := ⟨0x40040010, 0, 8⟩
/-! SLV_SEQ -/
def SLV_SEQ.addr : Nat := 0x4004001C
def SLV_SEQ.TX_ACKED : Fld := ⟨0x4004001C, 16, 12⟩
def SLV_SEQ.RX_EXPECT : Fld := ⟨0x4004001C, 0, 12⟩
/-! SLV_FORCE0 -/
def SLV_FORCE0.addr : Nat := 0x40040014
def SLV_FORCE0.TURN_MAX_US : Fld := ⟨0x40040014, 16, 16⟩
def SLV_FORCE0.TURN_MAX_FRAMES : Fld := ⟨0x40040014, 0, 11⟩
/-! SLV_FORCE1 -/
def SLV_FORCE1.addr : Nat := 0x40040018
def SLV_FORCE1.IDLE_HOLD_US : Fld := ⟨0x40040018, 16, 14⟩
def SLV_FORCE1.MAX_FRAME : Fld := ⟨0x40040018, 0, 13⟩
/-! SLV_LANEERR -/
def SLV_LANEERR.addr (i : Nat) : Nat := 0x40040040 + 4 * i
def SLV_LANEERR.COUNT (i : Nat) : Fld := ⟨0x40040040 + 4 * i, 0, 16⟩
/-! QUE_STAT -/
def QUE_STAT.addr : Nat := 0x40060000
def QUE_STAT.INFLIGHT : Fld := ⟨0x40060000, 16, 12⟩
def QUE_STAT.OPEN : Fld := ⟨0x40060000, 0, 11⟩
/-! QUE_OVERRUN -/
def QUE_OVERRUN.addr : Nat := 0x40060004
def QUE_OVERRUN.COUNT : Fld := ⟨0x40060004, 0, 32⟩
/-! QUE_REFUSE -/
def QUE_REFUSE.addr : Nat := 0x40060008
def QUE_REFUSE.USED : Fld := ⟨0x40060008, 0, 9⟩
/-! POC_AGE -/
def POC_AGE.addr : Nat := 0x40070000
def POC_AGE.AGE_US : Fld := ⟨0x40070000, 0, 14⟩
/-! POC_QUANTUM -/
def POC_QUANTUM.addr : Nat := 0x40070004
def POC_QUANTUM.BLOCKS : Fld := ⟨0x40070004, 0, 7⟩
/-! CCH_CFG -/
def CCH_CFG.addr : Nat := 0x40080000
def CCH_CFG.FLUSH_LO : Fld := ⟨0x40080000, 24, 8⟩
def CCH_CFG.FLUSH_HI : Fld := ⟨0x40080000, 16, 8⟩
def CCH_CFG.PF_AHEAD : Fld := ⟨0x40080000, 8, 4⟩
def CCH_CFG.BASTE_EN : Fld := ⟨0x40080000, 1, 1⟩
def CCH_CFG.PF_EN : Fld := ⟨0x40080000, 0, 1⟩
/-! QUE_QCFG -/
def QUE_QCFG.addr (i : Nat) : Nat := 0x40064000 + 8 * i
def QUE_QCFG.STATE (i : Nat) : Fld := ⟨0x40064000 + 8 * i, 30, 2⟩
def QUE_QCFG.BASTE (i : Nat) : Fld := ⟨0x40064000 + 8 * i, 29, 1⟩
def QUE_QCFG.ACK (i : Nat) : Fld := ⟨0x40064000 + 8 * i, 27, 2⟩
def QUE_QCFG.DEPTH_LOG2 (i : Nat) : Fld := ⟨0x40064000 + 8 * i, 23, 4⟩
def QUE_QCFG.POCKET (i : Nat) : Fld := ⟨0x40064000 + 8 * i, 0, 8⟩
/-! QUE_QSTAT -/
def QUE_QSTAT.addr (i : Nat) : Nat := 0x40064004 + 8 * i
def QUE_QSTAT.TAKEN (i : Nat) : Fld := ⟨0x40064004 + 8 * i, 16, 13⟩
def QUE_QSTAT.WAITING (i : Nat) : Fld := ⟨0x40064004 + 8 * i, 0, 13⟩
/-! POC_PCFG_00 -/
def POC_PCFG_00.addr (i : Nat) : Nat := 0x40071000 + 32 * i
def POC_PCFG_00.STATE (i : Nat) : Fld := ⟨0x40071000 + 32 * i, 30, 2⟩
def POC_PCFG_00.CLASS (i : Nat) : Fld := ⟨0x40071000 + 32 * i, 28, 2⟩
def POC_PCFG_00.WEIGHT (i : Nat) : Fld := ⟨0x40071000 + 32 * i, 16, 7⟩
def POC_PCFG_00.QUEUES (i : Nat) : Fld := ⟨0x40071000 + 32 * i, 0, 11⟩
/-! POC_PCFG_04 -/
def POC_PCFG_04.addr (i : Nat) : Nat := 0x40071004 + 32 * i
def POC_PCFG_04.SIZE_LO (i : Nat) : Fld := ⟨0x40071004 + 32 * i, 0, 32⟩
/-! POC_PCFG_08 -/
def POC_PCFG_08.addr (i : Nat) : Nat := 0x40071008 + 32 * i
def POC_PCFG_08.SIZE_HI (i : Nat) : Fld := ⟨0x40071008 + 32 * i, 0, 2⟩
/-! POC_PCFG_0C -/
def POC_PCFG_0C.addr (i : Nat) : Nat := 0x4007100C + 32 * i
def POC_PCFG_0C.USED_LO (i : Nat) : Fld := ⟨0x4007100C + 32 * i, 0, 32⟩
/-! POC_PCFG_10 -/
def POC_PCFG_10.addr (i : Nat) : Nat := 0x40071010 + 32 * i
def POC_PCFG_10.USED_HI (i : Nat) : Fld := ⟨0x40071010 + 32 * i, 0, 2⟩
/-! POC_PCFG_14 -/
def POC_PCFG_14.addr (i : Nat) : Nat := 0x40071014 + 32 * i
def POC_PCFG_14.LIMIT (i : Nat) : Fld := ⟨0x40071014 + 32 * i, 0, 12⟩
/-! POC_PCFG_18 -/
def POC_PCFG_18.addr (i : Nat) : Nat := 0x40071018 + 32 * i
def POC_PCFG_18.INFLIGHT (i : Nat) : Fld := ⟨0x40071018 + 32 * i, 16, 12⟩
def POC_PCFG_18.CREDIT (i : Nat) : Fld := ⟨0x40071018 + 32 * i, 0, 16⟩
/-! CCH_PSHARE_00 -/
def CCH_PSHARE_00.addr (i : Nat) : Nat := 0x40081000 + 32 * i
def CCH_PSHARE_00.CLEAN_MAX (i : Nat) : Fld := ⟨0x40081000 + 32 * i, 16, 16⟩
def CCH_PSHARE_00.CLEAN_MIN (i : Nat) : Fld := ⟨0x40081000 + 32 * i, 0, 16⟩
/-! CCH_PSHARE_04 -/
def CCH_PSHARE_04.addr (i : Nat) : Nat := 0x40081004 + 32 * i
def CCH_PSHARE_04.DIRTY_MAX (i : Nat) : Fld := ⟨0x40081004 + 32 * i, 16, 16⟩
def CCH_PSHARE_04.DIRTY_MIN (i : Nat) : Fld := ⟨0x40081004 + 32 * i, 0, 16⟩
/-! CCH_PSHARE_08 -/
def CCH_PSHARE_08.addr (i : Nat) : Nat := 0x40081008 + 32 * i
def CCH_PSHARE_08.CLEAN_BLK (i : Nat) : Fld := ⟨0x40081008 + 32 * i, 0, 32⟩
/-! CCH_PSHARE_0C -/
def CCH_PSHARE_0C.addr (i : Nat) : Nat := 0x4008100C + 32 * i
def CCH_PSHARE_0C.DIRTY_BLK (i : Nat) : Fld := ⟨0x4008100C + 32 * i, 0, 32⟩
/-! CCH_PSHARE_10 -/
def CCH_PSHARE_10.addr (i : Nat) : Nat := 0x40081010 + 32 * i
def CCH_PSHARE_10.EMIN_BLK (i : Nat) : Fld := ⟨0x40081010 + 32 * i, 0, 32⟩
/-! CCH_PSHARE_14 -/
def CCH_PSHARE_14.addr (i : Nat) : Nat := 0x40081014 + 32 * i
def CCH_PSHARE_14.PF_BLK (i : Nat) : Fld := ⟨0x40081014 + 32 * i, 0, 32⟩
/-! PWR_STATE -/
def PWR_STATE.addr : Nat := 0x40010000
def PWR_STATE.STATE : Fld := ⟨0x40010000, 29, 3⟩
def PWR_STATE.IDLE_ARM : Fld := ⟨0x40010000, 28, 1⟩
def PWR_STATE.STEP : Fld := ⟨0x40010000, 24, 3⟩
/-! PWR_LEVEL -/
def PWR_LEVEL.addr : Nat := 0x40010004
def PWR_LEVEL.THROTTLED : Fld := ⟨0x40010004, 16, 1⟩
def PWR_LEVEL.AVAIL : Fld := ⟨0x40010004, 8, 4⟩
def PWR_LEVEL.CUR : Fld := ⟨0x40010004, 4, 2⟩
def PWR_LEVEL.CFG : Fld := ⟨0x40010004, 0, 2⟩
/-! PWR_NAPSET0 -/
def PWR_NAPSET0.addr : Nat := 0x40010008
def PWR_NAPSET0.SET : Fld := ⟨0x40010008, 1, 31⟩
/-! PWR_NAPSET1 -/
def PWR_NAPSET1.addr : Nat := 0x4001000C
def PWR_NAPSET1.SET : Fld := ⟨0x4001000C, 0, 19⟩
/-! PWR_TACK -/
def PWR_TACK.addr : Nat := 0x40010010
def PWR_TACK.TCH : Fld := ⟨0x40010010, 16, 4⟩
def PWR_TACK.PERIOD_S : Fld := ⟨0x40010010, 0, 12⟩
/-! PWR_WAKEEN -/
def PWR_WAKEEN.addr : Nat := 0x40010014
def PWR_WAKEEN.PMBUS : Fld := ⟨0x40010014, 1, 1⟩
def PWR_WAKEEN.LINING : Fld := ⟨0x40010014, 0, 1⟩
/-! PWR_WAKESRC -/
def PWR_WAKESRC.addr : Nat := 0x40010018
def PWR_WAKESRC.ABORT : Fld := ⟨0x40010018, 28, 1⟩
def PWR_WAKESRC.LATE : Fld := ⟨0x40010018, 27, 1⟩
def PWR_WAKESRC.FROM : Fld := ⟨0x40010018, 24, 3⟩
def PWR_WAKESRC.DETAIL : Fld := ⟨0x40010018, 8, 8⟩
def PWR_WAKESRC.SRC : Fld := ⟨0x40010018, 0, 4⟩
/-! PWR_WAKETIME -/
def PWR_WAKETIME.addr : Nat := 0x4001001C
def PWR_WAKETIME.T : Fld := ⟨0x4001001C, 0, 32⟩
/-! PWR_PSCNT -/
def PWR_PSCNT.addr : Nat := 0x40010020
def PWR_PSCNT.ENTRIES : Fld := ⟨0x40010020, 16, 16⟩
def PWR_PSCNT.WAKE_ABORTS : Fld := ⟨0x40010020, 0, 16⟩
/-! PWR_VISITS -/
def PWR_VISITS.addr : Nat := 0x40010024
def PWR_VISITS.COUNT : Fld := ⟨0x40010024, 0, 32⟩
/-! PWR_RETLOG -/
def PWR_RETLOG.addr : Nat := 0x40010028
def PWR_RETLOG.CLR : Fld := ⟨0x40010028, 31, 1⟩
def PWR_RETLOG.MAX : Fld := ⟨0x40010028, 16, 12⟩
def PWR_RETLOG.MIN : Fld := ⟨0x40010028, 0, 12⟩
/-! PWR_WTIMER -/
def PWR_WTIMER.addr : Nat := 0x4001002C
def PWR_WTIMER.S : Fld := ⟨0x4001002C, 0, 24⟩
/-! PWR_PMB -/
def PWR_PMB.addr : Nat := 0x40010030
def PWR_PMB.REV : Fld := ⟨0x40010030, 24, 8⟩
def PWR_PMB.OK : Fld := ⟨0x40010030, 17, 1⟩
def PWR_PMB.PEC : Fld := ⟨0x40010030, 16, 1⟩
def PWR_PMB.EXP : Fld := ⟨0x40010030, 8, 5⟩
def PWR_PMB.ADDR : Fld := ⟨0x40010030, 0, 7⟩
/-! PWR_VOUT -/
def PWR_VOUT.addr (i : Nat) : Nat := 0x40010040 + 4 * i
def PWR_VOUT.MV (i : Nat) : Fld := ⟨0x40010040 + 4 * i, 0, 10⟩
/-! PWR_ACMP -/
def PWR_ACMP.addr (i : Nat) : Nat := 0x40010060 + 4 * i
def PWR_ACMP.CROSS (i : Nat) : Fld := ⟨0x40010060 + 4 * i, 25, 1⟩
def PWR_ACMP.OUT (i : Nat) : Fld := ⟨0x40010060 + 4 * i, 24, 1⟩
def PWR_ACMP.WAKE (i : Nat) : Fld := ⟨0x40010060 + 4 * i, 17, 1⟩
def PWR_ACMP.POL (i : Nat) : Fld := ⟨0x40010060 + 4 * i, 16, 1⟩
def PWR_ACMP.HYST (i : Nat) : Fld := ⟨0x40010060 + 4 * i, 12, 2⟩
def PWR_ACMP.THRESH (i : Nat) : Fld := ⟨0x40010060 + 4 * i, 0, 10⟩
/-! PWR_AWIN -/
def PWR_AWIN.addr (i : Nat) : Nat := 0x40010080 + 4 * i
def PWR_AWIN.EN (i : Nat) : Fld := ⟨0x40010080 + 4 * i, 31, 1⟩
def PWR_AWIN.CH (i : Nat) : Fld := ⟨0x40010080 + 4 * i, 24, 4⟩
def PWR_AWIN.HIGH (i : Nat) : Fld := ⟨0x40010080 + 4 * i, 12, 12⟩
def PWR_AWIN.LOW (i : Nat) : Fld := ⟨0x40010080 + 4 * i, 0, 12⟩
/-! PWR_ADC -/
def PWR_ADC.addr (i : Nat) : Nat := 0x400100A0 + 4 * i
def PWR_ADC.CODE (i : Nat) : Fld := ⟨0x400100A0 + 4 * i, 0, 12⟩
/-! PWR_DREQ -/
def PWR_DREQ.addr : Nat := 0x40010100
def PWR_DREQ.START : Fld := ⟨0x40010100, 31, 1⟩
def PWR_DREQ.OP : Fld := ⟨0x40010100, 28, 2⟩
def PWR_DREQ.MODE : Fld := ⟨0x40010100, 24, 1⟩
def PWR_DREQ.DOMAIN : Fld := ⟨0x40010100, 0, 6⟩
/-! PWR_DRES -/
def PWR_DRES.addr : Nat := 0x40010104
def PWR_DRES.BUSY : Fld := ⟨0x40010104, 31, 1⟩
def PWR_DRES.DOMAIN : Fld := ⟨0x40010104, 24, 6⟩
def PWR_DRES.STATUS : Fld := ⟨0x40010104, 0, 16⟩
/-! PWR_DRAIN -/
def PWR_DRAIN.addr : Nat := 0x40010108
def PWR_DRAIN.US : Fld := ⟨0x40010108, 0, 14⟩
/-! PWR_REFUSE -/
def PWR_REFUSE.addr : Nat := 0x4001010C
def PWR_REFUSE.COUNT : Fld := ⟨0x4001010C, 16, 16⟩
def PWR_REFUSE.LAST : Fld := ⟨0x4001010C, 0, 8⟩
/-! PWR_ABORT -/
def PWR_ABORT.addr : Nat := 0x40010110
def PWR_ABORT.ENDED : Fld := ⟨0x40010110, 16, 16⟩
def PWR_ABORT.REISSUED : Fld := ⟨0x40010110, 0, 16⟩
/-! PWR_FENCE -/
def PWR_FENCE.addr : Nat := 0x40010114
def PWR_FENCE.COUNT : Fld := ⟨0x40010114, 0, 32⟩
/-! PWR_LATE -/
def PWR_LATE.addr : Nat := 0x40010118
def PWR_LATE.COUNT : Fld := ⟨0x40010118, 0, 32⟩
/-! PWR_BUSERR -/
def PWR_BUSERR.addr : Nat := 0x4001011C
def PWR_BUSERR.COUNT : Fld := ⟨0x4001011C, 16, 16⟩
def PWR_BUSERR.DOMAIN : Fld := ⟨0x4001011C, 0, 6⟩
/-! PWR_HUNG -/
def PWR_HUNG.addr : Nat := 0x40010120
def PWR_HUNG.COUNT : Fld := ⟨0x40010120, 16, 16⟩
def PWR_HUNG.DOMAIN : Fld := ⟨0x40010120, 0, 6⟩
/-! PWR_DSTAT -/
def PWR_DSTAT.addr (i : Nat) : Nat := 0x40010200 + 4 * i
def PWR_DSTAT.EPOCH (i : Nat) : Fld := ⟨0x40010200 + 4 * i, 24, 8⟩
def PWR_DSTAT.STATE (i : Nat) : Fld := ⟨0x40010200 + 4 * i, 16, 3⟩
def PWR_DSTAT.DRAINING (i : Nat) : Fld := ⟨0x40010200 + 4 * i, 12, 1⟩
def PWR_DSTAT.CMD_OFF (i : Nat) : Fld := ⟨0x40010200 + 4 * i, 11, 1⟩
def PWR_DSTAT.RESETTABLE (i : Nat) : Fld := ⟨0x40010200 + 4 * i, 10, 1⟩
def PWR_DSTAT.OFFABLE (i : Nat) : Fld := ⟨0x40010200 + 4 * i, 9, 1⟩
def PWR_DSTAT.CHECKFAIL (i : Nat) : Fld := ⟨0x40010200 + 4 * i, 0, 8⟩
/-! LIN_CFG -/
def LIN_CFG.addr : Nat := 0x40020000
def LIN_CFG.CHG_EN : Fld := ⟨0x40020000, 31, 1⟩
def LIN_CFG.DEAD : Fld := ⟨0x40020000, 28, 3⟩
def LIN_CFG.FLOAT : Fld := ⟨0x40020000, 16, 10⟩
def LIN_CFG.HYST : Fld := ⟨0x40020000, 12, 2⟩
def LIN_CFG.ILIM : Fld := ⟨0x40020000, 8, 4⟩
def LIN_CFG.SLOT_W : Fld := ⟨0x40020000, 0, 8⟩
/-! LIN_STAT -/
def LIN_STAT.addr : Nat := 0x40020004
def LIN_STAT.THROUGH_ALL : Fld := ⟨0x40020004, 12, 1⟩
def LIN_STAT.DEGRADED : Fld := ⟨0x40020004, 11, 1⟩
def LIN_STAT.ABSENT : Fld := ⟨0x40020004, 10, 1⟩
def LIN_STAT.ESTIMATED : Fld := ⟨0x40020004, 9, 1⟩
def LIN_STAT.CHARGED : Fld := ⟨0x40020004, 8, 1⟩
def LIN_STAT.STATE : Fld := ⟨0x40020004, 0, 3⟩
/-! LIN_VI -/
def LIN_VI.addr : Nat := 0x40020008
def LIN_VI.I_MA : Fld := ⟨0x40020008, 16, 16⟩
def LIN_VI.VOC_MV : Fld := ⟨0x40020008, 0, 16⟩
/-! LIN_TEMP -/
def LIN_TEMP.addr : Nat := 0x4002000C
def LIN_TEMP.T_DC : Fld := ⟨0x4002000C, 0, 16⟩
/-! LIN_CAP -/
def LIN_CAP.addr : Nat := 0x40020010
def LIN_CAP.USE_10MF : Fld := ⟨0x40020010, 16, 16⟩
def LIN_CAP.EST_10MF : Fld := ⟨0x40020010, 0, 16⟩
/-! LIN_ESR -/
def LIN_ESR.addr : Nat := 0x40020014
def LIN_ESR.MAX : Fld := ⟨0x40020014, 16, 16⟩
def LIN_ESR.EST : Fld := ⟨0x40020014, 0, 16⟩
/-! LIN_AGE -/
def LIN_AGE.addr : Nat := 0x40020018
def LIN_AGE.CAP_MIN : Fld := ⟨0x40020018, 16, 16⟩
def LIN_AGE.ESR_MIN : Fld := ⟨0x40020018, 0, 16⟩
/-! LIN_NOM -/
def LIN_NOM.addr : Nat := 0x4002001C
def LIN_NOM.NOM_10MF : Fld := ⟨0x4002001C, 0, 16⟩
/-! LIN_K -/
def LIN_K.addr : Nat := 0x40020020
def LIN_K.ETA : Fld := ⟨0x40020020, 20, 10⟩
def LIN_K.KDER : Fld := ⟨0x40020020, 10, 10⟩
def LIN_K.EFIX : Fld := ⟨0x40020020, 0, 10⟩
/-! LIN_EB -/
def LIN_EB.addr : Nat := 0x40020024
def LIN_EB.SAMPLES : Fld := ⟨0x40020024, 24, 4⟩
def LIN_EB.FLOOR_W : Fld := ⟨0x40020024, 16, 8⟩
def LIN_EB.PJ : Fld := ⟨0x40020024, 0, 16⟩
/-! LIN_BUDGET -/
def LIN_BUDGET.addr : Nat := 0x40020028
def LIN_BUDGET.RAW_MIB : Fld := ⟨0x40020028, 8, 24⟩
def LIN_BUDGET.CAP : Fld := ⟨0x40020028, 0, 5⟩
/-! LIN_ETA -/
def LIN_ETA.addr : Nat := 0x4002002C
def LIN_ETA.CAP_S : Fld := ⟨0x4002002C, 16, 16⟩
def LIN_ETA.FLOAT_S : Fld := ⟨0x4002002C, 0, 16⟩
/-! LIN_FAULT -/
def LIN_FAULT.addr : Nat := 0x40020030
def LIN_FAULT.SLOT_LIMIT : Fld := ⟨0x40020030, 7, 1⟩
def LIN_FAULT.CONVERTER : Fld := ⟨0x40020030, 6, 1⟩
def LIN_FAULT.CAP_LOW : Fld := ⟨0x40020030, 5, 1⟩
def LIN_FAULT.ESR_HIGH : Fld := ⟨0x40020030, 4, 1⟩
def LIN_FAULT.SENSOR : Fld := ⟨0x40020030, 3, 1⟩
def LIN_FAULT.COLD : Fld := ⟨0x40020030, 2, 1⟩
def LIN_FAULT.HOT : Fld := ⟨0x40020030, 1, 1⟩
def LIN_FAULT.OVERVOLT : Fld := ⟨0x40020030, 0, 1⟩
/-! LIN_PROBE -/
def LIN_PROBE.addr : Nat := 0x40020034
def LIN_PROBE.START : Fld := ⟨0x40020034, 31, 1⟩
/-! RMV_CFG -/
def RMV_CFG.addr : Nat := 0x40030000
def RMV_CFG.VIN_EN : Fld := ⟨0x40030000, 31, 1⟩
def RMV_CFG.FLUSH_PL : Fld := ⟨0x40030000, 28, 2⟩
def RMV_CFG.VIN_TRIP : Fld := ⟨0x40030000, 16, 8⟩
def RMV_CFG.VIN_OK : Fld := ⟨0x40030000, 8, 8⟩
def RMV_CFG.HOLD_V : Fld := ⟨0x40030000, 0, 8⟩
/-! RMV_STAT -/
def RMV_STAT.addr : Nat := 0x40030004
def RMV_STAT.SEATED : Fld := ⟨0x40030004, 16, 1⟩
def RMV_STAT.REINSERT : Fld := ⟨0x40030004, 12, 1⟩
def RMV_STAT.CAUSE : Fld := ⟨0x40030004, 8, 3⟩
def RMV_STAT.PHASE : Fld := ⟨0x40030004, 0, 4⟩
/-! RMV_CTL -/
def RMV_CTL.addr : Nat := 0x40030008
def RMV_CTL.DRILL : Fld := ⟨0x40030008, 31, 1⟩
/-! RMV_FLUSHED -/
def RMV_FLUSHED.addr : Nat := 0x4003000C
def RMV_FLUSHED.MIB : Fld := ⟨0x4003000C, 0, 32⟩
/-! RMV_TIME -/
def RMV_TIME.addr : Nat := 0x40030010
def RMV_TIME.FLUSH_MS : Fld := ⟨0x40030010, 16, 16⟩
def RMV_TIME.SINCE_MS : Fld := ⟨0x40030010, 0, 16⟩
/-! RMV_VBANK -/
def RMV_VBANK.addr : Nat := 0x40030014
def RMV_VBANK.END_MV : Fld := ⟨0x40030014, 16, 16⟩
def RMV_VBANK.START_MV : Fld := ⟨0x40030014, 0, 16⟩
/-! SLV_CRCERR -/
def SLV_CRCERR.addr : Nat := 0x40040020
def SLV_CRCERR.COUNT : Fld := ⟨0x40040020, 0, 32⟩
/-! SLV_GUSSETFIX -/
def SLV_GUSSETFIX.addr : Nat := 0x40040024
def SLV_GUSSETFIX.COUNT : Fld := ⟨0x40040024, 0, 32⟩
/-! SLV_REPCNT -/
def SLV_REPCNT.addr : Nat := 0x40040028
def SLV_REPCNT.RX : Fld := ⟨0x40040028, 16, 16⟩
def SLV_REPCNT.TX : Fld := ⟨0x40040028, 0, 16⟩
/-! SLV_RETRAIN -/
def SLV_RETRAIN.addr : Nat := 0x4004002C
def SLV_RETRAIN.LAST_REASON : Fld := ⟨0x4004002C, 16, 4⟩
def SLV_RETRAIN.COUNT : Fld := ⟨0x4004002C, 0, 16⟩
/-! SLV_DISCARD -/
def SLV_DISCARD.addr : Nat := 0x40040030
def SLV_DISCARD.DUP : Fld := ⟨0x40040030, 16, 16⟩
def SLV_DISCARD.UNEXP : Fld := ⟨0x40040030, 0, 16⟩
/-! SLV_CTL -/
def SLV_CTL.addr : Nat := 0x40040034
def SLV_CTL.RETRAIN : Fld := ⟨0x40040034, 0, 1⟩
/-! SEAM_CFG -/
def SEAM_CFG.addr : Nat := 0x40050000
def SEAM_CFG.JOIN : Fld := ⟨0x40050000, 31, 1⟩
def SEAM_CFG.DARN_SHARE : Fld := ⟨0x40050000, 16, 7⟩
def SEAM_CFG.RATE_MAX : Fld := ⟨0x40050000, 8, 2⟩
def SEAM_CFG.ONE_LANE : Fld := ⟨0x40050000, 4, 1⟩
/-! SEAM_STAT -/
def SEAM_STAT.addr : Nat := 0x40050004
def SEAM_STAT.RING : Fld := ⟨0x40050004, 30, 2⟩
def SEAM_STAT.DUPSLOT : Fld := ⟨0x40050004, 28, 1⟩
def SEAM_STAT.MEMBERS : Fld := ⟨0x40050004, 16, 5⟩
def SEAM_STAT.MANTLE : Fld := ⟨0x40050004, 8, 8⟩
def SEAM_STAT.STANDBY : Fld := ⟨0x40050004, 0, 8⟩
/-! SEAM_PORTE -/
def SEAM_PORTE.addr : Nat := 0x40050008
def SEAM_PORTE.BYP_OPEN : Fld := ⟨0x40050008, 31, 1⟩
def SEAM_PORTE.STATE : Fld := ⟨0x40050008, 28, 3⟩
def SEAM_PORTE.RATE : Fld := ⟨0x40050008, 24, 2⟩
def SEAM_PORTE.LANES2 : Fld := ⟨0x40050008, 20, 1⟩
def SEAM_PORTE.PARTNER : Fld := ⟨0x40050008, 8, 8⟩
/-! SEAM_PORTW -/
def SEAM_PORTW.addr : Nat := 0x4005000C
def SEAM_PORTW.BYP_OPEN : Fld := ⟨0x4005000C, 31, 1⟩
def SEAM_PORTW.STATE : Fld := ⟨0x4005000C, 28, 3⟩
def SEAM_PORTW.RATE : Fld := ⟨0x4005000C, 24, 2⟩
def SEAM_PORTW.LANES2 : Fld := ⟨0x4005000C, 20, 1⟩
def SEAM_PORTW.PARTNER : Fld := ⟨0x4005000C, 8, 8⟩
/-! SEAM_PSERE -/
def SEAM_PSERE.addr : Nat := 0x40050010
def SEAM_PSERE.SERIAL : Fld := ⟨0x40050010, 0, 32⟩
/-! SEAM_PSERW -/
def SEAM_PSERW.addr : Nat := 0x40050014
def SEAM_PSERW.SERIAL : Fld := ⟨0x40050014, 0, 32⟩
/-! SEAM_ROSTER -/
def SEAM_ROSTER.addr : Nat := 0x40050018
def SEAM_ROSTER.MASK : Fld := ⟨0x40050018, 0, 24⟩
/-! SEAM_TWIN -/
def SEAM_TWIN.addr : Nat := 0x40050020
def SEAM_TWIN.STATE : Fld := ⟨0x40050020, 28, 4⟩
def SEAM_TWIN.ROLE : Fld := ⟨0x40050020, 24, 1⟩
def SEAM_TWIN.PARTNER : Fld := ⟨0x40050020, 16, 8⟩
def SEAM_TWIN.TWIN_WK : Fld := ⟨0x40050020, 8, 6⟩
/-! SEAM_TSEQ_LO -/
def SEAM_TSEQ_LO.addr : Nat := 0x40050024
def SEAM_TSEQ_LO.TSEQ : Fld := ⟨0x40050024, 0, 32⟩
/-! SEAM_TSEQ_HI -/
def SEAM_TSEQ_HI.addr : Nat := 0x40050028
def SEAM_TSEQ_HI.TSEQ : Fld := ⟨0x40050028, 0, 32⟩
/-! SEAM_TCONF_LO -/
def SEAM_TCONF_LO.addr : Nat := 0x4005002C
def SEAM_TCONF_LO.TSEQ : Fld := ⟨0x4005002C, 0, 32⟩
/-! SEAM_TCONF_HI -/
def SEAM_TCONF_HI.addr : Nat := 0x40050030
def SEAM_TCONF_HI.TSEQ : Fld := ⟨0x40050030, 0, 32⟩
/-! SEAM_DARN -/
def SEAM_DARN.addr : Nat := 0x40050034
def SEAM_DARN.REMAIN : Fld := ⟨0x40050034, 0, 32⟩
/-! SEAM_DARNCNT -/
def SEAM_DARNCNT.addr : Nat := 0x40050038
def SEAM_DARNCNT.RECOPY : Fld := ⟨0x40050038, 16, 16⟩
def SEAM_DARNCNT.NOTAG : Fld := ⟨0x40050038, 0, 16⟩
/-! SEAM_MANTLE -/
def SEAM_MANTLE.addr : Nat := 0x40050040
def SEAM_MANTLE.STATE : Fld := ⟨0x40050040, 29, 3⟩
/-! SEAM_MINUTE -/
def SEAM_MINUTE.addr : Nat := 0x40050044
def SEAM_MINUTE.MINUTE : Fld := ⟨0x40050044, 0, 32⟩
/-! SEAM_GRID -/
def SEAM_GRID.addr : Nat := 0x40050048
def SEAM_GRID.GRID : Fld := ⟨0x40050048, 0, 13⟩
/-! SEAM_BEATMISS -/
def SEAM_BEATMISS.addr : Nat := 0x40050050
def SEAM_BEATMISS.COUNT : Fld := ⟨0x40050050, 0, 32⟩
/-! SEAM_CRCERR -/
def SEAM_CRCERR.addr : Nat := 0x40050060
def SEAM_CRCERR.W : Fld := ⟨0x40050060, 16, 16⟩
def SEAM_CRCERR.E : Fld := ⟨0x40050060, 0, 16⟩
/-! SEAM_REP -/
def SEAM_REP.addr : Nat := 0x40050064
def SEAM_REP.W : Fld := ⟨0x40050064, 16, 16⟩
def SEAM_REP.E : Fld := ⟨0x40050064, 0, 16⟩
/-! SEAM_HOPRST -/
def SEAM_HOPRST.addr : Nat := 0x40050068
def SEAM_HOPRST.W : Fld := ⟨0x40050068, 16, 16⟩
def SEAM_HOPRST.E : Fld := ⟨0x40050068, 0, 16⟩
/-! SEAM_DROP -/
def SEAM_DROP.addr : Nat := 0x4005006C
def SEAM_DROP.COUNT : Fld := ⟨0x4005006C, 0, 32⟩
/-! SEAM_DUP -/
def SEAM_DUP.addr : Nat := 0x40050070
def SEAM_DUP.COUNT : Fld := ⟨0x40050070, 0, 32⟩
/-! CCH_SIZE -/
def CCH_SIZE.addr : Nat := 0x40080004
def CCH_SIZE.MIB : Fld := ⟨0x40080004, 0, 32⟩
/-! CCH_INBOUND -/
def CCH_INBOUND.addr : Nat := 0x40080008
def CCH_INBOUND.WINDOW_MIB : Fld := ⟨0x40080008, 16, 16⟩
def CCH_INBOUND.USED_MIB : Fld := ⟨0x40080008, 0, 16⟩
/-! CCH_DIRTY_LO -/
def CCH_DIRTY_LO.addr : Nat := 0x4008000C
def CCH_DIRTY_LO.BYTES : Fld := ⟨0x4008000C, 0, 32⟩
/-! CCH_DIRTY_HI -/
def CCH_DIRTY_HI.addr : Nat := 0x40080010
def CCH_DIRTY_HI.BYTES : Fld := ⟨0x40080010, 0, 8⟩
/-! CCH_BUDGET -/
def CCH_BUDGET.addr : Nat := 0x40080014
def CCH_BUDGET.MIB : Fld := ⟨0x40080014, 0, 32⟩
/-! CCH_THROUGH -/
def CCH_THROUGH.addr : Nat := 0x40080018
def CCH_THROUGH.COUNT : Fld := ⟨0x40080018, 0, 32⟩
/-! CCH_UNPICK -/
def CCH_UNPICK.addr : Nat := 0x4008001C
def CCH_UNPICK.MAC : Fld := ⟨0x4008001C, 16, 16⟩
def CCH_UNPICK.ECC : Fld := ⟨0x4008001C, 0, 16⟩
/-! CCH_BASTED -/
def CCH_BASTED.addr : Nat := 0x40080020
def CCH_BASTED.COUNT : Fld := ⟨0x40080020, 0, 32⟩
/-! CCH_PFFILL -/
def CCH_PFFILL.addr : Nat := 0x40080024
def CCH_PFFILL.BLOCKS : Fld := ⟨0x40080024, 0, 32⟩
/-! CCH_PFHIT -/
def CCH_PFHIT.addr : Nat := 0x40080028
def CCH_PFHIT.BLOCKS : Fld := ⟨0x40080028, 0, 32⟩
/-! CCH_PFDROP -/
def CCH_PFDROP.addr : Nat := 0x4008002C
def CCH_PFDROP.BLOCKS : Fld := ⟨0x4008002C, 0, 32⟩
/-! CCH_OVERRIDE -/
def CCH_OVERRIDE.addr : Nat := 0x40080030
def CCH_OVERRIDE.COUNT : Fld := ⟨0x40080030, 0, 32⟩
/-! KEY_STAT -/
def KEY_STAT.addr : Nat := 0x40090000
def KEY_STAT.LOADED_DK : Fld := ⟨0x40090000, 12, 10⟩
def KEY_STAT.LOADED_WK : Fld := ⟨0x40090000, 5, 7⟩
def KEY_STAT.JLOST : Fld := ⟨0x40090000, 2, 1⟩
def KEY_STAT.BUSY : Fld := ⟨0x40090000, 1, 1⟩
def KEY_STAT.ACTIVE : Fld := ⟨0x40090000, 0, 1⟩
/-! KEY_JSEQ -/
def KEY_JSEQ.addr : Nat := 0x40090004
def KEY_JSEQ.JSEQ : Fld := ⟨0x40090004, 0, 32⟩
/-! KEY_SEL -/
def KEY_SEL.addr : Nat := 0x40090008
def KEY_SEL.SLOT : Fld := ⟨0x40090008, 0, 10⟩
/-! KEY_INFO -/
def KEY_INFO.addr : Nat := 0x4009000C
def KEY_INFO.STATE : Fld := ⟨0x4009000C, 30, 2⟩
def KEY_INFO.UPDATE_LOST : Fld := ⟨0x4009000C, 29, 1⟩
def KEY_INFO.KIND : Fld := ⟨0x4009000C, 16, 8⟩
def KEY_INFO.OWNER : Fld := ⟨0x4009000C, 8, 8⟩
/-! KEY_KCV -/
def KEY_KCV.addr : Nat := 0x40090010
def KEY_KCV.KCV : Fld := ⟨0x40090010, 0, 24⟩
/-! KEY_LATCH -/
def KEY_LATCH.addr : Nat := 0x40090014
def KEY_LATCH.COUNT : Fld := ⟨0x40090014, 0, 12⟩
/-! KEY_RBCTL -/
def KEY_RBCTL.addr : Nat := 0x40090020
def KEY_RBCTL.START : Fld := ⟨0x40090020, 31, 1⟩
def KEY_RBCTL.DIR : Fld := ⟨0x40090020, 30, 1⟩
def KEY_RBCTL.ERR : Fld := ⟨0x40090020, 29, 1⟩
def KEY_RBCTL.SLOT : Fld := ⟨0x40090020, 0, 10⟩
/-! KEY_RBIN -/
def KEY_RBIN.addr (i : Nat) : Nat := 0x40090024 + 4 * i
def KEY_RBIN.DATA (i : Nat) : Fld := ⟨0x40090024 + 4 * i, 0, 32⟩
/-! KEY_RBOUT -/
def KEY_RBOUT.addr (i : Nat) : Nat := 0x40090034 + 4 * i
def KEY_RBOUT.DATA (i : Nat) : Fld := ⟨0x40090034 + 4 * i, 0, 32⟩
/-! KEY_UNWRAP -/
def KEY_UNWRAP.addr : Nat := 0x40090044
def KEY_UNWRAP.FAIL : Fld := ⟨0x40090044, 16, 16⟩
def KEY_UNWRAP.OK : Fld := ⟨0x40090044, 0, 16⟩
/-! CIP_STAT -/
def CIP_STAT.addr : Nat := 0x400A0000
def CIP_STAT.KV_IN : Fld := ⟨0x400A0000, 9, 1⟩
def CIP_STAT.IC_IN : Fld := ⟨0x400A0000, 8, 1⟩
def CIP_STAT.CORE_IN : Fld := ⟨0x400A0000, 0, 8⟩
/-! CIP_NONCE_LO -/
def CIP_NONCE_LO.addr : Nat := 0x400A0004
def CIP_NONCE_LO.COUNT : Fld := ⟨0x400A0004, 0, 32⟩
/-! CIP_NONCE_HI -/
def CIP_NONCE_HI.addr : Nat := 0x400A0008
def CIP_NONCE_HI.COUNT : Fld := ⟨0x400A0008, 0, 32⟩
/-! CIP_NRES_LO -/
def CIP_NRES_LO.addr : Nat := 0x400A000C
def CIP_NRES_LO.LIMIT : Fld := ⟨0x400A000C, 0, 32⟩
/-! CIP_NRES_HI -/
def CIP_NRES_HI.addr : Nat := 0x400A0010
def CIP_NRES_HI.LIMIT : Fld := ⟨0x400A0010, 0, 32⟩
/-! CIP_ENC -/
def CIP_ENC.addr : Nat := 0x400A0014
def CIP_ENC.BLOCKS : Fld := ⟨0x400A0014, 0, 32⟩
/-! CIP_DEC -/
def CIP_DEC.addr : Nat := 0x400A0018
def CIP_DEC.BLOCKS : Fld := ⟨0x400A0018, 0, 32⟩
/-! CIP_MACFAIL -/
def CIP_MACFAIL.addr : Nat := 0x400A001C
def CIP_MACFAIL.COUNT : Fld := ⟨0x400A001C, 0, 32⟩
/-! CIP_KAT -/
def CIP_KAT.addr : Nat := 0x400A0020
def CIP_KAT.FAIL : Fld := ⟨0x400A0020, 8, 4⟩
def CIP_KAT.PASS : Fld := ⟨0x400A0020, 0, 4⟩
/-! CIP_NWAIT -/
def CIP_NWAIT.addr : Nat := 0x400A0024
def CIP_NWAIT.COUNT : Fld := ⟨0x400A0024, 0, 32⟩
/-! CIP_PUNIT -/
def CIP_PUNIT.addr (i : Nat) : Nat := 0x400A0040 + 4 * i
def CIP_PUNIT.UNIT512 (i : Nat) : Fld := ⟨0x400A0040 + 4 * i, 0, 32⟩
/-! MPU_CTL -/
def MPU_CTL.addr (c : Nat) : Nat := 0x400B0000 + 0x100 * c
def MPU_CTL.P1ACT (c : Nat) : Fld := ⟨0x400B0000 + 0x100 * c, 2, 1⟩
def MPU_CTL.LOCK (c : Nat) : Fld := ⟨0x400B0000 + 0x100 * c, 1, 1⟩
def MPU_CTL.EN (c : Nat) : Fld := ⟨0x400B0000 + 0x100 * c, 0, 1⟩
/-! MPU_FSTAT -/
def MPU_FSTAT.addr (c : Nat) : Nat := 0x400B0004 + 0x100 * c
def MPU_FSTAT.COUNT (c : Nat) : Fld := ⟨0x400B0004 + 0x100 * c, 16, 16⟩
def MPU_FSTAT.ACCESS (c : Nat) : Fld := ⟨0x400B0004 + 0x100 * c, 12, 2⟩
def MPU_FSTAT.PRIV (c : Nat) : Fld := ⟨0x400B0004 + 0x100 * c, 8, 1⟩
def MPU_FSTAT.REGION (c : Nat) : Fld := ⟨0x400B0004 + 0x100 * c, 0, 8⟩
/-! MPU_FADDR -/
def MPU_FADDR.addr (c : Nat) : Nat := 0x400B0008 + 0x100 * c
def MPU_FADDR.ADDR (c : Nat) : Fld := ⟨0x400B0008 + 0x100 * c, 0, 32⟩
/-! MPU_RBASE -/
def MPU_RBASE.addr (c i : Nat) : Nat := 0x400B0040 + 0x100 * c + 8 * i
def MPU_RBASE.BASE (c i : Nat) : Fld := ⟨0x400B0040 + 0x100 * c + 8 * i, 5, 27⟩
/-! MPU_RATTR -/
def MPU_RATTR.addr (c i : Nat) : Nat := 0x400B0044 + 0x100 * c + 8 * i
def MPU_RATTR.EN (c i : Nat) : Fld := ⟨0x400B0044 + 0x100 * c + 8 * i, 31, 1⟩
def MPU_RATTR.N (c i : Nat) : Fld := ⟨0x400B0044 + 0x100 * c + 8 * i, 16, 6⟩
def MPU_RATTR.P1 (c i : Nat) : Fld := ⟨0x400B0044 + 0x100 * c + 8 * i, 4, 3⟩
def MPU_RATTR.P0 (c i : Nat) : Fld := ⟨0x400B0044 + 0x100 * c + 8 * i, 0, 3⟩
/-! MPU_EXT -/
def MPU_EXT.addr : Nat := 0x400B0200
def MPU_EXT.STATE : Fld := ⟨0x400B0200, 30, 2⟩
def MPU_EXT.KEYSLOT : Fld := ⟨0x400B0200, 16, 10⟩
def MPU_EXT.RESTARTS : Fld := ⟨0x400B0200, 0, 4⟩
/-! MPU_EXTLEN -/
def MPU_EXTLEN.addr : Nat := 0x400B0204
def MPU_EXTLEN.LENGTH : Fld := ⟨0x400B0204, 0, 18⟩
/-! TAG_TBASE0 -/
def TAG_TBASE0.addr : Nat := 0x400C0000
def TAG_TBASE0.BASE_4K : Fld := ⟨0x400C0000, 0, 32⟩
/-! TAG_TBASE1 -/
def TAG_TBASE1.addr : Nat := 0x400C0004
def TAG_TBASE1.BASE_4K : Fld := ⟨0x400C0004, 0, 32⟩
/-! TAG_HIT0 -/
def TAG_HIT0.addr : Nat := 0x400C0008
def TAG_HIT0.COUNT : Fld := ⟨0x400C0008, 0, 32⟩
/-! TAG_HIT1 -/
def TAG_HIT1.addr : Nat := 0x400C0010
def TAG_HIT1.COUNT : Fld := ⟨0x400C0010, 0, 32⟩
/-! TAG_MISS0 -/
def TAG_MISS0.addr : Nat := 0x400C000C
def TAG_MISS0.COUNT : Fld := ⟨0x400C000C, 0, 32⟩
/-! TAG_MISS1 -/
def TAG_MISS1.addr : Nat := 0x400C0014
def TAG_MISS1.COUNT : Fld := ⟨0x400C0014, 0, 32⟩
/-! TAG_FTOTAL -/
def TAG_FTOTAL.addr : Nat := 0x400C0018
def TAG_FTOTAL.COUNT : Fld := ⟨0x400C0018, 0, 32⟩
/-! TAG_FHEAD -/
def TAG_FHEAD.addr : Nat := 0x400C001C
def TAG_FHEAD.INDEX : Fld := ⟨0x400C001C, 0, 6⟩
/-! TAG_FSEL -/
def TAG_FSEL.addr : Nat := 0x400C0020
def TAG_FSEL.INDEX : Fld := ⟨0x400C0020, 0, 6⟩
/-! TAG_FREC -/
def TAG_FREC.addr (i : Nat) : Nat := 0x400C0024 + 4 * i
def TAG_FREC.DATA (i : Nat) : Fld := ⟨0x400C0024 + 4 * i, 0, 32⟩
/-! TAG_WADDR -/
def TAG_WADDR.addr : Nat := 0x400C0060
def TAG_WADDR.LINE : Fld := ⟨0x400C0060, 0, 32⟩
/-! TAG_WCTL -/
def TAG_WCTL.addr : Nat := 0x400C0064
def TAG_WCTL.START : Fld := ⟨0x400C0064, 31, 1⟩
def TAG_WCTL.ERR : Fld := ⟨0x400C0064, 30, 1⟩
def TAG_WCTL.VALUE : Fld := ⟨0x400C0064, 0, 8⟩
/-! TAG_STG -/
def TAG_STG.addr (i : Nat) : Nat := 0x400C1000 + 4 * i
def TAG_STG.COLOUR0 (i : Nat) : Fld := ⟨0x400C1000 + 4 * i, 0, 8⟩
def TAG_STG.COLOUR1 (i : Nat) : Fld := ⟨0x400C1000 + 4 * i, 8, 8⟩
def TAG_STG.COLOUR2 (i : Nat) : Fld := ⟨0x400C1000 + 4 * i, 16, 8⟩
def TAG_STG.COLOUR3 (i : Nat) : Fld := ⟨0x400C1000 + 4 * i, 24, 8⟩
/-! HTG_CFG -/
def HTG_CFG.addr : Nat := 0x400D0000
def HTG_CFG.K : Fld := ⟨0x400D0000, 0, 16⟩
/-! HTG_BASE -/
def HTG_BASE.addr : Nat := 0x400D0004
def HTG_BASE.BASE : Fld := ⟨0x400D0004, 0, 32⟩
/-! HTG_MINUTE -/
def HTG_MINUTE.addr : Nat := 0x400D0008
def HTG_MINUTE.MINUTE : Fld := ⟨0x400D0008, 0, 32⟩
/-! HTG_STAT -/
def HTG_STAT.addr : Nat := 0x400D000C
def HTG_STAT.UNSYNC : Fld := ⟨0x400D000C, 31, 1⟩
def HTG_STAT.LOCAL : Fld := ⟨0x400D000C, 30, 1⟩
def HTG_STAT.SAMPLES : Fld := ⟨0x400D000C, 0, 20⟩
/-! HTG_SPILL -/
def HTG_SPILL.addr : Nat := 0x400D0010
def HTG_SPILL.COUNT : Fld := ⟨0x400D0010, 0, 32⟩
/-! HTG_LOST -/
def HTG_LOST.addr : Nat := 0x400D0014
def HTG_LOST.COUNT : Fld := ⟨0x400D0014, 0, 32⟩
/-! HTG_PENDING -/
def HTG_PENDING.addr : Nat := 0x400D0018
def HTG_PENDING.COUNT : Fld := ⟨0x400D0018, 0, 13⟩
/-! HTG_LASTE -/
def HTG_LASTE.addr : Nat := 0x400D001C
def HTG_LASTE.NJ : Fld := ⟨0x400D001C, 0, 26⟩
/-! HTG_PSEL -/
def HTG_PSEL.addr : Nat := 0x400D0020
def HTG_PSEL.METER : Fld := ⟨0x400D0020, 8, 3⟩
def HTG_PSEL.POCKET : Fld := ⟨0x400D0020, 0, 8⟩
/-! HTG_PACC_LO -/
def HTG_PACC_LO.addr : Nat := 0x400D0024
def HTG_PACC_LO.VALUE : Fld := ⟨0x400D0024, 0, 32⟩
/-! HTG_PACC_HI -/
def HTG_PACC_HI.addr : Nat := 0x400D0028
def HTG_PACC_HI.GUARD : Fld := ⟨0x400D0028, 0, 8⟩
/-! HTG_PTOT_LO -/
def HTG_PTOT_LO.addr : Nat := 0x400D002C
def HTG_PTOT_LO.TOTAL : Fld := ⟨0x400D002C, 0, 32⟩
/-! HTG_PTOT_HI -/
def HTG_PTOT_HI.addr : Nat := 0x400D0030
def HTG_PTOT_HI.TOTAL : Fld := ⟨0x400D0030, 0, 32⟩
/-! HTG_PSPILL -/
def HTG_PSPILL.addr : Nat := 0x400D0034
def HTG_PSPILL.COUNT : Fld := ⟨0x400D0034, 0, 16⟩
/-! HTG_PGEN -/
def HTG_PGEN.addr : Nat := 0x400D0038
def HTG_PGEN.GEN : Fld := ⟨0x400D0038, 0, 32⟩
/-! HTG_BSEL -/
def HTG_BSEL.addr : Nat := 0x400D0040
def HTG_BSEL.STATE : Fld := ⟨0x400D0040, 30, 2⟩
def HTG_BSEL.INDEX : Fld := ⟨0x400D0040, 16, 4⟩
def HTG_BSEL.POCKET : Fld := ⟨0x400D0040, 0, 8⟩
/-! HTG_BUF -/
def HTG_BUF.addr (i : Nat) : Nat := 0x400D0080 + 4 * i
def HTG_BUF.DATA (i : Nat) : Fld := ⟨0x400D0080 + 4 * i, 0, 32⟩
/-! ECC_CFG -/
def ECC_CFG.addr : Nat := 0x400E0000
def ECC_CFG.REFRESH_PCT : Fld := ⟨0x400E0000, 24, 8⟩
def ECC_CFG.RETRY_STEPS : Fld := ⟨0x400E0000, 16, 4⟩
def ECC_CFG.RB_STEPS : Fld := ⟨0x400E0000, 12, 4⟩
def ECC_CFG.PATROL_EN : Fld := ⟨0x400E0000, 2, 1⟩
def ECC_CFG.SCRUB_EN : Fld := ⟨0x400E0000, 1, 1⟩
/-! ECC_STR -/
def ECC_STR.addr : Nat := 0x400E0004
def ECC_STR.Z : Fld := ⟨0x400E0004, 24, 4⟩
def ECC_STR.GROWTH : Fld := ⟨0x400E0004, 16, 8⟩
def ECC_STR.FIXED_T : Fld := ⟨0x400E0004, 8, 8⟩
def ECC_STR.T_INIT : Fld := ⟨0x400E0004, 0, 8⟩
/-! ECC_RRSTEP -/
def ECC_RRSTEP.addr (i : Nat) : Nat := 0x400E0040 + 4 * i
def ECC_RRSTEP.OFFSET (i : Nat) : Fld := ⟨0x400E0040 + 4 * i, 0, 8⟩
/-! ECC_FCORR -/
def ECC_FCORR.addr : Nat := 0x400E0010
def ECC_FCORR.BITS : Fld := ⟨0x400E0010, 0, 32⟩
/-! ECC_FRETRY -/
def ECC_FRETRY.addr : Nat := 0x400E0014
def ECC_FRETRY.RETRY_OK : Fld := ⟨0x400E0014, 16, 16⟩
def ECC_FRETRY.REBUILD_OK : Fld := ⟨0x400E0014, 0, 16⟩
/-! ECC_FUNC -/
def ECC_FUNC.addr : Nat := 0x400E0018
def ECC_FUNC.COUNT : Fld := ⟨0x400E0018, 0, 32⟩
/-! ECC_SCORR -/
def ECC_SCORR.addr : Nat := 0x400E001C
def ECC_SCORR.UNC : Fld := ⟨0x400E001C, 16, 16⟩
def ECC_SCORR.CORR : Fld := ⟨0x400E001C, 0, 16⟩
/-! ECC_SLAST -/
def ECC_SLAST.addr : Nat := 0x400E0020
def ECC_SLAST.DOMAIN : Fld := ⟨0x400E0020, 8, 8⟩
def ECC_SLAST.ARRAY : Fld := ⟨0x400E0020, 0, 8⟩
/-! ECC_DCORR -/
def ECC_DCORR.addr : Nat := 0x400E0024
def ECC_DCORR.CH1 : Fld := ⟨0x400E0024, 16, 16⟩
def ECC_DCORR.CH0 : Fld := ⟨0x400E0024, 0, 16⟩
/-! ECC_DUNC -/
def ECC_DUNC.addr : Nat := 0x400E0028
def ECC_DUNC.CH1 : Fld := ⟨0x400E0028, 16, 16⟩
def ECC_DUNC.CH0 : Fld := ⟨0x400E0028, 0, 16⟩
/-! ECC_DMARK -/
def ECC_DMARK.addr : Nat := 0x400E002C
def ECC_DMARK.CH1 : Fld := ⟨0x400E002C, 16, 12⟩
def ECC_DMARK.CH0 : Fld := ⟨0x400E002C, 0, 12⟩
/-! ECC_DSCRUB -/
def ECC_DSCRUB.addr : Nat := 0x400E0030
def ECC_DSCRUB.LAP_S : Fld := ⟨0x400E0030, 16, 16⟩
/-! ECC_FPATROL -/
def ECC_FPATROL.addr : Nat := 0x400E0034
def ECC_FPATROL.WARN_H : Fld := ⟨0x400E0034, 16, 16⟩
def ECC_FPATROL.LAP_H : Fld := ⟨0x400E0034, 0, 16⟩
/-! ECC_SELFTEST -/
def ECC_SELFTEST.addr : Nat := 0x400E0038
def ECC_SELFTEST.FAIL_DOMAIN : Fld := ⟨0x400E0038, 24, 8⟩
def ECC_SELFTEST.PASS : Fld := ⟨0x400E0038, 0, 3⟩
/-! ECC_INJ -/
def ECC_INJ.addr : Nat := 0x400E003C
def ECC_INJ.ARM : Fld := ⟨0x400E003C, 31, 1⟩
def ECC_INJ.TARGET : Fld := ⟨0x400E003C, 24, 3⟩
def ECC_INJ.UNIT : Fld := ⟨0x400E003C, 16, 8⟩
def ECC_INJ.BITS : Fld := ⟨0x400E003C, 0, 8⟩
/-! ECC_GRBER -/
def ECC_GRBER.addr (i : Nat) : Nat := 0x400E0100 + 4 * i
def ECC_GRBER.TNEXT (i : Nat) : Fld := ⟨0x400E0100 + 4 * i, 24, 8⟩
def ECC_GRBER.PPB (i : Nat) : Fld := ⟨0x400E0100 + 4 * i, 0, 24⟩
/-! ECC_DREMAP -/
def ECC_DREMAP.addr (n i : Nat) : Nat := 0x400E0200 + 0x40 * n + 4 * i
def ECC_DREMAP.VALID (n i : Nat) : Fld := ⟨0x400E0200 + 0x40 * n + 4 * i, 31, 1⟩
def ECC_DREMAP.LINE (n i : Nat) : Fld := ⟨0x400E0200 + 0x40 * n + 4 * i, 0, 29⟩
/-! BIST_CTL -/
def BIST_CTL.addr : Nat := 0x400F0000
def BIST_CTL.START : Fld := ⟨0x400F0000, 31, 1⟩
def BIST_CTL.DOMAIN : Fld := ⟨0x400F0000, 8, 6⟩
def BIST_CTL.SWATCH : Fld := ⟨0x400F0000, 0, 6⟩
/-! BIST_STAT -/
def BIST_STAT.addr : Nat := 0x400F0004
def BIST_STAT.BUSY : Fld := ⟨0x400F0004, 31, 1⟩
def BIST_STAT.RESULT : Fld := ⟨0x400F0004, 24, 3⟩
def BIST_STAT.STATUS : Fld := ⟨0x400F0004, 0, 16⟩
/-! BIST_TIME -/
def BIST_TIME.addr : Nat := 0x400F0008
def BIST_TIME.US : Fld := ⟨0x400F0008, 0, 32⟩
/-! BIST_DETAIL -/
def BIST_DETAIL.addr : Nat := 0x400F000C
def BIST_DETAIL.DETAIL : Fld := ⟨0x400F000C, 0, 32⟩
/-! BIST_RES -/
def BIST_RES.addr (i : Nat) : Nat := 0x400F0100 + 4 * i
def BIST_RES.RESULT (i : Nat) : Fld := ⟨0x400F0100 + 4 * i, 28, 4⟩
def BIST_RES.DOMAIN (i : Nat) : Fld := ⟨0x400F0100 + 4 * i, 16, 6⟩
def BIST_RES.FAILS (i : Nat) : Fld := ⟨0x400F0100 + 4 * i, 8, 8⟩
def BIST_RES.RUNS (i : Nat) : Fld := ⟨0x400F0100 + 4 * i, 0, 8⟩
/-! LCS_STATE -/
def LCS_STATE.addr : Nat := 0x40100000
def LCS_STATE.BITS : Fld := ⟨0x40100000, 8, 4⟩
def LCS_STATE.STATE : Fld := ⟨0x40100000, 0, 3⟩
/-! LCS_GATE -/
def LCS_GATE.addr : Nat := 0x40100004
def LCS_GATE.GATES : Fld := ⟨0x40100004, 0, 9⟩
/-! LCS_COPIES -/
def LCS_COPIES.addr : Nat := 0x40100008
def LCS_COPIES.BITS : Fld := ⟨0x40100008, 0, 12⟩
/-! LCS_CTL -/
def LCS_CTL.addr : Nat := 0x4010000C
def LCS_CTL.START : Fld := ⟨0x4010000C, 31, 1⟩
def LCS_CTL.KEY : Fld := ⟨0x4010000C, 16, 8⟩
def LCS_CTL.TARGET : Fld := ⟨0x4010000C, 0, 3⟩
/-! LCS_RESULT -/
def LCS_RESULT.addr : Nat := 0x40100010
def LCS_RESULT.STATUS : Fld := ⟨0x40100010, 0, 16⟩
/-! DRC_CFG -/
def DRC_CFG.addr (n : Nat) : Nat := 0x40110000 + 0x10000 * n
def DRC_CFG.DENS (n : Nat) : Fld := ⟨0x40110000 + 0x10000 * n, 8, 2⟩
def DRC_CFG.POP (n : Nat) : Fld := ⟨0x40110000 + 0x10000 * n, 4, 3⟩
def DRC_CFG.RATE_MAX (n : Nat) : Fld := ⟨0x40110000 + 0x10000 * n, 3, 1⟩
def DRC_CFG.SPARE_EN (n : Nat) : Fld := ⟨0x40110000 + 0x10000 * n, 2, 1⟩
def DRC_CFG.QOS (n : Nat) : Fld := ⟨0x40110000 + 0x10000 * n, 1, 1⟩
def DRC_CFG.PAGE (n : Nat) : Fld := ⟨0x40110000 + 0x10000 * n, 0, 1⟩
/-! DRC_STAT -/
def DRC_STAT.addr (n : Nat) : Nat := 0x40110004 + 0x10000 * n
def DRC_STAT.SIZE_GIB (n : Nat) : Fld := ⟨0x40110004 + 0x10000 * n, 24, 8⟩
def DRC_STAT.RATE (n : Nat) : Fld := ⟨0x40110004 + 0x10000 * n, 4, 1⟩
def DRC_STAT.TRAIN (n : Nat) : Fld := ⟨0x40110004 + 0x10000 * n, 0, 3⟩
/-! DRC_RANK -/
def DRC_RANK.addr (n : Nat) : Nat := 0x40110008 + 0x10000 * n
def DRC_RANK.STATE0 (n : Nat) : Fld := ⟨0x40110008 + 0x10000 * n, 0, 4⟩
def DRC_RANK.STATE1 (n : Nat) : Fld := ⟨0x40110008 + 0x10000 * n, 4, 4⟩
def DRC_RANK.STATE2 (n : Nat) : Fld := ⟨0x40110008 + 0x10000 * n, 8, 4⟩
def DRC_RANK.LOG0 (n : Nat) : Fld := ⟨0x40110008 + 0x10000 * n, 16, 2⟩
def DRC_RANK.LOG1 (n : Nat) : Fld := ⟨0x40110008 + 0x10000 * n, 18, 2⟩
/-! DRC_SPARE -/
def DRC_SPARE.addr (n : Nat) : Nat := 0x4011000C + 0x10000 * n
def DRC_SPARE.PROGRESS (n : Nat) : Fld := ⟨0x4011000C + 0x10000 * n, 16, 16⟩
def DRC_SPARE.SHARE (n : Nat) : Fld := ⟨0x4011000C + 0x10000 * n, 0, 7⟩
/-! DRC_PAGE -/
def DRC_PAGE.addr (n : Nat) : Nat := 0x40110010 + 0x10000 * n
def DRC_PAGE.IDLE_NS (n : Nat) : Fld := ⟨0x40110010 + 0x10000 * n, 0, 13⟩
/-! DRC_GUARD -/
def DRC_GUARD.addr (n : Nat) : Nat := 0x40110014 + 0x10000 * n
def DRC_GUARD.NS (n : Nat) : Fld := ⟨0x40110014 + 0x10000 * n, 0, 16⟩
/-! DRC_ACT -/
def DRC_ACT.addr (n : Nat) : Nat := 0x40110018 + 0x10000 * n
def DRC_ACT.THRESH (n : Nat) : Fld := ⟨0x40110018 + 0x10000 * n, 0, 16⟩
/-! DRC_PORT -/
def DRC_PORT.addr (n i : Nat) : Nat := 0x40110020 + 0x10000 * n + 4 * i
def DRC_PORT.TARGET_NS (n i : Nat) : Fld := ⟨0x40110020 + 0x10000 * n + 4 * i, 16, 16⟩
def DRC_PORT.PRIO (n i : Nat) : Fld := ⟨0x40110020 + 0x10000 * n + 4 * i, 0, 3⟩
/-! DRC_HMASK -/
def DRC_HMASK.addr (n i : Nat) : Nat := 0x40110040 + 0x10000 * n + 4 * i
def DRC_HMASK.MASK (n i : Nat) : Fld := ⟨0x40110040 + 0x10000 * n + 4 * i, 0, 29⟩
/-! DRC_FWD -/
def DRC_FWD.addr (n : Nat) : Nat := 0x40110060 + 0x10000 * n
def DRC_FWD.COUNT (n : Nat) : Fld := ⟨0x40110060 + 0x10000 * n, 0, 32⟩
/-! DRC_NBR -/
def DRC_NBR.addr (n : Nat) : Nat := 0x40110064 + 0x10000 * n
def DRC_NBR.COUNT (n : Nat) : Fld := ⟨0x40110064 + 0x10000 * n, 0, 32⟩
/-! DRC_RFM -/
def DRC_RFM.addr (n : Nat) : Nat := 0x40110068 + 0x10000 * n
def DRC_RFM.COUNT (n : Nat) : Fld := ⟨0x40110068 + 0x10000 * n, 0, 32⟩
/-! DRC_ERR -/
def DRC_ERR.addr (n : Nat) : Nat := 0x4011006C + 0x10000 * n
def DRC_ERR.ALERT (n : Nat) : Fld := ⟨0x4011006C + 0x10000 * n, 0, 16⟩
/-! DRC_MISS -/
def DRC_MISS.addr (n i : Nat) : Nat := 0x40110080 + 0x10000 * n + 4 * i
def DRC_MISS.COUNT (n i : Nat) : Fld := ⟨0x40110080 + 0x10000 * n + 4 * i, 0, 32⟩
/-! DRC_TPAT -/
def DRC_TPAT.addr (n : Nat) : Nat := 0x40110100 + 0x10000 * n
def DRC_TPAT.START (n : Nat) : Fld := ⟨0x40110100 + 0x10000 * n, 31, 1⟩
def DRC_TPAT.RANK (n : Nat) : Fld := ⟨0x40110100 + 0x10000 * n, 8, 2⟩
def DRC_TPAT.DIR (n : Nat) : Fld := ⟨0x40110100 + 0x10000 * n, 4, 3⟩
def DRC_TPAT.PAT (n : Nat) : Fld := ⟨0x40110100 + 0x10000 * n, 0, 3⟩
/-! DRC_TLEN -/
def DRC_TLEN.addr (n : Nat) : Nat := 0x40110104 + 0x10000 * n
def DRC_TLEN.LINES (n : Nat) : Fld := ⟨0x40110104 + 0x10000 * n, 0, 20⟩
/-! DRC_TUSER -/
def DRC_TUSER.addr (n i : Nat) : Nat := 0x40110140 + 0x10000 * n + 4 * i
def DRC_TUSER.DATA (n i : Nat) : Fld := ⟨0x40110140 + 0x10000 * n + 4 * i, 0, 32⟩
/-! DRC_TCMP -/
def DRC_TCMP.addr (n i : Nat) : Nat := 0x40110200 + 0x10000 * n + 4 * i
def DRC_TCMP.MISS (n i : Nat) : Fld := ⟨0x40110200 + 0x10000 * n + 4 * i, 0, 16⟩
/-! DRC_DLY -/
def DRC_DLY.addr (n r i : Nat) : Nat := 0x40110300 + 0x10000 * n + 0x100 * r + 4 * i
def DRC_DLY.TX (n r i : Nat) : Fld := ⟨0x40110300 + 0x10000 * n + 0x100 * r + 4 * i, 8, 7⟩
def DRC_DLY.RX (n r i : Nat) : Fld := ⟨0x40110300 + 0x10000 * n + 0x100 * r + 4 * i, 0, 7⟩
/-! DRC_DQS -/
def DRC_DQS.addr (n i : Nat) : Nat := 0x40110600 + 0x10000 * n + 4 * i
def DRC_DQS.DQS_TX (n i : Nat) : Fld := ⟨0x40110600 + 0x10000 * n + 4 * i, 16, 8⟩
def DRC_DQS.DQS_RX (n i : Nat) : Fld := ⟨0x40110600 + 0x10000 * n + 4 * i, 0, 8⟩
/-! FQ_STAT -/
def FQ_STAT.addr (q : Nat) : Nat := 0x40200000 + 0x10000 * q
def FQ_STAT.STATE (q : Nat) : Fld := ⟨0x40200000 + 0x10000 * q, 16, 2⟩
def FQ_STAT.LOOP_OK (q : Nat) : Fld := ⟨0x40200000 + 0x10000 * q, 4, 4⟩
def FQ_STAT.HAS_DIE (q : Nat) : Fld := ⟨0x40200000 + 0x10000 * q, 0, 4⟩
/-! FQ_ERR -/
def FQ_ERR.addr (q : Nat) : Nat := 0x40200010 + 0x10000 * q
def FQ_ERR.PROG_FAIL (q : Nat) : Fld := ⟨0x40200010 + 0x10000 * q, 16, 16⟩
def FQ_ERR.ERASE_FAIL (q : Nat) : Fld := ⟨0x40200010 + 0x10000 * q, 0, 16⟩
/-! FQ_BAD -/
def FQ_BAD.addr (q : Nat) : Nat := 0x40200014 + 0x10000 * q
def FQ_BAD.RETIRED (q : Nat) : Fld := ⟨0x40200014 + 0x10000 * q, 0, 16⟩
/-! MAP_CFG -/
def MAP_CFG.addr : Nat := 0x40300000
def MAP_CFG.DIRTY_CAP : Fld := ⟨0x40300000, 0, 12⟩
/-! MAP_STAT -/
def MAP_STAT.addr : Nat := 0x40300004
def MAP_STAT.DIRTY : Fld := ⟨0x40300004, 20, 12⟩
def MAP_STAT.RESIDENT : Fld := ⟨0x40300004, 0, 20⟩
/-! MAP_CKPT -/
def MAP_CKPT.addr : Nat := 0x40300008
def MAP_CKPT.EFF_CAP : Fld := ⟨0x40300008, 20, 12⟩
def MAP_CKPT.AGE_MS : Fld := ⟨0x40300008, 0, 20⟩
/-! MAP_SEGS -/
def MAP_SEGS.addr : Nat := 0x4030000C
def MAP_SEGS.TOTAL : Fld := ⟨0x4030000C, 0, 20⟩
/-! MAP_DELTA -/
def MAP_DELTA.addr : Nat := 0x40300010
def MAP_DELTA.COUNT : Fld := ⟨0x40300010, 0, 32⟩
/-! MAP_IDXSEL -/
def MAP_IDXSEL.addr : Nat := 0x40300020
def MAP_IDXSEL.ENTRY : Fld := ⟨0x40300020, 0, 20⟩
/-! MAP_IDXVAL -/
def MAP_IDXVAL.addr : Nat := 0x40300024
def MAP_IDXVAL.VALUE : Fld := ⟨0x40300024, 0, 32⟩
/-! MAP_PBASE -/
def MAP_PBASE.addr (i : Nat) : Nat := 0x40301000 + 4 * i
def MAP_PBASE.BASE (i : Nat) : Fld := ⟨0x40301000 + 4 * i, 0, 20⟩
/-! MOV_CFG -/
def MOV_CFG.addr : Nat := 0x40310000
def MOV_CFG.OP_PCT : Fld := ⟨0x40310000, 16, 8⟩
def MOV_CFG.OPEN_HOST : Fld := ⟨0x40310000, 0, 4⟩
/-! MOV_GC -/
def MOV_GC.addr : Nat := 0x40310004
def MOV_GC.URGENT : Fld := ⟨0x40310004, 8, 8⟩
def MOV_GC.START : Fld := ⟨0x40310004, 0, 8⟩
/-! MOV_WL -/
def MOV_WL.addr : Nat := 0x40310008
def MOV_WL.SPREAD : Fld := ⟨0x40310008, 0, 16⟩
/-! MOV_FREE -/
def MOV_FREE.addr : Nat := 0x4031000C
def MOV_FREE.OPEN : Fld := ⟨0x4031000C, 16, 16⟩
def MOV_FREE.FREE : Fld := ⟨0x4031000C, 0, 16⟩
/-! MOV_CAP_LO -/
def MOV_CAP_LO.addr : Nat := 0x40310010
def MOV_CAP_LO.STITCHES : Fld := ⟨0x40310010, 0, 32⟩
/-! MOV_CAP_HI -/
def MOV_CAP_HI.addr : Nat := 0x40310014
def MOV_CAP_HI.STITCHES : Fld := ⟨0x40310014, 0, 2⟩
/-! MOV_ERASE -/
def MOV_ERASE.addr : Nat := 0x40310018
def MOV_ERASE.MAX : Fld := ⟨0x40310018, 16, 16⟩
def MOV_ERASE.MEAN : Fld := ⟨0x40310018, 0, 16⟩
/-! MOV_COPY -/
def MOV_COPY.addr : Nat := 0x4031001C
def MOV_COPY.STITCHES : Fld := ⟨0x4031001C, 0, 32⟩
/-! MOV_STAT -/
def MOV_STAT.addr : Nat := 0x40310020
def MOV_STAT.READONLY : Fld := ⟨0x40310020, 8, 1⟩
def MOV_STAT.GC : Fld := ⟨0x40310020, 0, 2⟩
/-! FQ_LUN -/
def FQ_LUN.addr (q i : Nat) : Nat := 0x40200100 + 0x10000 * q + 4 * i
def FQ_LUN.PRESENT (q i : Nat) : Fld := ⟨0x40200100 + 0x10000 * q + 4 * i, 31, 1⟩
def FQ_LUN.EXCLUDED (q i : Nat) : Fld := ⟨0x40200100 + 0x10000 * q + 4 * i, 30, 1⟩
def FQ_LUN.IFACE (q i : Nat) : Fld := ⟨0x40200100 + 0x10000 * q + 4 * i, 28, 2⟩
def FQ_LUN.RATE (q i : Nat) : Fld := ⟨0x40200100 + 0x10000 * q + 4 * i, 24, 4⟩
def FQ_LUN.PLANES_LOG2 (q i : Nat) : Fld := ⟨0x40200100 + 0x10000 * q + 4 * i, 22, 2⟩
def FQ_LUN.WL_PAGES (q i : Nat) : Fld := ⟨0x40200100 + 0x10000 * q + 4 * i, 20, 2⟩
def FQ_LUN.TMAX (q i : Nat) : Fld := ⟨0x40200100 + 0x10000 * q + 4 * i, 12, 8⟩
def FQ_LUN.PAGES_M1 (q i : Nat) : Fld := ⟨0x40200100 + 0x10000 * q + 4 * i, 0, 12⟩

/-- Rows of block SYS (Table MAP-3). -/
def rowsSYS : List RegRow :=
  [⟨fun _ => "SYS_ID", 0x40000000, 4, 1, fun _ => 0x640B000, [⟨"PART", 16, 16, .ro⟩, ⟨"STEP", 8, 8, .ro⟩, ⟨"CODE", 0, 4, .ro⟩]⟩,
   ⟨fun _ => "SYS_SERIAL", 0x40000004, 4, 1, fun _ => 0x0, [⟨"SERIAL", 0, 32, .ro⟩]⟩,
   ⟨fun _ => "SYS_STRAP", 0x40000008, 4, 1, fun _ => 0x0, [⟨"SLOT_VALID", 8, 1, .ro⟩, ⟨"BOOT_SEL", 6, 2, .ro⟩, ⟨"MANTLE_CAP", 5, 1, .ro⟩, ⟨"SLOT_ID", 0, 5, .ro⟩]⟩,
   ⟨fun _ => "SYS_BOOTSTAT", 0x4000000C, 4, 1, fun _ => 0x20, [⟨"DRAM_FAIL", 12, 1, .ro⟩, ⟨"LIMP", 11, 1, .ro⟩, ⟨"REPLAY", 10, 1, .ro⟩, ⟨"UNCLEAN", 9, 1, .ro⟩, ⟨"FIRST_BOOT", 8, 1, .ro⟩, ⟨"STORED_TRAIN", 7, 1, .ro⟩, ⟨"MAP_RESIDENT", 6, 1, .ro⟩, ⟨"STAGING", 5, 1, .ro⟩, ⟨"READY", 4, 1, .ro⟩, ⟨"PHASE", 0, 4, .ro⟩]⟩,
   ⟨fun _ => "SYS_BOOTTIME", 0x40000010, 4, 1, fun _ => 0x0, [⟨"READY_US", 0, 20, .ro⟩]⟩,
   ⟨fun _ => "SYS_RSTCAUSE", 0x40000014, 4, 1, fun _ => 0x0, [⟨"LIFE", 12, 1, .w1c⟩, ⟨"BIST", 11, 1, .w1c⟩, ⟨"SHRINK", 10, 1, .w1c⟩, ⟨"MEMERR", 9, 1, .w1c⟩, ⟨"HANG", 8, 1, .w1c⟩, ⟨"MPU", 7, 1, .w1c⟩, ⟨"T1", 6, 1, .w1c⟩, ⟨"SLEEVE", 5, 1, .w1c⟩, ⟨"STALL", 4, 1, .w1c⟩, ⟨"WDOG", 3, 1, .w1c⟩, ⟨"WARM_CMD", 2, 1, .w1c⟩, ⟨"COLD_CMD", 1, 1, .w1c⟩, ⟨"POWER_ON", 0, 1, .w1c⟩]⟩,
   ⟨fun _ => "SYS_RSTCTL", 0x40000018, 4, 1, fun _ => 0x0, [⟨"KEY", 8, 8, .wo⟩, ⟨"KIND", 0, 3, .wo⟩]⟩,
   ⟨fun _ => "SYS_WDOG", 0x4000001C, 4, 1, fun _ => 0x400003E8, [⟨"KICK", 31, 1, .wo⟩, ⟨"EN", 30, 1, .rw⟩, ⟨"TIMEOUT_MS", 0, 14, .rw⟩]⟩,
   ⟨fun _ => "SYS_LIMP", 0x40000020, 4, 1, fun _ => 0x0, [⟨"UNIT", 8, 8, .ro⟩, ⟨"CAUSE", 0, 4, .ro⟩]⟩,
   ⟨fun _ => "SYS_REFCNT_LO", 0x40000024, 4, 1, fun _ => 0x0, [⟨"COUNT", 0, 32, .ro⟩]⟩,
   ⟨fun _ => "SYS_REFCNT_HI", 0x40000028, 4, 1, fun _ => 0x0, [⟨"COUNT", 0, 32, .ro⟩]⟩,
   ⟨fun _ => "SYS_CLKSTAT", 0x4000002C, 4, 1, fun _ => 0xF, [⟨"XTAL_OK", 13, 1, .ro⟩, ⟨"SEAM_LOCK", 12, 1, .ro⟩, ⟨"SLV_LOCK", 11, 1, .ro⟩, ⟨"DDR_LOCK", 10, 1, .ro⟩, ⟨"FIO_LOCK", 9, 1, .ro⟩, ⟨"CORE_LOCK", 8, 1, .ro⟩, ⟨"CORE_MULT", 0, 5, .ro⟩]⟩,
   ⟨fun _ => "SYS_OBS", 0x40000030, 4, 1, fun _ => 0x0, [⟨"SEL", 0, 3, .rw⟩]⟩,
   ⟨fun _ => "SYS_COLCFG", 0x40000034, 4, 1, fun _ => 0x1B20, [⟨"STRICT", 21, 1, .rw⟩, ⟨"CTS_EN", 20, 1, .rw⟩, ⟨"BAUD_DIV", 0, 20, .rw⟩]⟩,
   ⟨fun _ => "SYS_RSTLAST", 0x40000038, 4, 1, fun _ => 0x0, [⟨"KIND", 8, 3, .ro⟩, ⟨"CAUSE", 0, 5, .ro⟩]⟩]
/-- Rows of block SLV (Table MAP-3). -/
def rowsSLV : List RegRow :=
  [⟨fun _ => "SLV_CFG", 0x40040000, 4, 1, fun _ => 0x1000, [⟨"MAX_FRAME", 0, 13, .rw⟩]⟩,
   ⟨fun _ => "SLV_TURN", 0x40040004, 4, 1, fun _ => 0x400020, [⟨"TURN_MAX_FRAMES", 16, 11, .rw⟩, ⟨"TURN_MAX_US", 0, 10, .rw⟩]⟩,
   ⟨fun _ => "SLV_IDLE", 0x40040008, 4, 1, fun _ => 0x32, [⟨"IDLE_HOLD_US", 0, 14, .rw⟩]⟩,
   ⟨fun _ => "SLV_LEASE", 0x4004000C, 4, 1, fun _ => 0x4, [⟨"MODE", 4, 2, .rw⟩, ⟨"FIXED_M", 0, 4, .rw⟩]⟩,
   ⟨fun _ => "SLV_STAT", 0x40040010, 4, 1, fun _ => 0x0, [⟨"STATE", 24, 2, .ro⟩, ⟨"LEASE_M", 20, 4, .ro⟩, ⟨"OWNER", 15, 1, .ro⟩, ⟨"STOP", 14, 1, .ro⟩, ⟨"SPLIT", 13, 1, .ro⟩, ⟨"GUSSET", 12, 1, .ro⟩, ⟨"RATE", 8, 3, .ro⟩, ⟨"LANES", 0, 8, .ro⟩]⟩,
   ⟨fun _ => "SLV_SEQ", 0x4004001C, 4, 1, fun _ => 0x0, [⟨"TX_ACKED", 16, 12, .ro⟩, ⟨"RX_EXPECT", 0, 12, .ro⟩]⟩,
   ⟨fun _ => "SLV_FORCE0", 0x40040014, 4, 1, fun _ => 0x0, [⟨"TURN_MAX_US", 16, 16, .ro⟩, ⟨"TURN_MAX_FRAMES", 0, 11, .ro⟩]⟩,
   ⟨fun _ => "SLV_FORCE1", 0x40040018, 4, 1, fun _ => 0x0, [⟨"IDLE_HOLD_US", 16, 14, .ro⟩, ⟨"MAX_FRAME", 0, 13, .ro⟩]⟩,
   ⟨fun i => "SLV_LANEERR" ++ toString i, 0x40040040, 4, 9, fun _ => 0x0, [⟨"COUNT", 0, 16, .rc⟩]⟩,
   ⟨fun _ => "SLV_CRCERR", 0x40040020, 4, 1, fun _ => 0x0, [⟨"COUNT", 0, 32, .rc⟩]⟩,
   ⟨fun _ => "SLV_GUSSETFIX", 0x40040024, 4, 1, fun _ => 0x0, [⟨"COUNT", 0, 32, .rc⟩]⟩,
   ⟨fun _ => "SLV_REPCNT", 0x40040028, 4, 1, fun _ => 0x0, [⟨"RX", 16, 16, .rc⟩, ⟨"TX", 0, 16, .rc⟩]⟩,
   ⟨fun _ => "SLV_RETRAIN", 0x4004002C, 4, 1, fun _ => 0x0, [⟨"LAST_REASON", 16, 4, .ro⟩, ⟨"COUNT", 0, 16, .rc⟩]⟩,
   ⟨fun _ => "SLV_DISCARD", 0x40040030, 4, 1, fun _ => 0x0, [⟨"DUP", 16, 16, .rc⟩, ⟨"UNEXP", 0, 16, .rc⟩]⟩,
   ⟨fun _ => "SLV_CTL", 0x40040034, 4, 1, fun _ => 0x0, [⟨"RETRAIN", 0, 1, .w1s⟩]⟩]
/-- Rows of block QUE (Table MAP-3). -/
def rowsQUE : List RegRow :=
  [⟨fun _ => "QUE_STAT", 0x40060000, 4, 1, fun _ => 0x0, [⟨"INFLIGHT", 16, 12, .ro⟩, ⟨"OPEN", 0, 11, .ro⟩]⟩,
   ⟨fun _ => "QUE_OVERRUN", 0x40060004, 4, 1, fun _ => 0x0, [⟨"COUNT", 0, 32, .rc⟩]⟩,
   ⟨fun _ => "QUE_REFUSE", 0x40060008, 4, 1, fun _ => 0x0, [⟨"USED", 0, 9, .ro⟩]⟩,
   ⟨fun i => "QUE_QCFG" ++ toString i, 0x40064000, 8, 1024, fun _ => 0xB000000, [⟨"STATE", 30, 2, .ro⟩, ⟨"BASTE", 29, 1, .ro⟩, ⟨"ACK", 27, 2, .ro⟩, ⟨"DEPTH_LOG2", 23, 4, .ro⟩, ⟨"POCKET", 0, 8, .ro⟩]⟩,
   ⟨fun i => "QUE_QSTAT" ++ toString i, 0x40064004, 8, 1024, fun _ => 0x0, [⟨"TAKEN", 16, 13, .ro⟩, ⟨"WAITING", 0, 13, .ro⟩]⟩]
/-- Rows of block POC (Table MAP-3). -/
def rowsPOC : List RegRow :=
  [⟨fun _ => "POC_AGE", 0x40070000, 4, 1, fun _ => 0x1F4, [⟨"AGE_US", 0, 14, .rw⟩]⟩,
   ⟨fun _ => "POC_QUANTUM", 0x40070004, 4, 1, fun _ => 0x8, [⟨"BLOCKS", 0, 7, .rw⟩]⟩,
   ⟨fun i => "POC_PCFG" ++ toString i, 0x40071000, 32, 256, fun i => if i = 0 then 0x50010000 else 0x10010000, [⟨"STATE", 30, 2, .ro⟩, ⟨"CLASS", 28, 2, .ro⟩, ⟨"WEIGHT", 16, 7, .ro⟩, ⟨"QUEUES", 0, 11, .ro⟩]⟩,
   ⟨fun i => "POC_PCFG" ++ toString i ++ "_04", 0x40071004, 32, 256, fun _ => 0x0, [⟨"SIZE_LO", 0, 32, .ro⟩]⟩,
   ⟨fun i => "POC_PCFG" ++ toString i ++ "_08", 0x40071008, 32, 256, fun _ => 0x0, [⟨"SIZE_HI", 0, 2, .ro⟩]⟩,
   ⟨fun i => "POC_PCFG" ++ toString i ++ "_0C", 0x4007100C, 32, 256, fun _ => 0x0, [⟨"USED_LO", 0, 32, .ro⟩]⟩,
   ⟨fun i => "POC_PCFG" ++ toString i ++ "_10", 0x40071010, 32, 256, fun _ => 0x0, [⟨"USED_HI", 0, 2, .ro⟩]⟩,
   ⟨fun i => "POC_PCFG" ++ toString i ++ "_14", 0x40071014, 32, 256, fun _ => 0x100, [⟨"LIMIT", 0, 12, .ro⟩]⟩,
   ⟨fun i => "POC_PCFG" ++ toString i ++ "_18", 0x40071018, 32, 256, fun _ => 0x0, [⟨"INFLIGHT", 16, 12, .ro⟩, ⟨"CREDIT", 0, 16, .ro⟩]⟩]
/-- Rows of block CCH (Table MAP-3). -/
def rowsCCH : List RegRow :=
  [⟨fun _ => "CCH_CFG", 0x40080000, 4, 1, fun _ => 0x324B0F03, [⟨"FLUSH_LO", 24, 8, .rw⟩, ⟨"FLUSH_HI", 16, 8, .rw⟩, ⟨"PF_AHEAD", 8, 4, .rw⟩, ⟨"BASTE_EN", 1, 1, .rw⟩, ⟨"PF_EN", 0, 1, .rw⟩]⟩,
   ⟨fun i => "CCH_PSHARE" ++ toString i, 0x40081000, 32, 256, fun _ => 0x0, [⟨"CLEAN_MAX", 16, 16, .ro⟩, ⟨"CLEAN_MIN", 0, 16, .ro⟩]⟩,
   ⟨fun i => "CCH_PSHARE" ++ toString i ++ "_04", 0x40081004, 32, 256, fun _ => 0x0, [⟨"DIRTY_MAX", 16, 16, .ro⟩, ⟨"DIRTY_MIN", 0, 16, .ro⟩]⟩,
   ⟨fun i => "CCH_PSHARE" ++ toString i ++ "_08", 0x40081008, 32, 256, fun _ => 0x0, [⟨"CLEAN_BLK", 0, 32, .ro⟩]⟩,
   ⟨fun i => "CCH_PSHARE" ++ toString i ++ "_0C", 0x4008100C, 32, 256, fun _ => 0x0, [⟨"DIRTY_BLK", 0, 32, .ro⟩]⟩,
   ⟨fun i => "CCH_PSHARE" ++ toString i ++ "_10", 0x40081010, 32, 256, fun _ => 0x0, [⟨"EMIN_BLK", 0, 32, .ro⟩]⟩,
   ⟨fun i => "CCH_PSHARE" ++ toString i ++ "_14", 0x40081014, 32, 256, fun _ => 0x0, [⟨"PF_BLK", 0, 32, .ro⟩]⟩,
   ⟨fun _ => "CCH_SIZE", 0x40080004, 4, 1, fun _ => 0x0, [⟨"MIB", 0, 32, .ro⟩]⟩,
   ⟨fun _ => "CCH_INBOUND", 0x40080008, 4, 1, fun _ => 0x4000000, [⟨"WINDOW_MIB", 16, 16, .rw⟩, ⟨"USED_MIB", 0, 16, .ro⟩]⟩,
   ⟨fun _ => "CCH_DIRTY_LO", 0x4008000C, 4, 1, fun _ => 0x0, [⟨"BYTES", 0, 32, .ro⟩]⟩,
   ⟨fun _ => "CCH_DIRTY_HI", 0x40080010, 4, 1, fun _ => 0x0, [⟨"BYTES", 0, 8, .ro⟩]⟩,
   ⟨fun _ => "CCH_BUDGET", 0x40080014, 4, 1, fun _ => 0x0, [⟨"MIB", 0, 32, .ro⟩]⟩,
   ⟨fun _ => "CCH_THROUGH", 0x40080018, 4, 1, fun _ => 0x0, [⟨"COUNT", 0, 32, .rc⟩]⟩,
   ⟨fun _ => "CCH_UNPICK", 0x4008001C, 4, 1, fun _ => 0x0, [⟨"MAC", 16, 16, .rc⟩, ⟨"ECC", 0, 16, .rc⟩]⟩,
   ⟨fun _ => "CCH_BASTED", 0x40080020, 4, 1, fun _ => 0x0, [⟨"COUNT", 0, 32, .rc⟩]⟩,
   ⟨fun _ => "CCH_PFFILL", 0x40080024, 4, 1, fun _ => 0x0, [⟨"BLOCKS", 0, 32, .rc⟩]⟩,
   ⟨fun _ => "CCH_PFHIT", 0x40080028, 4, 1, fun _ => 0x0, [⟨"BLOCKS", 0, 32, .rc⟩]⟩,
   ⟨fun _ => "CCH_PFDROP", 0x4008002C, 4, 1, fun _ => 0x0, [⟨"BLOCKS", 0, 32, .rc⟩]⟩,
   ⟨fun _ => "CCH_OVERRIDE", 0x40080030, 4, 1, fun _ => 0x0, [⟨"COUNT", 0, 32, .rc⟩]⟩]
/-- Rows of block PWR (Table MAP-3). -/
def rowsPWR : List RegRow :=
  [⟨fun _ => "PWR_STATE", 0x40010000, 4, 1, fun _ => 0x0, [⟨"STATE", 29, 3, .ro⟩, ⟨"IDLE_ARM", 28, 1, .ro⟩, ⟨"STEP", 24, 3, .ro⟩]⟩,
   ⟨fun _ => "PWR_LEVEL", 0x40010004, 4, 1, fun _ => 0x23, [⟨"THROTTLED", 16, 1, .ro⟩, ⟨"AVAIL", 8, 4, .ro⟩, ⟨"CUR", 4, 2, .ro⟩, ⟨"CFG", 0, 2, .ro⟩]⟩,
   ⟨fun _ => "PWR_NAPSET0", 0x40010008, 4, 1, fun _ => 0x0, [⟨"SET", 1, 31, .rw⟩]⟩,
   ⟨fun _ => "PWR_NAPSET1", 0x4001000C, 4, 1, fun _ => 0x7F05E, [⟨"SET", 0, 19, .rw⟩]⟩,
   ⟨fun _ => "PWR_TACK", 0x40010010, 4, 1, fun _ => 0x5003C, [⟨"TCH", 16, 4, .rw⟩, ⟨"PERIOD_S", 0, 12, .rw⟩]⟩,
   ⟨fun _ => "PWR_WAKEEN", 0x40010014, 4, 1, fun _ => 0x0, [⟨"PMBUS", 1, 1, .rw⟩, ⟨"LINING", 0, 1, .rw⟩]⟩,
   ⟨fun _ => "PWR_WAKESRC", 0x40010018, 4, 1, fun _ => 0x0, [⟨"ABORT", 28, 1, .ro⟩, ⟨"LATE", 27, 1, .ro⟩, ⟨"FROM", 24, 3, .ro⟩, ⟨"DETAIL", 8, 8, .ro⟩, ⟨"SRC", 0, 4, .ro⟩]⟩,
   ⟨fun _ => "PWR_WAKETIME", 0x4001001C, 4, 1, fun _ => 0x0, [⟨"T", 0, 32, .ro⟩]⟩,
   ⟨fun _ => "PWR_PSCNT", 0x40010020, 4, 1, fun _ => 0x0, [⟨"ENTRIES", 16, 16, .rc⟩, ⟨"WAKE_ABORTS", 0, 16, .rc⟩]⟩,
   ⟨fun _ => "PWR_VISITS", 0x40010024, 4, 1, fun _ => 0x0, [⟨"COUNT", 0, 32, .rc⟩]⟩,
   ⟨fun _ => "PWR_RETLOG", 0x40010028, 4, 1, fun _ => 0xFFF, [⟨"CLR", 31, 1, .w1s⟩, ⟨"MAX", 16, 12, .ro⟩, ⟨"MIN", 0, 12, .ro⟩]⟩,
   ⟨fun _ => "PWR_WTIMER", 0x4001002C, 4, 1, fun _ => 0x0, [⟨"S", 0, 24, .rw⟩]⟩,
   ⟨fun _ => "PWR_PMB", 0x40010030, 4, 1, fun _ => 0x40, [⟨"REV", 24, 8, .ro⟩, ⟨"OK", 17, 1, .ro⟩, ⟨"PEC", 16, 1, .ro⟩, ⟨"EXP", 8, 5, .ro⟩, ⟨"ADDR", 0, 7, .rw⟩]⟩,
   ⟨fun i => "PWR_VOUT" ++ toString i, 0x40010040, 4, 4, fun _ => 0x0, [⟨"MV", 0, 10, .ro⟩]⟩,
   ⟨fun i => "PWR_ACMP" ++ toString i, 0x40010060, 4, 1, fun _ => 0x103FF, [⟨"CROSS", 25, 1, .w1c⟩, ⟨"OUT", 24, 1, .ro⟩, ⟨"WAKE", 17, 1, .ro⟩, ⟨"POL", 16, 1, .ro⟩, ⟨"HYST", 12, 2, .ro⟩, ⟨"THRESH", 0, 10, .ro⟩]⟩,
   ⟨fun i => "PWR_ACMP" ++ toString (i + 1), 0x40010064, 4, 2, fun _ => 0x103FF, [⟨"CROSS", 25, 1, .w1c⟩, ⟨"OUT", 24, 1, .ro⟩, ⟨"WAKE", 17, 1, .rw⟩, ⟨"POL", 16, 1, .ro⟩, ⟨"HYST", 12, 2, .ro⟩, ⟨"THRESH", 0, 10, .ro⟩]⟩,
   ⟨fun i => "PWR_ACMP" ++ toString (i + 3), 0x4001006C, 4, 5, fun _ => 0x103FF, [⟨"CROSS", 25, 1, .w1c⟩, ⟨"OUT", 24, 1, .ro⟩, ⟨"WAKE", 17, 1, .rw⟩, ⟨"POL", 16, 1, .rw⟩, ⟨"HYST", 12, 2, .rw⟩, ⟨"THRESH", 0, 10, .rw⟩]⟩,
   ⟨fun i => "PWR_AWIN" ++ toString i, 0x40010080, 4, 4, fun _ => 0xFFF000, [⟨"EN", 31, 1, .rw⟩, ⟨"CH", 24, 4, .rw⟩, ⟨"HIGH", 12, 12, .rw⟩, ⟨"LOW", 0, 12, .rw⟩]⟩,
   ⟨fun i => "PWR_ADC" ++ toString i, 0x400100A0, 4, 10, fun _ => 0x0, [⟨"CODE", 0, 12, .ro⟩]⟩,
   ⟨fun _ => "PWR_DREQ", 0x40010100, 4, 1, fun _ => 0x1, [⟨"START", 31, 1, .w1s⟩, ⟨"OP", 28, 2, .rw⟩, ⟨"MODE", 24, 1, .rw⟩, ⟨"DOMAIN", 0, 6, .rw⟩]⟩,
   ⟨fun _ => "PWR_DRES", 0x40010104, 4, 1, fun _ => 0x0, [⟨"BUSY", 31, 1, .ro⟩, ⟨"DOMAIN", 24, 6, .ro⟩, ⟨"STATUS", 0, 16, .ro⟩]⟩,
   ⟨fun _ => "PWR_DRAIN", 0x40010108, 4, 1, fun _ => 0x64, [⟨"US", 0, 14, .rw⟩]⟩,
   ⟨fun _ => "PWR_REFUSE", 0x4001010C, 4, 1, fun _ => 0x0, [⟨"COUNT", 16, 16, .rc⟩, ⟨"LAST", 0, 8, .ro⟩]⟩,
   ⟨fun _ => "PWR_ABORT", 0x40010110, 4, 1, fun _ => 0x0, [⟨"ENDED", 16, 16, .rc⟩, ⟨"REISSUED", 0, 16, .rc⟩]⟩,
   ⟨fun _ => "PWR_FENCE", 0x40010114, 4, 1, fun _ => 0x0, [⟨"COUNT", 0, 32, .rc⟩]⟩,
   ⟨fun _ => "PWR_LATE", 0x40010118, 4, 1, fun _ => 0x0, [⟨"COUNT", 0, 32, .rc⟩]⟩,
   ⟨fun _ => "PWR_BUSERR", 0x4001011C, 4, 1, fun _ => 0x0, [⟨"COUNT", 16, 16, .rc⟩, ⟨"DOMAIN", 0, 6, .ro⟩]⟩,
   ⟨fun _ => "PWR_HUNG", 0x40010120, 4, 1, fun _ => 0x0, [⟨"COUNT", 16, 16, .rc⟩, ⟨"DOMAIN", 0, 6, .ro⟩]⟩,
   ⟨fun i => "PWR_DSTAT" ++ toString i, 0x40010200, 4, 51, fun i => [0x30000, 0x400, 0x600, 0x600, 0x600, 0x400, 0x600, 0x600, 0x600, 0x400, 0x600, 0x600, 0x600, 0x400, 0x600, 0x600, 0x600, 0x600, 0x600, 0x600, 0x600, 0x600, 0x600, 0x600, 0x600, 0x600, 0x600, 0x600, 0x600, 0x0, 0x0, 0x0, 0x0, 0x600, 0x600, 0x600, 0x600, 0x0, 0x600, 0x0, 0x600, 0x600, 0x600, 0x0, 0x0, 0x600, 0x600, 0x600, 0x600, 0x0, 0x600].getD i 0, [⟨"EPOCH", 24, 8, .ro⟩, ⟨"STATE", 16, 3, .ro⟩, ⟨"DRAINING", 12, 1, .ro⟩, ⟨"CMD_OFF", 11, 1, .ro⟩, ⟨"RESETTABLE", 10, 1, .ro⟩, ⟨"OFFABLE", 9, 1, .ro⟩, ⟨"CHECKFAIL", 0, 8, .rc⟩]⟩]
/-- Rows of block LIN (Table MAP-3). -/
def rowsLIN : List RegRow :=
  [⟨fun _ => "LIN_CFG", 0x40020000, 4, 1, fun _ => 0xC1A41328, [⟨"CHG_EN", 31, 1, .rw⟩, ⟨"DEAD", 28, 3, .rw⟩, ⟨"FLOAT", 16, 10, .rw⟩, ⟨"HYST", 12, 2, .rw⟩, ⟨"ILIM", 8, 4, .rw⟩, ⟨"SLOT_W", 0, 8, .rw⟩]⟩,
   ⟨fun _ => "LIN_STAT", 0x40020004, 4, 1, fun _ => 0x0, [⟨"THROUGH_ALL", 12, 1, .ro⟩, ⟨"DEGRADED", 11, 1, .ro⟩, ⟨"ABSENT", 10, 1, .ro⟩, ⟨"ESTIMATED", 9, 1, .ro⟩, ⟨"CHARGED", 8, 1, .ro⟩, ⟨"STATE", 0, 3, .ro⟩]⟩,
   ⟨fun _ => "LIN_VI", 0x40020008, 4, 1, fun _ => 0x0, [⟨"I_MA", 16, 16, .ro⟩, ⟨"VOC_MV", 0, 16, .ro⟩]⟩,
   ⟨fun _ => "LIN_TEMP", 0x4002000C, 4, 1, fun _ => 0x0, [⟨"T_DC", 0, 16, .ro⟩]⟩,
   ⟨fun _ => "LIN_CAP", 0x40020010, 4, 1, fun _ => 0x0, [⟨"USE_10MF", 16, 16, .ro⟩, ⟨"EST_10MF", 0, 16, .ro⟩]⟩,
   ⟨fun _ => "LIN_ESR", 0x40020014, 4, 1, fun _ => 0x3E80000, [⟨"MAX", 16, 16, .rw⟩, ⟨"EST", 0, 16, .ro⟩]⟩,
   ⟨fun _ => "LIN_AGE", 0x40020018, 4, 1, fun _ => 0xFFFFFFFF, [⟨"CAP_MIN", 16, 16, .ro⟩, ⟨"ESR_MIN", 0, 16, .ro⟩]⟩,
   ⟨fun _ => "LIN_NOM", 0x4002001C, 4, 1, fun _ => 0x0, [⟨"NOM_10MF", 0, 16, .ro⟩]⟩,
   ⟨fun _ => "LIN_K", 0x40020020, 4, 1, fun _ => 0x384C8032, [⟨"ETA", 20, 10, .rw⟩, ⟨"KDER", 10, 10, .rw⟩, ⟨"EFIX", 0, 10, .rw⟩]⟩,
   ⟨fun _ => "LIN_EB", 0x40020024, 4, 1, fun _ => 0x91964, [⟨"SAMPLES", 24, 4, .ro⟩, ⟨"FLOOR_W", 16, 8, .rw⟩, ⟨"PJ", 0, 16, .ro⟩]⟩,
   ⟨fun _ => "LIN_BUDGET", 0x40020028, 4, 1, fun _ => 0x8, [⟨"RAW_MIB", 8, 24, .ro⟩, ⟨"CAP", 0, 5, .rw⟩]⟩,
   ⟨fun _ => "LIN_ETA", 0x4002002C, 4, 1, fun _ => 0xFFFFFFFF, [⟨"CAP_S", 16, 16, .ro⟩, ⟨"FLOAT_S", 0, 16, .ro⟩]⟩,
   ⟨fun _ => "LIN_FAULT", 0x40020030, 4, 1, fun _ => 0x0, [⟨"SLOT_LIMIT", 7, 1, .w1c⟩, ⟨"CONVERTER", 6, 1, .w1c⟩, ⟨"CAP_LOW", 5, 1, .w1c⟩, ⟨"ESR_HIGH", 4, 1, .w1c⟩, ⟨"SENSOR", 3, 1, .w1c⟩, ⟨"COLD", 2, 1, .w1c⟩, ⟨"HOT", 1, 1, .w1c⟩, ⟨"OVERVOLT", 0, 1, .w1c⟩]⟩,
   ⟨fun _ => "LIN_PROBE", 0x40020034, 4, 1, fun _ => 0x0, [⟨"START", 31, 1, .w1s⟩]⟩]
/-- Rows of block RMV (Table MAP-3). -/
def rowsRMV : List RegRow :=
  [⟨fun _ => "RMV_CFG", 0x40030000, 4, 1, fun _ => 0xB06C7264, [⟨"VIN_EN", 31, 1, .rw⟩, ⟨"FLUSH_PL", 28, 2, .rw⟩, ⟨"VIN_TRIP", 16, 8, .rw⟩, ⟨"VIN_OK", 8, 8, .rw⟩, ⟨"HOLD_V", 0, 8, .rw⟩]⟩,
   ⟨fun _ => "RMV_STAT", 0x40030004, 4, 1, fun _ => 0x0, [⟨"SEATED", 16, 1, .ro⟩, ⟨"REINSERT", 12, 1, .ro⟩, ⟨"CAUSE", 8, 3, .ro⟩, ⟨"PHASE", 0, 4, .ro⟩]⟩,
   ⟨fun _ => "RMV_CTL", 0x40030008, 4, 1, fun _ => 0x0, [⟨"DRILL", 31, 1, .w1s⟩]⟩,
   ⟨fun _ => "RMV_FLUSHED", 0x4003000C, 4, 1, fun _ => 0x0, [⟨"MIB", 0, 32, .ro⟩]⟩,
   ⟨fun _ => "RMV_TIME", 0x40030010, 4, 1, fun _ => 0x0, [⟨"FLUSH_MS", 16, 16, .ro⟩, ⟨"SINCE_MS", 0, 16, .ro⟩]⟩,
   ⟨fun _ => "RMV_VBANK", 0x40030014, 4, 1, fun _ => 0x0, [⟨"END_MV", 16, 16, .ro⟩, ⟨"START_MV", 0, 16, .ro⟩]⟩]
/-- Rows of block SEAM (Table MAP-3). -/
def rowsSEAM : List RegRow :=
  [⟨fun _ => "SEAM_CFG", 0x40050000, 4, 1, fun _ => 0x80320200, [⟨"JOIN", 31, 1, .rw⟩, ⟨"DARN_SHARE", 16, 7, .rw⟩, ⟨"RATE_MAX", 8, 2, .rw⟩, ⟨"ONE_LANE", 4, 1, .rw⟩]⟩,
   ⟨fun _ => "SEAM_STAT", 0x40050004, 4, 1, fun _ => 0xFFFF, [⟨"RING", 30, 2, .ro⟩, ⟨"DUPSLOT", 28, 1, .ro⟩, ⟨"MEMBERS", 16, 5, .ro⟩, ⟨"MANTLE", 8, 8, .ro⟩, ⟨"STANDBY", 0, 8, .ro⟩]⟩,
   ⟨fun _ => "SEAM_PORTE", 0x40050008, 4, 1, fun _ => 0xFF00, [⟨"BYP_OPEN", 31, 1, .ro⟩, ⟨"STATE", 28, 3, .ro⟩, ⟨"RATE", 24, 2, .ro⟩, ⟨"LANES2", 20, 1, .ro⟩, ⟨"PARTNER", 8, 8, .ro⟩]⟩,
   ⟨fun _ => "SEAM_PORTW", 0x4005000C, 4, 1, fun _ => 0xFF00, [⟨"BYP_OPEN", 31, 1, .ro⟩, ⟨"STATE", 28, 3, .ro⟩, ⟨"RATE", 24, 2, .ro⟩, ⟨"LANES2", 20, 1, .ro⟩, ⟨"PARTNER", 8, 8, .ro⟩]⟩,
   ⟨fun _ => "SEAM_PSERE", 0x40050010, 4, 1, fun _ => 0x0, [⟨"SERIAL", 0, 32, .ro⟩]⟩,
   ⟨fun _ => "SEAM_PSERW", 0x40050014, 4, 1, fun _ => 0x0, [⟨"SERIAL", 0, 32, .ro⟩]⟩,
   ⟨fun _ => "SEAM_ROSTER", 0x40050018, 4, 1, fun _ => 0x0, [⟨"MASK", 0, 24, .ro⟩]⟩,
   ⟨fun _ => "SEAM_TWIN", 0x40050020, 4, 1, fun _ => 0xFF0000, [⟨"STATE", 28, 4, .ro⟩, ⟨"ROLE", 24, 1, .ro⟩, ⟨"PARTNER", 16, 8, .ro⟩, ⟨"TWIN_WK", 8, 6, .ro⟩]⟩,
   ⟨fun _ => "SEAM_TSEQ_LO", 0x40050024, 4, 1, fun _ => 0x0, [⟨"TSEQ", 0, 32, .ro⟩]⟩,
   ⟨fun _ => "SEAM_TSEQ_HI", 0x40050028, 4, 1, fun _ => 0x0, [⟨"TSEQ", 0, 32, .ro⟩]⟩,
   ⟨fun _ => "SEAM_TCONF_LO", 0x4005002C, 4, 1, fun _ => 0x0, [⟨"TSEQ", 0, 32, .ro⟩]⟩,
   ⟨fun _ => "SEAM_TCONF_HI", 0x40050030, 4, 1, fun _ => 0x0, [⟨"TSEQ", 0, 32, .ro⟩]⟩,
   ⟨fun _ => "SEAM_DARN", 0x40050034, 4, 1, fun _ => 0x0, [⟨"REMAIN", 0, 32, .ro⟩]⟩,
   ⟨fun _ => "SEAM_DARNCNT", 0x40050038, 4, 1, fun _ => 0x0, [⟨"RECOPY", 16, 16, .rc⟩, ⟨"NOTAG", 0, 16, .rc⟩]⟩,
   ⟨fun _ => "SEAM_MANTLE", 0x40050040, 4, 1, fun _ => 0x0, [⟨"STATE", 29, 3, .ro⟩]⟩,
   ⟨fun _ => "SEAM_MINUTE", 0x40050044, 4, 1, fun _ => 0x0, [⟨"MINUTE", 0, 32, .ro⟩]⟩,
   ⟨fun _ => "SEAM_GRID", 0x40050048, 4, 1, fun _ => 0x0, [⟨"GRID", 0, 13, .ro⟩]⟩,
   ⟨fun _ => "SEAM_BEATMISS", 0x40050050, 4, 1, fun _ => 0x0, [⟨"COUNT", 0, 32, .rc⟩]⟩,
   ⟨fun _ => "SEAM_CRCERR", 0x40050060, 4, 1, fun _ => 0x0, [⟨"W", 16, 16, .rc⟩, ⟨"E", 0, 16, .rc⟩]⟩,
   ⟨fun _ => "SEAM_REP", 0x40050064, 4, 1, fun _ => 0x0, [⟨"W", 16, 16, .rc⟩, ⟨"E", 0, 16, .rc⟩]⟩,
   ⟨fun _ => "SEAM_HOPRST", 0x40050068, 4, 1, fun _ => 0x0, [⟨"W", 16, 16, .rc⟩, ⟨"E", 0, 16, .rc⟩]⟩,
   ⟨fun _ => "SEAM_DROP", 0x4005006C, 4, 1, fun _ => 0x0, [⟨"COUNT", 0, 32, .rc⟩]⟩,
   ⟨fun _ => "SEAM_DUP", 0x40050070, 4, 1, fun _ => 0x0, [⟨"COUNT", 0, 32, .rc⟩]⟩]
/-- Rows of block KEY (Table MAP-3). -/
def rowsKEY : List RegRow :=
  [⟨fun _ => "KEY_STAT", 0x40090000, 4, 1, fun _ => 0x0, [⟨"LOADED_DK", 12, 10, .ro⟩, ⟨"LOADED_WK", 5, 7, .ro⟩, ⟨"JLOST", 2, 1, .ro⟩, ⟨"BUSY", 1, 1, .ro⟩, ⟨"ACTIVE", 0, 1, .ro⟩]⟩,
   ⟨fun _ => "KEY_JSEQ", 0x40090004, 4, 1, fun _ => 0x0, [⟨"JSEQ", 0, 32, .ro⟩]⟩,
   ⟨fun _ => "KEY_SEL", 0x40090008, 4, 1, fun _ => 0x0, [⟨"SLOT", 0, 10, .rw⟩]⟩,
   ⟨fun _ => "KEY_INFO", 0x4009000C, 4, 1, fun _ => 0x0, [⟨"STATE", 30, 2, .ro⟩, ⟨"UPDATE_LOST", 29, 1, .ro⟩, ⟨"KIND", 16, 8, .ro⟩, ⟨"OWNER", 8, 8, .ro⟩]⟩,
   ⟨fun _ => "KEY_KCV", 0x40090010, 4, 1, fun _ => 0x0, [⟨"KCV", 0, 24, .ro⟩]⟩,
   ⟨fun _ => "KEY_LATCH", 0x40090014, 4, 1, fun _ => 0x0, [⟨"COUNT", 0, 12, .ro⟩]⟩,
   ⟨fun _ => "KEY_RBCTL", 0x40090020, 4, 1, fun _ => 0x0, [⟨"START", 31, 1, .w1s⟩, ⟨"DIR", 30, 1, .rw⟩, ⟨"ERR", 29, 1, .ro⟩, ⟨"SLOT", 0, 10, .rw⟩]⟩,
   ⟨fun i => "KEY_RBIN" ++ toString i, 0x40090024, 4, 4, fun _ => 0x0, [⟨"DATA", 0, 32, .rw⟩]⟩,
   ⟨fun i => "KEY_RBOUT" ++ toString i, 0x40090034, 4, 4, fun _ => 0x0, [⟨"DATA", 0, 32, .ro⟩]⟩,
   ⟨fun _ => "KEY_UNWRAP", 0x40090044, 4, 1, fun _ => 0x0, [⟨"FAIL", 16, 16, .rc⟩, ⟨"OK", 0, 16, .rc⟩]⟩]
/-- Rows of block CIP (Table MAP-3). -/
def rowsCIP : List RegRow :=
  [⟨fun _ => "CIP_STAT", 0x400A0000, 4, 1, fun _ => 0x0, [⟨"KV_IN", 9, 1, .ro⟩, ⟨"IC_IN", 8, 1, .ro⟩, ⟨"CORE_IN", 0, 8, .ro⟩]⟩,
   ⟨fun _ => "CIP_NONCE_LO", 0x400A0004, 4, 1, fun _ => 0x0, [⟨"COUNT", 0, 32, .ro⟩]⟩,
   ⟨fun _ => "CIP_NONCE_HI", 0x400A0008, 4, 1, fun _ => 0x0, [⟨"COUNT", 0, 32, .ro⟩]⟩,
   ⟨fun _ => "CIP_NRES_LO", 0x400A000C, 4, 1, fun _ => 0x0, [⟨"LIMIT", 0, 32, .ro⟩]⟩,
   ⟨fun _ => "CIP_NRES_HI", 0x400A0010, 4, 1, fun _ => 0x0, [⟨"LIMIT", 0, 32, .ro⟩]⟩,
   ⟨fun _ => "CIP_ENC", 0x400A0014, 4, 1, fun _ => 0x0, [⟨"BLOCKS", 0, 32, .rc⟩]⟩,
   ⟨fun _ => "CIP_DEC", 0x400A0018, 4, 1, fun _ => 0x0, [⟨"BLOCKS", 0, 32, .rc⟩]⟩,
   ⟨fun _ => "CIP_MACFAIL", 0x400A001C, 4, 1, fun _ => 0x0, [⟨"COUNT", 0, 32, .rc⟩]⟩,
   ⟨fun _ => "CIP_KAT", 0x400A0020, 4, 1, fun _ => 0x0, [⟨"FAIL", 8, 4, .ro⟩, ⟨"PASS", 0, 4, .ro⟩]⟩,
   ⟨fun _ => "CIP_NWAIT", 0x400A0024, 4, 1, fun _ => 0x0, [⟨"COUNT", 0, 32, .rc⟩]⟩,
   ⟨fun i => "CIP_PUNIT" ++ toString i, 0x400A0040, 4, 8, fun _ => 0x0, [⟨"UNIT512", 0, 32, .ro⟩]⟩]
/-- Rows of block MPU that repeat over c (Table MAP-3). -/
def rowsMPUOf (c : Nat) : List RegRow :=
  [⟨fun _ => "MPU" ++ toString c ++ "_CTL", 0x400B0000 + 0x100 * c, 4, 1, fun _ => 0x0, [⟨"P1ACT", 2, 1, .ro⟩, ⟨"LOCK", 1, 1, .w1s⟩, ⟨"EN", 0, 1, .rw⟩]⟩,
   ⟨fun _ => "MPU" ++ toString c ++ "_FSTAT", 0x400B0004 + 0x100 * c, 4, 1, fun _ => 0xFF, [⟨"COUNT", 16, 16, .rc⟩, ⟨"ACCESS", 12, 2, .ro⟩, ⟨"PRIV", 8, 1, .ro⟩, ⟨"REGION", 0, 8, .ro⟩]⟩,
   ⟨fun _ => "MPU" ++ toString c ++ "_FADDR", 0x400B0008 + 0x100 * c, 4, 1, fun _ => 0x0, [⟨"ADDR", 0, 32, .ro⟩]⟩,
   ⟨fun i => "MPU" ++ toString c ++ "_RBASE" ++ toString i, 0x400B0040 + 0x100 * c, 8, 16, fun _ => 0x0, [⟨"BASE", 5, 27, .rw⟩]⟩,
   ⟨fun i => "MPU" ++ toString c ++ "_RATTR" ++ toString i, 0x400B0044 + 0x100 * c, 8, 16, fun _ => 0x50000, [⟨"EN", 31, 1, .rw⟩, ⟨"N", 16, 6, .rw⟩, ⟨"P1", 4, 3, .rw⟩, ⟨"P0", 0, 3, .rw⟩]⟩]
/-- Rows of block MPU (Table MAP-3). -/
def rowsMPU : List RegRow :=
  [⟨fun _ => "MPU_EXT", 0x400B0200, 4, 1, fun _ => 0x0, [⟨"STATE", 30, 2, .ro⟩, ⟨"KEYSLOT", 16, 10, .ro⟩, ⟨"RESTARTS", 0, 4, .ro⟩]⟩,
   ⟨fun _ => "MPU_EXTLEN", 0x400B0204, 4, 1, fun _ => 0x0, [⟨"LENGTH", 0, 18, .ro⟩]⟩] ++ rowsMPUOf 0 ++ rowsMPUOf 1
/-- Rows of block TAG (Table MAP-3). -/
def rowsTAG : List RegRow :=
  [⟨fun _ => "TAG_TBASE0", 0x400C0000, 4, 1, fun _ => 0x0, [⟨"BASE_4K", 0, 32, .ro⟩]⟩,
   ⟨fun _ => "TAG_TBASE1", 0x400C0004, 4, 1, fun _ => 0x0, [⟨"BASE_4K", 0, 32, .ro⟩]⟩,
   ⟨fun _ => "TAG_HIT0", 0x400C0008, 4, 1, fun _ => 0x0, [⟨"COUNT", 0, 32, .rc⟩]⟩,
   ⟨fun _ => "TAG_HIT1", 0x400C0010, 4, 1, fun _ => 0x0, [⟨"COUNT", 0, 32, .rc⟩]⟩,
   ⟨fun _ => "TAG_MISS0", 0x400C000C, 4, 1, fun _ => 0x0, [⟨"COUNT", 0, 32, .rc⟩]⟩,
   ⟨fun _ => "TAG_MISS1", 0x400C0014, 4, 1, fun _ => 0x0, [⟨"COUNT", 0, 32, .rc⟩]⟩,
   ⟨fun _ => "TAG_FTOTAL", 0x400C0018, 4, 1, fun _ => 0x0, [⟨"COUNT", 0, 32, .ro⟩]⟩,
   ⟨fun _ => "TAG_FHEAD", 0x400C001C, 4, 1, fun _ => 0x0, [⟨"INDEX", 0, 6, .ro⟩]⟩,
   ⟨fun _ => "TAG_FSEL", 0x400C0020, 4, 1, fun _ => 0x0, [⟨"INDEX", 0, 6, .rw⟩]⟩,
   ⟨fun i => "TAG_FREC" ++ toString i, 0x400C0024, 4, 8, fun _ => 0x0, [⟨"DATA", 0, 32, .ro⟩]⟩,
   ⟨fun _ => "TAG_WADDR", 0x400C0060, 4, 1, fun _ => 0x0, [⟨"LINE", 0, 32, .rw⟩]⟩,
   ⟨fun _ => "TAG_WCTL", 0x400C0064, 4, 1, fun _ => 0x0, [⟨"START", 31, 1, .w1s⟩, ⟨"ERR", 30, 1, .ro⟩, ⟨"VALUE", 0, 8, .rw⟩]⟩,
   ⟨fun i => "TAG_STG" ++ toString i, 0x400C1000, 4, 256, fun _ => 0x0, [⟨"COLOUR0", 0, 8, .ro⟩, ⟨"COLOUR1", 8, 8, .ro⟩, ⟨"COLOUR2", 16, 8, .ro⟩, ⟨"COLOUR3", 24, 8, .ro⟩]⟩]
/-- Rows of block HTG (Table MAP-3). -/
def rowsHTG : List RegRow :=
  [⟨fun _ => "HTG_CFG", 0x400D0000, 4, 1, fun _ => 0x1000, [⟨"K", 0, 16, .rw⟩]⟩,
   ⟨fun _ => "HTG_BASE", 0x400D0004, 4, 1, fun _ => 0x40000, [⟨"BASE", 0, 32, .rw⟩]⟩,
   ⟨fun _ => "HTG_MINUTE", 0x400D0008, 4, 1, fun _ => 0x0, [⟨"MINUTE", 0, 32, .ro⟩]⟩,
   ⟨fun _ => "HTG_STAT", 0x400D000C, 4, 1, fun _ => 0x80000000, [⟨"UNSYNC", 31, 1, .ro⟩, ⟨"LOCAL", 30, 1, .ro⟩, ⟨"SAMPLES", 0, 20, .ro⟩]⟩,
   ⟨fun _ => "HTG_SPILL", 0x400D0010, 4, 1, fun _ => 0x0, [⟨"COUNT", 0, 32, .rc⟩]⟩,
   ⟨fun _ => "HTG_LOST", 0x400D0014, 4, 1, fun _ => 0x0, [⟨"COUNT", 0, 32, .rc⟩]⟩,
   ⟨fun _ => "HTG_PENDING", 0x400D0018, 4, 1, fun _ => 0x0, [⟨"COUNT", 0, 13, .ro⟩]⟩,
   ⟨fun _ => "HTG_LASTE", 0x400D001C, 4, 1, fun _ => 0x0, [⟨"NJ", 0, 26, .ro⟩]⟩,
   ⟨fun _ => "HTG_PSEL", 0x400D0020, 4, 1, fun _ => 0x0, [⟨"METER", 8, 3, .rw⟩, ⟨"POCKET", 0, 8, .rw⟩]⟩,
   ⟨fun _ => "HTG_PACC_LO", 0x400D0024, 4, 1, fun _ => 0x0, [⟨"VALUE", 0, 32, .ro⟩]⟩,
   ⟨fun _ => "HTG_PACC_HI", 0x400D0028, 4, 1, fun _ => 0x0, [⟨"GUARD", 0, 8, .ro⟩]⟩,
   ⟨fun _ => "HTG_PTOT_LO", 0x400D002C, 4, 1, fun _ => 0x0, [⟨"TOTAL", 0, 32, .ro⟩]⟩,
   ⟨fun _ => "HTG_PTOT_HI", 0x400D0030, 4, 1, fun _ => 0x0, [⟨"TOTAL", 0, 32, .ro⟩]⟩,
   ⟨fun _ => "HTG_PSPILL", 0x400D0034, 4, 1, fun _ => 0x0, [⟨"COUNT", 0, 16, .ro⟩]⟩,
   ⟨fun _ => "HTG_PGEN", 0x400D0038, 4, 1, fun _ => 0x0, [⟨"GEN", 0, 32, .ro⟩]⟩,
   ⟨fun _ => "HTG_BSEL", 0x400D0040, 4, 1, fun _ => 0x0, [⟨"STATE", 30, 2, .ro⟩, ⟨"INDEX", 16, 4, .rw⟩, ⟨"POCKET", 0, 8, .rw⟩]⟩,
   ⟨fun i => "HTG_BUF" ++ toString i, 0x400D0080, 4, 32, fun _ => 0x0, [⟨"DATA", 0, 32, .ro⟩]⟩]
/-- Rows of block ECC that repeat over n (Table MAP-3). -/
def rowsECCOf (n : Nat) : List RegRow :=
  [⟨fun i => "ECC_DREMAP" ++ toString n ++ "_" ++ toString i, 0x400E0200 + 0x40 * n, 4, 16, fun _ => 0x0, [⟨"VALID", 31, 1, .ro⟩, ⟨"LINE", 0, 29, .ro⟩]⟩]
/-- Rows of block ECC (Table MAP-3). -/
def rowsECC : List RegRow :=
  [⟨fun _ => "ECC_CFG", 0x400E0000, 4, 1, fun _ => 0x4B0C4006, [⟨"REFRESH_PCT", 24, 8, .rw⟩, ⟨"RETRY_STEPS", 16, 4, .rw⟩, ⟨"RB_STEPS", 12, 4, .rw⟩, ⟨"PATROL_EN", 2, 1, .rw⟩, ⟨"SCRUB_EN", 1, 1, .rw⟩]⟩,
   ⟨fun _ => "ECC_STR", 0x400E0004, 4, 1, fun _ => 0x6200028, [⟨"Z", 24, 4, .rw⟩, ⟨"GROWTH", 16, 8, .rw⟩, ⟨"FIXED_T", 8, 8, .rw⟩, ⟨"T_INIT", 0, 8, .rw⟩]⟩,
   ⟨fun i => "ECC_RRSTEP" ++ toString i, 0x400E0040, 4, 12, fun i => [0xFE, 0xFC, 0xFA, 0xF8, 0x2, 0xF6, 0xF4, 0x4, 0xF2, 0xF0, 0xEC, 0xE8].getD i 0, [⟨"OFFSET", 0, 8, .rw⟩]⟩,
   ⟨fun _ => "ECC_FCORR", 0x400E0010, 4, 1, fun _ => 0x0, [⟨"BITS", 0, 32, .rc⟩]⟩,
   ⟨fun _ => "ECC_FRETRY", 0x400E0014, 4, 1, fun _ => 0x0, [⟨"RETRY_OK", 16, 16, .rc⟩, ⟨"REBUILD_OK", 0, 16, .rc⟩]⟩,
   ⟨fun _ => "ECC_FUNC", 0x400E0018, 4, 1, fun _ => 0x0, [⟨"COUNT", 0, 32, .rc⟩]⟩,
   ⟨fun _ => "ECC_SCORR", 0x400E001C, 4, 1, fun _ => 0x0, [⟨"UNC", 16, 16, .rc⟩, ⟨"CORR", 0, 16, .rc⟩]⟩,
   ⟨fun _ => "ECC_SLAST", 0x400E0020, 4, 1, fun _ => 0x0, [⟨"DOMAIN", 8, 8, .ro⟩, ⟨"ARRAY", 0, 8, .ro⟩]⟩,
   ⟨fun _ => "ECC_DCORR", 0x400E0024, 4, 1, fun _ => 0x0, [⟨"CH1", 16, 16, .rc⟩, ⟨"CH0", 0, 16, .rc⟩]⟩,
   ⟨fun _ => "ECC_DUNC", 0x400E0028, 4, 1, fun _ => 0x0, [⟨"CH1", 16, 16, .rc⟩, ⟨"CH0", 0, 16, .rc⟩]⟩,
   ⟨fun _ => "ECC_DMARK", 0x400E002C, 4, 1, fun _ => 0xFFF0FFF, [⟨"CH1", 16, 12, .ro⟩, ⟨"CH0", 0, 12, .ro⟩]⟩,
   ⟨fun _ => "ECC_DSCRUB", 0x400E0030, 4, 1, fun _ => 0x0, [⟨"LAP_S", 16, 16, .ro⟩]⟩,
   ⟨fun _ => "ECC_FPATROL", 0x400E0034, 4, 1, fun _ => 0x1500000, [⟨"WARN_H", 16, 16, .rw⟩, ⟨"LAP_H", 0, 16, .ro⟩]⟩,
   ⟨fun _ => "ECC_SELFTEST", 0x400E0038, 4, 1, fun _ => 0x0, [⟨"FAIL_DOMAIN", 24, 8, .ro⟩, ⟨"PASS", 0, 3, .ro⟩]⟩,
   ⟨fun _ => "ECC_INJ", 0x400E003C, 4, 1, fun _ => 0x1, [⟨"ARM", 31, 1, .w1s⟩, ⟨"TARGET", 24, 3, .rw⟩, ⟨"UNIT", 16, 8, .rw⟩, ⟨"BITS", 0, 8, .rw⟩]⟩,
   ⟨fun i => "ECC_GRBER" ++ toString i, 0x400E0100, 4, 16, fun _ => 0x0, [⟨"TNEXT", 24, 8, .ro⟩, ⟨"PPB", 0, 24, .ro⟩]⟩] ++ rowsECCOf 0 ++ rowsECCOf 1
/-- Rows of block BIST (Table MAP-3). -/
def rowsBIST : List RegRow :=
  [⟨fun _ => "BIST_CTL", 0x400F0000, 4, 1, fun _ => 0x101, [⟨"START", 31, 1, .w1s⟩, ⟨"DOMAIN", 8, 6, .rw⟩, ⟨"SWATCH", 0, 6, .rw⟩]⟩,
   ⟨fun _ => "BIST_STAT", 0x400F0004, 4, 1, fun _ => 0x0, [⟨"BUSY", 31, 1, .ro⟩, ⟨"RESULT", 24, 3, .ro⟩, ⟨"STATUS", 0, 16, .ro⟩]⟩,
   ⟨fun _ => "BIST_TIME", 0x400F0008, 4, 1, fun _ => 0x0, [⟨"US", 0, 32, .ro⟩]⟩,
   ⟨fun _ => "BIST_DETAIL", 0x400F000C, 4, 1, fun _ => 0x0, [⟨"DETAIL", 0, 32, .ro⟩]⟩,
   ⟨fun i => "BIST_RES" ++ toString (i + 1), 0x400F0104, 4, 40, fun _ => 0, [⟨"RESULT", 28, 4, .ro⟩, ⟨"DOMAIN", 16, 6, .ro⟩, ⟨"FAILS", 8, 8, .ro⟩, ⟨"RUNS", 0, 8, .ro⟩]⟩]
/-- Rows of block LCS (Table MAP-3). -/
def rowsLCS : List RegRow :=
  [⟨fun _ => "LCS_STATE", 0x40100000, 4, 1, fun _ => 0x0, [⟨"BITS", 8, 4, .ro⟩, ⟨"STATE", 0, 3, .ro⟩]⟩,
   ⟨fun _ => "LCS_GATE", 0x40100004, 4, 1, fun _ => 0x0, [⟨"GATES", 0, 9, .ro⟩]⟩,
   ⟨fun _ => "LCS_COPIES", 0x40100008, 4, 1, fun _ => 0x0, [⟨"BITS", 0, 12, .ro⟩]⟩,
   ⟨fun _ => "LCS_CTL", 0x4010000C, 4, 1, fun _ => 0x0, [⟨"START", 31, 1, .w1s⟩, ⟨"KEY", 16, 8, .wo⟩, ⟨"TARGET", 0, 3, .rw⟩]⟩,
   ⟨fun _ => "LCS_RESULT", 0x40100010, 4, 1, fun _ => 0x0, [⟨"STATUS", 0, 16, .ro⟩]⟩]
/-- Rows of block DRCn (Table MAP-3). -/
def rowsDRC (n : Nat) : List RegRow :=
  [⟨fun _ => "DRC" ++ toString n ++ "_CFG", 0x40110000 + 0x10000 * n, 4, 1, fun _ => 0x7, [⟨"DENS", 8, 2, .ro⟩, ⟨"POP", 4, 3, .ro⟩, ⟨"RATE_MAX", 3, 1, .rw⟩, ⟨"SPARE_EN", 2, 1, .rw⟩, ⟨"QOS", 1, 1, .rw⟩, ⟨"PAGE", 0, 1, .rw⟩]⟩,
   ⟨fun _ => "DRC" ++ toString n ++ "_STAT", 0x40110004 + 0x10000 * n, 4, 1, fun _ => 0x0, [⟨"SIZE_GIB", 24, 8, .ro⟩, ⟨"RATE", 4, 1, .ro⟩, ⟨"TRAIN", 0, 3, .ro⟩]⟩,
   ⟨fun _ => "DRC" ++ toString n ++ "_RANK", 0x40110008 + 0x10000 * n, 4, 1, fun _ => 0x40000, [⟨"STATE0", 0, 4, .ro⟩, ⟨"STATE1", 4, 4, .ro⟩, ⟨"STATE2", 8, 4, .ro⟩, ⟨"LOG0", 16, 2, .ro⟩, ⟨"LOG1", 18, 2, .ro⟩]⟩,
   ⟨fun _ => "DRC" ++ toString n ++ "_SPARE", 0x4011000C + 0x10000 * n, 4, 1, fun _ => 0x19, [⟨"PROGRESS", 16, 16, .ro⟩, ⟨"SHARE", 0, 7, .rw⟩]⟩,
   ⟨fun _ => "DRC" ++ toString n ++ "_PAGE", 0x40110010 + 0x10000 * n, 4, 1, fun _ => 0xC8, [⟨"IDLE_NS", 0, 13, .rw⟩]⟩,
   ⟨fun _ => "DRC" ++ toString n ++ "_GUARD", 0x40110014 + 0x10000 * n, 4, 1, fun _ => 0x7D0, [⟨"NS", 0, 16, .rw⟩]⟩,
   ⟨fun _ => "DRC" ++ toString n ++ "_ACT", 0x40110018 + 0x10000 * n, 4, 1, fun _ => 0x1000, [⟨"THRESH", 0, 16, .rw⟩]⟩,
   ⟨fun i => "DRC" ++ toString n ++ "_PORT" ++ toString i, 0x40110020 + 0x10000 * n, 4, 8, fun i => [0xC80006, 0x960007, 0x7D00002, 0x12C0005, 0x1F40004, 0x3E80003, 0xFA00001, 0x27100000].getD i 0, [⟨"TARGET_NS", 16, 16, .rw⟩, ⟨"PRIO", 0, 3, .rw⟩]⟩,
   ⟨fun i => "DRC" ++ toString n ++ "_HMASK" ++ toString i, 0x40110040 + 0x10000 * n, 4, 6, fun i => [0x220800, 0x1041, 0x2082, 0x4104, 0x88200, 0x110400].getD i 0, [⟨"MASK", 0, 29, .ro⟩]⟩,
   ⟨fun _ => "DRC" ++ toString n ++ "_FWD", 0x40110060 + 0x10000 * n, 4, 1, fun _ => 0x0, [⟨"COUNT", 0, 32, .rc⟩]⟩,
   ⟨fun _ => "DRC" ++ toString n ++ "_NBR", 0x40110064 + 0x10000 * n, 4, 1, fun _ => 0x0, [⟨"COUNT", 0, 32, .rc⟩]⟩,
   ⟨fun _ => "DRC" ++ toString n ++ "_RFM", 0x40110068 + 0x10000 * n, 4, 1, fun _ => 0x0, [⟨"COUNT", 0, 32, .rc⟩]⟩,
   ⟨fun _ => "DRC" ++ toString n ++ "_ERR", 0x4011006C + 0x10000 * n, 4, 1, fun _ => 0x0, [⟨"ALERT", 0, 16, .rc⟩]⟩,
   ⟨fun i => "DRC" ++ toString n ++ "_MISS" ++ toString i, 0x40110080 + 0x10000 * n, 4, 8, fun _ => 0x0, [⟨"COUNT", 0, 32, .rc⟩]⟩,
   ⟨fun _ => "DRC" ++ toString n ++ "_TPAT", 0x40110100 + 0x10000 * n, 4, 1, fun _ => 0x0, [⟨"START", 31, 1, .w1s⟩, ⟨"RANK", 8, 2, .rw⟩, ⟨"DIR", 4, 3, .rw⟩, ⟨"PAT", 0, 3, .rw⟩]⟩,
   ⟨fun _ => "DRC" ++ toString n ++ "_TLEN", 0x40110104 + 0x10000 * n, 4, 1, fun _ => 0x400, [⟨"LINES", 0, 20, .rw⟩]⟩,
   ⟨fun i => "DRC" ++ toString n ++ "_TUSER" ++ toString i, 0x40110140 + 0x10000 * n, 4, 16, fun _ => 0x0, [⟨"DATA", 0, 32, .rw⟩]⟩,
   ⟨fun i => "DRC" ++ toString n ++ "_TCMP" ++ toString i, 0x40110200 + 0x10000 * n, 4, 40, fun _ => 0x0, [⟨"MISS", 0, 16, .rc⟩]⟩,
   ⟨fun i => "DRC" ++ toString n ++ "_DLY" ++ "0_" ++ toString i, 0x40110300 + 0x10000 * n + 0x0, 4, 40, fun _ => 0x4040, [⟨"TX", 8, 7, .rw⟩, ⟨"RX", 0, 7, .rw⟩]⟩,
   ⟨fun i => "DRC" ++ toString n ++ "_DLY" ++ "1_" ++ toString i, 0x40110300 + 0x10000 * n + 0x100, 4, 40, fun _ => 0x4040, [⟨"TX", 8, 7, .rw⟩, ⟨"RX", 0, 7, .rw⟩]⟩,
   ⟨fun i => "DRC" ++ toString n ++ "_DLY" ++ "2_" ++ toString i, 0x40110300 + 0x10000 * n + 0x200, 4, 40, fun _ => 0x4040, [⟨"TX", 8, 7, .rw⟩, ⟨"RX", 0, 7, .rw⟩]⟩,
   ⟨fun i => "DRC" ++ toString n ++ "_DQS" ++ toString i, 0x40110600 + 0x10000 * n, 4, 5, fun _ => 0x800080, [⟨"DQS_TX", 16, 8, .rw⟩, ⟨"DQS_RX", 0, 8, .rw⟩]⟩]
/-- Rows of block FQq (Table MAP-3). -/
def rowsFQ (q : Nat) : List RegRow :=
  [⟨fun _ => "FQ" ++ toString q ++ "_STAT", 0x40200000 + 0x10000 * q, 4, 1, fun _ => 0x0, [⟨"STATE", 16, 2, .ro⟩, ⟨"LOOP_OK", 4, 4, .ro⟩, ⟨"HAS_DIE", 0, 4, .ro⟩]⟩,
   ⟨fun _ => "FQ" ++ toString q ++ "_ERR", 0x40200010 + 0x10000 * q, 4, 1, fun _ => 0x0, [⟨"PROG_FAIL", 16, 16, .rc⟩, ⟨"ERASE_FAIL", 0, 16, .rc⟩]⟩,
   ⟨fun _ => "FQ" ++ toString q ++ "_BAD", 0x40200014 + 0x10000 * q, 4, 1, fun _ => 0x0, [⟨"RETIRED", 0, 16, .ro⟩]⟩,
   ⟨fun i => "FQ" ++ toString q ++ "_LUN" ++ toString i, 0x40200100 + 0x10000 * q, 4, 64, fun _ => 0xF000000, [⟨"PRESENT", 31, 1, .ro⟩, ⟨"EXCLUDED", 30, 1, .ro⟩, ⟨"IFACE", 28, 2, .ro⟩, ⟨"RATE", 24, 4, .ro⟩, ⟨"PLANES_LOG2", 22, 2, .ro⟩, ⟨"WL_PAGES", 20, 2, .ro⟩, ⟨"TMAX", 12, 8, .ro⟩, ⟨"PAGES_M1", 0, 12, .ro⟩]⟩]
/-- Rows of block MAP (Table MAP-3). -/
def rowsMAP : List RegRow :=
  [⟨fun _ => "MAP_CFG", 0x40300000, 4, 1, fun _ => 0x400, [⟨"DIRTY_CAP", 0, 12, .rw⟩]⟩,
   ⟨fun _ => "MAP_STAT", 0x40300004, 4, 1, fun _ => 0x0, [⟨"DIRTY", 20, 12, .ro⟩, ⟨"RESIDENT", 0, 20, .ro⟩]⟩,
   ⟨fun _ => "MAP_CKPT", 0x40300008, 4, 1, fun _ => 0x0, [⟨"EFF_CAP", 20, 12, .ro⟩, ⟨"AGE_MS", 0, 20, .ro⟩]⟩,
   ⟨fun _ => "MAP_SEGS", 0x4030000C, 4, 1, fun _ => 0x0, [⟨"TOTAL", 0, 20, .ro⟩]⟩,
   ⟨fun _ => "MAP_DELTA", 0x40300010, 4, 1, fun _ => 0x0, [⟨"COUNT", 0, 32, .ro⟩]⟩,
   ⟨fun _ => "MAP_IDXSEL", 0x40300020, 4, 1, fun _ => 0x0, [⟨"ENTRY", 0, 20, .rw⟩]⟩,
   ⟨fun _ => "MAP_IDXVAL", 0x40300024, 4, 1, fun _ => 0x0, [⟨"VALUE", 0, 32, .ro⟩]⟩,
   ⟨fun i => "MAP_PBASE" ++ toString i, 0x40301000, 4, 256, fun _ => 0x0, [⟨"BASE", 0, 20, .ro⟩]⟩]
/-- Rows of block MOV (Table MAP-3). -/
def rowsMOV : List RegRow :=
  [⟨fun _ => "MOV_CFG", 0x40310000, 4, 1, fun _ => 0x70004, [⟨"OP_PCT", 16, 8, .rw⟩, ⟨"OPEN_HOST", 0, 4, .rw⟩]⟩,
   ⟨fun _ => "MOV_GC", 0x40310004, 4, 1, fun _ => 0x408, [⟨"URGENT", 8, 8, .rw⟩, ⟨"START", 0, 8, .rw⟩]⟩,
   ⟨fun _ => "MOV_WL", 0x40310008, 4, 1, fun _ => 0x1F4, [⟨"SPREAD", 0, 16, .rw⟩]⟩,
   ⟨fun _ => "MOV_FREE", 0x4031000C, 4, 1, fun _ => 0x0, [⟨"OPEN", 16, 16, .ro⟩, ⟨"FREE", 0, 16, .ro⟩]⟩,
   ⟨fun _ => "MOV_CAP_LO", 0x40310010, 4, 1, fun _ => 0x0, [⟨"STITCHES", 0, 32, .ro⟩]⟩,
   ⟨fun _ => "MOV_CAP_HI", 0x40310014, 4, 1, fun _ => 0x0, [⟨"STITCHES", 0, 2, .ro⟩]⟩,
   ⟨fun _ => "MOV_ERASE", 0x40310018, 4, 1, fun _ => 0x0, [⟨"MAX", 16, 16, .ro⟩, ⟨"MEAN", 0, 16, .ro⟩]⟩,
   ⟨fun _ => "MOV_COPY", 0x4031001C, 4, 1, fun _ => 0x0, [⟨"STITCHES", 0, 32, .rc⟩]⟩,
   ⟨fun _ => "MOV_STAT", 0x40310020, 4, 1, fun _ => 0x0, [⟨"READONLY", 8, 1, .ro⟩, ⟨"GC", 0, 2, .ro⟩]⟩]

/-- The rows of the 64 KiB register block an address lies in (Table MAP-2, R1120). -/
def blockRows (a : Nat) : List RegRow :=
  let b := a / 0x10000
  if b = 0x4000 then rowsSYS else
  if b = 0x4001 then rowsPWR else
  if b = 0x4002 then rowsLIN else
  if b = 0x4003 then rowsRMV else
  if b = 0x4004 then rowsSLV else
  if b = 0x4005 then rowsSEAM else
  if b = 0x4006 then rowsQUE else
  if b = 0x4007 then rowsPOC else
  if b = 0x4008 then rowsCCH else
  if b = 0x4009 then rowsKEY else
  if b = 0x400A then rowsCIP else
  if b = 0x400B then rowsMPU else
  if b = 0x400C then rowsTAG else
  if b = 0x400D then rowsHTG else
  if b = 0x400E then rowsECC else
  if b = 0x400F then rowsBIST else
  if b = 0x4010 then rowsLCS else
  if b = 0x4011 then rowsDRC 0 else
  if b = 0x4012 then rowsDRC 1 else
  if 0x4020 ≤ b ∧ b ≤ 0x402F then rowsFQ (b - 0x4020) else
  if b = 0x4030 then rowsMAP else
  if b = 0x4031 then rowsMOV else []

/-- Does a row hold the register at this address? -/
def RegRow.holds (r : RegRow) (a : Nat) : Bool :=
  decide (r.base ≤ a) && decide ((a - r.base) % r.stride = 0) && decide ((a - r.base) / r.stride < r.count)

/-- The row of the register at an address, if Table MAP-3 lists one there (R1120, R1125). -/
def findReg (a : Nat) : Option RegRow := (blockRows a).find? (fun r => r.holds a)

/-- The reset word of the register at an address (R23, Table MAP-3); 0 where no register is listed (R1120). -/
def resetWord (a : Nat) : BitVec 32 :=
  match findReg a with
  | some r => BitVec.ofNat 32 (r.rst ((a - r.base) / r.stride))
  | none => 0

/-- The fields of the register at an address. -/
def fieldsAt (a : Nat) : List FSpec :=
  match findReg a with
  | some r => r.fields
  | none => []

/-- The name of the register at an address (R1098). -/
def regName (a : Nat) : Option String := (findReg a).map (fun r => r.name ((a - r.base) / r.stride))

/-- The domain that holds the register at an address (Table MAP-2); 0 is the always-on domain D00. -/
def regDomain (a : Nat) : Nat :=
  let b := a / 0x10000
  let o := a % 0x10000
  if b = 0x4006 then (if o < 0x4000 then 39 else 39 + min 3 ((o - 0x4000) / 8 / 256))
  else if b = 0x4007 then 39
  else if b = 0x4008 then 43
  else if b = 0x4009 then 37
  else if b = 0x400B then (if o < 0x100 then 49 else if o < 0x200 then 50 else 0)
  else if b = 0x4011 then 29
  else if b = 0x4012 then 31
  else if 0x4020 ≤ b ∧ b ≤ 0x402F then b - 0x4020 + 1
  else if b = 0x4030 then 43
  else if b = 0x4031 then 44
  else 0

end Sys2Proof.Machine
end

