-- ==== Sys2Proof/Machine/TypesSleeve.lean ====
section
/-!
DEFINITION. Sys2Proof/Machine/TypesSleeve.lean: plain data of the Sleeve link (chapters 04 and 05), of Pockets and of
queues (chapter 06).
-/
namespace Sys2Proof.Machine
open Sys2Proof

/-- The mode that a CNF fixes (Tables SLVW-3 and SLVW-5). `rate` is the code 0 to 4; `preOut` is PRE for card-to-host turns. -/
structure LinkMode where
  lanes : Nat
  gusset : Bool
  rate : Nat
  feat : Nat
  maxFrame : Nat
  turnFrames : Nat
  turnUs : Nat
  idleHold : Nat
  preOut : Nat
  preIn : Nat
  deriving DecidableEq, Repr

/-- Where the link stands. -/
inductive LinkPhase where
  | reset                 -- SLV_RST_N low, or nothing sent yet
  | grtSent               -- GRT sent, a SEL is awaited (R230)
  | refused               -- CNF with RESULT 2 was sent (R229)
  | s0                    -- CNF sent; attempt k begins at S_k (R232, R233)
  | training              -- Phase A sent in attempt k (R233)
  | passed                -- verdict PASS sent, the host's preamble is awaited (R242)
  | floorFailed           -- training failed at the floor (R243)
  | data                  -- data phase
  | retrainSent           -- the retrain frame was sent or received; the GRT follows (R246)
  | stopped               -- clock stop (R249)
  | waking                -- the card's wake burst was sent (R253)
  | down                  -- L0 is OFF (R256)
  deriving DecidableEq, Repr

/-- A completion entry (Table POC-8). `ref` is the command's acceptance number, `pocket` and `opcode` are what its meters need; `begun`
and `sentAll` say of a READ whether a DAT frame of it has been sent, and whether every block had been sent once when it ended (R221). None
of these goes on the wire. -/
structure Completion where
  ref : Nat
  pocket : Nat
  opcode : Nat
  begun : Bool
  sentAll : Bool
  tag : Nat
  status : Nat
  level : Nat
  through : Bool
  prefetchHit : Bool
  queue : Nat
  blocks : Nat
  nonceSerial : Nat
  nonceCount : Nat
  inbound : Nat              -- bytes of its data that the host keeps within the inbound window until it has the completion (R406)
  deriving DecidableEq, Repr

/-- A sequenced item the card sends: CPL, DAT and MGT frames and unpick markers (Tables SLVF-3 and SLVF-4). -/
inductive TxItem where
  | cpl (entries : List Completion)
  | dat (basted : Bool) (tag queue offset : Nat) (bytes : Bytes)
  | mgt (line : String)
  | unp (tag queue status offset len : Nat)
  deriving DecidableEq, Repr

/-- An item sent and not yet acknowledged, with the number of times it was sent (R290, R291). -/
structure SentItem where
  seq : Nat
  item : TxItem
  sends : Nat
  deriving DecidableEq, Repr

/-- The K-codes of Table SLVW-1. -/
inductive KCode where
  | idl | sof | eof | turn | stop | ack | rep | unp
  deriving DecidableEq, Repr

/-- What a lane carries in one character time: a K-code or a data character. -/
inductive Chr where
  | code (k : KCode)
  | data (b : Byte)
  deriving DecidableEq, Repr

/-- What the card puts on the lanes, in order. -/
inductive SlvOut where
  | idle                                       -- every lane at electrical idle
  | grt (payload : Bytes)                      -- GRT, then TURN
  | cnf (payload : Bytes)                      -- a CNF or verdict, sent twice, then TURN
  | phaseA (mode : LinkMode)                   -- 1,024 IDL, SOF, 4,096 training bytes, EOF, TURN on every lane of the mode
  | openTurn (pre : Nat) (lanes : List Nat) (ack lease : Nat) (rep : Bool)  -- PRE IDL on the lanes it drives, ACK E with LEASE m, REP E if due
  | item (seq : Nat) (x : TxItem)
  | retrain (reason : Nat)                     -- LNK RETRAIN three times
  | turn                                       -- TURN, then 4 IDL
  | stop                                       -- STOP, then 4 IDL, then electrical idle
  | burst                                      -- a wake burst or reply burst on L0
  deriving DecidableEq, Repr

/-- Settings that a negotiation took when it began (R314): MAX_FRAME, TURN_MAX_FRAMES, TURN_MAX_US, IDLE_HOLD_US. -/
structure LinkSet where
  maxFrame : Nat
  turnFrames : Nat
  turnUs : Nat
  idleHold : Nat
  deriving DecidableEq, Repr

/-- What stood before the ACK of the present host turn (R307, R313): TX_ACKED, the unacknowledged items, the go-back, the next number to
give. `cut` pieces of those items went back to the front of the items not yet sent (R306). -/
structure AckUndo where
  acked : Nat
  items : List SentItem
  back : Option Nat
  next : Nat
  cut : Nat
  deriving DecidableEq, Repr

/-- The Sleeve link state that no register holds. -/
structure Sleeve where
  phase : LinkPhase
  mode : LinkMode            -- the mode in force, or of the present attempt
  tried : LinkMode           -- the mode of the present or last attempt, Gusset as it was tried (R242)
  set : LinkSet              -- the card's settings of the present negotiation (R314)
  offered : Nat              -- the lanes that the last GRT offered, bit 8 for L8 (R228, R265)
  leftLanes : Nat            -- lanes that have left service since the last GRT (R254)
  badLanes : Nat             -- lanes that left service during the present attempt (R264)
  pllRate : Nat              -- the rate code the Sleeve PLL is locked for (R234)
  onLanes : Nat              -- lane domains of the link that are powered, bit 8 for L8 (R234)
  selLanes : Nat             -- data lanes the last SEL selected (R254)
  selGusset : Bool
  reason : Nat               -- REASON of the present negotiation
  negCount : Nat             -- NEG_COUNT (Table SLVW-3)
  firstGrtUs : Nat
  attempt : Nat              -- k (R233)
  okA : Option Nat           -- lanes the host judged good in Phase A, bit 8 for L8
  okB : Option Nat           -- lanes the card judged good in Phase B
  retrainDue : Option Nat    -- a retrain with this REASON starts at the card's next turn (R247, R292)
  okFirst : Bool             -- the OK of a `link retrain` goes ahead of its retrain (R1030)
  bursts : Nat               -- card wake bursts sent (R253)
  stopWas : List Nat         -- domains a clock stop has switched off (R249, R780)
  ownLanes : List Nat        -- lanes the card took out of service itself (R255)
  fresh : Bool               -- no negotiation has ended since the last Sleeve reset (R278)
  oldBefore : Nat            -- commands accepted before the last Sleeve reset have smaller acceptance numbers (R223)
  repDue : Bool              -- R281
  txNext : Nat               -- next sequence number to give
  unacked : List SentItem    -- oldest first
  backAt : Option Nat        -- a go-back is to send the unacknowledged items again from this sequence number on (R290)
  ackUndo : Option AckUndo   -- what the ACK of the present host turn changed (R307, R313)
  newItems : List TxItem     -- queued items not yet sent
  posted : List Completion   -- completions posted and not yet in a CPL frame (R348)
  sent : List SlvOut
  deriving DecidableEq, Repr

/-- States of Table POC-2. -/
inductive PocketState where
  | active | suspended | deleting
  deriving DecidableEq, Repr

/-- The attributes a `pocket set` sets together (R992). -/
structure PocketChange where
  size : Nat
  cls : QosClass
  weight : Nat
  limit : Nat
  unit512 : Bool
  deriving DecidableEq, Repr

/-- Attributes of a Pocket that is not FREE (Table POC-1, R400, R596, R922). -/
structure Pocket where
  state : PocketState
  size : Nat                 -- Stitches
  cls : QosClass
  weight : Nat
  limit : Nat
  unit512 : Bool             -- R596
  cleanMin : Nat             -- MiB (R400)
  cleanMax : Nat
  dirtyMin : Nat
  dirtyMax : Nat
  gen : Nat                  -- R922
  integSlot : Option Nat     -- twin integrity slot (R886)
  change : Option PocketChange  -- a `pocket set` whose size reduction waits (R365)
  credit : Nat               -- deficit credit in blocks (R351)
  lastQueue : Option Nat     -- last queue served
  visLimit : Nat             -- the in-flight limit that the visit under way began with (R322)
  wasSuspended : Bool        -- state before a deletion that has not passed its OK
  delStep : Nat              -- steps of R319 done
  deriving DecidableEq, Repr

/-- States of Table POC-4 other than FREE. -/
inductive QueueState where
  | opened | draining
  deriving DecidableEq, Repr

/-- A 4 KiB place for data (R94, R393, R404): a staging data buffer, an entry of the cache, a unit of the inbound area. -/
inductive Spot where
  | nowhere
  | buffer (n : Nat)
  | entry (n : Nat)
  | inbound (n : Nat)
  deriving DecidableEq, Repr

/-- A submission entry taken into a ring slot (Table POC-5). -/
structure Cmd where
  opcode : Nat
  flags : Nat
  tag : Nat
  lba : Nat
  count : Nat
  dkey : Nat
  ikey : Nat
  handle : Nat
  acceptedUs : Nat
  received : Nat             -- write data bytes received so far (R273)
  bad : Bool                 -- its DAT frames left a gap, overlapped or reached past its length (R273)
  bytes : Bytes              -- write data received, in order
  units : List Spot          -- where they wait for the dispatch, 4 KiB each (R404)
  nwait : Bool               -- it waits at dispatch for a nonce reservation (R614)
  ref : Nat                  -- acceptance number
  retired : List Nat         -- key slots it names that entered RETIRING since its acceptance (R358)
  deriving DecidableEq, Repr

/-- A slot still taken because its completion is posted and not yet in a CPL frame (R330): the acceptance number and the tag of its
command, the bytes it holds of the inbound window (R406). -/
structure DoneTag where
  ref : Nat
  tag : Nat
  deriving DecidableEq, Repr

/-- A queue pair that is not FREE (Table POC-3). `waiting` is its submission ring, oldest first. -/
structure QueuePair where
  state : QueueState
  pocket : Nat
  depth : Nat
  ack : Nat                  -- 1 HELD, 2 PAIRED, 3 SET
  baste : Bool
  waiting : List Cmd
  doneTags : List DoneTag    -- what is posted and not yet in a CPL frame
  deriving DecidableEq, Repr

/-- The arbiter (R351): for each class the Pocket its pointer is at, whether that visit has begun, and its last win by ageing. -/
structure Arbiter where
  ptr : List Nat             -- for URGENT, NORMAL, BULK
  visiting : List Bool
  lastAged : List (Option Nat)
  overruns : List (Nat × Nat)  -- last `queue overrun` notice of a queue (R334)
  nextRef : Nat              -- the next acceptance number
  deriving DecidableEq, Repr

end Sys2Proof.Machine
end

