-- ==== Sys2Proof/Machine/TypesData.lean ====
section
/-!
DEFINITION. Sys2Proof/Machine/TypesData.lean: plain data of the data path: the cache (chapter 07), flash and the map
(chapter 08), decoding and recovery (chapter 09), commands in execution (chapter 06) and keys (chapter 11).
-/
namespace Sys2Proof.Machine
open Sys2Proof

/-- A stored check value: the GMAC tag and the counter part of its nonce (R607). -/
structure Check where
  tag : Bytes
  count : Nat
  deriving DecidableEq, Repr

/-! ### The cache -/

/-- States of R394 other than FREE. -/
inductive LineKind where
  | prefetch | clean | dirty | through
  deriving DecidableEq, Repr

/-- A cache entry: one 4 KiB host block as ciphertext (R393, R395). `used` and `filled` order the entries by their last
use and their fill; `owners` are the commands in execution that wait for its program. An entry with a newer one is `old`: its program is in
flight, or it is DIRTY and acknowledged under a THROUGH one that is not (R56, R396, R414). -/
structure CacheEntry where
  pocket : Nat
  lba : Nat
  kind : LineKind
  data : Bytes
  check : Option Check
  used : Nat
  filled : Nat
  prog : Bool                -- its program is in flight
  old : Bool                 -- a newer entry of the block exists (R396)
  poison : Bool              -- R399
  owners : List Nat
  writer : Nat               -- the execution that wrote the block
  place : Spot
  deriving DecidableEq, Repr

/-- An entry of a Pocket's stream detector (R385); `ahead` in blocks. -/
structure Stream where
  next : Nat
  hits : Nat
  ahead : Nat
  deriving DecidableEq, Repr

/-- The cache and its manager. `streams` lists each Pocket's detector, most recently used first. -/
structure Cache where
  entries : List CacheEntry
  order : Nat                       -- next order stamp
  streams : List (Nat × List Stream)
  wanted : List (Nat × Nat)         -- requested prefetch blocks (Pocket, LBA)
  window : Nat                      -- inbound window in force, MiB (R405)
  flushing : Bool                   -- a background flush runs (R412)
  urgent : Bool                     -- urgent flushing runs (R421)
  budget : Nat                      -- B in bytes
  deriving DecidableEq, Repr

/-! ### Flash and the map -/

/-- A page on flash: its four codewords, each 4,096 data bytes and 64 metadata bytes (R484, R487). -/
abbrev Page := List Bytes

/-- A LUN as discovery found it (R433, Table FLS-3), at position 4e + l of its channel. -/
structure Die where
  ch : Nat
  pos : Nat
  ident : Nat                -- the ID read from the die
  iface : Nat                -- 1 NV-DDR3, 2 Toggle DDR
  rate : Nat
  planes : Nat
  wlPages : Nat
  pages : Nat
  blocks : Nat
  spare : Nat                -- spare bytes of a page
  tmax : Nat
  offsets : Bool             -- read-level offset features advertised (R499)
  excluded : Bool
  deriving DecidableEq, Repr

/-- States of Table FLS-5 other than FREE; `erasing` is a Bolt chosen for opening whose positions are being erased. -/
inductive BoltState where
  | erasing | opened | full | victim
  deriving DecidableEq, Repr

/-- What an open Bolt is open for (R447). -/
inductive BoltUse where
  | host | gc | map
  deriving DecidableEq, Repr

/-- A Bolt that is not FREE (R437 to R446). `rowsDone` are its closed rows, `bare` its unprotected rows (R473). -/
structure Bolt where
  group : Nat
  idx : Nat
  state : BoltState
  use : BoltUse
  seq : Nat
  t : Nat
  present : List Nat
  toErase : List Nat         -- positions whose erase has not reported
  rows : Nat
  planes : Nat               -- P_min
  next : Nat                 -- next Stitch k
  rowsDone : List Nat
  bare : List Nat
  closing : Bool             -- closed at the end of its current row (R468)
  bad : List Nat             -- channels whose block is retired when the Bolt becomes a victim (R468)
  learnt : Bool              -- its t is known: the card opened it since its start, or has learnt it (R494)
  moved : Nat                -- a Stitch has moved out: 2 since the present or last checkpoint began, 1 before it, 0 not since
  deriving DecidableEq, Repr

/-- A delta record (R459). -/
structure Delta where
  pocket : Nat
  lba : Nat
  count : Nat
  wseq : Nat
  deriving DecidableEq, Repr

/-- A change of the map that flash carries (R445, R459): the entry that a Stitch gets, or the unmapping of `count` blocks. -/
structure Change where
  wseq : Nat
  pocket : Nat
  lba : Nat
  count : Nat
  entry : Option Nat
  deriving DecidableEq, Repr

/-- What a page in flight to flash holds. `fills` are the fill stamps of the cache entries whose blocks a host Stitch carries (R396). -/
inductive ProgKind where
  | stitch (pocket stitch valid old : Nat) (host : Bool) (fills : List Nat)
  | pad
  | parity
  | delta (recs : List Delta)
  deriving DecidableEq, Repr

/-- A page being programmed: its place (36-bit page address), Bolt (group, block) and Stitch or row number. -/
structure Prog where
  ppa : Nat
  group : Nat
  idx : Nat
  row : Nat
  kind : ProgKind
  page : Page
  deriving DecidableEq, Repr

/-- A segment's index entry (Table FLS-8) and its place in flash; `wseqs` the highest WSEQ reflected in each of its four pages (R453). -/
structure Seg where
  resident : Bool
  dirty : Bool
  slot : Nat
  row : Nat
  quartet : Nat
  reading : Bool
  rebuilding : Bool          -- its held copy was lost, and is made again (R511)
  wseqs : List Nat
  deriving DecidableEq, Repr

/-- A Stitch queued for relocation (R505, R506): its Pocket and number, and the blocks to write as poison. -/
structure Reloc where
  pocket : Nat
  stitch : Nat
  ppa : Nat                  -- the page that held the Stitch then
  poison : List Nat
  copying : Bool             -- its copy is on its way
  deriving DecidableEq, Repr

/-- A recovery of a page: the codewords that still fail, the step of the ladder that runs (0: rebuild), the time of the failure. -/
structure Recovery where
  ppa : Nat
  failing : List Nat
  step : Nat
  since : Nat
  deriving DecidableEq, Repr

/-- Patrol counts of a Bolt in the present lap (R493): corrected bits and decoded bits. -/
structure LapCount where
  group : Nat
  idx : Nat
  corrected : Nat
  decoded : Nat
  deriving DecidableEq, Repr

/-- The checkpoint record (R460). `index` gives the page address of every index page that flash holds. -/
structure Ckpt where
  index : List (Nat × Nat)
  wseq : Nat
  boltSeq : Nat
  delta : Nat
  clean : Bool
  deriving DecidableEq, Repr

/-- A checkpoint being written: for a `map checkpoint` or not, the segments it still has to write, and what its record names. -/
structure CkptRun where
  own : Bool
  segs : List Nat
  mark : Ckpt
  top : Nat                  -- the highest WSEQ when it began
  deriving DecidableEq, Repr

/-- Flash, the map and the mover. `map` lists the mapped entries by Pocket × 2^34 + Stitch (Table FLS-6), ascending;
`pages` the programmed pages by page address, ascending; `erases` the erase counts and `retired` the bad blocks by
LUN block number (channel × 16 + position) × 4096 + block. -/
structure Flash where
  dies : List Die
  retired : List Nat
  erases : List (Nat × Nat)
  pages : List (Nat × Page)
  flips : List (Nat × Nat)              -- pages whose first codeword was programmed with its lowest bits inverted (R528)
  bolts : List Bolt
  progs : List Prog
  held : List Prog                      -- programmed pages whose commit waits for a segment write (R457)
  fit : Nat                             -- segments the card can write in 8 ms as measured, 0 before any measurement (R457)
  map : List (Nat × Nat)
  segs : List (Nat × Seg)
  segUse : List Nat                     -- segments in the order of their last use, while staging (R101)
  mapBolts : List (Nat × (Nat × Nat))   -- map Bolt slot to (group, block)
  area : Bool                           -- a boot area has been written: the card is not blank (R87)
  modes : List Die                      -- the flash mode record's die table (R436, Table FLS-9)
  bases : List (Nat × Nat)              -- the first index entry of each Pocket (R455), as flash keeps it
  usable : Nat                          -- U of `flash format` (R469); 0 before any format
  gens : List (Nat × Nat)               -- GEN of each Pocket number (R922)
  wseq : Nat
  boltSeq : Nat
  formatting : Bool                     -- a `flash format` is under way (R1059, R1113)
  patrolPos : Nat                       -- where the patrol goes on: BOLT_SEQ times 2^32 plus the page's place in the Bolt
  patrolUs : List (Nat × Nat)           -- the patrol's last read on each channel (R798)
  deltas : List Delta                   -- records of the open delta page
  deltaPos : Nat                        -- records programmed since format
  deltaDue : Bool                       -- the open delta page is to be programmed (R459)
  idxDirty : List Nat
  idxAt : List (Nat × Nat)              -- index page to its page address
  ckpt : Option Ckpt
  ckptUs : Nat                          -- time of the last checkpoint
  closedSince : Nat                     -- Bolts closed since the last checkpoint
  ckptRuns : Option CkptRun             -- the checkpoint being written
  ckptOwn : Bool                        -- the checkpoint of a `map checkpoint` follows it (R1023)
  ckptOwnUs : Nat                       -- when that command came
  bootSingle : Bool                     -- `! boot area single` has been raised (R784)
  relocs : List Reloc
  gcQueue : List (Nat × Nat)            -- Stitches of victims still to copy (Pocket, Stitch)
  recov : List Recovery
  lap : List LapCount
  lapRate : List (Nat × Nat)            -- measured rate of a group, 10^-9
  lapStart : Nat
  lapWarned : Bool
  ownQuads : List Nat                   -- quads the card took out of service itself (R474)
  wpHigh : List Nat                     -- quads whose FQq_WP_N is high (R428)
  differs : List Nat                    -- quads in CHECK with a die that differs from the die table (R471, R482)
  levels : List (Nat × Nat)             -- the read-level settings sent to LUNs, oldest first: LUN and offset, which stands until the next (R498)
  reads : List Nat                      -- page addresses with a read outstanding for the mover or the patrol
  deriving DecidableEq, Repr

/-! ### Commands in execution -/

/-- Where a block of a command stands on its way from storage. -/
inductive Codec where
  | room                     -- on the staging path, its data buffer is awaited (R97)
  | seg (entry : Nat)        -- its map segment is awaited (R456)
  | flush                    -- a FUA READ waits for the block's program (R398)
  | media (ppa j : Nat)      -- its codeword streams from flash
  | recover (ppa j : Nat)    -- read-retry or rebuild
  | mac (final : Bool)       -- the codeword is right, the GMAC is awaited; `final` after the one re-read (R375)
  | good                     -- confirmed
  | lost (status : Nat)      -- cannot be confirmed
  deriving DecidableEq, Repr

/-- Where a block stands on its way through a bulk core. `enc` marks the encrypting pass of a COPY or WRITE. -/
inductive Pass where
  | none
  | wait (enc : Bool)
  | core (enc : Bool) (n : Nat)
  | stale (n : Nat)          -- the core works on bytes that have been withdrawn
  | held                     -- a block to write is ready, and enters the cache after every earlier block of its command (R345)
  | done
  deriving DecidableEq, Repr

/-- One block of a command in execution. `data` is ciphertext on the storage side, `plain` the host's side.
`posted`: its DAT frames have been posted; `pulled`: an unpick marker names it and it is to be sent again. -/
structure Blk where
  codec : Codec
  pass : Pass
  data : Bytes
  plain : Bytes
  check : Option Check
  ppa : Option Nat           -- the page it was read from
  posted : Bool
  pulled : Bool
  sent : Bool                -- all its bytes have been sent once (R221)
  again : Bool               -- its one re-read after a failed GMAC has been made (R375)
  place : Spot               -- the data buffer of the staging path, or the inbound place, that its bytes stand in (R94, R404)
  deriving DecidableEq, Repr

/-- A command in execution. `id` numbers executions; `dkey` and `ikey` are the latches (R631), with the slots' codes in
`cmd`; `unset` the blocks that have not reached SET; `mirrorAt` the TSEQ of a WRITE's first DATA item, `tseq` that of the last mirror item (R874);
`mirrored`: a COPY's item has gone to the mirror (R871). -/
structure Exec where
  id : Nat
  queue : Nat
  pocket : Nat
  cmd : Cmd
  level : Nat
  through : Bool
  baste : Bool
  dkey : Option Bytes
  ikey : Option Bytes
  nonce : Nat
  unit512 : Bool
  blks : List Blk
  unset : List Nat
  delta : Option Nat         -- the WSEQ of its delta record, until it is programmed
  mirrorAt : Option Nat
  tseq : Option Nat
  mirrored : Bool
  hit : Bool                 -- PREFETCH_HIT
  lastBasted : Option Nat    -- end of its last basted frame
  begun : Bool               -- a DAT frame of it has been sent (R221)
  deriving DecidableEq, Repr

/-! ### Keys -/

/-- States of Table CIP-6. -/
inductive SlotState where
  | empty | loaded | retiring
  deriving DecidableEq, Repr

/-- A key slot (R622, R629, R636). -/
structure KeySlot where
  state : SlotState
  kind : Nat
  owner : Nat
  material : Bytes
  lost : Bool                -- UPDATE_LOST
  deriving DecidableEq, Repr

/-- An image of the key journal in flash (R635, R636): its JSEQ, the slot that its update changed, the slots that are not EMPTY or carry
UPDATE_LOST, the block that holds it, how many of its four image pages are programmed, and whether its commit page is. -/
structure JImage where
  jseq : Nat
  slot : Nat
  slots : List (Nat × KeySlot)
  block : Nat
  pages : Nat
  commit : Bool
  deriving DecidableEq, Repr

/-- The update of one slot, from its start to its OK point (R635): `none` empties the slot. -/
structure KeyUpdate where
  slot : Nat
  content : Option KeySlot
  startUs : Nat
  line : Bool                -- a line waits for it, from its terminator on (R641)
  clears : List Nat          -- the slots whose UPDATE_LOST it clears (R1010); the slots' content stays
  kv : List (String × String)  -- what the OK line carries
  data : List (List (String × String))
  deriving DecidableEq, Repr

/-- The key vault. `slots` lists the slots that are not EMPTY or carry UPDATE_LOST, by slot code, ascending;
`image` is the committed journal image, wrapped under the root key, by slot code. -/
structure Keys where
  slots : List (Nat × KeySlot)
  image : List (Nat × KeySlot)
  jseq : Nat
  update : Option KeyUpdate
  waiting : List KeyUpdate          -- updates of a Pocket's deletion that follow (R319)
  erasing : Bool                    -- R640
  active : Nat                      -- the copy that holds the newest image
  copies : List (List JImage)       -- copies A and B, oldest image first (R634)
  blocks : List Nat                 -- the current block of copies A and B, among the four of Table CIP-7
  room : List Nat                   -- pages left in the current block of copies A and B
  interrupted : Option Nat          -- the slot named in image pages without a commit (R638)
  nonce : Nat
  limit : Nat
  reserving : Bool
  records : List Nat                -- limits in the valid reservation records
  coreBusy : List Nat               -- bulk cores with a block in progress
  lastPocket : Nat                  -- Pocket the scheduler served last (R600)
  drains : List (Nat × Nat)         -- RETIRING slots with the time RETIRING began
  redo : List (Nat × Nat)           -- blocks whose bulk pass an abort reissues: execution and block (R774)
  deriving DecidableEq, Repr

/-! ### Hangtag meters -/

/-- A meter of an open minute (R915). -/
structure Meter where
  acc : Nat
  tot : Nat
  spill : Nat
  deriving DecidableEq, Repr

/-- A Pocket's open minute: eight meters, the carries of R921, samples so far, the stamp of its last bucket. -/
structure OpenMin where
  meters : List Meter
  carryE : Nat
  carryC : Nat
  samples : Nat
  stamp : Option Nat
  first : Bool
  damaged : Nat
  deriving DecidableEq, Repr

/-- A closed bucket: its record and 1 CLOSED, 2 SENT, 3 COLLECTED (R928). -/
structure Bucket where
  bytes : Bytes
  state : Nat
  sentUs : Nat
  deriving DecidableEq, Repr

/-- The Hangtag. `rings` holds each Pocket number's closed buckets, newest first; `cross` the bytes each Pocket moved across
a unit in the present sample (R911). -/
structure Htg where
  minutes : List (Nat × OpenMin)
  rings : List (Nat × List Bucket)
  cross : List (Nat × Nat)
  tack : Nat
  phase : Nat                      -- samples since the AON minute counter last moved
  lostNoted : Option Nat           -- the minute of the last `meter lost` notice
  store : List (Nat × Bytes)       -- the shelf store of a Mantle or standby: slot and bucket (R930)
  deriving DecidableEq, Repr

end Sys2Proof.Machine
end

