-- ==== Sys2Proof/Machine/TypesDram.lean ====
section
/-!
DEFINITION. Sys2Proof/Machine/TypesDram.lean: plain data of the DRAM channels (chapters 09 and 10) and of the access checks
(chapter 12).
-/
namespace Sys2Proof.Machine
open Sys2Proof

/-- A line as DRAM holds it: its 64 bytes, whether it is a poison line (R516), how many bits of device 0 an injection flipped (R528), and the
stamp of what its place held when it was written. -/
structure DLine where
  data : Bytes
  poison : Bool
  flips : Nat
  stamp : Nat
  deriving DecidableEq, Repr

/-- A request that a channel holds (R556 to R568). For a read, `fwd` are the bytes forwarded from the queues on arrival. -/
structure DReq where
  id : Nat
  port : Nat
  line : Nat                 -- channel address / 64
  arrived : Nat              -- ns
  target : Nat               -- T of its port as it arrived (R594), ns
  deadline : Bool            -- the mode in force as it arrived (R557)
  missed : Bool              -- its urgency 3 has been counted
  hint : Bool
  owner : Owner
  fwd : List (Option Byte)
  data : Bytes               -- a write's line
  poison : Bool              -- a write of a poison line (R520)
  deriving DecidableEq, Repr

/-- An entry of the merge buffer (R519); `since` and `used` in ns and in order of use. Its port and owner are those of its last write; `writers` are all
of them, each with its request's number (R520). -/
structure MergeEntry where
  line : Nat
  bytes : List (Option Byte)
  since : Nat
  used : Nat
  port : Nat
  owner : Owner
  hint : Bool
  writers : List (Nat × (Nat × Owner))
  deriving DecidableEq, Repr

/-- An open row (R563): rank and bank, row, time of its last hit. -/
structure OpenRow where
  rank : Nat
  bank : Nat
  row : Nat
  last : Nat
  deriving DecidableEq, Repr

/-- An activate table (R571): its rank and bank, and rows with counts. -/
structure ActTable where
  rank : Nat
  bank : Nat
  rows : List (Nat × Nat)
  deriving DecidableEq, Repr

/-- A tag line in the tag cache (R681): tag line number (channel address / 4096), bytes, dirty, last use. -/
structure TagLine where
  num : Nat
  bytes : List Nat
  dirty : Bool
  used : Nat
  deriving DecidableEq, Repr

/-- A running migration (R574): physical ranks, the source's logical number, the copy pointer in lines. -/
structure Migration where
  src : Nat
  dst : Nat
  logical : Nat
  next : Nat
  deriving DecidableEq, Repr

/-- What a requester gets back. -/
structure DReply where
  id : Nat
  port : Nat
  status : Nat               -- a code of Table COL-6; 0 is DONE
  data : Bytes
  deriving DecidableEq, Repr

/-- A DRAM channel. `lines` lists the lines written since power came, by channel address / 64, ascending; `tags` the tag store
by tag line number. -/
structure DramCh where
  lines : List (Nat × DLine)
  tags : List (Nat × List Nat)
  tagBad : List (Nat × Nat)  -- tag lines that stand as poison lines, with the stamp of what they tagged
  tagWrong : List (Nat × (Nat × List Nat))  -- tag lines that a miscorrection has changed: what they tagged then, and their bytes (R515, R517)
  tcache : List TagLine
  reads : List DReq
  wq : List DReq
  issued : List DReq
  merge : List MergeEntry
  draining : Bool
  rows : List OpenRow
  acts : List ActTable
  closePage : Bool           -- the page policy in force (R564)
  rfm : Bool                 -- the devices declare RFM (R571)
  migration : Option Migration
  failing : List Nat         -- ranks that failed while a migration ran (R588)
  shrink : Option Nat        -- a rank whose shrink is due (R577)
  alertUs : Option Nat       -- last `! dram alert`
  scrubNext : Nat
  scrubLapUs : Nat
  scrubUs : Option Nat       -- the last scrub read (R798)
  fixed : List Nat           -- lines corrected in the present scrub lap (R522)
  replies : List DReply
  deriving DecidableEq, Repr

/-- The DRAM training record (R582). -/
structure TrainRec where
  rate : Nat
  masks : List Nat
  ident : Nat                -- device identity
  temp : Int
  regs : List (Nat × BitVec 32)  -- delays and Vref values: the DLY and DQS registers that differ from reset
  deriving DecidableEq, Repr

/-- A carve-out as the ROM placed it (R393, R555): its name in `dram show`, its base and its size in bytes. -/
structure Carve where
  name : String
  base : Nat
  size : Nat
  deriving DecidableEq, Repr

/-- DRAM. `masksNext` is a mask set stored by `dram masks` (R553). -/
structure Dram where
  ch : List DramCh
  nextId : Nat
  order : Nat
  record : Option TrainRec
  masksNext : Option (List Nat)
  carve : List Carve
  deriving DecidableEq, Repr

/-- Access checks: the fault log by slot (R689), the last colour notice of each Pocket (R690), the stored extension (R670), the
times of T1's P1 restarts (R669), the image buffer of `mpu load`. -/
structure Access where
  log : List (Nat × Bytes)
  noted : List (Nat × Nat)
  ext : Option (Bytes × Nat)     -- image and key slot
  p1Faults : List Nat
  readData : Nat                 -- what the last load of a register returned
  answer : Nat                   -- the status with which a domain has last answered a core's stale request (R766)
  image : Option (Path × Nat × Bytes)   -- session, announced length, bytes so far
  sramFlips : List (Nat × Nat)   -- bytes of that SRAM whose stored bits an injection has flipped, and how many (R528)
  sram : List Host.Cell          -- bytes of the TCMs and of staging SRAM that a core has stored and that are not zero, ascending (R509)
  rom : List (Nat × (Nat × (Nat × Nat)))  -- what the ROM sets up in regions 0 to 7: core, region, RBASE and RATTR words (R665)
  deriving DecidableEq, Repr

end Sys2Proof.Machine
end

