-- ==== Sys2Proof/Machine/TypesTwin.lean ====
section
/-!
DEFINITION. Sys2Proof/Machine/TypesTwin.lean: plain data of a twinset (chapter 16, Mirroring to Darning).
-/
namespace Sys2Proof.Machine
open Sys2Proof

/-- What a TWIN item of Table SEAM-4 carries. -/
inductive TwinWhat where
  | data (darn : Bool) (lba pocket half : Nat) (integ poison : Bool) (ikey count : Nat) (tag bytes : Bytes)
  | trim (lba pocket count : Nat)
  | copy (src pocket : Nat) (integ : Bool) (count dst dkey ikey : Nat)
  | line (text : String)
  | unmap (lba pocket count : Nat)
  | regionEnd (region pocket : Nat)
  | hold (ms : Nat)
  | ack (upTo : Nat)
  | nak (tseq : Nat)
  | pair (durable : Nat) (clean served fresh : Bool)
  deriving DecidableEq, Repr

/-- A TWIN item with its TSEQ (R870). -/
structure TwinItem where
  tseq : Nat
  what : TwinWhat
  deriving DecidableEq, Repr

/-- A region in copy (R884): its Pocket and number, and the version it was copied at. -/
structure RegionCopy where
  pocket : Nat
  region : Nat
  version : Nat
  deriving DecidableEq, Repr

/-- The pairing kept in the configuration record (R868). -/
structure Pairing where
  slot : Nat
  serial : Nat
  wk : Nat
  primary : Bool
  deriving DecidableEq, Repr

/-- Twinset state that no register holds. -/
structure Twin where
  pairing : Option Pairing
  txNext : Nat
  sentTo : Nat                      -- TSEQ of the next item to put on the ring
  darn : List TwinWhat              -- DARN items that have no TSEQ yet
  unconf : List TwinItem            -- sent and not yet confirmed, oldest first
  confirmed : Nat                   -- items of ours that an ACK covers
  refused : Option Nat              -- an item refused once (R875)
  marked : List (Nat × Nat)         -- marked regions (Pocket, region), ascending (R883)
  inCopy : List RegionCopy
  copies : List (Nat × Nat × Nat)   -- times a region was copied without success (R885)
  missed : List (Nat × Nat)         -- regions recorded in LOST (R881)
  darnStart : Nat
  darnRegions : Nat
  recopied : Nat
  rxNext : Nat                      -- TSEQ the secondary accepts next
  half : Option Bytes               -- first half of the block in progress (Table SEAM-5)
  through : List (Nat × (Nat × Nat))  -- items forced through and not yet programmed: TSEQ, Pocket, LBA (R873)
  itemDone : Nat                    -- blocks that the TRIM or UNMAP item next in turn has unmapped so far (R456, R873)
  lineAwait : Option (Nat × AwaitFor)  -- a line item that is being executed: its TSEQ and what it waits for
  blob : Bytes                      -- the blob buffer of the line items
  acked : Nat                       -- what the last ACK covered
  clean : Bool                      -- what PAIR tells (R881): its last stop was clean; it served alone; it holds no item yet
  served : Bool
  fresh : Bool
  holdUntil : Nat                   -- a HOLD is in force until then (R882)
  fromStandby : Bool                -- WAIT was entered from STANDBY
  offer : Option (Pairing × Nat)    -- a pending pairing and when it was made (R1075)
  offerFirst : Bool                 -- the card's own `twin pair` was the first of the two (R1079)
  offerReq : Option Nat             -- RSEQ of the last `twin offer` it sent
  swapUs : Option Nat               -- a swap runs since then, dispatch stopped (R1081)
  swapSeq : Option Nat              -- TSEQ of the line item that swaps the roles
  unpairSeq : Option Nat            -- TSEQ of the line item that ends the twinset (R1080)
  deriving DecidableEq, Repr

end Sys2Proof.Machine
end

