-- ==== Sys2Proof/Machine/TypesBoot.lean ====
section
/-!
DEFINITION. Sys2Proof/Machine/TypesBoot.lean: plain data of the boot area: records, log blocks and the two logs (R462 to R464).
-/
namespace Sys2Proof.Machine
open Sys2Proof

/-- What the configuration record holds (R321, R868, Table FLS-9; assumption log entry 178). -/
structure ConfRec where
  pockets : List (Nat × Pocket)
  queues : List (Nat × QueuePair)
  conf : List (Fld × Nat)
  pairing : Option Pairing
  usable : Nat
  gens : List (Nat × Nat)
  bases : List (Nat × Nat)
  deriving DecidableEq, Repr

/-- What a record holds, by its kind (Table FLS-9). -/
inductive BootBody where
  | mode (dies : List Die) (retired : List Nat) (rates : List (Nat × Nat))
  | config (c : ConfRec)
  | training (r : Option TrainRec)
  | ckpt (c : Option Ckpt)
  deriving DecidableEq, Repr

/-- A record: the 64 header bytes of its first page (R463) and what it holds. -/
structure LogRec where
  head : Bytes
  body : BootBody
  deriving DecidableEq, Repr

/-- A block of a log that is not erased: its place among the log's 16 blocks (8 of the first channel, then 8 of the second), the pages
written, its records oldest first. -/
structure LogBlk where
  pos : Nat
  used : Nat
  recs : List LogRec
  deriving DecidableEq, Repr

/-- The boot area: the blocks of log A and of log B in the order they were begun, and the highest RSEQ given. -/
structure BootArea where
  logA : List LogBlk
  logB : List LogBlk
  rseq : Nat
  deriving DecidableEq, Repr

end Sys2Proof.Machine
end

