-- ==== Sys2Proof/Machine/TypesPower.lean ====
section
/-!
DEFINITION. Sys2Proof/Machine/TypesPower.lean: plain data of domains under change (chapter 14) and of power states (chapter 15).
-/
namespace Sys2Proof.Machine
open Sys2Proof

/-- A transfer on PMBus (R806): a command's data is read, written, or the command is sent alone. -/
inductive PmbOp where
  | read (cmd : Nat)
  | write (cmd value : Nat)
  | send (cmd : Nat)
  deriving DecidableEq, Repr

/-- Who asked for a change of a domain: a Baleong line (with its time), PWR_DREQ, a power-state entry, the card itself. -/
inductive OpBy where
  | line
  | dreq
  | entry
  | card
  deriving DecidableEq, Repr

/-- A drain in progress (R772, R773). -/
structure Drain where
  dom : Nat
  abort : Bool
  endUs : Nat
  who : OpBy
  deriving DecidableEq, Repr

/-- An event that AON latched (R815): SRC and DETAIL of Table PWS-6. -/
structure Wake where
  src : Nat
  detail : Nat
  us : Nat
  deriving DecidableEq, Repr

/-- An entry to NAP, TACK or DORMANT under way (R811): `target` 2, 3 or 4, the domains it switches off, those already drained,
those whose window ended in abort mode, the drain window, the level before step 1, the latest time for the stop of the link. -/
structure PEntry where
  target : Nat
  doms : List Nat
  drained : List Nat
  aborted : List Nat
  window : Nat
  abort : Bool
  level : Nat
  stopBy : Option Nat
  deriving DecidableEq, Repr

/-- Domains under change and the power manager. -/
structure Pwr where
  drains : List Drain
  ramps : List (Nat × OpBy)      -- OFF domains switching on
  holds : List (Nat × OpBy)      -- FENCED domains held in reset
  checks : List (Nat × OpBy)     -- domains in CHECK and who asked
  own : List Nat                 -- domains the card took out of service itself (R782)
  entry : Option PEntry
  offWas : List (Nat × Nat)      -- domains that a power state holds off, with the state each had (R780)
  levelWas : Nat                 -- level in force before the entry
  enteredUs : Nat
  wakes : List Wake              -- latched events, oldest first
  levelTo : Option Nat           -- a level change waits for its pause (R802, R804)
  regBad : Bool                  -- R808 holds
  pauseUs : Nat                  -- when the last pause of a level change began
  gated : Bool                   -- CORECLK is stopped (R797)
  fullLevel : Nat                -- the level in force when throttling began (R805, R808)
  visitUs : Nat                  -- last Tack visit
  timerS : Nat                   -- wake timer, Tack period and channel in force since the entry
  tackS : Nat
  tackCh : Nat
  pmb : List PmbOp               -- what the card has sent on PMBus, oldest first (R806)
  deriving DecidableEq, Repr

/-! ### Lifecycle and swatches (chapter 18) -/

/-- A swatch run in progress (R956, R957): `path` is none for a run that T0 started through BIST_CTL; `job` for a run answered as a job. -/
structure BistRun where
  swatch : Nat
  dom : Nat
  startUs : Nat
  path : Option Path
  job : Bool
  deriving DecidableEq, Repr

/-- A lifecycle transition whose bits are being programmed (R945): the bits to set and whether T0 asked through LCS_CTL. -/
structure LifeTrans where
  bits : Nat
  target : Nat
  byT0 : Bool
  deriving DecidableEq, Repr

/-- The lifecycle array, one 4-bit number for each copy (R942), a transition, a swatch run, the instruction loaded into the JTAG TAP
(`tapIn`) and the one it acts as (`tap`, R950, R952). -/
structure Life where
  copies : List Nat
  trans : Option LifeTrans
  run : Option BistRun
  tapIn : JtagInstr
  tap : JtagInstr
  deriving DecidableEq, Repr

/-! ### The Lining and removal (chapter 13) -/

/-- The Lining descriptor in the fuse map (Table LIN-3): each field once it is programmed, in the units of its register. -/
structure LinDesc where
  nom : Option Nat
  esrMax : Option Nat
  float : Option Nat
  ilim : Option Nat
  slotW : Option Nat
  deriving DecidableEq, Repr

/-- A capacitance window (R715): its state and direction, V_oc at its start in 0.1 µV, the charge so far in mA µs, the last sample. -/
structure CapWin where
  state : Nat
  charging : Bool
  startV : Int
  charge : Nat
  lastUs : Nat
  deriving DecidableEq, Repr

/-- The Lining controller and the removal sequencer. The charge state is LIN_STAT.STATE and the ladder's phase RMV_STAT.PHASE. -/
structure Lining where
  desc : LinDesc
  en : Bool                  -- LIN_EN
  boost : Bool               -- LIN_DIR
  isoHigh : Bool             -- HOT_ISO_N
  vocs : List (Nat × Int)    -- V_oc of the last 1 ms, 0.1 µV (R705)
  targetMa : Nat             -- charge current target (R710)
  softUs : Nat               -- start of the last ramp
  lowUs : Option Nat         -- since when the current has been below 5 % of I_lim in CV
  weakUs : Nat               -- last moment with |I| of 0.1 A or V_oc of 0.5 V since the ramp (Table LIN-4)
  sensUs : Option Nat        -- since when LIN_I has read at an end of the range, or LIN_V at its top (R706)
  faultUs : Nat              -- last moment of a stopping fault
  why : List Nat             -- bits of LIN_FAULT for which the controller is in FAULT
  win : Option CapWin
  capT : Int                 -- bank temperature of C_est and ESR_est, 0.1 °C
  esrT : Int
  capUs : Option Nat         -- time of C_est and of ESR_est, once measured
  esrUs : Option Nat
  degradedUs : Option Nat    -- last `! lining degraded`
  ebs : List Nat             -- the last 8 samples of e_B, pJ/byte
  thru : Bool                -- B is below D (R728)
  thruSaid : Bool            -- what the last `! lining through` said
  thruUs : Option Nat        -- start of its 10 s window
  trigUs : Nat               -- the trigger
  flushUs : Nat
  dirtyAt : Nat              -- dirty bytes at the trigger
  cdetLowUs : Option Nat     -- since when CDET_N has been low
  bare : Bool                -- the abandoned ladder of R117: neither boosts nor isolates
  rearmUs : Option Nat       -- R742
  deriving DecidableEq, Repr

end Sys2Proof.Machine
end

