-- ==== Sys2Proof/Machine/TypesSeam.lean ====
section
/-!
DEFINITION. Sys2Proof/Machine/TypesSeam.lean: plain data of the Seam ports, the ring and the Mantle (chapter 16).
-/
namespace Sys2Proof.Machine
open Sys2Proof

/-- An item sent on a hop and not yet acknowledged (R861). -/
structure HopItem where
  seq : Nat
  frame : RFrame
  sends : Nat
  deriving DecidableEq, Repr

/-- Where a port stands. -/
inductive HopPhase where
  | off
  | monitor
  | ident        -- full negotiation, IDENT every 20 µs (R854)
  | attempt      -- attempt k runs (R855)
  | failed       -- R856
  | up
  deriving DecidableEq, Repr

/-- A port and its hop. `locked` is the mode its monitor found (rate code, two lanes). -/
structure Hop where
  phase : HopPhase
  locked : Option (Nat × Bool)
  rate : Nat
  two : Bool
  k : Nat
  farLanes : Nat             -- LANES and RATES the far end offered
  farRates : Nat
  echoed : Bool              -- an IDENT named this card as partner
  txNext : Nat
  rxNext : Nat
  queue : List (Bool × RFrame)   -- waiting to be sent; `true` for a forwarded frame
  unacked : List HopItem
  starts : Nat               -- frame starts while a DARN frame was queued, and DARN frames among them (R864)
  darns : Nat
  deriving DecidableEq, Repr

/-- What the card puts on a port, in order. -/
inductive SeamOut where
  | hop (payload : Bytes)          -- IDENT, REPORT or JOIN
  | training (rate : Nat) (two : Bool)
  | item (seq : Nat) (f : RFrame)
  | ack (e : Nat)
  | rep (e : Nat)
  deriving DecidableEq, Repr

/-- The BEAT payload (Table SEAM-3). -/
structure Beat where
  flags : Nat                -- CAND, MANTLE, STANDBY, TICK, LIMP in bits 0 to 4
  twin : Nat
  tstate : Nat
  serial : Nat
  minute : Nat
  grid : Nat
  standby : Nat
  pass : Nat
  roster : Nat
  deriving DecidableEq, Repr

/-- The last BEAT of a source and when it arrived; `counted`: its silence has been counted (R867). -/
structure BeatRec where
  src : Nat
  us : Nat
  beat : Beat
  counted : Bool
  deriving DecidableEq, Repr

/-- A `mantle relay` under way (R1089, R1090): the member, the RSEQ of the LINE sent, when, and the reply lines so far. -/
structure Relay where
  slot : Nat
  req : Nat
  us : Nat
  lines : List String
  deriving DecidableEq, Repr

/-- The Seam block's state that no register holds. -/
structure Seam where
  east : Hop
  west : Hop
  inc : Nat
  rseq : List (Nat × Nat)            -- next RSEQ of a class
  seen : List (Nat × (Nat × Nat))    -- source × 256 + class: INC and highest RSEQ accepted (R863)
  beats : List BeatRec
  tokenUs : Option Nat               -- when the last token was received on the West port
  mantleUs : Option Nat              -- when the last MANTLE BEAT arrived
  passSince : Option Nat             -- when the pass began that the last roster stands for
  lastPass : Nat                     -- PASS of the card's own previous token on its return
  ownTokenUs : Option Nat            -- when its own last token began
  leftUs : Option Nat                -- when it last left by the failed-hop rule
  named : Bool                       -- the last MANTLE BEAT named a standby
  minuteSet : Option Nat             -- the minute a `clock set` on the Mantle set: no TICK announces it (R990)
  heard : List Nat                   -- sources whose session carried a line since the Mantle took office (R896)
  reqs : List (Nat × Nat)            -- source → RSEQ of its last LINE frame
  linePort : List (Nat × Nat)        -- source → port its last LINE frame came in on
  relay : List Relay
  delivered : List RFrame            -- frames delivered to the card
  sent : List (Nat × SeamOut)        -- what it sent: 0 East, 1 West
  deriving DecidableEq, Repr

end Sys2Proof.Machine
end

