-- ==== Sys2Proof/Machine/State.lean ====
section
/-!
DEFINITION. Sys2Proof/Machine/State.lean: the state of the card, the reasons a command can stop, and the state after
power-on reset. Every register of the register map stands in `regs` (its one home); what no register holds stands in
one structure for each chapter of the spec.
-/
namespace Sys2Proof.Machine
open Sys2Proof

/-- The reasons a command stops the machine with a fault: there is none. What the spec calls a fault (an ER reply, a
completion status, an error flag, LIMP) is an effect on the state. -/
inductive Fault where
  deriving DecidableEq, Repr

/-- The reasons a command is refused. -/
inductive Refusal where
  /-- The command has no meaning yet; raised by the arms of `exec` only. Safe: nothing is claimed of the next state. -/
  | notModelled (mnemonic : String)
  deriving DecidableEq, Repr

/-- The registers that differ from their reset words: (address, word), addresses strictly rising. The second bank of a
register that is banked per core (Table MAP-4) has its address plus 2^32. -/
abbrev RegFile := List (Nat × BitVec 32)

/-- The state of the card. -/
structure State where
  pending : List Instr   -- the commands that wait, first in, first out
  clk : Nat              -- the model's own clock: microseconds, as of the last command that carried a time
  free : Nat             -- the model's own counter of free values (Config)
  regs : RegFile
  conf : List (Fld × Nat)            -- register settings the configuration record keeps
  boot : Boot
  col : Collar
  slv : Sleeve
  pockets : List (Nat × Pocket)      -- the Pockets that are not FREE, ascending; P000 among them
  queues : List (Nat × QueuePair)    -- the queues that are not FREE, ascending
  arb : Arbiter
  refusals : List Completion         -- the refusal list (R333)
  cache : Cache
  flash : Flash
  log : BootArea                     -- the two logs of the boot area (R462 to R464)
  execs : List Exec                  -- commands in execution, in dispatch order
  execNext : Nat
  keys : Keys
  htg : Htg
  seam : Seam
  twin : Twin
  pwr : Pwr
  dram : Dram
  access : Access
  lin : Lining
  life : Life
  deriving DecidableEq, Repr

/-- A session at its start (R134, R177). -/
def Session.start (r : Role) : Session :=
  { role := r, last := none, chal := none, notices := [], lost := 0, blob := [], await := none }

/-- An empty line buffer. -/
def RawLine.empty : RawLine := { chars := [], parity := false, framing := false, overrun := false, idle := false }

/-- The Collar state after reset (R134). -/
def Collar.reset : Collar :=
  { collar := Session.start .operator, mgt := Session.start .host, seam := [],
    part := RawLine.empty, held := [], switchDiv := none, ctsHigh := false, txHold := [], txCut := 0, waiting := [],
    ctsNext := Option.none, lockout := false, lock := none, txLock := false,
    lastChange := Option.none, muted := [], inBreak := false, t0Lock := false, jobNext := 1, jobs := [], rpLog := [], sent := [] }

/-- The start-up state after power-on reset, before SUPPLY_GOOD rises (R69, R73, R79). -/
def Boot.reset : Boot :=
  { supply := false, xtalLost := false, running := false, done := [], kind := .powerOn, retry := false,
    pending := none, romErrs := 0, rootKey := false, fuseSerial := 0, fuseCode := 0, ready := false, onUs := 0,
    triggerUs := 0, wdogUs := 0, sleeveHigh := false, sleeveFell := false }

/-- A mode with nothing in force. -/
def LinkMode.none : LinkMode :=
  { lanes := 0, gusset := false, rate := 0, feat := 0, maxFrame := 0, turnFrames := 0, turnUs := 0, idleHold := 0,
    preOut := 0, preIn := 0 }

/-- The Sleeve link in Sleeve reset (R219, R278). -/
def Sleeve.reset : Sleeve :=
  { phase := .reset, mode := LinkMode.none, tried := LinkMode.none, set := { maxFrame := 0, turnFrames := 0, turnUs := 0, idleHold := 0 },
    offered := 0, leftLanes := 0, badLanes := 0, pllRate := 0, onLanes := 0, selLanes := 0, selGusset := false, reason := 0, negCount := 0,
    firstGrtUs := 0, attempt := 0, okA := Option.none, okB := Option.none, okFirst := false, retrainDue := Option.none, bursts := 0,
    stopWas := [], ownLanes := [], fresh := true, oldBefore := 0, repDue := false, txNext := 0, unacked := [],
    backAt := Option.none, ackUndo := Option.none, newItems := [], posted := [], sent := [] }

/-- P000: always ACTIVE, no namespace of its own (R323, Table POC-1 defaults). -/
def Pocket.p000 : Pocket :=
  { state := .active, size := 0, cls := .normal, weight := 1, limit := 256, unit512 := false, cleanMin := 0,
    cleanMax := 0, dirtyMin := 0, dirtyMax := 0, gen := 0, integSlot := Option.none, change := Option.none, credit := 0,
    lastQueue := Option.none, visLimit := 256, wasSuspended := false, delStep := 0 }

/-- The arbiter with every pointer at P000 and no credit given. -/
def Arbiter.reset : Arbiter :=
  { ptr := [0, 0, 0], visiting := [false, false, false], lastAged := [Option.none, Option.none, Option.none],
    overruns := [], nextRef := 0 }

/-- An empty cache. -/
def Cache.reset : Cache :=
  { entries := [], order := 0, streams := [], wanted := [], window := 1024, flushing := false, urgent := false, budget := 0 }

/-- A flash side of which nothing is known yet: no die found, no Bolt, no map. -/
def Flash.reset : Flash :=
  { dies := [], retired := [], erases := [], pages := [], flips := [], bolts := [], progs := [], held := [], fit := 0, map := [], segs := [],
    segUse := [], mapBolts := [], area := false, modes := [], bases := [], usable := 0, gens := [], wseq := 0, boltSeq := 0, formatting := false, patrolPos := 0, patrolUs := [], deltas := [], deltaPos := 0, deltaDue := false, idxDirty := [], idxAt := [], ckpt := Option.none,
    ckptUs := 0, closedSince := 0, ckptRuns := Option.none, ckptOwn := false, ckptOwnUs := 0, bootSingle := false, relocs := [], gcQueue := [], recov := [], levels := [],
    lap := [], lapRate := [], lapStart := 0, lapWarned := false, ownQuads := [], wpHigh := [], differs := [], reads := [] }

/-- Every key slot EMPTY and no journal image. -/
def Keys.reset : Keys :=
  { slots := [], image := [], jseq := 0, update := Option.none, waiting := [], erasing := false, active := 0, copies := [[], []], blocks := [0, 0], room := [0, 0],
    interrupted := Option.none, nonce := 0, limit := 0, reserving := false, records := [], coreBusy := [], lastPocket := 0,
    drains := [], redo := [] }

/-- No open minute and no bucket. -/
def Htg.reset : Htg := { minutes := [], rings := [], cross := [], tack := 0, phase := 0, lostNoted := Option.none, store := [] }

/-- No pairing. -/
def Twin.reset : Twin :=
  { pairing := Option.none, txNext := 0, sentTo := 0, darn := [], unconf := [], confirmed := 0, refused := Option.none, marked := [], inCopy := [],
    copies := [], missed := [], darnStart := 0, darnRegions := 0, recopied := 0, rxNext := 0,
    half := Option.none, through := [], itemDone := 0, lineAwait := Option.none, blob := [], acked := 0, clean := false, served := false, fresh := false, holdUntil := 0,
    fromStandby := false, offer := Option.none, offerFirst := false, offerReq := Option.none, swapUs := Option.none,
    swapSeq := Option.none, unpairSeq := Option.none }

/-- A port that is off. -/
def Hop.reset : Hop :=
  { phase := .off, locked := Option.none, rate := 0, two := false, k := 0, farLanes := 0, farRates := 0, echoed := false,
    txNext := 0, rxNext := 0, queue := [], unacked := [], starts := 0, darns := 0 }

/-- The card is out of the ring. -/
def Seam.reset : Seam :=
  { east := Hop.reset, west := Hop.reset, inc := 0, rseq := [], seen := [], beats := [], tokenUs := Option.none,
    mantleUs := Option.none, passSince := Option.none, lastPass := 0,
    ownTokenUs := Option.none, leftUs := Option.none, named := false, minuteSet := Option.none, heard := [], reqs := [], linePort := [], relay := [], delivered := [], sent := [] }

/-- No domain under change. -/
def Pwr.reset : Pwr :=
  { drains := [], ramps := [], holds := [], checks := [], own := [], entry := Option.none, offWas := [], levelWas := 2,
    enteredUs := 0, wakes := [], levelTo := Option.none, regBad := false, pauseUs := 0, gated := false,
    fullLevel := 2, visitUs := 0, timerS := 0, tackS := 60, tackCh := 5, pmb := [] }

/-- A lifecycle array in which no bit is programmed: BLANK. -/
def Life.reset : Life := { copies := [0, 0, 0], trans := Option.none, run := Option.none, tapIn := .idcode, tap := .idcode }

/-- A Lining descriptor that was never programmed (R707). -/
def LinDesc.blank : LinDesc :=
  { nom := Option.none, esrMax := Option.none, float := Option.none, ilim := Option.none, slotW := Option.none }

/-- The converter off, nothing measured, no removal (R701, R719). -/
def Lining.reset : Lining :=
  { desc := LinDesc.blank, en := false, boost := false, isoHigh := true, vocs := [], targetMa := 0, softUs := 0, lowUs := Option.none,
    weakUs := 0, sensUs := Option.none, faultUs := 0, why := [], win := Option.none, capT := 0, esrT := 0, capUs := Option.none, esrUs := Option.none,
    degradedUs := Option.none, ebs := [], thru := false, thruSaid := false, thruUs := Option.none, trigUs := 0, flushUs := 0,
    dirtyAt := 0, cdetLowUs := some 0, bare := false, rearmUs := Option.none }

/-- A DRAM channel without power: no line was ever written. -/
def DramCh.reset : DramCh :=
  { lines := [], tags := [], tagBad := [], tagWrong := [], tcache := [], reads := [], wq := [], issued := [], merge := [], draining := false, rows := [],
    acts := [], closePage := true, rfm := false, migration := Option.none, failing := [], shrink := Option.none,
    alertUs := Option.none, scrubNext := 0, scrubLapUs := 0, scrubUs := Option.none, fixed := [], replies := [] }

/-- Both channels without power, and no training record. -/
def Dram.reset : Dram :=
  { ch := [DramCh.reset, DramCh.reset], nextId := 0, order := 0, record := Option.none, masksNext := Option.none, carve := [] }

/-- An empty fault log and no extension. -/
def Access.reset : Access :=
  { log := [], noted := [], ext := Option.none, p1Faults := [], readData := 0, answer := 0, image := Option.none, sramFlips := [], sram := [], rom := [] }

/-- The card in power-on reset: every register at its reset word (R23). -/
def State.reset : State :=
  { pending := [], clk := 0, free := 0, regs := [], conf := [], boot := Boot.reset, col := Collar.reset,
    slv := Sleeve.reset, pockets := [(0, Pocket.p000)], queues := [], arb := Arbiter.reset, refusals := [],
    cache := Cache.reset, flash := Flash.reset, log := { logA := [], logB := [], rseq := 0 }, execs := [], execNext := 0, keys := Keys.reset, htg := Htg.reset,
    seam := Seam.reset, twin := Twin.reset, pwr := Pwr.reset, dram := Dram.reset, access := Access.reset, lin := Lining.reset, life := Life.reset }

end Sys2Proof.Machine
end

