-- ==== Sys2Proof/Machine/RegOps.lean ====
section
/-!
DEFINITION. Sys2Proof/Machine/RegOps.lean: the named operations on the register file, time and free values, and the small
tools on association lists.
-/
namespace Sys2Proof.Machine
open Sys2Proof

/-! ### The register file -/

/-- The address a register word is kept under: core 1's copy of a banked register stands 2^32 higher (R1124). -/
def bankKey (core a : Nat) : Nat := if core = 0 then a else a + 0x100000000

/-- The reset word behind a key. -/
def keyReset (k : Nat) : BitVec 32 := resetWord (k % 0x100000000)

/-- The word under a key. -/
def RegFile.find : RegFile → Nat → BitVec 32
  | [], k => keyReset k
  | (a, w) :: r, k => if a = k then w else if k < a then keyReset k else RegFile.find r k

/-- A word written under a key. A word equal to the reset word is not listed, so that equal register files are equal lists. -/
def RegFile.put : RegFile → Nat → BitVec 32 → RegFile
  | [], k, v => if v = keyReset k then [] else [(k, v)]
  | (a, w) :: r, k, v =>
    if a = k then (if v = keyReset k then r else (k, v) :: r)
    else if k < a then (if v = keyReset k then (a, w) :: r else (k, v) :: (a, w) :: r)
    else (a, w) :: RegFile.put r k v

/-- Addresses strictly rising above a bound, and no word equal to its reset word. -/
def RegFile.wfFrom : Nat → RegFile → Bool
  | _, [] => true
  | lo, (a, w) :: r => decide (lo ≤ a) && decide (w ≠ keyReset a) && RegFile.wfFrom (a + 1) r

/-- The canonical form of the register file. -/
def RegFile.wf (f : RegFile) : Bool := RegFile.wfFrom 0 f

/-- The registers of the domains that a reset covers return to their reset words (R23); those for which `kept` holds stay. -/
def RegFile.clear (f : RegFile) (covered : Nat → Bool) (kept : Nat → Bool) : RegFile :=
  f.filter (fun p => !(covered (regDomain (p.1 % 0x100000000))) || kept (p.1 % 0x100000000))

/-- The bits of a field within its word. -/
def Fld.mask (f : Fld) : BitVec 32 := (BitVec.ofNat 32 (2 ^ f.width - 1)) <<< f.lsb

/-- A field's value in a word. -/
def Fld.of (f : Fld) (w : BitVec 32) : Nat := (w.toNat >>> f.lsb) % 2 ^ f.width

/-- A word with a field replaced; bits of the value above the field's width are dropped. -/
def Fld.into (f : Fld) (w : BitVec 32) (v : Nat) : BitVec 32 :=
  (w &&& ~~~ f.mask) ||| (((BitVec.ofNat 32 v) <<< f.lsb) &&& f.mask)

/-- The register word at an address (core 0's copy where it is banked). -/
def State.word (s : State) (a : Nat) : BitVec 32 := s.regs.find a

/-- The state with the register word at an address replaced by hardware. -/
def State.setWord (s : State) (a : Nat) (v : BitVec 32) : State := { s with regs := s.regs.put a v }

/-- A field's value. -/
def State.get (s : State) (f : Fld) : Nat := f.of (s.word f.addr)

/-- A one-bit field. -/
def State.flag (s : State) (f : Fld) : Bool := s.get f != 0

/-- Hardware writes a field; every other field of the register keeps its value. -/
def State.set (s : State) (f : Fld) (v : Nat) : State := s.setWord f.addr (f.into (s.word f.addr) v)

/-- Hardware sets or clears a flag. -/
def State.setFlag (s : State) (f : Fld) (b : Bool) : State := s.set f (if b then 1 else 0)

/-- An event counter grows by `n` and stops at its largest value (R1169). -/
def State.count (s : State) (f : Fld) (n : Nat) : State := s.set f (min (2 ^ f.width - 1) (s.get f + n))

/-- A setting is written and kept in the configuration record. -/
def State.keep (s : State) (f : Fld) (v : Nat) : State :=
  let s1 := s.set f v
  { s1 with conf := s1.conf.filter (fun c => c.1 ≠ f) ++ [(f, s1.get f)] }

/-- A field of a core's own copy of a banked register (R1124). -/
def State.getOn (s : State) (core : Nat) (f : Fld) : Nat := f.of (s.word (bankKey core f.addr))

/-- Hardware or software writes a field of a core's own copy. -/
def State.setOn (s : State) (core : Nat) (f : Fld) (v : Nat) : State :=
  s.setWord (bankKey core f.addr) (f.into (s.word (bankKey core f.addr)) v)

/-- A value brought to the nearest value of a range (R314 and the like). -/
def clamp (lo hi v : Nat) : Nat := max lo (min hi v)

/-- A field that saturates at its largest value. -/
def State.setSat (s : State) (f : Fld) (v : Nat) : State := s.set f (min (2 ^ f.width - 1) v)

/-! ### Time and free values -/

/-- Time has reached `us` microseconds. -/
def State.clkTo (s : State) (us : Nat) : State := { s with clk := max s.clk us }

/-- The next free value is used up. -/
def State.useFree (s : State) : State := { s with free := s.free + 1 }

/-- An association list with one entry replaced, or added at the end. -/
def upsert {α : Type} (n : Nat) (v : α) : List (Nat × α) → List (Nat × α)
  | [] => [(n, v)]
  | (k, w) :: r => if k = n then (n, v) :: r else (k, w) :: upsert n v r

/-- Bytes of a Pocket that crossed a unit in the present sample (R911); P000 stands for work done for no Pocket. -/
def State.cross (s : State) (p n : Nat) : State :=
  { s with htg := { s.htg with cross := upsert p ((s.htg.cross.lookup p).getD 0 + n) s.htg.cross } }

/-- An association list in ascending key order with one value put in. -/
def putSorted {α : Type} (k : Nat) (v : α) : List (Nat × α) → List (Nat × α)
  | [] => [(k, v)]
  | (a, w) :: r => if a = k then (k, v) :: r else if k < a then (k, v) :: (a, w) :: r else (a, w) :: putSorted k v r

/-- The least element of a list by a measure, the first among equals. -/
def leastBy {α : Type} (f : α → Nat) : List α → Option α
  | [] => none
  | x :: r => match leastBy f r with
    | none => some x
    | some y => if f x ≤ f y then some x else some y

end Sys2Proof.Machine
end

