-- ==== Sys2Proof/Machine/SeamTx.lean ====
section
/-!
DEFINITION. Sys2Proof/Machine/SeamTx.lean: ring frames, the order in which a port sends them, and the primary's stream of TWIN
items (chapter 16: R853, R858 to R864, R870, R876). Port 0 is East and port 1 is West.
-/
namespace Sys2Proof.Machine
open Sys2Proof

/-! ### Ports -/

def State.hop (s : State) (p : Nat) : Hop := if p = 0 then s.seam.east else s.seam.west

def State.setHop (s : State) (p : Nat) (h : Hop) : State :=
  if p = 0 then { s with seam := { s.seam with east := h } } else { s with seam := { s.seam with west := h } }

/-- The East port's field, or the same field of the West port, whose register follows it (Table SEAM-9). -/
def portFld (f : Fld) (p : Nat) : Fld := ⟨f.addr + 4 * p, f.lsb, f.width⟩

/-- A counter's East or West half. -/
def halfFld (e w : Fld) (p : Nat) : Fld := if p = 0 then e else w

/-- What goes out on a port. -/
def State.seamOut (s : State) (p : Nat) (o : SeamOut) : State :=
  { s with seam := { s.seam with sent := s.seam.sent ++ [(p, o)] } }

/-- SEAM_PORTx.STATE's code. -/
def HopPhase.code : HopPhase → Nat
  | .off => 0
  | .monitor => 1
  | .up => 3
  | _ => 2

def State.setPhase (s : State) (p : Nat) (ph : HopPhase) : State :=
  (s.setHop p { s.hop p with phase := ph }).set (portFld SEAM_PORTE.STATE p) ph.code

/-- The card's slot, 0xFF when its strap names none. -/
def State.ownSlot (s : State) : Nat := if s.flag SYS_STRAP.SLOT_VALID then s.get SYS_STRAP.SLOT_ID else 0xFF

def State.monitoring (s : State) : Bool := s.get SEAM_STAT.RING == 1
def State.joined (s : State) : Bool := s.get SEAM_STAT.RING == 2

/-- A mode's byte (Table SEAM-1, byte 10). -/
def modeByte (rate : Nat) (two : Bool) : Nat := rate + (if two then 16 else 0)

/-- Offered lanes and rates (R854). -/
def State.ownLanes (s : State) : Nat := if s.flag SEAM_CFG.ONE_LANE then 1 else 3
def State.ownRates (s : State) : Nat := 2 ^ (min 2 (s.get SEAM_CFG.RATE_MAX) + 1) - 1

/-- A hop frame's payload (Table SEAM-1). -/
def State.hopPayload (s : State) (p msg k result : Nat) : Bytes :=
  let h := s.hop p
  leBytes 1 msg ++ [1] ++ leBytes 1 s.ownSlot ++ leBytes 1 p ++ leBytes 4 (s.get SYS_SERIAL.SERIAL) ++
  leBytes 1 s.ownLanes ++ leBytes 1 s.ownRates ++ leBytes 1 (modeByte h.rate h.two) ++ leBytes 1 k ++ leBytes 1 result ++
  List.replicate 3 0 ++ leBytes 4 (s.get (portFld SEAM_PSERE.SERIAL p)) ++ List.replicate 12 0

/-! ### Sending -/

end Sys2Proof.Machine

namespace Sys2Proof
open Sys2Proof.Machine

/-- The header and payload of an item on the wire with its CRC (Table SEAM-2, R858). -/
def RFrame.bytes (f : RFrame) (seq : Nat) : Bytes :=
  let b := leBytes 1 f.cls ++ leBytes 1 f.sub ++ leBytes 1 f.src ++ leBytes 1 f.dst ++ leBytes 2 f.payload.length ++
    leBytes 2 (seq % 4096) ++ leBytes 8 f.rseq ++ leBytes 1 f.ttl ++ leBytes 1 f.flags ++ leBytes 2 f.inc ++
    padTo 4 f.spare ++ padTo 40 f.area ++ f.payload
  b ++ leBytes 4 (crc32c b)

/-- Is a frame one of the primary's TWIN items (Table SEAM-4)? -/
def RFrame.isItem (f : RFrame) : Bool := f.cls == 1 && decide (f.sub ≤ 8)

/-- The precedence of a frame at a port's transmitter (R864); DARN, UNMAP and REGION_END belong to darning. -/
def RFrame.rank (f : RFrame) : Nat :=
  match f.cls with
  | 4 => 0
  | 2 => 1
  | 1 => if f.sub = 5 ∨ f.sub = 6 ∨ f.sub = 7 then 4 else 2
  | _ => 3

end Sys2Proof

namespace Sys2Proof.Machine
open Sys2Proof

/-- The next frame of a port's queue: by precedence, forwarded frames first within a class; a DARN frame when DARN frames have
had less than their share of the starts (R864). -/
def pickFrame (h : Hop) (share : Nat) : Option (Bool × RFrame) :=
  let darn := h.queue.filter (fun q => q.2.rank == 4)
  let key (q : Bool × RFrame) : Nat := 2 * q.2.rank + (if q.1 then 0 else 1)
  if darn ≠ [] ∧ 100 * h.darns < share * (h.starts + 1) then leastBy key darn else leastBy key h.queue

/-- Queued frames go out while the hop is up and fewer than 512 items are unacknowledged (R861). -/
def State.pumpHop (s : State) (p : Nat) : Nat → State
  | 0 => s
  | n + 1 =>
    let h := s.hop p
    if h.phase ≠ .up ∨ 512 ≤ h.unacked.length then s
    else
      match pickFrame h (clamp10 (s.get SEAM_CFG.DARN_SHARE)) with
      | none => s
      | some q =>
        let anyDarn := h.queue.any (fun x => x.2.rank == 4)
        let h1 : Hop := { h with
          queue := h.queue.erase q, txNext := (h.txNext + 1) % 4096,
          unacked := h.unacked ++ [{ seq := h.txNext, frame := q.2, sends := 1 }],
          starts := if anyDarn then h.starts + 1 else 0,
          darns := if anyDarn then (if q.2.rank = 4 then h.darns + 1 else h.darns) else 0 }
        ((s.setHop p h1).seamOut p (.item h.txNext q.2)).pumpHop p n
where
  clamp10 (x : Nat) : Nat := max 10 (min 90 x)

/-- A frame joins a port's queue. -/
def State.ringPut (s : State) (p : Nat) (fwd : Bool) (f : RFrame) : State :=
  let h := s.hop p
  (s.setHop p { h with queue := h.queue ++ [(fwd, f)] }).pumpHop p (h.queue.length + 1)

/-- The slots a card uses for routing: those of the last ROSTER, or without a Mantle those heard within 30 ms (R867). -/
def State.members (s : State) : List Nat :=
  if s.get SEAM_STAT.MANTLE = 0xFF then (s.seam.beats.filter (fun b => !b.counted)).map (fun b => b.src)
  else (List.range 24).filter (fun k => (s.get SEAM_ROSTER.MASK).testBit k)

/-- Is a slot in the roster? The Mantle's token carries no PASS bit of the Mantle itself, which is a member (DEDUCED, assumption log entry 192). -/
def State.inRoster (s : State) (slot : Nat) : Bool :=
  (s.get SEAM_ROSTER.MASK).testBit slot || (s.get SEAM_STAT.MANTLE == slot && decide (slot < 24))

/-- Members strictly between two slots, going eastbound. -/
def State.between (s : State) (a b : Nat) : Nat :=
  (s.members.filter (fun m => decide (0 < (m + 24 - a) % 24) && decide ((m + 24 - a) % 24 < (b + 24 - a) % 24))).length

/-- The port a unicast frame leaves by (R862). -/
def State.portTo (s : State) (dst : Nat) : Nat :=
  let e := s.between s.ownSlot dst
  let w := s.between dst s.ownSlot
  let p := if s.members = [] ∨ e ≤ w then 0 else 1
  if (s.hop p).phase = .up then p else 1 - p

/-- The next RSEQ of a class (Table SEAM-2). -/
def State.takeRseq (s : State) (cls : Nat) : State × Nat :=
  let n := (s.seam.rseq.lookup cls).getD 0
  ({ s with seam := { s.seam with rseq := upsert cls (n + 1) s.seam.rseq } }, n)

/-- A frame of the card's own goes out on a port. -/
def State.ringOwn (s : State) (p cls sub dst rseq : Nat) (area payload : Bytes) : State :=
  s.ringPut p false
    { cls := cls, sub := sub, src := s.ownSlot, dst := dst, rseq := rseq, ttl := 24, flags := 1 - p, inc := s.seam.inc, spare := [],
      area := padTo 40 area, payload := payload }

/-- The card sends a frame of its own with the next RSEQ of its class: broadcasts eastbound (R865), others by R862. A card that has
not joined sends nothing. -/
def State.ringSend (s : State) (cls sub dst : Nat) (area payload : Bytes) : State :=
  if !s.joined then s
  else
    let (s1, n) := s.takeRseq cls
    s1.ringOwn (if dst = 0xFF then 0 else s.portTo dst) cls sub dst n area payload

/-! ### The stream of TWIN items -/

/-- An item's subtype, class area and payload (Tables SEAM-4, SEAM-5). -/
def TwinWhat.frame : TwinWhat → Nat × Bytes × Bytes
  | .data darn lba pk half integ poison ik count tag bs =>
    (if darn then 5 else 1,
      leBytes 6 lba ++ leBytes 1 pk ++ leBytes 1 (half % 2 + (if integ then 2 else 0) + (if poison then 4 else 0)) ++
      leBytes 2 ik ++ List.replicate 6 0 ++ leBytes 8 count ++ padTo 16 tag, padTo 2048 bs)
  | .trim lba pk n => (2, leBytes 6 lba ++ leBytes 1 pk ++ [0] ++ leBytes 4 n, [])
  | .copy src pk integ n dst dk ik =>
    (3, leBytes 6 src ++ leBytes 1 pk ++ leBytes 1 (if integ then 1 else 0) ++ leBytes 4 n ++ leBytes 6 dst ++
      leBytes 2 dk ++ leBytes 2 ik, [])
  | .line t => (4, [], t.toList.map (fun c => BitVec.ofNat 8 c.toNat))
  | .unmap lba pk n => (6, leBytes 6 lba ++ leBytes 1 pk ++ [0] ++ leBytes 4 n, [])
  | .regionEnd r pk => (7, leBytes 4 r ++ leBytes 1 pk, [])
  | .hold ms => (8, leBytes 2 ms, [])
  | .ack n => (0x10, leBytes 8 n, [])
  | .nak n => (0x11, leBytes 8 n, [])
  | .pair d c sv fr => (0x20, leBytes 8 d ++ leBytes 1 ((if c then 1 else 0) + (if sv then 2 else 0) + (if fr then 4 else 0)), [])

/-- The Pocket an item belongs to (R911); P000 for one that belongs to none. -/
def TwinWhat.pocket : TwinWhat → Nat
  | .data _ _ p _ _ _ _ _ _ _ => p
  | .trim _ p _ => p
  | .unmap _ p _ => p
  | .copy _ p _ _ _ _ _ => p
  | .regionEnd _ p => p
  | _ => 0

/-- The regions that an unconfirmed item touches. -/
def TwinWhat.range : TwinWhat → Option (Nat × Nat × Nat)
  | .data _ lba p _ _ _ _ _ _ _ => some (p, lba, 1)
  | .trim lba p n => some (p, lba, n)
  | .unmap lba p n => some (p, lba, n)
  | .copy _ p _ n dst _ _ => some (p, dst, n)
  | .regionEnd r p => some (p, 256 * r, 256)
  | _ => none

/-- A DATA item whose block is still being encrypted has nothing to send yet. -/
def TwinWhat.ready : TwinWhat → Bool
  | .data _ _ _ _ _ poison _ _ _ bs => poison || bs != []
  | _ => true

/-- SEAM_TWIN.STATE (R878), and the partner's slot. -/
def State.twinState (s : State) : Nat := s.get SEAM_TWIN.STATE
def State.partner (s : State) : Nat := s.get SEAM_TWIN.PARTNER
def State.mirroring (s : State) : Bool := s.twinState == 2

/-- The primary sends TWIN items in DARNING and MIRROR (Table SEAM-6). -/
def State.mirrors (s : State) : Bool := s.twinState == 1 || s.twinState == 2

/-- SEAM_TWIN shows the pairing; without one PARTNER reads 0xFF (Table SEAM-9). -/
def State.showTwin (s : State) (st : Nat) : State :=
  let s1 := s.set SEAM_TWIN.STATE st
  match s1.twin.pairing with
  | none => ((s1.set SEAM_TWIN.ROLE 0).set SEAM_TWIN.PARTNER 0xFF).set SEAM_TWIN.TWIN_WK 0
  | some g => ((s1.setFlag SEAM_TWIN.ROLE (!g.primary)).set SEAM_TWIN.PARTNER g.slot).set SEAM_TWIN.TWIN_WK g.wk

/-- Does a TWIN frame of the card's own still wait at a port? -/
def State.twinWaits (s : State) : Bool :=
  [s.seam.east, s.seam.west].any (fun h => h.queue.any (fun q => !q.1 && q.2.cls == 1))

/-- The primary's items go out in TSEQ order, 2,048 bytes each at the port (R911). A darning item gets its TSEQ when it is sent, once no live item waits (R864, R870,
R903). -/
def State.twinPump (s : State) : Nat → State
  | 0 => s
  | n + 1 =>
    if !s.mirrors || !s.joined || s.twinWaits then s
    else
      let t := s.twin
      if t.sentTo < t.txNext then
        match t.unconf.find? (fun i => i.tseq == t.sentTo) with
        | none => s
        | some i =>
          if !i.what.ready then s
          else
            let (sub, area, pl) := i.what.frame
            let s1 := ({ s with twin := { t with sentTo := t.sentTo + 1 } }).cross i.what.pocket 2048
            (s1.ringOwn (s1.portTo s1.partner) 1 sub s1.partner i.tseq area pl).twinPump n
      else
        match t.darn with
        | [] => s
        | w :: r =>
          let it : TwinItem := { tseq := t.txNext, what := w }
          let s1 := { s with twin := { t with darn := r, txNext := t.txNext + 1, unconf := t.unconf ++ [it] } }
          s1.twinPump n

/-- The stream goes on as far as it can. -/
def State.twinGo (s : State) : State := s.twinPump (2 * (s.twin.unconf.length + s.twin.darn.length) + 2)

/-- An item joins the mirror with the next TSEQ (R870). -/
def State.mirror (s : State) (w : TwinWhat) : State :=
  if s.mirrors then
    let it : TwinItem := { tseq := s.twin.txNext, what := w }
    ({ s with twin := { s.twin with unconf := s.twin.unconf ++ [it], txNext := s.twin.txNext + 1 } }).twinGo
  else s

/-- A configuration line for the secondary (R871). -/
def State.mirrorLine (s : State) (l : String) : State := s.mirror (.line l)

/-- The secondary's own items: ACK, NAK and PAIR. -/
def State.twinReply (s : State) (w : TwinWhat) : State :=
  let (sub, area, pl) := w.frame
  s.ringSend 1 sub s.partner area pl

end Sys2Proof.Machine
end

