-- ==== Sys2Proof/Machine/Ops.lean ====
section
/-!
DEFINITION. Sys2Proof/Machine/Ops.lean: the named operations on Baleong sessions: the lines a card sends on a path, notices, the
configuration lock and jobs.
-/
namespace Sys2Proof.Machine
open Sys2Proof

/-! ### Baleong sessions -/

/-- The role a path starts with (Table COL-7). -/
def startRole : Path → Role
  | .collar => .operator
  | .mgt => .host
  | .seam _ => .none

/-- The session of a path; a Seam source with none yet has a fresh one (R192). -/
def State.session (s : State) : Path → Session
  | .collar => s.col.collar
  | .mgt => s.col.mgt
  | .seam n => (s.col.seam.lookup n).getD (Session.start .none)

/-- The state with the session of a path replaced. -/
def State.setSession (s : State) (p : Path) (x : Session) : State :=
  match p with
  | .collar => { s with col := { s.col with collar := x } }
  | .mgt => { s with col := { s.col with mgt := x } }
  | .seam n => { s with col := { s.col with seam := upsert n x s.col.seam } }

/-- The session of a path ends, and with it the lines that wait on the path (R191). -/
def State.endSession (s : State) (p : Path) (x : Session) : State :=
  let t := s.setSession p x
  { t with col := { t.col with waiting := t.col.waiting.filter (fun w => w.path != p) } }

/-- Is a path in strict mode? MGT and Seam paths always are (R154). -/
def State.strict (s : State) : Path → Bool
  | .collar => s.flag SYS_COLCFG.STRICT
  | _ => true

/-- With CTS_EN at 1 and COL_CTS_N high the card starts no character on the Collar line (R129). -/
def State.ctsHolds (s : State) : Bool := s.flag SYS_COLCFG.CTS_EN && s.col.ctsHigh

/-- A line for a Seam source: each of its lines is an MGT frame to the source slot, a REPLY with the RSEQ of the LINE it answers
and its place in the reply, or a NOTICE (R896, R897, Table SEAM-10). -/
def State.seamLine (s : State) (slot : Nat) (l : CardLine) : State :=
  let ts := l.texts.map (fun t => t.toList.map (fun c => BitVec.ofNat 8 c.toNat))
  match l with
  | .notice _ _ => ts.foldl (fun t b => t.ringSend 2 3 slot [] b) s
  | _ =>
    let req := (s.seam.reqs.lookup slot).getD 0
    (ts.zip (List.range ts.length)).foldl (fun t bi =>
      t.ringSend 2 2 slot (leBytes 8 req ++ leBytes 2 bi.2 ++ leBytes 1 (if bi.2 + 1 = ts.length then 1 else 0)) bi.1) s

/-- The card sends something on a path; the Collar holds it back while COL_CTS_N forbids it (R129), and sends nothing during a break (R196); on the MGT path each line is queued as one MGT frame (R189), on a Seam path each is one
ring frame (R897). -/
def State.send (s : State) (p : Path) (l : CardLine) : State :=
  if p = .collar ∧ s.col.inBreak = true then s
  else if p = .collar ∧ s.ctsHolds = true then { s with col := { s.col with txHold := s.col.txHold ++ [l] } }
  else
    let s1 := { s with col := { s.col with sent := s.col.sent ++ [(p, l)] } }
    match p with
    | .mgt => { s1 with slv := { s1.slv with newItems := s1.slv.newItems ++ l.texts.map TxItem.mgt } }
    | .seam n => s1.seamLine n l
    | .collar => s1

/-- CTS_EN takes the value a `line cts=` set once the reply has gone (R986). -/
def State.ctsApply (s : State) : State :=
  match s.col.ctsNext with
  | none => s
  | some b =>
    if s.col.txHold ≠ [] then s else ({ s with col := { s.col with ctsNext := none } }).setFlag SYS_COLCFG.CTS_EN b

/-- Is it a reply, or the RP of a line? -/
def CardLine.isReply : CardLine → Bool
  | .reply _ _ => true
  | .rp _ => true
  | _ => false

/-- A reply on the Collar has not been sent in full: COL_CTS_N holds it back (R129, R172, R173). -/
def State.replyHeld (s : State) (p : Path) : Bool := p == .collar && s.col.txHold.any CardLine.isReply

/-- What was held back goes out once COL_CTS_N allows it, outside a break (R129, R196), and the lock that a held reply kept ends (R175). -/
def State.ctsRelease (s : State) : State :=
  if s.ctsHolds || s.col.inBreak then s
  else ({ s with col := { s.col with
    sent := s.col.sent ++ s.col.txHold.map (fun l => (Path.collar, l)), txHold := [], txCut := 0, txLock := false } }).ctsApply

/-- The card's output on the Collar stops `left` characters before its end (R129, R196). From what was sent, the newest first: the Collar's lines
whose last character has not gone, oldest first; how many characters of the first of them have; and the rest. -/
def unsent : Nat → List (Path × CardLine) → List CardLine × Nat × List (Path × CardLine)
  | _, [] => ([], 0, [])
  | 0, l => ([], 0, l)
  | left + 1, x :: r =>
    if x.1 ≠ .collar then
      let (ls, cut, rest) := unsent (left + 1) r
      (ls, cut, x :: rest)
    else if left + 1 < x.2.chars.length then ([x.2], x.2.chars.length - (left + 1), r)
    else
      let (ls, cut, rest) := unsent (left + 1 - x.2.chars.length) r
      (ls ++ [x.2], cut, rest)

/-- The Collar's output stops in the middle: a character begun is completed, and what has not gone counts as held back (R129, R196). The reply of
the changing command accepted last keeps its lock (R175). -/
def State.cutOutput (s : State) (left : Nat) : State :=
  let (ls, cut, rest) := unsent left s.col.sent.reverse
  if ls = [] then s
  else
    { s with col := { s.col with
        sent := rest.reverse, txHold := ls ++ s.col.txHold, txCut := cut,
        txLock := s.col.txLock || (ls.any CardLine.isReply && s.col.lastChange == some (.collar, s.clk)) } }

/-- In typed mode the prompt follows every reply and every batch of notices (Table COL-3); after a `line speed=` it comes at the new
speed (R139). -/
def State.prompt (s : State) (p : Path) : State :=
  let t := if p = .collar then s.ctsApply else s
  if t.strict p || (p == .collar && t.col.switchDiv.isSome) then t else t.send p .prompt

/-- The configuration lock ends with its holder's reply (R175). -/
def State.unlock (s : State) (p : Path) : State :=
  if s.col.lock = some p then { s with col := { s.col with lock := none } } else s

/-- A changing command was accepted on a path: its lock lasts while the Collar still holds its reply back (R175), and a changing line of
another path at the same moment comes second (R199). -/
def State.accepted (s : State) (p : Path) : State :=
  { s with col := { s.col with lastChange := some (p, s.clk), txLock := s.col.txLock || (p == .collar && !s.col.txHold.isEmpty) } }

/-- A command whose reply is still owed goes on without it: its path's session ends or breaks off (R133, R191, R201). -/
def State.mute (s : State) (p : Path) : State :=
  match (s.session p).await with
  | some a => { s with col := { s.col with muted := s.col.muted ++ [(p, a.what)] } }
  | none => s

/-- A reply is sent on a path and becomes its stored last reply (R155, R170). -/
def State.reply (s : State) (p : Path) (r : Reply) : State :=
  let st := s.strict p
  ((s.send p (.reply st r)).setSession p { s.session p with last := some (st, r), await := none }).prompt p

/-- A notice joins a session's queue, or is dropped and counted when the queue holds 64 (R164). -/
def Session.note (x : Session) (n : Notice) : Session :=
  if x.notices.length < 64 then { x with notices := x.notices ++ [n] } else { x with lost := x.lost + 1 }

/-- A muted command has come to its end: the lock it held ends (R133, R175). -/
def State.unmute (s : State) (w : AwaitFor) : State :=
  ((s.col.muted.filter (fun m => m.2 == w)).map (·.1)).foldl State.unlock
    { s with col := { s.col with muted := s.col.muted.filter (fun m => m.2 != w) } }

/-- The active Mantle's session takes notices once it has carried a line since the Mantle took office (R896). -/
def State.noticeSlots (s : State) : List Nat := s.seam.heard.filter (fun n => n == s.get SEAM_STAT.MANTLE)

/-- A notice is raised on every path whose notices are active (R165, R896): the Collar, MGT, whose queue holds it until the link
has negotiated, and the active Mantle's session. -/
def State.notify (s : State) (ev : String) (kv : List KV) : State :=
  let n : Notice := { event := ev, kv := kv }
  let s1 := { s with col := { s.col with collar := s.col.collar.note n, mgt := s.col.mgt.note n } }
  s1.noticeSlots.foldl (fun t k => t.setSession (.seam k) ((t.session (.seam k)).note n)) s1

/-- A notice for one path alone (R186). -/
def State.notifyOn (s : State) (p : Path) (ev : String) (kv : List KV) : State :=
  s.setSession p ((s.session p).note { event := ev, kv := kv })

/-- A job starts: its number counts from 1 to 65,535 and wraps to 1 (R161). -/
def State.startJob (s : State) (p : Path) (what : String) (w : Option AwaitFor := none) : State :=
  { s with col := { s.col with
      jobs := s.col.jobs ++ [{ num := s.col.jobNext, path := p, what := what, await := w }],
      jobNext := if s.col.jobNext ≥ 65535 then 1 else s.col.jobNext + 1 } }

/-- A job ends with its notice (R161); the lock its path held ends too (R175). -/
def State.endJob (s : State) (n : Nat) (st : Status) : State :=
  match s.col.jobs.find? (fun j => j.num == n) with
  | none => s
  | some j =>
    let s1 := { s with col := { s.col with jobs := s.col.jobs.filter (fun k => k.num != n) } }
    (s1.unlock j.path).notify "job done" [("job", dec n), ("status", hex0x 3 st.code)]

/-- The first job of a kind ends. -/
def State.endJobOf (s : State) (what : String) (st : Status) : State :=
  match s.col.jobs.find? (fun j => j.what == what) with
  | none => s
  | some j => s.endJob j.num st

end Sys2Proof.Machine
end

