-- ==== Sys2Proof/Machine/PowerBase.lean ====
section
/-!
DEFINITION. Sys2Proof/Machine/PowerBase.lean: latched wakes, and an entry to a power state that is refused or aborted before its
point of no return (chapter 15: R812, R815 to R817, R830, R834).
-/
namespace Sys2Proof.Machine
open Sys2Proof

/-- The names of PWR_STATE.STATE's codes (Table PWS-1). -/
def powerName : Nat → String
  | 2 => "NAP"
  | 3 => "TACK"
  | 4 => "DORMANT"
  | _ => "RUN"

/-- The card is in NAP, TACK or DORMANT. -/
def State.asleep (s : State) : Bool := decide (2 ≤ s.get PWR_STATE.STATE)

/-! ### Levels -/

/-- VCORE of each level in mV (Table PWS-2). -/
def levelMv : List Nat := [700, 760, 840, 920]

/-- VCORE of a level in whole steps of 2^N V, rounded up (R807). -/
def State.vcoreSteps (s : State) (l : Nat) : Nat := (levelMv.getD l 0 * 2 ^ (32 - s.get PWR_PMB.EXP) + 999) / 1000

/-- Something is sent on PMBus (R806). -/
def State.pmbus (s : State) (l : List PmbOp) : State := { s with pwr := { s.pwr with pmb := s.pwr.pmb ++ l } }

/-- VCORE is commanded to a level's value, with VOUT_COMMAND, and READ_VOUT is read (R802, R806); a regulator that has failed is left alone
(R808). -/
def State.vcoreTo (s : State) (l : Nat) : State :=
  if s.flag PWR_PMB.OK && !s.pwr.regBad then s.pmbus [.write 0x21 (s.vcoreSteps l), .read 0x8B] else s

/-- A move to a level is asked for; it waits for its pause (R802 to R804). Upwards VCORE moves first. -/
def State.levelAsk (s : State) (l : Nat) : State :=
  let s1 := if s.get PWR_LEVEL.CUR < l then s.vcoreTo l else s
  { s1 with pwr := { s1.pwr with levelTo := if s.get PWR_LEVEL.CUR = l then none else some l } }

/-- SYS_REFCNT: reference cycles, 50 for each microsecond since it began to count. -/
def State.refcnt (s : State) : Nat := 50 * (s.clk - s.boot.onUs)

/-- PWR_WAKESRC and PWR_WAKETIME take a wake or an aborted entry (Table PWS-10, R830). -/
def State.recordWake (s : State) (src detail frm : Nat) (abort late : Bool) : State :=
  (((((s.setFlag PWR_WAKESRC.ABORT abort).setFlag PWR_WAKESRC.LATE late).set PWR_WAKESRC.FROM frm).set PWR_WAKESRC.DETAIL
    detail).set PWR_WAKESRC.SRC src).set PWR_WAKETIME.T (s.refcnt / 1024)

/-- Steps 1 to 4 of an entry are undone: drained domains resume work and the level before step 1 returns (R812, R816). -/
def State.undoEntry (s : State) (e : PEntry) : State :=
  let mine (d : Drain) : Bool := match d.who with | .entry => true | _ => false
  let s1 := (s.pwr.drains.filter mine).foldl (fun t d => t.setFlag (PWR_DSTAT.DRAINING d.dom) false) s
  (({ s1 with pwr := { s1.pwr with
      entry := none, drains := s1.pwr.drains.filter (fun d => !mine d) } }).levelAsk e.level).set PWR_STATE.STEP 0

/-- An entry is refused in step 2, 3 or 4 (R812): `last` is the refuser's code in PWR_REFUSE. -/
def State.refuseEntry (s : State) (e : PEntry) (st : Status) (last : Nat) (name : String) : State :=
  (((s.undoEntry e).count PWR_REFUSE.COUNT 1).set PWR_REFUSE.LAST last).notify "power refused"
    [("state", powerName e.target), ("status", hex0x 3 st.code), ("refuser", name)]

/-- A wake event of Table PWS-6, or a line or frame after an entry's OK: it aborts an entry that has not passed its point of no
return; in a power state it is latched and starts the exit (R815 to R817, R834). In RUN it is nothing special. -/
def State.wakeEvent (s : State) (src detail us : Nat) : State :=
  let s0 := s.clkTo us
  match s0.pwr.entry with
  | some e =>
    let s1 := (s0.refuseEntry e .pwrRefused 0xFF "WAKE").count PWR_PSCNT.WAKE_ABORTS 1
    s1.recordWake src detail e.target true false
  | none =>
    if !s0.asleep then s0
    else
      let late := decide (us < s0.pwr.enteredUs)
      let w : Wake := { src := src, detail := detail, us := us }
      let s1 := { s0 with pwr := { s0.pwr with wakes := s0.pwr.wakes ++ [w] } }
      match s0.pwr.wakes with
      | [] => s1.recordWake src detail (s0.get PWR_STATE.STATE) false late
      | f :: _ =>
        if f.us = us ∧ src < s0.get PWR_WAKESRC.SRC then s1.recordWake src detail (s0.get PWR_STATE.STATE) false late else s1

/-- A Baleong line that arrives after an entry's OK is such an event (R815). One that has waited came before (`rx` is `taken`); of one held on the
Collar the characters have been such events as they came. -/
def State.wakeLine (s : State) (p : Path) (rx : FrameRx) : State :=
  if s.pwr.entry = none ∨ rx = .taken then s
  else
    match p with
    | .collar => if s.col.held = [] then s.wakeEvent 1 0 s.clk else s
    | .mgt => s.wakeEvent 2 1 s.clk
    | .seam n => s.wakeEvent 4 ((s.seam.linePort.lookup n).getD 1) s.clk

/-- The card has quiesced for a swatch on a domain that cannot be switched off (R958), or formats its flash (R1059). -/
def State.quiesced (s : State) : Bool :=
  s.flash.formatting ||
  match s.life.run with
  | some r => !s.flag (PWR_DSTAT.OFFABLE r.dom)
  | none => false

/-- The ROM sets up regions 0 to 7 of a core and locks them, before its first code that is not ROM (R665). -/
def State.romRegions (s : State) (core : Nat) : State :=
  let s1 := (s.access.rom.filter (fun r => r.1 == core && decide (r.2.1 < 8))).foldl (fun t r =>
    (t.setWord (MPU_RBASE.addr core r.2.1) (BitVec.ofNat 32 r.2.2.1)).setWord (MPU_RATTR.addr core r.2.1) (BitVec.ofNat 32 r.2.2.2)) s
  (s1.set (MPU_CTL.EN core) 1).set (MPU_CTL.LOCK core) 1

end Sys2Proof.Machine
end

