-- ==== Sys2Proof/Machine/BootLog.lean ====
section
/-!
DEFINITION. Sys2Proof/Machine/BootLog.lean: where a domain stands, LUN blocks, and the two logs of the boot area (chapter 08: R462 to R464;
R321, R436, R784).
-/
namespace Sys2Proof.Machine
open Sys2Proof

/-- The state of a domain in PWR_DSTAT: 0 OFF, 1 CHECK, 2 SHADOW, 3 IN, 4 FENCED (Table PWD-5). -/
def State.dom (s : State) (d : Nat) : Nat := s.get (PWR_DSTAT.STATE d)

/-- A domain that is in service. -/
def State.domIn (s : State) (d : Nat) : Bool := s.dom d == 3

/-- A domain's state changes. A quad's FQq_WP_N is high in CHECK, SHADOW and IN; it falls before the quad goes off (R428; in FENCED it is low,
assumption log entry 177). -/
def State.setDom (s : State) (d st : Nat) : State :=
  let s1 := if 1 ≤ d ∧ d ≤ 16 then
      let rest := s.flash.wpHigh.filter (fun q => q ≠ d - 1)
      { s with flash := { s.flash with wpHigh := if 1 ≤ st ∧ st ≤ 3 then rest ++ [d - 1] else rest } }
    else s
  s1.set (PWR_DSTAT.STATE d) st

/-- The number of a LUN block. -/
def lunBlock (ch pos block : Nat) : Nat := (ch * 16 + pos) * 4096 + block

/-- The domain of channel c's quad (R425). -/
def quadDomain (ch : Nat) : Nat := 1 + ch / 4

def State.eraseCount (s : State) (ch g i : Nat) : Nat := (s.flash.erases.lookup (lunBlock ch g i)).getD 0

/-- One more erase of a LUN block (R467). -/
def State.countErase (s : State) (ch g i : Nat) : State :=
  { s with flash := { s.flash with erases := putSorted (lunBlock ch g i) (s.eraseCount ch g i + 1) s.flash.erases } }

/-! ### Records (R463) -/

/-- A record's KIND (Table FLS-9). -/
def BootBody.kind : BootBody → Nat
  | .mode _ _ _ => 1
  | .config _ => 2
  | .training _ => 3
  | .ckpt _ => 4

/-- Byte 2 of a record's header: CLEAN of a checkpoint. -/
def BootBody.flags : BootBody → Nat
  | .ckpt (some c) => if c.clean then 1 else 0
  | _ => 0

/-- The header of a record (R463). The CRC covers content whose layout the spec does not give. -/
def BootBody.head (b : BootBody) (pages rseq : Nat) : Bytes :=
  leBytes 1 b.kind ++ leBytes 1 pages ++ leBytes 1 b.flags ++ List.replicate 5 0 ++ leBytes 8 rseq ++ List.replicate 44 0 ++
    leBytes 4 (Config.recordCrc rseq).toNat

def LogRec.kind (r : LogRec) : Nat := (r.head.getD 0 0).toNat
def LogRec.pages (r : LogRec) : Nat := (r.head.getD 1 0).toNat
def LogRec.rseq (r : LogRec) : Nat := leNat ((r.head.drop 8).take 8)

/-! ### Log blocks (R462, R464) -/

/-- The channel of a place of log A or log B (`b`). -/
def logChannel (b : Bool) (pos : Nat) : Nat := (if b then 32 else 0) + (if pos < 8 then 0 else 16)

/-- A log's good blocks, in order. -/
def State.logGood (s : State) (b : Bool) : List Nat :=
  (List.range 16).filter (fun k => !s.flash.retired.contains (lunBlock (logChannel b k) 0 (k % 8)))

/-- The pages of a log's block: those of its LUN on every plane, or the fewest a die may have (Table FLS-3). -/
def State.logRoom (s : State) (b : Bool) (pos : Nat) : Nat :=
  match s.flash.dies.find? (fun d => d.ch == logChannel b pos && d.pos == 0) with
  | some d => d.planes * d.pages
  | none => 64

/-- The log's good blocks that are erased, the next one to write first. -/
def freeBlocks (good : List Nat) (log : List LogBlk) : List Nat :=
  let cur := match log.getLast? with | some b => b.pos | none => 16
  (good.filter (fun k => decide (cur < k)) ++ good.filter (fun k => decide (k ≤ cur))).filter (fun k => !log.any (fun b => b.pos == k))

/-- A record goes to the block being written, or, where that is full, to the log's next good block (R464). -/
def addRec (room : Nat → Nat) (good : List Nat) (log : List LogBlk) (r : LogRec) : List LogBlk :=
  let next : List LogBlk := match freeBlocks good log with
    | k :: _ => [{ pos := k, used := r.pages, recs := [r] }]
    | [] => []
  match log.getLast? with
  | some b =>
    if b.used + r.pages ≤ room b.pos then log.dropLast ++ [{ b with used := b.used + r.pages, recs := b.recs ++ [r] }] else log ++ next
  | none => next

/-- The records of a log. -/
def logRecs (log : List LogBlk) : List LogRec := (log.map (fun b => b.recs)).flatten

/-- The records of a block that no newer record of their kind outside the block replaces. -/
def stillNeeded (b : LogBlk) (rest : List LogBlk) : List LogRec :=
  b.recs.filter (fun r => !((b.recs ++ logRecs rest).any (fun x => x.kind == r.kind && decide (r.rseq < x.rseq))))

/-- Does a log take records: both its channels' quads are IN (R462, R784)? -/
def State.logOpen (s : State) (b : Bool) : Bool := s.domIn (quadDomain (logChannel b 0)) && s.domIn (quadDomain (logChannel b 8))

def State.logOf (s : State) (b : Bool) : List LogBlk := if b then s.log.logB else s.log.logA

def State.setLogOf (s : State) (b : Bool) (l : List LogBlk) : State :=
  { s with log := if b then { s.log with logB := l } else { s.log with logA := l } }

/-- A record is written to one log, if that log takes it. -/
def State.logWrite (s : State) (b : Bool) (r : LogRec) : State :=
  if s.logOpen b then s.setLogOf b (addRec (s.logRoom b) (s.logGood b) (s.logOf b) r) else s

/-- A record with the next RSEQ is written, to log A first (R463). -/
def State.logBoth (s : State) (body : BootBody) : State :=
  let n := s.log.rseq + 1
  let r : LogRec := { head := body.head (clamp 1 64 (Config.recordPages n)) n, body := body }
  (({ s with log := { s.log with rseq := n } }).logWrite false r).logWrite true r

/-- The oldest block of a log is erased once every kind has a newer record outside it (R464). It is erased for room, with a few erased blocks left: a
kind that has none gets a newer record of the same content first (DESIGN CHOICE, assumption log entry 178). -/
def State.tidyLog (s : State) (b : Bool) : State :=
  let due (t : State) : Bool := t.logOpen b && decide ((freeBlocks (t.logGood b) (t.logOf b)).length < 5)
  match s.logOf b with
  | old :: rest =>
    if rest.isEmpty || !due s then s
    else
      let s1 := (stillNeeded old rest).foldl (fun t r => t.logBoth r.body) s
      match s1.logOf b with
      | old1 :: rest1 =>
        if (stillNeeded old1 rest1).isEmpty then (s1.countErase (logChannel b old1.pos) 0 (old1.pos % 8)).setLogOf b rest1 else s1
      | [] => s1
  | [] => s

/-- A record is written; while a log takes none, `! boot area single` is raised once (R463, R784). -/
def State.bootRecord (s : State) (body : BootBody) : State :=
  let s2 := ((s.logBoth body).tidyLog false).tidyLog true
  if s2.logOpen false && s2.logOpen true then { s2 with flash := { s2.flash with bootSingle := false } }
  else if s2.flash.bootSingle then s2
  else ({ s2 with flash := { s2.flash with bootSingle := true } }).notify "boot area single" []

/-! ### What is recorded -/

/-- A Pocket as the configuration record keeps it: a change or a deletion that has not passed its OK is not in it (R320, R321). -/
def Pocket.kept (k : Pocket) : Pocket :=
  let st := if k.state = .deleting ∧ k.delStep < 5 then (if k.wasSuspended then PocketState.suspended else PocketState.active) else k.state
  { k with
    change := none, credit := 0, lastQueue := none, visLimit := k.limit, state := st,
    delStep := if st = .deleting then k.delStep else 0 }

/-- A queue as the configuration record keeps it (R329). -/
def QueuePair.kept (q : QueuePair) : QueuePair := { q with waiting := [], doneTags := [] }

/-- The configuration as it stands. -/
def State.confNow (s : State) : ConfRec :=
  { pockets := s.pockets.map (fun x => (x.1, x.2.kept)),
    queues := (s.queues.filter (fun q => q.2.state == .opened)).map (fun q => (q.1, q.2.kept)),
    conf := s.conf, pairing := s.twin.pairing, usable := s.flash.usable, gens := s.flash.gens, bases := s.flash.bases }

/-- The newest record of a kind in either log. -/
def State.newestRec (s : State) (kind : Nat) : Option LogRec :=
  ((logRecs s.log.logA ++ logRecs s.log.logB).filter (fun r => r.kind == kind)).foldl (fun (m : Option LogRec) (r : LogRec) =>
    match m with
    | some x => if x.rseq < r.rseq then some r else m
    | none => some r) none

/-- The configuration record is written where the configuration has changed since the last one, before the change's OK is sent (R321, Table
FLS-9). -/
def State.confRecord (s : State) : State :=
  if (s.newestRec 2).map (fun r => r.body) = some (.config s.confNow) then s else s.bootRecord (.config s.confNow)

/-- The flash mode record is written where the die table, the bad-block table or the measured rates have changed, once the boot records have
been read (R436, R493, Table FLS-9). -/
def State.modeRecord (s : State) : State :=
  let body : BootBody := .mode s.flash.modes s.flash.retired s.flash.lapRate
  if s.boot.done.contains .records = false ∨ (s.newestRec 1).map (fun r => r.body) = some body then s else s.bootRecord body

/-- A record of a kind is written where the newest one of a log says otherwise. -/
def State.recordAgain (s : State) (body : BootBody) : State :=
  if (s.newestRec body.kind).map (fun r => r.body) = some body then s else s.bootRecord body

/-- What changed while neither log took records is written once one takes them again (R321, R463; DESIGN CHOICE, assumption log entry 220). -/
def State.recordsOwed (s : State) : State :=
  if !s.boot.done.contains .records || !(s.logOpen false || s.logOpen true) || s.flash.area = false then s
  else
    let s1 := s.modeRecord.confRecord
    let s2 := match s1.flash.ckpt with | some c => s1.recordAgain (.ckpt (some c)) | none => s1
    match s2.dram.record with | some r => s2.recordAgain (.training (some r)) | none => s2

end Sys2Proof.Machine
end

