-- ==== Sys2Proof/Machine/Read.lean ====
section
/-!
DEFINITION. Sys2Proof/Machine/Read.lean: how the card reads a Baleong line: its elements (chapter 03, R141 to R147, Table COL-1), the
values that they carry (R144 to R146, R971, R973) and the forms of every command (chapters 19 and 20).
-/
namespace Sys2Proof.Machine
open Sys2Proof

/-! ### Characters and words -/

/-- A letter in lower case: verbs, keyword objects, keys and fixed words are matched regardless of case (R143). -/
def lowerChar (c : Char) : Char := if 'A' ≤ c ∧ c ≤ 'Z' then Char.ofNat (c.toNat + 32) else c
def lowered (cs : List Char) : List Char := cs.map lowerChar

/-- Do the characters spell this word, given in lower case (R143, R971)? -/
def isWord (w : String) (cs : List Char) : Bool := lowered cs == w.toList

def isDigit (c : Char) : Bool := decide ('0' ≤ c) && decide (c ≤ '9')
def isLetter (c : Char) : Bool := decide ('a' ≤ lowerChar c) && decide (lowerChar c ≤ 'z')

/-- The value of a hexadecimal digit, in either case (R143). -/
def digitOf (c : Char) : Option Nat :=
  if isDigit c then some (c.toNat - 48)
  else if 'a' ≤ lowerChar c ∧ lowerChar c ≤ 'f' then some ((lowerChar c).toNat - 87)
  else none

/-! ### Values -/

/-- How the characters of an object or a value are read: none where the form cannot hold them. -/
abbrev Reader (α : Type) := List Char → Option α

/-- Hexadecimal digits with a single underscore allowed between any two (R144, R973): `d` says whether a digit stands before. -/
def hexRun : Bool → List Char → Option (List Nat)
  | d, [] => if d then some [] else none
  | d, c :: cs =>
    if c = '_' then (if d then hexRun false cs else none)
    else match digitOf c, hexRun true cs with
      | some v, some r => some (v :: r)
      | _, _ => none

/-- The value of digits in a base, the first the most significant. -/
def digitsNat (base : Nat) (ds : List Nat) : Nat := ds.foldl (fun n v => base * n + v) 0

/-- Plain decimal digits. -/
def readDec : Reader Nat := fun cs => if cs ≠ [] ∧ cs.all isDigit = true then some (digitsNat 10 (cs.map (fun c => c.toNat - 48))) else none

/-- A number (R144). -/
def readNum : Reader Nat := fun cs =>
  match cs with
  | '0' :: x :: r => if x = 'x' ∨ x = 'X' then (hexRun false r).map (digitsNat 16) else readDec cs
  | _ => readDec cs

/-- What stands before a suffix, when the characters end in it. -/
def beforeSuffix (suffix cs : List Char) : Option (List Char) :=
  if cs.drop (cs.length - suffix.length) = suffix then some (cs.take (cs.length - suffix.length)) else none

/-- A number with one of the suffixes, in whole units of the entry; without a suffix, a number in that unit (R146). A value that is no whole
number of units is refused (DEDUCED, assumption log entry 197). -/
def readScaled (suffixes : List (String × Nat)) (unit : Nat) : Reader Nat := fun cs =>
  match suffixes.findSome? (fun u => (beforeSuffix u.1.toList cs).map (fun d => (d, u.2))) with
  | some (d, m) => (readNum d).bind (fun n => if n * m % unit = 0 then some (n * m / unit) else none)
  | none => readNum cs

/-- A size in units of so many bytes, a time in units of so many nanoseconds (R6, R146). The keys that carry them are those whose entries give
them a size or a time (DEDUCED, assumption log entry 197). -/
def readSize : Nat → Reader Nat := readScaled [("KiB", 2 ^ 10), ("MiB", 2 ^ 20), ("GiB", 2 ^ 30), ("TiB", 2 ^ 40)]
def readTime : Nat → Reader Nat := readScaled [("ns", 1), ("us", 1000), ("ms", 1000000), ("s", 1000000000)]

/-- A unit identifier with at most its full number of digits (R145); `pre` is its prefix in lower case. -/
def readUnit (pre : String) (width : Nat) : Reader Nat := fun cs =>
  let d := cs.drop pre.length
  if isWord pre (cs.take pre.length) = true ∧ d.length ≤ width then readDec d else none

def readPocket : Reader Nat := readUnit "p" 3
def readQueue : Reader Nat := readUnit "q" 4
def readDomain : Reader Nat := readUnit "d" 2
def readSlotId : Reader Nat := readUnit "s" 2
def readSwatch : Reader Nat := readUnit "sw" 2
def readCore : Reader Nat := readUnit "t" 1

/-- A DK slot and a WK slot by their numbers. -/
def readDk : Reader Nat := fun cs => (readUnit "dk" 3 cs).filter (fun n => decide (n < 512))
def readWk : Reader Nat := fun cs => (readUnit "wk" 2 cs).filter (fun n => decide (n < 64))

/-- A wrapping slot by its slot code. -/
def readWrap : Reader Nat := fun cs => (readWk cs).map (fun n => 512 + n)

/-- A key slot by its slot code (Table CIP-6). -/
def readKeySlot : Reader Nat := fun cs =>
  match readDk cs with
  | some n => some n
  | none => (readWk cs).map (fun n => 512 + n)

/-- Two digits a byte (R973); none for an odd number of digits. -/
def pairBytes : List Nat → Option Bytes
  | [] => some []
  | [_] => none
  | a :: b :: r => (pairBytes r).map (fun bs => BitVec.ofNat 8 (16 * a + b) :: bs)

/-- A byte string (R973). -/
def readBytes : Reader Bytes := fun cs => (hexRun false cs).bind pairBytes

/-- Exactly so many hexadecimal digits with nothing between them: a `confirm=` or `serial=`, a KCV, a challenge response (R143, R979, R1059). -/
def readHex (n : Nat) : Reader Nat := fun cs =>
  if cs.length = n ∧ cs.contains '_' = false then (hexRun false cs).map (digitsNat 16) else none

/-- A response of 16 digits (R979); any other value has no eight bytes. -/
def readResponse : Reader Bytes := fun cs =>
  some (if cs.length = 16 ∧ cs.contains '_' = false then (readBytes cs).getD [] else [])

/-- One word of a fixed set, and what it says (R971). -/
def readWord {α : Type} (ws : List (String × α)) : Reader α := fun cs => ws.findSome? (fun w => if isWord w.1 cs then some w.2 else none)

def readOnOff : Reader Bool := readWord [("on", true), ("off", false)]
def readClass : Reader QosClass := readWord [("urgent", .urgent), ("normal", .normal), ("bulk", .bulk)]
def readAck : Reader Nat := readWord [("held", 1), ("paired", 2), ("set", 3)]
def readMode : Reader Bool := readWord [("wait", false), ("abort", true)]

/-- A role (R971); another name is no role of Table COL-7, and `hello` refuses it as one (R977). -/
def readRole : Reader Role := fun cs =>
  some ((readWord [("operator", Role.operator), ("host", .host), ("mantle", .mantle), ("service", .service)] cs).getD .none)

/-- The key kinds of Table CIP-4. -/
def readKind : Reader Nat :=
  readWord [("xts128", 1), ("xts256", 2), ("gmac128", 3), ("gmac256", 4), ("cmac128", 5), ("cmac256", 6), ("raw128", 7), ("raw256", 8),
    ("wrap256", 16), ("chal128", 17), ("chal256", 18)]

/-- A name in lower case, as `help` takes it (R983). -/
def readName : Reader String := fun cs => some (String.ofList (lowered cs))

/-- The characters as they stand (R143). -/
def readText : Reader String := fun cs => some (String.ofList cs)

/-- The channels of `dram`: one, or both (R1062). -/
def readChannels : Reader (Option Nat) := fun cs => if isWord "both" cs then some none else (readNum cs).map some

/-- The characters between separators. -/
def splitAt (sep : Char) : List Char → List (List Char)
  | [] => [[]]
  | c :: cs =>
    match splitAt sep cs with
    | [] => [[c]]
    | x :: r => if c = sep then [] :: x :: r else (c :: x) :: r

/-- One item of a LIST (R1044). A range that runs downwards is refused (DEDUCED, assumption log entry 197). -/
def readItem : Reader (List Nat) := fun cs =>
  match splitAt '-' cs with
  | [a] => (readDomain a).map (fun n => [n])
  | [a, b] =>
    match readDomain a, readDomain b with
    | some m, some n => if m ≤ n then some ((List.range (n + 1 - m)).map (· + m)) else none
    | _, _ => none
  | _ => none

/-- A LIST of domains (R1044). -/
def readDomains : Reader (List Nat) := fun cs => ((splitAt ',' cs).mapM readItem).map List.flatten

/-! ### Targets of peek and poke -/

/-- The rows of the whole register map (Table MAP-2). -/
def allRows : List RegRow :=
  ([0x4000, 0x4001, 0x4002, 0x4003, 0x4004, 0x4005, 0x4006, 0x4007, 0x4008, 0x4009, 0x400A, 0x400B, 0x400C, 0x400D, 0x400E, 0x400F, 0x4010,
    0x4011, 0x4012] ++ (List.range 16).map (· + 0x4020) ++ [0x4030, 0x4031]).flatMap (fun b => blockRows (0x10000 * b))

/-- The address of the word with this name, as Table MAP-3 and R1098 name it; names are matched regardless of case, as keyword objects are
(DEDUCED, assumption log entry 197). -/
def namedWord (cs : List Char) : Option Nat :=
  allRows.findSome? (fun r => (List.range r.count).findSome? (fun i =>
    if lowered cs == lowered (r.name i).toList then some (r.base + r.stride * i) else none))

/-- The words of the register whose first word stands at an address (R1098). -/
def registerWords (a : Nat) : List Nat :=
  match regName a with
  | none => []
  | some n => (List.range 8).filterMap (fun k =>
      let hex := String.ofList ['_', (if 4 ≤ k then '1' else '0'), ['0', '4', '8', 'C'].getD (k % 4) '0']
      if k = 0 ∨ regName (a + 4 * k) = some (n ++ hex) then some (a + 4 * k) else none)

/-- A register or word of one by its name; `_00` names the first word of a register that spans several (R1098). -/
def readRegister : Reader Nat := fun cs =>
  match namedWord cs with
  | some a => some a
  | none =>
    match (beforeSuffix ['_', '0', '0'] cs).bind namedWord with
    | some a => if 1 < (registerWords a).length then some a else none
    | none => none

/-- TARGET (R1098). -/
def readTarget : Reader Target := fun cs =>
  match readNum cs with
  | some a => some { addr := a, field := none }
  | none =>
    match splitAt '.' cs with
    | [r] => (readRegister r).map (fun a => { addr := a, field := none })
    | [r, f] => (readRegister r).bind (fun a => (registerWords a ++ [a]).findSome? (fun w =>
        ((fieldsAt w).find? (fun x => lowered x.name.toList == lowered f)).map (fun x => { addr := w, field := some x.lsb })))
    | _ => none

/-! ### Elements -/

/-- The elements of a line: separated by spaces, but for spaces within a quoted value (Table COL-1); `cur` is the element so far, reversed. -/
def elementsGo : Bool → List Char → List Char → List (List Char)
  | _, cur, [] => if cur = [] then [] else [cur.reverse]
  | q, cur, c :: cs =>
    if c = ' ' ∧ q = false then (if cur = [] then elementsGo false [] cs else cur.reverse :: elementsGo false [] cs)
    else elementsGo (if c = '"' then !q else q) (c :: cur) cs
def elements (cs : List Char) : List (List Char) := elementsGo false [] cs

/-- The characters before the first `sep` and those after it. -/
def cut (sep : Char) : List Char → Option (List Char × List Char)
  | [] => none
  | c :: cs => if c = sep then some ([], cs) else (cut sep cs).map (fun x => (c :: x.1, x.2))

def graphic (c : Char) : Bool := decide (0x21 ≤ c.toNat) && decide (c.toNat ≤ 0x7E) && c != '"'

/-- A tag, an object and a key, as Table COL-1 has them. -/
def tagForm (cs : List Char) : Bool :=
  match cs with
  | c :: r => isLetter c && r.all (fun x => isLetter x || isDigit x) && decide (r.length ≤ 5)
  | [] => false
def objectForm (cs : List Char) : Bool :=
  cs != [] && decide (cs.length ≤ 32) && cs.all (fun x => isLetter x || isDigit x || x == '_' || x == '.' || x == '-')
def keyForm (cs : List Char) : Bool :=
  match cs with
  | c :: r => isLetter c && r.all (fun x => isLetter x || isDigit x || x == '_') && decide (r.length ≤ 15)
  | [] => false

/-- The value that an element's characters after `=` spell, without its quotes (Table COL-1). -/
def readValue : Reader (List Char) := fun cs =>
  match cs with
  | '"' :: r =>
    let inner := r.dropLast
    if r.getLast? = some '"' ∧ inner.length ≤ 62 ∧ inner.all (fun x => x == ' ' || graphic x) = true then some inner else none
  | c :: _ => if c ≠ '*' ∧ cs.length ≤ 64 ∧ cs.all graphic = true then some cs else none
  | [] => none

/-- A line as the card reads it: its tag, its verb, the objects that follow (a subcommand first), its keys with their values. `bad` marks an
element that has no form of Table COL-1, or an object after a key (R141). -/
structure Said where
  tag : Option (List Char)
  verb : List Char
  words : List (List Char)
  keys : List (List Char × List Char)
  bad : Bool
  deriving DecidableEq, Repr

/-- One element after the verb. -/
def Said.take (x : Said) (e : List Char) : Said :=
  match cut '=' e with
  | none => if x.keys = [] ∧ objectForm e = true then { x with words := x.words ++ [e] } else { x with bad := true }
  | some (k, v) =>
    match readValue v with
    | some w => if keyForm k then { x with keys := x.keys ++ [(k, w)] } else { x with bad := true }
    | none => { x with bad := true }

/-- The tag, and the elements without it (R141). Characters before `:` that are no tag leave the element whole, which is then no verb. -/
def takeTag : List (List Char) → Option (List Char) × List (List Char)
  | [] => (none, [])
  | e :: r =>
    match cut ':' e with
    | some (t, v) => if tagForm t then (some t, if v = [] then r else v :: r) else (none, e :: r)
    | none => (none, e :: r)

/-- The verbs and their subcommands, empty for a verb without one (R970). -/
def verbTable : List (String × List String) :=
  [("hello", []), ("id", []), ("ver", []), ("help", []), ("line", []), ("power", []), ("peek", []), ("poke", []),
   ("clock", ["show", "set"]), ("pocket", ["create", "set", "suspend", "resume", "delete", "show", "list"]),
   ("queue", ["create", "set", "delete", "show", "list"]), ("key", ["load", "gen", "erase", "show", "list", "blob"]),
   ("cipher", ["show", "gmac", "cmac", "enc", "dec"]), ("cache", ["show", "set", "cfg"]),
   ("map", ["show", "lookup", "checkpoint", "cfg"]), ("meter", ["show", "read", "ack", "cfg"]), ("link", ["show", "retrain", "cfg"]),
   ("domain", ["show", "on", "off"])] ++
  [("lining", ["show", "cfg", "probe", "drill", "desc"]), ("flash", ["show", "die", "cfg", "format"]),
   ("dram", ["show", "cfg", "port", "masks"]), ("ecc", ["show", "group", "cfg", "inject"]),
   ("mpu", ["show", "load", "add", "admit", "remove"]), ("colour", ["show", "tag"]),
   ("twin", ["show", "pair", "unpair", "swap", "takeover", "integ", "offer"]), ("ring", ["show", "retrain", "cfg"]),
   ("mantle", ["show", "relay", "read"]), ("bist", ["run", "show", "list"]), ("life", ["show", "set"]),
   ("reset", ["card", "warm", "domain"]), ("log", ["show", "faults"])]

/-- The subcommands of a verb; none for an unknown verb. -/
def subcommands (verb : List Char) : Option (List String) := (verbTable.find? (fun x => isWord x.1 verb)).map (·.2)

/-- Are the verb and its subcommand known (R147, R970)? -/
def Said.known (x : Said) : Bool :=
  match subcommands x.verb, x.words with
  | none, _ => false
  | some [], _ => true
  | some _, [] => false
  | some subs, w :: _ => subs.any (fun y => isWord y w)

/-- A line whose last element is `?` is `help` for the verb and the subcommand before it, other elements ignored (R984). -/
def Said.asHelp (x : Said) : Said :=
  let sub : List (List Char × List Char) :=
    match subcommands x.verb, x.words with
    | some (_ :: _), w :: _ => [("sub".toList, w)]
    | _, _ => []
  { x with verb := "help".toList, words := if x.verb = [] then [] else [x.verb], keys := sub, bad := false }

/-- Reads a line whose checksum has been checked (R141, R984). -/
def readLine (typed : Bool) (cs : List Char) : Said :=
  let all := elements cs
  let es := if (all.getLast?.getD []).head? = some '*' then all.dropLast else all
  let ask := typed && es.getLast? == some ['?']
  let (tag, r) := takeTag (if ask then es.dropLast else es)
  let none_ : Said := { tag := tag, verb := r.headD [], words := [], keys := [], bad := false }
  let x := (r.drop 1).foldl Said.take none_
  if ask then x.asHelp else x

/-! ### Forms -/

/-- A part of a form, an object or a key: whether the form needs it, whether a value agrees with the operand (none where the form cannot
hold the value), and whether its absence agrees (R147, R971). -/
structure Part where
  name : String
  need : Bool
  given : List Char → Option Bool
  absent : Bool

/-- A part that the form needs; one that may be absent; one that has a value when absent. -/
def Part.req {α : Type} [BEq α] (name : String) (r : Reader α) (v : α) : Part := ⟨name, true, fun cs => (r cs).map (fun a => a == v), false⟩
def Part.opt {α : Type} [BEq α] (name : String) (r : Reader α) (x : Option α) : Part :=
  ⟨name, false, fun cs => (r cs).map (fun a => some a == x), x.isNone⟩
def Part.dflt {α : Type} [BEq α] (name : String) (r : Reader α) (d v : α) : Part := ⟨name, false, fun cs => (r cs).map (fun a => a == v), d == v⟩

/-- An object that the form needs, one that it may have, and a keyword. -/
def Part.obj {α : Type} [BEq α] (r : Reader α) (v : α) : Part := Part.req "" r v
def Part.word (w : String) : Part := Part.obj (readWord [(w, ())]) ()

/-- A part with the values that a line gives it. -/
def Part.fits (p : Part) : List (List Char) → Bool
  | [] => !p.need
  | [v] => (p.given v).isSome
  | _ => false
def Part.means (p : Part) : List (List Char) → Bool
  | [] => p.absent
  | [v] => p.given v == some true
  | _ => false

/-- A command's form with its operands: verb, subcommand, objects, keys; `anyKey` where at least one key must stand. An empty verb is the
line whose verb or subcommand is unknown (R147). -/
structure Say where
  verb : String
  sub : Option String
  objs : List Part
  keys : List Part
  anyKey : Bool := false

/-- Objects against their parts. -/
def objsFit : List Part → List (List Char) → Bool
  | [], vs => vs.isEmpty
  | p :: ps, [] => !p.need && objsFit ps []
  | p :: ps, v :: vs => (p.given v).isSome && objsFit ps vs
def objsMean : List Part → List (List Char) → Bool
  | [], vs => vs.isEmpty
  | p :: ps, [] => p.absent && objsMean ps []
  | p :: ps, v :: vs => p.given v == some true && objsMean ps vs

/-- The values that a line gives a key (R143). -/
def Said.values (x : Said) (name : String) : List (List Char) := (x.keys.filter (fun k => isWord name k.1)).map (·.2)

/-- The objects of a line, without the subcommand. -/
def Say.objects (c : Say) (x : Said) : List (List Char) := if c.sub.isSome then x.words.drop 1 else x.words

/-- Does the line have this form: no unknown object or key, none repeated, none missing, every value of its form (R147)? -/
def Say.fits (c : Say) (x : Said) : Bool :=
  !x.bad && objsFit c.objs (c.objects x) && x.keys.all (fun k => c.keys.any (fun p => isWord p.name k.1)) &&
    c.keys.all (fun p => p.fits (x.values p.name)) && (!c.anyKey || !x.keys.isEmpty)

/-- Do its objects and keys say the operands? -/
def Say.means (c : Say) (x : Said) : Bool := objsMean c.objs (c.objects x) && c.keys.all (fun p => p.means (x.values p.name))

/-- Does the line name this command (R970)? -/
def Say.named (c : Say) (x : Said) : Bool :=
  isWord c.verb x.verb && (match c.sub with | none => true | some w => isWord w (x.words.headD []))

/-- A form without parts. -/
def plain (verb sub : String) (objs keys : List Part) : Say := { verb := verb, sub := some sub, objs := objs, keys := keys }
def alone (verb : String) (objs keys : List Part) : Say := { verb := verb, sub := none, objs := objs, keys := keys }

/-! ### The forms of chapter 19 -/

def Say.hello (_us : Nat) : Say := alone "hello" [] []
def Say.helloRole (role : Role) (_us : Nat) : Say :=
  alone "hello" [] [Part.req "role" readRole role, ⟨"response", false, fun _ => some (role != .service), true⟩]
def Say.helloService (_us : Nat) : Say := alone "hello" [] [Part.req "role" readRole .service]
def Say.helloResponse (resp : Bytes) (_us : Nat) : Say :=
  alone "hello" [] [Part.req "role" readRole .service, Part.req "response" readResponse resp]
def Say.id (_us : Nat) : Say := alone "id" [] []
def Say.ver (_us : Nat) : Say := alone "ver" [] []
def Say.help (_us : Nat) : Say := alone "help" [] []
def Say.helpVerb (verb : String) (sub : Option String) (_us : Nat) : Say := alone "help" [Part.obj readName verb] [Part.opt "sub" readName sub]
def Say.unknownCommandLine : Say := alone "" [] []
def Say.lineShow (_us : Nat) : Say := alone "line" [] []
def Say.lineSpeed (speed : Nat) (_us : Nat) : Say := alone "line" [] [Part.req "speed" readNum speed]
def Say.lineMode (strict : Bool) (_us : Nat) : Say := alone "line" [] [Part.req "mode" (readWord [("typed", false), ("strict", true)]) strict]
def Say.lineCts (on : Bool) (_us : Nat) : Say := alone "line" [] [Part.req "cts" readOnOff on]
def Say.clockShow (_us : Nat) : Say := plain "clock" "show" [] []
def Say.clockSet (minute sec : Nat) (_us : Nat) : Say :=
  plain "clock" "set" [] [Part.req "minute" readNum minute, Part.dflt "sec" (readTime 1000000000) 0 sec]
def Say.pocketCreate (pocket : Nat) (attrs : PocketAttrs) (_us : Nat) : Say :=
  plain "pocket" "create" [Part.obj readPocket pocket]
    [⟨"size", true, (Part.opt "size" (readSize 16384) attrs.size).given, false⟩, Part.opt "class" readClass attrs.cls, Part.opt "weight" readNum attrs.weight,
    Part.opt "limit" readNum attrs.limit, Part.opt "unit" readNum attrs.unit]
def Say.pocketSet (pocket : Nat) (attrs : PocketAttrs) (_us : Nat) : Say :=
  { plain "pocket" "set" [Part.obj readPocket pocket]
    [Part.opt "size" (readSize 16384) attrs.size, Part.opt "class" readClass attrs.cls, Part.opt "weight" readNum attrs.weight,
    Part.opt "limit" readNum attrs.limit, Part.opt "unit" readNum attrs.unit] with anyKey := true }
def Say.pocketSuspend (pocket : Nat) (_us : Nat) : Say := plain "pocket" "suspend" [Part.obj readPocket pocket] []
def Say.pocketResume (pocket : Nat) (_us : Nat) : Say := plain "pocket" "resume" [Part.obj readPocket pocket] []
def Say.pocketDelete (pocket : Nat) (_us : Nat) : Say := plain "pocket" "delete" [Part.obj readPocket pocket] []
def Say.pocketShow (pocket : Nat) (_us : Nat) : Say := plain "pocket" "show" [Part.obj readPocket pocket] []
def Say.pocketList (_us : Nat) : Say := plain "pocket" "list" [] []
def Say.queueCreate (queue pocket : Nat) (attrs : QueueAttrs) (_us : Nat) : Say :=
  plain "queue" "create" [Part.obj readQueue queue]
    [Part.req "pocket" readPocket pocket, Part.opt "depth" readNum attrs.depth, Part.opt "ack" readAck attrs.ack, Part.opt "baste" readOnOff attrs.baste]
def Say.queueSet (queue : Nat) (attrs : QueueAttrs) (_us : Nat) : Say :=
  plain "queue" "set" [Part.obj readQueue queue]
    [Part.opt "depth" readNum attrs.depth, Part.opt "ack" readAck attrs.ack, Part.opt "baste" readOnOff attrs.baste]
def Say.queueDelete (queue : Nat) (_us : Nat) : Say := plain "queue" "delete" [Part.obj readQueue queue] []
def Say.queueShow (queue : Nat) (_us : Nat) : Say := plain "queue" "show" [Part.obj readQueue queue] []
def Say.queueList (pocket : Option Nat) (frm : Nat) (_us : Nat) : Say :=
  plain "queue" "list" [] [Part.opt "pocket" readPocket pocket, Part.dflt "from" readQueue 0 frm]
def Say.keyBlobAdd (hex : Bytes) (_us : Nat) : Say := plain "key" "blob" [Part.word "add"] [Part.req "hex" readBytes hex]
def Say.keyBlobClear (_us : Nat) : Say := plain "key" "blob" [Part.word "clear"] []
def Say.keyLoadWrap (slot kind wrap : Nat) (owner : Option Nat) (_us : Nat) : Say :=
  plain "key" "load" [Part.obj readKeySlot slot]
    [Part.req "kind" readKind kind, Part.req "wrap" readWrap wrap, Part.opt "owner" readPocket owner]
def Say.keyLoadPlain (slot kind : Nat) (owner : Option Nat) (_us : Nat) : Say :=
  plain "key" "load" [Part.obj readKeySlot slot]
    [Part.req "kind" readKind kind, Part.req "plain" (readWord [("yes", ())]) (), Part.opt "owner" readPocket owner]
def Say.keyGen (slot kind wrap : Nat) (owner : Option Nat) (_us : Nat) : Say :=
  plain "key" "gen" [Part.obj readKeySlot slot]
    [Part.req "kind" readKind kind, Part.req "wrap" readWrap wrap, Part.opt "owner" readPocket owner]
def Say.keyErase (slot : Nat) (_us : Nat) : Say := plain "key" "erase" [Part.obj readKeySlot slot] []
def Say.keyShow (slot : Nat) (_us : Nat) : Say := plain "key" "show" [Part.obj readKeySlot slot] []
def Say.keyShowClear (slot : Option Nat) (_us : Nat) : Say := plain "key" "show" [Part.word "clear"] [Part.opt "slot" readKeySlot slot]
def Say.keyList (owner : Option Nat) (frm : Nat) (_us : Nat) : Say :=
  plain "key" "list" [] [Part.opt "owner" readPocket owner, Part.dflt "from" readKeySlot 0 frm]
def Say.cipherShow (_us : Nat) : Say := plain "cipher" "show" [] []
def Say.cipherGmac (slot : Nat) (hex : Option Bytes) (_us : Nat) : Say :=
  plain "cipher" "gmac" [] [Part.req "slot" readDk slot, Part.opt "hex" readBytes hex]
def Say.cipherCmac (slot : Nat) (hex : Option Bytes) (_us : Nat) : Say :=
  plain "cipher" "cmac" [] [Part.req "slot" readDk slot, Part.opt "hex" readBytes hex]
def Say.cipherEnc (slot : Nat) (hex : Bytes) (_us : Nat) : Say :=
  plain "cipher" "enc" [] [Part.req "slot" readDk slot, Part.req "hex" readBytes hex]
def Say.cipherDec (slot : Nat) (hex : Bytes) (_us : Nat) : Say :=
  plain "cipher" "dec" [] [Part.req "slot" readDk slot, Part.req "hex" readBytes hex]
def Say.cacheShow (pocket : Option Nat) (_us : Nat) : Say := plain "cache" "show" [Part.opt "" readPocket pocket] []
def Say.cacheSet (pocket : Nat) (share : ShareAttrs) (_us : Nat) : Say :=
  plain "cache" "set" [Part.obj readPocket pocket]
    [Part.opt "clean_min" (readSize 1048576) share.cleanMin, Part.opt "clean_max" (readSize 1048576) share.cleanMax,
     Part.opt "dirty_min" (readSize 1048576) share.dirtyMin, Part.opt "dirty_max" (readSize 1048576) share.dirtyMax]
def Say.cacheCfg (attrs : CacheAttrs) (_us : Nat) : Say :=
  plain "cache" "cfg" []
    [Part.opt "baste" readOnOff attrs.baste, Part.opt "prefetch" readOnOff attrs.prefetch, Part.opt "flush_hi" readNum attrs.flushHi,
     Part.opt "flush_lo" readNum attrs.flushLo, Part.opt "ahead" (readSize 1024) attrs.ahead, Part.opt "window" (readSize 1048576) attrs.window]
def Say.mapShow (_us : Nat) : Say := plain "map" "show" [] []
def Say.mapLookup (pocket lba : Nat) (_us : Nat) : Say := plain "map" "lookup" [Part.obj readPocket pocket] [Part.req "lba" readNum lba]
def Say.mapCheckpoint (_us : Nat) : Say := plain "map" "checkpoint" [] []
def Say.mapCfg (dirtyCap : Nat) (_us : Nat) : Say := plain "map" "cfg" [] [Part.req "dirty_cap" readNum dirtyCap]
def Say.meterShow (pocket : Nat) (_us : Nat) : Say := plain "meter" "show" [Part.obj readPocket pocket] []
def Say.meterRead (pocket : Nat) (index : Option Nat) (_us : Nat) : Say :=
  plain "meter" "read" [Part.obj readPocket pocket] [Part.opt "index" readNum index]
def Say.meterAck (pocket gen minute : Nat) (_us : Nat) : Say :=
  plain "meter" "ack" [Part.obj readPocket pocket] [Part.req "gen" readNum gen, Part.req "minute" readNum minute]
def Say.meterCfg (k base : Option Nat) (_us : Nat) : Say := plain "meter" "cfg" [] [Part.opt "k" readNum k, Part.opt "base" readNum base]
def Say.linkShow (_us : Nat) : Say := plain "link" "show" [] []
def Say.linkRetrain (_us : Nat) : Say := plain "link" "retrain" [] []
def Say.linkCfg (attrs : LinkAttrs) (_us : Nat) : Say :=
  plain "link" "cfg" []
    [Part.opt "max_frame" readNum attrs.maxFrame, Part.opt "turn_frames" readNum attrs.turnFrames, Part.opt "turn_us" (readTime 1000) attrs.turnUs,
     Part.opt "idle_us" (readTime 1000) attrs.idleUs, Part.opt "lease" (readWord [("auto", 0), ("fixed", 1), ("plain", 2)]) attrs.lease,
     Part.opt "fixed_m" readNum attrs.fixedM]
/-! ### The forms of chapter 20 -/

def Say.powerShow (_us : Nat) : Say := alone "power" [] []
def Say.powerStateRun (_us : Nat) : Say := alone "power" [] [Part.req "state" (readWord [("run", ())]) ()]
def Say.powerStateIdle (_us : Nat) : Say := alone "power" [] [Part.req "state" (readWord [("idle", ())]) ()]
def Say.powerStateNap (set : Option (List Nat)) (drain : Option Nat) (abort : Bool) (_us : Nat) : Say :=
  alone "power" []
    [Part.req "state" (readWord [("nap", ())]) (), Part.opt "set" readDomains set, Part.opt "drain" (readTime 1000) drain, Part.dflt "mode" readMode false abort]
def Say.powerStateTack (drain : Option Nat) (abort : Bool) (_us : Nat) : Say :=
  alone "power" []
    [Part.req "state" (readWord [("tack", ())]) (), Part.opt "drain" (readTime 1000) drain, Part.dflt "mode" readMode false abort]
def Say.powerStateDormant (drain : Option Nat) (abort : Bool) (_us : Nat) : Say :=
  alone "power" []
    [Part.req "state" (readWord [("dormant", ())]) (), Part.opt "drain" (readTime 1000) drain, Part.dflt "mode" readMode false abort]
def Say.powerLevel (level : Nat) (_us : Nat) : Say :=
  alone "power" [] [Part.req "level" (readWord [("pl0", 0), ("pl1", 1), ("pl2", 2), ("pl3", 3)]) level]
def Say.powerSettings (nap : Option (List Nat)) (tackS tch timer : Option Nat) (wakePmbus wakeLining : Option Bool) (_us : Nat) : Say :=
  { alone "power" []
    [Part.opt "nap" readDomains nap, Part.opt "tack_s" (readTime 1000000000) tackS, Part.opt "tch" readNum tch,
     Part.opt "timer" (readTime 1000000000) timer, Part.opt "wake_pmbus" readOnOff wakePmbus, Part.opt "wake_lining" readOnOff wakeLining]
    with anyKey := true }
def Say.domainShow (dom : Option Nat) (_us : Nat) : Say := plain "domain" "show" [Part.opt "" readDomain dom] []
def Say.domainOn (dom : Nat) (_us : Nat) : Say := plain "domain" "on" [Part.obj readDomain dom] []
/-- A `drain=` value without a suffix is in µs, the unit of its range's lower end (DESIGN CHOICE, assumption log entry 208). -/
def Say.domainOff (dom : Nat) (abort : Bool) (drain : Option Nat) (_us : Nat) : Say :=
  plain "domain" "off" [Part.obj readDomain dom]
    [Part.opt "drain" (readTime 1000) drain, Part.dflt "mode" readMode false abort]
def Say.liningShow (_us : Nat) : Say := plain "lining" "show" [] []
def Say.liningCfg (attrs : LiningAttrs) (_us : Nat) : Say :=
  plain "lining" "cfg" []
    [Part.opt "chg" readOnOff attrs.chg, Part.opt "float" readNum attrs.float, Part.opt "ilim" readNum attrs.ilim,
     Part.opt "slot_w" readNum attrs.slotW, Part.opt "esr_max" readNum attrs.esrMax, Part.opt "eta" readNum attrs.eta,
     Part.opt "kder" readNum attrs.kder, Part.opt "efix" readNum attrs.efix, Part.opt "cap" (readSize (2 ^ 30)) attrs.cap,
     Part.opt "floor_w" readNum attrs.floorW]
def Say.liningProbe (_us : Nat) : Say := plain "lining" "probe" [] []
def Say.liningDrill (_us : Nat) : Say := plain "lining" "drill" [] []
def Say.liningDesc (attrs : DescAttrs) (_bad : Option Nat) (_us : Nat) : Say :=
  plain "lining" "desc" []
    [Part.opt "nom" readNum attrs.nom, Part.opt "esr_max" readNum attrs.esrMax, Part.opt "float" readNum attrs.float,
     Part.opt "ilim" readNum attrs.ilim, Part.opt "slot_w" readNum attrs.slotW]
def Say.flashShow (_us : Nat) : Say := plain "flash" "show" [] []
def Say.flashDie (ch : Nat) (_us : Nat) : Say := plain "flash" "die" [Part.obj (readUnit "c" 2) ch] []
def Say.flashCfg (attrs : MoverAttrs) (_us : Nat) : Say :=
  plain "flash" "cfg" []
    [Part.opt "op" readNum attrs.op, Part.opt "open_host" readNum attrs.openHost, Part.opt "gc_start" readNum attrs.gcStart,
     Part.opt "gc_urgent" readNum attrs.gcUrgent, Part.opt "wl_spread" readNum attrs.wlSpread]
def Say.flashFormat (confirm : Nat) (_us : Nat) : Say := plain "flash" "format" [] [Part.req "confirm" (readHex 8) confirm]
def Say.dramShow (_us : Nat) : Say := plain "dram" "show" [] []
def Say.dramCfg (ch : Option Nat) (attrs : DramAttrs) (_us : Nat) : Say :=
  plain "dram" "cfg" []
    [Part.dflt "ch" readChannels none ch, Part.opt "rate_max" readNum attrs.rateMax, Part.opt "spare" readOnOff attrs.spare,
     Part.opt "qos" (readWord [("priority", false), ("deadline", true)]) attrs.deadline,
     Part.opt "page" (readWord [("hint", false), ("close", true)]) attrs.close, Part.opt "idle_ns" (readTime 1) attrs.idleNs,
     Part.opt "guard_ns" (readTime 1) attrs.guardNs, Part.opt "act" readNum attrs.act, Part.opt "share" readNum attrs.share]
def Say.dramPort (port : Nat) (ch targetNs prio : Option Nat) (_us : Nat) : Say :=
  plain "dram" "port"
    [Part.obj (readWord [("qe", 0), ("mp", 1), ("mv", 2), ("ci", 3), ("fs", 4), ("t0", 5), ("t1", 6), ("sc", 7)]) port]
    [Part.dflt "ch" readChannels none ch, Part.opt "target_ns" (readTime 1) targetNs, Part.opt "prio" readNum prio]
def Say.dramMasks (cs bg0 bg1 bg2 ba0 ba1 : Nat) (_us : Nat) : Say :=
  plain "dram" "masks" []
    [Part.req "cs" readNum cs, Part.req "bg0" readNum bg0, Part.req "bg1" readNum bg1, Part.req "bg2" readNum bg2, Part.req "ba0" readNum ba0,
     Part.req "ba1" readNum ba1]
def Say.eccShow (_us : Nat) : Say := plain "ecc" "show" [] []
def Say.eccGroup (group : Nat) (_us : Nat) : Say := plain "ecc" "group" [Part.obj readNum group] []
def Say.eccCfg (attrs : EccAttrs) (_us : Nat) : Say :=
  plain "ecc" "cfg" []
    [Part.opt "refresh" readNum attrs.refresh, Part.opt "retry" readNum attrs.retry, Part.opt "rb" readNum attrs.rb,
     Part.opt "patrol" readOnOff attrs.patrol, Part.opt "scrub" readOnOff attrs.scrub, Part.opt "z" readNum attrs.z,
     Part.opt "growth" readNum attrs.growth, Part.opt "fixed_t" readNum attrs.fixedT, Part.opt "t_init" readNum attrs.tInit,
     Part.opt "warn_h" readNum attrs.warnH]
def Say.eccInject (target : Nat) (unit bits : Option Nat) (_us : Nat) : Say :=
  plain "ecc" "inject" []
    [Part.req "target" (readWord [("sram", 0), ("dram0", 1), ("dram1", 2), ("bch", 3)]) target, Part.opt "unit" readNum unit,
     Part.opt "bits" readNum bits]
def Say.mpuShow (core : Option Nat) (_us : Nat) : Say := plain "mpu" "show" [] [Part.opt "core" readCore core]
def Say.mpuLoad (length : Nat) (_us : Nat) : Say := plain "mpu" "load" [] [Part.req "length" (readSize 1) length]
def Say.mpuAdd (off : Nat) (hex : Bytes) (_us : Nat) : Say := plain "mpu" "add" [] [Part.req "off" readNum off, Part.req "hex" readBytes hex]
def Say.mpuAdmit (slot : Nat) (_us : Nat) : Say := plain "mpu" "admit" [] [Part.req "key" readDk slot]
def Say.mpuRemove (_us : Nat) : Say := plain "mpu" "remove" [] []
def Say.colourShow (_us : Nat) : Say := plain "colour" "show" [] []
def Say.colourTag (addr : Nat) (_errs : LineErrs) (_us : Nat) : Say := plain "colour" "tag" [] [Part.req "addr" readNum addr]
def Say.twinShow (_us : Nat) : Say := plain "twin" "show" [] []
def Say.twinPair (slot : Nat) (primary : Bool) (wk : Nat) (_second : Bool) (_us : Nat) : Say :=
  plain "twin" "pair" [Part.obj readSlotId slot]
    [Part.req "role" (readWord [("primary", true), ("secondary", false)]) primary, Part.req "key" readWk wk]
def Say.twinOffer (wk kcvNum cap serial : Nat) (_us : Nat) : Say :=
  plain "twin" "offer" []
    [Part.req "role" (readWord [("secondary", ())]) (), Part.req "key" readWk wk, Part.req "kcv" (readHex 6) kcvNum, Part.req "cap" readNum cap,
     Part.req "serial" (readHex 8) serial]
def Say.twinUnpair (_us : Nat) : Say := plain "twin" "unpair" [] []
def Say.twinSwap (_us : Nat) : Say := plain "twin" "swap" [] []
def Say.twinTakeover (_us : Nat) : Say := plain "twin" "takeover" [] []
def Say.twinInteg (pocket : Nat) (slot : Option Nat) (_us : Nat) : Say :=
  plain "twin" "integ" [Part.obj readPocket pocket]
    [Part.req "slot" (fun cs => if isWord "none" cs then some none else (readDk cs).map some) slot]
def Say.ringShow (_us : Nat) : Say := plain "ring" "show" [] []
def Say.ringRetrain (east west : Bool) (_us : Nat) : Say :=
  plain "ring" "retrain" []
    [Part.req "port" (readWord [("e", (true, false)), ("w", (false, true)), ("both", (true, true))]) (east, west)]
def Say.ringCfg (join : Option Bool) (force : Bool) (rate lanes share : Option Nat) (_us : Nat) : Say :=
  plain "ring" "cfg" []
    [Part.opt "join" readOnOff join, Part.dflt "force" (readWord [("yes", true)]) false force,
     Part.opt "rate_max" (readWord [("2.5", 0), ("5.0", 1), ("10.0", 2)]) rate, Part.opt "lanes" readNum lanes, Part.opt "darn_share" readNum share]
def Say.mantleShow (_us : Nat) : Say := plain "mantle" "show" [] []
def Say.mantleRelay (slot : Nat) (text : String) (_us : Nat) : Say :=
  plain "mantle" "relay" [Part.obj readSlotId slot] [Part.req "text" readText text]
def Say.mantleRead (slot pocket : Nat) (minute : Option Nat) (_us : Nat) : Say :=
  plain "mantle" "read" []
    [Part.req "slot" readSlotId slot, Part.req "pocket" readPocket pocket, Part.opt "minute" readNum minute]
def Say.bistRun (swatch dom : Nat) (_us : Nat) : Say := plain "bist" "run" [Part.obj readSwatch swatch] [Part.req "domain" readDomain dom]
def Say.bistShow (swatch : Nat) (_us : Nat) : Say := plain "bist" "show" [Part.obj readSwatch swatch] []
def Say.bistList (_us : Nat) : Say := plain "bist" "list" [] []
def Say.lifeShow (_us : Nat) : Say := plain "life" "show" [] []
def Say.lifeSet (target confirm : Nat) (_us : Nat) : Say :=
  plain "life" "set" []
    [Part.req "to" (readWord [("blank", 0), ("make", 1), ("field", 2), ("return", 3), ("scrap", 4)]) target,
     Part.req "confirm" (readHex 8) confirm]
def Say.peek (target : Target) (n : Option Nat) (_us : Nat) : Say := alone "peek" [Part.obj readTarget target] [Part.opt "n" readNum n]
def Say.poke (target : Target) (value : Nat) (_got : List Nat) (_us : Nat) : Say :=
  alone "poke" [Part.obj readTarget target, Part.obj readNum value] []
def Say.resetCard (_us : Nat) : Say := plain "reset" "card" [] []
def Say.resetWarm (_us : Nat) : Say := plain "reset" "warm" [] []
def Say.resetDomain (dom : Nat) (_us : Nat) : Say := plain "reset" "domain" [Part.obj readDomain dom] []
def Say.logShow (_us : Nat) : Say := plain "log" "show" [] []
def Say.logFaults (frm count : Option Nat) (_us : Nat) : Say := plain "log" "faults" [] [Part.opt "from" readNum frm, Part.opt "n" readNum count]

/-- Every form, with arbitrary operands: they say which objects and keys a command may have (R147). -/
def forms : List Say :=
  [Say.hello 0, Say.helloRole .none 0, Say.helloService 0, Say.helloResponse [] 0, Say.id 0, Say.ver 0, Say.help 0, Say.helpVerb "" none 0,
   Say.lineShow 0, Say.lineSpeed 0 0, Say.lineMode false 0, Say.lineCts false 0, Say.clockShow 0, Say.clockSet 0 0 0,
   Say.pocketCreate 0 ⟨none, none, none, none, none⟩ 0, Say.pocketSet 0 ⟨none, none, none, none, none⟩ 0, Say.pocketSuspend 0 0,
   Say.pocketResume 0 0, Say.pocketDelete 0 0, Say.pocketShow 0 0, Say.pocketList 0, Say.queueCreate 0 0 ⟨none, none, none⟩ 0,
   Say.queueSet 0 ⟨none, none, none⟩ 0, Say.queueDelete 0 0] ++
  [Say.queueShow 0 0, Say.queueList none 0 0, Say.keyBlobAdd [] 0, Say.keyBlobClear 0, Say.keyLoadWrap 0 0 0 none 0,
   Say.keyLoadPlain 0 0 none 0, Say.keyGen 0 0 0 none 0, Say.keyErase 0 0, Say.keyShow 0 0, Say.keyShowClear none 0, Say.keyList none 0 0,
   Say.cipherShow 0, Say.cipherGmac 0 none 0, Say.cipherCmac 0 none 0, Say.cipherEnc 0 [] 0, Say.cipherDec 0 [] 0, Say.cacheShow none 0,
   Say.cacheSet 0 ⟨none, none, none, none⟩ 0, Say.cacheCfg ⟨none, none, none, none, none, none⟩ 0, Say.mapShow 0, Say.mapLookup 0 0 0,
   Say.mapCheckpoint 0, Say.mapCfg 0 0, Say.meterShow 0 0] ++
  [Say.meterRead 0 none 0, Say.meterAck 0 0 0 0, Say.meterCfg none none 0, Say.linkShow 0, Say.linkRetrain 0,
   Say.linkCfg ⟨none, none, none, none, none, none⟩ 0, Say.powerShow 0, Say.powerStateRun 0, Say.powerStateIdle 0,
   Say.powerStateNap none none false 0, Say.powerStateTack none false 0, Say.powerStateDormant none false 0, Say.powerLevel 0 0,
   Say.powerSettings none none none none none none 0, Say.domainShow none 0, Say.domainOn 0 0, Say.domainOff 0 false none 0,
   Say.liningShow 0, Say.liningCfg ⟨none, none, none, none, none, none, none, none, none, none⟩ 0, Say.liningProbe 0, Say.liningDrill 0,
   Say.liningDesc ⟨none, none, none, none, none⟩ none 0, Say.flashShow 0, Say.flashDie 0 0] ++
  [Say.flashCfg ⟨none, none, none, none, none⟩ 0, Say.flashFormat 0 0, Say.dramShow 0,
   Say.dramCfg none ⟨none, none, none, none, none, none, none, none⟩ 0, Say.dramPort 0 none none none 0, Say.dramMasks 0 0 0 0 0 0 0,
   Say.eccShow 0, Say.eccGroup 0 0, Say.eccCfg ⟨none, none, none, none, none, none, none, none, none, none⟩ 0, Say.eccInject 0 none none 0,
   Say.mpuShow none 0, Say.mpuLoad 0 0, Say.mpuAdd 0 [] 0, Say.mpuAdmit 0 0, Say.mpuRemove 0, Say.colourShow 0, Say.colourTag 0 LineErrs.none 0,
   Say.twinShow 0, Say.twinPair 0 false 0 false 0, Say.twinOffer 0 0 0 0 0, Say.twinUnpair 0, Say.twinSwap 0, Say.twinTakeover 0,
   Say.twinInteg 0 none 0] ++
  [Say.ringShow 0, Say.ringRetrain false false 0, Say.ringCfg none false none none none 0, Say.mantleShow 0, Say.mantleRelay 0 "" 0,
   Say.mantleRead 0 0 none 0, Say.bistRun 0 0 0, Say.bistShow 0 0, Say.bistList 0, Say.lifeShow 0, Say.lifeSet 0 0 0,
   Say.peek ⟨0, none⟩ none 0, Say.poke ⟨0, none⟩ 0 [] 0, Say.resetCard 0, Say.resetWarm 0, Say.resetDomain 0 0, Say.logShow 0,
   Say.logFaults none none 0]

/-- Do the characters of a line say this command with these operands? `bad` says that the command's objects, keys or values are none that one of
its forms can hold (R147); the tag is echoed as received (R156). -/
def Say.saidBy (c : Say) (typed : Bool) (tag : Option String) (bad : Bool) (cs : List Nat) : Bool :=
  let x := readLine typed (cs.map Char.ofNat)
  (x.tag == tag.map String.toList) &&
    (if c.verb == "" then !x.known
     else x.known && c.named x && (if bad then !(forms.any (fun f => f.verb == c.verb && f.sub == c.sub && f.fits x)) else c.fits x && c.means x))

end Sys2Proof.Machine
end

