-- ==== Sys2Proof/Machine/LineOps.lean ====
section
/-!
DEFINITION. Sys2Proof/Machine/LineOps.lean: what every Baleong line goes through before its command acts (R82, R112,
R147, R154, R175 to R178, R201, R975), the faults of a raw line (Table COL-5) and the session operations of chapter 03.
-/
namespace Sys2Proof.Machine
open Sys2Proof

/-! ### Where the card stands -/

/-- READY's level (R73). -/
def State.ready (s : State) : Bool := s.boot.ready

/-- The banner row of Table BOOT-4 is complete: characters are no longer discarded (R81). -/
def State.bannerDone (s : State) : Bool := s.boot.done.contains .banner

/-- The domain whose writes an armed injection is meant for (Table SDP-5). -/
def State.injDomain (s : State) : Nat :=
  match s.get ECC_INJ.TARGET with
  | 0 => s.get ECC_INJ.UNIT
  | 1 => 29
  | 2 => 31
  | _ => 45 + s.get ECC_INJ.UNIT % 4

/-- An injection acts in BLANK, MAKE and RETURN, and in FIELD on a target whose domain is not IN (R529). -/
def State.injMay (s : State) : Bool :=
  let st := s.get LCS_STATE.STATE
  st == 0 || st == 1 || st == 3 || (st == 2 && s.dom s.injDomain != 3)

/-- The bits that an injection which acts now flips: at least 1, and none where it may not act (R528, R529, Table SDP-5). -/
def State.injFlips (s : State) : Nat := if s.injMay then max 1 (s.get ECC_INJ.BITS) else 0

/-- A domain enters IN; an injection armed for it that may then no longer act is cleared (R529, R1114). -/
def State.enterIn (s : State) (d : Nat) : State :=
  let s0 := if d = 49 then { s with boot := { s.boot with wdogUs := s.clk } } else s
  let s1 := s0.setDom d 3
  let s2 := if s1.flag ECC_INJ.ARM = true ∧ s1.injDomain = d ∧ s1.injMay = false then s1.set ECC_INJ.ARM 0 else s1
  if [1, 5, 9, 13].contains d then s2.recordsOwed else s2

/-- T0 runs: D49 is in service. -/
def State.t0Runs (s : State) : Bool := s.domIn 49

/-- The removal ladder runs: RMV_STAT.PHASE is not IDLE (Table LIN-9). -/
def State.removing (s : State) : Bool := s.get RMV_STAT.PHASE != 0

/-- The card is in LIMP (R110). -/
def State.limp (s : State) : Bool := s.flag SYS_BOOTSTAT.LIMP

/-- The Sleeve link has completed negotiation: data phase or clock stopped (R165, Table SLVF-10). -/
def State.linkUp (s : State) : Bool := decide (2 ≤ s.get SLV_STAT.STATE)

/-- The card was booted FACTORY, in a state that honours it: BLANK, MAKE or RETURN (Tables BOOT-3, LCS-1). -/
def State.factory (s : State) : Bool :=
  s.get SYS_STRAP.BOOT_SEL == 3 && (s.get LCS_STATE.STATE == 0 || s.get LCS_STATE.STATE == 1 || s.get LCS_STATE.STATE == 3)

/-- What an instruction acts as (R950, R952, Table LCS-1). -/
def State.tapActs (s : State) (i : JtagInstr) : JtagInstr :=
  let st := s.get LCS_STATE.STATE
  if st = 4 then .closed
  else
    match i with
    | .closed => .bypass
    | .bypass => .bypass
    | .idcode => .idcode
    | .standard drives => if st = 2 ∨ (drives = true ∧ !s.limp ∧ s.factory = false) then .bypass else .standard drives
    | .scan d => if st = 2 ∨ (st = 3 ∧ d = 37) then .bypass else .scan d
    | .internal => if st = 0 ∨ st = 1 then .internal else .bypass

/-- The TAP's instruction acts as the lifecycle state and the start allow: at its load, at a gate change, at the end of a start (R949, R950,
R952). -/
def State.tapGate (s : State) : State := { s with life := { s.life with tap := s.tapActs s.life.tapIn } }

/-- The slot of the active Mantle, as the Seam block knows it (Table SEAM-9). -/
def State.isMantleSlot (s : State) (n : Nat) : Bool := s.get SEAM_STAT.MANTLE == n

/-- The role a path starts with; a Seam source that is the active Mantle starts as MANTLE (Table COL-7, R895). -/
def State.startRole (s : State) : Path → Role
  | .collar => .operator
  | .mgt => .host
  | .seam n => if s.isMantleSlot n then .mantle else .none

/-- The role a path holds. -/
def State.roleOf (s : State) (p : Path) : Role :=
  match (s.session p).role with
  | .none => s.startRole p
  | r => r

/-! ### Command forms -/

/-- A command form's row of Tables CMDA-1 and CMDB-1: class, roles, and the domains its work needs (R112, R201). -/
structure Form where
  changing : Bool
  roles : List Role
  needs : List Nat
  deriving DecidableEq, Repr

/-- SERVICE may use every command that OPERATOR may use (R178). -/
def Form.allows (f : Form) (r : Role) : Bool :=
  f.roles.contains r || (r == .service && f.roles.contains .operator)

/-- What a command answers. -/
inductive Result where
  | ok (data : List (List KV)) (kv : List KV)
  | fail (st : Status)
  | busy
  | wait (w : AwaitFor)
  | job (what : String)
  deriving DecidableEq, Repr

/-- The domain of the unit that failed at start-up (Table BOOT-7): UNIT is a domain for CHECKER and REPAIR, a channel
for BOOTAREA; FUSE and STALL name no unit. -/
def State.limpDomain (s : State) : Option Nat :=
  if !s.limp then none
  else match s.get SYS_LIMP.CAUSE with
    | 1 => some (s.get SYS_LIMP.UNIT)
    | 3 => some (s.get SYS_LIMP.UNIT)
    | 4 => some (1 + s.get SYS_LIMP.UNIT / 4)
    | _ => none

/-- The command needs the unit that failed (R112). -/
def State.limpNeeds (s : State) (f : Form) : Bool :=
  match s.limpDomain with
  | some d => f.needs.contains d
  | none => false

/-- The configuration lock is held: by a line or a job, by a reply that the Collar holds back, for a request of T0, or for a line item of the
primary (R129, R175, R873). -/
def State.locked (s : State) : Bool := s.col.lock.isSome || s.col.txLock || s.col.t0Lock || s.twin.lineAwait.isSome

/-- A changing line of another path was accepted at this moment (R199). -/
def State.second (s : State) (p : Path) : Bool :=
  match s.col.lastChange with
  | some (q, t) => q != p && t == s.clk
  | none => false

/-- The checks before a command acts, in the order: before READY (R82), role (R178), removal (R201), the configuration lock (R176), a
domain the ladder has switched off (R201), LIMP (R112). R176 speaks of a command on another path than the lock's holder: a changing line
of the holder's own path, while its job runs, is answered BZ as well (DESIGN CHOICE, assumption log entry 160). During the flush of a commanded
reset READY is low, and a reading line is answered BZ as before READY (DESIGN CHOICE, assumption log entry 209). -/
def State.gate (s : State) (p : Path) (f : Form) (early : Bool) : Option Result :=
  if !s.ready && !s.removing && !early then some .busy
  else if !f.allows (s.roleOf p) then some (.fail .role)
  else if f.changing && !s.ready then some (.fail .notReady)
  else if f.changing && (s.locked || s.second p) then some .busy
  else if s.removing && f.needs.any (fun d => s.dom d == 0) then some (.fail .domainOff)
  else if s.limpNeeds f then some (.fail .wrongState)
  else none

/-! ### Sleeve frames that carry lines -/

/-- The domain of lane Lk (Table PWD-1). -/
def laneDomain (k : Nat) : Nat := 17 + k

/-- The lanes of a mask, ascending. -/
def lanesOf (m : Nat) : List Nat := (List.range 8).filter (fun k => m.testBit k)

/-- One character time's errors on Sleeve lanes: the lanes are counted (R213); where L8 covers the traffic, an error of one data lane alone
is corrected from L8 and counted, and an error of L8 alone harms nothing (R303, R304). The Bool says whether every data character is
right. -/
def State.charErrs (s : State) (covered : Bool) (ls : List Nat) : State × Bool :=
  let s1 := ls.foldl (fun t k => if k < 9 then t.count (SLV_LANEERR.COUNT k) 1 else t) s
  if ls = [] then (s1, true)
  else if covered = true ∧ s.flag SLV_STAT.GUSSET = true ∧ ls.length = 1 then
    (if ls = [8] then s1 else s1.count SLV_GUSSETFIX.COUNT 1, true)
  else (s1, false)

/-- All character times' errors: is every one corrected? -/
def State.allErrs (s : State) (covered : Bool) : List (List Nat) → State × Bool
  | [] => (s, true)
  | ls :: r =>
    let (s1, ok1) := s.charErrs covered ls
    let (s2, ok2) := s1.allErrs covered r
    (s2, ok1 && ok2)

/-- E, the sequence number the card expects (R279, Table SLVF-12). -/
def State.rxE (s : State) : Nat := s.get SLV_SEQ.RX_EXPECT

/-- The lanes on which the host sends (R267, R294, R299): every data lane in force, with L8 where the Gusset lane is; or the counter lanes,
which L8 does not cover (R297, R303). -/
def State.rxLanes (s : State) (counter : Bool) : List Nat :=
  let ls := lanesOf (s.get SLV_STAT.LANES)
  if counter then ls.drop (s.get SLV_STAT.LEASE_M) else ls ++ (if s.flag SLV_STAT.GUSSET then [8] else [])

/-- Is a K-code that fills one character time on all lanes of a set recognised (R305)? -/
def recognised (set ok : List Nat) : Bool :=
  let c := (set.filter (fun k => ok.contains k)).length
  if set.length ≤ 2 then decide (1 ≤ c) else decide (set.length < 2 * c)

/-- A K-code arrived without error on the lanes `ok` of a set: the others had a character error (R213). Is it recognised (R305)? -/
def State.codeSeen (s : State) (set ok : List Nat) : State × Bool :=
  ((set.filter (fun k => !ok.contains k)).foldl (fun t k => if k < 9 then t.count (SLV_LANEERR.COUNT k) 1 else t) s, recognised set ok)

/-- What becomes of a received sequenced item (R279 to R281): accepted, a duplicate, a gap, or damaged; or not seen at all, because its SOF
was not recognised (R305). -/
inductive RxVerdict where
  | accepted | duplicate | gap | damaged | unseen
  deriving DecidableEq, Repr

/-- Is a frame with `len` payload bytes seen, and undamaged (R279)? A frame over a lane that is no longer in service is damaged (R309). A
damaged one counts in SLV_CRCERR and makes a REP due (R281). -/
def State.frameWhole (s : State) (rx : SlvRx) (len : Nat) : State × RxVerdict :=
  let set := s.rxLanes rx.counter
  let (s1, seen) := s.codeSeen set rx.sof
  let (s2, clean) := s1.allErrs (seen && !rx.counter) rx.errs
  let (s3, eof) := s2.codeSeen set rx.eof
  if !seen then (s3, .unseen)
  else
    if !clean || s.get SLV_FORCE1.MAX_FRAME < len || !eof || !rx.crcOk || set.any (fun k => !s.domIn (laneDomain k)) then
      let s4 := s3.count SLV_CRCERR.COUNT 1
      ({ s4 with slv := { s4.slv with repDue := true } }, .damaged)
    else (s3, .accepted)

/-- The receiver's judgement of a sequenced item with `len` payload bytes. An accepted item advances E; a damaged one or a gap
makes a REP due; a duplicate counts in SLV_DISCARD.DUP (R279 to R281). -/
def State.judge (s : State) (rx : SlvRx) (len : Nat) : State × RxVerdict :=
  match s.frameWhole rx len with
  | (s1, .accepted) =>
    let e := s.rxE
    let d := (rx.seq + 4096 - e) % 4096
    if d = 0 then (s1.set SLV_SEQ.RX_EXPECT ((e + 1) % 4096), .accepted)
    else if 2048 ≤ d then (s1.count SLV_DISCARD.DUP 1, .duplicate)
    else ({ s1 with slv := { s1.slv with repDue := true } }, .gap)
  | r => r

/-- The MGT frame of a line is judged like every sequenced item (R213, R279 to R281, R304). Does its line count? -/
def State.frameJudge (s : State) : FrameRx → State × Bool
  | .whole => (s.set SLV_SEQ.RX_EXPECT ((s.rxE + 1) % 4096), true)
  | .taken => (s, true)
  | .seen rx =>
    match s.judge rx 0 with
    | (s1, .accepted) => (s1, true)
    | (s1, _) => (s1, false)

/-! ### Lines -/

/-- A line that the card takes up is no longer held on the Collar (R130, R173); an MGT line's frame has been judged (R279); one that has waited
waits no longer (R173); the active Mantle's session has carried a line (R896). -/
def State.heard (s : State) (p : Path) (rx : FrameRx) : State :=
  let s0 := if rx = .taken then { s with col := { s.col with waiting := s.col.waiting.eraseP (fun w => w.path == p) } } else s
  match p with
  | .collar => { s0 with col := { s0.col with held := s0.col.held.drop 1 } }
  | .mgt => (s0.frameJudge rx).1
  | .seam n =>
    if s0.isMantleSlot n ∧ s0.seam.heard.contains n = false then { s0 with seam := { s0.seam with heard := s0.seam.heard ++ [n] } }
    else s0

/-- A line that a check turns away. -/
def State.turnAway (s : State) (ln : Ln) : Result → State
  | .fail st => s.reply ln.path (.er ln.tag st)
  | _ => s.reply ln.path (.bz ln.tag)

/-- The state after a command that was answered at once. -/
def State.settled (s : State) (f : Form) (p : Path) : State := if f.changing then s.accepted p else s

/-- What a changing command has changed is in the configuration record before its OK is sent (R321). -/
def State.recorded (s : State) (f : Form) : State := if f.changing then s.confRecord else s

/-- The answer of a command: its reply, or the wait for it. A changing command holds the lock until its reply (R175). -/
def State.answer (s : State) (ln : Ln) (f : Form) : Result → State
  | .ok data kv => ((s.recorded f).reply ln.path (.ok ln.tag data kv)).settled f ln.path
  | .fail st => (s.reply ln.path (.er ln.tag st)).settled f ln.path
  | .busy => s.reply ln.path (.bz ln.tag)
  | .wait w =>
    let s1 := s.setSession ln.path { s.session ln.path with await := some { tag := ln.tag, what := w, sinceUs := s.clk } }
    if f.changing then { s1 with col := { s1.col with lock := some ln.path } } else s1
  | .job what =>
    let n := s.col.jobNext
    let s1 := (s.startJob ln.path what).reply ln.path (.ok ln.tag [] [("job", dec n)])
    if f.changing then { s1 with col := { s1.col with lock := some ln.path } } else s1

/-! ### Faults of a raw line -/

/-- The position-free split of a line at its last space: what stands before it and what after, when there is one. -/
def splitLastSpace : List Nat → Option (List Nat × List Nat)
  | [] => none
  | c :: cs =>
    match splitLastSpace cs with
    | some (a, b) => some (c :: a, b)
    | none => if c = 0x20 then some ([], cs) else none

/-- Value of a hexadecimal digit. -/
def hexVal (c : Nat) : Option Nat :=
  if 0x30 ≤ c ∧ c ≤ 0x39 then some (c - 0x30)
  else if 0x41 ≤ c ∧ c ≤ 0x46 then some (c - 0x37)
  else if 0x61 ≤ c ∧ c ≤ 0x66 then some (c - 0x57)
  else none

/-- Value of exactly four hexadecimal digits. -/
def hex4 : List Nat → Option Nat
  | [a, b, c, d] =>
    match hexVal a, hexVal b, hexVal c, hexVal d with
    | some w, some x, some y, some z => some (w * 4096 + x * 256 + y * 16 + z)
    | _, _, _, _ => none
  | _ => none

/-- Is the line's checksum wrong, malformed, or missing where strict mode requires it (R149 to R152, Table COL-1)?
A `*` inside a quoted string begins no checksum. -/
def badCheck (strict : Bool) (cs : List Nat) : Bool :=
  match splitLastSpace cs with
  | none => strict
  | some (covered, last) =>
    if last.head? = some 0x2A ∧ (covered.filter (· = 0x22)).length % 2 = 0 then
      match hex4 (last.drop 1) with
      | some v => covered.getLast? == some 0x20 || covered.isEmpty || decide (v ≠ (crc16 covered).toNat)
      | none => true
    else strict

/-- A character that strict mode forbids (Table COL-3). -/
def forbiddenStrict (c : Nat) : Bool := (c < 0x20 && c != 0x0D && c != 0x0A) || c == 0x7F || 0x80 ≤ c

/-- A payload that R188 calls malformed. -/
def malformedPayload (cs : List Nat) : Bool := cs.isEmpty || cs.any (fun c => c < 0x20 || 0x7E < c)

/-- The reason a raw line is discarded for, the first of Table COL-5 that applies (R166, R167). -/
def lineFault (strict framed : Bool) (l : RawLine) : Option RpReason :=
  if l.parity then some .parity
  else if l.framing then some .framing
  else if (if framed then malformedPayload l.chars else strict && l.chars.any forbiddenStrict) then some .char
  else if l.overrun then some .overrun
  else if l.idle then some .idle
  else if 240 < l.chars.length then some .long
  else if l.chars = [0x3D] then none
  else if l.chars.all (· == 0x20) then none
  else if badCheck strict l.chars then some .check
  else none

/-! ### Taking a line up -/

/-- Lines reach the card on this path: T0 runs, the banner has gone (R81, R201), an MGT frame comes in the data phase (R266, R279); in a power
state lines wait for its exit (R821). -/
def State.hears (s : State) (p : Path) : Bool :=
  s.bannerDone && s.t0Runs && !s.asleep && (p != .mgt || s.slv.phase == .data)

/-- The reply before it has been sent in full (R173), and the line does not stand in a break (R133). -/
def State.replyDone (s : State) (p : Path) : Bool :=
  (s.session p).await.isNone && !s.replyHeld p && !(p == .collar && s.col.inBreak)

/-- The card takes a line up on this path as it comes: no reply is owed, and no line waits before it (R173). -/
def State.listens (s : State) (p : Path) : Bool := s.hears p && s.replyDone p && !s.col.waiting.any (fun w => w.path == p)

/-- The row of a line that has waited stands for its moment: it is the oldest of its path, and no reply is owed (R173). -/
def State.recalls (s : State) (w : Waited) : Bool :=
  s.bannerDone && s.t0Runs && !s.asleep && s.replyDone w.path && s.col.waiting.find? (fun x => x.path == w.path) == some w

/-- A line of the Collar is the one that the card holds as characters: the oldest line held can be trusted (R142, R152, R166) and its text says
the command (R130, R141, R173). With no line held, the row brings its own line. An MGT line stands when its frame is accepted (R279). -/
def State.says (s : State) (c : Say) (ln : Ln) : Bool :=
  match ln.path, s.col.held with
  | .collar, l :: _ =>
    lineFault (s.strict .collar) false l == none && l.chars != [0x3D] && c.saidBy (!s.strict .collar) ln.tag ln.bad l.chars
  | .mgt, _ => (s.frameJudge ln.rx).2
  | _, _ => true

/-- The line as the card keeps it while the reply before it is owed. -/
def Say.waited (c : Say) (ln : Ln) : Waited := { path := ln.path, tag := ln.tag, bad := ln.bad, verb := c.verb, sub := c.sub }

/-- A line comes while it cannot be taken up: one of the Collar is held there (R130); one of another path waits (R173), its frame accepted. -/
def State.keepLine (s : State) (w : Waited) (rx : FrameRx) : State :=
  if w.path = .collar ∨ rx = .taken then s
  else
    let s0 := s.heard w.path rx
    { s0 with col := { s0.col with waiting := s0.col.waiting ++ [w] } }

/-- Does the row find its line ready to be taken up? -/
def State.ripe (s : State) (w : Waited) (rx : FrameRx) : Bool := if rx = .taken then s.recalls w else s.listens w.path

/-- A line that the card does not take up: an MGT frame that is not accepted leaves its traces on the link (R213, R281). -/
def State.missed (s : State) (c : Say) (ln : Ln) : State :=
  if !s.hears ln.path then s
  else if s.says c ln then s.keepLine (c.waited ln) ln.rx
  else if ln.path = .mgt then s.heard .mgt ln.rx else s

/-- A trusted line runs a command: the checks every command is subject to (R975), then the command's own effect. -/
def State.runLine (s : State) (c : Say) (ln : Ln) (f : Form) (early : Bool) (body : State → State × Result) : State :=
  if !(s.ripe (c.waited ln) ln.rx && s.says c ln) then s.missed c ln
  else
    let s0 := (s.wakeLine ln.path ln.rx).heard ln.path ln.rx
    match s0.gate ln.path f early with
    | some r => s0.turnAway ln r
    | none =>
      let (s1, r) := body s0
      s1.answer ln f r

/-- The reply that a line has waited for is sent, and the lock it held ends with it (R160, R175). -/
def State.finish (s : State) (p : Path) (r : Option String → Reply) : State :=
  match (s.session p).await with
  | none => s.unlock p
  | some w =>
    let t := (s.confRecord.unlock p).reply p (r w.tag)
    if s.col.lock = some p then t.accepted p else t

/-- The paths that have a session. -/
def State.paths (s : State) : List Path := .collar :: .mgt :: s.col.seam.map (fun x => .seam x.1)

/-- The path whose line waits for something. -/
def State.awaiting (s : State) (w : AwaitFor) : Option Path :=
  s.paths.find? (fun p => match (s.session p).await with | some a => a.what == w | none => false)

/-- What the secondary has confirmed: everything before the first item that still waits for its program, or for the end of its line
(R873). -/
def State.secondaryConf (s : State) : Nat :=
  let prog := match s.twin.through.find? (fun t =>
      s.cache.entries.any (fun e => e.pocket == t.2.1 && e.lba == t.2.2 && e.kind == .through)) with
    | some t => t.1
    | none => s.twin.rxNext
  match s.twin.lineAwait with
  | some l => min l.1 prog
  | none => prog

/-- The secondary acknowledges what is newly confirmed (R873). -/
def State.twinAck (s : State) : State :=
  let c := s.secondaryConf
  if (s.twinState = 4 ∨ s.twinState = 5) ∧ s.twin.acked < c then
    let thr := s.twin.through.filter (fun t => decide (c ≤ t.1))
    ({ s with twin := { s.twin with acked := c, through := thr } }).twinReply (.ack (c - 1))
  else s

/-- The line item whose command has come to its end is confirmed, or refused when the command failed (R873, R875). -/
def State.lineItemEnds (s : State) (w : AwaitFor) (r : Option String → Reply) : State :=
  match s.twin.lineAwait with
  | none => s
  | some l =>
    if l.2 ≠ w then s
    else
      let s1 := { s with twin := { s.twin with lineAwait := none } }
      match r none with
      | .ok _ _ _ => s1.twinAck
      | _ => ({ s1 with twin := { s1.twin with rxNext := l.1, half := none } }).twinReply (.nak l.1)

/-- Does a line, a job or a muted command still wait for `w`? -/
def State.owes (s : State) (w : AwaitFor) : Bool :=
  (s.awaiting w).isSome || s.col.jobs.any (fun j => j.await == some w) || s.col.muted.any (fun m => m.2 == w)

/-- The status that a reply gives to the notice of a job. -/
def Reply.status : Reply → Status
  | .ok _ _ _ => .done
  | .er _ st => st
  | .bz _ => .wrongState

/-- What has been waited for comes: the reply of the line that waits for `w` is sent, or the job ends that its line has become (R161); a line item
that waits for it ends too. -/
def State.finishFor (s : State) (w : AwaitFor) (r : Option String → Reply) : State :=
  let s1 := (s.lineItemEnds w r).unmute w
  match s1.awaiting w with
  | some p => s1.finish p r
  | none =>
    match s1.col.jobs.find? (fun j => j.await == some w) with
    | some j => s1.confRecord.endJob j.num (r none).status
    | none => s1

/-! ### Work of more than a second -/

/-- Changing commands whose work may last longer than 1 s, and whose reply then names a job (R161, R995, R1051). The others end by bounds of
their own. -/
def AwaitFor.long : AwaitFor → Bool
  | .domainOn _ | .domainOff _ | .domainReset _ | .pocketDelete _ | .sizeReduce _ | .checkpoint | .level | .life => true
  | .journal | .powerState _ | .mapLookup _ _ | .nonce _ _ | .relay _ | .swap | .unpair | .pairing | .bist _ => false

/-- The name of a job that a waiting line becomes. -/
def AwaitFor.job : AwaitFor → String
  | .pocketDelete _ => "pocket delete"
  | .sizeReduce _ => "pocket set"
  | .checkpoint => "map checkpoint"
  | .level => "power level"
  | .life => "life set"
  | _ => "domain"

/-- A line that has waited for more than 1 s is answered with a job; its lock lasts until the job's notice (R161, R175). -/
def State.longWork (s : State) : State :=
  s.paths.foldl (fun t p =>
    match (t.session p).await with
    | some a =>
      if a.what.long = true ∧ a.sinceUs + 1000000 < t.clk then
        (t.startJob p a.what.job (some a.what)).reply p (.ok a.tag [] [("job", dec t.col.jobNext)])
      else t
    | none => t) s

/-- Time has reached `us` microseconds. -/
def State.at (s : State) (us : Nat) : State := (s.clkTo us).longWork

/-- RP on a path: the line is discarded, nothing is stored (R166, R168, R170). -/
def State.rp (s : State) (p : Path) (w : RpReason) : State :=
  let s1 := s.send p (.rp w)
  ({ s1 with col := { s1.col with rpLog := s1.col.rpLog ++ [(p, w.status)] } }).prompt p

/-! ### Session ends and notices -/

/-- A path's session returns to its start: last reply, challenge, role, blob buffer (R133, R134, R191, R1001). -/
def Session.restart (x : Session) (r : Role) : Session :=
  { x with role := r, last := none, chal := none, blob := [], await := none }

/-- The extension image buffer is emptied when its owner's session ends (R1070). -/
def State.dropImage (s : State) (p : Path) : State :=
  match s.access.image with
  | some (q, _) => if q = p then { s with access := { s.access with image := none } } else s
  | none => s

/-- The path is idle: no partial line received and no line awaiting its reply (R162). -/
def State.pathIdle (s : State) (p : Path) : Bool :=
  (s.session p).await.isNone && !s.replyHeld p && !s.col.waiting.any (fun w => w.path == p) &&
  match p with
  | .collar => s.col.part == RawLine.empty && s.col.held.isEmpty
  | _ => true

/-- The notices a session holds, in order, with the count of lost ones at the end (R164). -/
def Session.due (x : Session) : List Notice :=
  x.notices ++ (if x.lost = 0 then [] else [{ event := "notice lost", kv := [("n", dec x.lost)] }])

/-- All queued notices of a path are sent in order, then the prompt in typed mode (R162, R164, Table COL-3). -/
def State.sendNotices (s : State) (p : Path) : State :=
  let x := s.session p
  if x.due = [] then s
  else
    let st := s.strict p
    let s1 := (x.due.map (CardLine.notice st)).foldl (fun t l => t.send p l) s
    (s1.setSession p { x with notices := [], lost := 0 }).prompt p

end Sys2Proof.Machine
end

