-- ==== Sys2Proof/Machine/SleeveOps.lean ====
section
/-!
DEFINITION. Sys2Proof/Machine/SleeveOps.lean: the Sleeve link's frames byte by byte, negotiation, turns and repeats
(chapters 04 and 05).
-/
namespace Sys2Proof.Machine
open Sys2Proof

/-! ### Frames, controls and patterns -/

/-- A completion entry's 32 bytes (Table POC-8). -/
def Completion.bytes (c : Completion) : Bytes :=
  leBytes 2 c.tag ++ leBytes 2 c.status ++ leBytes 1 c.level ++
  leBytes 1 ((if c.through then 1 else 0) + (if c.prefetchHit then 2 else 0)) ++ leBytes 2 c.queue ++
  leBytes 4 c.blocks ++ leBytes 4 c.nonceSerial ++ leBytes 8 c.nonceCount ++ leBytes 8 0

/-- A frame header's 16 bytes (Table SLVF-2). -/
def frameHeader (type flags seq len tag queue offset : Nat) : Bytes :=
  leBytes 1 type ++ leBytes 1 flags ++ leBytes 2 (seq % 4096) ++ leBytes 2 len ++ leBytes 2 tag ++ leBytes 2 queue ++
  leBytes 2 0 ++ leBytes 4 offset

/-- Header, payload and CRC-32C over both (R266, R269). -/
def frameBytes (header payload : Bytes) : Bytes := header ++ payload ++ leBytes 4 (crc32c (header ++ payload))

/-- The bytes of a sequenced item on the wire: a frame, or an unpick marker's body and CRC (R276, R277). -/
def TxItem.bytes (seq : Nat) : TxItem → Bytes
  | .cpl es =>
    let p := (es.map Completion.bytes).flatten
    frameBytes (frameHeader 0x02 0 seq p.length 0 0 0) p
  | .dat b tag q off bs => frameBytes (frameHeader 0x03 (if b then 1 else 0) seq bs.length tag q off) bs
  | .mgt l =>
    let p := l.toList.map (fun c => BitVec.ofNat 8 c.toNat)
    frameBytes (frameHeader 0x04 0 seq p.length 0 0 0) p
  | .unp tag q st off len =>
    let p := leBytes 2 (seq % 4096) ++ leBytes 2 tag ++ leBytes 2 q ++ leBytes 2 st ++ leBytes 4 off ++ leBytes 4 len
    p ++ leBytes 4 (crc32c p)

/-- The bytes of each lane of a set of `n`: byte i of the string on lane i mod n, in character time i div n, padded with
zeros in the last character time (R267). -/
def laneBytes (n lane : Nat) (bs : Bytes) : Bytes :=
  (List.range ((bs.length + n - 1) / n)).map (fun t => bs.getD (t * n + lane) 0)

/-- Character times a frame of `k` header, payload and CRC bytes occupies on each of `n` lanes, SOF and EOF included (R267). -/
def frameChars (n payload : Nat) : Nat := 2 + (20 + payload + n - 1) / n

/-- The first two data characters of ACK E and REP E (R282). -/
def ackChars (e : Nat) : Nat × Nat :=
  let x := (e % 16) ^^^ (e / 16 % 16) ^^^ (e / 256 % 16)
  (e % 256, e / 256 % 16 + 16 * (15 - x))

/-- The third data character of the card's ACK: LEASE m and its inverse (R282). -/
def leaseChar (m : Nat) : Nat := m % 16 + 16 * (15 - m % 16)

/-- E of a received ACK or REP whose check nibble is right (R282). -/
def ackValue (a : Nat × Nat) : Option Nat :=
  let e := a.1 % 256 + 256 * (a.2 % 16)
  if ackChars e = (a.1 % 256, a.2 % 256) then some e else none

/-- The control taken from the copies that arrived without character error, lowest lane first (R284):
ignored when no copy has a right check nibble or two such copies disagree. -/
def ackTaken (copies : List (Nat × Nat)) : Option Nat :=
  match copies.filterMap ackValue with
  | [] => none
  | e :: r => if r.all (· == e) then some e else none

/-! ### Characters on the lanes -/

/-- The byte of a K-code (Table SLVW-1): K28.5, K27.7, K29.7, K28.0, K28.6, K28.2, K28.3, K28.4. -/
def KCode.byte : KCode → Byte
  | .idl => 0xBC
  | .sof => 0xFB
  | .eof => 0xFD
  | .turn => 0x1C
  | .stop => 0xDC
  | .ack => 0x5C
  | .rep => 0x7C
  | .unp => 0x9C

/-- What L8 carries while the data lanes carry a character time (R303): the XOR of their data bytes, or their common K-code. -/
def gussetChr (row : List Chr) : Chr :=
  match row with
  | .code k :: _ => .code k
  | _ => .data (row.foldl (fun x c => match c with | .data b => x ^^^ b | .code _ => x) 0)

/-- A character time with L8's character last where the Gusset lane is in force (R302). -/
def withGusset (g : Bool) (row : List Chr) : List Chr := if g then row ++ [gussetChr row] else row

/-- A K-code on every lane of a set of `n` (Table SLVW-1). -/
def codeTime (n : Nat) (g : Bool) (k : KCode) : List Chr := withGusset g (List.replicate n (.code k))

/-- A string striped over `n` lanes, pad included (R267). -/
def dataTimes (n : Nat) (g : Bool) (bs : Bytes) : List (List Chr) :=
  (List.range ((bs.length + n - 1) / n)).map (fun t => withGusset g ((List.range n).map (fun i => Chr.data (bs.getD (t * n + i) 0))))

/-- A frame between SOF and EOF (R266, R267). -/
def frameTimes (n : Nat) (g : Bool) (bs : Bytes) : List (List Chr) := codeTime n g .sof :: dataTimes n g bs ++ [codeTime n g .eof]

/-- A control with its data characters, the same on every lane of the set (R282). -/
def ctlTimes (n : Nat) (g : Bool) (k : KCode) (args : List Nat) : List (List Chr) :=
  codeTime n g k :: args.map (fun a => withGusset g (List.replicate n (.data (BitVec.ofNat 8 a))))

/-- IDL for `c` character times (R268, R214). -/
def idleTimes (c n : Nat) (g : Bool) : List (List Chr) := List.replicate c (codeTime n g .idl)

/-- The bytes of a frame that is not sequenced: GRT 0x08, CNF 0x0A, LNK 0x05 (R224, R271, Table SLVF-3). -/
def plainFrame (type : Nat) (payload : Bytes) : Bytes := frameBytes (frameHeader type 0 0 payload.length 0 0 0) payload

/-- The LNK RETRAIN frame (R272). -/
def retrainFrame (reason : Nat) : Bytes := plainFrame 0x05 (leBytes 1 1 ++ leBytes 1 reason ++ [0, 0])

/-- One bit of PRBS31, x^31 + x^28 + 1 (R235). The spec does not say whether the bit output is the new feedback bit or the bit shifted out:
it is the feedback bit (DESIGN CHOICE, assumption log entry 169). -/
def prbsStep (r : Nat) : Nat × Nat :=
  let b := (r / 2 ^ 30 + r / 2 ^ 27) % 2
  (b, (2 * r + b) % 2 ^ 31)

def prbsByteAux : Nat → Nat → Nat → Nat → Nat × Nat
  | 0, _, acc, r => (acc, r)
  | n + 1, k, acc, r =>
    let (b, r') := prbsStep r
    prbsByteAux n (k + 1) (acc + b * 2 ^ k) r'

def prbsBytes : Nat → Nat → Bytes
  | 0, _ => []
  | n + 1, r =>
    let (b, r') := prbsByteAux 8 0 0 r
    BitVec.ofNat 8 b :: prbsBytes n r'

/-- The seed of generator k (R235). -/
def prbsSeed (k : Nat) : Nat := (0x7FFFFFFF ^^^ (k * 0x01010101)) % 2 ^ 31

/-- The training bytes of lane k (R235). -/
def trainingBytes (k n : Nat) : Bytes := prbsBytes n (prbsSeed k)

/-! ### Lanes -/

/-- Is a Sleeve domain in state SHADOW or IN? -/
def State.domServes (s : State) (d : Nat) : Bool := s.dom d == 2 || s.dom d == 3

/-- The lanes a GRT offers, bit 8 for L8: those in state IN or SHADOW (R226). -/
def State.offered (s : State) : Nat :=
  ((List.range 9).map (fun k => if s.domServes (laneDomain k) then 2 ^ k else 0)).sum

/-- A mask without the lanes of another. -/
def maskMinus (a b : Nat) : Nat := a - (a &&& b)

/-- The lanes of a mask, L8 (bit 8) among them, ascending. -/
def allLanesOf (m : Nat) : List Nat := (List.range 9).filter (fun k => m.testBit k)

/-- The lanes of a mode, L8 in bit 8. -/
def LinkMode.mask (m : LinkMode) : Nat := m.lanes + (if m.gusset then 256 else 0)

def maskOf (ls : List Nat) : Nat := (ls.map (fun k => 2 ^ k)).sum

/-- A count of lanes rounded down to 1, 2, 4 or 8 (Table SLVW-5). -/
def roundLanes (n : Nat) : Nat := if 8 ≤ n then 8 else if 4 ≤ n then 4 else if 2 ≤ n then 2 else 1

/-- LANES in force (Table SLVW-5): of the selected lanes that were offered the lowest 1, 2, 4 or 8; L0 alone when L0 is missing. -/
def chooseLanes (selected offered : Nat) : Nat :=
  let ls := lanesOf (selected &&& offered)
  if ls.contains 0 then maskOf (ls.take (roundLanes ls.length)) else 1

/-- The highest offered rate not above the highest bit set in a rate byte (Table SLVW-5): all five are offered (R226); 0 when no bit is set. -/
def topBit (b : Nat) : Nat := min 4 (((List.range 8).filter (fun k => b.testBit k)).foldl max 0)

/-- The five rates in tenths of a Gbaud. -/
def rateText (r : Nat) : String := ["1.25", "2.5", "5.0", "10.0", "16.0"].getD r "1.25"

/-! ### Settings -/

def State.cardMaxFrame (s : State) : Nat := clamp 256 4096 (s.get SLV_CFG.MAX_FRAME) / 256 * 256
def State.cardTurnFrames (s : State) : Nat := clamp 1 1024 (s.get SLV_TURN.TURN_MAX_FRAMES)
def State.cardTurnUs (s : State) : Nat := clamp 1 1000 (s.get SLV_TURN.TURN_MAX_US)
def State.cardIdleHold (s : State) : Nat := clamp 10 10000 (s.get SLV_IDLE.IDLE_HOLD_US)

/-! ### Negotiation -/

/-- Was a command accepted before the last Sleeve reset? -/
def State.isOld (s : State) (ref : Nat) : Bool := decide (ref < s.slv.oldBefore)

/-- Completion entries that wait in CPL frames. -/
def TxItem.entries : TxItem → List Completion
  | .cpl es => es
  | _ => []

/-- PENDING (R223, Table SLVW-3): completions that were pending at the last Sleeve reset and that the host has not acknowledged yet; a
retrain's GRT gives those still owed (assumption log entry 168). -/
def State.pendingCount (s : State) : Nat :=
  ((s.slv.posted ++ s.refusals ++ (s.slv.newItems.map TxItem.entries).flatten ++
    (s.slv.unacked.map (fun i => i.item.entries)).flatten).filter (fun c => s.isOld c.ref)).length +
  (s.execs.filter (fun x => s.isOld x.cmd.ref)).length +
  (s.queues.map (fun k => (k.2.waiting.filter (fun c => s.isOld c.ref)).length)).sum

/-- The card's settings as a negotiation takes them (R314). -/
def State.linkSet (s : State) : LinkSet :=
  { maxFrame := s.cardMaxFrame, turnFrames := s.cardTurnFrames, turnUs := s.cardTurnUs, idleHold := s.cardIdleHold }

/-- The GRT payload (Table SLVW-3, R226), with the settings of the negotiation (R314). -/
def State.grtPayload (s : State) : Bytes :=
  let off := s.offered
  [0x01, 1, 0] ++ leBytes 1 (off % 256) ++ leBytes 1 (off / 256 % 2) ++ [0x1F, 0x03] ++ leBytes 1 s.slv.reason ++
  leBytes 2 s.slv.set.maxFrame ++ leBytes 2 s.slv.set.turnFrames ++ leBytes 2 s.slv.set.turnUs ++ leBytes 2 s.slv.set.idleHold ++
  [64, 0] ++ leBytes 1 (min 255 s.slv.negCount) ++ [0] ++ leBytes 4 (s.get SYS_SERIAL.SERIAL) ++
  leBytes 1 (if s.flag SYS_STRAP.SLOT_VALID then s.get SYS_STRAP.SLOT_ID else 0xFF) ++ [0, 0, 0] ++
  leBytes 4 s.pendingCount ++ List.replicate 32 0

/-- A mode as the bytes 1 to 17 of CNF (Table SLVW-3). -/
def LinkMode.bytes (m : LinkMode) (result : Nat) : Bytes :=
  [1, 0] ++ leBytes 1 m.lanes ++ leBytes 1 (if m.gusset then 1 else 0) ++ leBytes 1 (2 ^ m.rate) ++ leBytes 1 m.feat ++
  leBytes 1 result ++ leBytes 2 m.maxFrame ++ leBytes 2 m.turnFrames ++ leBytes 2 m.turnUs ++ leBytes 2 m.idleHold ++
  leBytes 1 m.preOut ++ leBytes 1 m.preIn

/-- The CNF payload (Table SLVW-3), or the verdict of attempt `k` (Table SLVW-4). -/
def cnfPayload (msg : Nat) (m : LinkMode) (result k : Nat) : Bytes :=
  leBytes 1 msg ++ m.bytes result ++ leBytes 1 k ++ List.replicate 45 0

/-- The mode in force and RESULT that a SEL leads to (R228, Table SLVW-5), from the lanes that the sent GRT offered (R265). PRE is the
host's PRE_MIN byte as it stands, also below the 16 that R216 gives as its least (DESIGN CHOICE, assumption log entry 167). -/
def State.chooseMode (s : State) (sel : Bytes) : LinkMode × Nat :=
  let b (i : Nat) := (sel.getD i 0).toNat
  let w (i : Nat) := b i + 256 * b (i + 1)
  let off := s.slv.offered
  let lanes := chooseLanes (b 3) (off % 256)
  let gus := b 4 % 2 == 1 && off / 256 % 2 == 1
  let rate := topBit (b 5)
  let one := (lanesOf lanes).length == 1
  let feat := if one then (b 6 &&& 3) &&& 2 else b 6 &&& 3
  let m : LinkMode :=
    { lanes := lanes, gusset := gus, rate := rate, feat := feat,
      maxFrame := max 256 (min s.slv.set.maxFrame (w 8) / 256 * 256),
      turnFrames := max 1 (min s.slv.set.turnFrames (w 10)), turnUs := max 1 (min s.slv.set.turnUs (w 12)),
      idleHold := clamp 10 10000 (w 14), preOut := b 16, preIn := 64 }
  let same := b 2 = 0 ∧ m.lanes = b 3 ∧ m.gusset = (b 4 % 2 == 1) ∧ 2 ^ m.rate = b 5 ∧ m.feat = b 6 ∧
    m.maxFrame = w 8 ∧ m.turnFrames = w 10 ∧ m.turnUs = w 12 ∧ m.idleHold = w 14
  (m, if same then 0 else 1)

/-- The SLV outputs grow. -/
def State.slvSend (s : State) (o : List SlvOut) : State := { s with slv := { s.slv with sent := s.slv.sent ++ o } }

/-- A GRT is sent in the present negotiation (R230). While L0 is OFF nothing is sent (R256), and a framer that is not in service leaves the link in
reset until it is (R778). -/
def State.sendGrt (s : State) : State :=
  if s.domServes 17 = true ∧ s.domServes 26 = true then
    ({ s with slv := { s.slv with phase := .grtSent, offered := s.offered, leftLanes := 0 } }).slvSend [.grt s.grtPayload]
  else { s with slv := { s.slv with phase := if s.domServes 26 then .down else .reset } }

/-- A fence of domain d: its epoch grows by one, modulo 256, and the fence is counted (R764, R767). What the domain's users
see of it is the unit's own effect (`State.loseWork`). -/
def State.fence (s : State) (d : Nat) : State :=
  ((s.set (PWR_DSTAT.EPOCH d) (s.get (PWR_DSTAT.EPOCH d) + 1)).count PWR_FENCE.COUNT 1).setFlag (PWR_DSTAT.DRAINING d) false

/-- A domain is fenced and switched off. -/
def State.fenceOff (s : State) (d : Nat) : State := (s.fence d).setDom d 0

/-- The Sleeve domains that take part switch off as one group at a clock stop, and with them the Sleeve PLL (R63, R249, R756, R758). -/
def State.sleeveOff (s : State) : State :=
  let ds := ((List.range 10).map (fun k => 17 + k)).filter (fun d => s.domIn d)
  let s1 := (ds.foldl (fun t d => t.fenceOff d) s).set SYS_CLKSTAT.SLV_LOCK 0
  { s1 with slv := { s1.slv with stopWas := ds } }

/-- The link is to run at a rate over a set of lanes, bit 8 for L8 (R63, R234): at a change of rate D26 and the lanes that are on are switched
off and on and the Sleeve PLL relocks; else the lanes that leave the set are switched off. Each switch-off is a fence (R758), and a lane
that leaves the set stands in SHADOW (Table SLVW-10). -/
def State.setLanes (s : State) (rate lanes : Nat) : State :=
  let was := s.slv.onLanes
  let off := if rate = s.slv.pllRate then allLanesOf (maskMinus was lanes) else allLanesOf was ++ [9]
  let s1 := ((off.map laneDomain).filter s.domServes).foldl State.fence s
  let s2 := ((allLanesOf (maskMinus was lanes)).filter (fun k => s.domIn (laneDomain k))).foldl
    (fun t k => t.set (PWR_DSTAT.STATE (laneDomain k)) 2) s1
  { s2 with slv := { s2.slv with pllRate := rate, onLanes := lanes } }

/-- The Sleeve domains that a clock stop switched off return straight to IN (R780, Table SLVW-9). -/
def State.sleeveOn (s : State) : State :=
  let back (t : State) (d : Nat) : State :=
    if t.dom d = 0 ∧ t.flag (PWR_DSTAT.CMD_OFF d) = false then t.enterIn d else t
  let s1 := s.slv.stopWas.foldl back s
  let s2 := if s.slv.stopWas = [] then s1 else s1.set SYS_CLKSTAT.SLV_LOCK 1
  { s2 with slv := { s2.slv with stopWas := [] } }

/-- A negotiation starts: NEG_COUNT grows, the settings and the inbound window in force are taken (R314, R405, R424), L0 runs at 1.25 Gbaud
(R224, R234), the first GRT goes out (Table SLVW-3, R230). -/
def State.negotiate (s : State) (reason : Nat) : State :=
  let v : Sleeve := { s.slv with
    reason := reason, negCount := min 255 (s.slv.negCount + 1), firstGrtUs := s.clk, attempt := 0,
    okA := none, okB := none, badLanes := 0, bursts := 0, retrainDue := none, okFirst := false, set := s.linkSet, ackUndo := none }
  let w := clamp 256 4096 (s.get CCH_INBOUND.WINDOW_MIB)
  let s1 := ({ s with slv := v, cache := { s.cache with window := w } }).sleeveOn
  let s2 := s1.setLanes 0 (s1.slv.onLanes ||| 1)
  ((s2.set SLV_STAT.STATE 1).set SLV_STAT.STOP 0).sendGrt

/-- The next rung after a failed attempt k (R239, Table SLVW-8); `none` at the floor. The lanes kept when they are halved
are those R240 names: L0, then the lanes good in both phases, then the lowest others; without both results the lowest half. -/
def nextMode (m : LinkMode) (k : Nat) (good : Option Nat) : Option LinkMode :=
  let ls := lanesOf m.lanes
  let n := ls.length
  let halve : LinkMode :=
    let pref := match good with
      | some g => 0 :: (ls.filter (fun l => l ≠ 0 ∧ g.testBit l)) ++ ls.filter (fun l => l ≠ 0 ∧ ¬ g.testBit l)
      | none => ls
    let half := maskOf (pref.take (n / 2))
    { m with lanes := half, feat := if n / 2 = 1 then m.feat &&& 2 else m.feat }
  if (k % 2 = 1 ∧ 0 < m.rate) ∨ (n ≤ 1 ∧ 0 < m.rate) then some { m with rate := m.rate - 1 }
  else if 1 < n then some halve
  else if m.gusset then some { m with gusset := false }
  else none

/-- Phase A of attempt k on every lane of the mode, its lane domains switched for it (R233 to R235). -/
def State.startAttempt (s : State) : State :=
  let m := s.slv.mode
  let s1 := s.setLanes m.rate m.mask
  ({ s1 with slv := { s1.slv with
      phase := .training, attempt := s1.slv.attempt + 1, tried := m, okA := none, okB := none, badLanes := 0 } }).slvSend [.phaseA m]

/-- The lanes judged good in both phases; one that left service during the attempt is bad (R264). -/
def Sleeve.good (v : Sleeve) : Option Nat :=
  match v.okA, v.okB with
  | some a, some b => some (maskMinus (a &&& b) v.badLanes)
  | _, _ => none

/-- Does the card judge a lane good (R236)? -/
def laneGood (t : LaneTrain) : Bool :=
  t.aligned && (match t.skew with | some k => decide (k ≤ 4) | none => false) && t.errs == 0 && t.bytes == trainingBytes t.lane 4096

/-- The lanes that the card judges good in Phase B, bit 8 for L8. -/
def lanesGood (ts : List LaneTrain) : Nat :=
  ((List.range 9).map (fun k => if ts.any (fun t => t.lane == k && laneGood t) then 2 ^ k else 0)).sum

/-- After a failed attempt: the next mode from the mode that was tried, or the floor (R239, R240, R242, R243). There is no next attempt after the
floor: its verdict names the mode just tried (DESIGN CHOICE, assumption log entry 206). -/
def State.attemptFailed (s : State) (tellHost : Bool) : State :=
  match nextMode s.slv.tried s.slv.attempt s.slv.good with
  | some m =>
    let s1 := if tellHost then s.slvSend [.cnf (cnfPayload 0x13 m 3 s.slv.attempt)] else s
    { s1 with slv := { s1.slv with mode := m, phase := .s0 } }
  | none =>
    let s1 := if tellHost then s.slvSend [.cnf (cnfPayload 0x13 s.slv.tried 3 s.slv.attempt)] else s
    ({ s1 with slv := { s1.slv with phase := .floorFailed } }).notify "sleeve train failed" []

/-! ### Data phase -/

/-- The number of data lanes in force. -/
def State.laneCount (s : State) : Nat := (lanesOf (s.get SLV_STAT.LANES)).length

/-- The mode's values stand in SLV_STAT and the FORCE registers (Tables SLVF-10, SLVF-11). -/
def State.forceMode (s : State) : State :=
  let m := s.slv.mode
  let s1 := (((s.set SLV_STAT.LANES m.lanes).set SLV_STAT.RATE m.rate).setFlag SLV_STAT.GUSSET m.gusset).setFlag
    SLV_STAT.SPLIT (m.feat.testBit 0)
  (((s1.set SLV_FORCE0.TURN_MAX_US m.turnUs).set SLV_FORCE0.TURN_MAX_FRAMES m.turnFrames).set
    SLV_FORCE1.IDLE_HOLD_US m.idleHold).set SLV_FORCE1.MAX_FRAME m.maxFrame

/-- Lanes that a completed negotiation selects are IN; lanes outside the mode are SHADOW and off (Table SLVW-10). -/
def State.lanesIn (s : State) : State :=
  (List.range 9).foldl (fun t k =>
    let sel := if k = 8 then t.slv.mode.gusset else t.slv.mode.lanes.testBit k
    if t.dom (laneDomain k) = 2 ∨ t.dom (laneDomain k) = 3 then t.set (PWR_DSTAT.STATE (laneDomain k)) (if sel then 3 else 2) else t)
    (if s.dom 26 = 2 then s.enterIn 26 else s)

/-- A retrain is due at the card's next turn; one already due keeps the card's reason (R247, R292, R308). -/
def State.retrain (s : State) (reason : Nat) : State :=
  match s.slv.retrainDue with
  | some _ => s
  | none => { s with slv := { s.slv with retrainDue := some reason } }

/-- The rejoin condition of R254 for the lanes now offered. -/
def State.rejoinCond (s : State) (lane : Nat) : Bool :=
  if lane = 8 then s.slv.selGusset && !s.flag SLV_STAT.GUSSET
  else
    decide (s.laneCount < (lanesOf s.slv.selLanes).length) &&
    decide (s.laneCount < roundLanes (lanesOf (s.slv.selLanes &&& (s.offered % 256))).length)

/-- L0 is OFF: every lane is at electrical idle (R256). A link in Sleeve reset stays there and finds L0 OFF when it is released. Table SLVF-10
has no STATE for such a link: STATE and OWNER keep what stood there (DESIGN CHOICE, assumption log entry 204). -/
def State.linkDown (s : State) : State :=
  let p : LinkPhase := if s.slv.phase = .reset then .reset else .down
  (({ s with slv := { s.slv with phase := p } }).slvSend [.idle]).notify "sleeve down" [("reason", "lane0")]

/-- A lane leaves service (Table SLVW-10): it is OFF and not offered, and bad in a training attempt that runs (R264); a lane in use starts a
retrain with REASON 3; without L0 the link is down (R256). -/
def State.laneOut (s : State) (k : Nat) (own : Bool) : State :=
  let inUse := s.dom (laneDomain k) == 3 && s.linkUp
  let s1 := s.fenceOff (laneDomain k)
  let v := s1.slv
  let s2 := { s1 with slv := { v with
    ownLanes := if own then v.ownLanes ++ [k] else v.ownLanes, badLanes := v.badLanes ||| 2 ^ k,
    leftLanes := v.leftLanes ||| 2 ^ k, onLanes := maskMinus v.onLanes (2 ^ k) } }
  if k = 0 then s2.linkDown else if inUse then s2.retrain 3 else s2

/-- Lanes of the mode in force that are not in service: they were switched off in a clock stop, or left during the negotiation
(R247, R254, R264). -/
def State.laneMissing (s : State) : Bool := (allLanesOf s.slv.mode.mask).any (fun k => !s.domIn (laneDomain k))

/-- Lanes that reached SHADOW after the GRT went out and meet the rejoin condition (R254, R265). Lanes that the GRT offered and that this
negotiation dropped by fallback are none of them: the link would otherwise retrain for them without end (DESIGN CHOICE, assumption log entry
198). -/
def State.laneReturned (s : State) : Bool :=
  (List.range 9).any (fun k =>
    s.dom (laneDomain k) == 2 && (!s.slv.offered.testBit k || s.slv.leftLanes.testBit k) && s.rejoinCond k)

/-- The data phase begins or goes on: a lane that is missing, or one that may rejoin, starts a retrain with REASON 3 (R247, R254). -/
def State.laneRetrain (s : State) : State := if s.laneMissing || s.laneReturned then s.retrain 3 else s

/-- The host's first turn begins on a link whose clock was stopped: the data phase goes on (R251, R261). -/
def State.resume (s : State) : State :=
  if s.slv.phase = .stopped ∨ s.slv.phase = .waking then
    let s0 := s.sleeveOn
    (((({ s0 with slv := { s0.slv with phase := .data, bursts := 0 } }).set SLV_STAT.STATE 2).set
      SLV_STAT.STOP 0).set SLV_STAT.OWNER 0).laneRetrain
  else s

/-- D17 to D26 switch off for a clock stop (R249), which arms the L0 squelch detector (`State.squelchArmed`). -/
def State.clockStopped (s : State) : State :=
  let s0 := s.sleeveOff
  ((({ s0 with slv := { s0.slv with phase := .stopped, bursts := 0, ackUndo := none } }).set SLV_STAT.STATE 3).set
    SLV_STAT.STOP 1).set SLV_STAT.OWNER 0

/-- The AON squelch detector on L0 is active while D17 is off and SLV_RST_N is high (R208). -/
def State.squelchArmed (s : State) : Bool := s.dom 17 == 0 && s.boot.sleeveHigh

/-! ### Reception -/

/-! ### Acknowledgement and repeats -/

/-- Is E from the last acknowledged number up to the next unsent number (R284)? -/
def State.ackInRange (s : State) (e : Nat) : Bool :=
  let a := s.get SLV_SEQ.TX_ACKED
  decide ((e + 4096 - a) % 4096 ≤ (s.slv.txNext + 4096 - a) % 4096) && decide (e < 4096)

/-- Every item before E is acknowledged (R283). -/
def State.acked (s : State) (e : Nat) : State :=
  let a := s.get SLV_SEQ.TX_ACKED
  let n := (e + 4096 - a) % 4096
  ({ s with slv := { s.slv with unacked := s.slv.unacked.drop n } }).set SLV_SEQ.TX_ACKED e

/-- The lease m of a card turn (R300, Table SLVF-9): `r` bytes queued to send, `w` write bytes awaited. -/
def State.leaseM (s : State) (r w : Nat) : Nat :=
  let n := s.laneCount
  let mode := s.get SLV_LEASE.MODE
  if !s.flag SLV_STAT.SPLIT || n ≤ 1 || w = 0 || 2 ≤ mode then n
  else if mode = 1 then clamp 1 (n - 1) (s.get SLV_LEASE.FIXED_M)
  else clamp 1 (n - 1) (roundDiv (n * r) (r + w))

/-- Payload bytes of an item. -/
def TxItem.isMgt : TxItem → Bool
  | .mgt _ => true
  | _ => false

/-- Payload bytes of an item. -/
def TxItem.payload : TxItem → Nat
  | .cpl es => 32 * es.length
  | .dat _ _ _ _ bs => bs.length
  | .mgt l => l.length
  | .unp _ _ _ _ _ => 16

/-- Completions cut into CPL frames of at most `per` entries (Table SLVF-3). -/
def cplFrames (per : Nat) : Nat → List Completion → List TxItem
  | 0, _ => []
  | n + 1, cs => if cs = [] then [] else .cpl (cs.take per) :: cplFrames per n (cs.drop per)

/-- The lanes that the card drives in a turn with lease `m` (R294, R295): the first `m` data lanes in force, and L8 where the Gusset lane
is (R302). The counter lanes stay undriven. Where the lanes in force have gaps (R240), L0 to L(m−1) are the first `m` of them (DESIGN CHOICE,
assumption log entry 201). -/
def State.txLanes (s : State) (m : Nat) : List Nat :=
  (lanesOf (s.get SLV_STAT.LANES)).take m ++ (if s.flag SLV_STAT.GUSSET then [8] else [])

/-- The data lanes of a turn's set, and whether L8 goes with them. -/
def SlvOut.lanes (before : List Nat) : SlvOut → List Nat
  | .grt _ => [0]
  | .cnf _ => [0]
  | .phaseA m => allLanesOf m.mask
  | .openTurn _ ls _ _ _ => ls
  | _ => before

/-- The characters of an item on `n` data lanes (R266, R267, R276). -/
def TxItem.times (n : Nat) (g : Bool) (seq : Nat) (x : TxItem) : List (List Chr) :=
  match x with
  | .unp _ _ _ _ _ => codeTime n g .unp :: dataTimes n g (x.bytes seq)
  | _ => frameTimes n g (x.bytes seq)

/-- TURN or STOP, then 4 IDL (Tables SLVW-2, SLVW-7, R248). -/
def endTimes (n : Nat) (g : Bool) (k : KCode) : List (List Chr) := codeTime n g k :: idleTimes 4 n g

/-- The character times that an output occupies on a set of `n` data lanes, L8's character last where it goes with them (R214, R224, R232,
R233, R235, R282, R286, R292). A wake burst is no character (R251). -/
def SlvOut.times (n : Nat) (g : Bool) : SlvOut → List (List Chr)
  | .idle => []
  | .burst => []
  | .grt p => idleTimes 128 n g ++ frameTimes n g (plainFrame 0x08 p) ++ endTimes n g .turn
  | .cnf p => idleTimes 128 n g ++ frameTimes n g (plainFrame 0x0A p) ++ frameTimes n g (plainFrame 0x0A p) ++ endTimes n g .turn
  | .phaseA m =>
    let bs := (allLanesOf m.mask).map (fun k => trainingBytes k 4096)
    idleTimes 1024 n g ++ [codeTime n g .sof] ++ (List.range 4096).map (fun t => bs.map (fun b => Chr.data (b.getD t 0))) ++
      [codeTime n g .eof] ++ endTimes n g .turn
  | .openTurn pre _ e m rep =>
    idleTimes pre n g ++ ctlTimes n g .ack [(ackChars e).1, (ackChars e).2, leaseChar m] ++
      (if rep then ctlTimes n g .rep [(ackChars e).1, (ackChars e).2] else [])
  | .item seq x => x.times n g seq
  | .retrain r => (List.replicate 3 (frameTimes n g (retrainFrame r))).flatten
  | .turn => endTimes n g .turn
  | .stop => endTimes n g .stop

/-- The character times of a series of outputs, each on the lanes of its turn. -/
def outTimes : List Nat → List SlvOut → List (List Chr)
  | _, [] => []
  | before, o :: r =>
    let ls := o.lanes before
    o.times (ls.filter (· ≠ 8)).length (ls.contains 8) ++ outTimes ls r

/-- A DAT frame's bytes in frames of at most `size` (R306). -/
def cutDat (size : Nat) (b : Bool) (tag queue : Nat) : Nat → Nat → Bytes → List TxItem
  | 0, _, _ => []
  | n + 1, off, bs => if bs = [] then [] else .dat b tag queue off (bs.take size) :: cutDat size b tag queue n (off + size) (bs.drop size)

/-- An item in pieces that fit MAX_FRAME in force (R306, Table SLVF-5). -/
def TxItem.cut (size : Nat) (x : TxItem) : List TxItem :=
  if x.payload ≤ size then [x]
  else
    match x with
    | .dat b t q o bs => cutDat size b t q (bs.length + 1) o bs
    | .cpl es => cplFrames (max 1 (size / 32)) (es.length + 1) es
    | _ => [x]

def number (seq : Nat) : List TxItem → List SentItem
  | [] => []
  | x :: r => { seq := seq % 4096, item := x, sends := 1 } :: number (seq + 1) r

/-- A go-back to the first unacknowledged item (R290). Where a negotiation has lowered MAX_FRAME below an item's payload, the item goes again
in pieces that take the next numbers, since the peer has accepted nothing from there on (R306; DESIGN CHOICE, assumption log entry
171). -/
def State.goBackTo (s : State) (n : Nat) : State :=
  let size := max 256 (s.get SLV_FORCE1.MAX_FRAME)
  let v := s.slv
  if v.unacked.all (fun x => decide (x.item.payload ≤ size)) then
    { s with slv := { v with backAt := if v.unacked = [] then none else some n } }
  else
    let ps := (v.unacked.map (fun x => (x.item.cut size).map (fun y => (x.sends, y)))).flatten
    let un := ((number n ((ps.take 1024).map (·.2))).zip (ps.take 1024)).map (fun z => { z.1 with sends := z.2.1 })
    { s with slv := { v with
        unacked := un, newItems := (ps.drop 1024).map (·.2) ++ v.newItems, txNext := (n + un.length) % 4096, backAt := some n } }

/-- The items of a new turn: `room` of them may start. The repeats of a go-back come first, `skip` unacknowledged items after the oldest,
then new items in sequence order, at most 1,024 unacknowledged (R286 to R288, R290). -/
structure TurnPlan where
  skip : Nat
  repeats : List SentItem
  news : List SentItem
  rest : List TxItem
  deriving DecidableEq, Repr

/-- How many unacknowledged items, the oldest first, no go-back is to send again (R290). -/
def State.backSkip (s : State) : Nat :=
  match s.slv.backAt, s.slv.unacked.head? with
  | some b, some x => (b + 4096 - x.seq) % 4096
  | some b, none => b
  | none, _ => s.slv.unacked.length

def State.planTurn (s : State) (room : Nat) : TurnPlan :=
  let skip := s.backSkip
  let back := s.slv.unacked.drop skip
  let rep := (back.take room).map (fun x => { x with sends := x.sends + 1 })
  let free := if rep.length = back.length then min (room - rep.length) (1024 - s.slv.unacked.length) else 0
  { skip := skip, repeats := rep, news := number s.slv.txNext (s.slv.newItems.take free), rest := s.slv.newItems.drop free }

/-- The unacknowledged items after a turn, and where its go-back stands: the next item to send again when the turn had no room for all
(R287, R290). -/
def State.afterPlan (s : State) (p : TurnPlan) (news : List SentItem) : List SentItem × Option Nat :=
  let left := s.slv.unacked.drop (p.skip + p.repeats.length)
  (s.slv.unacked.take p.skip ++ p.repeats ++ left ++ news, left.head?.map (·.seq))

/-- Would the turn send an item for the ninth time (R291)? -/
def TurnPlan.ninth (p : TurnPlan) : Bool := p.repeats.any (fun x => decide (8 < x.sends))

/-- Bytes queued to send (R300): items not yet sent, those that a go-back is still to send, completions that wait for their CPL frame. R300
does not say whether the bytes of an item are its payload or all of it: they are its payload, the 16 bytes of an unpick marker's
body (DESIGN CHOICE, assumption log entry 200). -/
def State.queuedBytes (s : State) : Nat :=
  (s.slv.newItems.map TxItem.payload).sum + ((s.slv.unacked.drop s.backSkip).map (fun x => x.item.payload)).sum + 32 * (s.slv.posted.length + s.refusals.length)

/-- Write data bytes the card awaits for accepted WRITEs (R300). -/
def State.awaitedBytes (s : State) : Nat :=
  let need (c : Cmd) : Nat := if c.opcode = 2 then 4096 * c.count - c.received else 0
  (s.queues.map (fun q => (q.2.waiting.map need).sum)).sum + (s.execs.map (fun x => need x.cmd)).sum

/-- The lease of the card turn that begins now (R300). -/
def State.leaseNow (s : State) : Nat := s.leaseM s.queuedBytes s.awaitedBytes

/-- The opening of a card turn with lease `m`: preamble and ACK, and a due REP, on the lanes of its lease (R285, R286, R295). -/
def State.opening (s : State) (m : Nat) (rep : Bool) : SlvOut := .openTurn s.slv.mode.preOut (s.txLanes m) s.rxE m rep

end Sys2Proof.Machine
end

