-- ==== Sys2Proof/Machine/HtgOps.lean ====
section
/-!
DEFINITION. Sys2Proof/Machine/HtgOps.lean: the Hangtag's adds, spills, minute closes and bucket rings (chapter 17).
-/
namespace Sys2Proof.Machine
open Sys2Proof

/-- A meter at zero. -/
def Meter.zero : Meter := { acc := 0, tot := 0, spill := 0 }

/-- The open minute of a Pocket that has just been created, or after power-on (R922). -/
def OpenMin.fresh : OpenMin :=
  { meters := List.replicate 8 Meter.zero, carryE := 0, carryC := 0, samples := 0, stamp := none, first := true, damaged := 0 }

/-- A Pocket's open minute. -/
def Htg.minute (h : Htg) (p : Nat) : OpenMin := (h.minutes.lookup p).getD OpenMin.fresh

/-- A 64-bit total of meter `k`: CMDS, which counts events, stops at its largest value (R1169); the others are sums modulo 2^64. -/
def meterTotal (k x : Nat) : Nat := if k = 2 then min (2 ^ 64 - 1) x else x % 2 ^ 64

/-- An add of `x` to meter `k` (R916); the spill count saturates. -/
def Meter.add (m : Meter) (k x : Nat) : Meter :=
  if m.acc + x < 2 ^ 40 then { m with acc := m.acc + x }
  else { acc := x, tot := meterTotal k (m.tot + m.acc), spill := min 0xFFFF (m.spill + 1) }

/-- The totals of an open minute so far (R917, R933). -/
def OpenMin.totals (o : OpenMin) : List Nat := o.meters.mapIdx (fun k m => meterTotal k (m.tot + m.acc))

/-- Does the add spill? -/
def Meter.spills (m : Meter) (x : Nat) : Bool := decide (2 ^ 40 ≤ m.acc + x)

/-- Is the Pocket one that has meters: P000, or not FREE (R906)? -/
def State.metered (s : State) (p : Nat) : Bool := p == 0 || (s.pockets.lookup p).isSome

/-- Meter `k` of Pocket `p` grows by `x` (R916); after a removal trigger nothing is added (R925). -/
def State.meter (s : State) (p k x : Nat) : State :=
  if !s.metered p || s.removing || x = 0 then s
  else
    let o := s.htg.minute p
    let m := o.meters.getD k Meter.zero
    let s1 := { s with htg := { s.htg with minutes := upsert p { o with meters := o.meters.set k (m.add k x) } s.htg.minutes } }
    if m.spills x then s1.count HTG_SPILL.COUNT 1 else s1

/-- The exported value and the new carry of ENERGY_UJ and CACHE_BYTE_MIN (R921). -/
def exportScaled (t mul div carry : Nat) : Nat × Nat := ((t * mul + carry) / div, (t * mul + carry) % div)

/-- A bucket's flags (Table HTG-2). -/
structure BucketFlags where
  final : Bool
  removal : Bool
  local_ : Bool
  deriving DecidableEq, Repr

def bit (b : Bool) (k : Nat) : Nat := if b then 2 ^ k else 0

/-- The 128-byte record of Table HTG-2. -/
def State.bucketBytes (s : State) (p minute span : Nat) (gap : Bool) (f : BucketFlags) (o : OpenMin) (vals : List Nat) : Bytes :=
  let flags := bit (s.flag HTG_STAT.UNSYNC) 0 + bit f.final 1 + bit f.removal 2 +
    bit (match s.twin.pairing with | some x => !x.primary | none => false) 3 + bit f.local_ 4 + bit o.first 5 + bit gap 6
  let slot := if s.flag SYS_STRAP.SLOT_VALID then s.get SYS_STRAP.SLOT_ID else 0xFF
  let gen := match s.pockets.lookup p with | some k => k.gen | none => 0
  let body := [1] ++ leBytes 1 p ++ leBytes 1 slot ++ leBytes 1 flags ++ leBytes 4 minute ++ leBytes 2 span ++
    leBytes 1 o.damaged ++ [0] ++ leBytes 4 gen ++ leBytes 4 (s.get SYS_SERIAL.SERIAL) ++ leBytes 4 0 ++
    (vals.map (leBytes 8)).flatten ++ (o.meters.map (fun m => leBytes 2 m.spill)).flatten ++ leBytes 4 o.samples ++
    List.replicate 16 0
  body ++ leBytes 4 (crc32c body)

/-- A bucket joins its Pocket's ring of 16; a bucket taken before it was COLLECTED is lost (R928). -/
def State.pushBucket (s : State) (p minute : Nat) (b : Bucket) : State :=
  let ring := (s.htg.rings.lookup p).getD []
  let s1 := { s with htg := { s.htg with rings := upsert p ((b :: ring).take 16) s.htg.rings } }
  match ring[15]? with
  | none => s1
  | some o =>
    if o.state = 3 then s1
    else
      let s2 := s1.count HTG_LOST.COUNT 1
      if s2.htg.lostNoted = some minute then s2
      else ({ s2 with htg := { s2.htg with lostNoted := some minute } }).notify "meter lost"
        [("pocket", pocketId p), ("minute", dec (leNat ((o.bytes.drop 4).take 4)))]

/-- The open minute of Pocket `p` closes into a bucket with stamp `stamp` (R917 to R923); a minute with no close before it has span 1, and a
stamp below the last one span 0 (assumption log entry 195). -/
def State.closeMinute (s : State) (p stamp : Nat) (f : BucketFlags) : State :=
  let o := s.htg.minute p
  let tot := o.totals
  let (e, ce) := exportScaled (tot.getD 4 0) 1 1000 o.carryE
  let (c, cc) := exportScaled (tot.getD 6 0) 4096 600000 o.carryC
  let vals := (tot.set 4 e).set 6 c
  let span := match o.stamp with | some x => stamp - x | none => 1
  let rec_ := s.bucketBytes p stamp span (decide (1 < span)) f o vals
  let n : OpenMin :=
    { meters := List.replicate 8 Meter.zero, carryE := ce, carryC := cc, samples := 0, stamp := some stamp,
      first := false, damaged := 0 }
  ({ s with htg := { s.htg with minutes := upsert p n s.htg.minutes } }).pushBucket p stamp
    { bytes := rec_, state := 1, sentUs := 0 }

/-- The Pockets that receive a bucket at a close: P000 and every Pocket that is not FREE (R922). -/
def State.meteredPockets (s : State) : List Nat := s.pockets.map (·.1)

/-- The TACK accumulator joins P000's energy (R914). -/
def State.tackJoins (s : State) : State := ({ s with htg := { s.htg with tack := 0 } }).meter 0 4 s.htg.tack

/-- Every open minute closes with stamp `m − 1` (R918, R919); the TACK accumulator joins P000 first (R914, R935). A close at
or below the last stamp does not happen (R919), and after a removal trigger none does (R925). -/
def State.closeAll (s : State) (m : Nat) (byTick : Bool) : State :=
  let s0 := s.tackJoins
  let ok (p : Nat) : Bool := match (s0.htg.minute p).stamp with | some x => decide (x < m - 1) | none => true
  if s.removing || !s.meteredPockets.any ok then s
  else
    let s1 := s0.meteredPockets.foldl (fun t p =>
      if ok p then t.closeMinute p (m - 1) { final := false, removal := false, local_ := !byTick } else t) s0
    (s1.setFlag HTG_STAT.LOCAL (!byTick)).set HTG_STAT.SAMPLES 0

/-- Pockets' closes at a removal trigger (R914, R925), made without a TICK (Table HTG-2). -/
def State.closeRemoval (s : State) : State :=
  let s1 := s.meteredPockets.foldl (fun t p =>
    t.closeMinute p (t.get HTG_MINUTE.MINUTE) { final := false, removal := true, local_ := true }) s.tackJoins
  (s1.setFlag HTG_STAT.LOCAL true).set HTG_STAT.SAMPLES 0

/-- A Pocket's last close, in its deletion (R923), made without a TICK (Table HTG-2). -/
def State.closeFinal (s : State) (p : Nat) : State :=
  (s.closeMinute p (s.get HTG_MINUTE.MINUTE) { final := true, removal := false, local_ := true }).setFlag HTG_STAT.LOCAL true

end Sys2Proof.Machine
end

