-- ==== Sys2Proof/Machine/TagOps.lean ====
section
/-!
DEFINITION. Sys2Proof/Machine/TagOps.lean: the carve-outs of DRAM, the places of cache entries and of inbound data in DRAM or in the staging
data buffers, and the colours that those places carry (R94, R99, R393, R404, R549, R555, R677 to R679, R686).
-/
namespace Sys2Proof.Machine
open Sys2Proof

/-- The card serves data commands through staging SRAM (R94). -/
def State.staging (s : State) : Bool := s.flag SYS_BOOTSTAT.STAGING

/-- Are both channels populated (R543, R549)? -/
def State.bothChannels (s : State) : Bool := s.get (DRC_CFG.POP 1) != 0

/-- The channel and channel address of a card DRAM address (R549). -/
def State.chanOf (s : State) (a : Nat) : Nat × Nat :=
  if s.bothChannels then (a / 4096 % 2, a / 8192 * 4096 + a % 4096) else (0, a)

/-- The card DRAM address of a channel address (R549). -/
def State.cardAddr (s : State) (n c : Nat) : Nat :=
  if s.bothChannels then c / 4096 * 8192 + n * 4096 + c % 4096 else c

/-- The domain whose SRAM holds an address outside register space: a core's TCM, or staging SRAM (Tables MAP-1, BOOT-5). -/
def sramDomain (a : Nat) : Option Nat :=
  if a / 0x40000 = 0x400 then some 49
  else if a / 0x40000 = 0x440 then some 50
  else if a / 0x400000 = 0x80 then some 43
  else none

/-! ### Places -/

/-- The carve-out of a name, as the ROM placed it. -/
def State.carveOf (s : State) (name : String) : Option Carve := s.dram.carve.find? (fun c => c.name == name)

/-- Does a card address lie in a carve-out of a name? -/
def State.inCarve (s : State) (name : String) (a : Nat) : Bool :=
  match s.carveOf name with
  | some c => decide (c.base ≤ a ∧ a < c.base + c.size)
  | none => false

/-- The 4 KiB places of a carve-out. -/
def State.carveUnits (s : State) (name : String) : Nat :=
  match s.carveOf name with
  | some c => c.size / 4096
  | none => 0

/-- The place that a card address lies in, among those of the cache and of the inbound area. -/
def State.spotOf (s : State) (a : Nat) : Spot :=
  match s.carveOf "cache", s.carveOf "inbound" with
  | some c, some i =>
    if c.base ≤ a ∧ a < c.base + c.size then .entry ((a - c.base) / 4096)
    else if i.base ≤ a ∧ a < i.base + i.size then .inbound ((a - i.base) / 4096)
    else .nowhere
  | _, _ => .nowhere

/-- Is a place a staging data buffer? -/
def Spot.isBuffer : Spot → Bool
  | .buffer _ => true
  | _ => false

/-- The places in use: of cache entries, of inbound data that waits, and of blocks of commands in execution. -/
def State.spots (s : State) : List Spot :=
  s.cache.entries.map (fun e => e.place) ++ (s.queues.map (fun k => (k.2.waiting.map (fun c => c.units)).flatten)).flatten ++
    (s.execs.map (fun x => x.blks.map (fun b => b.place))).flatten

/-- The first free place of a kind, of `n`. -/
def freeSpot (mk : Nat → Spot) (used : List Spot) (n : Nat) : Spot :=
  match (List.range (min n (used.length + 1))).find? (fun k => !used.contains (mk k)) with
  | some k => mk k
  | none => .nowhere

/-- The place of a new cache entry: a data buffer on the staging path (R94), else an entry of the cache (R393). -/
def State.entrySpot (s : State) : Spot :=
  if s.staging then freeSpot .buffer s.spots 512 else freeSpot .entry s.spots (s.carveUnits "cache")

/-- Places for so many more units of inbound data, beside those in use (R94, R404). What finds no free data buffer on the staging path waits to be
taken in pieces (R97). -/
def State.inboundSpots (s : State) : Nat → List Spot → List Spot
  | 0, _ => []
  | n + 1, used =>
    let x := if s.staging then freeSpot .buffer used 512 else freeSpot .inbound used (s.carveUnits "inbound")
    x :: s.inboundSpots n (x :: used)

/-- Inbound data of a waiting command has its place (R404). -/
def State.spread (s : State) (c : Cmd) : Cmd :=
  { c with units := c.units ++ s.inboundSpots ((c.bytes.length + 4095) / 4096 - c.units.length) (c.units ++ s.spots) }

/-! ### What a place holds -/

/-- What a place holds: whose it is (Pocket, and as Table DRC-6 names it), its bytes, and a stamp that no other holding has. -/
structure Holding where
  pocket : Nat
  owner : Owner
  bytes : Bytes
  stamp : Nat

/-- What a command's inbound data holds of a place. -/
def holdingOf (p q : Nat) (c : Cmd) (x : Spot) : Option Holding :=
  if c.units.contains x then
    some { pocket := p, owner := .command q c.tag, bytes := (c.bytes.drop (4096 * c.units.idxOf x)).take 4096, stamp := 2 * c.ref + 2 }
  else none

/-- What a block of a command in execution holds of a place. -/
def Exec.holdingOf (x : Exec) (y : Spot) : Option Holding :=
  (x.blks.find? (fun b => b.place == y)).map (fun b =>
    { pocket := x.pocket, owner := .command x.queue x.cmd.tag, bytes := if b.data = [] then b.plain else b.data, stamp := 2 * x.cmd.ref + 2 })

/-- What a place holds: a cache entry, inbound data of a waiting command, or a block of a command in execution. -/
def State.holding (s : State) (x : Spot) : Option Holding :=
  if x = .nowhere then none
  else
    match s.cache.entries.find? (fun e => e.place == x) with
    | some e => some { pocket := e.pocket, owner := .entry e.pocket e.lba, bytes := e.data, stamp := 2 * e.filled + 1 }
    | none =>
      match (s.queues.filterMap (fun k => (k.2.waiting.filterMap (fun c => holdingOf k.2.pocket k.1 c x)).head?)).head? with
      | some h => some h
      | none => s.execs.findSome? (fun y => y.holdingOf x)

/-- The colour of a place: the Pocket that owns what it holds, else 0x00 (Table ACC-5, R679, R686). -/
def State.spotColour (s : State) (x : Spot) : Nat :=
  match s.holding x with
  | some h => h.pocket
  | none => 0

/-- The colour of a staging granule: a data buffer has its holder's, rings and map cache have 0x00 (R99, R686, Table BOOT-5). -/
def State.granuleColour (s : State) (g : Nat) : Nat := if 384 ≤ g ∧ g < 896 then s.spotColour (.buffer (g - 384)) else 0

/-- The Pocket that a requester acts for, which is the colour its access carries (Table ACC-6). -/
def State.colourOf (s : State) (o : Owner) : Nat :=
  match o with
  | .command q _ => (match s.queues.lookup q with | some k => k.pocket | none => 0)
  | .flush p _ => p
  | .fill p _ => p
  | .entry p _ => p
  | _ => 0

end Sys2Proof.Machine
end

