-- ==== Sys2Proof/Machine/FlashOps.lean ====
section
/-!
DEFINITION. Sys2Proof/Machine/FlashOps.lean: page addresses, Bolts and rows, codeword metadata, the map and its segments,
strength, and pages on their way to flash (chapters 08 and 09).
-/
namespace Sys2Proof.Machine
open Sys2Proof

/-! ### Small tools -/

/-- Ceiling of a quotient. -/
def ceilDiv (a b : Nat) : Nat := (a + b - 1) / b

/-! ### Page addresses (Table FLS-6) -/

def ppaCh (a : Nat) : Nat := a / 2 ^ 30 % 64
def ppaPos (a : Nat) : Nat := a / 2 ^ 26 % 16
def ppaPlane (a : Nat) : Nat := a / 2 ^ 24 % 4
def ppaBlock (a : Nat) : Nat := a / 2 ^ 12 % 4096
def ppaPage (a : Nat) : Nat := a % 4096

/-- The page address of channel, position 4e + l, plane, block and page. -/
def mkPpa (ch pos plane block page : Nat) : Nat := (((ch * 16 + pos) * 4 + plane) * 4096 + block) * 4096 + page

/-- VALID and the page address of a map entry. -/
def entryValid (e : Nat) : Nat := e / 2 ^ 36 % 16
def entryPpa (e : Nat) : Nat := e % 2 ^ 36

/-- A map entry; without a VALID bit it is unmapped and all zero (R448). -/
def mkEntry (valid ppa : Nat) : Nat := if valid % 16 = 0 then 0 else valid % 16 * 2 ^ 36 + ppa % 2 ^ 36

/-- The domain of channel c's ECC pool (R425). -/
def poolDomain (ch : Nat) : Nat := 45 + ch / 16

/-! ### Codewords (Table FLS-4) -/

/-- The 64 metadata bytes. -/
def metaBytes (format pocket lba wseq : Nat) (check : Option Check) (boltSeq : Nat) : Bytes :=
  leBytes 1 format ++ leBytes 1 pocket ++ leBytes 6 lba ++ leBytes 8 wseq ++
  (match check with
   | some c => padTo 16 c.tag ++ leBytes 8 c.count ++ [1]
   | none => List.replicate 25 0) ++ List.replicate 7 0 ++ leBytes 8 boltSeq ++ List.replicate 8 0

def cwData (w : Bytes) : Bytes := w.take 4096
def cwMeta (w : Bytes) : Bytes := w.drop 4096
def cwFormat (w : Bytes) : Nat := ((cwMeta w).getD 0 0).toNat
def cwPocket (w : Bytes) : Nat := ((cwMeta w).getD 1 0).toNat
def cwLba (w : Bytes) : Nat := leNat (((cwMeta w).drop 2).take 6)
def cwWseq (w : Bytes) : Nat := leNat (((cwMeta w).drop 8).take 8)
def cwBoltSeq (w : Bytes) : Nat := leNat (((cwMeta w).drop 48).take 8)
def cwCheck (w : Bytes) : Option Check :=
  if ((cwMeta w).getD 40 0).getLsbD 0 then
    some { tag := ((cwMeta w).drop 16).take 16, count := leNat (((cwMeta w).drop 32).take 8) }
  else none

/-- A block of zeros (R449). -/
def zeroBlock : Bytes := List.replicate 4096 0

/-- A codeword with another BOLT_SEQ: what a copy into another Bolt carries (R466, R496). -/
def cwRebolt (w : Bytes) (seq : Nat) : Bytes := w.take 4144 ++ leBytes 8 seq ++ w.drop 4152

/-- 16,640 bytes of data and metadata cut into four codewords in page order (R488). -/
def cutPage (b : Bytes) : Page := (List.range 4).map (fun j => padTo 4160 ((b.drop (4160 * j)).take 4160))

/-- A card-internal page of 16,384 data bytes, whose codewords carry FORMAT and BOLT_SEQ (R445, R488). -/
def plainPage (format boltSeq : Nat) (b : Bytes) : Page :=
  (List.range 4).map (fun j => padTo 4096 ((b.drop (4096 * j)).take 4096) ++ metaBytes format 0 0 0 none boltSeq)

/-- The XOR of pages over data and metadata bytes (R442, R501). -/
def xorPages (ps : List Page) : Page :=
  (List.range 4).map (fun j => ps.foldl (fun acc p => xorBytes acc (padTo 4160 (p.getD j []))) (List.replicate 4160 0))

/-- A codeword with another FORMAT. -/
def cwReformat (w : Bytes) (format : Nat) : Bytes := w.set 4096 (BitVec.ofNat 8 format)

/-- The parity page of a row's data pages (R442). -/
def parityPage (ps : List Page) : Page := (xorPages ps).map (fun w => cwReformat w 5)

/-- A data page of host blocks rebuilt from the other pages of its row. Its FORMAT byte does not follow from theirs, for the parity page carries its own: a
codeword without data is poison, any other a host block (DEDUCED, assumption log entry 20). -/
def rebuiltPage (ps : List Page) : Page :=
  (xorPages ps).map (fun w => cwReformat w (if (cwData w).all (fun b => b == 0) then 7 else 1))

/-- The highest WSEQ that a page's host blocks carry (R445). -/
def pageWseq (pg : Page) : Nat := ((pg.filter (fun w => cwFormat w == 1 || cwFormat w == 7)).map cwWseq).foldl max 0

/-! ### Dies and blocks -/

def State.die (s : State) (ch pos : Nat) : Option Die := s.flash.dies.find? (fun d => d.ch == ch && d.pos == pos)

/-- Blocks 0 to 15 of LUN (c, 0, 0) on C00, C16, C32 and C48 belong to no Bolt (R462). -/
def bootBlock (ch pos block : Nat) : Bool := ch % 16 == 0 && pos == 0 && decide (block < 16)

/-- A drain of the domain is in progress (R772). -/
def State.draining (s : State) (d : Nat) : Bool := s.flag (PWR_DSTAT.DRAINING d)

/-- New work may go to a channel's quad and pool: neither drains (R772). -/
def State.takesWork (s : State) (ch : Nat) : Bool := !s.draining (quadDomain ch) && !s.draining (poolDomain ch)

/-- Does position (ch, group) hold a good block i (R438)? `inQuad`: its quad must also be ready for new Bolts, and its pool
in service (R783). -/
def State.position (s : State) (g i ch : Nat) (inQuad : Bool) : Bool :=
  match s.die ch g with
  | none => false
  | some d => !d.excluded && decide (i < d.blocks) && !s.flash.retired.contains (lunBlock ch g i) && !bootBlock ch g i &&
      (!inQuad || ((s.dom (quadDomain ch) == 3 || s.dom (quadDomain ch) == 2) && s.dom (poolDomain ch) == 3 && s.takesWork ch))

def State.positions (s : State) (g i : Nat) (inQuad : Bool) : List Nat :=
  (List.range 64).filter (fun c => s.position g i c inQuad)

def State.bolt (s : State) (g i : Nat) : Option Bolt := s.flash.bolts.find? (fun b => b.group == g && b.idx == i)

/-- The Bolt a page lies in. -/
def State.boltAt (s : State) (ppa : Nat) : Option Bolt := s.bolt (ppaPos ppa) (ppaBlock ppa)

/-- Is Bolt (g, i) FREE: usable, and in none of the other states? -/
def State.boltFree (s : State) (g i : Nat) : Bool := (s.bolt g i).isNone && decide (16 ≤ (s.positions g i false).length)

/-- The most blocks any LUN of a group has. -/
def State.groupBlocks (s : State) (g : Nat) : Nat :=
  ((s.flash.dies.filter (fun d => d.pos == g)).map (fun d => d.blocks)).foldl max 0

def State.freeBolts (s : State) : Nat :=
  ((List.range 16).map (fun g => ((List.range (s.groupBlocks g)).filter (fun i => s.boltFree g i)).length)).sum

/-- The OPEN Bolts of a use that take new work (R772). -/
def State.openBolts (s : State) (u : BoltUse) : List Bolt :=
  s.flash.bolts.filter (fun b => b.state == .opened && b.use == u && b.present.all s.takesWork)

def State.setBolt (s : State) (b : Bolt) : State :=
  { s with flash := { s.flash with bolts := s.flash.bolts.map (fun x => if x.group = b.group ∧ x.idx = b.idx then b else x) } }

/-- The parity channel (R440), and the data channels in rank order. -/
def Bolt.parityCh (b : Bolt) : Nat := b.present.getD (b.idx % b.present.length) 0
def Bolt.dataChs (b : Bolt) : List Nat := b.present.filter (fun c => c ≠ b.parityCh)

/-- Data positions in a row. -/
def Bolt.width (b : Bolt) : Nat := b.present.length - 1

/-- The page of row `w` on a channel (R439). -/
def Bolt.rowPpa (b : Bolt) (w ch : Nat) : Nat := mkPpa ch b.group (w % b.planes) b.idx (w / b.planes)

/-- The row of a page of the Bolt. -/
def Bolt.rowOf (b : Bolt) (ppa : Nat) : Nat := ppaPlane ppa + b.planes * ppaPage ppa

/-- The page of Stitch k (R441). -/
def Bolt.stitchPpa (b : Bolt) (k : Nat) : Nat := b.rowPpa (k / b.width) (b.dataChs.getD (k % b.width) 0)

/-- Is there a place for one more Stitch? -/
def Bolt.room (b : Bolt) : Bool := b.state == .opened && !b.closing && decide (b.next < b.rows * b.width)

/-! ### Strength (R490 to R492) -/

/-- The least t, a multiple of 8 and at least 16, that covers `ppb` with `growth` eighths and `z` standard deviations (R490). -/
def strengthFor (ppb growth z : Nat) : Nat :=
  let n := ppb * growth * 35840
  let d := 8000000000
  let ok (t : Nat) : Bool :=
    decide (n ≤ (t - 8) * d) && decide (z * z * n * d ≤ ((t - 8) * d - n) * ((t - 8) * d - n))
  match (List.range 3000).find? (fun k => ok (16 + 8 * k)) with
  | some k => 16 + 8 * k
  | none => 24000

/-- A strength as a register gives it: 16 to 160, a multiple of 8, other values act as the nearest (Table SDP-4). -/
def strengthField (n : Nat) : Nat := clamp 16 160 n / 8 * 8

/-- t for the next Bolt of group g before R491's limits: a group that has a measured rate, be it 0, takes R490's formula. -/
def State.strengthNeed (s : State) (g : Nat) : Nat :=
  let fixed := s.get ECC_STR.FIXED_T
  if fixed ≠ 0 then strengthField fixed
  else if (s.flash.lapRate.lookup g).isNone then strengthField (s.get ECC_STR.T_INIT)
  else strengthFor (s.get (ECC_GRBER.PPB g)) (clamp 8 255 (s.get ECC_STR.GROWTH)) (clamp 2 12 (s.get ECC_STR.Z))

/-- The least t_die over some channels of a group (Table FLS-3). -/
def State.leastTDie (s : State) (g : Nat) (chs : List Nat) : Nat :=
  (chs.map (fun c => match s.die c g with | some d => d.tmax | none => 160)).foldl min 160

/-- TNEXT of a group. -/
def State.setTNext (s : State) (g : Nat) : State :=
  let chs := (s.flash.dies.filter (fun d => d.pos == g && !d.excluded)).map (fun d => d.ch)
  s.set (ECC_GRBER.TNEXT g) (min (s.strengthNeed g) (s.leastTDie g chs))

/-! ### The map (R448 to R457) -/

/-- The key of a Stitch's entry. -/
def mapKey (p st : Nat) : Nat := p * 2 ^ 34 + st

def State.entry (s : State) (p st : Nat) : Nat := (s.flash.map.lookup (mapKey p st)).getD 0

/-- A map entry replaced; unmapped entries are not listed. -/
def State.setEntry (s : State) (p st e : Nat) : State :=
  let k := mapKey p st
  let m := if e = 0 then s.flash.map.filter (fun x => x.1 ≠ k) else putSorted k e s.flash.map
  { s with flash := { s.flash with map := m } }

/-- Mapped Stitches of a Pocket (USED, R316). -/
def State.mapped (s : State) (p : Nat) : List (Nat × Nat) := s.flash.map.filter (fun x => x.1 / 2 ^ 34 == p)

/-- The index entry of a Stitch's segment (R453, R455). -/
def State.segOf (s : State) (p st : Nat) : Nat := s.get (MAP_PBASE.BASE p) + st / 13056

def State.seg (s : State) (e : Nat) : Option Seg := s.flash.segs.lookup e

/-- A segment never written is held as soon as it is touched. -/
def Seg.fresh : Seg := { resident := true, dirty := false, slot := 0, row := 0, quartet := 0, reading := false, rebuilding := false, wseqs := [0, 0, 0, 0] }

def State.setSeg (s : State) (e : Nat) (g : Seg) : State :=
  { s with flash := { s.flash with segs := putSorted e g s.flash.segs } }

/-- Is a segment still under replay (R90)? -/
def State.replaying (s : State) (g : Seg) : Bool := !g.resident && g.dirty && s.flag SYS_BOOTSTAT.REPLAY

/-- Must the command wait for the segment: for its map row, for its replay, or for a lost copy that is made again (R90, R456, R511)? -/
def State.segAbsent (s : State) (e : Nat) : Bool :=
  match s.seg e with
  | some g => (!g.resident && decide (g.slot ≠ 0)) || g.rebuilding || s.replaying g
  | none => false

/-- The segments whose held copy has changes that flash has not: one under replay is not held yet (Table FLS-8). -/
def State.dirtySegs (s : State) : Nat := (s.flash.segs.filter (fun x => x.2.dirty && !s.replaying x.2)).length

/-- EFF_CAP (R457). -/
def State.effCap (s : State) : Nat :=
  let cap := clamp 16 2048 (s.get MAP_CFG.DIRTY_CAP)
  if s.flash.fit = 0 then cap else min cap s.flash.fit

/-- MAP_CKPT.EFF_CAP: its reset value until the mapping engine is in service (Table FLS-14). -/
def State.effCapShown (s : State) : Nat := if s.domIn 43 then s.effCap else 0

/-- Segments that the 512 KiB SRAM map cache holds (Table BOOT-5, R453). -/
def mapCacheSegs : Nat := 8

/-- Segments that may be DIRTY at once: EFF_CAP, and while staging no more than the SRAM map cache holds (assumption log entry 175). -/
def State.dirtyRoom (s : State) : Nat := if s.flag SYS_BOOTSTAT.STAGING then min s.effCap mapCacheSegs else s.effCap

/-- Does the cap allow a change of this segment now (R457)? -/
def State.capAllows (s : State) (e : Nat) : Bool :=
  match s.seg e with
  | some g => g.dirty || decide (s.dirtySegs < s.dirtyRoom)
  | none => decide (s.dirtySegs < s.dirtyRoom)

/-- May a map change in this segment be made now: it is held, or was never written, and the cap allows (R90, R456, R457)? -/
def State.mayChange (s : State) (e : Nat) : Bool := !s.segAbsent e && s.capAllows e

/-- The four pages of a segment's entries: which of them holds a Stitch's entry (R453). -/
def segPage (st : Nat) : Nat := st % 13056 / 3264

/-- A 5-byte map entry string, a map page (R453, Table FLS-7). -/
def State.mapPage (s : State) (p n i wseq : Nat) : Bytes :=
  let head := leBytes 1 0x02 ++ leBytes 1 p ++ leBytes 4 n ++ leBytes 1 i ++ [0] ++ leBytes 8 wseq ++ List.replicate 44 0
  let ents := ((List.range 3264).map (fun k => leBytes 5 (s.entry p (13056 * n + 3264 * i + k)))).flatten
  head ++ leBytes 4 (crc32c (head ++ ents)) ++ ents

/-- An index entry's word (Table FLS-8). -/
def State.indexWord (s : State) (e : Nat) : Nat :=
  match s.seg e with
  | none => 0
  | some g => bit g.resident 31 + bit (g.dirty && !s.replaying g) 30 + g.slot * 2 ^ 18 + g.row * 2 ^ 4 + g.quartet

/-- A page of the index as flash holds it, RESIDENT and DIRTY clear (R458). -/
def State.indexPage (s : State) (n : Nat) : Bytes :=
  ((List.range 4096).map (fun k => leBytes 4 (s.indexWord (4096 * n + k) % 2 ^ 30))).flatten

/-- A delta record's 32 bytes (R459). -/
def Delta.bytes (d : Delta) : Bytes :=
  leBytes 1 d.pocket ++ [1] ++ leBytes 6 d.lba ++ leBytes 4 d.count ++ leBytes 8 d.wseq ++ List.replicate 12 0

/-! ### Pages on their way to flash -/

def State.page (s : State) (ppa : Nat) : Option Page := s.flash.pages.lookup ppa

/-- A codeword as flash holds it; `none` where nothing is programmed (ERASED, R497). -/
def State.codeword (s : State) (ppa j : Nat) : Option Bytes := (s.page ppa).bind (fun p => p[j]?)

/-- A page's codewords are encoded for its program: an injection armed for the channel's pool acts on the first of them, where it may (R528, R529; which bits
are the lowest, assumption log entry 179). -/
def State.encodePage (s : State) (ppa : Nat) : State :=
  if s.flag ECC_INJ.ARM = true ∧ s.get ECC_INJ.TARGET = 3 ∧ s.injDomain = poolDomain (ppaCh ppa) then
    (if s.injMay then { s with flash := { s.flash with flips := putSorted ppa s.injFlips s.flash.flips } } else s).set ECC_INJ.ARM 0
  else s

/-- Bytes of a page that cross its channel for no Pocket: pad, parity and delta pages (R907, R911). -/
def ProgKind.ownBytes : ProgKind → Nat
  | .stitch .. => 0
  | _ => 16384

def State.addProg (s : State) (p : Prog) : State :=
  (({ s with flash := { s.flash with progs := s.flash.progs ++ [p] } }).encodePage p.ppa).cross 0 p.kind.ownBytes

/-- The pages of a row so far: programmed, or in flight. -/
def State.rowPages (s : State) (b : Bolt) (w : Nat) : List Page :=
  b.dataChs.filterMap (fun c =>
    let a := b.rowPpa w c
    match s.page a with
    | some p => some p
    | none => (s.flash.progs.find? (fun q => q.ppa == a)).map (fun q => q.page))

/-- The parity page of a row goes on its way (R442, R444). -/
def State.addParity (s : State) (b : Bolt) (w : Nat) : State :=
  let body := parityPage (s.rowPages b w)
  s.addProg { ppa := b.rowPpa w b.parityCh, group := b.group, idx := b.idx, row := w, kind := .parity, page := body }

/-- A page takes the Bolt's next Stitch place; a row that is then full gets its parity page (R441, R444). -/
def State.place (s : State) (b : Bolt) (kind : ProgKind) (page : Page) : State :=
  let w := b.next / b.width
  let s1 := (s.addProg { ppa := b.stitchPpa b.next, group := b.group, idx := b.idx, row := w, kind := kind, page := page }).setBolt
    { b with next := b.next + 1 }
  if (b.next + 1) % b.width = 0 then s1.addParity b w else s1

/-- The rest of the current row is filled with pad pages, and its parity page goes on its way (R444). -/
def State.padRow (s : State) (g i : Nat) : Nat → State
  | 0 => s
  | n + 1 =>
    match s.bolt g i with
    | none => s
    | some b =>
      if b.next % b.width = 0 then s
      else (s.place b .pad (plainPage 0x06 b.seq [])).padRow g i n

/-- Pages per word line, the most over a Bolt's dies (R443). -/
def State.linePages (s : State) (b : Bolt) : Nat :=
  (b.present.map (fun c => match s.die c b.group with | some d => d.wlPages | none => 1)).foldl max 1

/-- Pad pages fill the current word lines of a Bolt, row by row (R443, R444). -/
def State.padLines (s : State) (g i : Nat) : Nat → State
  | 0 => s
  | n + 1 =>
    match s.bolt g i with
    | none => s
    | some b =>
      if b.next % (b.width * b.planes * s.linePages b) = 0 ∨ b.rows * b.width ≤ b.next then s
      else (s.place b .pad (plainPage 0x06 b.seq [])).padLines g i n

/-- A Bolt's valid Stitches: the map entries whose page lies in it (R450). -/
def State.validIn (s : State) (g i : Nat) : List (Nat × Nat) :=
  s.flash.map.filter (fun x => ppaPos (entryPpa x.2) == g && ppaBlock (entryPpa x.2) == i)

/-- The pages of a Bolt are no longer on flash: its blocks are erased. -/
def State.erasePages (s : State) (g i : Nat) : State :=
  let stays (a : Nat) : Bool := !(ppaPos a == g && ppaBlock a == i)
  { s with flash := { s.flash with
      pages := s.flash.pages.filter (fun x => stays x.1), flips := s.flash.flips.filter (fun x => stays x.1) } }

/-- A block is retired (R468), is listed in the flash mode record, and counts on its quad. -/
def State.retire (s : State) (ch g i : Nat) : State :=
  if s.flash.retired.contains (lunBlock ch g i) then s
  else
    let s1 := { s with flash := { s.flash with retired := s.flash.retired ++ [lunBlock ch g i] } }
    (s1.setSat (FQ_BAD.RETIRED (ch / 4)) (s1.get (FQ_BAD.RETIRED (ch / 4)) + 1)).modeRecord

/-- Usable capacity U of `flash format` (R469), in Stitches. -/
def State.formatCapacity (s : State) : Nat :=
  let n := ((List.range 16).map (fun g =>
    ((List.range (s.groupBlocks g)).map (fun i =>
      let ps := s.positions g i false
      if ps.length < 16 then 0
      else
        let rows := (ps.map (fun c => match s.die c g with | some d => d.planes * d.pages | none => 0)).foldl min 1048576
        (ps.length - 1) * rows)).sum)).sum
  n * 1023 * (100 - clamp 2 50 (s.get MOV_CFG.OP_PCT)) / 102400

/-- MOV_CAP reports U. -/
def State.showCapacity (s : State) : State :=
  (s.set MOV_CAP_LO.STITCHES (s.flash.usable % 2 ^ 32)).set MOV_CAP_HI.STITCHES (s.flash.usable / 2 ^ 32)

/-- The WSEQs of the host Stitches whose commit is still to come. -/
def Flash.openWseqs (f : Flash) : List Nat :=
  (f.progs ++ f.held).filterMap (fun g => match g.kind with | .stitch _ _ _ _ true _ => some (pageWseq g.page) | _ => none)

/-- The highest WSEQ up to which the map holds every change, as a checkpoint record names it: changes still on their way lie above it
(R460, R461; DEDUCED, assumption log entry 211). -/
def Flash.settledWseq (f : Flash) : Nat := f.openWseqs.foldl (fun m w => min m (w - 1)) f.wseq

/-- The highest BOLT_SEQ up to which no Bolt takes pages any more (R460, R461; DEDUCED, assumption log entry 211). -/
def Flash.settledBolts (f : Flash) : Nat :=
  (f.bolts.filter (fun b => b.state == .opened || b.state == .erasing)).foldl (fun m b => min m (b.seq - 1)) f.boltSeq

/-- A checkpoint begins: it writes the segments that are DIRTY now (R460). -/
def State.beginCkpt (s : State) (clean own : Bool) : State :=
  let f := s.flash
  let segs := (f.segs.filter (fun x => x.2.dirty)).map (·.1)
  let mark : Ckpt := { index := [], wseq := f.settledWseq, boltSeq := f.settledBolts, delta := f.deltaPos, clean := clean }
  { s with flash := { f with
      ckptRuns := some { own := own, segs := segs, mark := mark, top := f.wseq },
      bolts := f.bolts.map (fun b => if b.moved = 2 then { b with moved := 1 } else b) } }

/-- A checkpoint starts, unless one is running (R460); none while a replay runs, whose pages it would leave out of the next (R90; DESIGN CHOICE,
assumption log entry 212). -/
def State.startCkpt (s : State) : State :=
  if s.flash.ckptRuns.isSome || s.flag SYS_BOOTSTAT.REPLAY then s else s.beginCkpt false false

/-- A Bolt is FULL: 8 closed Bolts since the last checkpoint start one (Table FLS-5, R460). -/
def State.boltFull (s : State) (b : Bolt) : State :=
  let s1 := s.setBolt { b with state := .full }
  let s2 := { s1 with flash := { s1.flash with closedSince := s1.flash.closedSince + 1 } }
  if 8 ≤ s2.flash.closedSince then s2.startCkpt else s2

/-- Programs of cache entries end without reaching flash: an entry that stands is DIRTY or THROUGH as before; one with a newer entry becomes
FREE (R396), or stays DIRTY under a newer THROUGH one (R56, R414), and the commands that waited for it wait for the newer one. -/
def endPrograms (fills : List Nat) (es : List CacheEntry) : List CacheEntry :=
  let under (e : CacheEntry) : Bool :=
    e.kind == .dirty && es.any (fun o => o.pocket == e.pocket && o.lba == e.lba && !o.old && o.kind == .through)
  es.filterMap (fun e =>
    if fills.contains e.filled then
      (if !e.old then some { e with prog := false } else if under e then some { e with prog := false, owners := [] } else none)
    else if e.old then some e
    else
      let gone := es.filter (fun o => fills.contains o.filled && o.old && o.pocket == e.pocket && o.lba == e.lba)
      some { e with owners := e.owners ++ (gone.map (fun o => o.owners)).flatten })

/-- A Stitch is queued for relocation once (R505, R506). -/
def State.queueReloc (s : State) (p st : Nat) (poison : List Nat) : State :=
  let a := entryPpa (s.entry p st)
  if s.flash.relocs.any (fun r => r.pocket == p && r.stitch == st && r.ppa == a) then
    let upd (r : Reloc) : Reloc := if r.pocket = p ∧ r.stitch = st then { r with poison := r.poison ++ poison } else r
    { s with flash := { s.flash with relocs := s.flash.relocs.map upd } }
  else
    let r : Reloc := { pocket := p, stitch := st, ppa := a, poison := poison, copying := false }
    { s with flash := { s.flash with relocs := s.flash.relocs.filter (fun x => !(x.pocket == p && x.stitch == st)) ++ [r] } }

/-- What becomes of a queued relocation once a copy of its Stitch has ended: it stays for another copy while the Stitch lies where it lay. -/
def State.tidyReloc (s : State) (p st : Nat) : State :=
  let a := entryPpa (s.entry p st)
  let upd (r : Reloc) : Option Reloc :=
    if r.pocket = p ∧ r.stitch = st then (if r.ppa = a ∧ s.entry p st ≠ 0 then some { r with copying := false } else none) else some r
  { s with flash := { s.flash with relocs := s.flash.relocs.filterMap upd } }

/-- A copy that did not reach flash, or whose commit failed, is made again: for the collection from its victim, else as a relocation (R466, R468,
R473, R505). A Stitch that has moved on needs none. -/
def State.copyAgain (s : State) (g : Prog) : State :=
  match g.kind with
  | .stitch p st _ _ false _ =>
    let s1 := s.tidyReloc p st
    let e := s1.entry p st
    match s1.boltAt (entryPpa e) with
    | none => s1
    | some b =>
      if e = 0 then s1
      else if b.state = .victim then { s1 with flash := { s1.flash with gcQueue := s1.flash.gcQueue ++ [(p, st)] } }
      else if s1.flash.relocs.any (fun r => r.pocket == p && r.stitch == st) then s1
      else s1.queueReloc p st []
  | _ => s

/-- A quad leaves service: each OPEN Bolt with a present position on it is closed at its last closed row; pages of
unclosed rows that reached flash leave an unprotected row, the others are placed again from the cache (R473). -/
def State.closeBoltsOf (s : State) (q : Nat) : State :=
  (s.flash.bolts.filter (fun b => b.state == .opened && b.present.any (fun c => c / 4 == q))).foldl (fun t b =>
    let mine (p : Prog) : Bool := p.group == b.group && p.idx == b.idx
    let lost := t.flash.progs.filter mine
    let fills := (lost.map (fun p => match p.kind with | .stitch _ _ _ _ _ fs => fs | _ => [])).flatten
    let recs := (lost.map (fun p => match p.kind with | .delta rs => rs | _ => [])).flatten
    let rows := ((List.range (ceilDiv b.next b.width)).filter (fun w =>
      !b.rowsDone.contains w && b.dataChs.any (fun c => (t.page (b.rowPpa w c)).isSome)))
    let t1 := { t with
      flash := { t.flash with
        progs := t.flash.progs.filter (fun p => !mine p), deltas := recs ++ t.flash.deltas,
        deltaDue := t.flash.deltaDue || !recs.isEmpty },
      cache := { t.cache with entries := endPrograms fills t.cache.entries } }
    (lost.foldl State.copyAgain t1).boltFull { b with bare := b.bare ++ rows, closing := false }) s


/-! ### Codewords as flash holds them -/

/-- Bits of a codeword at strength t (R484). -/
def codewordBits (t : Nat) : Nat := 8 * (4160 + 2 * t)

/-- The bytes of a programmed page: the four blocks, then each codeword's metadata and parity, then 0xFF to the end of the spare area (R484,
R487, R488). -/
def State.image (s : State) (ppa : Nat) : Option Bytes :=
  match s.page ppa, s.boltAt ppa with
  | some pg, some b =>
    let spare := (pg.map (fun w => cwMeta w ++ bchParity b.t w)).flatten
    let size := match s.die (ppaCh ppa) (ppaPos ppa) with | some d => d.spare | none => 0
    some ((pg.map cwData).flatten ++ spare ++ List.replicate (size - spare.length) 0xFF)
  | _, _ => none

/-- What a decoder finds that is not within t bits of the programmed codeword (R495, R497). -/
def decodeFar (t : Nat) (raw : Bytes) : Decode :=
  match bchFix t raw with
  | some bits => .other bits.length ((flipBits raw bits).take 4160)
  | none => if zeroBits raw ≤ t then .erased else .failed

/-- The decoder at work on a codeword of Bolt b that is read with some of its bits wrong (`errs`, by their numbers in it), at the Bolt's strength (R495
to R497); an erased page reads as ones. -/
def State.decodeAt (s : State) (b : Bolt) (ppa j : Nat) (errs : List Nat) : Decode :=
  let inj := if j = 0 then List.range ((s.flash.flips.lookup ppa).getD 0) else []
  let wrong := oddBits (errs.filter (fun n => decide (n < codewordBits b.t)) ++ inj)
  match s.codeword ppa j with
  | some w =>
    if wrong = [] then .clean
    else if wrong.length ≤ b.t then .corrected wrong.length
    else decodeFar b.t (flipBits (bchEncode b.t w) wrong)
  | none => decodeFar b.t (flipBits (List.replicate (4160 + 2 * b.t) 0xFF) wrong)

/-- A codeword is read and decoded; at a t that the card has not learnt nothing decodes (R494). -/
def State.decodeRead (s : State) (ppa j : Nat) (errs : List Nat) : Decode :=
  match s.boltAt ppa with
  | none => .failed
  | some b => if b.learnt then s.decodeAt b ppa j errs else .failed

/-- The codeword that a decode leaves, with the bits it corrected. -/
def State.decoded (s : State) (ppa j : Nat) : Decode → Option (Bytes × Nat)
  | .clean => (s.codeword ppa j).map (fun w => (w, 0))
  | .corrected k => (s.codeword ppa j).map (fun w => (w, k))
  | .other k w => some (w, k)
  | _ => none

/-! ### Segments that come, change and go -/

/-- While staging, the SRAM map cache keeps the order in which segments were used (R101). -/
def State.touchSeg (s : State) (e : Nat) : State :=
  if s.flag SYS_BOOTSTAT.STAGING then { s with flash := { s.flash with segUse := s.flash.segUse.filter (fun x => x ≠ e) ++ [e] } } else s

/-- A page takes a place of the map Bolt and is on flash at once (assumption log entry 213); the row's parity follows when it is full. The pages
cross their channels for no Pocket (R911). Nothing changes where the Bolt has no place left. -/
def State.putMapPage (s : State) (g i : Nat) (page : Page) : State :=
  match s.bolt g i with
  | none => s
  | some b =>
    if b.room = false then s
    else
      let a := b.stitchPpa b.next
      let w := b.next / b.width
      let s1 := (({ s with flash := { s.flash with pages := putSorted a page s.flash.pages } }).encodePage a).cross 0 16384
      let b1 := { b with next := b.next + 1 }
      if (b.next + 1) % b.width = 0 then
        let pa := b.rowPpa w b.parityCh
        let s2 := (({ s1 with flash := { s1.flash with
          pages := putSorted pa (parityPage (s1.rowPages b w)) s1.flash.pages } }).encodePage pa).cross 0 16384
        let b2 := { b1 with rowsDone := b1.rowsDone ++ [w] }
        if b2.rows ≤ b2.rowsDone.length then s2.boltFull b2 else s2.setBolt b2
      else s1.setBolt b1

/-- Pad pages bring the map Bolt to a place where a quartet fits (R454). -/
def State.alignQuartet (s : State) (g i : Nat) : Nat → State
  | 0 => s
  | n + 1 =>
    match s.bolt g i with
    | none => s
    | some b =>
      let r := b.next % b.width
      if (r % 4 = 0 ∧ r + 4 ≤ b.width) ∨ b.room = false then s else (s.putMapPage g i (plainPage 0x06 b.seq [])).alignQuartet g i n

/-- The Pocket and segment number of an index entry. -/
def State.segOwner (s : State) (e : Nat) : Option (Nat × Nat) :=
  (s.pockets.filter (fun x => x.1 ≠ 0)).findSome? (fun x =>
    let b := s.get (MAP_PBASE.BASE x.1)
    if b ≤ e ∧ e < b + ceilDiv x.2.size 13056 then some (x.1, e - b) else none)

/-- The Bolt a map Bolt slot resolves to (R455). -/
def State.slotBolt (s : State) (slot : Nat) : Option Bolt := (s.flash.mapBolts.lookup slot).bind (fun x => s.bolt x.1 x.2)

/-- A page or row that flash held in a map Bolt has moved out of it: the checkpoint may still name it (R446). -/
def State.leftBolt (s : State) (g i : Nat) : State :=
  match s.bolt g i with
  | some b => s.setBolt { b with moved := 2 }
  | none => s

def State.leftSlot (s : State) (slot : Nat) : State :=
  match s.flash.mapBolts.lookup slot with
  | some x => s.leftBolt x.1 x.2
  | none => s

/-- An index page is dirty (R458). -/
def State.dirtyIndex (s : State) (n : Nat) : State :=
  if s.flash.idxDirty.contains n then s else { s with flash := { s.flash with idxDirty := s.flash.idxDirty ++ [n] } }

/-- Is an earlier change of a segment than the latest it reflects still on its way? Its map row is not written then, so that the WSEQ in its header
hides no change from a replay (R453, R461; DEDUCED, assumption log entry 211). -/
def State.segLate (s : State) (e : Nat) (g : Seg) : Bool :=
  (s.flash.progs ++ s.flash.held).any (fun q => match q.kind with
    | .stitch p st _ _ true _ => s.segOf p st == e && decide (pageWseq q.page < g.wseqs.foldl max 0)
    | _ => false)

/-- The four pages of a segment are written to a map row of the Bolt, which has room for them there, and its index entry changes (R453 to R458). -/
def State.putRow (s : State) (b : Bolt) (entry p n : Nat) (g : Seg) : State :=
  let slot := ((s.flash.mapBolts.find? (fun x => x.2 == (b.group, b.idx))).map (·.1)).getD 0
  let s1 := (List.range 4).foldl (fun t i =>
    t.putMapPage b.group b.idx (plainPage 0x02 b.seq (t.mapPage p n i (g.wseqs.getD i 0)))) (s.leftSlot g.slot)
  let s2 := s1.setSeg entry { g with dirty := false, slot := slot, row := b.next / b.width, quartet := b.next % b.width / 4 }
  let run (c : CkptRun) : CkptRun := { c with segs := c.segs.filter (fun x => x ≠ entry) }
  ({ s2 with flash := { s2.flash with ckptRuns := s2.flash.ckptRuns.map run } }).dirtyIndex (entry / 4096)

/-- A segment goes to a new map row, if a map Bolt takes it now; whether it did. -/
def State.putSeg (s : State) (entry : Nat) : State × Bool :=
  match s.seg entry, s.segOwner entry, (s.openBolts .map).find? (fun b => b.room) with
  | some g, some (p, n), some b =>
    if s.segLate entry g then (s, false)
    else
      let s1 := s.alignQuartet b.group b.idx 64
      match s1.bolt b.group b.idx with
      | some b1 => if b1.room then (s1.putRow b1 entry p n g, true) else (s1, false)
      | none => (s1, false)
  | _, _, _ => (s, false)

/-- The held segments, the least recently used first. -/
def State.segsByUse (s : State) : List Nat :=
  let held := (s.flash.segs.filter (fun x => x.2.resident)).map (·.1)
  held.filter (fun e => !s.flash.segUse.contains e) ++ s.flash.segUse.filter (fun e => held.contains e)

/-- The first segment of a list that can go leaves the SRAM map cache: a DIRTY one is written first (R101, R458). -/
def State.evictOne (s : State) : List Nat → State
  | [] => s
  | e :: r =>
    match s.seg e with
    | none => s.evictOne r
    | some g =>
      let (t, ok) := if g.dirty then s.putSeg e else (s, true)
      if ok then (match t.seg e with | some h => t.setSeg e { h with resident := false } | none => t) else t.evictOne r

/-- Does the SRAM map cache, while staging, hold a place for one more segment? -/
def State.segRoom (s : State) : Bool :=
  !s.flag SYS_BOOTSTAT.STAGING || decide ((s.flash.segs.filter (fun x => x.2.resident)).length < mapCacheSegs)

/-- While staging, the least recently used segment makes room for one more (R101). -/
def State.evictSegs (s : State) : State := if s.segRoom then s else s.evictOne s.segsByUse

/-- A segment's held copy changes in a Stitch's entry, by a change of this WSEQ; it is a use of the segment (R101, R453, R455). -/
def State.changeSeg (s : State) (p st wseq : Nat) : State :=
  let e := s.segOf p st
  let g := (s.seg e).getD { Seg.fresh with resident := false }
  let i := segPage st
  let ws := g.wseqs.set i (max wseq (g.wseqs.getD i 0))
  ((if g.resident then s else s.evictSegs).setSeg e { g with resident := true, dirty := true, wseqs := ws }).touchSeg e

/-- A segment is needed: a read of its map row starts where it is not held (R456); one under replay comes with the replay (R90). -/
def State.needSeg (s : State) (e : Nat) : State :=
  match s.seg e with
  | some g => if s.segAbsent e then (if s.replaying g then s else s.setSeg e { g with reading := true }) else s.touchSeg e
  | none => s

/-! ### What a read expects (R494, R496) -/

/-- The block that the card expects in codeword j of a page: the one a command waits for there, else the one mapped there. -/
def State.expected (s : State) (ppa j : Nat) : Option (Nat × Nat) :=
  let waits (x : Exec) (i : Nat) : Option (Nat × Nat) :=
    match x.blks[i]? with
    | some b => if b.codec = .media ppa j ∨ b.codec = .recover ppa j then some (x.pocket, x.cmd.lba + i) else none
    | none => none
  match s.execs.findSome? (fun x => (List.range x.blks.length).findSome? (waits x)) with
  | some e => some e
  | none => (s.flash.map.find? (fun e => entryPpa e.2 == ppa && (entryValid e.2).testBit j)).map (fun e =>
      (e.1 / 2 ^ 34, 4 * (e.1 % 2 ^ 34) + j))

/-- The FORMATs of a page by what its place is for (R445, Table FLS-4). The codeword of a block that holds nothing carries that of a pad page
(assumption log entry 211). -/
def Bolt.formats (b : Bolt) (ppa : Nat) : List Nat :=
  if ppaCh ppa = b.parityCh then [5] else if b.use = .map then [2, 3, 4, 6] else [1, 6, 7]

/-- Do a codeword's FORMAT and BOLT_SEQ fit its Bolt (R494, R496)? Those of a parity page's metadata are the XOR of its row's but for the FORMAT (R442), so
that no BOLT_SEQ is expected of it. -/
def Bolt.fits (b : Bolt) (ppa : Nat) (w : Bytes) : Bool :=
  (b.formats ppa).contains (cwFormat w) && (ppaCh ppa == b.parityCh || cwBoltSeq w == b.seq % 2 ^ 64)

/-- Does a codeword's metadata match what its read expects (R496)? -/
def State.fits (s : State) (ppa j : Nat) (w : Bytes) : Bool :=
  (match s.boltAt ppa with | some b => b.fits ppa w | none => false) &&
  (match s.expected ppa j with
   | some (p, lba) => (cwFormat w == 1 || cwFormat w == 7) && cwPocket w == p && cwLba w == lba
   | none => true)

/-- The result of a decode after the metadata check: the codeword and its corrected bits, where it is right (R496). -/
def State.right (s : State) (ppa j : Nat) (res : Decode) : Option (Bytes × Nat) := (s.decoded ppa j res).filter (fun r => s.fits ppa j r.1)

/-- The pages whose reads may teach the card a Bolt's t: row 0 of up to four data positions other than a page's own (R494). -/
def State.teachers (s : State) (b : Bolt) (ppa : Nat) : List Nat :=
  ((((b.dataChs.filter (fun c => c ≠ ppaCh ppa)).take 4).map (b.rowPpa 0))).filter (fun a => (s.page a).isSome)

/-- A first read after a start teaches the card a Bolt's t: by the codeword read, tried at every permitted value, of which only the Bolt's own is
accepted, else by row 0 of other positions, whose pages decode there (R494; assumption log entry 180). -/
def State.learn (s : State) (ppa j : Nat) (errs : List Nat) : State :=
  match s.boltAt ppa with
  | none => s
  | some b =>
    let own := match s.decoded ppa j (s.decodeAt b ppa j errs) with | some (w, _) => b.fits ppa w | none => false
    if b.learnt = false ∧ (own = true ∨ s.teachers b ppa ≠ []) then s.setBolt { b with learnt := true } else s

end Sys2Proof.Machine
end

