-- ==== Sys2Proof/Machine/ExecOps.lean ====
section
/-!
DEFINITION. Sys2Proof/Machine/ExecOps.lean: the cache, write admission, the mirror to a secondary, where a block is read from,
the posting of data and completions, and the end of a command (chapters 06, 07 and 16).
-/
namespace Sys2Proof.Machine
open Sys2Proof

/-! ### The cache -/

/-- The entry that serves a block. -/
def State.cached (s : State) (p lba : Nat) : Option CacheEntry :=
  s.cache.entries.find? (fun e => e.pocket == p && e.lba == lba && !e.old)

def State.setEntries (s : State) (es : List CacheEntry) : State := { s with cache := { s.cache with entries := es } }

/-- Entries of a kind that a Pocket holds. -/
def State.holds (s : State) (p : Nat) (k : LineKind) : Nat :=
  (s.cache.entries.filter (fun e => e.pocket == p && e.kind == k)).length

/-- D and D_p in bytes (R407). -/
def State.dirtyBytes (s : State) : Nat := 4096 * (s.cache.entries.filter (fun e => e.kind == .dirty)).length
def State.dirtyOf (s : State) (p : Nat) : Nat := 4096 * s.holds p .dirty

/-- Background flushing runs from FLUSH_HI to FLUSH_LO percent of B, urgent flushing while D exceeds B (R412, R421). -/
def State.flushMode (s : State) : State :=
  let hi := clamp 1 100 (s.get CCH_CFG.FLUSH_HI)
  let lo := min hi (s.get CCH_CFG.FLUSH_LO)
  let d := s.dirtyBytes
  let bg := if s.cache.budget * hi < 100 * d then true else if 100 * d ≤ s.cache.budget * lo then false else s.cache.flushing
  { s with cache := { s.cache with flushing := bg, urgent := decide (s.cache.budget < d) } }

/-- Entries the cache can hold (R393). -/
def State.cacheRoom (s : State) : Nat := if s.staging then 512 else 256 * s.get CCH_SIZE.MIB

/-- Entries leave the cache; prefetch lines among them were never used and count (Table BST-3). -/
def State.dropEntries (s : State) (p : CacheEntry → Bool) : State :=
  let n := (s.cache.entries.filter (fun e => p e && e.kind == .prefetch)).length
  (s.setEntries (s.cache.entries.filter (fun e => !p e))).count CCH_PFDROP.BLOCKS n

/-- The entry that is evicted first, of those given, in R402's order within one Pocket or across all. -/
def evictFirst (es : List CacheEntry) : Option CacheEntry :=
  match leastBy (fun e => e.filled) (es.filter (fun e => e.kind == .prefetch)) with
  | some e => some e
  | none => leastBy (fun e => e.used) (es.filter (fun e => e.kind == .clean))

/-- The entry to take when free space is needed for Pocket `p` (R402). -/
def State.victimFor (s : State) (p : Nat) : Option CacheEntry :=
  match leastBy (fun e => e.filled) (s.cache.entries.filter (fun e => e.kind == .prefetch)) with
  | some e => some e
  | none =>
    let above (q : Nat) : Bool := match s.pockets.lookup q with
      | some k => decide (256 * k.cleanMin < s.holds q .clean)
      | none => true
    match leastBy (fun e => e.used) (s.cache.entries.filter (fun e => e.kind == .clean && above e.pocket)) with
    | some e => some e
    | none => leastBy (fun e => e.used) (s.cache.entries.filter (fun e => e.kind == .clean && e.pocket == p))

/-- An entry is taken away. -/
def State.dropEntry (s : State) (v : CacheEntry) : State :=
  s.dropEntries (fun e => e.pocket == v.pocket && e.lba == v.lba && e.filled == v.filled)

/-- Room for one more entry of Pocket `p`; `none` when no entry may be taken (R402). -/
def State.makeRoom (s : State) (p : Nat) : Option State :=
  if s.cache.entries.length < s.cacheRoom then some s
  else (s.victimFor p).map s.dropEntry

/-- The Pocket's clean maximum allows one more CLEAN or PREFETCH entry, its own entry of lowest rank going first (R401). -/
def State.cleanRoom (s : State) (p : Nat) : Option State :=
  let mx := match s.pockets.lookup p with | some k => 256 * k.cleanMax | none => 0
  if s.holds p .clean + s.holds p .prefetch < mx then some s
  else if mx = 0 then none
  else (evictFirst (s.cache.entries.filter (fun e => e.pocket == p))).map s.dropEntry

/-- The place of a prefetch fill (R389, R401): free cache space within the Pocket's clean maximum, or its own oldest prefetch line. -/
def State.prefetchRoom (s : State) (p : Nat) : Option State :=
  let mx := match s.pockets.lookup p with | some k => 256 * k.cleanMax | none => 0
  if s.holds p .clean + s.holds p .prefetch < mx ∧ s.cache.entries.length < s.cacheRoom then some s
  else if mx = 0 then none
  else (leastBy (fun e => e.filled) (s.cache.entries.filter (fun e => e.pocket == p && e.kind == .prefetch))).map s.dropEntry

/-- A CLEAN or PREFETCH entry is filled with a block's ciphertext; on the staging path there is no cache (R414). -/
def State.fill (s : State) (p lba : Nat) (k : LineKind) (data : Bytes) (check : Option Check) : State :=
  if s.staging || (s.cached p lba).isSome then s
  else
    match (if k = .prefetch then s.prefetchRoom p else (s.cleanRoom p).bind (fun t => t.makeRoom p)) with
    | none => s
    | some s2 =>
      let e : CacheEntry :=
        { pocket := p, lba := lba, kind := k, data := data, check := check, used := s2.cache.order,
          filled := s2.cache.order, prog := false, old := false, poison := false, owners := [], writer := 0, place := s2.entrySpot }
      { s2 with cache := { s2.cache with entries := s2.cache.entries ++ [e], order := s2.cache.order + 1 } }

/-- Is a command in execution? -/
def State.running (s : State) (id : Nat) : Bool := s.execs.any (fun x => x.id == id)

/-- Does the entry that holds a block stay under a newer one: while its program is in flight (R396), or as acknowledged DIRTY data under a write
that is forced through, until that is programmed (R56, R414)? -/
def State.keepsOld (s : State) (p lba : Nat) (through : Bool) : Bool :=
  match s.cached p lba with
  | some e => e.prog || (through && e.kind == .dirty && !s.running e.writer)
  | none => false

/-- Is there a place for a block to be written: that of the entry it replaces, or one more (R393, R402)? -/
def State.blockRoom (s : State) (p lba : Nat) (through : Bool) : Bool :=
  ((s.cached p lba).isSome && !s.keepsOld p lba through) || (s.makeRoom p).isSome

/-- A written block enters the cache DIRTY or THROUGH. An entry that stays under it keeps the commands that wait for its program in flight; else
they wait for the new one (R396). -/
def State.writeBlock (s : State) (p lba : Nat) (through : Bool) (data : Bytes) (check : Option Check) (owner : Nat) : State :=
  let prev := s.cached p lba
  let owners := match prev with | some e => (if e.prog then [] else e.owners) | none => []
  let here (e : CacheEntry) : Bool := e.pocket == p && e.lba == lba
  let under (e : CacheEntry) : CacheEntry :=
    if here e && !e.old then { e with old := true, owners := if e.prog then e.owners else [] } else e
  let s1 :=
    if s.keepsOld p lba through then s.setEntries (s.cache.entries.map under)
    else s.dropEntries (fun e => here e && !e.prog && (!through || !e.old))
  let s2 := match s1.makeRoom p with | some t => t | none => s1
  let e : CacheEntry :=
    { pocket := p, lba := lba, kind := if through then .through else .dirty, data := data, check := check,
      used := s2.cache.order, filled := s2.cache.order, prog := false, old := false, poison := false,
      owners := owners ++ [owner], writer := owner, place := s2.entrySpot }
  { s2 with cache := { s2.cache with entries := s2.cache.entries ++ [e], order := s2.cache.order + 1 } }

/-- A use of an entry moves it to the end of the eviction order; a prefetch line that a READ uses becomes CLEAN (R388). -/
def State.touch (s : State) (p lba : Nat) : State :=
  let upd (e : CacheEntry) : CacheEntry :=
    if e.pocket = p ∧ e.lba = lba ∧ e.old = false then
      { e with used := s.cache.order, kind := if e.kind = .prefetch then .clean else e.kind }
    else e
  let hit : Bool := match s.cached p lba with | some e => decide (e.kind = .prefetch) | none => false
  let s1 := { s with cache := { s.cache with entries := s.cache.entries.map upd, order := s.cache.order + 1 } }
  if hit then s1.count CCH_PFHIT.BLOCKS 1 else s1

/-- Is the block within a range of a Pocket? -/
def inRange (p lba n : Nat) (q b : Nat) : Bool := q == p && decide (lba ≤ b) && decide (b < lba + n)

/-- Prefetch lines and requests in a range go (R391, R423). -/
def State.dropPrefetch (s : State) (p lba n : Nat) : State :=
  let s1 := s.dropEntries (fun e => e.kind == .prefetch && inRange p lba n e.pocket e.lba)
  { s1 with cache := { s1.cache with wanted := s1.cache.wanted.filter (fun w => !inRange p lba n w.1 w.2) } }

/-- A Pocket's prefetch lines, requests and detector go (R391). -/
def State.stopPrefetch (s : State) (p : Nat) : State :=
  let s1 := s.dropEntries (fun e => e.kind == .prefetch && e.pocket == p)
  { s1 with cache := { s1.cache with
      wanted := s1.cache.wanted.filter (fun w => w.1 ≠ p),
      streams := s1.cache.streams.filter (fun w => w.1 ≠ p) } }

/-! ### Write admission (R407, R408) -/

/-- Mebibytes as bytes. -/
def mib (n : Nat) : Nat := 1048576 * n

/-- S, the sum of all dirty minima, in bytes. -/
def State.sumDirtyMin (s : State) : Nat := (s.pockets.map (fun x => mib x.2.dirtyMin)).sum

/-- m_p, the effective dirty minimum. -/
def State.effMin (s : State) (p : Nat) : Nat :=
  let m := match s.pockets.lookup p with | some k => mib k.dirtyMin | none => 0
  if s.sumDirtyMin ≤ s.cache.budget then m else m * s.cache.budget / s.sumDirtyMin / 4096 * 4096

/-- The sum of the unused minima of every Pocket other than p. -/
def State.unusedOthers (s : State) (p : Nat) : Nat :=
  ((s.pockets.filter (fun x => x.1 ≠ p)).map (fun x => s.effMin x.1 - s.dirtyOf x.1)).sum

/-- From step 2 of a DORMANT entry every new write is forced through (R811). -/
def State.toDormant (s : State) : Bool :=
  match s.pwr.entry with | some e => e.target == 4 && decide (2 ≤ s.get PWR_STATE.STEP) | none => false

/-- Is a command of `b` bytes admitted write-back (R95, R408)? -/
def State.admits (s : State) (p b : Nat) : Bool :=
  !s.staging && !s.toDormant && decide (s.dirtyBytes ≤ s.cache.budget) &&
  (decide (s.dirtyOf p + b ≤ s.effMin p) ||
   (decide (s.dirtyOf p + b ≤ (match s.pockets.lookup p with | some k => mib k.dirtyMax | none => 0)) &&
    decide (s.dirtyBytes + b + s.unusedOthers p ≤ s.cache.budget)))

/-! ### The mirror -/

/-- One region is marked, or its version rises while it is in copy (R883, R884). -/
def Twin.mark (t : Twin) (p r : Nat) : Twin :=
  if t.inCopy.any (fun c => c.pocket == p && c.region == r) then
    { t with
      inCopy := t.inCopy.map (fun c =>
        if c.pocket = p ∧ c.region = r then { c with version := (c.version + 1) % 65536 } else c) }
  else if t.marked.contains (p, r) then t
  else { t with marked := t.marked ++ [(p, r)] }

/-- The regions a change covers (R883): marked in LOST and DARNING. -/
def State.markRange (s : State) (p lba n : Nat) : State :=
  if (s.twinState = 1 ∨ s.twinState = 3 ∨ s.twinState = 7) ∧ 0 < n then
    let rs := (List.range ((lba + n - 1) / 256 - lba / 256 + 1)).map (fun k => lba / 256 + k)
    let tw : Twin := rs.foldl (fun t r => t.mark p r) s.twin
    let ms := if s.twinState = 1 then tw.missed else tw.missed ++ rs.map (fun r => (p, r))
    { s with twin := { tw with missed := ms } }
  else s

/-- The items of a WRITE: two for each block, in ascending LBA and HALF order; their bytes follow encryption (R871). -/
def State.mirrorWrite (s : State) (p lba n : Nat) (integ : Bool) (ikey nonce : Nat) : State :=
  (List.range (2 * n)).foldl (fun t k =>
    t.mirror (.data false (lba + k / 2) p (k % 2) integ false ikey (if integ then nonce + k / 2 else 0) [] [])) s

/-- The ciphertext and tag of a mirrored block stand: its two items can go out. -/
def State.fillMirror (s : State) (base i : Nat) (data : Bytes) (check : Option Check) : State :=
  let upd (it : TwinItem) : TwinItem :=
    if it.tseq = base + 2 * i ∨ it.tseq = base + 2 * i + 1 then
      match it.what with
      | .data d lba p h integ po ik ct _ _ =>
        let tag := match check with | some c => c.tag | none => []
        let part := (data.drop (2048 * h)).take 2048
        { it with what := .data d lba p h integ po ik ct tag part }
      | _ => it
    else it
  ({ s with twin := { s.twin with unconf := s.twin.unconf.map upd } }).twinGo

/-- Has the secondary confirmed the item (R874)? -/
def State.confirmedSeq (s : State) (t : Option Nat) : Bool :=
  match t with
  | none => true
  | some n => decide (n < s.twin.confirmed) || !s.mirroring

/-! ### Where a block is read from -/

/-- A flash position answers: its quad is SHADOW or IN, and its ECC pool is in service (R472, Table PWD-1). -/
def State.flashReadable (s : State) (ch : Nat) : Bool :=
  (s.dom (quadDomain ch) == 2 || s.dom (quadDomain ch) == 3) && s.domIn (poolDomain ch)

/-- A block with nothing read yet. -/
def Blk.start (c : Codec) : Blk :=
  { codec := c, pass := .none, data := [], plain := [], check := none, ppa := none, posted := false, pulled := false,
    sent := false, again := false, place := .nowhere }

/-- A block read anew keeps what its transfer to the host has come to (R373, R375). -/
def Blk.keepSent (b n : Blk) : Blk := { n with posted := b.posted, pulled := b.pulled, sent := b.sent, again := b.again, place := b.place }

/-- Does a block need its GMAC checked before it is confirmed? -/
def afterCodec (integ : Bool) (check : Option Check) : Codec :=
  if !integ then .good else match check with
    | some _ => .mac false
    | none => .lost Status.macMismatch.code

/-- The blocks of a Stitch that have been lost and wait to be relocated as poison (R506). -/
def State.lostBlocks (s : State) (p st : Nat) : List Nat :=
  match s.flash.relocs.find? (fun r => r.pocket == p && r.stitch == st && r.ppa == entryPpa (s.entry p st)) with
  | some r => r.poison
  | none => []

/-- A block read from the map: zeros where VALID is 0 (R449), else its codeword from flash; a block that was lost fails at once (R506). -/
def State.fromFlash (s : State) (p lba : Nat) : Blk :=
  let e := s.segOf p (lba / 4)
  if s.segAbsent e then Blk.start (.seg e)
  else
    let m := s.entry p (lba / 4)
    if !(entryValid m).testBit (lba % 4) then { Blk.start .good with plain := zeroBlock, pass := .done }
    else if !s.flashReadable (ppaCh (entryPpa m)) then Blk.start (.lost Status.domainOff.code)
    else if (s.lostBlocks p (lba / 4)).contains (lba % 4) then Blk.start (.lost Status.mediaUncorrectable.code)
    else { Blk.start (.media (entryPpa m) (lba % 4)) with ppa := some (entryPpa m) }

/-- The page that holds a block on flash, as the map names it. -/
def State.pageOf (s : State) (p lba : Nat) : Option Nat :=
  let m := s.entry p (lba / 4)
  if (entryValid m).testBit (lba % 4) then some (entryPpa m) else none

/-- Where a block of a READ, VERIFY or COPY source comes from (R398, R399, R449, R609). Only a READ with FUA at 0 may use a prefetch line
(R388); of a CLEAN block the page is kept that a re-read would read (R375). -/
def State.source (s : State) (p lba : Nat) (c : Cmd) : Blk :=
  match s.cached p lba with
  | some e =>
    let dirty := e.kind == .dirty || e.kind == .through
    if e.poison then Blk.start (.lost Status.poison.code)
    else if c.flags.testBit 0 ∧ (c.opcode = 1 ∨ c.opcode = 5) then
      if dirty then Blk.start .flush else s.fromFlash p lba
    else if e.kind = .prefetch ∧ c.opcode ≠ 1 then s.fromFlash p lba
    else { Blk.start (afterCodec (c.flags.testBit 3) e.check) with
      data := e.data, check := e.check, ppa := if dirty then none else s.pageOf p lba }
  | none => s.fromFlash p lba

/-! ### A block starts -/

/-- What a block's start does: a segment read begins, a cache hit moves the eviction order. -/
def State.startBlock (s : State) (p lba : Nat) (b : Blk) : State :=
  match b.codec with
  | .seg e => s.needSeg e
  | .room => s
  | .media _ _ => (s.cross p 4096).touchSeg (s.segOf p (lba / 4))
  | _ => if b.data = [] then s.touchSeg (s.segOf p (lba / 4)) else s.touch p lba

/-- A command waits for the program of the entries that a test selects. -/
def State.awaitEntries (s : State) (id : Nat) (sel : CacheEntry → Bool) : State :=
  s.setEntries (s.cache.entries.map (fun e => if sel e then { e with owners := e.owners ++ [id] } else e))

/-- The command waits for the program of the DIRTY and THROUGH blocks given, as they now stand (R398). -/
def State.awaitProgram (s : State) (id p : Nat) (lbas : List Nat) : State :=
  s.awaitEntries id (fun e => e.pocket == p && !e.old && (e.kind == .dirty || e.kind == .through) && lbas.contains e.lba)

/-- A COPY's block whose source is unmapped needs no bulk pass: its destination is unmapped in its turn (R345, R449). -/
def Blk.forCopy (b : Blk) : Blk := if b.pass = .done then { b with pass := .held, data := [] } else b

/-- Blocks that start to be read on the staging path take data buffers; those for which none is free wait (R94, R97). -/
def seatAll (used : List Spot) : List Blk → List Blk
  | [] => []
  | b :: r =>
    match freeSpot .buffer used 512 with
    | .nowhere => Blk.start .room :: seatAll used r
    | p => { b with place := p } :: seatAll (p :: used) r

/-- The blocks of a READ, VERIFY or COPY, with their data buffers on the staging path (R94, R97). -/
def State.seated (s : State) (bs : List Blk) : List Blk := if s.staging then seatAll s.spots bs else bs

/-! ### Posting -/

/-- The payload size of the card's DAT frames: MAX_FRAME in force (Table SLVF-3). -/
def State.frameSize (s : State) : Nat := max 256 (s.get SLV_FORCE1.MAX_FRAME)

/-- The DAT frames of one string of a command's bytes (R271). -/
def datFrames (size tag queue offset : Nat) : Nat → Bytes → List TxItem
  | 0, _ => []
  | n + 1, bs =>
    if bs = [] then []
    else .dat false tag queue offset (bs.take size) :: datFrames size tag queue (offset + size) n (bs.drop size)

/-- Block i of a READ is posted in DAT frames. -/
def State.postBlock (s : State) (x : Exec) (i : Nat) (plain : Bytes) : State :=
  let fs := datFrames s.frameSize x.cmd.tag x.queue (4096 * i) 17 plain
  { s with slv := { s.slv with newItems := s.slv.newItems ++ fs } }

/-- The items of block i that have not been sent yet are taken back. -/
def State.unpost (s : State) (x : Exec) (i : Nat) : State :=
  let mine : TxItem → Bool
    | .dat _ t q o _ => t == x.cmd.tag && q == x.queue && o / 4096 == i
    | _ => false
  { s with slv := { s.slv with newItems := s.slv.newItems.filter (fun t => !mine t) } }

/-- Are all bytes of block i still unsent, so that nothing needs to be withdrawn? -/
def State.stillQueued (s : State) (x : Exec) (i : Nat) : Bool :=
  decide ((datFrames s.frameSize x.cmd.tag x.queue (4096 * i) 17 zeroBlock).length ≤
    (s.slv.newItems.filter (fun t => match t with
      | .dat _ g q o _ => g == x.cmd.tag && q == x.queue && o / 4096 == i
      | _ => false)).length)

/-- An unpick marker is posted (R370, R371) and counted. -/
def State.unpick (s : State) (x : Exec) (i : Nat) (st : Status) : State :=
  let m : TxItem := .unp x.cmd.tag x.queue st.code (4096 * i) 4096
  let s1 := { s with slv := { s.slv with newItems := s.slv.newItems ++ [m] } }
  if st = .unpickedMac then s1.count CCH_UNPICK.MAC 1 else s1.count CCH_UNPICK.ECC 1

/-- Bytes of the inbound window a command holds (R406). -/
def Cmd.inbound (c : Cmd) : Nat := if c.opcode = 2 ∨ c.opcode = 7 then 4096 * c.count else 0

def State.setQueue (s : State) (q : Nat) (k : QueuePair) : State := { s with queues := upsert q k s.queues }
def State.setPocket (s : State) (p : Nat) (k : Pocket) : State := { s with pockets := upsert p k s.pockets }

/-- A completion entry of a command that took a slot in a queue of Pocket `p` (R330, R344). -/
def Cmd.completion (c : Cmd) (q p : Nat) (st : Status) (done : Nat) : Completion :=
  { ref := c.ref, pocket := p, opcode := c.opcode, begun := false, sentAll := false, tag := c.tag, status := st.code, level := 0, through := false, prefetchHit := false, queue := q, blocks := done,
    nonceSerial := 0, nonceCount := 0, inbound := c.inbound }

/-- COPY's destination (Table POC-5). -/
def Cmd.dst (c : Cmd) : Nat := c.handle % 2 ^ 48

/-- Does the command name a data key slot (Table POC-7)? -/
def Cmd.usesDkey (c : Cmd) : Bool := c.opcode == 1 || c.opcode == 2 || c.opcode == 6

/-- A completion is posted; its slot stays taken until the entry is placed in a CPL frame (R330). -/
def State.postCpl (s : State) (q : Nat) (c : Completion) : State :=
  let s1 := { s with slv := { s.slv with posted := s.slv.posted ++ [c] } }
  match s1.queues.lookup q with
  | none => s1
  | some k => s1.setQueue q { k with doneTags := k.doneTags ++ [{ ref := c.ref, tag := c.tag }] }

/-- A command that holds a slot and was never dispatched completes (R341, R359). -/
def State.postWaiting (s : State) (q : Nat) (c : Cmd) (st : Status) : State :=
  let p := match s.queues.lookup q with | some k => k.pocket | none => 0
  s.postCpl q (c.completion q p st 0)

def State.setExec (s : State) (x : Exec) : State :=
  { s with execs := s.execs.map (fun y => if y.id = x.id then x else y) }

def State.dropExec (s : State) (id : Nat) : State := { s with execs := s.execs.filter (fun y => y.id ≠ id) }

/-- The open delta page goes on its way to flash when a map Bolt has room, with pad for the rest of its word lines (R443, R444); else it waits
for a map Bolt (R459). -/
def State.sendDeltas (s : State) : State :=
  if s.flash.deltas = [] then s
  else
    match (s.openBolts .map).find? (fun b => b.room) with
    | none => { s with flash := { s.flash with deltaDue := true } }
    | some b =>
      let recs := s.flash.deltas.take 512
      let s1 := { s with flash := { s.flash with deltas := s.flash.deltas.drop 512, deltaDue := false } }
      (s1.place b (.delta recs) (plainPage 0x04 b.seq ((recs.map Delta.bytes).flatten))).padLines b.group b.idx 4096

/-- VALID bits of a Stitch that a range of blocks covers. -/
def rangeMask (lba n st : Nat) : Nat :=
  ((List.range 4).map (fun j => if lba ≤ 4 * st + j ∧ 4 * st + j < lba + n then 2 ^ j else 0)).sum

/-- The map entries of a Pocket that lose VALID bits when a range of blocks is unmapped (R450). -/
def State.unmaps (s : State) (p lba n : Nat) : List (Nat × Nat) :=
  (s.mapped p).filter (fun e => (entryValid e.2 &&& rangeMask lba n (e.1 % 2 ^ 34)) != 0)

/-- The blocks of a range leave the cache and the programs in flight (R477), and with them what was to be flushed (R412); commands that waited for one of
its programs wait no more. -/
def State.dropBlocks (s : State) (p lba n : Nat) : State :=
  let gone := s.cache.entries.filter (fun e => inRange p lba n e.pocket e.lba)
  let s1 := s.dropEntries (fun e => inRange p lba n e.pocket e.lba)
  let relax (x : Exec) : Exec :=
    { x with unset := x.unset.filter (fun b => !(gone.any (fun e => e.lba == b && e.owners.contains x.id))) }
  let cut (g : Prog) : Prog := match g.kind with
    | .stitch q st v o h fs => if q = p then { g with kind := .stitch q st (v &&& (15 - rangeMask lba n st)) o h fs } else g
    | _ => g
  ({ s1 with
    execs := s1.execs.map relax, flash := { s1.flash with progs := s1.flash.progs.map cut, held := s1.flash.held.map cut } }).flushMode

/-- The blocks of a range become unmapped (R450). -/
def State.unmapBlocks (s : State) (p lba n : Nat) : State :=
  ((s.unmaps p lba n).foldl (fun t e =>
    let st := e.1 % 2 ^ 34
    let v := entryValid e.2 &&& (15 - rangeMask lba n st)
    (t.setEntry p st (mkEntry v (entryPpa e.2))).changeSeg p st 0) s).dropBlocks p lba n

/-- The delta record of an unmapping (R459), with the WSEQ that its segments then reflect (R453); a full delta page goes on its way. -/
def State.trimRecord (s : State) (p lba n : Nat) : State :=
  let w := s.flash.wseq + 1
  let d : Delta := { pocket := p, lba := lba, count := n, wseq := w }
  let within (e : Nat) : Bool := decide (s.segOf p (lba / 4) ≤ e) && decide (e ≤ s.segOf p ((lba + n - 1) / 4))
  let mark (x : Nat × Seg) : Nat × Seg := if within x.1 then (x.1, { x.2 with wseqs := x.2.wseqs.map (max w) }) else x
  let s1 := { s with flash := { s.flash with wseq := w, deltas := s.flash.deltas ++ [d], segs := s.flash.segs.map mark } }
  if 512 ≤ s1.flash.deltas.length then s1.sendDeltas else s1

/-- The blocks of a range become unmapped, with a delta record that carries the change (R450, R459). -/
def State.trimRange (s : State) (p lba n : Nat) : State := (s.unmapBlocks p lba n).trimRecord p lba n

/-- May the blocks of a range, which lie in one segment, be unmapped now: the segment is held, and the cap allows a change of it (R456, R457)? -/
def State.mayUnmap (s : State) (p lba n : Nat) : Bool :=
  let e := s.segOf p (lba / 4)
  !s.segAbsent e && ((s.unmaps p lba n).isEmpty || s.capAllows e)

/-- A Pocket's prefetch streams and wanted blocks are forgotten. -/
def State.forgetStreams (s : State) (p : Nat) : State :=
  { s with cache := { s.cache with
      streams := s.cache.streams.filter (fun x => x.1 ≠ p), wanted := s.cache.wanted.filter (fun x => x.1 ≠ p) } }

/-- The blocks of one span of an unmapping. -/
def spanBlocks : Nat := 2 ^ 31

/-- Delta records for every block of a Pocket of `size` Stitches, in spans of 2^31 blocks. -/
def State.recordAll (s : State) (p size : Nat) : State :=
  (List.range (ceilDiv (4 * size) spanBlocks)).foldl (fun t i =>
    t.trimRecord p (spanBlocks * i) (min spanBlocks (4 * size - spanBlocks * i))) s

/-- Every Stitch of a Pocket of `size` Stitches is unmapped: its index entries become those of segments never written, which needs no read of
them (DESIGN CHOICE, assumption log entry 214). -/
def State.unmapAll (s : State) (p size : Nat) : State :=
  let mine (e : Nat) : Bool := decide (s.segOf p 0 ≤ e) && decide (e < s.segOf p 0 + ceilDiv size 13056)
  let gone := s.flash.segs.filter (fun x => mine x.1)
  let s1 := gone.foldl (fun t x => (t.leftSlot x.2.slot).dirtyIndex (x.1 / 4096)) (s.dropBlocks p 0 (4 * size))
  let run (c : CkptRun) : CkptRun := { c with segs := c.segs.filter (fun e => !mine e) }
  let f := s1.flash
  { s1 with flash := { f with
      map := f.map.filter (fun e => e.1 / 2 ^ 34 ≠ p), segs := f.segs.filter (fun x => !mine x.1), segUse := f.segUse.filter (fun e => !mine e),
      ckptRuns := f.ckptRuns.map run } }

/-- Steps 3 and 4 of a Pocket's deletion, once no dispatched command of it runs (R319, R459): its cache lines are dropped, every Stitch is
unmapped, and the delta records go on their way to flash. A record counts at most 2^31 blocks. -/
def State.deletionUnmap (s : State) (p : Nat) : State :=
  match s.pockets.lookup p with
  | none => s
  | some k =>
    if k.state = .deleting ∧ k.delStep = 1 ∧ s.execs.any (fun x => x.pocket == p) = false then
      ((((s.forgetStreams p).unmapAll p k.size).recordAll p k.size).setPocket p { k with delStep := 3 }).sendDeltas
    else s

/-- Does the completion report a nonce (R346)? -/
def Exec.reportsNonce (x : Exec) : Bool :=
  x.cmd.flags.testBit 3 && (x.cmd.opcode == 2 || x.cmd.opcode == 6 || x.cmd.opcode == 7)

/-- What waits in every ring and was never dispatched completes with WRONG_STATE (R1081). -/
def State.dropWaiting (s : State) : State :=
  s.queues.foldl (fun t q =>
    q.2.waiting.foldl (fun u c => u.postWaiting q.1 c .wrongState) (t.setQueue q.1 { q.2 with waiting := [] })) s

/-- The roles of a twinset change places on the old primary, `n` being the TSEQ of the line item that did it (R1081). -/
def State.swapDone (s : State) (n : Nat) : State :=
  match s.twin.pairing with
  | none => s
  | some g =>
    let tw : Twin := { s.twin with
      pairing := some { g with primary := false }, rxNext := n + 1, acked := n + 1, half := none, through := [], clean := true,
      served := false, fresh := false, fromStandby := false, swapUs := none, swapSeq := none }
    let s1 := (({ s with twin := tw }).showTwin 5).confRecord.notify "twin swapped" [("primary", slotId g.slot)]
    s1.finishFor .swap (fun t => .ok t [] [("role", "secondary")])

/-- A swap goes on once every dispatched command has completed and every item is confirmed: what waits is turned away and the line item
is sent; when that is confirmed too the roles change (R1081). -/
def State.swapGo (s : State) : State :=
  if s.twin.swapUs.isNone || !s.mirroring || !s.execs.isEmpty || !s.twin.unconf.isEmpty then s
  else
    let s1 := s.dropWaiting
    match s1.twin.swapSeq with
    | none => ({ s1 with twin := { s1.twin with swapSeq := some s1.twin.txNext } }).mirrorLine "twin swap"
    | some n => s1.swapDone n

/-- The frames of blocks that are not confirmed leave the queue of a READ that ends early: what a completion leaves behind is confirmed
(R369, R374). -/
def State.dropUnconfirmed (s : State) (x : Exec) : State :=
  if x.cmd.opcode ≠ 1 then s
  else (List.range x.blks.length).foldl (fun t i =>
    match x.blks[i]? with
    | some b => if b.codec = .good then t else t.unpost x i
    | none => t) s

/-- A TSEQ after the items of `gone`, none of which has been sent, left the stream. -/
def seqWithout (gone : List TwinItem) (n : Nat) : Nat := n - (gone.filter (fun i => decide (i.tseq < n))).length

/-- The DATA items of a WRITE that ends before their blocks were written leave the mirror: their changes were never made (R345, R870). None
has been sent, nor has any item after the first of them, and the later ones move up. -/
def State.cutMirror (s : State) (x : Exec) : State :=
  match ((s.execs.find? (fun y => y.id == x.id)).getD x).mirrorAt with
  | none => s
  | some t =>
    let gone := s.twin.unconf.filter (fun i => !i.what.ready && decide (t ≤ i.tseq) && decide (i.tseq < t + 2 * x.cmd.count))
    if gone = [] then s
    else
      let f := seqWithout gone
      let left := s.twin.unconf.filter (fun i => !gone.any (fun g => g.tseq == i.tseq))
      let upd (y : Exec) : Exec := { y with mirrorAt := y.mirrorAt.map f, tseq := y.tseq.map (fun k => f (k + 1) - 1) }
      ({ s with
          execs := s.execs.map upd,
          twin := { s.twin with
            unconf := left.map (fun (i : TwinItem) => { i with tseq := f i.tseq }), txNext := f s.twin.txNext,
            swapSeq := s.twin.swapSeq.map f, unpairSeq := s.twin.unpairSeq.map f } }).twinGo

/-- Is a block finished for its command? -/
def Exec.blkDone (x : Exec) (b : Blk) : Bool :=
  match x.cmd.opcode with
  | 1 => b.codec == .good && b.posted && !b.pulled
  | 5 => b.codec == .good
  | _ => b.pass == .done

/-- Blocks of a Pocket in one segment (R448, R453). -/
def segBlocks : Nat := 52224

/-- Leading finished blocks (R345): those of a TRIM lie in the segments done so far, a FLUSH has none. -/
def Exec.leading (x : Exec) : Nat :=
  match x.cmd.opcode with
  | 3 =>
    if x.blks = [] then x.cmd.count
    else min x.cmd.count ((x.cmd.lba / segBlocks + (x.blks.takeWhile x.blkDone).length) * segBlocks - x.cmd.lba)
  | 4 => 0
  | _ => (x.blks.takeWhile x.blkDone).length

/-- The TSEQ of the last item so far. -/
def State.lastTseq (s : State) : Option Nat := if s.mirrors then some (s.twin.txNext - 1) else none

/-- The first `n` blocks of a TRIM are unmapped: its delta record, its marks and its item follow (R343, R450, R459, R871, R883). At SET it also
waits for the record, which `settle` sends on its way. -/
def State.trimDone (s : State) (x : Exec) (n : Nat) : State :=
  let c := x.cmd
  let s1 := ((s.trimRecord x.pocket c.lba n).markRange x.pocket c.lba n).mirror (.trim c.lba x.pocket n)
  s1.setExec { x with blks := [], delta := some (s.flash.wseq + 1), tseq := s1.lastTseq }

/-- A TRIM that ends with only a part of its range unmapped leaves that part as a whole one does (R345). -/
def State.trimCut (s : State) (x : Exec) : State :=
  if x.cmd.opcode = 3 ∧ x.blks ≠ [] ∧ 0 < x.leading then s.trimDone x x.leading else s

/-- A command in execution ends: its completion is posted and its latches are zeroized (R344 to R347, R631). -/
def State.finishExec (s0 : State) (x : Exec) (st : Status) (done : Nat) : State :=
  let s := s0.trimCut x
  let lvl := if st = .done then (if x.cmd.opcode = 4 then 3 else if x.cmd.opcode = 2 ∨ x.cmd.opcode = 3 ∨ x.cmd.opcode = 6 then x.level else 0) else 0
  let c : Completion :=
    { ref := x.cmd.ref, pocket := x.pocket, opcode := x.cmd.opcode, begun := x.begun, sentAll := x.blks.all (fun b => b.sent),
      tag := x.cmd.tag, status := st.code, level := lvl, through := x.through, prefetchHit := x.hit, queue := x.queue,
      blocks := done, nonceSerial := if x.reportsNonce then s.get SYS_SERIAL.SERIAL else 0,
      nonceCount := if x.reportsNonce then x.nonce else 0, inbound := x.cmd.inbound }
  (((((s.cutMirror x).dropExec x.id).dropUnconfirmed x).postCpl x.queue c).deletionUnmap x.pocket).swapGo

/-- The level a WRITE, TRIM or COPY must reach now: PAIRED becomes SET once the twinset does not mirror (R53). -/
def State.levelNow (s : State) (x : Exec) : Nat := if x.level = 2 ∧ s.mirroring = false then 3 else x.level

/-- Has the command's level been reached (Table SYS-2, R343, R874)? -/
def State.levelReached (s : State) (x : Exec) : Bool :=
  match s.levelNow x with
  | 0 => true
  | 1 => true
  | 2 => s.confirmedSeq x.tseq
  | _ => x.unset.isEmpty && x.delta.isNone && s.confirmedSeq x.tseq

/-- The block a WRITE or COPY writes, its `i`th. -/
def Exec.target (x : Exec) (i : Nat) : Nat := (if x.cmd.opcode = 6 then x.cmd.dst else x.cmd.lba) + i

/-- The twinset ends or loses its secondary: what the command had in the mirror is no longer awaited. -/
def Exec.apart (x : Exec) : Exec := { x with mirrorAt := none, tseq := none, mirrored := false }

/-- A block of a command replaced. -/
def Exec.setBlk (x : Exec) (i : Nat) (b : Blk) : Exec := { x with blks := x.blks.set i b }

/-- The command's last mirror item so far. -/
def State.setTseq (s : State) (id n : Nat) : State :=
  { s with execs := s.execs.map (fun y => if y.id = id then { y with tseq := some n } else y) }

/-- The `i`th block that a WRITE or COPY writes is written: its region is marked, as it was at the admission, for a copy of the region may have
been taken in between (R883, R884; assumption log entry 210). The two items of a WRITE's block carry its bytes. A WRITE or COPY admitted
before the present mirroring began has none yet, and gets them now (R870, R871). -/
def State.mirrorBlk (s0 : State) (x : Exec) (i : Nat) (b : Blk) : State :=
  let s := s0.markRange x.pocket (x.target i) 1
  match x.mirrorAt with
  | some t => s.fillMirror t i b.data b.check
  | none =>
    if x.mirrored || !s.mirrors then s
    else
      let n := s.twin.txNext
      if b.data = [] then (s.mirror (.unmap (x.target i) x.pocket 1)).setTseq x.id n
      else
        ((s.mirrorWrite x.pocket (x.target i) 1 (x.cmd.flags.testBit 3) x.cmd.ikey (x.nonce + i)).fillMirror n 0 b.data b.check).setTseq
          x.id (n + 1)

/-- A block that is ready is written: it enters the cache, or is unmapped as its COPY's source is (R345, R395, R449); `none` while there is no
place for it, or the map cannot take the change (R456, R457). -/
def State.writeHeld (s : State) (x : Exec) (i : Nat) (b : Blk) : Option State :=
  let y := x.setBlk i { b with pass := .done, place := .nowhere }
  let l := x.target i
  if b.data = [] then
    if s.mayUnmap x.pocket l 1 then
      let s1 := s.trimRange x.pocket l 1
      some ((s1.setExec { y with unset := y.unset.filter (fun k => k ≠ l), delta := some s1.flash.wseq }).mirrorBlk x i b)
    else none
  else if s.blockRoom x.pocket l x.through then
    some (((s.setExec y).writeBlock x.pocket l x.through b.data b.check x.id).mirrorBlk x i b)
  else none

/-- The blocks of a WRITE or COPY that are ready are written in ascending order, so that those after a failure stay as they were (R345). One that
is to be unmapped may need its segment first. -/
def State.writeReady (s : State) (id : Nat) : Nat → State
  | 0 => s
  | n + 1 =>
    match s.execs.find? (fun y => y.id == id) with
    | none => s
    | some x =>
      let i := (x.blks.takeWhile (fun b => b.pass == .done)).length
      match x.blks[i]? with
      | none => s
      | some b =>
        if b.pass = .held then
          match s.writeHeld x i b with
          | some t => t.writeReady id n
          | none => if b.data = [] then s.needSeg (s.segOf x.pocket (x.target i / 4)) else s
        else s

/-- A TRIM unmaps its range segment by segment, in ascending order: each waits for its map row and for the DIRTY cap (R450, R456, R457). After
the last it is made whole. -/
def State.trimReady (s : State) (id : Nat) : Nat → State
  | 0 => s
  | n + 1 =>
    match s.execs.find? (fun y => y.id == id) with
    | none => s
    | some x =>
      let k := (x.blks.takeWhile (fun b => b.pass == .done)).length
      match x.blks[k]? with
      | none => if x.blks = [] then s else s.trimDone x x.cmd.count
      | some b =>
        let lo := x.cmd.lba + x.leading
        let hi := min (x.cmd.lba + x.cmd.count) ((lo / segBlocks + 1) * segBlocks)
        if s.mayUnmap x.pocket lo (hi - lo) then
          let s1 := s.unmapBlocks x.pocket lo (hi - lo)
          (s1.setExec (x.setBlk k { b with codec := .good, pass := .done })).trimReady id n
        else s.needSeg (s.segOf x.pocket (lo / 4))

/-- A record that a command at SET waits for still lies in the open delta page. -/
def State.deltaWaits (s : State) (x : Exec) : Bool :=
  s.levelNow x == 3 && (match x.delta with | some w => s.flash.deltas.any (fun d => decide (d.wseq ≤ w)) | none => false)

/-- The command ends when what it waits for has come about: a lost block after its finished ones (R374), or all of it. One that must reach
SET has its delta record programmed (R343, R459). -/
def State.settleOne (s : State) (x : Exec) : State :=
  let k := (x.blks.takeWhile x.blkDone).length
  match x.blks[k]? with
  | some b =>
    match b.codec with
    | .lost st => s.finishExec x ((Status.ofCode st).getD .mediaUncorrectable) x.leading
    | _ => s
  | none =>
    match x.cmd.opcode with
    | 1 => s.finishExec x .done x.cmd.count
    | 5 => s.finishExec x .done x.cmd.count
    | 4 => if x.unset.isEmpty && x.delta.isNone then s.finishExec x .done 0 else s
    | 7 => s
    | _ =>
      if s.levelReached x then s.finishExec { x with level := s.levelNow x } .done x.cmd.count
      else if s.deltaWaits x then s.sendDeltas else s

/-- One command goes on: what it has ready is written or unmapped, and it ends when it can. -/
def State.settleId (s : State) (id n : Nat) : State :=
  let s1 := match s.execs.find? (fun y => y.id == id) with
    | some x => if x.cmd.opcode = 3 then s.trimReady id (n + 1) else s.writeReady id n
    | none => s
  match s1.execs.find? (fun y => y.id == id) with
  | some y => s1.settleOne y
  | none => s1

/-- A command in execution ends early with a status (R345, R632). -/
def State.abortExec (s : State) (x : Exec) (st : Status) : State := s.finishExec x st x.leading

/-- The command in execution that a queue and tag name. -/
def State.execOf (s : State) (q tag : Nat) : Option Exec := s.execs.find? (fun x => x.queue == q && x.cmd.tag == tag)

/-- A confirmed block goes on: to a bulk core, or straight to the host when it needs none. -/
def State.onGood (s : State) (x : Exec) (i : Nat) (b : Blk) : State × Blk :=
  match x.cmd.opcode with
  | 1 =>
    if b.pass = .done ∧ b.posted = false then (s.postBlock x i b.plain, { b with posted := true })
    else if b.pass = .none then (s, { b with pass := .wait false })
    else (s, b)
  | 6 => if b.pass = .none then (s, { b with pass := .wait false }) else (s, b)
  | _ => (s, b)

/-- A block that has just become confirmed goes on. -/
def State.advanceBlk (s : State) (id i : Nat) : State :=
  match s.execs.find? (fun y => y.id == id) with
  | none => s
  | some x =>
    match x.blks[i]? with
    | none => s
    | some b => if b.codec = .good then let (s1, b1) := s.onGood x i b; s1.setExec (x.setBlk i b1) else s

/-- Every command in execution goes on, in dispatch order, and ends when it has what it waits for. -/
def State.settleAll (s : State) : State := s.execs.foldl (fun t x => t.settleId x.id x.blks.length) s

/-- A block's bytes need their place no more: a READ's have been sent, a VERIFY's are confirmed, a WRITE's or COPY's are written. -/
def Exec.leaves (x : Exec) (b : Blk) : Bool :=
  match x.cmd.opcode with
  | 1 => b.codec == .good && b.sent
  | 5 => b.codec == .good
  | _ => b.pass == .done

/-- Has a block bytes to write that have found no place yet? -/
def Exec.unplaced (x : Exec) (b : Blk) : Bool := x.cmd.opcode == 2 && b.plain != [] && b.pass != .done && b.place == .nowhere

/-- Data buffers that a command's blocks need no more are free. -/
def State.unseat (s : State) : State :=
  let free (x : Exec) (b : Blk) : Blk := if x.leaves b then { b with place := .nowhere } else b
  { s with execs := s.execs.map (fun x => { x with blks := x.blks.map (free x) }) }

/-- A block that waited for its data buffer starts (R97). -/
def State.startRoom (s : State) (x : Exec) (i : Nat) (p : Spot) : State :=
  let lba := x.cmd.lba + i
  let nb := { s.source x.pocket lba x.cmd with place := p }
  let b : Blk := match nb.codec with
    | .media _ _ => if x.baste then { nb with pass := .wait false } else nb
    | _ => if x.cmd.opcode = 6 then nb.forCopy else nb
  let lbas := if b.codec = .flush then [lba] else []
  let s1 := (s.startBlock x.pocket lba b).awaitProgram x.id x.pocket lbas
  (s1.setExec { x.setBlk i b with unset := x.unset ++ lbas }).advanceBlk x.id i

/-- One block that waits for its place takes a free one: after the staging path has ended a READ's needs none. -/
def State.seatBlk (s : State) (id i : Nat) : State :=
  match s.execs.find? (fun y => y.id == id) with
  | none => s
  | some x =>
    match x.blks[i]? with
    | none => s
    | some b =>
      let p := if s.staging then freeSpot .buffer s.spots 512 else .nowhere
      if b.codec = .room then (if p = .nowhere ∧ s.staging = true then s else s.startRoom x i p)
      else if x.unplaced b then s.setExec (x.setBlk i { b with place := p })
      else s

/-- Blocks that wait for their places, by command and number. -/
def State.unseated (s : State) : List (Nat × Nat) :=
  s.execs.flatMap (fun x => ((List.range x.blks.length).filter (fun i =>
    match x.blks[i]? with | some b => b.codec == .room || x.unplaced b | none => false)).map (fun i => (x.id, i)))

/-- Every command in execution goes on; blocks that waited for data buffers take those that have become free, and go on too (R97). -/
def State.settle (s : State) : State :=
  let t := s.settleAll
  if t.execs.isEmpty then t
  else
    let u := t.unseat
    let ws := u.unseated
    if ws.isEmpty then u else (ws.foldl (fun v w => v.seatBlk w.1 w.2) u).settleAll

end Sys2Proof.Machine
end

