-- ==== Sys2Proof/Machine/KeyOps.lean ====
section
/-!
DEFINITION. Sys2Proof/Machine/KeyOps.lean: key slots, the updates of the key journal, and the steps of a Pocket's deletion
(chapters 06 and 11: R319, R320, R630 to R641, R995).
-/
namespace Sys2Proof.Machine
open Sys2Proof

/-- The name of a slot, in a notice. -/
def State.keyNote (s : State) (ev : String) (slot : Nat) : State := s.notify ev [("slot", keySlotId slot)]

/-- FQ0 and FQ8 serve: without them a key journal update is refused (R784). -/
def State.journalServes (s : State) : Bool := s.domIn 1 && s.domIn 9

/-- The next update that waits starts, unless an update or an erase runs (R635, R640). One without a line counts its 25 ms from
here. -/
def State.nextUpdate (s : State) : State :=
  match s.keys.update, s.keys.waiting with
  | none, u :: r =>
    if s.keys.erasing || !s.journalServes then s
    else
      let v : KeyUpdate := if u.line then u else { u with startUs := s.clk }
      { s with keys := { s.keys with update := some v, waiting := r } }
  | _, _ => s

/-- A journal update is asked for (R635); one that arrives while an update or an erase runs waits (R640). -/
def State.startUpdate (s : State) (u : KeyUpdate) : State :=
  ({ s with keys := { s.keys with waiting := s.keys.waiting ++ [u] } }).nextUpdate

/-- A slot that is EMPTY. -/
def KeySlot.none : KeySlot := { state := .empty, kind := 0, owner := 0, material := [], lost := false }

/-- A slot's new content; UPDATE_LOST stands until it is cleared (R638), and an EMPTY slot without it is not listed. -/
def setSlot (l : List (Nat × KeySlot)) (code : Nat) (k : Option KeySlot) : List (Nat × KeySlot) :=
  let lost := match l.lookup code with | some x => x.lost | Option.none => false
  let n : KeySlot := { k.getD KeySlot.none with lost := lost }
  if n = KeySlot.none then l.filter (fun y => y.1 ≠ code) else putSorted code n l

/-- The slots with UPDATE_LOST cleared in some of them (R1010). -/
def clearLost (l : List (Nat × KeySlot)) (cs : List Nat) : List (Nat × KeySlot) :=
  (l.map (fun x => if cs.contains x.1 then (x.1, { x.2 with lost := false }) else x)).filter (fun x => x.2 ≠ KeySlot.none)

/-- The slots as an update leaves them. -/
def KeyUpdate.slots (u : KeyUpdate) (l : List (Nat × KeySlot)) : List (Nat × KeySlot) :=
  if u.clears = [] then setSlot l u.slot u.content else clearLost l u.clears

/-- Do execution latches hold the slot's key (R632)? -/
def Exec.latches (x : Exec) (code : Nat) : Bool :=
  (x.dkey.isSome && x.cmd.dkey == code) || (x.ikey.isSome && x.cmd.ikey == code)

/-- Commands that hold a latch of the slot. -/
def State.latchesOf (s : State) (code : Nat) : List Exec := s.execs.filter (fun x => x.latches code)

/-- A slot, EMPTY where none is listed. -/
def State.slot (s : State) (code : Nat) : KeySlot := (s.keys.slots.lookup code).getD KeySlot.none

/-- A command that waits in a ring notes that a slot it names has entered RETIRING (R358). -/
def Cmd.noteRetired (code : Nat) (c : Cmd) : Cmd :=
  if (c.usesDkey && c.dkey == code) || (c.flags.testBit 3 && c.ikey == code) then { c with retired := code :: c.retired } else c

/-- A LOADED slot enters RETIRING and drains (R632); the waiting commands of its owner that name it note it. -/
def State.retireSlot (s : State) (code : Nat) : State :=
  let k := s.slot code
  if k.state = .loaded then
    let note (q : Nat × QueuePair) : Nat × QueuePair :=
      if q.2.pocket = k.owner then (q.1, { q.2 with waiting := q.2.waiting.map (Cmd.noteRetired code) }) else q
    { s with
      queues := s.queues.map note,
      keys := { s.keys with
        slots := putSorted code { k with state := .retiring } s.keys.slots, drains := s.keys.drains ++ [(code, s.clk)] } }
  else s

/-! ### A Pocket's deletion -/

/-- Does a deletion's step 5 still have a slot to erase (R319)? -/
def State.slotsOwned (s : State) (p : Nat) : Bool := s.keys.slots.any (fun k => k.2.owner == p && k.1 < 512 && k.2.state != .empty)

/-- The reply of `pocket suspend`, `resume` and `delete` (Table CMDA-2). -/
def pocketStateKv (p : Nat) (st : String) : List KV := [("pocket", pocketId p), ("state", st)]

/-- The deletion of a Pocket has committed its step 5: the line that asked for it is answered, or its job ends (R995); a secondary
acknowledges the item. -/
def State.deletionDone (s : State) (p : Nat) : State :=
  s.finishFor (.pocketDelete p) (fun t => .ok t [] (pocketStateKv p "deleting"))

/-- Has a delta record of the Pocket not reached flash yet? -/
def State.deltaOpen (s : State) (p : Nat) : Bool :=
  s.flash.deltas.any (fun d => d.pocket == p) ||
  s.flash.progs.any (fun g => match g.kind with | .delta rs => rs.any (fun d => d.pocket == p) | _ => false)

/-- One Pocket's deletion goes on: its map delta committed, its slots drain and are emptied one by one (R319, R995). -/
def State.deletionStep (s : State) (p : Nat) : State :=
  match s.pockets.lookup p with
  | none => s
  | some k =>
    if k.state ≠ .deleting then s
    else if k.delStep = 3 ∧ s.deltaOpen p = false then
      let codes := (s.keys.slots.filter (fun x => x.2.owner == p && decide (x.1 < 512))).map (·.1)
      let s1 := codes.foldl State.retireSlot (s.setPocket p { k with delStep := 4 })
      if s1.slotsOwned p then s1 else (s1.setPocket p { k with delStep := 5 }).deletionDone p
    else if k.delStep = 4 ∧ s.slotsOwned p = false then (s.setPocket p { k with delStep := 5 }).deletionDone p
    else s

/-- Every deletion goes on as far as it can. -/
def State.deletionsGo (s : State) : State := s.pockets.foldl (fun t x => t.deletionStep x.1) s

/-- A line, or a line item of the primary, waits for the journal. -/
def State.journalLine (s : State) : Bool :=
  (s.awaiting .journal).isSome || (match s.twin.lineAwait with | some l => l.2 == .journal | none => false)

/-- The drain of a RETIRING slot ends: the update that empties it is asked for (R632). The line that asked for a `key erase` is
answered by that update. -/
def State.drainEnds (s : State) (slot : Nat) : State :=
  let began := s.keys.drains.lookup slot
  let s1 := { s with keys := { s.keys with drains := s.keys.drains.filter (fun d => d.1 ≠ slot) } }
  let u : KeyUpdate := {
    slot := slot, content := none, startUs := began.getD s.clk, line := s.journalLine, clears := [],
    kv := [("slot", keySlotId slot), ("state", "empty"), ("jseq", "")], data := [] }
  s1.startUpdate u

/-! ### The journal's copies -/

/-- The slots that an image lists. -/
def imageSlots (l : List (Nat × KeySlot)) : List (Nat × KeySlot) := l.filter (fun x => x.2.state != .empty || x.2.lost)

/-- Pages of an update are programmed into the inactive copy: `n` image pages, and the commit page after them or not (R635). -/
def Keys.program (k : Keys) (u : KeyUpdate) (n : Nat) (commit : Bool) : Keys :=
  let c := 1 - k.active
  let g : JImage :=
    { jseq := k.jseq + 1, slot := u.slot, slots := imageSlots (u.slots k.slots), block := k.blocks.getD c 0, pages := n, commit := commit }
  { k with
    copies := k.copies.set c (k.copies.getD c [] ++ [g]),
    room := k.room.set c (k.room.getD c 0 - (if commit then n + 1 else n)) }

/-- The slot that an interrupted update names: a copy holds image pages after its last commit (R638). -/
def Keys.interruptedSlot (k : Keys) : Option Nat :=
  k.copies.findSome? (fun c => match c.getLast? with
    | some g => if g.commit then none else some g.slot
    | none => none)

/-- The newest valid image: its commit page and its four image pages pass their CRCs (R637). `bad` names the pages that do not: copy, JSEQ, page
index, 12 for the commit page. With it, the copy that holds it. -/
def Keys.newestImage (k : Keys) (bad : List (Nat × Nat × Nat)) : Option (Nat × JImage) :=
  let ok (c : Nat) (g : JImage) : Bool := g.commit && g.pages == 4 && [0, 1, 2, 3, 12].all (fun p => !bad.contains (c, g.jseq, p))
  let all := (List.range 2).flatMap (fun c => ((k.copies.getD c []).filter (ok c)).map (fun g => (c, g)))
  all.foldl (fun (m : Option (Nat × JImage)) (x : Nat × JImage) =>
    match m with
    | some y => if y.2.jseq < x.2.jseq then some x else m
    | none => some x) none

/-- The blocks of a journal copy on its LUN: 8 to 11, a bad one replaced by the next good block of 12 to 15 (R634). -/
def State.journalBlocks (s : State) (copy : Nat) : List Nat :=
  let ch := if copy = 0 then 0 else 32
  ((List.range 8).map (fun k => 8 + k)).filter (fun b => !s.flash.retired.contains (lunBlock ch 0 b)) |>.take 4

/-- Pages in a block of a journal copy: its LUN is (c, 0, 0) on C00 or C32 (R634). -/
def State.journalPages (s : State) (copy : Nat) : Nat :=
  match s.die (if copy = 0 then 0 else 32) 0 with | some d => d.planes * d.pages | none => 0

/-- The next block of a copy is erased and becomes its current one (R640); what it held is gone. -/
def State.eraseJournal (s : State) (copy pages : Nat) : State :=
  let n := (s.keys.blocks.getD copy 0 + 1) % 4
  let s1 := s.countErase (if copy = 0 then 0 else 32) 0 ((s.journalBlocks copy).getD n 8)
  { s1 with keys := { s1.keys with
    erasing := false, room := s1.keys.room.set copy pages, blocks := s1.keys.blocks.set copy n,
    copies := s1.keys.copies.set copy ((s1.keys.copies.getD copy []).filter (fun g => g.block != n)) } }

/-! ### The end of an update -/

/-- An update ends without a commit (R638, R641): where image pages had been programmed the slot is marked UPDATE_LOST. A slot that was
to be emptied stays as it was: LOADED; a Pocket's deletion drains it again, and its command fails. -/
def State.updateFails (s : State) (u : KeyUpdate) (paged : Bool) : State :=
  let s1 := { s with keys := { s.keys with update := none, waiting := s.keys.waiting.filter (fun w => w ≠ u) } }
  let k := s1.slot u.slot
  let k1 : KeySlot := if k.state = .retiring then { k with state := .loaded } else k
  let s2 := if k.state = .retiring then { s1 with keys := { s1.keys with slots := putSorted u.slot k1 s1.keys.slots } } else s1
  let s3 :=
    if paged then
      let ks := s2.keys.program u 1 false
      ({ s2 with keys := { ks with
        slots := putSorted u.slot { k1 with lost := true } ks.slots, interrupted := some u.slot } }).keyNote "key update lost" u.slot
    else s2
  if u.line then s3.finishFor .journal (fun t => .er t .timeout)
  else
    match s3.pockets.lookup k.owner with
    | some p =>
      if p.state = .deleting then
        (s3.retireSlot u.slot).finishFor (.pocketDelete k.owner) (fun t => .er t .timeout)
      else s3
    | none => s3

end Sys2Proof.Machine
end

