-- ==== Sys2Proof/Machine/ArbOps.lean ====
section
/-!
DEFINITION. Sys2Proof/Machine/ArbOps.lean: acceptance checks, the arbiter, and what dispatching each opcode does
(chapters 06, 07 and 11).
-/
namespace Sys2Proof.Machine
open Sys2Proof

/-! ### Submission entries (Table POC-5) -/

/-- A field of a submission entry. -/
def entryField (e : Bytes) (off n : Nat) : Nat := leNat ((e.drop off).take n)

/-- A command as its entry spells it; `ref` is its acceptance number. -/
def Cmd.ofEntry (e : Bytes) (us ref : Nat) : Cmd :=
  { opcode := entryField e 0 1, flags := entryField e 1 1, tag := entryField e 2 2, lba := entryField e 8 6,
    count := entryField e 16 4, dkey := entryField e 20 2, ikey := entryField e 22 2, handle := entryField e 24 8,
    acceptedUs := us, received := 0, bad := false, bytes := [], units := [], nwait := false, ref := ref, retired := [] }

def Cmd.fua (c : Cmd) : Bool := c.flags.testBit 0
def Cmd.ack (c : Cmd) : Nat := c.flags / 2 % 4
def Cmd.integ (c : Cmd) : Bool := c.flags.testBit 3

/-- Every field that the opcode does not use, and every reserved byte or bit, is zero (R338, Table POC-7). -/
def fieldsZero (c : Cmd) (e : Bytes) : Bool :=
  decide (c.flags < 16) && entryField e 4 4 == 0 && entryField e 14 2 == 0 && entryField e 32 32 == 0 &&
  (c.integ || c.ikey == 0) &&
  match c.opcode with
  | 1 => c.ack == 0
  | 2 => true
  | 3 => c.dkey == 0 && c.ikey == 0 && !c.integ && !c.fua
  | 4 => c.lba == 0 && c.count == 0 && c.dkey == 0 && c.ikey == 0 && c.flags == 0
  | 5 => c.dkey == 0 && c.ack == 0
  | 6 => decide (c.handle < 2 ^ 48)
  | 7 => c.lba == 0 && c.dkey == 0 && c.ack == 0 && !c.fua
  | _ => true

/-- COUNT, flags and slot numbers are in range (Table POC-7); a COPY's ranges do not overlap. -/
def fieldsInRange (c : Cmd) : Bool :=
  decide (c.dkey < 512) && decide (c.ikey < 512) &&
  match c.opcode with
  | 3 => decide (1 ≤ c.count)
  | 4 => true
  | 6 => decide (1 ≤ c.count) && decide (c.count ≤ 65536) && (decide (c.lba + c.count ≤ c.dst) || decide (c.dst + c.count ≤ c.lba))
  | 7 => decide (1 ≤ c.count) && decide (c.count ≤ 65536) && c.integ
  | _ => decide (1 ≤ c.count) && decide (c.count ≤ 65536)

/-- Tags that hold a slot on a queue (R330, R335). -/
def State.tagsTaken (s : State) (q : Nat) (k : QueuePair) : List Nat :=
  k.waiting.map (·.tag) ++ (s.execs.filter (fun x => x.queue == q)).map (fun x => x.cmd.tag) ++ k.doneTags.map (·.tag)

/-- The depth in force (R96, R331). -/
def State.depthOf (s : State) (k : QueuePair) : Nat := if s.staging then min 16 k.depth else k.depth

/-- The domain of a queue's quarter (R324). -/
def queueDomain (q : Nat) : Nat := 39 + q / 256

/-- Every range of a command lies in the namespace (check 7). -/
def State.rangesFit (s : State) (p : Nat) (c : Cmd) : Bool :=
  let n := match s.pockets.lookup p with | some k => 4 * k.size | none => 0
  match c.opcode with
  | 4 => true
  | 7 => true
  | 6 => decide (c.lba + c.count ≤ n) && decide (c.dst + c.count ≤ n)
  | _ => decide (c.lba + c.count ≤ n)

/-- The completions that the host has not yet acknowledged: posted, refusals, and those in frames (R330, R333). -/
def State.cplsOut (s : State) : List Completion :=
  s.slv.posted ++ s.refusals ++ (s.slv.newItems.map TxItem.entries).flatten ++ (s.slv.unacked.map (fun i => i.item.entries)).flatten

/-- Bytes counted in the inbound window (R405, R406): the data of every WRITE and SEAL submitted whose completion the host has not acknowledged, refused ones
among them. More than the window in one command is no data that the host may have sent. -/
def State.inboundHeld (s : State) : Nat :=
  (s.queues.map (fun x => (x.2.waiting.map (fun c => c.inbound)).sum)).sum + (s.execs.map (fun x => x.cmd.inbound)).sum +
  ((s.cplsOut.map (fun c => c.inbound)).filter (fun n => decide (n ≤ mib s.cache.window))).sum

/-- Inbound data held: what waits for the dispatch of its command (R404, Table BST-3). -/
def State.inboundData (s : State) : Nat := (s.queues.map (fun x => (x.2.waiting.map (fun c => c.bytes.length)).sum)).sum

/-- The card is being removed, reset or started (check 3). -/
def State.notReadyNow (s : State) : Bool := !s.ready || s.removing || s.boot.pending.isSome

/-- Check 4: LIMP, a secondary whose primary is in service, or a card booted FACTORY. -/
def State.servesNoData (s : State) : Bool :=
  s.limp || s.twinState == 4 || s.twinState == 5 || s.twinState == 6 || s.factory

/-- Checks 3 to 7 and the inbound window, in order (R341, R406); `none` when all pass. -/
def State.entryFault (s : State) (q : Nat) (k : QueuePair) (c : Cmd) (e : Bytes) : Option Status :=
  if s.notReadyNow then some .notReady
  else if s.servesNoData then some .wrongState
  else if c.opcode = 0 ∨ 7 < c.opcode then some .badVerb
  else if !fieldsZero c e || !fieldsInRange c || (s.tagsTaken q k).contains c.tag then some .badArg
  else if !s.rangesFit k.pocket c then some .quota
  else if 0 < c.inbound ∧ mib s.cache.window < s.inboundHeld + c.inbound then some .budget
  else none

/-- A completion without a slot joins the refusal list, or is discarded and counted (R333, R334). -/
def State.refuse (s : State) (q : Nat) (cmd : Cmd) (st : Status) : State :=
  if s.refusals.length < 256 then
    let c : Completion :=
      { ref := cmd.ref, pocket := 0, opcode := 0, begun := false, sentAll := false, tag := cmd.tag, status := st.code, level := 0, through := false, prefetchHit := false, queue := q, blocks := 0,
        nonceSerial := 0, nonceCount := 0, inbound := cmd.inbound }
    { s with refusals := s.refusals ++ [c] }
  else
    let s1 := s.count QUE_OVERRUN.COUNT 1
    let due := match s1.arb.overruns.lookup q with | some t => decide (t + 1000000 ≤ s1.clk) | none => true
    if due then
      ({ s1 with arb := { s1.arb with overruns := upsert q s1.clk s1.arb.overruns } }).notify "queue overrun" [("q", queueId q)]
    else s1

/-- An entry takes a ring slot, completes at once, or is refused without a slot. A queue quarter that is not in service answers as OFF
(R362, R1171). -/
def State.takeEntry (s : State) (q : Nat) (c : Cmd) (e : Bytes) (badFrame : Bool) : State :=
  if badFrame then s.refuse q c .badFrame
  else if 1024 ≤ q then s.refuse q c .noQueue
  else if s.domServes (queueDomain q) = false then s.refuse q c .domainOff
  else
    match s.queues.lookup q with
    | none => s.refuse q c .noQueue
    | some k =>
      if k.state ≠ .opened then s.refuse q c .noQueue
      else if s.depthOf k ≤ (s.tagsTaken q k).length then s.refuse q c .queueFull
      else
        match s.entryFault q k c e with
        | some st =>
          let s1 := if st = .budget then s.count CCH_OVERRIDE.COUNT 1 else s
          s1.postCpl q (c.completion q k.pocket st 0)
        | none => s.setQueue q { k with waiting := k.waiting ++ [c] }

/-- ENTRY_ACCEPT (R341): every entry gets an acceptance number. -/
def State.acceptEntry (s : State) (q : Nat) (e : Bytes) (badFrame : Bool) : State :=
  ({ s with arb := { s.arb with nextRef := s.arb.nextRef + 1 } }).takeEntry q (Cmd.ofEntry e s.clk s.arb.nextRef) e badFrame

/-- The 64-byte entries of a CMD payload. -/
def entriesOf : Nat → Bytes → List Bytes
  | 0, _ => []
  | n + 1, b => if b.length < 64 then [] else b.take 64 :: entriesOf n (b.drop 64)

/-! ### Eligibility (R349, R350, R355) -/

/-- The range a command writes, and the range it reads. -/
def Cmd.writes (c : Cmd) : Nat × Nat :=
  match c.opcode with
  | 2 => (c.lba, c.count)
  | 3 => (c.lba, c.count)
  | 6 => (c.dst, c.count)
  | _ => (0, 0)
def Cmd.reads (c : Cmd) : Nat × Nat :=
  match c.opcode with
  | 1 => (c.lba, c.count)
  | 5 => (c.lba, c.count)
  | 6 => (c.lba, c.count)
  | _ => (0, 0)

def overlap (a b : Nat × Nat) : Bool := decide (a.1 < b.1 + b.2) && decide (b.1 < a.1 + a.2) && decide (0 < a.2) && decide (0 < b.2)

/-- Has a writer's effect reached the cache or the map? -/
def Exec.applied (x : Exec) : Bool := x.blks.all (fun b => b.pass == .done)

/-- The bytes of a block that an earlier command reads are not fixed yet: its page is not known, or only the cache holds them and they might
have to be read again (R375, R398, R456). -/
def Blk.unfixed (b : Blk) : Bool :=
  match b.codec with
  | .seg _ => true
  | .flush => true
  | .mac _ => b.ppa.isNone
  | _ => false

/-- The ordering rules stop the command: an earlier writer of its Pocket that overlaps it is not applied yet, or an earlier command still
reads blocks that it would write (R355). -/
def State.orderHolds (s : State) (p : Nat) (c : Cmd) : Bool :=
  s.execs.any (fun x => x.pocket == p &&
    ((!x.applied && (overlap x.cmd.writes c.reads || overlap x.cmd.writes c.writes)) ||
     ((List.range x.blks.length).any (fun i => overlap (x.cmd.lba + i, min 1 x.cmd.reads.2) c.writes &&
       (match x.blks[i]? with | some b => b.unfixed | none => false)))))

/-- Both quads that hold the nonce log are out of service (R614). -/
def State.noReservation (s : State) : Bool := !s.domIn 5 && !s.domIn 13

/-- Counter values the command needs (R346). -/
def Cmd.nonces (c : Cmd) : Nat :=
  if !c.integ then 0 else if c.opcode = 2 ∨ c.opcode = 6 then c.count else if c.opcode = 7 then 1 else 0

/-- The command waits for a reservation record (R614). -/
def State.nonceHolds (s : State) (c : Cmd) : Bool :=
  decide (0 < c.nonces) && decide (s.keys.limit < s.keys.nonce + c.nonces) && decide (s.keys.nonce + c.nonces ≤ 2 ^ 64) &&
  !s.noReservation

/-- Dispatches into a region on its fifth copy wait for its REGION_END (R885). -/
def State.regionHolds (s : State) (p : Nat) (c : Cmd) : Bool :=
  s.twin.inCopy.any (fun r => r.pocket == p && overlap c.writes (256 * r.region, 256) &&
    decide (4 ≤ ((s.twin.copies.find? (fun k => k.1 == p && k.2.1 == r.region)).map (fun k => k.2.2)).getD 0))

/-- The bulk pairs in service that take new work. -/
def State.pairsTaking (s : State) : List Nat := [33, 34, 35, 36].filter (fun d => s.domIn d && !s.draining d)

/-- Does a block that the command reads lie on a channel whose quad or pool drains? -/
def State.readsDraining (s : State) (p : Nat) (c : Cmd) : Bool :=
  (List.range c.reads.2).any (fun i =>
    let lba := c.lba + i
    let e := s.entry p (lba / 4)
    (c.fua || (s.cached p lba).isNone) && (entryValid e).testBit (lba % 4) && !s.takesWork (ppaCh (entryPpa e)))

/-- A dispatch that needs a draining domain alone waits (R772). -/
def State.drainHolds (s : State) (q p : Nat) (c : Cmd) : Bool :=
  s.draining (queueDomain q) || (c.integ && s.draining 38) ||
  ((c.opcode == 1 || c.opcode == 2 || c.opcode == 6) && s.pairsTaking.isEmpty && [33, 34, 35, 36].any (fun d => s.domIn d)) ||
  s.readsDraining p c

/-- New dispatches are stopped: the start-up ladder has not reached READY, the card is being removed, or a flush before a
reset runs (R104, R735); a twinset swaps its roles (R1081). -/
def State.dispatchStopped (s : State) : Bool := !s.ready || s.removing || s.boot.pending.isSome || s.asleep || s.twin.swapUs.isSome

/-- Commands of a Pocket in execution. -/
def State.inFlight (s : State) (p : Nat) : Nat := (s.execs.filter (fun x => x.pocket == p)).length

/-- The class whose pointer is on a visit to the Pocket: a visit under way keeps its class and its in-flight limit (R322). -/
def State.visitOf (s : State) (p : Nat) : Option Nat :=
  (List.range 3).find? (fun cl => s.arb.visiting.getD cl false && s.arb.ptr.getD cl 0 == p)

/-- The in-flight limit and the class that bind a Pocket now. -/
def State.limitOf (s : State) (p : Nat) (k : Pocket) : Nat := if (s.visitOf p).isSome then k.visLimit else k.limit
def State.classOf (s : State) (p : Nat) (k : Pocket) : Nat := (s.visitOf p).getD k.cls.code

/-- Is a queue eligible (R350)? -/
def State.eligible (s : State) (q : Nat) (k : QueuePair) : Bool :=
  match s.pockets.lookup k.pocket, k.waiting with
  | some p, c :: _ =>
    k.state == .opened && p.state == .active && decide (s.execs.length < 2048) &&
    decide (s.inFlight k.pocket < s.limitOf k.pocket p) &&
    !s.dispatchStopped && s.domIn (queueDomain q) && !s.orderHolds k.pocket c && !(c.nwait && s.nonceHolds c) &&
    !s.drainHolds q k.pocket c  && !s.regionHolds k.pocket c
  | _, _ => false

/-! ### The arbiter (R351, R352) -/


/-- Eligible queues, ascending. -/
def State.eligibleQueues (s : State) : List (Nat × QueuePair) := s.queues.filter (fun x => s.eligible x.1 x.2)

/-- Eligible Pockets of a class, ascending. -/
def State.eligiblePockets (s : State) (es : List (Nat × QueuePair)) (cl : Nat) : List Nat :=
  (s.pockets.filter (fun x => s.classOf x.1 x.2 == cl && es.any (fun e => e.2.pocket == x.1))).map (·.1)

def State.ageUs (s : State) : Nat := clamp 50 10000 (s.get POC_AGE.AGE_US)

/-- Has a class a command that has waited longer than AGE_US, and not won by ageing within AGE_US? -/
def State.aged (s : State) (es : List (Nat × QueuePair)) (cl : Nat) : Bool :=
  let ps := s.eligiblePockets es cl
  es.any (fun e => ps.contains e.2.pocket &&
    (match e.2.waiting with | c :: _ => decide (c.acceptedUs + s.ageUs < s.clk) | [] => false)) &&
  (match s.arb.lastAged.getD cl none with | some t => decide (t + s.ageUs ≤ s.clk) | none => true)

/-- The class that is served: the highest with an eligible Pocket, or a lower one by ageing. -/
def State.pickClass (s : State) (es : List (Nat × QueuePair)) : Option (Nat × Bool) :=
  match (List.range 3).filter (fun c => !(s.eligiblePockets es c).isEmpty) with
  | [] => none
  | top :: lower =>
    match lower.find? (fun c => s.aged es c) with
    | some c => some (c, true)
    | none => some (top, false)

/-- cost(cmd). -/
def Cmd.cost (c : Cmd) : Nat := if c.opcode = 3 ∨ c.opcode = 4 then 1 else c.count

def State.setArb (s : State) (cl ptr : Nat) (visiting : Bool) : State :=
  { s with arb := { s.arb with ptr := s.arb.ptr.set cl ptr, visiting := s.arb.visiting.set cl visiting } }

/-- The pointer leaves the Pocket: without a waiting command its credit goes (R351, R352). -/
def State.leaveVisit (s : State) (cl p : Nat) : State :=
  let idle := !(s.queues.any (fun e => e.2.pocket == p && !e.2.waiting.isEmpty))
  let s1 := match s.pockets.lookup p with
    | some k => if idle then s.setPocket p { k with credit := 0 } else s
    | none => s
  s1.setArb cl p false

/-- The next eligible queue of a Pocket after the one served last, in ascending number and round again (R351; assumption log entry 173), with
its oldest command. -/
def nextQueue (es : List (Nat × QueuePair)) (p : Nat) (last : Option Nat) : Option (Nat × Cmd) :=
  let mine := es.filter (fun e => e.2.pocket == p)
  let after := mine.find? (fun e => match last with | some l => decide (l < e.1) | none => true)
  (after.or mine.head?).bind (fun e => e.2.waiting.head?.map (fun c => (e.1, c)))

/-- Deficit round robin within a class: the next queue to serve, with the credits as they then stand. -/
def State.drr (s : State) (es : List (Nat × QueuePair)) (cl : Nat) : Nat → Option (State × Nat)
  | 0 => none
  | fuel + 1 =>
    let p := s.arb.ptr.getD cl 0
    if s.arb.visiting.getD cl false then
      match s.pockets.lookup p with
      | none => (s.setArb cl p false).drr es cl fuel
      | some k =>
        match nextQueue es p k.lastQueue with
        | some (q, c) =>
          if c.cost ≤ k.credit then some (s.setPocket p { k with credit := k.credit - c.cost, lastQueue := some q }, q)
          else (s.leaveVisit cl p).drr es cl fuel
        | none => (s.leaveVisit cl p).drr es cl fuel
    else
      let ps := s.eligiblePockets es cl
      match (match ps.find? (fun x => decide (p < x)) with | some x => some x | none => ps.head?) with
      | none => none
      | some n =>
        match s.pockets.lookup n with
        | none => none
        | some k =>
          let q := clamp 1 64 (s.get POC_QUANTUM.BLOCKS) * k.weight
          ((s.setPocket n { k with credit := k.credit + q, visLimit := k.limit }).setArb cl n true).drr es cl fuel

/-- ARBITER_SELECT (R351): the command that is dispatched next, taken from its ring; its slot stays taken. -/
def State.select (s : State) : Option (State × Nat × Cmd) :=
  let es := s.eligibleQueues
  match s.pickClass es with
  | none => none
  | some (cl, aged) =>
    match s.drr es cl 34000000 with
    | none => none
    | some (s1, q) =>
      match s1.queues.lookup q with
      | none => none
      | some k =>
        match k.waiting with
        | [] => none
        | c :: r =>
          let s2 := s1.setQueue q { k with waiting := r }
          let s3 := if aged then { s2 with arb := { s2.arb with lastAged := s2.arb.lastAged.set cl (some s2.clk) } } else s2
          some (s3, q, c)

/-- After a dispatch each visit ends whose Pocket has no eligible queue, or none whose oldest command its credit covers (R351, R352). -/
def State.endVisits (s : State) : State :=
  (List.range 3).foldl (fun t cl =>
    let p := t.arb.ptr.getD cl 0
    let goesOn : Bool := match t.pockets.lookup p with
      | none => false
      | some k => match nextQueue t.eligibleQueues p k.lastQueue with
        | some (_, c) => decide (c.cost ≤ k.credit)
        | none => false
    if t.arb.visiting.getD cl false && !goesOn then t.leaveVisit cl p else t) s

/-! ### Dispatch checks (Table POC-6, checks 8 to 10) -/

/-- Any bulk core is in service (R643). -/
def State.bulkIn (s : State) : Bool := s.domIn 33 || s.domIn 34 || s.domIn 35 || s.domIn 36

/-- Checks 9 and 10 for one named slot (R623): kinds the role admits. A slot that entered RETIRING since the command's acceptance counts as
RETIRING, whatever it has become since (R358, R651). -/
def State.slotFault (s : State) (p : Nat) (c : Cmd) (code : Nat) (kinds : List Nat) : Option Status :=
  if c.retired.contains code then some .keyRetired
  else match s.keys.slots.lookup code with
  | none => some .keyEmpty
  | some k =>
    if k.state = .empty ∨ k.owner ≠ p ∨ !kinds.contains k.kind then some .keyEmpty
    else if k.state = .retiring then some .keyRetired
    else none

def xtsKinds : List Nat := [1, 2]
def gmacKinds : List Nat := [3, 4]

/-- Checks 9 and 10 over the slots an opcode names: every slot is loaded first, then none is RETIRING. -/
def State.keyFault (s : State) (p : Nat) (c : Cmd) : Option Status :=
  let d := if c.usesDkey then s.slotFault p c c.dkey xtsKinds else none
  let i := if c.integ then s.slotFault p c c.ikey gmacKinds else none
  if d = some .keyEmpty ∨ i = some .keyEmpty then some .keyEmpty
  else if d = some .keyRetired ∨ i = some .keyRetired then some .keyRetired
  else none

/-- Check 8: the engines the command needs are in service (R614, R643). A READ or COPY of unmapped blocks alone, with no `bulk` pass, needs no D38 for
INTEG either. -/
def State.engineFault (s : State) (c : Cmd) (bulk : Bool) : Option Status :=
  let mac := c.integ && (bulk || (c.opcode != 1 && c.opcode != 6))
  if (bulk && !s.bulkIn) || (mac && !s.domIn 38) || !s.domIn 37 then some .domainOff
  else if 0 < c.nonces ∧ s.keys.limit < s.keys.nonce + c.nonces ∧ s.keys.nonce + c.nonces ≤ 2 ^ 64 ∧ s.noReservation = true then
    some .domainOff
  else none

/-- READONLY stops WRITE and COPY (R470); a counter that would overflow stops the command (R617). -/
def State.stateFault (s : State) (c : Cmd) : Option Status :=
  if (c.opcode = 2 ∨ c.opcode = 6) ∧ s.flag MOV_STAT.READONLY = true then some .wrongState
  else if 2 ^ 64 < s.keys.nonce + c.nonces then some .wrongState
  else none

/-- The sources of a command's blocks. -/
def State.sources (s : State) (p : Nat) (c : Cmd) : List Blk := (List.range c.reads.2).map (fun i => s.source p (c.lba + i) c)

/-- Does a block come from a quad that is OFF or in CHECK (R472)? -/
def anyDomainOff (bs : List Blk) : Bool := bs.any (fun b => b.codec == .lost Status.domainOff.code)

/-- Check 8: the engines, and the flash quads of the blocks that are to be read (R472, R614, R643). -/
def State.domainFault (s : State) (p : Nat) (c : Cmd) (bulk : Bool) : Option Status :=
  match s.engineFault c bulk with
  | some st => some st
  | none => if anyDomainOff (s.sources p c) then some .domainOff else none

/-- The first dispatch check that fails. -/
def State.dispatchFault (s : State) (p : Nat) (c : Cmd) (bulk : Bool) : Option Status :=
  match s.domainFault p c bulk with
  | some st => some st
  | none => match s.keyFault p c with
    | some st => some st
    | none => s.stateFault c

/-- The material of a slot, as a command latches it (R631). -/
def State.latch (s : State) (code : Nat) : Option Bytes := (s.keys.slots.lookup code).map (fun k => k.material)

/-- The level a WRITE, TRIM or COPY requests (R342). -/
def levelAsked (c : Cmd) (k : QueuePair) : Nat := if c.fua then 3 else if c.ack ≠ 0 then c.ack else k.ack

/-- A command enters execution; counter values for it are handed out as one run (R346, R613). -/
def State.newExec (s : State) (q p : Nat) (c : Cmd) (k : QueuePair) : State × Exec :=
  let x : Exec :=
    { id := s.execNext, queue := q, pocket := p, cmd := c, level := levelAsked c k, through := false,
      baste := c.opcode == 1 && k.baste && s.flag CCH_CFG.BASTE_EN,
      dkey := if c.usesDkey then s.latch c.dkey else none,
      ikey := if c.integ then s.latch c.ikey else none, nonce := s.keys.nonce,
      unit512 := (match s.pockets.lookup p with | some y => y.unit512 | none => false),
      blks := [], unset := [], delta := none, mirrorAt := none, tseq := none, mirrored := false, hit := false, lastBasted := none, begun := false }
  ({ s with execNext := s.execNext + 1, execs := s.execs ++ [x], keys := { s.keys with nonce := s.keys.nonce + c.nonces } }, x)

/-- The event is the dispatch of the opcode `op`: the arbiter's choice, checked (R341). A command that must wait for a
reservation stays in its ring, is charged nothing and counts in CIP_NWAIT once (R614); one whose checks fail completes at once. Otherwise
it enters execution. -/
def State.dispatch (s : State) (op : Nat) (bulk : Nat → Cmd → State → Bool) (start : State → Exec → QueuePair → State) : State :=
  match s.select with
  | none => s
  | some (s1, q, c) =>
    if c.opcode ≠ op then s
    else
      match s1.queues.lookup q with
      | none => s
      | some k =>
        if s1.nonceHolds c then
          let s2 := s.setQueue q { k with waiting := { c with nwait := true } :: k.waiting }
          if c.nwait then s2 else s2.count CIP_NWAIT.COUNT 1
        else
          match s1.dispatchFault k.pocket c (bulk k.pocket c s1) with
          | some st => (s1.postWaiting q c st).endVisits
          | none =>
            let (s2, x) := s1.newExec q k.pocket c k
            ((start s2 x k).settle).endVisits

/-! ### READ and VERIFY -/

/-- The DIRTY entries that a FLUSH covers: those of the Pocket's writes that have completed (R355). -/
def State.covered (s : State) (p : Nat) : List CacheEntry :=
  s.cache.entries.filter (fun e => e.pocket == p && e.kind == .dirty && !s.running e.writer)

/-- The entry whose program makes a covered block durable: its own, or the newer one that it stays under. -/
def flushedBy (cov : List CacheEntry) (e : CacheEntry) : Bool :=
  cov.any (fun c => c.pocket == e.pocket && c.lba == e.lba && (if c.prog || !c.old then c.filled == e.filled else !e.old))

/-- The stream detector at the dispatch of a READ with FUA at 0 (R385, R386). -/
def State.detect (s : State) (p lba n : Nat) : State :=
  if s.staging then s
  else
    let es := (s.cache.streams.lookup p).getD []
    match es.find? (fun e => e.next == lba) with
    | some e =>
      let hits := e.hits + 1
      let ahead := if 2 ≤ hits then min (2 * e.ahead) (32 * (s.get CCH_CFG.PF_AHEAD + 1)) else e.ahead
      let e1 : Stream := { next := lba + n, hits := hits, ahead := ahead }
      let rest := es.erase e
      let size := match s.pockets.lookup p with | some k => 4 * k.size | none => 0
      let want := if 2 ≤ hits ∧ s.flag CCH_CFG.PF_EN = true then
          ((List.range ahead).map (fun k => lba + n + k)).filter (fun b =>
            decide (b < size) && s.entry p (b / 4) != 0 && (s.cached p b).isNone && !s.cache.wanted.contains (p, b))
        else []
      { s with cache := { s.cache with
          streams := upsert p (e1 :: rest) s.cache.streams,
          wanted := s.cache.wanted ++ want.map (fun b => (p, b)) } }
    | none =>
      let e1 : Stream := { next := lba + n, hits := 0, ahead := 16 }
      { s with cache := { s.cache with streams := upsert p (e1 :: es.take 7) s.cache.streams } }

/-- Does any block of the command need a bulk pass (R643)? -/
def State.readNeedsBulk (p : Nat) (c : Cmd) (s : State) : Bool := (s.sources p c).any (fun b => b.pass != .done)

/-- Confirmed blocks at their start go on at once: a hit to a bulk core, zeros to the host. -/
def State.advanceAll (s : State) (id : Nat) (n : Nat) : State := (List.range n).foldl (fun t i => t.advanceBlk id i) s

/-- A READ or VERIFY enters execution. A basting READ streams its unconfirmed blocks to the bulk cores at once (R367). -/
def State.startRead (s : State) (x : Exec) (_ : QueuePair) : State :=
  let c := x.cmd
  let bs := s.seated (s.sources x.pocket c)
  let s1 := (bs.zip (List.range c.count)).foldl (fun t bi => t.startBlock x.pocket (c.lba + bi.2) bi.1) s
  let hit := (List.range c.count).any (fun i => match s.cached x.pocket (c.lba + i) with
    | some e => e.kind == .prefetch && !c.fua | none => false)
  let stream (b : Blk) : Blk := match b.codec with
    | .media _ _ => if x.baste then { b with pass := .wait false } else b
    | _ => b
  let fl := (List.range c.count).filter (fun i => match bs[i]? with | some b => b.codec == .flush | none => false)
  let lbas := fl.map (fun i => c.lba + i)
  let x1 := { x with blks := bs.map stream, hit := hit && c.opcode == 1, unset := lbas }
  let s2 := ((s1.awaitProgram x.id x.pocket lbas).setExec x1).advanceAll x.id c.count
  if c.opcode = 1 ∧ c.fua = false then s2.detect x.pocket c.lba c.count else s2

/-! ### WRITE, TRIM, FLUSH, COPY, SEAL -/

/-- A block of a WRITE whose data has arrived, or has not. -/
def Blk.ofData (b : Option Bytes) : Blk :=
  match b with
  | some d => { Blk.start .good with plain := d, pass := .wait true }
  | none => Blk.start .good

/-- Write data cut in blocks; nothing starts before every byte has arrived (R221, R273). -/
def Cmd.blocks (c : Cmd) : List Blk :=
  (List.range c.count).map (fun i =>
    { Blk.ofData (if c.received = 4096 * c.count ∧ c.bad = false then some ((c.bytes.drop (4096 * i)).take 4096) else none) with
      place := c.units.getD i .nowhere })

/-- WRITE_ADMISSION (R408, R409): write-back or forced through; a forced command counts. -/
def State.admitWrite (s : State) (x : Exec) : State × Bool :=
  if s.admits x.pocket (4096 * x.cmd.count) then (s, false) else (s.count CCH_THROUGH.COUNT 1, true)

/-- The level with R54 applied at dispatch; what R53 makes of it is decided as the command completes. -/
def Exec.levelFor (x : Exec) (through : Bool) : Nat := if through then 3 else x.level

/-- A WRITE enters execution: prefetch lines go, it is admitted, its mirror items get their places. -/
def State.startWrite (s : State) (x : Exec) (_ : QueuePair) : State :=
  let c := x.cmd
  if c.bad then s.finishExec x .badFrame 0
  else
    let (s1, through) := s.admitWrite x
    let s2 := (s1.dropPrefetch x.pocket c.lba c.count).markRange x.pocket c.lba c.count
    let s3 := s2.mirrorWrite x.pocket c.lba c.count c.integ c.ikey x.nonce
    s3.setExec { x with
      level := x.levelFor through, through := through, blks := c.blocks, mirrorAt := if s2.mirrors then some s2.twin.txNext else none,
      unset := (List.range c.count).map (fun i => c.lba + i), tseq := s3.lastTseq }

/-- A TRIM enters execution: its range is unmapped segment by segment as their map rows are held (R450, R456). -/
def State.startTrim (s : State) (x : Exec) (_ : QueuePair) : State :=
  let c := x.cmd
  let segs := (c.lba + c.count - 1) / segBlocks - c.lba / segBlocks + 1
  (s.dropPrefetch x.pocket c.lba c.count).setExec { x with
    blks := (List.range segs).map (fun i => Blk.start (.seg (s.segOf x.pocket (c.lba / 4) + i))) }

/-- A FLUSH enters execution (R355, R413): it waits for the program of every DIRTY block that its Pocket's completed writes left, and for the
delta records of its Pocket's TRIMs. -/
def State.startFlush (s : State) (x : Exec) (_ : QueuePair) : State :=
  let cov := s.covered x.pocket
  let lbas := cov.map (fun e => e.lba)
  let mine (rs : List Delta) : List Nat := (rs.filter (fun d => d.pocket == x.pocket)).map (·.wseq)
  let inProg := (s.flash.progs.map (fun g => match g.kind with | .delta rs => mine rs | _ => [])).flatten
  let open_ := mine s.flash.deltas
  let last := (open_ ++ inProg).foldl max 0
  let x1 := { x with unset := lbas, delta := if last = 0 then none else some last }
  let s1 := (s.awaitEntries x.id (flushedBy cov)).setExec x1
  if open_ = [] then s1 else s1.sendDeltas

/-- A COPY enters execution (R339, R449, R598): its sources are read, its destination is admitted as a write. -/
def State.startCopy (s : State) (x : Exec) (_ : QueuePair) : State :=
  let c := x.cmd
  let bs := (s.seated (s.sources x.pocket c)).map Blk.forCopy
  let (s1, through) := s.admitWrite x
  let s2 := (s1.dropPrefetch x.pocket c.dst c.count).markRange x.pocket c.dst c.count
  let s3 := s2.mirror (.copy c.lba x.pocket c.integ c.count c.dst c.dkey c.ikey)
  let s4 := (bs.zip (List.range c.count)).foldl (fun t bi => t.startBlock x.pocket (c.lba + bi.2) bi.1) s3
  let x1 := { x with
    level := x.levelFor through, through := through, blks := bs, unset := (List.range c.count).map (fun i => c.dst + i),
    tseq := s3.lastTseq, mirrored := s2.mirrors }
  (s4.setExec x1).advanceAll x.id c.count

/-! ### Keys in use -/

/-- The GMAC nonce (Table CIP-2). -/
def nonceBytes (serial count : Nat) : Bytes := leBytes 4 serial ++ leBytes 8 count

/-- The binding block (Table CIP-3). -/
def bindingBytes (p lba : Nat) : Bytes := leBytes 6 lba ++ leBytes 1 p ++ [1] ++ List.replicate 8 0

/-- The tag of a block (R606). -/
def blockTag (key : Bytes) (serial count p lba : Nat) (cipher : Bytes) : Bytes :=
  gmac key (nonceBytes serial count) (bindingBytes p lba ++ cipher)

/-- XTS over one host block with its Pocket's data units (R597). -/
def xtsBlock (dec unit512 : Bool) (key : Bytes) (lba : Nat) (d : Bytes) : Bytes :=
  if unit512 then ((List.range 8).map (fun j => xts dec key (8 * lba + j) ((d.drop (512 * j)).take 512))).flatten
  else xts dec key lba d

/-- A SEAL whose data has arrived (R340, R611): the check value in one DAT frame, then its completion. -/
def State.sealReady (s : State) (x : Exec) : State :=
  let c := x.cmd
  if c.bad then s.finishExec x .badFrame 0
  else if c.received < 4096 * c.count then s
  else
    let tag := gmac (x.ikey.getD []) (nonceBytes (s.get SYS_SERIAL.SERIAL) x.nonce) c.bytes
    let s1 := { s with slv := { s.slv with newItems := s.slv.newItems ++ [TxItem.dat false c.tag x.queue 0 tag] } }
    (s1.cross x.pocket 4096).finishExec x .done c.count

def State.startSeal (s : State) (x : Exec) (_ : QueuePair) : State := s.sealReady x

end Sys2Proof.Machine
end

