-- ==== Sys2Proof/Machine/ConfOps.lean ====
section
/-!
DEFINITION. Sys2Proof/Machine/ConfOps.lean: the changes of Pockets, queues, shares and keys that lines of this card and line items of its
primary make (chapters 06, 07, 11, 16 and 19: R316 to R323, R326, R327, R363, R365, R400 to R403, R596, R624 to R641, R869, R877).
-/
namespace Sys2Proof.Machine
open Sys2Proof

/-! ### What replies tell of Pockets and queues -/

/-- Names of a Pocket's states (Table POC-2), and of a queue's (Table POC-4). -/
def PocketState.name : PocketState → String
  | .active => "active"
  | .suspended => "suspended"
  | .deleting => "deleting"

def QueueState.name : QueueState → String
  | .opened => "open"
  | .draining => "draining"

/-- Names of acknowledgement levels (Table POC-3). -/
def ackName (n : Nat) : String := ["none", "held", "paired", "set"].getD n "held"

/-- A Pocket that is FREE, as a reply shows it. -/
def Pocket.free : Pocket := { Pocket.p000 with limit := 0, weight := 0 }

/-- GEN of a Pocket number (R922). -/
def State.genOf (s : State) (p : Nat) : Nat := (s.flash.gens.lookup p).getD 0

/-- DK slots that a Pocket owns. -/
def State.keysOwned (s : State) (p : Nat) : Nat :=
  (s.keys.slots.filter (fun x => x.2.owner == p && decide (x.1 < 512) && x.2.state != .empty)).length

/-- The keys of `pocket show` and `pocket set` (Table CMDA-2). -/
def State.pocketKv (s : State) (p : Nat) : List KV :=
  let e := s.pockets.lookup p
  let k := e.getD Pocket.free
  [("pocket", pocketId p), ("state", match e with | some x => x.state.name | none => "free"), ("size", dec k.size),
   ("used", dec (s.mapped p).length), ("class", k.cls.name), ("weight", dec k.weight), ("limit", dec k.limit),
   ("inflight", dec (s.inFlight p)), ("queues", dec (s.queues.filter (fun q => q.2.pocket == p)).length),
   ("keys", dec (s.keysOwned p)), ("unit", if k.unit512 then "512" else "4096"), ("gen", dec (s.genOf p))]

/-- A queue that is FREE, as a reply shows it. -/
def QueuePair.free : QueuePair :=
  { state := .opened, pocket := 0, depth := 64, ack := 1, baste := false, waiting := [], doneTags := [] }

/-- The keys of `queue create`, `set` and `show` (R998). -/
def State.queueKv (s : State) (q : Nat) : List KV :=
  let e := s.queues.lookup q
  let k := e.getD QueuePair.free
  [("queue", queueId q), ("state", match e with | some x => x.state.name | none => "free"), ("pocket", pocketId k.pocket),
   ("depth", dec k.depth), ("ack", ackName k.ack), ("baste", onOff k.baste),
   ("taken", dec (match e with | some x => (s.tagsTaken q x).length | none => 0)), ("waiting", dec k.waiting.length)]

/-! ### The map index (R455) -/

/-- Index entries that a Pocket of a size needs: one for each segment of 13,056 Stitches. -/
def indexLen (size : Nat) : Nat := ceilDiv size 13056

/-- The index ranges of the Pockets other than one: base and length. -/
def State.indexUsed (s : State) (but : Nat) : List (Nat × Nat) :=
  (s.flash.bases.filter (fun b => b.1 ≠ but)).filterMap (fun b => (s.pockets.lookup b.1).map (fun k => (b.2, indexLen k.size)))

/-- Are `n` entries from `a` on within the index and free of other ranges? -/
def indexFits (used : List (Nat × Nat)) (a n : Nat) : Bool :=
  decide (a + n ≤ 786432) && used.all (fun u => decide (a + n ≤ u.1) || decide (u.1 + u.2 ≤ a))

/-- The lowest place for `n` index entries. -/
def indexPlace (used : List (Nat × Nat)) (n : Nat) : Option Nat :=
  leastBy (fun a => a) ((0 :: used.map (fun u => u.1 + u.2)).filter (fun a => indexFits used a n))

/-- A Pocket's first index entry, in MAP_PBASE and as flash keeps it. -/
def State.setBase (s : State) (p a : Nat) : State :=
  ({ s with flash := { s.flash with bases := putSorted p a s.flash.bases } }).set (MAP_PBASE.BASE p) a

/-- A Pocket's index entries move from `a` on to `b` on, with all that names them. -/
def State.moveIndex (s : State) (p a b n : Nat) : State :=
  let mv (e : Nat) : Nat := if a ≤ e ∧ e < a + n then e - a + b else e
  let seg (c : Blk) : Blk := match c.codec with | .seg e => { c with codec := .seg (mv e) } | _ => c
  let pages := ((List.range (ceilDiv n 4096 + 1)).map (fun i => [a / 4096 + i, b / 4096 + i])).flatten.eraseDups
  let f := s.flash
  let s1 : State := { s with
    execs := s.execs.map (fun (x : Exec) => { x with blks := x.blks.map seg }),
    flash := { f with
      segs := f.segs.foldl (fun (l : List (Nat × Seg)) (x : Nat × Seg) => putSorted (mv x.1) x.2 l) [], segUse := f.segUse.map mv,
      ckptRuns := f.ckptRuns.map (fun (c : CkptRun) => { c with segs := c.segs.map mv }),
      idxDirty := f.idxDirty ++ (pages.filter (fun i => !f.idxDirty.contains i)) } }
  s1.setBase p b

/-! ### Pockets -/

/-- The card is the secondary of a twinset (R877). -/
def State.isSecondary (s : State) : Bool := match s.twin.pairing with | some g => !g.primary | none => false

/-- Sum of the sizes of the Pockets that are not FREE, but one (R316). -/
def State.sizesBut (s : State) (p : Nat) : Nat := ((s.pockets.filter (fun x => x.1 ≠ p)).map (fun x => x.2.size)).sum

/-- Values within the ranges of R991. -/
def attrsInRange (a : PocketAttrs) : Bool :=
  let inside (v : Option Nat) (lo hi : Nat) : Bool := match v with | some n => decide (lo ≤ n) && decide (n ≤ hi) | none => true
  inside a.size 1 (2 ^ 33) && inside a.weight 1 64 && inside a.limit 1 2048 &&
  (match a.unit with | some n => n == 4096 || n == 512 | none => true)

/-- A line of the primary's configuration as the secondary is to execute it (Table SEAM-4); no one is told while the card mirrors to
nobody. -/
def State.tell (s : State) (words : List String) (kv : List KV) : State :=
  if s.mirrors then s.mirrorLine (String.intercalate " " words ++ kvText kv) else s

/-- The named attributes as keys. -/
def attrsKv (a : PocketAttrs) : List KV :=
  let one (k : String) (v : Option String) : List KV := match v with | some x => [(k, x)] | none => []
  one "size" (a.size.map dec) ++ one "class" (a.cls.map QosClass.name) ++ one "weight" (a.weight.map dec) ++
  one "limit" (a.limit.map dec) ++ one "unit" (a.unit.map dec)

/-- `pocket create` (R316, R318, R321, R323, R455, R596, R921, R922, R991). -/
def State.createPocket (s : State) (p : Nat) (a : PocketAttrs) : State × Result :=
  match a.size with
  | none => (s, .fail .badArg)
  | some size =>
    if !attrsInRange a ∨ 255 < p then (s, .fail .badArg)
    else if (s.pockets.lookup p).isSome then (s, .fail .wrongState)
    else if s.flash.usable < s.sizesBut p + size then (s, .fail .quota)
    else
      match indexPlace (s.indexUsed p) (indexLen size) with
      | none => (s, .fail .quota)
      | some base =>
        let gen := (s.genOf p + 1) % 2 ^ 32
        let k : Pocket := { Pocket.p000 with
          size := size, cls := a.cls.getD .normal, weight := a.weight.getD 1, limit := a.limit.getD 256, unit512 := a.unit == some 512,
          gen := gen }
        let s1 := { s with pockets := putSorted p k s.pockets,
                           flash := { s.flash with gens := putSorted p gen s.flash.gens },
                           htg := { s.htg with minutes := upsert p OpenMin.fresh s.htg.minutes } }
        let s2 := (s1.setBase p base).tell ["pocket", "create", pocketId p] (attrsKv a)
        (s2, .ok [] [("pocket", pocketId p), ("state", "active"), ("size", dec size), ("gen", dec gen)])

/-- Is a Stitch at or beyond a size mapped, or about to be (R317)? A block held DIRTY or THROUGH is one that a program will map. -/
def State.usedFrom (s : State) (p size : Nat) : Bool :=
  (s.mapped p).any (fun e => decide (size ≤ e.1 % 2 ^ 34)) ||
  s.cache.entries.any (fun e => e.pocket == p && (e.kind == .dirty || e.kind == .through) && decide (size ≤ e.lba / 4))

/-- Does a command touch blocks beyond a size in Stitches (R365)? -/
def Cmd.beyond (c : Cmd) (size : Nat) : Bool :=
  (decide (0 < c.reads.2) && decide (4 * size < c.reads.1 + c.reads.2)) ||
  (decide (0 < c.writes.2) && decide (4 * size < c.writes.1 + c.writes.2))

/-- Commands of a Pocket that wait or run and touch blocks beyond a size. -/
def State.anyBeyond (s : State) (p size : Nat) : Bool :=
  s.execs.any (fun x => x.pocket == p && x.cmd.beyond size) ||
  s.queues.any (fun k => k.2.pocket == p && k.2.waiting.any (fun c => c.beyond size))

/-- The attributes of a `pocket set` stand together (R992). -/
def Pocket.apply (k : Pocket) (c : PocketChange) : Pocket :=
  { k with size := c.size, cls := c.cls, weight := c.weight, limit := c.limit, unit512 := c.unit512, change := none }

/-- The attributes after a `pocket set`. -/
def Pocket.with (k : Pocket) (a : PocketAttrs) : PocketChange :=
  { size := a.size.getD k.size, cls := a.cls.getD k.cls, weight := a.weight.getD k.weight, limit := a.limit.getD k.limit,
    unit512 := match a.unit with | some u => u == 512 | none => k.unit512 }

/-- A Pocket's attributes change, and its index range with its size (R455); `none` where the index has no room. -/
def State.changePocket (s : State) (p : Nat) (k : Pocket) (c : PocketChange) : Option State :=
  let used := s.indexUsed p
  let base := (s.flash.bases.lookup p).getD 0
  let s1 := s.setPocket p (k.apply c)
  if indexFits used base (indexLen c.size) then some s1
  else (indexPlace used (indexLen c.size)).map (fun b => s1.moveIndex p base b (indexLen k.size))

/-- `pocket set` (R316, R317, R321, R322, R365, R596, R991 to R994): a reduction waits while commands touch blocks beyond the new end. -/
def State.alterPocket (s : State) (p : Nat) (a : PocketAttrs) : State × Result :=
  if a = { size := none, cls := none, weight := none, limit := none, unit := none } ∨ attrsInRange a = false then (s, .fail .badArg)
  else if p = 0 then (s, .fail .wrongState)
  else
    match s.pockets.lookup p with
    | none => (s, .fail .wrongState)
    | some k =>
      let c := k.with a
      if k.state = .deleting then (s, .fail .wrongState)
      else if k.size < c.size ∧ s.flash.usable < s.sizesBut p + c.size then (s, .fail .quota)
      else if c.size < k.size ∧ s.usedFrom p c.size = true then (s, .fail .wrongState)
      else if c.unit512 ≠ k.unit512 ∧ s.usedFrom p 0 = true then (s, .fail .wrongState)
      else if c.size < k.size ∧ s.anyBeyond p c.size = true then (s.setPocket p { k with change := some c }, .wait (.sizeReduce p))
      else
        match s.changePocket p k c with
        | none => (s, .fail .quota)
        | some s1 => let s2 := s1.tell ["pocket", "set", pocketId p] (attrsKv a); (s2, .ok [] (s2.pocketKv p))

/-- All attributes of a Pocket, as a line item names them. -/
def Pocket.attrs (k : Pocket) : PocketAttrs :=
  { size := some k.size, cls := some k.cls, weight := some k.weight, limit := some k.limit, unit := some (if k.unit512 then 512 else 4096) }

/-- A Pocket's attributes as they now stand are told to the secondary. -/
def State.tellChange (s : State) (p : Nat) : State :=
  match s.pockets.lookup p with
  | some k => s.tell ["pocket", "set", pocketId p] (attrsKv k.attrs)
  | none => s

/-- `pocket suspend` and `pocket resume` (R318, R323, R391). -/
def State.turnPocket (s : State) (p : Nat) (frm dst : PocketState) (word : String) : State × Result :=
  match s.pockets.lookup p with
  | none => (s, .fail .wrongState)
  | some k =>
    if p = 0 ∨ k.state ≠ frm then (s, .fail .wrongState)
    else
      let s1 := ((s.setPocket p { k with state := dst }).stopPrefetch p).tell ["pocket", word, pocketId p] []
      (s1, .ok [] (pocketStateKv p dst.name))

/-- A queue enters DRAINING: what waits and was never dispatched completes with WRONG_STATE (R327, R359). -/
def State.drainQueue (s : State) (q : Nat) (k : QueuePair) : State :=
  k.waiting.foldl (fun t c => t.postWaiting q c .wrongState) (s.setQueue q { k with state := .draining, waiting := [] })

/-- The regions of a Pocket that is deleted are unmarked, its copies discarded (R887). -/
def State.unmarkPocket (s : State) (p : Nat) : State :=
  let t := s.twin
  { s with twin := { t with
      marked := t.marked.filter (fun m => m.1 ≠ p), inCopy := t.inCopy.filter (fun c => c.pocket ≠ p),
      copies := t.copies.filter (fun c => c.1 ≠ p), missed := t.missed.filter (fun m => m.1 ≠ p),
      darn := t.darn.filter (fun w => match w.range with | some r => r.1 != p | none => true) } }

/-- `pocket delete` (R318 to R320, R323, R361, R391, R422, R887, R995): step 1 at once; the rest follows as R319 orders. -/
def State.deletePocket (s : State) (p : Nat) : State × Result :=
  match s.pockets.lookup p with
  | none => (s, .fail .wrongState)
  | some k =>
    if p = 0 ∨ k.state = .deleting then (s, .fail .wrongState)
    else
      let d : Pocket := { k with state := .deleting, wasSuspended := k.state == .suspended, delStep := 1 }
      let s1 := (((s.setPocket p d).stopPrefetch p).unmarkPocket p).tell ["pocket", "delete", pocketId p] []
      let qs := s1.queues.filter (fun q => q.2.pocket == p && q.2.state == .opened)
      let s2 := qs.foldl (fun t q => t.drainQueue q.1 q.2) s1
      ((s2.deletionUnmap p).deletionsGo, .wait (.pocketDelete p))

/-! ### Queues -/

/-- Values within the ranges of R996 and Table POC-3. -/
def queueAttrsOk (a : QueueAttrs) : Bool :=
  (match a.depth with | some d => [16, 32, 64, 128, 256, 512, 1024, 2048, 4096].contains d | none => true) &&
  (match a.ack with | some n => decide (1 ≤ n) && decide (n ≤ 3) | none => true)

/-- The named attributes as keys. -/
def queueAttrsKv (a : QueueAttrs) : List KV :=
  let one (k : String) (v : Option String) : List KV := match v with | some x => [(k, x)] | none => []
  one "depth" (a.depth.map dec) ++ one "ack" (a.ack.map ackName) ++ one "baste" (a.baste.map onOff)

/-- The queue's quarter serves (R996). -/
def State.quarterServes (s : State) (q : Nat) : Bool := s.dom (queueDomain q) == 2 || s.domIn (queueDomain q)

/-- `queue create` (R321, R326, R327, R996). -/
def State.createQueue (s : State) (q p : Nat) (a : QueueAttrs) : State × Result :=
  if !queueAttrsOk a ∨ p = 0 ∨ 255 < p ∨ 1023 < q then (s, .fail .badArg)
  else if !s.quarterServes q then (s, .fail .domainOff)
  else
    match s.queues.lookup q, s.pockets.lookup p with
    | none, some k =>
      if k.state = .deleting then (s, .fail .wrongState)
      else
        let x : QueuePair := { state := .opened, pocket := p, depth := a.depth.getD 64, ack := a.ack.getD 1, baste := a.baste.getD false,
                               waiting := [], doneTags := [] }
        let s1 := ({ s with queues := putSorted q x s.queues }).tell ["queue", "create", queueId q] (("pocket", pocketId p) :: queueAttrsKv a)
        (s1, .ok [] (s1.queueKv q))
    | _, _ => (s, .fail .wrongState)

/-- `queue set` (R321, R326, R363, R996). -/
def State.alterQueue (s : State) (q : Nat) (a : QueueAttrs) : State × Result :=
  if !queueAttrsOk a ∨ 1023 < q then (s, .fail .badArg)
  else if !s.quarterServes q then (s, .fail .domainOff)
  else
    match s.queues.lookup q with
    | none => (s, .fail .wrongState)
    | some k =>
      let d := a.depth.getD k.depth
      if k.state ≠ .opened ∨ (d ≠ k.depth ∧ s.tagsTaken q k ≠ []) then (s, .fail .wrongState)
      else
        let s1 := (s.setQueue q { k with depth := d, ack := a.ack.getD k.ack, baste := a.baste.getD k.baste }).tell
          ["queue", "set", queueId q] (queueAttrsKv a)
        (s1, .ok [] (s1.queueKv q))

/-- `queue delete` (R321, R327, R359, R997). -/
def State.deleteQueue (s : State) (q : Nat) : State × Result :=
  if 1023 < q then (s, .fail .badArg)
  else
    match s.queues.lookup q with
    | none => (s, .fail .wrongState)
    | some k =>
      if k.state ≠ .opened then (s, .fail .wrongState)
      else
        ((s.drainQueue q k).tell ["queue", "delete", queueId q] [],
          .ok [] [("queue", queueId q), ("state", "draining"), ("waiting", dec k.waiting.length)])

/-! ### Cache shares -/

/-- Blocks in whole MiB, rounded up. -/
def blocksMib (n : Nat) : Nat := ceilDiv n 256

/-- The keys of `cache set` and `cache show` with a Pocket (R1018). -/
def State.shareKv (s : State) (p : Nat) : List KV :=
  let k := (s.pockets.lookup p).getD Pocket.free
  [("pocket", pocketId p), ("clean_min", dec k.cleanMin), ("clean_max", dec k.cleanMax), ("dirty_min", dec k.dirtyMin),
   ("dirty_max", dec k.dirtyMax), ("clean_mib", dec (blocksMib (s.holds p .clean + s.holds p .prefetch))),
   ("dirty_mib", dec (blocksMib (s.holds p .dirty))), ("emin_mib", dec (blocksMib (s.effMin p / 4096))),
   ("pf_mib", dec (blocksMib (s.holds p .prefetch)))]

/-- A Pocket's own CLEAN and PREFETCH entries beyond its clean maximum leave, in the order of R402. -/
def State.trimClean (s : State) (p mx : Nat) : Nat → State
  | 0 => s
  | n + 1 =>
    if s.holds p .clean + s.holds p .prefetch ≤ mx then s
    else match evictFirst (s.cache.entries.filter (fun e => e.pocket == p)) with
      | none => s
      | some v => (s.dropEntry v).trimClean p mx n

/-- `cache set` (R321, R400, R403, R1017). A Pocket above its new dirty maximum is flushed by the mover's targeted mode (R412). -/
def State.setShare (s : State) (p : Nat) (a : ShareAttrs) : State × Result :=
  let big (v : Option Nat) : Bool := match v with | some n => decide (65535 < n) | none => false
  if big a.cleanMin || big a.cleanMax || big a.dirtyMin || big a.dirtyMax then (s, .fail .badArg)
  else if p = 0 then (s, .fail .wrongState)
  else
    match s.pockets.lookup p with
    | none => (s, .fail .wrongState)
    | some k =>
      let n : Pocket := { k with
        cleanMin := a.cleanMin.getD k.cleanMin, cleanMax := a.cleanMax.getD k.cleanMax,
        dirtyMin := a.dirtyMin.getD k.dirtyMin, dirtyMax := a.dirtyMax.getD k.dirtyMax }
      let others := ((s.pockets.filter (fun x => x.1 ≠ p)).map (fun x => x.2.cleanMin + x.2.dirtyMin)).sum
      if k.state = .deleting then (s, .fail .wrongState)
      else if n.cleanMax < n.cleanMin ∨ n.dirtyMax < n.dirtyMin then (s, .fail .badArg)
      else if s.get CCH_SIZE.MIB < others + n.cleanMin + n.dirtyMin then (s, .fail .budget)
      else
        let s1 := (s.setPocket p n).trimClean p (256 * n.cleanMax) s.cache.entries.length
        let s2 := s1.tell ["cache", "set", pocketId p] [("clean_min", dec n.cleanMin), ("clean_max", dec n.cleanMax),
          ("dirty_min", dec n.dirtyMin), ("dirty_max", dec n.dirtyMax)]
        (s2, .ok [] (s2.shareKv p))

/-! ### Keys -/

/-- Names of key kinds, in lower case (Table CIP-4). -/
def kindName (k : Nat) : String :=
  (["", "xts128", "xts256", "gmac128", "gmac256", "cmac128", "cmac256", "raw128", "raw256", "", "", "", "", "", "", "",
    "wrap256", "chal128", "chal256"] : List String).getD k ""

/-- Material bytes of a kind (Table CIP-4); 0 for no kind. -/
def kindLen (k : Nat) : Nat :=
  ([0, 32, 64, 16, 32, 16, 32, 16, 32, 0, 0, 0, 0, 0, 0, 0, 32, 16, 32] : List Nat).getD k 0

/-- How a key arrives (R628). -/
inductive Arrival where
  | wrapped | plain | generated
  deriving DecidableEq, Repr

/-- Table CMDA-3: the combinations of slot, kind, way and owner that the card accepts. -/
def arrivalOk (slot kind : Nat) (how : Arrival) (owner : Option Nat) : Bool :=
  if slot < 512 then decide (1 ≤ kind) && decide (kind ≤ 8) && (how != .plain) && owner.isSome
  else if slot < 575 then (kind == 16) && owner.isNone
  else if slot = 575 then (kind == 17 || kind == 18) && (how == .plain) && owner.isNone
  else false

/-- The wrap's initial value (Table CIP-5). -/
def wrapIv (kind : Nat) : Nat := beNat ([0xA6#8, 0xA6#8, 0xA6#8, 0xA6#8, BitVec.ofNat 8 kind, BitVec.ofNat 8 (kindLen kind), 0x5A#8, 0x5A#8])

/-- XTS material whose halves are equal (R624). -/
def xtsEqual (kind : Nat) (m : Bytes) : Bool :=
  (kind == 1 || kind == 2) && m.take (kindLen kind / 2) == m.drop (kindLen kind / 2)

/-- The key check value of R627. -/
def kcv (kind : Nat) (m : Bytes) : Bytes :=
  (aesEnc (if kind = 1 ∨ kind = 2 then m.take (kindLen kind / 2) else m) (List.replicate 16 0)).take 3

/-- Six hexadecimal digits of the check value. -/
def kcvText (kind : Nat) (m : Bytes) : String := hexPlain 6 (beNat (kcv kind m))

/-- The twin key's slot is named (R869). -/
def State.namesTwinKey (s : State) (slots : List Nat) : Bool :=
  match s.twin.pairing with | some g => slots.contains (512 + g.wk) | none => false

/-- The checks of a load or generation up to its material, in order: lifecycle (R947), Table CMDA-3, the wrapping slot (R1003), the
journal (R784), the owner (R629), the slot as it stands (R1005). -/
def State.arrivalFault (s : State) (slot kind : Nat) (how : Arrival) (wrap owner : Option Nat) : Option Status :=
  let badWrap : Bool := match how, wrap with
    | .plain, w => w.isSome
    | _, some w => decide (w < 512) || decide (574 < w) || w == slot
    | _, none => true
  let wrapEmpty : Bool := match wrap with
    | some w => !((s.slot w).state == .loaded && (s.slot w).kind == 16)
    | none => false
  let own := owner.getD 0
  let ownerOk : Bool := match s.pockets.lookup own with | some k => k.state != .deleting | none => false
  let k := s.slot slot
  if !arrivalOk slot kind how owner || badWrap then some .badArg
  else if s.get LCS_STATE.STATE = 4 then some .lifecycle
  else if wrapEmpty then some .keyEmpty
  else if !s.journalServes then some .domainOff
  else if !ownerOk then some .wrongState
  else if k.state = .retiring ∨ (k.state = .loaded ∧ k.owner ≠ own) then some .wrongState
  else none

/-- The journal update that gives a slot its new content (R635, R1007). -/
def State.loadSlot (s : State) (slot kind own : Nat) (m : Bytes) (kv : List KV) (data : List (List KV)) : State :=
  let u : KeyUpdate := {
    slot := slot, content := some { state := .loaded, kind := kind, owner := own, material := m, lost := false }, startUs := s.clk,
    line := true, clears := [],
    kv := [("slot", keySlotId slot), ("kind", kindName kind), ("owner", pocketId own), ("kcv", kcvText kind m), ("jseq", "")] ++ kv,
    data := data }
  s.startUpdate u

/-- A wrapped load (R624 to R629, R1003 to R1005): the blob is unwrapped under a WK slot. -/
def State.loadWrapped (s : State) (blob : Bytes) (slot kind wrap : Nat) (owner : Option Nat) : State × Result :=
  match s.arrivalFault slot kind .wrapped (some wrap) owner with
  | some .badArg => (s, .fail .badArg)
  | f =>
    if blob.length ≠ kindLen kind + 8 then (s, .fail .badArg)
    else
      match f with
      | some st => (s, .fail st)
      | none =>
        let (iv, m) := keyUnwrap (s.slot wrap).material blob
        if iv ≠ wrapIv kind then (s.count KEY_UNWRAP.FAIL 1, .fail .unwrapFail)
        else
          let s1 := s.count KEY_UNWRAP.OK 1
          if xtsEqual kind m then (s1, .fail .badArg) else (s1.loadSlot slot kind (owner.getD 0) m [] [], .wait .journal)

/-- A plain load (R628, R1004). -/
def State.loadPlain (s : State) (blob : Bytes) (slot kind : Nat) (owner : Option Nat) : State × Result :=
  match s.arrivalFault slot kind .plain none owner with
  | some .badArg => (s, .fail .badArg)
  | f =>
    if blob.length ≠ kindLen kind then (s, .fail .badArg)
    else
      match f with
      | some st => (s, .fail st)
      | none => (s.loadSlot slot kind 0 blob [] [], .wait .journal)

/-- Data lines of 8 bytes each (R1006). -/
def blobLines : Nat → Bytes → List (List KV)
  | off, b0 :: b1 :: b2 :: b3 :: b4 :: b5 :: b6 :: b7 :: r =>
    [("off", dec off), ("hex", hexBytes [b0, b1, b2, b3, b4, b5, b6, b7])] :: blobLines (off + 8) r
  | off, b => if b = [] then [] else [[("off", dec off), ("hex", hexBytes b)]]

/-- A generation (R624, R628, R1002, R1003, R1005, R1006): fresh material is a free value (assumption log entry 3). -/
def State.genKey (s : State) (slot kind wrap : Nat) (owner : Option Nat) : State × Result :=
  match s.arrivalFault slot kind .generated (some wrap) owner with
  | some st => (s, .fail st)
  | none =>
    let m := (List.range (kindLen kind)).map (fun i => Config.randomByte s.free i)
    let s1 := s.useFree
    if xtsEqual kind m then (s1, .fail .badArg)
    else
      let b := keyWrap (s.slot wrap).material (wrapIv kind) m
      (s1.loadSlot slot kind (owner.getD 0) m [("bytes", dec b.length)] (blobLines 0 b), .wait .journal)

/-- `key erase` (R630, R632, R784, R1008). -/
def State.eraseKey (s : State) (slot : Nat) : State × Result :=
  if 575 < slot then (s, .fail .badArg)
  else
    match (s.slot slot).state with
    | .empty => (s, .ok [] [("slot", keySlotId slot), ("state", "empty"), ("jseq", dec s.keys.jseq)])
    | .retiring => (s, .fail .wrongState)
    | .loaded => if s.journalServes then (s.retireSlot slot, .wait .journal) else (s, .fail .domainOff)

/-- `key show clear` (R638, R1010). -/
def State.clearLostFlags (s : State) (slot : Option Nat) : State × Result :=
  let hit := (s.keys.slots.filter (fun x => x.2.lost && (match slot with | some c => x.1 == c | none => true))).map (·.1)
  match hit with
  | [] => (s, .ok [] [("cleared", "0"), ("jseq", dec s.keys.jseq)])
  | c :: _ =>
    if !s.journalServes then (s, .fail .domainOff)
    else
      let u : KeyUpdate := {
        slot := c, content := none, startUs := s.clk, line := true, clears := hit,
        kv := [("cleared", dec hit.length), ("jseq", "")], data := [] }
      (s.startUpdate u, .wait .journal)

/-- Hexadecimal bytes in lines of at most 16. -/
def blobAdds : Nat → Bytes → List String
  | 0, _ => []
  | n + 1, b => if b = [] then [] else ("key blob add hex=" ++ hexBytes (b.take 16)) :: blobAdds n (b.drop 16)

/-- A LOADED slot goes to the secondary, wrapped under the twin key (chapter 16, Table SEAM-6): never under a root key. The twin key
itself, and a challenge key, cannot go. -/
def State.tellKey (s : State) (slot : Nat) : State :=
  match s.twin.pairing with
  | none => s
  | some g =>
    let k := s.slot slot
    if !s.mirrors || k.state ≠ .loaded || slot == 512 + g.wk || decide (575 ≤ slot) then s
    else
      let b := keyWrap (s.slot (512 + g.wk)).material (wrapIv k.kind) k.material
      let s1 := (blobAdds 8 b).foldl State.mirrorLine s
      let own : List KV := if slot < 512 then [("owner", pocketId k.owner)] else []
      s1.tell ["key", "load", keySlotId slot] ([("kind", kindName k.kind), ("wrap", keySlotId (512 + g.wk))] ++ own)

/-- A committed key update reaches the secondary: a load as the wrapped key, an erasure as its line. -/
def State.tellUpdate (s : State) (u : KeyUpdate) : State :=
  if !u.line || u.clears ≠ [] then s
  else match u.content with
    | some _ => s.tellKey u.slot
    | none => s.tell ["key", "erase", keySlotId u.slot] []

end Sys2Proof.Machine
end

