-- ==== Sys2Proof/Machine/DataRows.lean ====
section
/-!
DEFINITION. Sys2Proof/Machine/DataRows.lean: what the host's CMD and DAT frames do, the card's turns, Sleeve reset, the dispatch of
each opcode, and the end of Pockets, queues and basted reads (chapters 04 to 07).
-/
namespace Sys2Proof.Machine
open Sys2Proof

/-! ### Frames from the host -/

/-- CMD_FRAME_RECEIVE (R274, R279, R280, R333 to R341, R353): entries are accepted in order, or refused. A payload that is
not a positive multiple of 64 bytes completes each whole entry with BAD_FRAME. -/
def State.cmdFrame (s : State) (rx : SlvRx) (queue : Nat) (payload : Bytes) (us : Nat) : State :=
  let s0 := (s.resume).at us
  if s0.slv.phase ≠ .data then s0
  else
    let (s1, v) := s0.judge rx payload.length
    match v with
    | .accepted =>
      let bad := payload.length % 64 != 0 || payload.length == 0
      ((entriesOf 65 payload).foldl (fun t e => t.acceptEntry queue e bad) s1)
    | _ => s1

/-- A command that awaits write data (R275). -/
def Cmd.awaitsData (c : Cmd) : Bool := (c.opcode == 2 || c.opcode == 7) && decide (c.received < 4096 * c.count)

/-- A DAT frame's bytes join a command: in ascending OFFSET, without gap or overlap, within its length (R273). -/
def Cmd.takeData (c : Cmd) (offset : Nat) (bs : Bytes) : Cmd :=
  if offset = c.received ∧ c.received + bs.length ≤ 4096 * c.count then
    { c with bytes := c.bytes ++ bs, received := c.received + bs.length }
  else { c with bad := true, received := max c.received (min (4096 * c.count) (offset + bs.length)) }

/-- Data for a command in execution: a WRITE whose data is complete starts its passes (R404), a SEAL computes its tag. -/
def State.execData (s : State) (x : Exec) (offset : Nat) (bs : Bytes) : State :=
  let x1 := { x with cmd := x.cmd.takeData offset bs }
  let s1 := s.setExec x1
  if x1.cmd.bad then s1.finishExec x1 .badFrame 0
  else if x1.cmd.received < 4096 * x1.cmd.count then s1
  else if x1.cmd.opcode = 7 then s1.sealReady x1
  else s1.setExec { x1 with blks := x1.cmd.blocks }

/-- DAT_FRAME_RECEIVE (R270, R273, R275, R279 to R281, R404): `type` is the frame's TYPE. A frame for a WRITE that has all its data is one whose
tag names no WRITE awaiting data (R275), also where R273 could call it an overlap (DESIGN CHOICE, assumption log entry 203). -/
def State.datFrame (s : State) (rx : SlvRx) (type tag queue offset : Nat) (payload : Bytes) : State :=
  let s0 := s.resume
  if s0.slv.phase ≠ .data then s0
  else
    let (s1, v) := s0.judge rx payload.length
    if v ≠ .accepted then s1
    else if type ≠ 3 then (s1.count SLV_DISCARD.UNEXP 1)
    else
      match s1.execOf queue tag with
      | some x =>
        if x.cmd.awaitsData then (((s1.cross x.pocket payload.length).execData x offset payload).settle)
        else (s1.count SLV_DISCARD.UNEXP 1)
      | none =>
        match s1.queues.lookup queue with
        | none => (s1.count SLV_DISCARD.UNEXP 1)
        | some k =>
          if k.waiting.any (fun c => c.tag == tag && c.awaitsData) then
            let upd (c : Cmd) : Cmd := if c.tag = tag then s1.spread (c.takeData offset payload) else c
            ((s1.cross k.pocket payload.length).setQueue queue { k with waiting := k.waiting.map upd })
          else (s1.count SLV_DISCARD.UNEXP 1)

/-! ### The card's turn -/

/-- A completion is placed in a CPL frame: its slot is free, its meters move (R330, R906). One that never held a slot moves none. -/
def State.place1 (s : State) (c : Completion) : State :=
  let s1 := match s.queues.lookup c.queue with
    | some k => s.setQueue c.queue { k with doneTags := k.doneTags.filter (fun e => e.ref ≠ c.ref) }
    | none => s
  if c.pocket = 0 then s1
  else
    let s2 := if c.opcode = 1 then s1.meter c.pocket 0 (4096 * c.blocks)
      else if c.opcode = 2 ∨ c.opcode = 7 then s1.meter c.pocket 1 (4096 * c.blocks) else s1
    s2.meter c.pocket 2 1

/-- The BASTED flag of a DAT frame as its first character is sent (R369). -/
def State.bastedNow (s : State) (tag queue offset : Nat) : Bool :=
  match s.execOf queue tag with
  | none => false
  | some x =>
    match x.blks[offset / 4096]? with
    | some b => x.baste && b.codec != .good
    | none => false

/-- An item as it is first sent. -/
def State.flagItem (s : State) : TxItem → TxItem
  | .dat _ t q o b => .dat (s.bastedNow t q o) t q o b
  | x => x

/-- The last bytes of a block have been sent (R221). -/
def Exec.noteSent (x : Exec) (offset len : Nat) : Exec :=
  match x.blks[offset / 4096]? with
  | some b => { x with begun := true, blks := x.blks.set (offset / 4096) { b with sent := b.sent || decide (4096 ≤ offset % 4096 + len) } }
  | none => { x with begun := true }

/-- Does a command bring the host data in DAT frames: READ its blocks, SEAL its check values? -/
def bringsData (opcode : Nat) : Bool := opcode == 1 || opcode == 7

/-- The completion of a READ or SEAL of which a DAT frame has been sent (R221). -/
def Completion.noteSent (tag queue : Nat) (c : Completion) : Completion :=
  if bringsData c.opcode ∧ c.tag = tag ∧ c.queue = queue then { c with begun := true } else c

/-- What sending an item for the first time leaves behind: CCH_BASTED, the end of the tag's last basted frame (R377), how far a READ's
transfer has come (R221), its bytes on the Sleeve link (R911). -/
def State.noteSent (s : State) : TxItem → State
  | .dat b t q o bs =>
    let s0 := s.cross (match s.queues.lookup q with | some k => k.pocket | none => 0) bs.length
    let s1 := if b then s0.count CCH_BASTED.COUNT 1 else s0
    match s1.execOf q t with
    | some x =>
      let x1 := x.noteSent o bs.length
      s1.setExec { x1 with lastBasted := if b then some s1.clk else x1.lastBasted }
    | none =>
      let upd : TxItem → TxItem
        | .cpl es => .cpl (es.map (Completion.noteSent t q))
        | i => i
      { s1 with slv := { s1.slv with
          posted := s1.slv.posted.map (Completion.noteSent t q), newItems := s1.slv.newItems.map upd,
          unacked := s1.slv.unacked.map (fun x => { x with item := upd x.item }) } }
  | _ => s

/-- The card's own retrain takes the turn: its frame three times (R214, R285, R292, R300). R292 names ACK alone before the frame; a REP that is
due stands between the two, as R281 and R285 say of every turn (DESIGN CHOICE, assumption log entry 199). -/
def State.retrainTurn (s : State) (r : Nat) : State :=
  let m := s.leaseNow
  let rep := s.slv.repDue
  let s0 := if rep then s.count SLV_REPCNT.TX 1 else s
  let s1 := ((s0.count SLV_RETRAIN.COUNT 1).set SLV_RETRAIN.LAST_REASON r).set SLV_CTL.RETRAIN 0
  let s2 := { s1 with slv := { s1.slv with phase := .retrainSent, reason := r, retrainDue := none, repDue := false } }
  ((s2.slvSend [s.opening m rep, .retrain r, .turn]).set SLV_STAT.LEASE_M m).set SLV_STAT.OWNER 0

/-- Does a command accepted before the last Sleeve reset still owe its completion (R223)? -/
def State.oldRuns (s : State) : Bool :=
  s.execs.any (fun x => s.isOld x.cmd.ref) || s.queues.any (fun k => k.2.waiting.any (fun c => s.isOld c.ref))

/-- The completions that may be placed now, in order: after a Sleeve reset those of earlier submissions first, and later ones only when none
of those is owed (R223, R348). -/
def State.placeable (s : State) : List Completion :=
  let all := s.slv.posted ++ s.refusals
  all.filter (fun c => s.isOld c.ref) ++ (if s.oldRuns then [] else all.filter (fun c => !s.isOld c.ref))

/-- Completions are placed in CPL frames that join the queued items (R330, R348). -/
def State.placeAll (s : State) (placed : List Completion) (per : Nat) : State :=
  let s1 := placed.foldl State.place1 s
  let left (l : List Completion) : List Completion := l.filter (fun c => !placed.any (fun d => d.ref == c.ref))
  { s1 with
    refusals := left s1.refusals,
    slv := { s1.slv with posted := left s1.slv.posted, newItems := s1.slv.newItems ++ cplFrames per (placed.length + 1) placed } }

/-- A planned turn goes out: opening, a due REP, repeats, new items, TURN (R285, R286). -/
def State.sendTurn (s : State) (plan : TurnPlan) : State :=
  let m := s.leaseNow
  let rep := s.slv.repDue
  let news := plan.news.map (fun x => { x with item := s.flagItem x.item })
  let (un, back) := s.afterPlan plan news
  let s3 := { s with slv := { s.slv with
    unacked := un, backAt := back, newItems := plan.rest, okFirst := s.slv.okFirst && plan.rest.any TxItem.isMgt,
    txNext := (s.slv.txNext + news.length) % 4096, repDue := false } }
  let s4 := news.foldl (fun t x => t.noteSent x.item) s3
  let s5 := if rep then s4.count SLV_REPCNT.TX 1 else s4
  let out := (plan.repeats ++ news).map (fun x => SlvOut.item x.seq x.item)
  ((s5.slvSend (s.opening m rep :: out ++ [.turn])).set SLV_STAT.LEASE_M m).set SLV_STAT.OWNER 0

/-- CARD_TURN_START (R214, R215, R223, R285 to R288, R290, R291, R294, R300, R306, R348, R376): preamble, ACK with the lease, a due REP, repeats,
then new items in order. `fit` items start before TURN_MAX_US has passed. A retrain that is due takes the turn, and so does one with
REASON 1 where an item would be sent for the ninth time. -/
def execCardTurnStart (fit : Nat) (us : Nat) (s : State) : Host.Outcome State Fault Refusal :=
  if s.slv.phase ≠ .data ∨ s.flag SLV_STAT.OWNER = false then .next s
  else
    let s0 := s.at us
    let room := min (s0.get SLV_FORCE0.TURN_MAX_FRAMES) fit
    match (if (s0.planTurn room).ninth then some (s0.slv.retrainDue.getD 1) else if s0.slv.okFirst then none else s0.slv.retrainDue) with
    | some r => .next (s0.retrainTurn r)
    | none =>
      let backlog := (if s0.slv.backAt.isSome then s0.slv.unacked.length else 0) + s0.slv.newItems.length
      let per := max 1 (min 128 (s0.frameSize / 32))
      let frames := min (room - backlog) (1024 - s0.slv.unacked.length - s0.slv.newItems.length)
      let s1 := s0.placeAll (s0.placeable.take (per * frames)) per
      .next (s1.sendTurn (s1.planTurn room)).settle

/-! ### Sleeve reset -/

/-- Is an item a DAT frame of the tag? -/
def TxItem.datOf (tag queue : Nat) : TxItem → Bool
  | .dat _ t q _ _ => t == tag && q == queue
  | _ => false

/-- Has a DAT frame of the tag been sent and not been acknowledged (R221)? -/
def State.datUnacked (s : State) (tag queue : Nat) : Bool := s.slv.unacked.any (fun i => i.item.datOf tag queue)

/-- Is the transfer of a READ in execution incomplete on the link (R221, R418): some DAT frame has been sent, and one is unacknowledged
or a block has never been sent? A READ of which no DAT frame has been sent runs on (assumption log entry 174). -/
def State.readCut (s : State) (x : Exec) : Bool :=
  x.cmd.opcode == 1 && x.begun && (s.datUnacked x.cmd.tag x.queue || x.blks.any (fun b => !b.sent))

/-- The same of a READ or SEAL that has ended (R221, R328). -/
def State.doneCut (s : State) (c : Completion) : Bool :=
  bringsData c.opcode && c.begun &&
  (s.datUnacked c.tag c.queue || (!c.sentAll && s.slv.newItems.any (fun i => i.datOf c.tag c.queue)))

/-- The items of a tag leave the link's queue. -/
def State.dropItems (s : State) (tag queue : Nat) : State :=
  let mine : TxItem → Bool
    | .dat _ t q _ _ => t == tag && q == queue
    | .unp t q _ _ _ => t == tag && q == queue
    | _ => false
  { s with slv := { s.slv with newItems := s.slv.newItems.filter (fun i => !mine i) } }

/-- Commands whose transfer on the link was incomplete end with DOMAIN_RESET and 0 blocks (R221, R418): running READs and WRITEs, WRITEs
that wait for their data, and READs that have ended, whose completion is changed. `back` are the completions sent and not acknowledged. -/
def State.cutTransfers (s : State) (back : List Completion) : State :=
  let ended := back ++ (s.slv.newItems.map TxItem.entries).flatten ++ s.slv.posted
  let cut := ended.filter s.doneCut
  let fix (c : Completion) : Completion :=
    if cut.any (fun d => d.ref == c.ref) then { c with status := Status.domainReset.code, blocks := 0, prefetchHit := c.prefetchHit } else c
  let s0 := { s with slv := { s.slv with posted := ended.map fix } }
  let s1 := cut.foldl (fun t c => t.dropItems c.tag c.queue) s0
  let s2 := s.execs.foldl (fun t x =>
    if s.readCut x ∨ x.cmd.awaitsData = true then
      (t.dropItems x.cmd.tag x.queue).finishExec x .domainReset 0 else t) s1
  s2.queues.foldl (fun t qk =>
    let cut := qk.2.waiting.filter (fun c => c.awaitsData)
    match t.queues.lookup qk.1 with
    | none => t
    | some k =>
      cut.foldl (fun u c => u.postWaiting qk.1 c .domainReset)
        (t.setQueue qk.1 { k with waiting := k.waiting.filter (fun c => !c.awaitsData) })) s2

/-- The registers a Sleeve reset returns to their reset words: status, sequence and counters, not the settings (chapter 05). -/
def sleeveStatusRegs : List Nat :=
  [SLV_STAT.addr, SLV_FORCE0.addr, SLV_FORCE1.addr, SLV_SEQ.addr, SLV_CRCERR.addr, SLV_GUSSETFIX.addr, SLV_REPCNT.addr,
   SLV_RETRAIN.addr, SLV_DISCARD.addr, SLV_CTL.addr] ++ (List.range 9).map (fun k => SLV_LANEERR.COUNT k |>.addr)

/-- A Sleeve domain is reset with the link (Table BOOT-6): a fence, and one in service goes on in SHADOW; one in CHECK starts its check again
under the new epoch. R777 and Table PWD-3 do not name a Sleeve reset, so the model runs no CHECK of D17 to D26 before their SHADOW
(DESIGN CHOICE, assumption log entry 166). -/
def State.resetLink (s : State) (d : Nat) : State :=
  if s.domServes d then (s.fence d).set (PWR_DSTAT.STATE d) 2 else if s.dom d = 0 then s else s.fence d

/-- A Sleeve reset (R191, R217, R219 to R223, R258, R278, R311, R418, R1001): transfers cut short end, unacknowledged completions go
back, and so do the unpick markers sent for a READ that runs on; D17 to D26 are fenced, the MGT session starts afresh. -/
def State.sleeveReset (s : State) : State :=
  let s1 := s.cutTransfers (s.slv.unacked.map (fun i => i.item.entries)).flatten
  let keep : TxItem → Bool
    | .dat _ _ _ _ _ => true
    | .unp _ _ _ _ _ => true
    | _ => false
  let goesOn (t q : Nat) : Bool := (s1.execOf q t).isSome || s1.slv.posted.any (fun c => c.queue == q && c.tag == t && c.status != Status.domainReset.code)
  let owed := (s.slv.unacked.map (fun i => i.item)).filter (fun i => match i with | .unp t q _ _ _ => goesOn t q | _ => false)
  let items := owed ++ s1.slv.newItems.filter keep
  let s2 := sleeveStatusRegs.foldl (fun t a => t.setWord a (resetWord a)) s1.sleeveOn
  let s3 := ((List.range 10).map (fun k => 17 + k)).foldl State.resetLink s2
  let s4 := { s3 with
    slv := { Sleeve.reset with
      newItems := items, posted := s1.slv.posted, sent := s1.slv.sent ++ [SlvOut.idle], ownLanes := s1.slv.ownLanes,
      oldBefore := s1.arb.nextRef } }
  ((s4.mute .mgt).endSession .mgt (Session.start .host)).dropImage .mgt

/-- The card sends GRT once SLV_RST_N and READY are high and the framer is in service (R83, R778). -/
def State.greet (s : State) : State :=
  if s.boot.sleeveHigh = true ∧ s.ready = true ∧ s.removing = false ∧ s.slv.phase = .reset ∧ s.domServes 26 = true then s.negotiate 0 else s

/-! ### Dispatch -/

/-- READ (R339, R341, R345, R349, R351, R355, R367, R385, R398, R449, R456, R472, R643). -/
def execRead (us : Nat) (s : State) : Host.Outcome State Fault Refusal :=
  .next ((s.at us).dispatch 1 State.readNeedsBulk State.startRead)

/-- WRITE (R339, R341, R342, R346, R349, R351, R408, R613, R631, R870). -/
def execWrite (us : Nat) (s : State) : Host.Outcome State Fault Refusal :=
  .next ((s.at us).dispatch 2 (fun _ _ _ => true) State.startWrite)

/-- TRIM (R342, R343, R411, R450, R459, R477, R871). -/
def execTrim (us : Nat) (s : State) : Host.Outcome State Fault Refusal :=
  .next ((s.at us).dispatch 3 (fun _ _ _ => false) State.startTrim)

/-- FLUSH (R339, R355, R413, R444). -/
def execFlush (us : Nat) (s : State) : Host.Outcome State Fault Refusal :=
  .next ((s.at us).dispatch 4 (fun _ _ _ => false) State.startFlush)

/-- VERIFY (R339, R381, R449, R608, R609). -/
def execVerify (us : Nat) (s : State) : Host.Outcome State Fault Refusal :=
  .next ((s.at us).dispatch 5 (fun _ _ _ => false) State.startRead)

/-- COPY (R339, R342, R346, R381, R408, R449, R598, R607, R871). -/
def execCopy (us : Nat) (s : State) : Host.Outcome State Fault Refusal :=
  .next ((s.at us).dispatch 6 State.readNeedsBulk State.startCopy)

/-- SEAL (R339, R340, R346, R611). -/
def execSeal (us : Nat) (s : State) : Host.Outcome State Fault Refusal :=
  .next ((s.at us).dispatch 7 (fun _ _ _ => false) State.startSeal)

/-! ### Pockets and queues -/

/-- POCKET_SIZE_REDUCE_APPLY (R317, R365, R992): a reduction that would leave a mapped Stitch beyond the new end is refused. -/
def execPocketSizeReduceApply (pocket : Nat) (s : State) : Host.Outcome State Fault Refusal :=
  match s.pockets.lookup pocket with
  | none => .next s
  | some k =>
    match k.change with
    | none => .next s
    | some c =>
      if s.anyBeyond pocket c.size then .next s
      else if s.usedFrom pocket c.size then
        .next ((s.setPocket pocket { k with change := none }).finishFor (.sizeReduce pocket) (fun t => .er t .wrongState))
      else
        let s1 := ((s.changePocket pocket k c).getD s).tellChange pocket
        .next (s1.finishFor (.sizeReduce pocket) (fun t => .ok t [] (s1.pocketKv pocket)))

/-- Every slot of a queue is free, no command of it runs and none of its completions waits to be sent. -/
def State.queueIdle (s : State) (q : Nat) (k : QueuePair) : Bool :=
  k.waiting.isEmpty && k.doneTags.isEmpty && !(s.execs.any (fun x => x.queue == q)) && !(s.slv.posted.any (fun c => c.queue == q))

/-- A queue is FREE. -/
def State.freeQueue (s : State) (q : Nat) : State := { s with queues := s.queues.filter (fun k => k.1 ≠ q) }

/-- QUEUE_FREE (R327, R997): the last completion of a DRAINING queue has been sent. The queues of a Pocket that is being deleted
return at its last step (R319). -/
def execQueueFree (queue : Nat) (s : State) : Host.Outcome State Fault Refusal :=
  match s.queues.lookup queue with
  | none => .next s
  | some k =>
    let deleting := match s.pockets.lookup k.pocket with | some p => p.state == .deleting | none => false
    if k.state = .draining ∧ s.queueIdle queue k = true ∧ deleting = false then
      .next ((s.freeQueue queue).confRecord.notify "queue free" [("q", queueId queue)])
    else .next s

/-- A Pocket's index entries are released. -/
def State.freeIndex (s : State) (p size : Nat) : State :=
  let a := (s.flash.bases.lookup p).getD 0
  let f := s.flash
  ({ s with flash := { f with
      bases := f.bases.filter (fun b => b.1 ≠ p), segs := f.segs.filter (fun x => x.1 < a || decide (a + indexLen size ≤ x.1)),
      segUse := f.segUse.filter (fun e => e < a || decide (a + indexLen size ≤ e)) } }).set (MAP_PBASE.BASE p) 0

/-- A Pocket's number is released. -/
def State.freePocket (s : State) (p : Nat) : State :=
  { s with
    pockets := s.pockets.filter (fun x => x.1 ≠ p), htg := { s.htg with minutes := s.htg.minutes.filter (fun x => x.1 ≠ p) } }

/-- POCKET_DELETE_FINISH (R318, R319 steps 6 and 7, R320, R923): once step 5 is done and its queues are idle, the last minute
closes, the queues return to FREE, the number is released. A deletion that a loss of power cut short goes on after READY. -/
def execPocketDeleteFinish (pocket : Nat) (s : State) : Host.Outcome State Fault Refusal :=
  match s.pockets.lookup pocket with
  | none => .next s
  | some k =>
    let qs := s.queues.filter (fun q => q.2.pocket == pocket)
    if s.ready = true ∧ k.state = .deleting ∧ 5 ≤ k.delStep ∧ qs.all (fun q => s.queueIdle q.1 q.2) = true then
      let s1 := s.closeFinal pocket
      let s2 := qs.foldl (fun t q => (t.freeQueue q.1).notify "queue free" [("q", queueId q.1)]) s1
      .next ((s2.freeIndex pocket k.size).freePocket pocket).confRecord
    else .next s

/-! ### Basting and prefetch -/

/-- BASTE_CPL_DEADLINE (R378): 50 ms after the tag's last basted frame, the recovery of its blocks is abandoned. -/
def execBasteCplDeadline (queue tag us : Nat) (s : State) : Host.Outcome State Fault Refusal :=
  match (s.at us).execOf queue tag with
  | none => .next (s.at us)
  | some x =>
    match x.lastBasted with
    | none => .next (s.at us)
    | some t =>
      if us < t + 50000 then .next (s.at us)
      else
        let give (b : Blk) : Blk := match b.codec with
          | .good => b
          | .lost _ => b
          | _ => { b with codec := .lost Status.mediaUncorrectable.code }
        .next (((s.at us).setExec { x with blks := x.blks.map give }).settle)

end Sys2Proof.Machine
end

