-- ==== Sys2Proof/Machine/FlashRows.lean ====
section
/-!
DEFINITION. Sys2Proof/Machine/FlashRows.lean: prefetch fills, the mover, Bolts, the map's segments and checkpoints, decoding and
recovery (chapters 07, 08 and 09).
-/
namespace Sys2Proof.Machine
open Sys2Proof

/-! ### Decoding -/

/-- A codeword read in line counts toward its Bolt's rate (R493): the bits corrected, or t + 1 when it fails, be it by its metadata (R496). -/
def State.countLap (s : State) (ppa j : Nat) (res : Decode) : State :=
  match s.boltAt ppa with
  | none => s
  | some b =>
    let n := match s.right ppa j res with | some (_, k) => k | none => b.t + 1
    let l := (s.flash.lap.find? (fun x => x.group == b.group && x.idx == b.idx)).getD
      { group := b.group, idx := b.idx, corrected := 0, decoded := 0 }
    let l1 := { l with corrected := l.corrected + n, decoded := l.decoded + codewordBits b.t }
    { s with flash := { s.flash with lap := l1 :: s.flash.lap.filter (fun x => !(x.group == b.group && x.idx == b.idx)) } }

/-- The Stitch mapped to a page. -/
def State.stitchAt (s : State) (ppa : Nat) : Option (Nat × Nat) :=
  (s.flash.map.find? (fun e => entryPpa e.2 == ppa)).map (fun e => (e.1 / 2 ^ 34, e.1 % 2 ^ 34))

/-- The Stitch mapped to a page is queued for relocation. -/
def State.refreshPage (s : State) (ppa : Nat) : State :=
  match s.stitchAt ppa with
  | some (p, st) => s.queueReloc p st []
  | none => s

/-- A block's bytes were wrong: what is not yet sent is taken back; what was sent basted is withdrawn by a marker (R371, R372).
Its pass through a bulk core starts again. -/
def State.withdraw (s : State) (x : Exec) (i : Nat) (b : Blk) (st : Status) : State × Blk :=
  let pass : Pass := match b.pass with | .core _ n => .stale n | .stale n => .stale n | _ => .none
  if b.posted && !b.pulled then
    if s.stillQueued x i then (s.unpost x i, { b with pass := pass, posted := false, data := [] })
    else (s.unpost x i |>.unpick x i st, { b with pass := pass, pulled := true, data := [] })
  else (s, { b with pass := pass, data := [] })

/-- A block cannot be confirmed (R374): what was sent basted is withdrawn (R371). -/
def State.loseBlk (s : State) (x : Exec) (i : Nat) (b : Blk) (mark st : Status) : State × Blk :=
  let (s1, b1) := s.withdraw x i b mark
  (s1, { b1 with codec := .lost st.code })

/-- A codeword is right: the block's ciphertext and check value stand; it may join the cache as CLEAN while the map still names its
page (R355, R394, R401, R496, R506, R609). -/
def State.gotCodeword (s : State) (x : Exec) (i : Nat) (b : Blk) (w : Bytes) : State × Blk :=
  let ck := cwCheck w
  if cwFormat w = 7 then s.loseBlk x i b .unpickedEcc .mediaUncorrectable
  else if x.cmd.integ = true ∧ ck = none then s.loseBlk x i b .unpickedMac .macMismatch
  else
    let data := if b.data = [] then cwData w else b.data
    let c : Codec := if x.cmd.integ then .mac b.again else .good
    let mapped : Bool := b.ppa.isSome && s.pageOf x.pocket (x.cmd.lba + i) == b.ppa
    let s1 := if x.cmd.opcode = 1 ∧ x.cmd.fua = false ∧ mapped = true then s.fill x.pocket (x.cmd.lba + i) .clean (cwData w) ck else s
    (s1, { b with codec := c, data := data, check := ck })

/-- The ladder steps of a page's LUN, of at most `n` (R498, R499). -/
def State.stepsOf (s : State) (ppa n : Nat) : Nat :=
  match s.die (ppaCh ppa) (ppaPos ppa) with
  | some d => if d.offsets then min 12 n else 0
  | none => 0

def State.ladderSteps (s : State) (ppa : Nat) : Nat := s.stepsOf ppa (s.get ECC_CFG.RETRY_STEPS)

/-- Step k of a ladder sets the LUN's read levels to its offset, and after its read to zero again (R498, R500). -/
def State.stepLevels (s : State) (ppa k : Nat) : State :=
  let lun := ppaCh ppa * 16 + ppaPos ppa
  { s with flash := { s.flash with levels := s.flash.levels ++ [(lun, s.get (ECC_RRSTEP.OFFSET (k - 1))), (lun, 0)] } }

/-- The first recovery of a page begins: the ladder's first step, or the rebuild where the ladder has no step (R498, R499, R501). -/
def State.startRecovery (s : State) (ppa j us : Nat) : State :=
  match s.flash.recov.find? (fun r => r.ppa == ppa) with
  | some r =>
    if r.failing.contains j then s
    else
      let upd (q : Recovery) : Recovery := if q.ppa = ppa then { q with failing := q.failing ++ [j] } else q
      { s with flash := { s.flash with recov := s.flash.recov.map upd } }
  | none =>
    let r : Recovery := ⟨ppa, [j], if s.ladderSteps ppa = 0 then 0 else 1, us⟩
    { s with flash := { s.flash with recov := s.flash.recov ++ [r] } }

/-- The blocks of commands in execution that stand at a codeword, in `atMedia` streaming or else in recovery: (execution, block). -/
def State.waitersAt (s : State) (c : Codec) : List (Nat × Nat) :=
  (s.execs.map (fun x => ((List.range x.blks.length).filter (fun i =>
    match x.blks[i]? with | some b => b.codec == c | none => false)).map (fun i => (x.id, i)))).flatten

/-- One block's step, given the command as it now stands. -/
def State.onBlk (s : State) (id i : Nat) (f : State → Exec → Blk → State × Blk) : State :=
  match s.execs.find? (fun y => y.id == id) with
  | none => s
  | some x =>
    match x.blks[i]? with
    | none => s
    | some b =>
      let (s1, b1) := f s x b
      (s1.setExec (x.setBlk i b1)).advanceBlk id i

/-- One waiting block hears the result of its codeword's decode in line. A codeword that decodes with metadata other than the block's, or
does not decode, goes through the ladder (R375, R496). -/
def State.hearDecode (s : State) (ppa j us : Nat) (res : Decode) (id i : Nat) : State :=
  s.onBlk id i (fun t x b =>
    match t.right ppa j res with
    | some (w, 0) => t.gotCodeword x i b w
    | some (w, _) =>
      let (t1, b1) := t.withdraw x i b .unpickedEcc
      t1.gotCodeword x i b1 w
    | none =>
      let (t1, b1) := t.withdraw x i b .unpickedEcc
      (t1.startRecovery ppa j us, { b1 with codec := .recover ppa j }))

/-- The bits corrected in a right codeword count, and one near its limit is queued for relocation (R505, Table SDP-5). -/
def State.countCorrected (s : State) (ppa j : Nat) (res : Decode) : State :=
  match s.right ppa j res with
  | some (_, k) =>
    let s1 := s.count ECC_FCORR.BITS k
    match s1.boltAt ppa with
    | some b => if b.t * clamp 50 100 (s1.get ECC_CFG.REFRESH_PCT) ≤ 100 * k then s1.refreshPage ppa else s1
    | none => s1
  | _ => s

/-! ### The flash patrol (R493, R525, R526) -/

/-- The patrol's pages of a Bolt from a place on: every programmed page of a FULL Bolt, of an OPEN one those of closed rows, on channels
that can be read. The first of them, with its place. -/
def State.patrolIn (s : State) (b : Bolt) (k : Nat) : Option (Nat × Nat) :=
  let n := b.present.length
  let rows := if b.state = .full then b.rows else if b.state = .opened then b.rows else 0
  let at_ (i : Nat) : Nat := b.rowPpa (i / n) (b.present.getD (i % n) 0)
  ((List.range (rows * n)).find? (fun i =>
    decide (k ≤ i) && (b.state == .full || b.rowsDone.contains (i / n)) && (s.page (at_ i)).isSome && s.flashReadable (ppaCh (at_ i)))).map
    (fun i => (b.seq * 2 ^ 32 + i, at_ i))

/-- The patrol's next page and its place, Bolt by Bolt in BOLT_SEQ order. -/
def State.patrolNext (s : State) : Option (Nat × Nat) :=
  let q := s.flash.patrolPos / 2 ^ 32
  leastBy (fun x => x.1) (s.flash.bolts.filterMap (fun b =>
    if b.seq < q then none else s.patrolIn b (if b.seq = q then s.flash.patrolPos % 2 ^ 32 else 0)))

/-- A group's rate over a lap: the highest of its Bolts' (R493), in 10^-9. -/
def State.lapRateOf (s : State) (g : Nat) : Option Nat :=
  match s.flash.lap.filter (fun l => l.group == g && decide (0 < l.decoded)) with
  | [] => none
  | ls => some ((ls.map (fun l => roundDiv (l.corrected * 1000000000) l.decoded)).foldl max 0)

/-- A group's measured rate stands in ECC_GRBER, and TNEXT with it. -/
def State.showRate (s : State) (g n : Nat) : State := (s.setSat (ECC_GRBER.PPB g) n).setTNext g

/-- A lap ends (R493, R525): the rates it measured are stored and shown, its length in hours too. -/
def State.lapEnds (s : State) : State :=
  let rates := (List.range 16).filterMap (fun g => (s.lapRateOf g).map (fun n => (g, n)))
  let s1 := rates.foldl (fun t r => t.showRate r.1 r.2) s
  let f := s1.flash
  let s2 : State := { s1 with flash := { f with
    lapRate := rates.foldl (fun (l : List (Nat × Nat)) (r : Nat × Nat) => putSorted r.1 r.2 l) f.lapRate, lap := [], lapStart := s1.clk,
    lapWarned := false, patrolPos := 0 } }
  (s2.setSat ECC_FPATROL.LAP_H (roundDiv (s2.clk - s.flash.lapStart) 3600000000)).modeRecord

/-- The patrol hears a codeword of a page it reads, work for no Pocket (R911): a failing one is recovered (R505, R506). With the page's last codeword the read is
over, and with the last page the lap. -/
def State.patrolHears (s : State) (ppa j us : Nat) (res : Decode) : State :=
  let s1 := (if (s.right ppa j res).isSome then s else s.startRecovery ppa j us).cross 0 4096
  if j < 3 then s1
  else
    let s2 := { s1 with flash := { s1.flash with reads := s1.flash.reads.erase ppa } }
    if s2.flash.reads = [] ∧ s2.patrolNext = none then s2.lapEnds else s2

/-- CODEWORD_DECODE (R368, R371, R375, R493 to R499, R505, R525, R533): an ECC pool finishes codeword j of a page, of which the bits `errs` were read
wrong. Every block that
streams from it hears the result, and the patrol where it reads the page; one recovery serves them all. -/
def execCodewordDecode (ppa j : Nat) (errs : List Nat) (us : Nat) (s : State) : Host.Outcome State Fault Refusal :=
  let s0 := (s.at us).learn ppa j errs
  let res := s0.decodeRead ppa j errs
  let ws := s0.waitersAt (.media ppa j)
  let patrol := s0.flash.reads.contains ppa
  if ws = [] ∧ patrol = false then .next s0
  else
    let s1 := (s0.countLap ppa j res).countCorrected ppa j res
    let s2 := ws.foldl (fun t w => t.hearDecode ppa j us res w.1 w.2) s1
    .next ((if patrol then s2.patrolHears ppa j us res else s2).settle)

/-- The channels of a segment's map row: four of its row's data positions (R453, R458). -/
def State.segChs (s : State) (g : Seg) : List Nat :=
  match (s.flash.mapBolts.lookup g.slot).bind (fun x => s.bolt x.1 x.2) with
  | some b => (b.dataChs.drop (4 * g.quartet)).take 4
  | none => []

/-- Is a host, prefetch, mover or map read queued for a channel, or another page read under way there, those of a rebuild's row among them (R501,
R525)? -/
def State.channelBusy (s : State) (ch : Nat) : Bool :=
  let on (e : Nat) : Bool := e != 0 && ppaCh (entryPpa e) == ch
  s.execs.any (fun x => x.blks.any (fun b => match b.codec with
    | .media a _ => ppaCh a == ch | .recover a _ => ppaCh a == ch | _ => false)) ||
  s.flash.reads.any (fun a => ppaCh a == ch) ||
  s.flash.recov.any (fun r => ppaCh r.ppa == ch ||
    (r.step == 0 && (match s.boltAt r.ppa with | some b => b.present.contains ch | none => false))) ||
  s.cache.wanted.any (fun w => on (s.entry w.1 (w.2 / 4))) || s.flash.gcQueue.any (fun w => on (s.entry w.1 w.2)) ||
  s.flash.relocs.any (fun r => on (s.entry r.pocket r.stitch)) || s.flash.segs.any (fun x => x.2.reading && (s.segChs x.2).contains ch)

/-- FLASH_PATROL_READ (R525, R798): the next page is read while nothing else is queued for its channel; with IDLE armed at most one read per
10 µs and channel. -/
def execFlashPatrolRead (us : Nat) (s : State) : Host.Outcome State Fault Refusal :=
  let s0 := s.at us
  if !s0.ready || s0.asleep || s0.quiesced || s0.flag ECC_CFG.PATROL_EN = false then .next s0
  else
    match s0.patrolNext with
    | none => .next (if s0.flash.reads = [] ∧ 0 < s0.flash.patrolPos then s0.lapEnds else s0)
    | some (pos, ppa) =>
      let ch := ppaCh ppa
      let soon := match s0.flash.patrolUs.lookup ch with | some t => decide (us < t + 10) | none => false
      if s0.channelBusy ch || (s0.flag PWR_STATE.IDLE_ARM && soon) then .next s0
      else .next { s0 with flash := { s0.flash with
        patrolPos := pos + 1, patrolUs := upsert ch us s0.flash.patrolUs, reads := s0.flash.reads ++ [ppa] } }

/-- PATROL_SLOW (R526): the lap has lasted longer than WARN_H hours. -/
def execPatrolSlow (us : Nat) (s : State) : Host.Outcome State Fault Refusal :=
  let s0 := s.at us
  let h := (us - s0.flash.lapStart) / 3600000000
  if s0.flash.lapWarned = true ∨ s0.ready = false ∨ s0.flag ECC_CFG.PATROL_EN = false ∨
      us - s0.flash.lapStart ≤ 3600000000 * clamp 24 8760 (s0.get ECC_FPATROL.WARN_H) then .next s0
  else .next (({ s0 with flash := { s0.flash with lapWarned := true } }).notify "flash patrol slow" [("h", dec h)])

/-! ### Recovery -/

def State.setRecov (s : State) (rs : List Recovery) : State := { s with flash := { s.flash with recov := rs } }

/-- A recovered codeword, whose metadata fits, reaches every block that waits for it (R373). -/
def State.deliver (s : State) (ppa j : Nat) (w : Bytes) : State :=
  (s.waitersAt (.recover ppa j)).foldl (fun t wi => t.onBlk wi.1 wi.2 (fun u x b => u.gotCodeword x wi.2 { b with data := [] } w)) s

/-- Every block that waits for a codeword gives up with a status (R374); what it had sent has been withdrawn. -/
def State.giveUp (s : State) (ppa j : Nat) (st : Status) : State :=
  (s.waitersAt (.recover ppa j)).foldl (fun t wi => t.onBlk wi.1 wi.2 (fun u _ b => (u, { b with codec := .lost st.code }))) s

/-- BLOCK_LOST (R506): the block is relocated as poison, and the loss is counted and raised. -/
def State.loseBlock (s : State) (ppa j : Nat) : State :=
  let s1 := s.giveUp ppa j .mediaUncorrectable
  match s1.stitchAt ppa with
  | none => s1
  | some (p, st) =>
    ((s1.queueReloc p st [j]).count ECC_FUNC.COUNT 1).notify "flash lost"
      [("pocket", pocketId p), ("lba", dec (4 * st + j))]

/-- A recovery fails: every codeword still failing is lost. -/
def State.failRecovery (s : State) (r : Recovery) : State :=
  r.failing.foldl (fun t j => t.loseBlock r.ppa j) (s.setRecov (s.flash.recov.filter (fun q => q.ppa ≠ r.ppa)))

/-- Is the row of a page closed (R444)? -/
def State.rowClosed (s : State) (ppa : Nat) : Bool :=
  match s.boltAt ppa with
  | some b => b.rowsDone.contains (b.rowOf ppa)
  | none => false

/-- A ladder moves to its next step, or to the rebuild, or fails where the row is not closed (R498, R501, R503). -/
def State.nextStep (s : State) (r : Recovery) : State :=
  if r.failing = [] then s.setRecov (s.flash.recov.filter (fun q => q.ppa ≠ r.ppa))
  else if r.step < s.ladderSteps r.ppa then
    s.setRecov (s.flash.recov.map (fun q => if q.ppa = r.ppa then { r with step := r.step + 1 } else q))
  else if s.rowClosed r.ppa then
    s.setRecov (s.flash.recov.map (fun q => if q.ppa = r.ppa then { r with step := 0 } else q))
  else s.failRecovery r

/-- A codeword has become right by a retry alone: it counts, and its Stitch is queued for relocation (R505, Table SDP-5). -/
def State.retryRight (s : State) (ppa k : Nat) : State := ((s.count ECC_FCORR.BITS k).count ECC_FRETRY.RETRY_OK 1).refreshPage ppa

/-- The bytes of a codeword read again cross the channel for the Pocket whose block it holds, else for none (R911; DESIGN CHOICE, assumption log
entry 219). -/
def State.crossAgain (s : State) (ppa j : Nat) : State := s.cross (match s.expected ppa j with | some (p, _) => p | none => 0) 4096

/-- One codeword of a read-retry step (R498, R505): a right one is recovered. -/
def State.retryOne (s : State) (ppa : Nat) (jr : Nat × Decode) : State × Bool :=
  match s.right ppa jr.1 jr.2 with
  | some (w, k) => ((s.retryRight ppa k).deliver ppa jr.1 w, true)
  | none => (s, false)

def State.retryAll (s : State) (ppa : Nat) : List (Nat × Decode) → State × List Nat
  | [] => (s, [])
  | jr :: r =>
    let (s1, ok) := (s.crossAgain ppa jr.1).retryOne ppa jr
    let (s2, left) := s1.retryAll ppa r
    (s2, if ok then left else jr.1 :: left)

/-- RETRY_STEP_DONE (R373, R374, R419, R496, R498, R500, R501): a step of the ladder runs whole, its read levels set and returned to zero; `errs` are the
bits that it reads wrong in each codeword. -/
def execRetryStepDone (ppa : Nat) (errs : List (Nat × List Nat)) (us : Nat) (s : State) : Host.Outcome State Fault Refusal :=
  let s0 := s.at us
  match s0.flash.recov.find? (fun r => r.ppa == ppa) with
  | none => .next s0
  | some r =>
    if r.step = 0 then .next s0
    else
      let res := r.failing.map (fun j => (j, s0.decodeRead ppa j ((errs.lookup j).getD [])))
      let (s1, left) := (s0.stepLevels ppa r.step).retryAll ppa res
      .next ((s1.nextStep { r with failing := left }).settle)

/-- A codeword that a rebuild or a copy needs, read with up to so many tries: the first in line, each further one a ladder step (R498, R501). `tries` are
the bits that each reads wrong, none where none are given. A right one counts as R505 has it. -/
def State.readTries (s : State) (ppa j : Nat) (tries : List (List Nat)) (k : Nat) : Nat → State × Option Bytes
  | 0 => (s, none)
  | n + 1 =>
    let s1 := (if k = 0 then s.learn ppa j (tries.getD 0 []) else s.stepLevels ppa k).crossAgain ppa j
    let res := s1.decodeRead ppa j (tries.getD k [])
    match s1.right ppa j res with
    | some (w, b) => (if k = 0 then s1.countCorrected ppa j res else s1.retryRight ppa b, some w)
    | none => s1.readTries ppa j tries (k + 1) n

/-- A page that a rebuild needs, with up to RB_STEPS ladder steps (R501); none when one of its codewords stays uncorrectable. -/
def State.readPage (s : State) (ppa : Nat) (tries : List (List (List Nat))) : State × Option Page :=
  (List.range 4).foldl (fun (a : State × Option Page) j =>
    let (t, w) := a.1.readTries ppa j (tries.map (fun x => x.getD j [])) 0 (1 + s.stepsOf ppa (s.get ECC_CFG.RB_STEPS))
    (t, match a.2, w with | some p, some v => some (p ++ [v]) | _, _ => none)) (s, some [])

/-- The other pages of a page's row are read; one whose program failed has nothing to read and counts as zeros (R481, R501). -/
def State.readRow (s : State) (ppa : Nat) (reads : List (Nat × List (List (List Nat)))) : List Nat → State × Option (List Page)
  | [] => (s, some [])
  | a :: r =>
    let (s1, p) := s.readPage a ((reads.lookup (ppaCh a)).getD [])
    let (s2, ps) := s1.readRow ppa reads r
    (s2, match p, ps with | some x, some xs => some (x :: xs) | _, _ => none)

def State.rowOthers (s : State) (b : Bolt) (ppa : Nat) : List Nat :=
  ((b.present.filter (fun c => c ≠ ppaCh ppa)).map (b.rowPpa (b.rowOf ppa))).filter (fun a => (s.page a).isSome)

/-- The FORMATs that a rebuilt page's codewords take, which do not follow from the parity page: 0x05 on the parity position, in a map Bolt what the
card wrote there, else as `rebuiltPage` has it (DEDUCED, assumption log entry 20). -/
def State.rebuilt (s : State) (b : Bolt) (ppa : Nat) (others : List Page) : Page :=
  if ppaCh ppa = b.parityCh then parityPage others
  else if b.use = .map then
    ((List.range 4).zip (xorPages others)).map (fun x => cwReformat x.2 (match s.codeword ppa x.1 with | some w => cwFormat w | none => 6))
  else rebuiltPage others

/-- A page is rebuilt: each codeword still failing whose metadata fits is delivered, each other is lost (R501 to R503). -/
def State.rebuildEnds (s : State) (r : Recovery) (pg : Page) : State :=
  let ok (j : Nat) : Bool := s.fits r.ppa j (pg.getD j [])
  let s1 := s.setRecov (s.flash.recov.filter (fun q => q.ppa ≠ r.ppa))
  let s2 := if r.failing.all ok then s1.count ECC_FRETRY.REBUILD_OK 1 else s1
  (r.failing.foldl (fun t j => if ok j then t.deliver r.ppa j (pg.getD j []) else t.loseBlock r.ppa j) s2).refreshPage r.ppa

/-- REBUILD_DONE (R373, R374, R496, R501 to R503, R505, R506): the other pages of the row have been read. `reads` gives, by channel, the bits of each codeword
that each try of a page read wrong. A page that lies on a quad in OFF or CHECK ends the commands with DOMAIN_OFF (R472). -/
def execRebuildDone (ppa : Nat) (reads : List (Nat × List (List (List Nat)))) (us : Nat) (s : State) : Host.Outcome State Fault Refusal :=
  let s0 := s.at us
  match s0.flash.recov.find? (fun r => r.ppa == ppa), s0.boltAt ppa with
  | some r, some b =>
    if r.step ≠ 0 then .next s0
    else if !(b.present.all (fun c => s0.flashReadable c || c == ppaCh ppa)) then
      let s1 := s0.setRecov (s0.flash.recov.filter (fun q => q.ppa ≠ ppa))
      .next ((r.failing.foldl (fun t j => t.giveUp ppa j .domainOff) s1).settle)
    else if !s0.rowClosed ppa then .next ((s0.failRecovery r).settle)
    else
      match s0.readRow ppa reads (s0.rowOthers b ppa) with
      | (s1, none) => .next ((s1.failRecovery r).settle)
      | (s1, some others) => .next ((s1.rebuildEnds r (s1.rebuilt b ppa others)).settle)
  | _, _ => .next s0

/-- RECOVERY_TIMEOUT (R374, R504, R506): 40 ms after the failure was found. -/
def execRecoveryTimeout (ppa us : Nat) (s : State) : Host.Outcome State Fault Refusal :=
  let s0 := s.at us
  match s0.flash.recov.find? (fun r => r.ppa == ppa) with
  | none => .next s0
  | some r => if us < r.since + 40000 then .next s0 else .next ((s0.failRecovery r).settle)

/-! ### Copies -/

/-- A codeword of a copy: metadata unchanged but for the Bolt it now lies in (R466); a lost block becomes poison, FORMAT 0x07
(R506). -/
def copyWord (p st seq : Nat) (poison : List Nat) (pg : Page) (j : Nat) : Bytes :=
  let w := pg.getD j (List.replicate 4160 0)
  if poison.contains j then zeroBlock ++ metaBytes 7 p (4 * st + j) (cwWseq w) none seq else cwRebolt w seq

/-- A Stitch is copied into the Bolt open for collection; its commit will compare and swap (R452). -/
def State.copyStitch (s : State) (b : Bolt) (p st : Nat) (poison : List Nat) : State :=
  let e := s.entry p st
  match s.page (entryPpa e) with
  | none => s
  | some pg =>
    let page := (List.range 4).map (copyWord p st b.seq poison pg)
    (s.place b (.stitch p st (entryValid e) e false []) page).cross 0 32768

/-- RELOCATION (R505, R506, R534, R535): the oldest queued Stitch is copied in corrected form; it stays queued until its copy is committed, so that
reads of its lost blocks fail at once. -/
def execRelocation (s : State) : Host.Outcome State Fault Refusal :=
  if s.quiesced then .next s else
  match s.flash.relocs.find? (fun r => !r.copying), (s.openBolts .gc).find? (fun b => b.room) with
  | some r, some b =>
    let e := s.entry r.pocket r.stitch
    if e = 0 ∨ entryPpa e ≠ r.ppa then .next (s.tidyReloc r.pocket r.stitch)
    else
      let upd (x : Reloc) : Reloc := if x = r then { x with copying := true } else x
      .next (({ s with flash := { s.flash with relocs := s.flash.relocs.map upd } }).copyStitch b r.pocket r.stitch r.poison)
  | _, _ => .next s

/-- Queued copies of victims go out while the collection Bolt has room (R466). -/
def State.gcCopy (s : State) : Nat → State
  | 0 => s
  | n + 1 =>
    match s.flash.gcQueue, (s.openBolts .gc).find? (fun b => b.room) with
    | (p, st) :: rest, some b =>
      let s1 := { s with flash := { s.flash with gcQueue := rest } }
      let e := s1.entry p st
      let fromVictim := match s1.boltAt (entryPpa e) with | some v => v.state == .victim | none => false
      if e ≠ 0 ∧ fromVictim = true then ((s1.copyStitch b p st (s1.lostBlocks p st)).count MOV_COPY.STITCHES 1).gcCopy n
      else s1.gcCopy n
    | _, _ => s

def State.gcRun (s : State) : State := s.gcCopy (s.flash.gcQueue.length + 1)

/-- The segments whose map rows lie in a map Bolt, and the index pages that do (R455, R458). -/
def State.rowsIn (s : State) (b : Bolt) : List Nat :=
  (s.flash.segs.filter (fun x => (s.slotBolt x.2.slot).any (fun c => c.group == b.group && c.idx == b.idx))).map (·.1)
def State.indexIn (s : State) (b : Bolt) : List Nat :=
  (s.flash.idxAt.filter (fun x => ppaPos x.2 == b.group && ppaBlock x.2 == b.idx)).map (·.1)

/-- Pages of a Bolt that are to be kept: its valid Stitches, and of a map Bolt its map rows and index pages (R450; DESIGN CHOICE, assumption log
entry 215). -/
def State.liveIn (s : State) (b : Bolt) : Nat := (s.validIn b.group b.idx).length + 4 * (s.rowsIn b).length + (s.indexIn b).length

/-- A FULL Bolt becomes the victim; blocks whose program failed are retired; its valid Stitches are copied (R465 to R468). Of a map Bolt the map
rows and index pages are written anew (assumption log entry 215). -/
def State.takeVictim (s : State) (b : Bolt) : State :=
  let moved := if b.use = .map then 2 else b.moved
  let s1 := b.bad.foldl (fun t c => t.retire c b.group b.idx) (s.setBolt { b with state := .victim, bad := [], moved := moved })
  let q := (s1.validIn b.group b.idx).map (fun e => (e.1 / 2 ^ 34, e.1 % 2 ^ 34))
  let s2 := (s1.indexIn b).foldl State.dirtyIndex s1
  ({ s2 with flash := { s2.flash with gcQueue := s2.flash.gcQueue ++ q } }).gcRun

def State.gcStartAt (s : State) : Nat := clamp 3 64 (s.get MOV_GC.START)

/-- MOV_STAT.GC as R465 sets it. -/
def State.gcMode (s : State) : State :=
  let n := s.freeBolts
  s.set MOV_STAT.GC (if n < min (s.get MOV_GC.URGENT) s.gcStartAt then 2 else if n < s.gcStartAt then 1 else 0)

/-- READONLY ends once a FREE Bolt stands beyond the reserve (R470). -/
def State.readonlyExit (s : State) : State :=
  if s.flag MOV_STAT.READONLY ∧ 2 < s.freeBolts then s.set MOV_STAT.READONLY 0 else s

/-- Can collection place copies: is a GC Bolt open with room, or is there a FREE Bolt beyond the reserve for one (R447, R470)? -/
def State.canCopy (s : State) : Bool := (s.openBolts .gc).any (fun b => b.room) || decide (2 < s.freeBolts)

/-- The victim of R465: a FULL Bolt with an unprotected row first, then the one with the fewest valid Stitches, the lower BOLT_SEQ first. One that is
wholly valid and protected frees nothing; without room for copies only one without valid Stitches can be freed. -/
def State.gcVictim (s : State) : Option Bolt :=
  let rank (b : Bolt) : Nat := (if b.bare = [] then 2 ^ 128 else 0) + s.liveIn b * 2 ^ 64 + b.seq % 2 ^ 64
  let useful (b : Bolt) : Bool := b.state == .full && (b.bare != [] || decide (s.liveIn b < b.rows * b.width)) && (s.canCopy || s.liveIn b == 0)
  leastBy rank (s.flash.bolts.filter useful)

/-- GC_START (R446, R465, R466, R470): the victim's Stitches are copied. With no Bolt to free beyond the reserve the card enters READONLY. -/
def execGcStart (s : State) : Host.Outcome State Fault Refusal :=
  if s.quiesced then .next s else
  if s.gcStartAt ≤ s.freeBolts then .next s.gcMode
  else
    match s.gcVictim with
    | some b => .next (s.takeVictim b).gcMode
    | none =>
      if s.freeBolts ≤ 2 ∧ s.flag MOV_STAT.READONLY = false then
        .next ((s.set MOV_STAT.READONLY 1).notify "flash readonly" []).gcMode
      else .next s.gcMode

/-- The erase counts of the good blocks of a group (R467). -/
def State.groupErases (s : State) (g : Nat) : List Nat :=
  ((s.flash.dies.filter (fun d => d.pos == g && !d.excluded)).map (fun d =>
    ((List.range d.blocks).filter (fun i => s.position g i d.ch false)).map (fun i => s.eraseCount d.ch g i))).flatten

/-- WEAR_LEVEL_START (R466, R467): the FULL Bolt of the group with the lowest erase count becomes a victim. -/
def execWearLevelStart (group : Nat) (s : State) : Host.Outcome State Fault Refusal :=
  if s.quiesced then .next s else
  let es := s.groupErases group
  let spread := es.foldl max 0 - (match leastBy (fun n => n) es with | some m => m | none => 0)
  let wear (b : Bolt) : Nat := (b.present.map (fun c => s.eraseCount c b.group b.idx)).foldl min (2 ^ 32)
  if spread ≤ clamp 50 10000 (s.get MOV_WL.SPREAD) then .next s
  else
    match leastBy wear (s.flash.bolts.filter (fun b => b.state == .full && b.group == group)) with
    | some b => .next (s.takeVictim b)
    | none => .next s

/-- Is a read outstanding in a Bolt, of a page or of a map row (R446, R478)? -/
def State.readsIn (s : State) (g i : Nat) : Bool :=
  let isIn (a : Nat) : Bool := ppaPos a == g && ppaBlock a == i
  s.flash.segs.any (fun x => x.2.reading && (s.slotBolt x.2.slot).any (fun b => b.group == g && b.idx == i)) || s.flash.reads.any isIn || s.flash.recov.any (fun r => isIn r.ppa) ||
  s.execs.any (fun x => x.blks.any (fun b => match b.codec with
    | .media a _ => isIn a | .recover a _ => isIn a | .mac false => (match b.ppa with | some a => isIn a | none => false) | _ => false))

/-- BOLT_RELEASE (R446, R455, R470, R478): a VICTIM with nothing to keep, a checkpoint record since its last move and no read outstanding is FREE,
and its map Bolt slot with it. -/
def execBoltRelease (group idx : Nat) (s : State) : Host.Outcome State Fault Refusal :=
  match s.bolt group idx with
  | none => .next s
  | some b =>
    if b.state = .victim ∧ s.liveIn b = 0 ∧ b.moved = 0 ∧ s.readsIn group idx = false then
      let s1 := { s with flash := { s.flash with
        mapBolts := s.flash.mapBolts.filter (fun x => x.2 ≠ (group, idx)),
        bolts := s.flash.bolts.filter (fun x => !(x.group == group && x.idx == idx)) } }
      .next s1.readonlyExit.gcMode
    else .next s

/-! ### Opening Bolts -/

/-- May a Bolt be opened for this use now (R447, R470, R475, R483)? The last 2 FREE Bolts are kept for the removal flush and the final checkpoint;
a flush before a reset may take them too, and in READONLY what is still flushed and recorded. -/
def State.mayOpen (s : State) (g : Nat) (u : BoltUse) : Bool :=
  let now := s.flash.bolts.filter (fun b => (b.state == .opened || b.state == .erasing) && b.use == u)
  let beyond := decide (2 < s.freeBolts)
  let reserve := beyond || s.removing || s.boot.pending.isSome || s.flag MOV_STAT.READONLY
  match u with
  | .host => decide (now.length < clamp 1 8 (s.get MOV_CFG.OPEN_HOST)) && !now.any (fun b => b.group == g) && reserve
  | .gc => now.isEmpty && beyond
  | .map => now.isEmpty && reserve && decide (s.flash.mapBolts.length < 1023)

/-- The lowest map Bolt slot that is free; slot 0 is never assigned (R455). -/
def State.freeMapSlot (s : State) : Nat :=
  match (List.range 1023).find? (fun k => (s.flash.mapBolts.lookup (k + 1)).isNone) with
  | some k => k + 1
  | none => 1023

/-- BOLT_OPEN (R438, R439, R446, R447, R470, R483): a FREE Bolt is chosen for opening; every present position is erased. -/
def execBoltOpen (group idx use : Nat) (s : State) : Host.Outcome State Fault Refusal :=
  let u : BoltUse := if use = 0 then .host else if use = 1 then .gc else .map
  if !(s.boltFree group idx && s.mayOpen group u) then .next s
  else
    let all := s.positions group idx true
    if all.length < 16 then .next s
    else
      let seq := s.flash.boltSeq + 1
      let b : Bolt :=
        { group := group, idx := idx, state := .erasing, use := u, seq := seq, t := 0, present := all, toErase := all,
          rows := 0, planes := 1, next := 0, rowsDone := [], bare := [], closing := false, bad := [], learnt := true, moved := 0 }
      let s1 := s.erasePages group idx
      .next { s1 with flash := { s1.flash with bolts := s1.flash.bolts ++ [b], boltSeq := seq } }

/-- Every present position of a Bolt is erased: it is OPEN, with the strength of R490 to R492 and the rows of R439. Quads in SHADOW
on it enter IN (R471). With fewer than 16 positions left it is no Bolt (R438). -/
def State.boltErased (s : State) (b : Bolt) : State :=
  if b.present.length < 16 then
    { s with flash := { s.flash with bolts := s.flash.bolts.filter (fun x => !(x.group == b.group && x.idx == b.idx)) } }
  else
    let dies := b.present.filterMap (fun c => s.die c b.group)
    let need := s.strengthNeed b.group
    let t := min need (s.leastTDie b.group b.present)
    let s1 := s.setBolt { b with
      state := .opened, t := t, toErase := [],
      rows := (dies.map (fun d => d.planes * d.pages)).foldl min 65536,
      planes := ((s.flash.dies.filter (fun d => d.pos == b.group && !d.excluded)).map (fun d => d.planes)).foldl min 4 }
    let s2 := if t < need then s1.notify "flash strength capped"
      [("group", dec b.group), ("need", dec need), ("t", dec t)] else s1
    let s3 := ((List.range 16).filter (fun q => s2.dom (1 + q) == 2 && b.present.any (fun c => c / 4 == q))).foldl
      (fun u q => u.enterIn (1 + q)) s2
    let s4 := s3.setTNext b.group
    match b.use with
    | .host => s4.gcMode
    | .gc => s4.gcRun.gcMode
    | .map =>
      let s5 := { s4 with flash := { s4.flash with mapBolts := putSorted s4.freeMapSlot (b.group, b.idx) s4.flash.mapBolts } }
      (if s5.flash.deltaDue then s5.sendDeltas else s5).gcMode

/-- BLOCK_ERASE_DONE (R438, R446, R467, R468, R471, R489 to R492): the erase of a position reports. One that failed becomes absent and
its block is retired; once every position has reported the Bolt is OPEN. -/
def execBlockEraseDone (group idx ch : Nat) (ok : Bool) (s : State) : Host.Outcome State Fault Refusal :=
  match s.bolt group idx with
  | none => .next s
  | some b =>
    if b.state ≠ .erasing ∨ b.toErase.contains ch = false then .next s
    else
      let s1 := if ok then s.countErase ch group idx else (s.count (FQ_ERR.ERASE_FAIL (ch / 4)) 1).retire ch group idx
      let b1 := { b with
        toErase := b.toErase.filter (fun c => c ≠ ch), present := if ok then b.present else b.present.filter (fun c => c ≠ ch) }
      if b1.toErase = [] then .next (s1.boltErased b1) else .next (s1.setBolt b1)

/-! ### The mover -/

/-- Every DIRTY entry is to be flushed: the removal ladder, or a flush before a reset or a power state (R104, R735, R811). -/
def State.flushAll (s : State) : Bool := s.removing || s.boot.pending.isSome || s.get PWR_STATE.STEP == 2

/-- Does a command in execution wait for the program of an entry: a FLUSH, a FUA READ, or a write that must reach SET (R398, R412, R413)? -/
def State.awaited (s : State) (e : CacheEntry) : Bool :=
  s.execs.any (fun x => e.owners.contains x.id && x.unset.contains e.lba &&
    (x.cmd.opcode == 1 || x.cmd.opcode == 4 || x.cmd.opcode == 5 || s.levelNow x == 3))

/-- D_p beyond the Pocket's dirty maximum (R403). -/
def State.aboveDirty (s : State) (p : Nat) : Bool :=
  decide ((match s.pockets.lookup p with | some k => mib k.dirtyMax | none => 0) < s.dirtyOf p)

/-- The mover's reason to program a Stitch (R403, R410, R412): 0 for a THROUGH entry, 1 for an urgent or targeted flush, 2 for a background
one; `none` when it has none. -/
def State.flushRank (s : State) (p st : Nat) : Option Nat :=
  let es := s.cache.entries.filter (fun e => e.pocket == p && e.lba / 4 == st && !e.old && !e.prog)
  let dirty := es.filter (fun e => e.kind == .dirty)
  if es.any (fun e => e.kind == .through) then some 0
  else if dirty = [] then none
  else if s.cache.urgent || s.flushAll || s.aboveDirty p || dirty.any s.awaited then some 1
  else if s.cache.flushing then some 2
  else none

/-- A program of the Stitch is on its way, or its commit waits (R457). -/
def State.stitchBusy (s : State) (p st : Nat) : Bool :=
  (s.flash.progs ++ s.flash.held).any (fun g => match g.kind with | .stitch q k _ _ true _ => q == p && k == st | _ => false)

/-- Is another Stitch to be programmed before one of rank `r`: one of a lower rank that nothing holds up (R410, R412)? -/
def State.flushBefore (s : State) (r : Nat) : Bool :=
  s.cache.entries.any (fun e => match s.flushRank e.pocket (e.lba / 4) with
    | some k => decide (k < r) && !s.stitchBusy e.pocket (e.lba / 4) && !s.segAbsent (s.segOf e.pocket (e.lba / 4))
    | none => false)

/-- STITCH_MERGE (R451): codeword j of a Stitch and whether its VALID bit is set: from the cache, else from the Stitch's current
page, else nothing. A block that proves uncorrectable is written as poison; the codeword of one that holds nothing carries the FORMAT of a pad
page, so that the page's metadata tells its VALID bits to a replay (DESIGN CHOICE, assumption log entry 211). -/
def State.mergeWord (s : State) (p st seq wseq : Nat) (unc : List Nat) (j : Nat) : Bytes × Bool :=
  let lba := 4 * st + j
  let e := s.entry p st
  let fromFlash : Bytes × Bool :=
    if !(entryValid e).testBit j then (zeroBlock ++ metaBytes 6 p lba wseq none seq, false)
    else if unc.contains j || (s.lostBlocks p st).contains j then (zeroBlock ++ metaBytes 7 p lba wseq none seq, true)
    else match s.codeword (entryPpa e) j with
      | some w => (cwRebolt w seq, true)
      | none => (zeroBlock ++ metaBytes 7 p lba wseq none seq, true)
  match s.cached p lba with
  | none => fromFlash
  | some c =>
    if c.kind = .prefetch then fromFlash
    else if c.poison then (zeroBlock ++ metaBytes 7 p lba wseq none seq, true)
    else (c.data ++ metaBytes 1 p lba wseq c.check seq, true)

/-- Is block j of a Stitch read from flash for its program (R410, R911)? -/
def State.fromMedia (s : State) (p st j : Nat) : Bool :=
  (entryValid (s.entry p st)).testBit j && (match s.cached p (4 * st + j) with | none => true | some c => c.kind == .prefetch)

/-- A checkpoint record is written (R460, Table FLS-9). -/
def State.ckptWrite (s : State) (r : Ckpt) : State :=
  { s.bootRecord (.ckpt (some r)) with flash := { (s.bootRecord (.ckpt (some r))).flash with ckpt := some r } }

/-- Before any host data is programmed again, a clean checkpoint is followed by a record with CLEAN clear (R813). -/
def State.unclean (s : State) : State :=
  match s.flash.ckpt with
  | some r =>
    if r.clean then s.ckptWrite { r with clean := false } else s
  | none => s

/-- MOVER_FLUSH (R397, R403, R410, R412, R441 to R445, R451, R483, R679): Stitch `stitch` goes into the open Bolt (group, idx), THROUGH
entries ahead of all other flushing and targeted work ahead of background work; `unc` are the blocks that had to come from flash and
proved uncorrectable; `pad` fills the word lines, for a flush that needs them programmed. -/
def execMoverFlush (pocket stitch group idx : Nat) (unc : List Nat) (pad : Bool) (s : State) : Host.Outcome State Fault Refusal :=
  match s.bolt group idx with
  | none => .next s
  | some b =>
    let now : Bool := match s.flushRank pocket stitch with
      | some r => !s.flushBefore r
      | none => false
    if b.use ≠ .host ∨ b.room = false ∨ now = false ∨ s.stitchBusy pocket stitch = true then
      .next (if pad then s.padLines group idx 4096 else s)
    else if s.segAbsent (s.segOf pocket stitch) then .next (s.needSeg (s.segOf pocket stitch))
    else
      let w := s.flash.wseq + 1
      let ws := (List.range 4).map (s.mergeWord pocket stitch b.seq w unc)
      let valid := ((List.range 4).map (fun j => if (ws.getD j ([], false)).2 then 2 ^ j else 0)).sum
      let mine (e : CacheEntry) : Bool :=
        e.pocket == pocket && e.lba / 4 == stitch && !e.old && (e.kind == .dirty || e.kind == .through)
      let fills := (s.cache.entries.filter mine).map (fun e => e.filled)
      let merged := ((List.range 4).filter (s.fromMedia pocket stitch)).length
      let s1 := (s.unclean.setEntries (s.cache.entries.map (fun e => if mine e then { e with prog := true } else e))).cross pocket
        (16384 + 4096 * merged)
      let s2 := { s1 with flash := { s1.flash with wseq := w } }
      let s3 := s2.place b (.stitch pocket stitch valid (s2.entry pocket stitch) true fills) (ws.map (fun x => x.1))
      .next (if pad then s3.padLines group idx 4096 else s3)

/-! ### Programs that end -/

/-- Commands wait no more for the blocks of theirs whose entries a program carried, by their fill stamps. -/
def State.relaxFor (s : State) (fills : List Nat) (sel : Exec → Bool) : State :=
  let mine (x : Exec) (b : Nat) (e : CacheEntry) : Bool := e.pocket == x.pocket && e.lba == b && e.owners.contains x.id
  let waits (x : Exec) (b : Nat) : Bool :=
    !s.cache.entries.any (fun e => fills.contains e.filled && mine x b e) || s.cache.entries.any (fun e => !fills.contains e.filled && mine x b e)
  let relax (x : Exec) : Exec := if sel x then { x with unset := x.unset.filter (waits x) } else x
  { s with execs := s.execs.map relax }

/-- Is the command a WRITE or COPY, which waits for SET (R443)? What else waits for a program waits for its commit too (R398, R413). -/
def Exec.writer (x : Exec) : Bool := x.cmd.opcode == 2 || x.cmd.opcode == 6

/-- The entries that a program carried, by their fill stamps, once it is committed: CLEAN, or gone where a newer one stands or there is no
cache; an entry that stayed under one of them goes too (R396, R410, R414). -/
def State.entriesSet (s : State) (p : Nat) (fills : List Nat) : State :=
  let mine (e : CacheEntry) : Bool := fills.contains e.filled
  let done := s.cache.entries.filter mine
  let under (e : CacheEntry) : Bool := e.old && !e.prog && done.any (fun d => !d.old && d.pocket == e.pocket && d.lba == e.lba)
  let upd (e : CacheEntry) : Option CacheEntry :=
    if mine e then (if e.old ∨ s.staging = true ∨ e.place.isBuffer = true then none else some { e with kind := .clean, prog := false, owners := [] })
    else if under e then none
    else some e
  let s0 := s.relaxFor fills (fun x => !x.writer)
  let s1 := { s0 with cache := { s0.cache with entries := s0.cache.entries.filterMap upd } }
  let mx := match s1.pockets.lookup p with | some k => 256 * k.cleanMax | none => 0
  let excess := s1.holds p .clean + s1.holds p .prefetch - mx
  (List.range excess).foldl (fun t _ =>
    match evictFirst (t.cache.entries.filter (fun e => e.pocket == p)) with
    | some v => t.dropEntry v
    | none => t) s1

/-- A block that waited reads on from flash as far as it can; what its transfer had come to stays (R373, R375, R456): bytes that were
withdrawn, or whose GMAC failed, are not streamed before they are confirmed. -/
def State.readOn (s : State) (x : Exec) (i : Nat) (b : Blk) : State × Blk :=
  let nb := b.keepSent (s.fromFlash x.pocket (x.cmd.lba + i))
  let streams := x.baste && !b.pulled && !b.again
  let nb1 : Blk := match nb.codec with
    | .media _ _ => { nb with pass := if streams then .wait false else .none }
    | _ => if x.cmd.opcode = 6 then nb.forCopy else nb
  (s.startBlock x.pocket (x.cmd.lba + i) nb1, nb1)

/-- A FUA READ whose blocks are programmed reads them from flash (R398). -/
def State.releaseFua (s : State) : State :=
  (s.waitersAt .flush).foldl (fun t wi =>
    match t.execs.find? (fun y => y.id == wi.1) with
    | none => t
    | some x => if x.unset.contains (x.cmd.lba + wi.2) then t else t.onBlk wi.1 wi.2 (fun u y b => u.readOn y wi.2 b)) s

/-- MAP_COMMIT (R452, R476, R477): a host write's commit always succeeds; a copy's only when the entry is as it was, else the Stitch is copied
again where that is still due (R466). -/
def State.commitStitch (s : State) (g : Prog) (p st valid old : Nat) (host : Bool) (fills : List Nat) : State :=
  let cur := s.entry p st
  if host then
    let e := mkEntry valid g.ppa
    let s1 := if e = 0 ∧ cur = 0 then s else (s.setEntry p st e).changeSeg p st (pageWseq g.page)
    ((s1.entriesSet p fills).tidyReloc p st).releaseFua
  else if cur = old ∧ old ≠ 0 then
    let s1 := (s.setEntry p st (mkEntry (entryValid old) g.ppa)).changeSeg p st 0
    (s1.leftBolt (ppaPos (entryPpa old)) (ppaBlock (entryPpa old))).tidyReloc p st
  else s.copyAgain g

/-- A Stitch's commit, or its wait for its segment or at the DIRTY cap (R90, R456, R457). -/
def State.commitOrHold (s : State) (g : Prog) : State :=
  match g.kind with
  | .stitch p st v o h fs =>
    let e := s.segOf p st
    if s.mayChange e then s.commitStitch g p st v o h fs
    else ({ s with flash := { s.flash with held := s.flash.held ++ [g] } }).needSeg e
  | _ => s

/-- Commits that waited go on where they now can (R457). -/
def State.runHeld (s : State) : State := s.flash.held.foldl State.commitOrHold { s with flash := { s.flash with held := [] } }

/-- Has the record that a command waits for reached flash, `left` being those that have not? A TRIM waits for its own, a FLUSH or COPY for every one of
its Pocket up to it (R343, R355, R413). -/
def Exec.recorded (x : Exec) (left : List Delta) : Bool :=
  match x.delta with
  | none => true
  | some w => !left.any (fun d => d.pocket == x.pocket && (if x.cmd.opcode = 3 then d.wseq == w else decide (d.wseq ≤ w)))

/-- The delta records that have not reached flash. -/
def State.openRecords (s : State) : List Delta :=
  s.flash.deltas ++ (s.flash.progs.map (fun g => match g.kind with | .delta rs => rs | _ => [])).flatten

/-- A page that reached flash takes effect: a Stitch is SET, and its commit follows (R443, R452); delta records are SET (R343, R459). -/
def State.commitProg (s : State) (g : Prog) : State :=
  match g.kind with
  | .stitch p _ _ _ h fs => (if h then (s.relaxFor fs Exec.writer).meter p 5 16384 else s).commitOrHold g
  | .delta rs =>
    let relax (x : Exec) : Exec := if x.recorded s.openRecords then { x with delta := none } else x
    ({ s with execs := s.execs.map relax, flash := { s.flash with deltaPos := s.flash.deltaPos + rs.length } }).deletionsGo
  | _ => s

/-- A row of a Bolt has ended, closed or left unprotected: the Bolt is FULL once its last row has, or, where it is closing, the last row begun
(Table FLS-5, R444, R468). -/
def State.rowEnds (s : State) (b : Bolt) : State :=
  let n := b.rowsDone.length + b.bare.length
  if b.state = .opened ∧ (b.rows ≤ n ∨ (b.closing = true ∧ ceilDiv b.next b.width ≤ n)) then s.boltFull b else s.setBolt b

/-- ROW_CLOSE (R444): the parity page is programmed. -/
def State.closeRow (s : State) (g : Prog) : State :=
  match s.bolt g.group g.idx with
  | none => s
  | some b => s.rowEnds { b with rowsDone := b.rowsDone ++ [g.row] }

/-- A page that reached flash. -/
def State.progOk (s : State) (g : Prog) : State :=
  let s1 := { s with flash := { s.flash with pages := putSorted g.ppa g.page s.flash.pages } }
  match g.kind with
  | .parity => s1.closeRow g
  | _ => s1.commitProg g

/-- PROGRAM_FAIL (R468, R481): the page's Stitch is placed again; parity of its row is made over the pages that were
programmed. A row whose parity page failed is left unprotected. -/
def State.progBad (s : State) (g : Prog) : State :=
  let s1 := s.count (FQ_ERR.PROG_FAIL (ppaCh g.ppa / 4)) 1
  let s2 := match s1.bolt g.group g.idx with
    | some b => s1.setBolt { b with closing := true, bad := b.bad ++ [ppaCh g.ppa] }
    | none => s1
  match g.kind with
  | .stitch _ _ _ _ true fs => s2.setEntries (endPrograms fs s2.cache.entries)
  | .stitch _ _ _ _ false _ => s2.copyAgain g
  | .delta rs => { s2 with flash := { s2.flash with deltas := rs ++ s2.flash.deltas, deltaDue := true } }
  | .parity =>
    match s2.bolt g.group g.idx with
    | some b => s2.rowEnds { b with bare := b.bare ++ [g.row] }
    | none => s2
  | .pad => s2

/-- Parity pages still in flight are made again over what their rows hold now (R481). -/
def State.redoParity (s : State) (g i : Nat) : State :=
  match s.bolt g i with
  | none => s
  | some b =>
    let upd (q : Prog) : Prog :=
      if q.group = g ∧ q.idx = i ∧ q.kind = .parity then { q with page := parityPage (s.rowPages b q.row) } else q
    { s with flash := { s.flash with progs := s.flash.progs.map upd } }

/-- The pages in flight on the word line of a page (R443). -/
def State.lineProgs (s : State) (ppa : Nat) : List Prog :=
  let wl := match s.die (ppaCh ppa) (ppaPos ppa) with | some d => max 1 d.wlPages | none => 1
  s.flash.progs.filter (fun g => ppaCh g.ppa == ppaCh ppa && ppaPos g.ppa == ppaPos ppa && ppaBlock g.ppa == ppaBlock ppa &&
    ppaPage g.ppa / wl == ppaPage ppa / wl)

/-- Is every page of the word line, within the Bolt's rows, filled: in flight, or a map page that is on flash already? -/
def State.lineFilled (s : State) (ppa : Nat) : Bool :=
  match s.boltAt ppa with
  | none => false
  | some b =>
    let wl := match s.die (ppaCh ppa) (ppaPos ppa) with | some d => max 1 d.wlPages | none => 1
    let line := s.lineProgs ppa
    (List.range (b.planes * wl)).all (fun k =>
      let w := b.planes * wl * (ppaPage ppa / wl) + k
      let a := b.rowPpa w (ppaCh ppa)
      decide (b.rows ≤ w) || (s.page a).isSome || line.any (fun g => g.ppa == a))

/-- Does the word line hold the parity page of a row of which a data page is still in flight? It is programmed over what the row's data pages have
come to (R444, R481). -/
def State.parityEarly (s : State) (ppa : Nat) : Bool :=
  (s.lineProgs ppa).any (fun g => g.kind == .parity &&
    s.flash.progs.any (fun q => q.group == g.group && q.idx == g.idx && q.row == g.row && q.kind != .parity))

/-- STITCH_PROGRAM_DONE (R443, R444, R446, R452, R457, R460, R468, R476, R477, R481): the program of a page's word line reports. -/
def State.stitchProgrammed (s : State) (ppa : Nat) (ok : Bool) : State :=
  if !s.lineFilled ppa || s.parityEarly ppa then s
  else
    let line := s.lineProgs ppa
    let s1 := { s with flash := { s.flash with progs := s.flash.progs.filter (fun g => !line.any (fun h => h.ppa == g.ppa)) } }
    if ok then ((line.foldl (fun t g => t.progOk g) s1).gcRun.flushMode.settle)
    else
      match s1.boltAt ppa with
      | none => s1
      | some b =>
        let s2 := (line.foldl (fun t g => t.progBad g) s1).redoParity b.group b.idx
        ((s2.padRow b.group b.idx 64).gcRun.flushMode.settle)

/-! ### Segments and checkpoints -/

/-- A segment is written to a new map row, where it is DIRTY or its row lies in a victim, and its index entry is updated (R453 to R458). -/
def State.writeSeg (s : State) (entry : Nat) : State :=
  match s.seg entry with
  | none => s
  | some g =>
    let inVictim : Bool := (s.slotBolt g.slot).any (fun b => b.state == .victim)
    if (g.dirty || inVictim) && !g.rebuilding && !s.replaying g then (s.putSeg entry).1.runHeld.settle else s

/-- MAP_SEGMENT_WRITE_DONE (R453 to R458, R480): `fit` is the number of segments the card can write in 8 ms as now measured. -/
def execMapSegmentWriteDone (entry fit : Nat) (s : State) : Host.Outcome State Fault Refusal :=
  .next (({ s with flash := { s.flash with fit := fit } }).writeSeg entry)

/-- A command's block whose segment has come reads on (R101, R456); a TRIM goes on by itself. -/
def State.segBlk (s : State) (e id i : Nat) : State :=
  s.onBlk id i (fun t x b =>
    if x.cmd.opcode = 3 then (t, b)
    else
      let (t1, nb) := t.readOn x i b
      match nb.codec with
      | .seg f => if f = e then t1.loseBlk x i nb .unpickedEcc .mediaUncorrectable else (t1, nb)
      | _ => (t1, nb))

/-- The segment is held; its index entry shows it (Table FLS-8). While staging it takes another's place, and waits where none can go (R101). -/
def State.segHeld (s : State) (e : Nat) : State :=
  match s.seg e with
  | none => s
  | some g =>
    let t := if g.resident then s else s.evictSegs
    if g.resident || t.segRoom then (t.setSeg e { g with resident := true, reading := false, rebuilding := false }).touchSeg e else t

/-- The keys of a `map lookup` (R1022); `held`: the segment's state before it. -/
def State.lookupKv (s : State) (p lba : Nat) (held : Bool) : List KV :=
  let e := s.entry p (lba / 4)
  let a := entryPpa e
  let place : List KV :=
    if entryValid e = 0 then []
    else [("ch", channelId (ppaCh a)), ("ce", dec (ppaPos a / 4)), ("lun", dec (ppaPos a % 4)), ("plane", dec (ppaPlane a)),
          ("block", dec (ppaBlock a)), ("page", dec (ppaPage a))]
  [("pocket", pocketId p), ("lba", dec lba), ("stitch", dec (lba / 4)), ("j", dec (lba % 4)), ("valid", hex0x 1 (entryValid e))] ++
    place ++ [("resident", yesNo held)]

/-- The lines of `map lookup` that waited for the segment are answered (R1022). -/
def State.lookupsEnd (s : State) (e : Nat) : State :=
  s.paths.foldl (fun t p =>
    match (t.session p).await with
    | some a =>
      match a.what with
      | .mapLookup k lba => if t.segOf k (lba / 4) = e then t.finish p (fun g => .ok g [] (t.lookupKv k lba false)) else t
      | _ => t
    | none => t) s

/-- A segment comes, and every command that waited for it goes on (R456), commits among them. -/
def State.segArrives (s : State) (e : Nat) : State :=
  let s1 := s.segHeld e
  if s1.segAbsent e then s1
  else (((s1.waitersAt (.seg e)).foldl (fun t w => t.segBlk e w.1 w.2) s1).runHeld).settle.lookupsEnd e

/-- MAP_SEGMENT_READ_DONE (R101, R456, R911): the read of a map row completes, its four pages for no Pocket, and every command that waited for it goes on. -/
def execMapSegmentReadDone (entry : Nat) (s : State) : Host.Outcome State Fault Refusal :=
  match s.seg entry with
  | none => .next s
  | some g =>
    if !g.reading || s.replaying g then .next s
    else .next ((s.cross 0 65536).segArrives entry)

/-- CHECKPOINT_TIMER (R460): 30 s after the last checkpoint, with a segment DIRTY. -/
def execCheckpointTimer (us : Nat) (s : State) : Host.Outcome State Fault Refusal :=
  let s0 := s.at us
  if s0.flash.ckptUs + 30000000 ≤ us ∧ 0 < s0.dirtySegs then .next s0.startCkpt else .next s0

/-- A dirty index page goes to a map Bolt, if one takes it (R458, R460). -/
def State.writeIndexPage (s : State) (n : Nat) : State :=
  match (s.openBolts .map).find? (fun b => b.room) with
  | none => s
  | some b =>
    let s1 := match s.flash.idxAt.lookup n with | some a => s.leftBolt (ppaPos a) (ppaBlock a) | none => s
    let s2 := s1.putMapPage b.group b.idx (plainPage 0x03 b.seq (s1.indexPage n))
    { s2 with flash := { s2.flash with
        idxAt := putSorted n (b.stitchPpa b.next) s2.flash.idxAt, idxDirty := s2.flash.idxDirty.filter (fun k => k ≠ n) } }

def State.writeIndex (s : State) : State := s.flash.idxDirty.foldl State.writeIndexPage s

/-- The checkpoint record is written (R460): Bolts emptied before it began may be released, and TRIMs made before it began are SET (R343). The
checkpoint of a `map checkpoint` that waited follows (R1023). -/
def State.ckptRecord (s : State) (c : CkptRun) : State :=
  let s0 := s.ckptWrite { c.mark with index := s.flash.idxAt }
  let f := s0.flash
  let relax (x : Exec) : Exec := match x.delta with | some w => if w ≤ c.top then { x with delta := none } else x | none => x
  let s1 := { s0 with
    execs := s0.execs.map relax,
    flash := { f with
      ckptUs := s.clk, closedSince := 0, ckptRuns := none, deltas := f.deltas.filter (fun d => decide (c.top < d.wseq)),
      bolts := f.bolts.map (fun (b : Bolt) => if b.moved = 1 then { b with moved := 0 } else b) } }
  (if f.ckptOwn then ({ s1 with flash := { s1.flash with ckptOwn := false } }).beginCkpt false true else s1).deletionsGo

/-- The checkpoint under way ends, if every segment it had to write is written and its index pages are, with the record (R460, R1023); whether it
has. -/
def State.ckptEnds (s : State) : State × Bool :=
  match s.flash.ckptRuns with
  | none => (s, true)
  | some c =>
    if !c.segs.isEmpty then (s, false)
    else
      let s1 := s.writeIndex
      if !s1.flash.idxDirty.isEmpty then (s1, false)
      else
        let ms := roundDiv (s.clk - s.flash.ckptOwnUs) 1000
        let s2 := s1.ckptRecord c
        ((if c.own then s2.finishFor .checkpoint (fun t => .ok t [] [("ms", dec ms)]) else s2).settle, true)

/-- The checkpoint under way is written whole, as far as map Bolts take it. -/
def State.ckptWhole (s : State) : State × Bool :=
  match s.flash.ckptRuns with
  | none => (s, true)
  | some c => (c.segs.foldl (fun t e => t.writeSeg e) s).ckptEnds

/-- A checkpoint with CLEAN set, the clean-shutdown marker, after those that run or wait (R89, R104, R460, R479, R735); whether it stands. While a replay runs none
is written: the next start replays again (DESIGN CHOICE, assumption log entry 212). -/
def State.cleanCheckpoint (s : State) : State × Bool :=
  if s.flag SYS_BOOTSTAT.REPLAY then (s, true)
  else
    match s.ckptWhole with
    | (s1, false) => (s1, false)
    | (s1, true) =>
      match s1.ckptWhole with
      | (s2, false) => (s2, false)
      | (s2, true) => (s2.beginCkpt true false).ckptWhole

/-- CHECKPOINT_DONE (R458, R460, R463, R479, R784, R1023): every segment the checkpoint had to write is written; the dirty index
pages and the checkpoint record follow. -/
def State.checkpointEnds (s : State) (us : Nat) : State := ((s.at us).ckptEnds).1

/-! ### Format (R469, R1059) -/

/-- Every Bolt is erased; blocks whose program failed are retired; the bad-block table and the erase counts stay. -/
def State.eraseAll (s : State) : State :=
  let one (t : State) (b : Bolt) : State :=
    b.bad.foldl (fun u c => u.retire c b.group b.idx) (b.present.foldl (fun u c => u.countErase c b.group b.idx) t)
  let s1 := s.flash.bolts.foldl one s
  { s1 with flash := { s1.flash with
    pages := [], flips := [], bolts := [], progs := [], held := [], map := [], segs := [], segUse := [], mapBolts := [], bases := [], deltas := [],
    deltaPos := 0, deltaDue := false, idxDirty := [], idxAt := [], closedSince := 0, ckptRuns := none,
    ckptOwn := false, relocs := [], gcQueue := [], recov := [], reads := [] } }

/-- Every measured rate is discarded (R492), and the patrol starts again. -/
def State.dropRates (s : State) : State :=
  let s1 : State := { s with flash := { s.flash with
    lap := [], lapRate := [], lapStart := s.clk, lapWarned := false, patrolPos := 0, patrolUs := [] } }
  (List.range 16).foldl (fun t g => t.showRate g 0) s1

/-- The steps of `flash format` (R469, R801, R1059): U is fixed, the map is empty, its checkpoint CLEAN; READONLY ends, and the configured
level is PL3. -/
def State.formatAll (s : State) : State :=
  let s1 := s.eraseAll.dropRates
  let s2 := ({ s1 with flash := { s1.flash with usable := s1.formatCapacity, formatting := false } }).showCapacity
  ((s2.cleanCheckpoint.1.set MOV_STAT.READONLY 0).keep PWR_LEVEL.CFG 3).confRecord.gcMode

/-- FLASH_FORMAT_DONE (R469, R801, R1059): the format is complete, and its job ends. -/
def execFlashFormatDone (us : Nat) (s : State) : Host.Outcome State Fault Refusal :=
  let s0 := s.at us
  if s0.flash.formatting ∧ s0.ready then .next (s0.formatAll.endJobOf "flash format" .done) else .next s0

end Sys2Proof.Machine
end

