-- ==== Sys2Proof/Machine/Journal.lean ====
section
/-!
DEFINITION. Sys2Proof/Machine/Journal.lean: the pages of the key journal as flash holds them (R634 to R636).
-/
namespace Sys2Proof.Machine
open Sys2Proof

/-- The root key (R621). -/
def rootKey : Bytes := (List.range 32).map Config.rootKey

/-- An image page's entry for a slot (R636): 96 bytes. -/
def slotEntry (code : Nat) (k : KeySlot) : Bytes :=
  let wrapped := if k.state = .empty then [] else keyWrap rootKey (wrapIv k.kind) k.material
  let check := if k.state = .empty then [] else kcv k.kind k.material
  leBytes 2 code ++ leBytes 1 (if k.state = .empty then 0 else k.kind) ++ leBytes 1 k.owner ++ leBytes 1 (if k.lost then 1 else 0) ++
    List.replicate 3 0 ++ padTo 72 wrapped ++ padTo 3 check ++ List.replicate 13 0

/-- A page with its CRC-32C in bytes 60 to 63, over the rest of the page (R636). -/
def sealPage (page : Bytes) : Bytes :=
  page.take 60 ++ leBytes 4 (crc32c (page.take 60 ++ page.drop 64)) ++ page.drop 64

/-- The header of a page of an image, before its CRC. -/
def JImage.head (g : JImage) (index : Nat) : Bytes :=
  [0x4B] ++ leBytes 1 index ++ List.replicate 6 0 ++ leBytes 8 g.jseq ++ leBytes 2 g.slot ++ List.replicate 46 0

/-- Image page i, of 0 to 3: the header and the entries of 170 slots, in slot-code order (R636). -/
def JImage.page (g : JImage) (i : Nat) : Bytes :=
  sealPage (g.head i ++ ((List.range 170).map (fun j =>
    if 170 * i + j < 576 then slotEntry (170 * i + j) ((g.slots.lookup (170 * i + j)).getD KeySlot.none) else List.replicate 96 0)).flatten)

/-- The commit page: the CRCs of the four image pages in bytes 20 to 35 (R636). -/
def JImage.commitPage (g : JImage) : Bytes :=
  let crcs := ((List.range 4).map (fun i => ((g.page i).drop 60).take 4)).flatten
  sealPage ((g.head 0x0C).take 20 ++ crcs ++ List.replicate 28 0 ++ List.replicate 16320 0)

/-- What flash holds of an image (R635, R638). -/
def JImage.flashPages (g : JImage) : List Bytes := (List.range g.pages).map g.page ++ (if g.commit then [g.commitPage] else [])

end Sys2Proof.Machine
end

