-- ==== Sys2Proof/Machine/CipherRows.lean ====
section
/-!
DEFINITION. Sys2Proof/Machine/CipherRows.lean: the bulk cores, the integrity cores, nonce reservation, the key journal and the
raw-block core (chapter 11).
-/
namespace Sys2Proof.Machine
open Sys2Proof

/-! ### Bulk cores -/

/-- The domain of bulk core k: a pair shares one (Table CIP-8). -/
def coreDomain (k : Nat) : Nat := 33 + k / 2

/-- May the block go to a core now? One to be encrypted needs a place in the cache, or on the staging path its data buffer (R97, R402). -/
def State.coreReady (s : State) (x : Exec) (i : Nat) (b : Blk) : Bool :=
  match b.pass with
  | .wait false => true
  | .wait true =>
    let lba := x.target i
    if s.staging then b.place.isBuffer else (s.cached x.pocket lba).isSome || (s.makeRoom x.pocket).isSome
  | _ => false

/-- The first block of a command that waits for a core. -/
def State.waitingBlk (s : State) (x : Exec) : Option (Nat × Blk) :=
  ((List.range x.blks.length).zip x.blks).find? (fun ib => s.coreReady x ib.1 ib.2)

/-- The next Pocket with a block waiting after the one served last (R600). -/
def State.nextPocket (s : State) : Option Nat :=
  let ps := (s.execs.filter (fun x => (s.waitingBlk x).isSome)).map (fun x => x.pocket)
  match leastBy (fun p => p) (ps.filter (fun p => decide (s.keys.lastPocket < p))) with
  | some p => some p
  | none => leastBy (fun p => p) ps

/-- A block as a core takes it: the bytes of a READ that is not confirmed yet stream in as `raw`. -/
def Blk.toCore (b : Blk) (core : Nat) (raw : Bytes) : Blk :=
  let enc : Bool := b.pass == .wait true
  let data := match b.codec with | .media _ _ => raw | _ => b.data
  { b with pass := .core enc core, data := data }

/-- A block whose pass is reissued after an abort goes ahead of new work (R774). -/
def State.redoBlk (s : State) : Option (Exec × Nat × Blk) :=
  s.keys.redo.findSome? (fun r =>
    match s.execs.find? (fun x => x.id == r.1) with
    | none => none
    | some x => match x.blks[r.2]? with
      | some b => if s.coreReady x r.2 b then some (x, r.2, b) else none
      | none => none)

/-- The block the scheduler deals next (R600): of the next Pocket in turn, the first that waits. -/
def State.nextBlk (s : State) : Option (Exec × Nat × Blk) :=
  match s.redoBlk with
  | some r => some r
  | none =>
    match s.nextPocket with
    | none => none
    | some p =>
      match s.execs.find? (fun x => x.pocket == p && (s.waitingBlk x).isSome) with
      | none => none
      | some x => (s.waitingBlk x).map (fun ib => (x, ib.1, ib.2))

/-- BULK_BLOCK_START (R598 to R601, R772, R774): a free core in service takes the oldest waiting block of the next Pocket in
turn. `raw` are the bytes a basted block streams, which may yet prove wrong (R368). -/
def execBulkBlockStart (core : Nat) (raw : Bytes) (s : State) : Host.Outcome State Fault Refusal :=
  if s.pairsTaking.contains (coreDomain core) = false ∨ s.keys.coreBusy.contains core = true then .next s
  else
    match s.nextBlk with
    | none => .next s
    | some (x, i, b) =>
      let s1 := s.setExec (x.setBlk i (b.toCore core raw))
      .next { s1 with keys := { s1.keys with
        lastPocket := x.pocket, coreBusy := s1.keys.coreBusy ++ [core], redo := s1.keys.redo.filter (fun r => r ≠ (x.id, i)) } }

/-- The block a core works on: the command and the block's number. -/
def State.coreBlk (s : State) (core : Nat) : Option (Exec × Nat) :=
  s.execs.findSome? (fun x =>
    match (List.range x.blks.length).find? (fun i =>
        match x.blks[i]? with
        | some b => b.pass == .core true core || b.pass == .core false core || b.pass == .stale core
        | none => false) with
    | some i => some (x, i)
    | none => none)

/-- A block of a WRITE, or of a COPY's destination, is encrypted, and tagged where INTEG is 1 (R395, R597, R606, R607). It enters the cache
in its turn (R345). -/
def State.encrypted (s : State) (x : Exec) (i : Nat) (b : Blk) : State :=
  let lba := x.target i
  let data := xtsBlock false x.unit512 (x.dkey.getD []) lba b.plain
  let check : Option Check :=
    if x.cmd.integ then
      some { tag := blockTag (x.ikey.getD []) (s.get SYS_SERIAL.SERIAL) (x.nonce + i) x.pocket lba data, count := x.nonce + i }
    else none
  ((s.setExec (x.setBlk i { b with pass := .held, data := data, check := check })).count CIP_ENC.BLOCKS 1).cross x.pocket 4096

/-- A block is decrypted (R597, R598): a READ's may be sent once it is confirmed, or at once where the READ bastes (R368,
R369); a COPY's is encrypted next. -/
def State.decrypted (s : State) (x : Exec) (i : Nat) (b : Blk) : State :=
  let plain := xtsBlock true x.unit512 (x.dkey.getD []) (x.cmd.lba + i) b.data
  let s1 := (s.count CIP_DEC.BLOCKS 1).cross x.pocket 4096
  if x.cmd.opcode = 6 then s1.setExec (x.setBlk i { b with plain := plain, pass := .wait true })
  else
    let b1 : Blk := { b with plain := plain, pass := .done }
    if b1.codec = .good ∨ x.baste = true then
      (s1.postBlock x i plain).setExec (x.setBlk i { b1 with posted := true, pulled := b1.pulled && b1.codec != .good })
    else s1.setExec (x.setBlk i b1)

/-- BULK_BLOCK_DONE (R395, R597 to R599, R606, R607): a core finishes its block. -/
def execBulkBlockDone (core : Nat) (s : State) : Host.Outcome State Fault Refusal :=
  if s.keys.coreBusy.contains core = false then .next s
  else
    let s0 := { s with keys := { s.keys with coreBusy := s.keys.coreBusy.filter (fun k => k ≠ core) } }
    match s0.coreBlk core with
    | none => .next s0
    | some (x, i) =>
      match x.blks[i]? with
      | none => .next s0
      | some b =>
        match b.pass with
        | .core true _ => .next ((s0.encrypted x i b).settle.flushMode)
        | .core false _ => .next ((s0.decrypted x i b).settle)
        | .stale _ => .next (((s0.setExec (x.setBlk i { b with pass := .none })).advanceBlk x.id i).settle)
        | _ => .next s0

/-! ### Integrity cores -/

/-- A block whose GMAC failed once is read again from flash, bypassing the cache (R375): from the page it was read from, or whose copy the
cache held; one that only the cache holds is programmed first. -/
def State.reread (s : State) (x : Exec) (i : Nat) (b : Blk) : Blk :=
  let lba := x.cmd.lba + i
  let nb : Blk := match b.ppa with
    | some a => { Blk.start (.media a (lba % 4)) with ppa := some a }
    | none => match s.cached x.pocket lba with
      | some e => if e.kind = LineKind.dirty ∨ e.kind = LineKind.through then Blk.start .flush else s.fromFlash x.pocket lba
      | none => s.fromFlash x.pocket lba
  let c : Codec := if nb.pass = .done then .lost Status.macMismatch.code else nb.codec
  { b with codec := c, ppa := nb.ppa, data := [], check := none, again := true }

/-- GMAC_VERIFY (R368, R371, R375, R602 to R609): the tag of block `blk` of a command is recomputed under the latched key and
compared with the stored one. -/
def execGmacVerify (queue tag blk : Nat) (s : State) : Host.Outcome State Fault Refusal :=
  match s.execOf queue tag with
  | none => .next s
  | some x =>
    match x.blks[blk]? with
    | none => .next s
    | some b =>
      match b.codec, b.check with
      | .mac final, some c =>
        let serial := s.get SYS_SERIAL.SERIAL
        if blockTag (x.ikey.getD []) serial c.count x.pocket (x.cmd.lba + blk) b.data = padTo 16 c.tag then
          .next (((s.setExec (x.setBlk blk { b with codec := .good })).advanceBlk x.id blk).settle)
        else
          let s1 := s.count CIP_MACFAIL.COUNT 1
          let (s2, b1) := s1.withdraw x blk b .unpickedMac
          if final || b.again then
            .next ((s2.setExec (x.setBlk blk { b1 with codec := .lost Status.macMismatch.code })).settle)
          else
            let b2 := s2.reread x blk b1
            let lbas := if b2.codec = .flush then [x.cmd.lba + blk] else []
            let x1 := { x with unset := x.unset ++ lbas }
            let s3 := (s2.awaitProgram x.id x.pocket lbas).setExec (x1.setBlk blk b2)
            .next ((s3.startBlock x.pocket (x.cmd.lba + blk) b2).settle)
      | _, _ => .next s

/-! ### The `cipher` command's one-off computations (R612 to R616, R1012 to R1015) -/

/-- The slot a computation names: the kinds its form takes, LOADED (R1015); one that drains is refused as R632 says. -/
def State.cipherFault (s : State) (slot : Nat) (kinds : List Nat) : Option Status :=
  let k := s.slot slot
  if 512 ≤ slot then some .badArg
  else if k.state = .retiring then some .keyRetired
  else if k.state = .empty ∨ kinds.contains k.kind = false then some .keyEmpty
  else none

/-- The reply of `cipher gmac`: one nonce from the card's counter (R613, R1013). -/
def State.gmacReply (s : State) (slot : Nat) (msg : Bytes) : State × Result :=
  let n := s.keys.nonce
  let serial := s.get SYS_SERIAL.SERIAL
  let tag := gmac (s.slot slot).material (nonceBytes serial n) msg
  ({ s with keys := { s.keys with nonce := n + 1 } },
    .ok [] [("tag", hexBytes tag), ("nonce_serial", hexPlain 8 serial), ("nonce_count", dec n)])

/-- `cipher gmac` (R613, R614, R1013): it waits while the counter stands at the limit, or fails where no reservation can be
written. -/
def State.cipherGmac (s : State) (slot : Nat) (msg : Bytes) : State × Result :=
  match s.cipherFault slot gmacKinds with
  | some st => (s, .fail st)
  | none =>
    if !s.domIn 38 then (s, .fail .domainOff)
    else if s.keys.nonce < s.keys.limit then s.gmacReply slot msg
    else if s.noReservation then (s, .fail .domainOff)
    else (s, .wait (.nonce slot msg))

/-- The limit has risen: the lines of `cipher gmac` that waited are answered. -/
def State.gmacsGo (s : State) : State :=
  s.paths.foldl (fun t p =>
    match (t.session p).await with
    | some a =>
      match a.what with
      | .nonce slot msg =>
        match t.cipherFault slot gmacKinds with
        | some st => t.finish p (fun g => .er g st)
        | none =>
          let (u, r) := t.gmacReply slot msg
          u.finish p (fun g => match r with | .ok d kv => .ok g d kv | _ => .er g .keyEmpty)
      | _ => t
    | none => t) s

/-! ### Nonce reservation -/

/-- NONCE_RESERVE (R613, R614, R784): the counter has come within 2^18 of the limit. -/
def execNonceReserve (s : State) : Host.Outcome State Fault Refusal :=
  if s.keys.limit ≤ s.keys.nonce + 2 ^ 18 ∧ s.keys.reserving = false ∧ s.noReservation = false then
    .next { s with keys := { s.keys with reserving := true } }
  else .next s

/-- NONCE_RESERVE_DONE (R614, R653): the limit rises when the record's program has succeeded; a failed one is written again. -/
def execNonceReserveDone (ok : Bool) (s : State) : Host.Outcome State Fault Refusal :=
  if s.keys.reserving = true ∧ ok = true then
    let l := s.keys.limit + 2 ^ 20
    .next ({ s with keys := { s.keys with reserving := false, limit := l, records := l :: s.keys.records.take 1 } }).gmacsGo
  else .next s

/-! ### The key journal -/

/-- KEY_DRAIN_END (R319, R630, R632): no latch holds the slot's key any more. -/
def execKeyDrainEnd (slot : Nat) (s : State) : Host.Outcome State Fault Refusal :=
  if (s.keys.drains.lookup slot).isSome ∧ (s.latchesOf slot).isEmpty = true then .next (s.drainEnds slot) else .next s

/-- KEY_DRAIN_TIMEOUT (R632): 2 ms after RETIRING began, commands that still hold a latch complete with KEY_RETIRED. -/
def execKeyDrainTimeout (slot us : Nat) (s : State) : Host.Outcome State Fault Refusal :=
  let s0 := s.at us
  match s0.keys.drains.lookup slot with
  | none => .next s0
  | some t =>
    if us < t + 2000 then .next s0
    else .next ((((s0.latchesOf slot).foldl (fun u x => u.abortExec x .keyRetired) s0).drainEnds slot).deletionsGo)

/-- JOURNAL_COMMIT (R319, R630, R631, R635, R637, R640, R650): the slot is switched, the reply is committed, the copies swap. -/
def execJournalCommit (us : Nat) (s : State) : Host.Outcome State Fault Refusal :=
  let s0 := s.at us
  match s0.keys.update with
  | none => .next s0
  | some u =>
    let k0 := s0.keys.program u 4 true
    let slots := u.slots k0.slots
    let k1 := { k0 with
      slots := slots, image := imageSlots slots, jseq := k0.jseq + 1, update := none, active := 1 - k0.active,
      interrupted := none, erasing := decide (k0.room.getD k0.active 0 < 5) }
    let s1 := (({ s0 with keys := k1 }).set KEY_STAT.ACTIVE k1.active).deletionsGo
    .next (((s1.tellUpdate u).finishFor .journal (fun t => .ok t u.data (u.kv.map (fun e => if e.1 = "jseq" then (e.1, dec k1.jseq) else e)))).nextUpdate)

/-- JOURNAL_TIMEOUT (R641): an update not at its OK point after 25 ms fails with TIMEOUT; `paged` says whether image pages
were programmed. -/
def execJournalTimeout (paged : Bool) (us : Nat) (s : State) : Host.Outcome State Fault Refusal :=
  let s0 := s.at us
  match s0.keys.update.or (s0.keys.waiting.find? (fun u => u.line)) with
  | none => .next s0
  | some u =>
    if us < u.startUs + 25000 then .next s0 else .next ((s0.updateFails u (paged && s0.keys.update.isSome)).nextUpdate).deletionsGo

/-- JOURNAL_BLOCK_ERASE (R640): the erase of the inactive copy's next block ends, and an update that waited starts. -/
def execJournalBlockErase (us : Nat) (s : State) : Host.Outcome State Fault Refusal :=
  let s0 := s.at us
  if s0.keys.erasing then
    let c := 1 - s0.keys.active
    .next (s0.eraseJournal c (s0.journalPages c)).nextUpdate
  else .next s0

/-! ### The raw-block core -/

/-- A core's KEY_RB input and output registers as bytes, lowest address first (R1124). -/
def State.rbInput (s : State) (core : Nat) : Bytes :=
  ((List.range 4).map (fun i => leBytes 4 (s.getOn core (KEY_RBIN.DATA i)))).flatten

def State.rbOutput (s : State) (core : Nat) (b : Bytes) : State :=
  (List.range 4).foldl (fun t i => t.setOn core (KEY_RBOUT.DATA i) (leNat ((b.drop (4 * i)).take 4))) s

/-- One operation of the raw-block core for a core's copy of KEY_RB (R618 to R620): T0 at P0 names any RAW slot, T1 at P1 one that P000
owns; any other request sets ERR and does nothing. -/
def State.rawBlock (s : State) (core : Nat) (p1 dec : Bool) (slot : Nat) : State :=
  let s1 := (s.setOn core KEY_RBCTL.SLOT slot).setOn core KEY_RBCTL.DIR (if dec then 1 else 0)
  let ends (t : State) (err : Nat) : State := (t.setOn core KEY_RBCTL.ERR err).setOn core KEY_RBCTL.START 0
  match s1.keys.slots.lookup slot with
  | some k =>
    if (k.kind = 7 ∨ k.kind = 8) ∧ k.state = .loaded ∧ ((core = 0 ∧ p1 = false) ∨ (core = 1 ∧ p1 = true ∧ k.owner = 0)) then
      let f := if dec then aesDec else aesEnc
      ends (s1.rbOutput core (f k.material (s1.rbInput core))) 0
    else ends s1 1
  | none => ends s1 1

/-- KEY_RB_ENCRYPT (R618 to R620, R657): KEY_RBCTL.START with DIR 0, by a core at a privilege. -/
def execKeyRbEncrypt (core : Nat) (p1 : Bool) (slot : Nat) (s : State) : Host.Outcome State Fault Refusal :=
  if core < 2 ∧ s.domIn 37 = true then .next (s.rawBlock core p1 false slot) else .next s

/-- KEY_RB_DECRYPT (R618 to R620, R657): KEY_RBCTL.START with DIR 1. -/
def execKeyRbDecrypt (core : Nat) (p1 : Bool) (slot : Nat) (s : State) : Host.Outcome State Fault Refusal :=
  if core < 2 ∧ s.domIn 37 = true then .next (s.rawBlock core p1 true slot) else .next s

/-! ### Prefetch and checkpoints -/

/-- A prefetch read waits for the host reads of its channel (R386). -/
def State.hostReads (s : State) (ch : Nat) : Bool :=
  s.execs.any (fun x => x.blks.any (fun b => match b.codec with
    | .media a _ => ppaCh a == ch | .recover a _ => ppaCh a == ch | _ => false))

/-- PREFETCH_FILL (R386, R387, R389, R392, R401, R423, R495, R911, R913): a requested block that decodes in line fills a prefetch line; one that
fails is dropped. -/
def execPrefetchFill (pocket lba : Nat) (errs : List Nat) (s : State) : Host.Outcome State Fault Refusal :=
  if s.cache.wanted.contains (pocket, lba) = false ∨ s.hostReads (ppaCh (entryPpa (s.entry pocket (lba / 4)))) = true then .next s
  else
    let s00 := { s with cache := { s.cache with wanted := s.cache.wanted.filter (fun w => w ≠ (pocket, lba)) } }
    let e := s00.entry pocket (lba / 4)
    let live := match s00.pockets.lookup pocket with | some k => k.state == .active | none => false
    if !(entryValid e).testBit (lba % 4) || !live || s00.staging || !s00.flag CCH_CFG.PF_EN || !s00.flashReadable (ppaCh (entryPpa e)) then
      .next s00
    else
      let s0 := (s00.cross 0 4096).learn (entryPpa e) (lba % 4) errs
      let res := s0.decodeRead (entryPpa e) (lba % 4) errs
      let s1 := (s0.countLap (entryPpa e) (lba % 4) res).countCorrected (entryPpa e) (lba % 4) res
      match s1.right (entryPpa e) (lba % 4) res with
      | some (w, _) =>
        if cwFormat w = 7 then .next s1
        else
          let s2 := (s1.fill pocket lba .prefetch (cwData w) (cwCheck w))
          if (s2.cached pocket lba).isSome ∧ (s1.cached pocket lba).isNone then .next (s2.count CCH_PFFILL.BLOCKS 1) else .next s2
      | none => .next s1

end Sys2Proof.Machine
end

