-- ==== Sys2Proof/Machine/SeamOps.lean ====
section
/-!
DEFINITION. Sys2Proof/Machine/SeamOps.lean: joining and leaving the ring, hop negotiation, the reception of ring items, BEATs and the
Mantle's election (chapter 16).
-/
namespace Sys2Proof.Machine
open Sys2Proof

/-! ### Joining and leaving -/

/-- A Seam port's domain. -/
def portDomain (p : Nat) : Nat := 27 + p

/-- A card monitors the ring while all of this holds (R845); a card marked dupslot stays out (R851). -/
def State.mayJoin (s : State) : Bool :=
  s.ready && s.flag SYS_STRAP.SLOT_VALID && !s.limp && s.flag SEAM_CFG.JOIN && !s.flag SEAM_STAT.DUPSLOT && !s.removing &&
  (s.dom 27 == 2 || s.dom 27 == 3) && (s.dom 28 == 2 || s.dom 28 == 3)

/-- A port returns to `ph`, its switch closed and its hop forgotten. -/
def State.closePort (s : State) (ph : HopPhase) (p : Nat) : State :=
  let s1 := (s.setHop p Hop.reset).setPhase p ph
  (((((s1.set (portFld SEAM_PORTE.BYP_OPEN p) 0).set (portFld SEAM_PORTE.RATE p) 0).set (portFld SEAM_PORTE.LANES2 p) 0).set
    (portFld SEAM_PORTE.PARTNER p) 0xFF).set (portFld SEAM_PSERE.SERIAL p) 0)

/-- A pending pairing lapses (R1079, R1108). -/
def State.lapsePair (s : State) : State :=
  match s.twin.offer with
  | none => s
  | some (g, _) =>
    let s1 := ({ s with twin := { s.twin with offer := none, offerReq := none } }).notify "twin pair lapsed" [("slot", slotId g.slot)]
    s1.finishFor .pairing (fun t => .er t .timeout)

/-- The card knows no Mantle: sessions lose MANTLE (R895, R896). -/
def State.noMantle (s : State) : State :=
  let s1 := (s.set SEAM_STAT.MANTLE 0xFF).set SEAM_STAT.STANDBY 0xFF
  { s1 with
    seam := { s1.seam with heard := [], mantleUs := none },
    col := { s1.col with seam := s1.col.seam.map (fun x => (x.1, if x.2.role = .service then x.2 else { x.2 with role := .none })) } }

/-- Both switches close (R843) and the card is out of the ring: monitoring (1) or not (0). -/
def State.leaveRing (s : State) (ring : Nat) : State :=
  let ph (p : Nat) : HopPhase := if ring = 1 ∧ s.dom (portDomain p) ≠ 0 then .monitor else .off
  let s1 := (((s.closePort (ph 0) 0).closePort (ph 1) 1).set SEAM_STAT.RING ring).set SEAM_MANTLE.STATE 0
  let s2 := s1.noMantle
  ({ s2 with seam := { s2.seam with tokenUs := none } }).lapsePair

/-- What R845 asks for has changed: the card begins to monitor, or leaves. -/
def State.seamCheck (s : State) : State :=
  if s.mayJoin then (if s.get SEAM_STAT.RING = 0 then s.leaveRing 1 else s)
  else if s.get SEAM_STAT.RING = 0 then s else s.leaveRing 0

/-- Both switches open (R843). -/
def State.openPorts (s : State) : State :=
  ((s.set SEAM_PORTE.BYP_OPEN 1).set SEAM_PORTW.BYP_OPEN 1).set SEAM_STAT.RING 2

/-- Has a BEAT of the active Mantle been seen within 30 ms? -/
def State.mantleSeen (s : State) (us : Nat) : Bool :=
  match s.seam.mantleUs with | some t => decide (us < t + 30000) | none => false

/-- A Mantle state, with SEAM_STAT following it (Tables SEAM-7, SEAM-9). -/
def State.mantleState (s : State) (st : Nat) : State := s.set SEAM_MANTLE.STATE st

/-- MEMBER, or STANDBY if the Mantle's BEAT names this card (Table SEAM-7). -/
def State.memberOrStandby (s : State) : State :=
  s.mantleState (if s.get SEAM_STAT.STANDBY = s.ownSlot then 2 else 1)

/-- The card has joined: with a MANTLE BEAT seen within 30 ms it is MEMBER or STANDBY (Table SEAM-7). -/
def State.joinedNow (s : State) (us : Nat) : State := if s.mantleSeen us then s.memberOrStandby else s.mantleState 0

/-! ### Hops -/

/-- A hop counts as reset or negotiated. -/
def State.countHop (s : State) (p : Nat) : State := s.count (halfFld SEAM_HOPRST.E SEAM_HOPRST.W p) 1

/-- The mode in force stands in SEAM_PORTx. -/
def State.setMode (s : State) (p rate : Nat) (two : Bool) : State :=
  let s1 := s.setHop p { s.hop p with rate := rate, two := two }
  (s1.set (portFld SEAM_PORTE.RATE p) rate).setFlag (portFld SEAM_PORTE.LANES2 p) two

/-- The hop is up: what waits goes out (R857, R861). -/
def State.hopUp (s : State) (p : Nat) : State :=
  let s1 := s.setPhase p .up
  (s1.pumpHop p ((s1.hop p).queue.length + 1)).twinGo

/-- Full negotiation starts from the base mode (R854). -/
def State.negotiateHop (s : State) (p : Nat) : State :=
  let s1 := (s.countHop p).setMode p 0 false
  (s1.setHop p { s1.hop p with k := 0, echoed := false, farLanes := 0, farRates := 0 }).setPhase p .ident

/-- Attempt k runs (R855). -/
def State.startHopAttempt (s : State) (p k rate : Nat) (two : Bool) : State :=
  let s1 := s.setMode p rate two
  ((s1.setHop p { s1.hop p with k := k }).setPhase p .attempt).seamOut p (.training rate two)

/-- The mode of attempt 1 (R854). -/
def State.firstMode (s : State) (p : Nat) : Nat × Bool :=
  let h := s.hop p
  (topBit (h.farRates &&& s.ownRates), h.farLanes.testBit 1 && s.ownLanes.testBit 1)

/-- The mode after a failed attempt k (R856); `none`: the hop has failed. -/
def nextHopMode (k rate : Nat) (two : Bool) : Option (Nat × Bool) :=
  if k % 2 = 1 ∧ 0 < rate then some (rate - 1, two)
  else if two then some (rate, false)
  else if 0 < rate then some (rate - 1, false)
  else none

/-- The numbering of a hop restarts at 0 in both directions; unacknowledged items are sent again in order (R849). -/
def State.resetHop (s : State) (p : Nat) : State :=
  let h := s.hop p
  let again := h.unacked.map (fun i => (i.frame.src != s.ownSlot, i.frame))
  let s1 := (s.countHop p).setHop p { h with txNext := 0, rxNext := 0, unacked := [], queue := again ++ h.queue }
  s1.pumpHop p (again.length + h.queue.length + 1)

/-- A field of a payload, little-endian. -/
def le (b : Bytes) (off n : Nat) : Nat := leNat ((b.drop off).take n)

/-- What every hop frame tells: its VER, its partner and serial; a new serial resets the hop (R849, R859). `none`: discarded. -/
def State.hearHop (s : State) (p : Nat) (b : Bytes) : Option State :=
  if le b 1 1 ≠ 1 ∨ b.length < 32 then none
  else
    let new := s.get (portFld SEAM_PSERE.SERIAL p) != le b 4 4
    let s1 := (s.set (portFld SEAM_PSERE.SERIAL p) (le b 4 4)).set (portFld SEAM_PORTE.PARTNER p) (le b 2 1)
    let s2 := s1.setHop p { s1.hop p with farLanes := le b 8 1, farRates := le b 9 1 }
    some (if new || le b 0 1 == 0x24 then s2.resetHop p else s2)

/-- A hop frame whose VER is not 1 is discarded and counted (R859). -/
def State.dropFrame (s : State) : State := s.count SEAM_DROP.COUNT 1

/-! ### Ring items -/


/-- Acceptance of an item by its hop number and integrity (R279, R280, R861): accepted items are acknowledged, a damaged one or a
gap is answered by REP. A duplicate, whose ACK may have been lost, is acknowledged again (DESIGN CHOICE, assumption log entry 193). -/
def State.ringJudge (s : State) (p : Nat) (rx : RxInfo) (len : Nat) : State × Bool :=
  let h := s.hop p
  let rep (t : State) : State := (t.seamOut p (.rep h.rxNext)).count (halfFld SEAM_REP.E SEAM_REP.W p) 1
  if rx.errs ≠ [] ∨ 2048 < len ∨ rx.eofOk = false ∨ rx.crcOk = false then
    (rep (s.count (halfFld SEAM_CRCERR.E SEAM_CRCERR.W p) 1), false)
  else
    let d := (rx.seq + 4096 - h.rxNext) % 4096
    if d = 0 then
      let e := (h.rxNext + 1) % 4096
      ((s.setHop p { h with rxNext := e }).seamOut p (.ack e), true)
    else if 2048 ≤ d then (s.seamOut p (.ack h.rxNext), false)
    else (rep s, false)

/-- The record of a source and class (R863): is the frame new? Of the primary's items only the one whose TSEQ is next is (R876); what has been
accepted of them is the secondary's own record, so that an item sent once more after a NAK still counts as new (DEDUCED, assumption log
entry 191). -/
def State.freshFrame (s : State) (f : RFrame) : State × Bool :=
  let k := f.src * 256 + f.cls
  if f.isItem then (if f.rseq < s.twin.rxNext then s.count SEAM_DUP.COUNT 1 else s, f.rseq == s.twin.rxNext)
  else
  let take : State := { s with seam := { s.seam with seen := upsert k (f.inc, f.rseq) s.seam.seen } }
  match s.seam.seen.lookup k with
  | none => (take, true)
  | some (inc, r) =>
    if inc ≠ f.inc then (take, true)
    else if f.rseq ≤ r then (s.count SEAM_DUP.COUNT 1, false)
    else (take, true)

/-- The bytes of a hop frame (R853, R858): CLASS and HSEQ 0. DST, RSEQ and TTL, which nothing acts on, are those of a broadcast that is never
forwarded (DESIGN CHOICE, assumption log entry 194). -/
def State.hopFrame (s : State) (payload : Bytes) : Bytes :=
  ({ cls := 0, sub := 0, src := s.ownSlot, dst := 0xFF, rseq := 0, ttl := 24, flags := 0, inc := s.seam.inc, spare := [], area := [],
     payload := payload } : RFrame).bytes 0

/-- Character times of IDL in 60 µs at a rate code: 10 bits to a character, 2.5 Gbaud at code 0 (R855). -/
def idleOf60 (rate : Nat) : Nat := 15000 * 2 ^ rate

/-- The character times that an output occupies on `n` lanes of its hop (R855, R858, R861). -/
def State.seamTimes (s : State) (n : Nat) : SeamOut → List (List Chr)
  | .hop p => frameTimes n false (s.hopFrame p)
  | .training rate two =>
    let ls := if two then [0, 1] else [0]
    let bs := ls.map (fun k => trainingBytes k 4096)
    idleTimes (idleOf60 rate) ls.length false ++ [codeTime ls.length false .sof] ++
      (List.range 4096).map (fun t => bs.map (fun b => Chr.data (b.getD t 0))) ++ [codeTime ls.length false .eof]
  | .item seq f => frameTimes n false (f.bytes seq)
  | .ack e => ctlTimes n false .ack [(ackChars e).1, (ackChars e).2, 0xF0]
  | .rep e => ctlTimes n false .rep [(ackChars e).1, (ackChars e).2]

/-- A frame is forwarded out of the opposite port, or removed when its TTL reaches 0 (R860). -/
def State.forward (s : State) (p : Nat) (f : RFrame) : State :=
  if f.ttl ≤ 1 then s.dropFrame else s.ringPut (1 - p) true { f with ttl := f.ttl - 1 }

/-- Is an MGT frame one that R897 lets through? -/
def mgtFrameOk (f : RFrame) : Bool :=
  decide (1 ≤ f.sub) && decide (f.sub ≤ 3) &&
  (f.sub == 1 || (decide (1 ≤ f.payload.length) && decide (f.payload.length ≤ 240) &&
    f.payload.all (fun b => decide (0x20 ≤ b.toNat) && decide (b.toNat ≤ 0x7E))))

/-- A new frame is delivered to the card; TWIN items have R876 besides. -/
def State.deliverFrame (s : State) (p : Nat) (f : RFrame) : State :=
  if f.cls = 2 ∧ mgtFrameOk f = false then s.dropFrame
  else
    let s2 := { s with seam := { s.seam with delivered := s.seam.delivered ++ [f] } }
    if f.cls = 2 ∧ f.sub = 1 then
      { s2 with seam := { s2.seam with
          reqs := upsert f.src f.rseq s2.seam.reqs, linePort := upsert f.src p s2.seam.linePort } }
    else s2

/-- An accepted frame is delivered, forwarded or removed (R860). One for this card counts once by its source's record; a repeat of a broadcast is
discarded whole (R863). -/
def State.routeFrame (s : State) (p : Nat) (f : RFrame) : State :=
  if f.src = s.ownSlot then s.dropFrame
  else if f.dst ≠ s.ownSlot ∧ f.dst ≠ 0xFF then s.forward p f
  else
    let (s1, new) := s.freshFrame f
    if !new then s1
    else
      let s2 := s1.deliverFrame p f
      if f.dst = s.ownSlot then s2 else s2.forward p f

/-- The sender goes back to item `e`, those before it being acknowledged; the eighth send of an item restarts full negotiation
(R857, R861). -/
def State.hopBack (s : State) (p e : Nat) : State :=
  let h := s.hop p
  let first := match h.unacked with | [] => h.txNext | i :: _ => i.seq
  let n := (e + 4096 - first) % 4096
  if h.unacked.length < n then s
  else
    let rest := h.unacked.drop n
    if rest.any (fun i => 7 ≤ i.sends) then (s.setHop p { h with unacked := rest }).negotiateHop p
    else
      let again := rest.map (fun i => { i with sends := i.sends + 1 })
      let s1 := s.setHop p { h with unacked := again }
      let s2 := again.foldl (fun t i => t.seamOut p (.item i.seq i.frame)) s1
      s2.pumpHop p (h.queue.length + 1)

/-- The items before E are acknowledged (R861). -/
def State.hopAcked (s : State) (p e : Nat) : State :=
  let h := s.hop p
  let first := match h.unacked with | [] => h.txNext | i :: _ => i.seq
  let n := (e + 4096 - first) % 4096
  if h.unacked.length < n then s
  else ((s.setHop p { h with unacked := h.unacked.drop n }).pumpHop p (h.queue.length + 1)).twinGo

/-! ### BEATs and the Mantle -/

def Beat.cand (b : Beat) : Bool := b.flags.testBit 0
def Beat.mantle (b : Beat) : Bool := b.flags.testBit 1
def Beat.isTick (b : Beat) : Bool := b.flags.testBit 3

/-- The card's own CAND (R866). -/
def State.cand (s : State) : Bool := s.flag SYS_STRAP.MANTLE_CAP && s.joined && !s.limp && !s.flag SEAM_STAT.DUPSLOT

/-- The BEATs of the last 30 ms. -/
def State.recentBeats (s : State) (us : Nat) : List BeatRec := s.seam.beats.filter (fun b => decide (us < b.us + 30000))

def State.beatOf (s : State) (slot : Nat) : Option BeatRec := s.seam.beats.find? (fun b => b.src == slot)

/-- The standby that the active Mantle names: its twin when the twin's BEAT has CAND set (R889). -/
def State.namesStandby (s : State) (us : Nat) : Nat :=
  match (s.recentBeats us).find? (fun b => b.src == s.partner) with
  | some b => if b.beat.cand ∧ s.twinState ≠ 0 then b.src else 0xFF
  | none => 0xFF

/-- The 10 ms index within the minute: the AON minute counter runs with the samples, 100 to each index (assumption log 31). -/
def State.gridNow (s : State) : Nat := s.htg.phase / 100

/-- The card's own BEAT (Table SEAM-3). -/
def State.ownBeat (s : State) (us : Nat) (tick : Bool) : Beat :=
  let st := s.get SEAM_MANTLE.STATE
  { flags := bit s.cand 0 + bit (st == 4) 1 + bit (st == 2) 2 + bit tick 3 + bit s.limp 4,
    twin := s.partner, tstate := s.twinState, serial := s.get SYS_SERIAL.SERIAL, minute := s.get HTG_MINUTE.MINUTE,
    grid := s.gridNow, standby := if st = 4 then s.namesStandby us else 0xFF, pass := 0,
    roster := if st = 4 then s.seam.lastPass else 0 }

/-- A BEAT's 64 bytes. -/
def Beat.bytes (b : Beat) : Bytes :=
  padTo 64 ([1] ++ leBytes 1 b.flags ++ leBytes 1 b.twin ++ leBytes 1 b.tstate ++ leBytes 4 b.serial ++ leBytes 4 b.minute ++
    leBytes 2 b.grid ++ leBytes 2 0 ++ leBytes 1 b.standby ++ leBytes 3 0 ++ leBytes 3 b.pass ++ [0] ++ leBytes 3 b.roster)

/-- A BEAT from its payload (Table SEAM-3). -/
def Beat.of (b : Bytes) : Beat :=
  { flags := le b 1 1, twin := le b 2 1, tstate := le b 3 1, serial := le b 4 4, minute := le b 8 4, grid := le b 12 2,
    standby := le b 16 1, pass := le b 20 3, roster := le b 24 3 }

/-- A candidate's rank, lowest first: one whose twin has CAND set, then the lower slot (R888). -/
def State.rankOf (s : State) (us slot twin : Nat) : Nat :=
  let twinCand := (twin == s.ownSlot && s.cand) || (s.recentBeats us).any (fun b => b.src == twin && b.beat.cand)
  (if twinCand then 0 else 256) + slot

/-- Is this card the highest-ranked candidate of those heard in the last 30 ms, itself included? -/
def State.highest (s : State) (us : Nat) : Bool :=
  s.cand && ((s.recentBeats us).filter (fun b => b.beat.cand)).all (fun b =>
    decide (s.rankOf us s.ownSlot s.partner < s.rankOf us b.src b.beat.twin))

/-- A new Mantle takes office: the session of the old one loses MANTLE (R895). -/
def State.takeOffice (s : State) (slot : Nat) : State := if s.get SEAM_STAT.MANTLE = slot then s else (s.noMantle).set SEAM_STAT.MANTLE slot

/-- This card sends its BEAT eastbound (R865); as the Mantle its first BEAT of a minute carries TICK and closes the minute
before (R891, R892); a minute that `clock set` set has begun without one (R990). -/
def State.sendBeat (s : State) (us : Nat) (forceTick : Bool) : State :=
  let active := s.get SEAM_MANTLE.STATE == 4
  let due := s.get SEAM_MINUTE.MINUTE != s.get HTG_MINUTE.MINUTE && s.seam.minuteSet != some (s.get HTG_MINUTE.MINUTE)
  let tick := active && (forceTick || (s.gridNow == 0 && due))
  let b := s.ownBeat us tick
  let s1 := s.ringSend 4 0 0xFF [] b.bytes
  let s2 := { s1 with seam := { s1.seam with ownTokenUs := if active then some us else s1.seam.ownTokenUs } }
  let s3 := if active then s2.set SEAM_STAT.STANDBY b.standby else s2
  if tick then (s3.set SEAM_MINUTE.MINUTE (s3.get HTG_MINUTE.MINUTE)).closeAll (s3.get HTG_MINUTE.MINUTE) true else s3

/-- The card becomes the active Mantle (Table SEAM-7). -/
def State.becomeMantle (s : State) : State := (s.takeOffice s.ownSlot).mantleState 4

/-- The roster of the last token: members and their count; a pending pairing with a card that has left it lapses (R1108). -/
def State.setRoster (s : State) (m : Nat) : State :=
  let s1 := (s.set SEAM_ROSTER.MASK m).set SEAM_STAT.MEMBERS ((List.range 24).filter (fun k => m.testBit k)).length
  match s1.twin.offer with
  | some (g, _) => if s1.inRoster g.slot then s1 else s1.lapsePair
  | none => s1

/-- A BEAT of the active Mantle: office, roster, standby, minute (R888 to R892). -/
def State.mantleBeat (s : State) (src us : Nat) (b : Beat) : State :=
  let mine := s.get SEAM_MANTLE.STATE
  let higher := decide (s.rankOf us src b.twin < s.rankOf us s.ownSlot s.partner)
  if mine = 4 ∧ higher = false then s
  else
    let s1 := (s.takeOffice src).set SEAM_STAT.STANDBY b.standby
    let s2 := { s1 with seam := { s1.seam with
      passSince := s1.seam.mantleUs, mantleUs := some us, named := b.standby != 0xFF } }
    let s3 := s2.setRoster b.roster
    let s4 := if s3.joined then s3.memberOrStandby else s3
    let s5 := if s4.get SEAM_MANTLE.STATE = 2 ∨ b.isTick = true then
        let t := s4.set HTG_MINUTE.MINUTE b.minute
        { t with htg := { t.htg with phase := 100 * b.grid } }
      else s4
    if b.isTick then ((s5.set SEAM_MINUTE.MINUTE b.minute).set HTG_STAT.UNSYNC 0).closeAll b.minute true else s5

/-- The card finds its own slot number in another card's BEAT (R59, R851). -/
def State.dupSlot (s : State) : State :=
  if s.flag SEAM_STAT.DUPSLOT then s
  else ((s.set SEAM_STAT.DUPSLOT 1).leaveRing 0).notify "ring dupslot" [("slot", String.ofList (decFixed 2 s.ownSlot))]

/-- A BEAT is noted (R867). -/
def State.noteBeat (s : State) (src us : Nat) (b : Beat) : State :=
  let r : BeatRec := { src := src, us := us, beat := b, counted := false }
  { s with seam := { s.seam with beats := (s.seam.beats.filter (fun x => x.src ≠ src)) ++ [r] } }

/-- Ports in SHADOW whose hop is up enter IN once a token has come in on the West port and has been forwarded or removed (R850). -/
def State.portsIn (s : State) : State :=
  [0, 1].foldl (fun t p =>
    if t.dom (portDomain p) = 2 ∧ (t.hop p).phase = .up then t.enterIn (portDomain p) else t) s

/-- Is the BEAT the ring token (R846)? -/
def State.isToken (s : State) (us : Nat) (b : Beat) : Bool := b.mantle || !s.mantleSeen us

end Sys2Proof.Machine
end

