-- ==== Sys2Proof/Machine/TwinOps.lean ====
section
/-!
DEFINITION. Sys2Proof/Machine/TwinOps.lean: the states of a twinset, confirmation, the items a secondary applies, and darning
(chapter 16: R870 to R887, R901, R902).
-/
namespace Sys2Proof.Machine
open Sys2Proof

/-- Every region of every Pocket with a namespace is marked (R881, R883). -/
def State.markAll (s : State) : State :=
  let rs := (s.pockets.map (fun x => (List.range (ceilDiv x.2.size 64)).map (fun r => (x.1, r)))).flatten
  { s with twin := { s.twin with marked := rs, inCopy := [], copies := [], darn := [] } }

/-- The card leaves its twinset (R1080, Table SEAM-6): it keeps its Pockets. -/
def State.leaveTwin (s : State) : State :=
  ({ s with twin := { Twin.reset with offer := s.twin.offer }, execs := s.execs.map Exec.apart }).confRecord.showTwin 0

/-- The `twin unpair` that waits is answered, and the primary leaves its twinset (R1080). -/
def State.unpaired (s : State) : State :=
  s.leaveTwin.settle.finishFor .unpair (fun t => .ok t [] [("state", "solo")])

/-- The primary loses its secondary (Table SEAM-6): the regions of unconfirmed items are marked, and so are those in copy. -/
def State.toLost (s : State) : State :=
  let open_ := s.twin.unconf.filterMap (fun i => i.what.range)
  let copying := s.twin.inCopy.map (fun c => (c.pocket, c.region))
  let s1 := s.showTwin 3
  let tw : Twin := { s1.twin with
    unconf := [], darn := [], inCopy := [], missed := [], refused := none, unpairSeq := none,
    marked := s1.twin.marked ++ copying.filter (fun c => !s1.twin.marked.contains c) }
  let s2 := open_.foldl (fun t r => t.markRange r.1 r.2.1 r.2.2) { s1 with twin := tw, execs := s1.execs.map Exec.apart }
  let s3 := (s2.notify "twin lost" [("slot", slotId s2.partner)]).settle
  if s.twin.unpairSeq.isSome then s3.unpaired else s3

/-- HOLD before an action the secondary must not take for a failure (R882). -/
def State.sendHold (s : State) (ms : Nat) : State := s.mirror (.hold (max 1 (min 5000 ms)))

/-- The partner falls silent (Table SEAM-6). -/
def State.partnerSilent (s : State) : State :=
  if s.mirrors then s.toLost
  else if s.twinState = 4 ∨ s.twinState = 5 then
    let tw : Twin := { s.twin with fromStandby := decide (s.twinState = 5), half := none }
    ({ s with twin := tw }).showTwin 6
  else s

/-- The secondary reports to its primary (Table SEAM-4, R881); its next item is the one after the highest durable. -/
def State.sendPair (s : State) : State :=
  let c := s.secondaryConf
  let tw : Twin := { s.twin with rxNext := c, acked := c, through := [], half := none }
  ({ s with twin := tw }).twinReply (.pair (c - 1) s.twin.clean s.twin.served s.twin.fresh)

/-- The card becomes the secondary of a partner that serves (R902). -/
def State.becomeSecondary (s : State) : State :=
  match s.twin.pairing with
  | none => s
  | some g =>
    let tw : Twin := { s.twin with
      pairing := some { g with primary := false }, rxNext := 0, acked := 0, through := [], half := none, unconf := [],
      marked := [], inCopy := [], copies := [], darn := [], clean := true, served := false, fresh := true, fromStandby := false }
    ({ s with twin := tw }).confRecord.showTwin 4

/-- A BEAT of the partner (Table SEAM-6): `tstate` is its byte 3. -/
def State.partnerBeat (s : State) (tstate : Nat) : State :=
  if s.twinState = 6 ∧ (tstate = 1 ∨ tstate = 2 ∨ tstate = 3) then s.sendPair.showTwin 4
  else if s.twinState = 3 ∧ tstate = 7 then s.becomeSecondary.markAll.sendPair
  else s

/-- Takeover (R879, R880): the secondary becomes primary, every region marked; items after the last confirmed one are gone. -/
def State.takeover (s : State) : State :=
  match s.twin.pairing with
  | none => s
  | some g =>
    let tw : Twin := { s.twin with
      pairing := some { g with primary := true }, half := none, through := [], txNext := 0, sentTo := 0, confirmed := 0,
      unconf := [], served := true, fromStandby := false }
    (({ s with twin := tw }).confRecord.markAll.showTwin 7).notify "twin takeover" [("from", slotId g.slot)]

/-- The roster that shows the primary gone: that of a token whose pass began after its last BEAT (R879). -/
def State.rosterLacks (s : State) : Bool :=
  let last := match s.beatOf s.partner with | some b => b.us | none => 0
  if s.get SEAM_MANTLE.STATE = 4 then
    (match s.seam.passSince with | some t => decide (last < t) | none => false) && !s.seam.lastPass.testBit s.partner
  else
    (match s.seam.passSince with | some t => decide (last < t) | none => false) &&
    !(s.get SEAM_ROSTER.MASK).testBit s.partner

/-- The primary has been silent for 30 ms. -/
def State.primarySilent (s : State) (us : Nat) : Bool :=
  match s.beatOf s.partner with | some b => decide (b.us + 30000 ≤ us) | none => true

/-! ### The primary's side -/

/-- The bitmap is empty and no copy is unconfirmed: darning ends (Table SEAM-6). -/
def State.darnEnds (s : State) : State :=
  if s.twinState = 1 ∧ s.twin.marked = [] ∧ s.twin.inCopy = [] ∧ s.twin.darn = [] then
    let ms := roundDiv (s.clk - s.twin.darnStart) 100
    let s1 := (s.mirrorLine "twin darned").showTwin 2
    let s2 := s1.notify "twin darned"
      [("regions", dec s.twin.darnRegions), ("recopied", dec s.twin.recopied), ("ms", decPlaces 1 ms)]
    { s2 with twin := { s2.twin with copies := [] } }
  else s

/-- Times a region has been copied without success. -/
def Twin.tries (t : Twin) (p r : Nat) : Nat := ((t.copies.find? (fun k => k.1 == p && k.2.1 == r)).map (fun k => k.2.2)).getD 0

/-- A region's REGION_END is confirmed (R884): with a version other than 0 it is marked again. -/
def State.regionDone (s : State) (p r : Nat) : State :=
  match s.twin.inCopy.find? (fun c => c.pocket == p && c.region == r) with
  | none => s
  | some c =>
    let t := s.twin
    let t1 : Twin := { t with inCopy := t.inCopy.filter (fun x => !(x.pocket == p && x.region == r)) }
    let others := t.copies.filter (fun k => !(k.1 == p && k.2.1 == r))
    if c.version = 0 then
      { s with twin := { t1 with darnRegions := t.darnRegions + 1, copies := others } }
    else
      let t2 : Twin := { t1 with
        recopied := t.recopied + 1, marked := t.marked ++ [(p, r)], copies := others ++ [(p, r, t.tries p r + 1)] }
      ({ s with twin := t2 }).count SEAM_DARNCNT.RECOPY 1

/-- An item is confirmed: its bytes are metered, its region is done (R874, R884, R906). -/
def State.itemConfirmed (s : State) (i : TwinItem) : State :=
  match i.what with
  | .data _ _ p _ _ _ _ _ _ _ => s.meter p 7 2048
  | .regionEnd r p => s.regionDone p r
  | _ => s

/-- An ACK of the secondary (R873, R874). -/
def State.twinAcked (s : State) (n : Nat) : State :=
  let done := s.twin.unconf.filter (fun i => decide (i.tseq ≤ n))
  let tw : Twin := { s.twin with
    unconf := s.twin.unconf.filter (fun i => decide (n < i.tseq)), confirmed := max s.twin.confirmed (n + 1), refused := none }
  let s1 := (((done.foldl State.itemConfirmed { s with twin := tw }).darnEnds).settle).swapGo
  match s1.twin.unpairSeq with
  | some k => if k ≤ n then s1.unpaired else s1
  | none => s1

/-- The primary goes back to its first unconfirmed item (R876). -/
def State.twinBack (s : State) : State :=
  match s.twin.unconf with
  | [] => s
  | i :: _ => ({ s with twin := { s.twin with sentTo := min i.tseq s.twin.sentTo } }).twinGo

/-- The regions of a Pocket below another, in the order of R884. -/
def lowestRegion (m : List (Nat × Nat)) : Option (Nat × Nat) := leastBy (fun x => x.1 * 2 ^ 40 + x.2) m

/-- The ciphertext and check value of a block as the primary holds it, from the cache or from flash (R884); a prefetch line serves READs
alone (R388). -/
def State.blockHeld (s : State) (p lba : Nat) : Option (Bytes × Option Check × Bool) :=
  match (s.cached p lba).filter (fun e => e.kind != .prefetch) with
  | some e => some (e.data, e.check, e.poison)
  | none =>
    let m := s.entry p (lba / 4)
    if (entryValid m).testBit (lba % 4) then
      match s.codeword (entryPpa m) (lba % 4) with
      | some w => some (cwData w, cwCheck w, cwFormat w == 7)
      | none => some ([], none, true)
    else none

/-- Can a block be had now: from the cache, from a quad and pool that serve reads, or as a block that is not mapped (R472, R884)? -/
def State.blockReadable (s : State) (p lba : Nat) : Bool :=
  let e := s.entry p (lba / 4)
  (s.cached p lba).any (fun c => c.kind != .prefetch) || !(entryValid e).testBit (lba % 4) || s.flashReadable (ppaCh (entryPpa e))

/-- The check a DARN item carries (R886): the block's tag, verified under the Pocket's twin integrity slot. -/
def State.darnCheck (s : State) (p lba : Nat) (data : Bytes) (check : Option Check) : Option (Nat × Check) :=
  match check, (s.pockets.lookup p).bind (fun k => k.integSlot) with
  | some c, some slot =>
    match s.latch slot with
    | some key => if blockTag key (s.get SYS_SERIAL.SERIAL) c.count p lba data = padTo 16 c.tag then some (slot, c) else none
    | none => none
  | _, _ => none

/-- What the card reads for a copy (R884): a block in flash goes through the ladder and the rebuild as any other (R498, R501, R505, R506). `tries` are the
bits that each of its reads reads wrong; `unc` says that another page of its row is uncorrectable too. -/
def State.darnRead (s : State) (p lba : Nat) (tries : List (List Nat)) (unc : Bool) : State × Option Bytes :=
  let ppa := entryPpa (s.entry p (lba / 4))
  let j := lba % 4
  match s.readTries ppa j tries 0 (1 + s.ladderSteps ppa), s.boltAt ppa with
  | (s1, some w), _ => (s1, some w)
  | (s1, none), none => (s1.loseBlock ppa j, none)
  | (s1, none), some b =>
    let (s2, row) := s1.readRow ppa [] (s1.rowOthers b ppa)
    let w := (s2.rebuilt b ppa (row.getD [])).getD j []
    if unc || !s1.rowClosed ppa || row.isNone || !s2.fits ppa j w then (s1.loseBlock ppa j, none)
    else ((s2.count ECC_FRETRY.REBUILD_OK 1).refreshPage ppa, some w)

/-- A block as the copy takes it: from the cache, else from flash; a lost one is poison (R506, R884). -/
def State.darnHeld (s : State) (p lba : Nat) (tries : List (List Nat)) (unc : Bool) : State × Option (Bytes × Option Check × Bool) :=
  let e := s.entry p (lba / 4)
  if ((s.cached p lba).any (fun c => c.kind != .prefetch)) || !(entryValid e).testBit (lba % 4) || (s.lostBlocks p (lba / 4)).contains (lba % 4) then
    (s, (s.blockHeld p lba).map (fun h => (h.1, h.2.1, h.2.2 || ((s.lostBlocks p (lba / 4)).contains (lba % 4) && !(s.cached p lba).any (fun c => c.kind != .prefetch)))))
  else
    match s.darnRead p lba tries unc with
    | (s1, some w) => (s1, some (cwData w, cwCheck w, cwFormat w == 7))
    | (s1, none) => (s1, some ([], none, true))

/-- The items of one block of a region, and whether R886 counts it. -/
def State.darnBlock (s : State) (p lba : Nat) (held : Option (Bytes × Option Check × Bool)) : List TwinWhat × Bool :=
  match held with
  | none => ([.unmap lba p 1], false)
  | some (data, check, poison) =>
    if poison then
      ([.data true lba p 0 false true 0 0 [] [], .data true lba p 1 false true 0 0 [] []], false)
    else
      let part (h : Nat) : Bytes := (data.drop (2048 * h)).take 2048
      match s.darnCheck p lba data check with
      | some (slot, c) =>
        ([.data true lba p 0 true false slot c.count c.tag (part 0), .data true lba p 1 true false slot c.count c.tag (part 1)],
          false)
      | none =>
        ([.data true lba p 0 false false 0 0 [] (part 0), .data true lba p 1 false false 0 0 [] (part 1)], check.isSome)

/-- Adjoining unmapped blocks make one UNMAP item (R884). -/
def joinRuns : List TwinWhat → List TwinWhat
  | [] => []
  | w :: r =>
    match w, joinRuns r with
    | .unmap lba p n, .unmap lba2 p2 n2 :: r2 => if lba + n = lba2 ∧ p = p2 then .unmap lba p (n + n2) :: r2 else w :: .unmap lba2 p2 n2 :: r2
    | _, r2 => w :: r2

/-- The blocks of a region, each read in its turn. -/
def State.darnBlocks (s : State) (p : Nat) (reads : List (Nat × List (List Nat))) (unc : List Nat) : List Nat → State × List (List TwinWhat × Bool)
  | [] => (s, [])
  | l :: r =>
    let (s1, h) := s.darnHeld p l ((reads.lookup l).getD []) (unc.contains l)
    let (s2, bs) := s1.darnBlocks p reads unc r
    (s2, s1.darnBlock p l h :: bs)

/-- The segments of a range of blocks (R453). -/
def State.segsOf (s : State) (p lba n : Nat) : List Nat :=
  (List.range ((lba + n - 1) / segBlocks - lba / segBlocks + 1)).map (fun i => s.segOf p (lba / 4) + i)

/-- The blocks of a region that its Pocket has (R883). -/
def State.regionBlocks (s : State) (p r : Nat) : List Nat :=
  let size := match s.pockets.lookup p with | some k => 4 * k.size | none => 0
  ((List.range 256).map (fun k => 256 * r + k)).filter (fun l => decide (l < size))

/-- A region is copied (R884, R886): `reads` gives, by block, the bits that each try of its read from flash reads wrong, `unc` the blocks whose rebuild
another uncorrectable page fails. -/
def State.darnRegion (s0 : State) (p r : Nat) (reads : List (Nat × List (List Nat))) (unc : List Nat) : State :=
  let (s, bs) := s0.darnBlocks p reads unc (s0.regionBlocks p r)
  let items := joinRuns ((bs.map (·.1)).flatten) ++ [.regionEnd r p]
  let copy : RegionCopy := { pocket := p, region := r, version := 0 }
  let tw : Twin := { s.twin with
    marked := s.twin.marked.filter (fun x => x ≠ (p, r)), inCopy := s.twin.inCopy ++ [copy], darn := s.twin.darn ++ items }
  let noTag : Nat := (bs.filter (fun (b : List TwinWhat × Bool) => b.2)).length
  (({ s with twin := tw }).count SEAM_DARNCNT.NOTAG noTag).twinGo

/-! ### The secondary's side -/

/-- The secondary accepts only the item whose TSEQ is next (R876), and none while a line item is being executed (R873). -/
def State.takesItem (s : State) (tseq : Nat) : Bool :=
  (s.twinState == 4 || s.twinState == 5) && s.twin.rxNext == tseq && s.twin.lineAwait.isNone

/-- The keys of the reply of the `twin pair` that completes a pairing (R1079). -/
def Pairing.kv (g : Pairing) : List KV :=
  [("role", if g.primary then "primary" else "secondary"), ("partner", slotId g.slot), ("key", keySlotId (512 + g.wk))]

/-- The primary has sent an item: the `twin pair` that completed the pairing is answered (R868, R1079). -/
def State.pairAnswered (s : State) : State :=
  match s.twin.pairing with
  | some g => s.finishFor .pairing (fun t => .ok t [] g.kv)
  | none => s

/-- An item has been applied (R873). -/
def State.itemApplied (s : State) : State :=
  ({ s with twin := { s.twin with rxNext := s.twin.rxNext + 1, itemDone := 0, fresh := false } }).pairAnswered.twinAck

/-- An item of the secondary's turn has come in at its port (R911); the lines, HOLDs and ends of regions are for no Pocket. -/
def State.itemHeard (s : State) (p : Nat) : State := s.cross p 2048

/-- The secondary refuses an item (R875); the half of a block before it stays, for the item is sent once more. -/
def State.itemRefused (s : State) (tseq : Nat) : State := s.twinReply (.nak tseq)

/-- A mirrored block enters the secondary's cache under its own admission (R872, R873). -/
def State.storeMirrored (s : State) (tseq p lba : Nat) (poison : Bool) (data : Bytes) (check : Option Check) : State :=
  let through := !s.admits p 4096
  let id := s.execNext
  let s1 := ({ s with execNext := id + 1 }).writeBlock p lba through data check id
  let mark (e : CacheEntry) : CacheEntry := if e.pocket = p ∧ e.lba = lba ∧ e.old = false then { e with poison := poison } else e
  let s2 := s1.setEntries (s1.cache.entries.map mark)
  let thr := if through then s2.twin.through ++ [(tseq, (p, lba))] else s2.twin.through
  ({ s2 with twin := { s2.twin with through := thr } }).flushMode

/-- DATA and DARN (R872, R873, R875, R909): a block for which the cache has no place is not taken yet (assumption log entry 216); the first half waits for the second; a whole INTEG block is verified under IKEY with the
primary's serial and tagged again with the secondary's own serial and counter. -/
def State.applyData (s : State) (tseq lba p half : Nat) (integ poison : Bool) (ikey count : Nat) (tag bytes : Bytes) : State :=
  if !s.takesItem tseq then s
  else if (s.pockets.lookup p).isNone then (s.itemHeard p).itemRefused tseq
  else if half = 1 ∧ s.blockRoom p lba (!s.admits p 4096) = false then s.itemHeard p
  else
    let s0 := (s.meter p 7 2048).itemHeard p
    if half = 0 then ({ s0 with twin := { s0.twin with half := some (padTo 2048 bytes) } }).itemApplied
    else
      let data := (s0.twin.half.getD (List.replicate 2048 0)) ++ padTo 2048 bytes
      let s1 := { s0 with twin := { s0.twin with half := none } }
      if poison || !integ then (s1.storeMirrored tseq p lba poison data none).itemApplied
      else
        let serial := match s.twin.pairing with | some g => g.serial | none => 0
        match s.latch ikey with
        | none => (s.itemHeard p).itemRefused tseq
        | some key =>
          if blockTag key serial count p lba data ≠ padTo 16 tag then (s.itemHeard p).itemRefused tseq
          else
            let n := s1.keys.nonce
            let own : Check := { tag := blockTag key (s.get SYS_SERIAL.SERIAL) n p lba data, count := n }
            (({ s1 with keys := { s1.keys with nonce := n + 1 } }).storeMirrored tseq p lba false data (some own)).itemApplied

/-- A range is unmapped segment by segment from block `k` on, as far as the segments are held and the DIRTY cap allows, with the blocks then done;
the segment that is missing is asked for (R456, R457). -/
def State.unmapFrom (s : State) (p lba n k : Nat) : Nat → State × Nat
  | 0 => (s, k)
  | fuel + 1 =>
    if n ≤ k then (s, k)
    else
      let lo := lba + k
      let hi := min (lba + n) ((lo / segBlocks + 1) * segBlocks)
      if s.mayUnmap p lo (hi - lo) then (s.unmapBlocks p lo (hi - lo)).unmapFrom p lba n (hi - lba) fuel
      else (s.needSeg (s.segOf p (lo / 4)), k)

/-- TRIM and UNMAP (R873). One whose segments are not all held yet is not taken: the primary's repeat brings it again (R876; DESIGN CHOICE,
assumption log entry 216). -/
def State.applyUnmap (s : State) (tseq lba p n : Nat) : State :=
  if !s.takesItem tseq then s
  else if (s.pockets.lookup p).isNone then (s.itemHeard p).itemRefused tseq
  else
    let (s1, k) := ((s.itemHeard p).dropPrefetch p lba n).unmapFrom p lba n s.twin.itemDone (n / segBlocks + 2)
    if k < n then { s1 with twin := { s1.twin with itemDone := k } } else (s1.trimRecord p lba n).itemApplied

/-- One block of a mirrored COPY (R598, R610, R873): decrypted at its source, encrypted at its destination, tagged with the
secondary's own serial and counter; `none` when it cannot be executed. -/
def State.copyMirrored (s : State) (tseq p src dst : Nat) (integ : Bool) (dkey ikey : Nat) : Option State :=
  match s.blockHeld p src, s.latch dkey with
  | none, _ => some (s.trimRange p dst 1)
  | some _, none => none
  | some (data, check, poison), some key =>
    let unit512 := match s.pockets.lookup p with | some k => k.unit512 | none => false
    if poison then some (s.storeMirrored tseq p dst true data none)
    else
      let out := xtsBlock false unit512 key dst (xtsBlock true unit512 key src data)
      if !integ then some (s.storeMirrored tseq p dst false out none)
      else
        match s.latch ikey, check with
        | some ik, some c =>
          let serial := s.get SYS_SERIAL.SERIAL
          if blockTag ik serial c.count p src data ≠ padTo 16 c.tag then none
          else
            let n := s.keys.nonce
            let own : Check := { tag := blockTag ik serial n p dst out, count := n }
            some (({ s with keys := { s.keys with nonce := n + 1 } }).storeMirrored tseq p dst false out (some own))
        | _, _ => none

def State.copyAll (s : State) (tseq p src dst : Nat) (integ : Bool) (dkey ikey : Nat) : Nat → Option State
  | 0 => some s
  | n + 1 =>
    match s.copyAll tseq p src dst integ dkey ikey n with
    | none => none
    | some t => t.copyMirrored tseq p (src + n) (dst + n) integ dkey ikey

/-- Can a mirrored COPY be made now: the segments of both its ranges are held, its source can be read, the cap allows changes of its destination's, and
the cache has the places it needs (R393, R456, R457, R472)? -/
def State.copyReady (s : State) (p src n dst : Nat) : Bool :=
  let new := (s.segsOf p dst n).filter (fun e => !(match s.seg e with | some g => g.dirty | none => false))
  (s.segsOf p src n ++ s.segsOf p dst n).all (fun e => !s.segAbsent e) && decide (s.dirtySegs + new.length ≤ s.dirtyRoom) &&
  (List.range n).all (fun k => s.blockReadable p (src + k)) && decide (s.cache.entries.length + n ≤ s.cacheRoom + (s.cache.entries.filter (fun e => e.kind == .prefetch || e.kind == .clean)).length)

/-- COPY (R873, R875). One that cannot be made yet is not taken: the primary's repeat brings it again (R876; DESIGN CHOICE, assumption log entry
216). -/
def State.applyCopy (s : State) (tseq src p n dst : Nat) (integ : Bool) (dkey ikey : Nat) : State :=
  if !s.takesItem tseq then s
  else if !s.copyReady p src n dst then (s.segsOf p src n ++ s.segsOf p dst n).foldl State.needSeg (s.itemHeard p)
  else match ((s.itemHeard p).dropPrefetch p dst n).copyAll tseq p src dst integ dkey ikey n with
    | some t => t.itemApplied
    | none => (s.itemHeard p).itemRefused tseq

end Sys2Proof.Machine
end

