-- ==== Sys2Proof/Machine/DomainOps.lean ====
section
/-!
DEFINITION. Sys2Proof/Machine/DomainOps.lean: domains under change: what a fence does to a unit's work, drains, resets, CHECK and
rejoin (chapter 14).
-/
namespace Sys2Proof.Machine
open Sys2Proof

/-! ### What work a domain holds -/

/-- Does a channel belong to a quad's or a pool's domain? -/
def unitCh (d ch : Nat) : Bool := quadDomain ch == d || poolDomain ch == d

/-- Is a bulk core one of a pair's? -/
def pairCore (d n : Nat) : Bool := coreDomain n == d

/-- The page that a block's codeword is read from, while it is being read or recovered. -/
def Codec.reading : Codec → Option Nat
  | .media ppa _ => some ppa
  | .recover ppa _ => some ppa
  | _ => none

/-- Does a command have a block on a channel of the unit? -/
def Exec.onUnit (x : Exec) (d : Nat) : Bool :=
  x.blks.any (fun b => match b.codec.reading with | some a => unitCh d (ppaCh a) | none => false)

/-- Does a command have a block in a core of the pair? -/
def Exec.inPair (x : Exec) (d : Nat) : Bool :=
  x.blks.any (fun b => match b.pass with | .core _ n => pairCore d n | .stale n => pairCore d n | _ => false)

/-- Does a command have a block whose GMAC is due? -/
def Exec.atMac (x : Exec) : Bool := x.blks.any (fun b => match b.codec with | .mac _ => true | _ => false)

/-- A domain is not drained while a command in execution or a transfer needs it (R772). -/
def State.busyIn (s : State) (d : Nat) : Bool :=
  if (1 ≤ d ∧ d ≤ 16) ∨ (45 ≤ d ∧ d ≤ 48) then
    s.execs.any (fun x => x.onUnit d) || s.flash.progs.any (fun g => unitCh d (ppaCh g.ppa)) ||
    s.flash.recov.any (fun r => unitCh d (ppaCh r.ppa)) || s.flash.reads.any (fun a => unitCh d (ppaCh a))
  else if 17 ≤ d ∧ d ≤ 26 then
    (s.slv.phase == .data && s.domIn d && (!s.slv.unacked.isEmpty || !s.slv.newItems.isEmpty || !s.slv.posted.isEmpty))
  else if 33 ≤ d ∧ d ≤ 36 then s.keys.coreBusy.any (fun n => pairCore d n)
  else if d = 37 then s.keys.update.isSome
  else if d = 38 then s.execs.any (fun x => x.atMac)
  else if 39 ≤ d ∧ d ≤ 42 then s.execs.any (fun x => queueDomain x.queue == d)
  else if d = 44 then !s.flash.progs.isEmpty || s.flash.ckptRuns.isSome
  else false

/-! ### What a fence does to a unit's work -/

/-- How a domain leaves: drained, at the end of an abort-mode window, or by a reset. -/
inductive Leave where
  | drained | abort | reset
  deriving DecidableEq, Repr

/-- A command's transfer ends with the fence (R767, R774, R777). -/
def State.endTransfer (s : State) (x : Exec) (how : Leave) : State :=
  match how with
  | .reset => s.abortExec x .domainReset
  | _ => (s.abortExec x .pwrAborted).count PWR_ABORT.ENDED 1

/-- The commands that a test selects have their transfers ended. -/
def State.endTransfers (s : State) (sel : Exec → Bool) (how : Leave) : State :=
  (s.execs.filter sel).foldl (fun t x => t.endTransfer x how) s

/-- A quad or pool leaves: no other unit serves its channels, so no read can be reissued (R473, R774, R783). -/
def State.loseFlash (s : State) (d : Nat) (how : Leave) : State :=
  let s1 := s.endTransfers (fun x => x.onUnit d) how
  let s2 := { s1 with flash := { s1.flash with
    recov := s1.flash.recov.filter (fun r => !unitCh d (ppaCh r.ppa)),
    reads := s1.flash.reads.filter (fun a => !unitCh d (ppaCh a)) } }
  let quads := (List.range 16).filter (fun q => unitCh d (4 * q))
  let s3 := if s.domIn d then quads.foldl (fun t q => t.closeBoltsOf q) s2 else s2
  if d ≤ 16 ∧ s.domIn d = true then s3.notify "flash quad off" [("quad", "FQ" ++ dec (d - 1))] else s3

/-- A block whose pass is cut short is to be passed again (R774). -/
def Blk.redo (b : Blk) (d : Nat) : Blk :=
  match b.pass with
  | .core enc n => if pairCore d n then { b with pass := .wait enc } else b
  | .stale n => if pairCore d n then { b with pass := .none } else b
  | _ => b

/-- A cipher pair leaves: at an abort its passes are reissued once, ahead of new work, on a pair that is IN, or else their commands
end (R774). -/
def State.losePair (s : State) (d : Nat) (how : Leave) : State :=
  let hit := s.execs.filter (fun x => x.inPair d)
  let s1 := { s with keys := { s.keys with coreBusy := s.keys.coreBusy.filter (fun n => !pairCore d n) } }
  let other := [33, 34, 35, 36].any (fun k => k != d && s.domIn k)
  if how = .reset ∨ other = false then hit.foldl (fun t x => t.endTransfer x how) s1
  else
    hit.foldl (fun t x =>
      let mine (b : Blk) : Bool := match b.pass with | .core _ n => pairCore d n | _ => false
      let is := (List.range x.blks.length).filter (fun i => match x.blks[i]? with | some b => mine b | none => false)
      let t1 := t.setExec { x with blks := x.blks.map (fun b => b.redo d) }
      let t2 := { t1 with keys := { t1.keys with redo := t1.keys.redo ++ is.map (fun i => (x.id, i)) } }
      (t2.advanceAll x.id x.blks.length).count PWR_ABORT.REISSUED is.length) s1

/-- A queue quarter leaves (R362): its commands in execution end, its rings are empty; what waited completes with DOMAIN_OFF, or
with DOMAIN_RESET at a reset (assumption log entry 32). -/
def State.loseQuarter (s : State) (d : Nat) (how : Leave) : State :=
  let s1 := s.endTransfers (fun x => queueDomain x.queue == d) how
  let st : Status := if how = .reset then .domainReset else .domainOff
  (s1.queues.filter (fun q => queueDomain q.1 == d)).foldl (fun t qk =>
    let u := qk.2.waiting.foldl (fun u c => u.postWaiting qk.1 c st) t
    u.setQueue qk.1 { qk.2 with waiting := [], doneTags := [] }) s1

/-- The work of a unit that leaves. -/
def State.loseWork (s : State) (d : Nat) (how : Leave) : State :=
  if (1 ≤ d ∧ d ≤ 16) ∨ (45 ≤ d ∧ d ≤ 48) then s.loseFlash d how
  else if d = 26 then s.sleeveReset
  else if 33 ≤ d ∧ d ≤ 36 then s.losePair d how
  else if d = 38 then s.endTransfers (fun x => x.atMac) how
  else if 39 ≤ d ∧ d ≤ 42 then s.loseQuarter d how
  else s

/-- A domain's registers return to their reset words (R23), and its SRAM is filled with zero data (R509). -/
def State.clearDomain (s : State) (d : Nat) : State :=
  { s with
    regs := s.regs.clear (fun x => x == d) (fun _ => false),
    access := { s.access with
      sram := s.access.sram.filter (fun c => sramDomain c.1 != some d), sramFlips := s.access.sramFlips.filter (fun c => sramDomain c.1 != some d) } }

/-- A domain is fenced, its work ends, and it stands OFF or FENCED (`st`) (R758, R762, R767, R777). -/
def State.takeOut (s : State) (d st : Nat) (how : Leave) : State :=
  let s1 :=
    if 17 ≤ d ∧ d ≤ 25 then (if s.dom d = 0 ∨ s.dom d = 4 then s.fence d else s.laneOut (d - 17) false)
    else ((s.loseWork d how).fence d).clearDomain d
  (s1.setDom d st).seamCheck.settle

/-! ### Who asked, and the answer -/

/-- The operation that someone asked for ends with a status (R794, R1050, R1051): a line is answered, or its job ends. -/
def State.opEnds (s : State) (w : AwaitFor) (who : OpBy) (st : Option Status) (kv : List KV) : State :=
  match who with
  | .line => s.finishFor w (fun t => match st with | none => .ok t [] kv | some e => .er t e)
  | .dreq =>
    ((s.set PWR_DREQ.START 0).set PWR_DRES.BUSY 0).set PWR_DRES.STATUS (match st with | none => 0 | some e => e.code)
  | _ => s

/-- Is a change asked for by a command: a line or PWR_DREQ? -/
def OpBy.command : OpBy → Bool
  | .line => true
  | .dreq => true
  | _ => false

/-- Domains under change forget what was begun. -/
def State.dropChange (s : State) (d : Nat) : State :=
  let p := s.pwr
  { s with pwr := { p with
      drains := p.drains.filter (fun x => x.dom ≠ d), ramps := p.ramps.filter (fun x => x.1 ≠ d),
      holds := p.holds.filter (fun x => x.1 ≠ d), checks := p.checks.filter (fun x => x.1 ≠ d) } }

/-- The answer of `domain on` or `reset domain` once the CHECK has ended. -/
def State.checkReply (s : State) (d : Nat) (who : OpBy) (st : Option Status) : State :=
  let kv := [("state", if s.domIn d then "in" else "shadow")]
  if s.owes (.domainReset d) then s.opEnds (.domainReset d) who st kv else s.opEnds (.domainOn d) who st kv

/-- What commands have asked for of a domain ends as another event takes the domain over: a switch-off with `off`, a switch-on or a reset with
`st` (DESIGN CHOICE, assumption log entry 187). -/
def State.cutOps (s : State) (d : Nat) (off : Option Status) (st : Status) : State :=
  let s1 := (s.pwr.drains.filter (fun x => x.dom == d)).foldl (fun t x => t.opEnds (.domainOff d) x.who off []) s
  let s2 := (s.pwr.ramps.filter (fun x => x.1 == d)).foldl (fun t x => t.opEnds (.domainOn d) x.2 (some st) []) s1
  ((s.pwr.holds ++ s.pwr.checks).filter (fun x => x.1 == d)).foldl (fun t x => t.checkReply d x.2 (some st)) s2

/-- A switch-off is complete (R776): the domain is OFF, and marked when a command did it. -/
def State.offDone (s : State) (d : Nat) (who : OpBy) : State :=
  let s1 := if who.command then
      let p := s.pwr
      ({ s with pwr := { p with own := p.own.filter (fun k => k ≠ d) } }).set (PWR_DSTAT.CMD_OFF d) 1
    else s
  (s1.cutOps d none .domainOff).dropChange d

/-- A drained domain, or one whose window ended in abort mode, is fenced and switched off (R773). -/
def State.offAfterDrain (s : State) (r : Drain) (how : Leave) : State := (s.takeOut r.dom 0 how).offDone r.dom r.who

/-- A drain of a domain begins (R772). -/
def State.startDrain (s : State) (d : Nat) (abort : Bool) (endUs : Nat) (who : OpBy) : State :=
  let r : Drain := { dom := d, abort := abort, endUs := endUs, who := who }
  ({ s with pwr := { s.pwr with drains := s.pwr.drains ++ [r] } }).set (PWR_DSTAT.DRAINING d) 1

/-- The domains that a command's own path needs (R788): D17 and D26 for MGT, the port a line came in on for a Seam path. -/
def State.pathNeeds (s : State) (p : Path) (d : Nat) : Bool :=
  match p with
  | .collar => false
  | .mgt => d == 17 || d == 26
  | .seam n => d == portDomain ((s.seam.linePort.lookup n).getD 1)

/-- `domain off` and PWR_DREQ (R256, R754, R772, R776, R787, R788): a refusal, or the switch-off has begun or is complete. -/
def State.domainOff (s : State) (d : Nat) (abort : Bool) (window : Nat) (path : Option Path) (who : OpBy) : State × Option Result :=
  if !s.flag (PWR_DSTAT.OFFABLE d) then (s, some (.fail .wrongState))
  else if (match path with | some p => s.pathNeeds p d | none => false) then (s, some (.fail .wrongState))
  else if s.dom d = 0 then
    let s1 := ((s.cutOps d none .domainOff).dropChange d).set (PWR_DSTAT.CMD_OFF d) 1
    let stopped := s.slv.stopWas.contains d && s.linkUp
    (if d = 17 ∧ stopped = true then s1.linkDown else if d = 26 ∧ stopped = true then s1.sleeveReset else s1, some (.ok [] []))
  else if s.dom d = 1 ∨ s.dom d = 4 then
    let s1 := ((s.takeOut d 0 .drained).cutOps d none .domainOff).dropChange d
    (s1.set (PWR_DSTAT.CMD_OFF d) 1, some (.ok [] []))
  else (s.startDrain d abort (s.clk + window) who, none)

/-- A switch-on begins (R779). -/
def State.switchOn (s : State) (d : Nat) (who : OpBy) : State :=
  let s1 := s.dropChange d
  { s1 with pwr := { s1.pwr with ramps := s1.pwr.ramps ++ [(d, who)] } }

/-- `domain on` and PWR_DREQ (R776, R782, R787). One for a domain that another command is switching on finds it as in CHECK (DESIGN CHOICE,
assumption log entry 187). -/
def State.domainOn (s : State) (d : Nat) (who : OpBy) : State × Option Result :=
  if s.dom d ≠ 0 ∨ s.pwr.ramps.any (fun r => r.1 == d && r.2.command) = true then (s, some (.ok [] [("state", if s.domIn d then "in" else "shadow")]))
  else if !s.flag (PWR_DSTAT.OFFABLE d) then (s, some (.fail .wrongState))
  else
    let s1 := { s with slv := { s.slv with
      stopWas := s.slv.stopWas.filter (fun k => k ≠ d), ownLanes := s.slv.ownLanes.filter (fun k => laneDomain k ≠ d) } }
    let s2 := { s1 with
      pwr := { s1.pwr with own := s1.pwr.own.filter (fun k => k ≠ d) },
      flash := { s1.flash with ownQuads := s1.flash.ownQuads.filter (fun q => q + 1 ≠ d) } }
    ((s2.set (PWR_DSTAT.CMD_OFF d) 0).switchOn d who, none)

/-- Who waits for the domain's change under way; a reset by the card itself leaves it waiting. -/
def State.changeWho (s : State) (d : Nat) (who : OpBy) : OpBy :=
  match who, (s.pwr.ramps ++ s.pwr.holds ++ s.pwr.checks).lookup d with
  | .card, some w => w
  | _, _ => who

/-- A domain reset (R777): the fence comes at once. A `domain off` that drained the domain completes as soon as it is OFF (R786);
a power-state entry that drained it goes on with it drained. -/
def State.resetDomain (s : State) (d : Nat) (who : OpBy) : State :=
  match s.pwr.drains.find? (fun r => r.dom == d) with
  | some r =>
    match r.who with
    | .entry =>
      let s1 := (s.takeOut d 4 .reset).dropChange d
      { s1 with pwr := { s1.pwr with holds := s1.pwr.holds ++ [(d, who)] } }
    | _ => (s.takeOut d 0 .reset).offDone d r.who
  | none =>
    let s0 := s.takeOut d 4 .reset
    let s1 := (if who.command then s0.cutOps d none .domainReset else s0).dropChange d
    { s1 with pwr := { s1.pwr with holds := s1.pwr.holds ++ [(d, s.changeWho d who)] } }

/-- `reset domain` and PWR_DREQ (R754, R786 to R788). The reset of a domain that drains for a `domain off` leaves it OFF, which the reset answers
(DESIGN CHOICE, assumption log entry 187). -/
def State.domainReset (s : State) (d : Nat) (path : Option Path) (who : OpBy) : State × Option Result :=
  if !s.flag (PWR_DSTAT.RESETTABLE d) then (s, some (.fail .wrongState))
  else if (match path with | some p => s.pathNeeds p d | none => false) then (s, some (.fail .wrongState))
  else if s.dom d = 0 then (s, some (.fail .domainOff))
  else if s.pwr.drains.any (fun r => r.dom == d && r.who.command) then (s.resetDomain d .card, some (.fail .domainOff))
  else (s.resetDomain d who, none)

/-! ### CHECK and rejoin -/

/-- The first byte of the SRAM that a domain's cores and staging path address (Tables MAP-1, BOOT-5). -/
def sramBase (d : Nat) : Option Nat := if d = 49 then some 0x10000000 else if d = 50 then some 0x11000000 else if d = 43 then some 0x20000000 else none

/-- A byte of a domain's SRAM is written: an injection armed for the domain flips its lowest stored bits, where it may (R528, R529). Of the arrays of other
domains no address is given: what a flipped bit there does comes with SRAM_UNCORRECTABLE (DESIGN CHOICE, assumption log entry 218). -/
def State.sramWrite (s : State) (d : Nat) (a : Option Nat) : State :=
  if s.flag ECC_INJ.ARM = true ∧ s.get ECC_INJ.TARGET = 0 ∧ s.injDomain = d then
    let n := min 13 s.injFlips
    let s1 := s.set ECC_INJ.ARM 0
    match a with
    | some b => if n = 0 then s1 else { s1 with access := { s1.access with sramFlips := putSorted b n s1.access.sramFlips } }
    | none => s1
  else s

/-- A domain enters CHECK (R779). Its SRAM has just been filled: the write that an injection armed for it acts in (R528). The Sleeve PLL locks for a
lane's check (Table SLVW-10). -/
def State.enterCheck (s : State) (d : Nat) (who : OpBy) : State :=
  let s0 := (s.dropChange d).setDom d 1
  let s1 := s0.sramWrite d (sramBase d)
  let s2 := if 17 ≤ d ∧ d ≤ 25 then s1.set SYS_CLKSTAT.SLV_LOCK 1 else s1
  { s2 with pwr := { s2.pwr with checks := s2.pwr.checks ++ [(d, who)] } }

/-- Who asked for the CHECK that runs. -/
def State.checkWho (s : State) (d : Nat) : OpBy := (s.pwr.checks.lookup d).getD .card

/-- Does a rejoin boundary at the start of a unit of work find such work waiting (R1172)? -/
def State.workWaits (s : State) (d : Nat) : Bool :=
  if 33 ≤ d ∧ d ≤ 36 then s.nextBlk.isSome
  else if d = 38 then s.execs.any (fun x => x.atMac)
  else if 45 ≤ d ∧ d ≤ 48 then s.execs.any (fun x => x.onUnit d)
  else false

/-- The units whose rejoin boundary is the next start or boundary of work (Table PWD-1, R1172). -/
def startsAtWork (d : Nat) : Bool := decide (33 ≤ d ∧ d ≤ 36) || d == 38 || decide (40 ≤ d ∧ d ≤ 42) || decide (45 ≤ d ∧ d ≤ 48)

/-- A lane that reaches SHADOW is offered; the link retrains for it where R254 says so, and negotiates again for L0 (R256). -/
def State.laneShadow (s : State) (k : Nat) : State :=
  let s2 := { s with slv := { s.slv with ownLanes := s.slv.ownLanes.filter (fun x => x ≠ k) } }
  if k = 0 ∧ s2.slv.phase = .down ∧ s2.boot.sleeveHigh = true ∧ s2.ready = true then s2.negotiate 3
  else if s2.linkUp ∧ s2.rejoinCond k then s2.retrain 3
  else s2

/-- The unit's check passes: SHADOW, and at once IN where nothing half-done can be met (R778, R779, R844, R1172). -/
def State.checkPass (s : State) (d : Nat) : State :=
  let who := s.checkWho d
  let s1 := (s.dropChange d).setDom d 2
  let s2 := if startsAtWork d && !s1.workWaits d then s1.enterIn d else s1
  let s3 := { s2 with
    pwr := { s2.pwr with own := s2.pwr.own.filter (fun k => k ≠ d) },
    flash := { s2.flash with ownQuads := s2.flash.ownQuads.filter (fun q => q + 1 ≠ d) } }
  let s4 :=
    if 17 ≤ d ∧ d ≤ 25 then s3.laneShadow (d - 17)
    else if d = 26 then s3.greet
    else if d = 50 then (s3.romRegions 1).seamCheck
    else s3.seamCheck.nextUpdate
  s4.checkReply d who none

/-- The unit's own notice of a failed check (Tables SLVW-10, FLS-10, CIP-8). -/
def State.failNotice (s : State) (d : Nat) : State :=
  if 1 ≤ d ∧ d ≤ 16 then s.notify "flash quad fail" [("quad", "FQ" ++ dec (d - 1))]
  else if 17 ≤ d ∧ d ≤ 25 then s.notify "sleeve lane fail" [("lane", "L" ++ dec (d - 17))]
  else if 33 ≤ d ∧ d ≤ 36 then s.notify "cipher pair fail" [("pair", "CP" ++ dec (d - 33))]
  else s

/-- The unit's check fails: fence, OFF, counted, both notices; after a command the domain stays OFF with CMD_OFF set, else the card
retries it (R779, R782). -/
def State.checkFail (s : State) (d : Nat) : State :=
  let who := s.checkWho d
  let s1 := (((s.dropChange d).fenceOff d).clearDomain d).count (PWR_DSTAT.CHECKFAIL d) 1
  let s2 := ((s1.notify "domain check fail" [("domain", domainId d)]).failNotice d).seamCheck
  let s3 :=
    if who.command then s2.set (PWR_DSTAT.CMD_OFF d) 1
    else if 17 ≤ d ∧ d ≤ 25 then { s2 with slv := { s2.slv with ownLanes := s2.slv.ownLanes.filter (fun k => k ≠ d - 17) ++ [d - 17] } }
    else if d ≤ 16 then
      { s2 with flash := { s2.flash with ownQuads := s2.flash.ownQuads.filter (fun q => q + 1 ≠ d) ++ [d - 1] } }
    else { s2 with pwr := { s2.pwr with own := s2.pwr.own.filter (fun k => k ≠ d) ++ [d] } }
  s3.checkReply d who (some .wrongState)

/-- A check ends. -/
def State.checkEnds (s : State) (d : Nat) (ok : Bool) : State := if ok then s.checkPass d else s.checkFail d

end Sys2Proof.Machine
end

