-- ==== Sys2Proof/Machine/ResetOps.lean ====
section
/-!
DEFINITION. Sys2Proof/Machine/ResetOps.lean: the start of a cold or warm reset and the causes SYS_RSTCAUSE records (chapter 02: R104,
R109, R123, R755).
-/
namespace Sys2Proof.Machine
open Sys2Proof

/-- The bits of SYS_RSTCAUSE (Table BOOT-14). -/
def causePowerOn : Nat := 0
def causeCold : Nat := 1
def causeWarm : Nat := 2
def causeWdog : Nat := 3
def causeStall : Nat := 4
def causeSleeve : Nat := 5
def causeT1 : Nat := 6
def causeMpu : Nat := 7
def causeHang : Nat := 8
def causeMemErr : Nat := 9
def causeShrink : Nat := 10
def causeBist : Nat := 11
def causeLife : Nat := 12

/-- KIND of SYS_RSTLAST (Table BOOT-22). -/
def ResetKind.code : ResetKind → Nat
  | .powerOn => 0
  | .cold => 1
  | .warm => 2
  | .sleeve => 3
  | .t1 => 4

/-- A reset's causes are recorded as the card leaves it: one bit each in SYS_RSTCAUSE, the kind and the highest-numbered cause in
SYS_RSTLAST (R109, Tables BOOT-14 and BOOT-22). -/
def State.recordReset (s : State) (k : ResetKind) (causes : List Nat) : State :=
  let w := s.word SYS_RSTCAUSE.POWER_ON.addr
  let s1 := s.setWord SYS_RSTCAUSE.POWER_ON.addr (causes.foldl (fun x c => x ||| (1#32 <<< c)) w)
  (s1.set SYS_RSTLAST.KIND k.code).set SYS_RSTLAST.CAUSE (causes.foldl max 0)

/-- READY falls and its bit with it (R73). -/
def State.readyLow (s : State) : State :=
  (({ s with boot := { s.boot with ready := false } }).set SYS_BOOTSTAT.READY 0).seamCheck

/-- A cold or warm reset that flushes first begins (R104); a cause that comes during the flush of another is recorded with it
(R123). -/
def State.beginReset (s : State) (k : ResetKind) (cause : Nat) : State :=
  match s.boot.pending with
  | some p =>
    if p.causes.contains cause then s
    else { s with boot := { s.boot with pending := some { p with causes := p.causes ++ [cause] } } }
  | none =>
    ({ s with boot := { s.boot with pending := some { kind := k, causes := [cause] } } }).readyLow

/-- A commanded reset: the primary of a twinset sends HOLD first (R882). -/
def State.commandReset (s : State) (k : ResetKind) (cause : Nat) : State := (s.sendHold 5000).beginReset k cause

/-- A reset that a fault requires: of the domain where it may be reset alone, else a warm reset (R755). -/
def State.faultReset (s : State) (d cause : Nat) : State :=
  if s.flag (PWR_DSTAT.RESETTABLE d) then s.resetDomain d .card else s.beginReset .warm cause

/-- Names of the causes of LIMP (Table BOOT-7). -/
def limpName (c : Nat) : String := ["none", "CHECKER", "FUSE", "REPAIR", "BOOTAREA", "STALL"].getD c "none"

/-- The card enters LIMP; a further cause is not recorded (R110 to R113, R1173). -/
def State.enterLimp (s : State) (cause unit : Nat) : State :=
  if s.limp then s
  else
    let s1 := ((s.set SYS_BOOTSTAT.LIMP 1).set SYS_LIMP.CAUSE cause).set SYS_LIMP.UNIT unit
    ((s1.set SYS_BOOTSTAT.PHASE 9).seamCheck.tapGate).notify "limp"
      [("cause", limpName cause), ("unit", dec unit)]

/-- A T1 restart (Table BOOT-6): D50 is reset. -/
def State.restartT1 (s : State) (who : OpBy) : State := if s.dom 50 = 0 then s else s.resetDomain 50 who

end Sys2Proof.Machine
end

