-- ==== Sys2Proof/Machine/PowerOps.lean ====
section
/-!
DEFINITION. Sys2Proof/Machine/PowerOps.lean: performance levels, the entry steps of NAP, TACK and DORMANT, and the exit (chapter 15).
-/
namespace Sys2Proof.Machine
open Sys2Proof

/-! ### Levels -/

/-- CORECLK's multiple at a level (Table PWS-2). -/
def levelMult (l : Nat) : Nat := 5 * (l + 1)

/-- May the pause be taken now: the link is stopped or in reset, or a card-owned turn starts (R803)? -/
def State.pauseOk (s : State) : Bool :=
  s.slv.phase == .reset || s.slv.phase == .stopped || s.slv.phase == .down || (s.slv.phase == .data && s.flag SLV_STAT.OWNER)

/-- The level in force becomes `l`; downwards VCORE moves last (R802, Table PWS-2). -/
def State.setLevel (s : State) (l : Nat) : State :=
  let s1 := (({ s with pwr := { s.pwr with levelTo := none } }).set PWR_LEVEL.CUR l).set SYS_CLKSTAT.CORE_MULT (levelMult l)
  if l < s.get PWR_LEVEL.CUR then s1.vcoreTo l else s1

/-- What `power level=` answers (R1046). -/
def levelName (l : Nat) : String := "pl" ++ dec l

def State.levelKv (s : State) : List KV := [("level", levelName (s.get PWR_LEVEL.CFG)), ("cur", levelName (s.get PWR_LEVEL.CUR))]

/-- The regulator does not answer or misses its target (R808). -/
def State.regFault (s : State) : State :=
  let s1 := ({ s with pwr := { s.pwr with levelTo := none, regBad := true } }).set PWR_PMB.OK 0
  (s1.notify "power pmbus fault" []).finishFor .level (fun t => .er t .wrongState)

/-! ### The NAP set and the refusals -/

/-- The domains permitted for NAP (R809). -/
def napAllowed (d : Nat) : Bool :=
  (decide (1 ≤ d) && decide (d ≤ 16)) || d == 27 || d == 28 || (decide (33 ≤ d) && decide (d ≤ 42)) || (decide (44 ≤ d) && decide (d ≤ 50))

/-- Every domain permitted for NAP, ascending. -/
def napAll : List Nat := (List.range 51).filter napAllowed

/-- The NAP set that the registers hold (Table PWS-10). -/
def State.napSet (s : State) : List Nat :=
  napAll.filter (fun d => if d < 32 then (s.word PWR_NAPSET0.addr).getLsbD d else (s.word PWR_NAPSET1.addr).getLsbD (d - 32))

/-- Table PWS-3: the first reason that refuses a command for NAP, TACK or DORMANT (2, 3, 4); `set` is the NAP set it names. -/
def State.powerRefusal (s : State) (target : Nat) (set : List Nat) : Option Status :=
  let inTwin := s.twin.pairing.isSome || s.get SEAM_MANTLE.STATE == 4 || s.get SEAM_MANTLE.STATE == 2
  if !s.ready || s.removing || s.boot.pending.isSome then some .notReady
  else if s.asleep || s.pwr.entry.isSome then some .wrongState
  else if target = 2 ∧ set.all napAllowed = false then some .badArg
  else if s.get (DRC_STAT.TRAIN 0) = 1 ∨ s.get (DRC_STAT.TRAIN 1) = 1 ∨ s.flag SYS_BOOTSTAT.REPLAY = true ∨
      (s.dram.ch.any (fun c => c.migration.isSome || c.shrink.isSome)) = true then some .wrongState
  else if (target ≠ 2 ∨ set.contains 27 ∨ set.contains 28) ∧ inTwin = true then some .wrongState
  else if s.slv.phase ≠ .reset ∧ (s.linkUp && s.slv.mode.feat.testBit 1) = false then some .wrongState
  else none

/-! ### Entry -/

/-- Has a comparator latched a crossing in its wake direction, and does it still stand there (R839)? ACMP1 and ACMP2 wake on any
change. -/
def State.crossed (s : State) : Option Nat :=
  (List.range 8).find? (fun n =>
    s.flag (PWR_ACMP.CROSS n) && s.flag (PWR_ACMP.WAKE n) && (decide (n ≤ 2) || s.get (PWR_ACMP.OUT n) == s.get (PWR_ACMP.POL n)))

/-- Rows of open Bolts that a clean stop must pad (R444): pages are still to be placed on a started word line. -/
def State.rowsOpen (s : State) : List Bolt :=
  s.flash.bolts.filter (fun b =>
    b.state == .opened && decide (b.next < b.rows * b.width) && b.next % (b.width * b.planes * s.linePages b) != 0)

/-- The open rows are closed with pad. -/
def State.padOpen (s : State) : State := s.rowsOpen.foldl (fun t b => t.padLines b.group b.idx 4096) s

/-- Is a write-back flush complete: no entry DIRTY or THROUGH and no page in flight? -/
def State.flushed (s : State) : Bool :=
  s.flash.progs.isEmpty && !s.cache.entries.any (fun e => e.kind == .dirty || e.kind == .through)

/-- The flush of a clean stop goes on (R104, R811): once every entry is on its way, delta records and open rows are closed with pad; once
all is written, and a map Bolt has taken the DIRTY segments, the clean checkpoint follows. `true` when it stands. -/
def State.cleanStop (s : State) : State × Bool :=
  if s.cache.entries.any (fun e => (e.kind == .dirty || e.kind == .through) && !e.prog) then (s, false)
  else if s.flash.deltas ≠ [] ∧ s.flash.deltaDue = false then (s.sendDeltas.padOpen, false)
  else if s.rowsOpen ≠ [] then (s.padOpen, false)
  else if !s.flushed then (s, false)
  else s.cleanCheckpoint

/-- The queues that hold a taken slot. -/
def State.takenQueues (s : State) : List Nat :=
  (s.queues.filter (fun q => q.2.waiting != [] || q.2.doneTags != [] || s.execs.any (fun x => x.queue == q.1))).map (·.1)

/-- Every waiting command completes with a status and 0 blocks done. -/
def State.endWaiting (s : State) (st : Status) : State :=
  s.queues.foldl (fun t qk =>
    qk.2.waiting.foldl (fun u c => u.postWaiting qk.1 c st) (t.setQueue qk.1 { qk.2 with waiting := [] })) s

def State.setEntryRec (s : State) (e : PEntry) : State := { s with pwr := { s.pwr with entry := some e } }

/-- Every domain to be switched off drains (R811 step 4). -/
def State.drainSet (s : State) (e : PEntry) : State :=
  e.doms.foldl (fun t d =>
    if t.dom d = 0 ∨ t.draining d = true then t else t.startDrain d e.abort (t.clk + e.window) .entry) s

/-- One move of an entry from its present step, if it can make one (Table PWS-4, R812). -/
def State.entryMove (s : State) : State :=
  match s.pwr.entry with
  | none => s
  | some e =>
    match s.get PWR_STATE.STEP with
    | 1 => if s.pwr.levelTo = none then s.set PWR_STATE.STEP 2 else s
    | 2 =>
      if e.target ≠ 4 then s.set PWR_STATE.STEP 3
      else
        let (s1, clean) := s.cleanStop
        if !clean then s1
        else
          match s1.takenQueues, e.abort with
          | [], _ => s1.set PWR_STATE.STEP 3
          | q :: _, false => s1.refuseEntry e .pwrRefused (queueDomain q) (domainId (queueDomain q))
          | _ :: _, true => (s1.endWaiting .pwrAborted).set PWR_STATE.STEP 3
    | 3 =>
      if s.slv.phase = .stopped ∨ s.slv.phase = .reset then (s.drainSet e).set PWR_STATE.STEP 4
      else
        match e.stopBy with
        | some _ => s
        | none => s.setEntryRec { e with stopBy := some (s.clk + s.get SLV_FORCE1.IDLE_HOLD_US + e.window) }
    | _ => s

/-- An entry goes on as far as it can. -/
def State.entryGo (s : State) : State := s.entryMove.entryMove.entryMove.entryMove

/-- The entry begins with step 1, the move to PL0 (R811); a latched crossing aborts it there (R839). A regulator that has failed
leaves the level in force (R838). -/
def State.beginEntry (s : State) (target : Nat) (doms : List Nat) (window : Nat) (abort : Bool) : State :=
  let e : PEntry :=
    { target := target, doms := doms.filter (fun d => s.dom d ≠ 0), drained := [], aborted := [], window := window, abort := abort,
      level := s.get PWR_LEVEL.CUR, stopBy := none }
  let s1 := ({ s with pwr := { s.pwr with
      entry := some e, timerS := s.get PWR_WTIMER.S, tackS := clamp 1 3600 (s.get PWR_TACK.PERIOD_S),
      tackCh := min 9 (s.get PWR_TACK.TCH) } }).set PWR_STATE.STEP 1
  match s1.crossed with
  | some n => s1.wakeEvent 5 n s1.clk
  | none => (if s1.flag PWR_PMB.OK && s1.get PWR_LEVEL.AVAIL % 2 == 1 then s1.levelAsk 0 else s1).entryGo

/-- A domain that an entry drains is drained. -/
def State.entryDrained (s : State) (d : Nat) (aborted : Bool) : State :=
  match s.pwr.entry with
  | none => s
  | some e => s.setEntryRec { e with drained := e.drained ++ [d], aborted := if aborted then e.aborted ++ [d] else e.aborted }

/-- Has every domain of the entry drained? -/
def State.allDrained (s : State) (e : PEntry) : Bool := e.doms.all (fun d => e.drained.contains d || s.dom d == 0)

/-! ### Steps 5 to 7, and the exit -/

/-- TCM bank 0 of a Tailor core, the first 128 KiB, is a retention bank; what the cores' other SRAM holds is lost with its domain (R818). -/
def State.loseSram (s : State) (d : Nat) : State :=
  let stays (a : Nat) : Bool := sramDomain a != some d || ((d == 49 || d == 50) && decide (a % 0x40000 < 0x20000))
  { s with access := { s.access with
    sram := s.access.sram.filter (fun c => stays c.1), sramFlips := s.access.sramFlips.filter (fun c => stays c.1) } }

/-- A domain is fenced and switched off for a power state (R811 step 6, R762, R428, R774). Its registers keep their values (the
assumption log says so). -/
def State.sleepDomain (s : State) (e : PEntry) (d : Nat) : State :=
  let was := s.dom d
  if was = 0 then s
  else
    let s1 := if e.aborted.contains d then s.loseWork d .abort else s
    let s2 := if 1 ≤ d ∧ d ≤ 16 ∧ was = 3 then s1.closeBoltsOf (d - 1) else s1
    let s3 := (((s2.cutOps d none .domainOff).dropChange d).fenceOff d).loseSram d
    ({ s3 with pwr := { s3.pwr with offWas := s3.pwr.offWas ++ [(d, was)] } }).seamCheck

/-- DRAM enters self-refresh, its rows closed; switched off for DORMANT, it loses its contents (R811, R818). -/
def State.dramSleep (s : State) (off : Bool) : State :=
  let rest (c : DramCh) : DramCh :=
    if off then { c with rows := [], acts := [], lines := [], tags := [], tagBad := [], tagWrong := [], tcache := [], merge := [], reads := [], wq := [], issued := [] }
    else { c with rows := [] }
  let s1 := { s with dram := { s.dram with ch := s.dram.ch.map rest } }
  if !off then s1
  else
    let s2 := s1.dropEntries (fun _ => true)
    { s2 with flash := { s2.flash with segs := s2.flash.segs.map (fun x => (x.1, { x.2 with resident := false, reading := false, rebuilding := false })) } }

/-- Past the point of no return: the domains go off in ascending order, and the state stands (R811 steps 5 to 7). -/
def State.goToSleep (s : State) (e : PEntry) (endUs : Nat) : State :=
  let s1 := (List.range 51).foldl (fun t d => if e.doms.contains d then t.sleepDomain e d else t) s
  let s2 := { s1 with pwr := { s1.pwr with entry := none, levelWas := e.level, enteredUs := endUs, visitUs := endUs, wakes := [] } }
  (((s2.dramSleep (e.target == 4)).set PWR_STATE.STEP 0).set PWR_STATE.STATE e.target).count PWR_PSCNT.ENTRIES 1

/-- The names of Table PWS-6. -/
def wakeName : Nat → String
  | 1 => "COLLAR"
  | 2 => "SLEEVE"
  | 3 => "SLVRST"
  | 4 => "SEAM"
  | 5 => "ACMP"
  | 6 => "ADCWIN"
  | 7 => "TIMER"
  | 8 => "PMBUS"
  | 9 => "LINING"
  | _ => "none"

/-- A host wake burst on a stopped link: the lanes are switched on and the reply burst goes out (R251, R260). -/
def State.replyBurst (s : State) : State :=
  if s.slv.phase = .stopped ∨ s.slv.phase = .waking then s.sleeveOn.slvSend [.burst] else s

/-- The domains a power state switched off return in descending order: straight to IN, or from OFF where they were not IN (R780,
R819, R820). -/
def State.wakeDomains (s : State) : State :=
  let back (t : State) (x : Nat × Nat) : State := if x.2 = 3 then t.enterIn x.1 else t.switchOn x.1 .card
  let s1 := s.pwr.offWas.reverse.foldl back s
  ({ s1 with pwr := { s1.pwr with offWas := [] } }).seamCheck

/-- A latched event is replayed (R821). -/
def State.replayWake (s : State) (w : Wake) : State :=
  match w.src, w.detail with
  | 2, 0 => s.replyBurst
  | 3, _ => s.greet
  | _, _ => s

/-- SLV_RST_N is high again: the Sleeve reset's cause is recorded as the card leaves it (R109). -/
def State.sleeveRisen (s : State) : State :=
  if s.boot.sleeveFell ∧ s.boot.sleeveHigh = true then
    ({ s with boot := { s.boot with sleeveFell := false } }).recordReset .sleeve [causeSleeve]
  else s

/-- A Sleeve reset that began in a power state takes its effect on the link at the exit (R837). -/
def State.sleeveFellAsleep (s : State) : State := if s.boot.sleeveFell then s.sleeveReset.sleeveRisen else s

/-- Out of DORMANT the card serves on the staging path, and DRAM waits for its restoration or training (R548, R820). -/
def State.leaveDormant (s : State) : State :=
  let s1 := (s.set SYS_BOOTSTAT.STAGING 1).set SYS_BOOTSTAT.MAP_RESIDENT 0
  if s1.flag SYS_BOOTSTAT.DRAM_FAIL then s1
  else [0, 1].foldl (fun t n => if t.get (DRC_CFG.POP n) = 0 then t else t.set (DRC_STAT.TRAIN n) 0) s1

/-- The card leaves a power state (R819 to R822). -/
def State.wakeUp (s : State) : State :=
  let st := s.get PWR_STATE.STATE
  let s1 := (s.wakeDomains).set PWR_STATE.STATE 0
  let s2 := if st = 4 then s1.leaveDormant else s1
  let s2b := s2.sleeveFellAsleep
  let s3 := if s2b.flag PWR_PMB.OK then s2b.levelAsk s2b.pwr.levelWas else s2b
  let s4 := s3.notify "power wake"
    [("state", powerName st), ("src", wakeName (s3.get PWR_WAKESRC.SRC)), ("detail", dec (s3.get PWR_WAKESRC.DETAIL))]
  let ws := s4.pwr.wakes
  ws.foldl (fun t w => t.replayWake w) { s4 with pwr := { s4.pwr with wakes := [] } }

end Sys2Proof.Machine
end

