-- ==== Sys2Proof/Machine/AccessOps.lean ====
section
/-!
DEFINITION. Sys2Proof/Machine/AccessOps.lean: MPU regions, the fault log, what a fault of a Tailor core does and what a refused or lost
access means for its requester (chapter 12; Tables ACC-1, ACC-7, ACC-8, DRC-6).
-/
namespace Sys2Proof.Machine
open Sys2Proof

/-! ### MPU regions -/

/-- N of a region: below 5 it acts as 5, above 32 as 32 (Table ACC-10). -/
def State.regionN (s : State) (c i : Nat) : Nat := clamp 5 32 (s.get (MPU_RATTR.N c i))

/-- Does a region match an address (R659, R661)? The base's bits below N are ignored. -/
def State.regionMatches (s : State) (c i a : Nat) : Bool :=
  let n := s.regionN c i
  s.flag (MPU_RATTR.EN c i) && (32 * s.get (MPU_RBASE.BASE c i)) / 2 ^ n == a / 2 ^ n

/-- The deciding region: the highest-numbered that matches (R661). -/
def State.deciding (s : State) (c a : Nat) : Option Nat :=
  ((List.range 16).filter (fun i => s.regionMatches c i a)).getLast?

/-- Is an access permitted (R662)? `access` is 0 load, 1 store, 2 fetch. -/
def State.mpuPermits (s : State) (c : Nat) (p1 : Bool) (access a : Nat) : Bool :=
  if !s.flag (MPU_CTL.EN c) then !p1
  else
    match s.deciding c a with
    | none => false
    | some i => (if p1 then s.get (MPU_RATTR.P1 c i) else s.get (MPU_RATTR.P0 c i)).testBit access

/-! ### The fault log -/

/-- A fault record before it is laid out (Table ACC-8). -/
structure FaultRec where
  source : Nat
  access : Nat
  colour : Nat
  tag : Nat
  priv : Nat
  region : Nat
  status : Status
  addr : Nat
  handle : Nat
  queue : Nat
  cmdTag : Nat

/-- The record's 32 bytes (Table ACC-8). -/
def FaultRec.bytes (f : FaultRec) (time : Nat) : Bytes :=
  leBytes 1 f.source ++ leBytes 1 f.access ++ leBytes 1 f.colour ++ leBytes 1 f.tag ++ leBytes 1 f.priv ++ leBytes 1 f.region ++
    leBytes 2 f.status.code ++ leBytes 8 f.addr ++ leBytes 8 f.handle ++ leBytes 2 f.queue ++ leBytes 2 f.cmdTag ++ leBytes 4 time

/-- A record is written at the next slot, over the oldest when the log is full (R689). -/
def State.logFault (s : State) (f : FaultRec) : State :=
  let i := s.get TAG_FHEAD.INDEX
  let s1 := { s with access := { s.access with log := putSorted i (f.bytes (s.refcnt / 1024)) s.access.log } }
  (s1.set TAG_FHEAD.INDEX ((i + 1) % 64)).count TAG_FTOTAL.COUNT 1

/-! ### What a fault of a Tailor core does -/

/-- The P1 restarts of T1 within the last 60 s, this one among them (R669). -/
def State.p1Restart (s : State) : State :=
  let ts := s.access.p1Faults.filter (fun t => decide (s.clk < t + 60000000)) ++ [s.clk]
  let s1 := ({ s with access := { s.access with p1Faults := ts } }).set MPU_EXT.RESTARTS (min 15 ts.length)
  if 3 ≤ ts.length ∧ s1.get MPU_EXT.STATE ≠ 2 then
    (s1.set MPU_EXT.STATE 2).notify "mpu ext stopped" [("faults", "3")]
  else s1

/-- Table ACC-1: T0's fault is a warm reset; T1 restarts. -/
def State.coreFault (s : State) (core : Nat) (p1 : Bool) (cause : Nat) : State :=
  if core = 0 then s.beginReset .warm cause
  else (if p1 then s.p1Restart else s).restartT1 .card

/-- MPU_EXT.KEYSLOT and MPU_EXTLEN show the stored image (Table ACC-10). -/
def State.showExt (s : State) : State :=
  match s.access.ext with
  | some (img, slot) => (s.set MPU_EXT.KEYSLOT slot).set MPU_EXTLEN.LENGTH img.length
  | none => (s.set MPU_EXT.KEYSLOT 0).set MPU_EXTLEN.LENGTH 0

/-! ### What a refused or lost access means -/

/-- The segment's held copy is discarded and the segment rebuilt; commands that need it wait (Table SDP-1). -/
def State.rebuildSeg (s : State) (e : Nat) : State :=
  match s.seg e with
  | none => s
  | some g => s.setSeg e { g with resident := false, reading := true, rebuilding := true }

/-- The command that a queue and a tag name ends with 0 blocks done: from its ring slot, or in execution. -/
def State.ringLost (s : State) (q tag : Nat) (st : Status) : State :=
  match s.queues.lookup q with
  | none => s
  | some k =>
    match k.waiting.find? (fun c => c.tag == tag) with
    | some c => (s.setQueue q { k with waiting := k.waiting.filter (fun d => d.tag ≠ tag) }).postWaiting q c st
    | none =>
      match s.execOf q tag with
      | some x => s.finishExec x st 0
      | none => s

/-- A cache entry whose data is lost: dropped when flash holds the block, POISON when DIRTY or THROUGH; a THROUGH entry's commands end with POISON
(R399, Table DRC-6). -/
def State.loseEntry (s : State) (e : CacheEntry) : State :=
  let upd (y : CacheEntry) : CacheEntry := if y = e then { y with poison := true } else y
  let marked := s.setEntries (s.cache.entries.map upd)
  match e.kind with
  | .clean => s.dropEntry e
  | .prefetch => s.dropEntry e
  | .dirty => marked
  | .through => (s.execs.filter (fun x => e.owners.contains x.id)).foldl (fun t x => t.abortExec x .poison) marked

def State.entryLost (s : State) (p lba : Nat) : State := match s.cached p lba with | none => s | some e => s.loseEntry e

/-- The requester of a refused access, or the holder of an uncorrectable line, by its kind (Tables ACC-7 and DRC-6). `st` is COLOUR_FAULT
or POISON. -/
def State.accessLost (s : State) (o : Owner) (st : Status) : State :=
  match o with
  | .command q tag =>
    (match s.execOf q tag with
     | some x => s.abortExec x st
     | none => s.ringLost q tag st)
  | .ring q tag => s.ringLost q tag st
  | .flush p lba => s.entryLost p lba
  | .entry p lba => s.entryLost p lba
  | .fill p lba =>
    { s with cache := { s.cache with wanted := s.cache.wanted.filter (fun w => w ≠ (p, lba)) } }
  | .segment e => s.rebuildSeg e
  | .tags => s
  | .tailor core p1 => s.coreFault core p1 (if st = .colourFault then causeMpu else causeMemErr)
  | .scrub => s

/-- A line of a place in the cache is uncorrectable: the entry that stands there is lost, be it one with a newer entry of its block (R396, R399); any other
line's holder is as `accessLost` has it. -/
def State.placeLost (s : State) (x : Spot) (own : Owner) : State :=
  match s.cache.entries.find? (fun e => x != .nowhere && e.place == x) with
  | some e => s.loseEntry e
  | none => s.accessLost own .poison

/-- HANDLE, QUEUE and command tag of a record (Table ACC-8). -/
def State.cmdOf (s : State) (o : Owner) : Nat × Nat × Nat :=
  let find (q tag : Nat) : Nat × Nat × Nat :=
    match s.execOf q tag with
    | some x => (x.cmd.handle, q, tag)
    | none =>
      match (s.queues.lookup q).bind (fun k => k.waiting.find? (fun c => c.tag == tag)) with
      | some c => (c.handle, q, tag)
      | none => (0, q, tag)
  match o with
  | .command q tag => find q tag
  | .ring q tag => find q tag
  | _ => (0, 0, 0)

/-- PRIV of a record (Table ACC-8). -/
def ownerPriv : Owner → Nat
  | .tailor _ p1 => if p1 then 1 else 0
  | _ => 0xFF

/-- Names of the ports (Table DRC-3). -/
def portName (p : Nat) : String := ["QE", "MP", "MV", "CI", "FS", "T0", "T1", "SC"].getD p "SC"

/-- `! colour fault`, at most once per second for a Pocket (R690). -/
def State.colourNotice (s : State) (pocket port : Nat) : State :=
  match s.access.noted.lookup pocket with
  | some t => if s.clk < t + 1000000 then s else
    ({ s with access := { s.access with noted := upsert pocket s.clk s.access.noted } }).notify "colour fault"
      [("pocket", pocketId pocket), ("port", portName port)]
  | none =>
    ({ s with access := { s.access with noted := upsert pocket s.clk s.access.noted } }).notify "colour fault"
      [("pocket", pocketId pocket), ("port", portName port)]

/-- A refused access of staging SRAM or DRAM (R683, R688 to R690). -/
def State.colourFault (s : State) (source port colour tag addr : Nat) (wr store : Bool) (o : Owner) : State :=
  let c := s.cmdOf o
  let f : FaultRec :=
    { source := source, access := (if wr then 1 else 0) + (if store then 128 else 0), colour := colour, tag := tag, priv := ownerPriv o,
      region := 0xFF, status := .colourFault, addr := addr, handle := c.1, queue := c.2.1, cmdTag := c.2.2 }
  (((s.logFault f).colourNotice colour port).accessLost o .colourFault).settle

end Sys2Proof.Machine
end

