-- ==== Sys2Proof/Machine/LifeOps.lean ====
section
/-!
DEFINITION. Sys2Proof/Machine/LifeOps.lean: the lifecycle array, its gates and transitions, and swatch runs (chapter 18).
-/
namespace Sys2Proof.Machine
open Sys2Proof

/-! ### Lifecycle states -/

/-- The OR of the copies (R943). -/
def State.lifeBits (s : State) : Nat := s.life.copies.foldl (fun a b => a ||| b) 0 % 16

/-- The state named by the highest bit set (R943). -/
def lifeOf (bits : Nat) : Nat := if 8 ≤ bits then 4 else if 4 ≤ bits then 3 else if 2 ≤ bits then 2 else if 1 ≤ bits then 1 else 0

/-- LCS_GATE of each state (Tables LCS-1, LCS-7). -/
def gatesOf (st : Nat) : Nat := [0x0F5, 0x1FD, 0x122, 0x1F4, 0x004].getD st 0

/-- Names of the states (R945). -/
def lifeName (st : Nat) : String := ["BLANK", "MAKE", "FIELD", "RETURN", "SCRAP"].getD st "BLANK"
def lifeLower (st : Nat) : String := ["blank", "make", "field", "return", "scrap"].getD st "blank"

/-- The state is formed and its gates are in force (R943, R949). -/
def State.formLife (s : State) : State :=
  let b := s.lifeBits
  let c := (s.life.copies.getD 0 0) + 16 * (s.life.copies.getD 1 0) + 256 * (s.life.copies.getD 2 0)
  (((s.set LCS_STATE.BITS b).set LCS_STATE.STATE (lifeOf b)).set LCS_GATE.GATES (gatesOf (lifeOf b))).set LCS_COPIES.BITS c |>.tapGate

/-- The key journal is zeroized (R946): an image with every slot empty goes to the inactive copy, and every other block of both copies is
erased. -/
def State.zeroizeJournal (s : State) : State :=
  let u : KeyUpdate := { slot := 0, content := none, startUs := s.clk, line := false, clears := [], kv := [], data := [] }
  let k := ({ s.keys with slots := [] }).program u 4 true
  let c := 1 - k.active
  let b := k.blocks.getD c 0
  let lun (x : Nat) : Nat := if x = 0 then 0 else 32
  let erase (t : State) (x : Nat × Nat) : State :=
    if (x.1 = c ∧ x.2 = (s.journalBlocks c).getD b 8) ∨ s.flash.retired.contains (lunBlock (lun x.1) 0 x.2) = true then t else t.countErase (lun x.1) 0 x.2
  let all := (List.range 2).flatMap (fun x => (List.range 8).map (fun n => (x, 8 + n)))
  let s1 := { s with keys := { k with
    copies := (k.copies.set c ((k.copies.getD c []).filter (fun g => g.block == b))).set k.active [],
    room := k.room.set k.active (s.journalPages k.active),
    image := [], jseq := k.jseq + 1, update := none, waiting := [], interrupted := none, active := c, erasing := false } }
  all.foldl erase s1

/-- Every slot is erased without the 2 ms wait: commands that hold a latch complete with KEY_RETIRED (R632, Table LCS-2). -/
def State.eraseAllSlots (s : State) : State :=
  let held := s.execs.filter (fun x => x.dkey.isSome || x.ikey.isSome)
  let s1 := held.foldl (fun t x => t.abortExec x .keyRetired) s
  { s1 with keys := { s1.keys with slots := [], drains := [] } }

/-- Table LCS-2: why a transition to `target` is refused, none when it may run. One that zeroizes the journal is an update of it, which R784 refuses
while FQ0 or FQ8 is not IN (DEDUCED, assumption log entry 223). -/
def State.lifeRefusal (s : State) (target : Nat) : Option Status :=
  match s.get LCS_STATE.STATE, target with
  | 1, 2 =>
    (match s.keys.slots.lookup (512 + 63) with
     | some k => if (k.kind = 0x11 ∨ k.kind = 0x12) ∧ k.state = .loaded then none else some .keyEmpty
     | none => some .keyEmpty)
  | 2, 3 =>
    if s.keys.slots.any (fun x => x.2.state != .empty) || s.execs.any (fun x => x.dkey.isSome || x.ikey.isSome) then some .wrongState
    else zeroizes
  | 1, 4 => zeroizes
  | 2, 4 => zeroizes
  | 3, 4 => zeroizes
  | _, _ => some .lifecycle
where
  zeroizes : Option Status := if s.journalServes then none else some .domainOff

/-- The transition begins: what its action destroys goes first, then the bits are programmed (Table LCS-2, R945, R946). -/
def State.beginLife (s : State) (target : Nat) (byT0 : Bool) : State :=
  let s1 := if target = 4 then s.eraseAllSlots else s
  let s2 := if target = 3 ∨ target = 4 then s1.zeroizeJournal else s1
  let bits := if target = 4 then 15 else 2 ^ (target - 1)
  { s2 with life := { s2.life with trans := some { bits := bits, target := target, byT0 := byT0 } } }

/-- The array after programming: every copy verified, or copy `c` failed twice and senses the bits of `sense` among those asked for;
later copies are left alone (R945, R948). -/
def programmed (copies : List Nat) (bits : Nat) (failed : Option (Nat × Nat)) : List Nat :=
  match failed with
  | none => copies.map (fun k => k ||| bits)
  | some (c, sense) =>
    (List.range copies.length).map (fun i =>
      let k := copies.getD i 0
      if i < c then k ||| bits else if i = c then k ||| (bits &&& sense) else k)

/-! ### Swatches -/

/-- A row of Table LCS-4: budget in µs, or in µs per GiB. -/
structure Swatch where
  name : String
  doms : List Nat
  us : Nat
  perGib : Bool
  field : Bool

/-- SW01 to SW20 (Table LCS-4). -/
def swatchesA : List Swatch := [
  { name := "FQ_LOOP", doms := (List.range 16).map (fun k => 1 + k), us := 1500, perGib := false, field := true },
  { name := "FQ_SRAM", doms := (List.range 16).map (fun k => 1 + k), us := 2000, perGib := false, field := true },
  { name := "FQ_DIE", doms := (List.range 16).map (fun k => 1 + k), us := 4000, perGib := false, field := true },
  { name := "FQ_SKEW", doms := (List.range 16).map (fun k => 1 + k), us := 4500, perGib := false, field := true },
  { name := "EP_BCH", doms := (List.range 4).map (fun k => 45 + k), us := 3500, perGib := false, field := true },
  { name := "EP_SRAM", doms := (List.range 4).map (fun k => 45 + k), us := 1200, perGib := false, field := true },
  { name := "LN_LOOP", doms := (List.range 9).map (fun k => 17 + k), us := 2500, perGib := false, field := true },
  { name := "LN_EYE", doms := (List.range 9).map (fun k => 17 + k), us := 4000, perGib := false, field := true },
  { name := "SF_LOOP", doms := [26], us := 800, perGib := false, field := true },
  { name := "SF_SRAM", doms := [26], us := 1500, perGib := false, field := true },
  { name := "SM_LOOP", doms := [27, 28], us := 1800, perGib := false, field := true },
  { name := "SM_EYE", doms := [27, 28], us := 4000, perGib := false, field := true },
  { name := "CP_KAT", doms := (List.range 4).map (fun k => 33 + k), us := 600, perGib := false, field := true },
  { name := "CP_SCAN", doms := (List.range 4).map (fun k => 33 + k), us := 2000, perGib := false, field := true },
  { name := "IC_KAT", doms := [38], us := 400, perGib := false, field := true },
  { name := "IC_SCAN", doms := [38], us := 1500, perGib := false, field := true },
  { name := "QQ_SRAM", doms := (List.range 4).map (fun k => 39 + k), us := 1000, perGib := false, field := true },
  { name := "QQ_SCAN", doms := (List.range 4).map (fun k => 39 + k), us := 2000, perGib := false, field := true },
  { name := "T1_TCM", doms := [50], us := 1600, perGib := false, field := true },
  { name := "T1_CORE", doms := [50], us := 3000, perGib := false, field := true } ]

/-- SW21 to SW40 (Table LCS-4). -/
def swatchesB : List Swatch := [
  { name := "KV_SRAM", doms := [37], us := 500, perGib := false, field := false },
  { name := "KV_AES", doms := [37], us := 800, perGib := false, field := false },
  { name := "DC_SCAN", doms := [29, 31], us := 3000, perGib := false, field := false },
  { name := "DC_SRAM", doms := [29, 31], us := 2000, perGib := false, field := false },
  { name := "DP_LOOP", doms := [30, 32], us := 2000, perGib := false, field := false },
  { name := "DR_MARCH", doms := [29, 31], us := 4000000, perGib := true, field := false },
  { name := "DR_RETAIN", doms := [29, 31], us := 500000, perGib := true, field := false },
  { name := "MP_SRAM", doms := [43], us := 25000, perGib := false, field := false },
  { name := "MP_SCAN", doms := [43], us := 4000, perGib := false, field := false },
  { name := "MV_SCAN", doms := [44], us := 4000, perGib := false, field := false },
  { name := "T0_TCM", doms := [49], us := 1600, perGib := false, field := false },
  { name := "T0_CORE", doms := [49], us := 3000, perGib := false, field := false },
  { name := "ROM_SIG", doms := [0], us := 500, perGib := false, field := false },
  { name := "AON_SRAM", doms := [0], us := 1000, perGib := false, field := false },
  { name := "AON_SCAN", doms := [0], us := 2000, perGib := false, field := false },
  { name := "CMP_SWEEP", doms := [0], us := 8000, perGib := false, field := false },
  { name := "ADC_LIN", doms := [0], us := 10000, perGib := false, field := false },
  { name := "PLL_RATIO", doms := [0], us := 6000, perGib := false, field := false },
  { name := "FUSE_MARGIN", doms := [0], us := 1000, perGib := false, field := false },
  { name := "FAB_FENCE", doms := [0], us := 800, perGib := false, field := false } ]

/-- Table LCS-4. -/
def swatch (n : Nat) : Option Swatch := if n = 0 then none else (swatchesA ++ swatchesB)[n - 1]?

/-- GiB of a channel's populated ranks, at most the 32 GiB a channel may hold (Table DRC-9). -/
def State.chGib (s : State) (d : Nat) : Nat :=
  let n := (d - 29) / 2
  let each := match s.get (DRC_CFG.DENS n) with | 0 => 8 | 1 => 12 | _ => 16
  min 32 (((List.range 3).filter (fun r => (s.get (DRC_CFG.POP n)).testBit r)).length * each)

/-- A swatch's budget on a domain in µs. -/
def State.swatchUs (s : State) (w : Swatch) (d : Nat) : Nat := if w.perGib then w.us * s.chGib d else w.us

/-- The bound of a run (R960). -/
def State.runBound (s : State) (sw d : Nat) : Nat :=
  if s.get LCS_STATE.STATE = 2 then 5000
  else match swatch sw with | some w => s.swatchUs w d | none => 0

/-- Table LCS-3, in order. -/
def State.runRefusal (s : State) (sw d : Nat) : Option Status :=
  if s.notReadyNow then some .notReady
  else
    match swatch sw with
    | none => some .badArg
    | some w =>
      if !w.doms.contains d then some .badArg
      else if s.get LCS_STATE.STATE = 4 ∨ (s.get LCS_STATE.STATE = 2 ∧ w.field = false) then some .lifecycle
      else if s.flag (PWR_DSTAT.OFFABLE d) then (if s.dom d = 0 ∧ s.flag (PWR_DSTAT.CMD_OFF d) = true then none else some .wrongState)
      else if s.factory then none
      else some .wrongState

/-- A request that is refused shows in BIST_STAT. -/
def State.runRefused (s : State) (st : Status) : State :=
  ((s.set BIST_STAT.BUSY 0).set BIST_STAT.RESULT 5).set BIST_STAT.STATUS st.code

/-- A run begins (R957, R958): its domain is switched on behind a fence, or the card quiesces and writes a clean checkpoint. -/
def State.beginRun (s : State) (sw d : Nat) (path : Option Path) (job : Bool) : State :=
  let s1 := if s.flag (PWR_DSTAT.OFFABLE d) then s.fence d else s.cleanCheckpoint.1
  let s2 := { s1 with life := { s1.life with run := some { swatch := sw, dom := d, startUs := s1.clk, path := path, job := job } } }
  (s2.set BIST_STAT.BUSY 1)

/-- Bytes of an array whose contents a swatch leaves undefined. -/
def freeBytes (k off n : Nat) : Bytes := (List.range n).map (fun i => Config.sramByte k (off + i))

/-- What a swatch that destroys contents leaves (Table LCS-4): free values. -/
def State.destroyed (s : State) (sw d : Nat) : State :=
  if sw = 26 ∨ sw = 27 then
    let n := (d - 29) / 2
    let gone (c : DramCh) : DramCh := { c with lines := [], tags := [], tagBad := [], tagWrong := [], tcache := [], merge := [], reads := [], wq := [], issued := [] }
    { s with dram := { s.dram with ch := (s.dram.ch.set n (gone (s.dram.ch.getD n DramCh.reset))) } }
  else if sw = 34 then
    let k := s.free
    let log := (List.range 64).map (fun i => (i, freeBytes k (32 * i) 32))
    let mtr (p i : Nat) : Meter :=
      let b := freeBytes k (4096 + 1024 * p + 32 * i) 18
      { acc := leNat (b.take 5), tot := leNat ((b.drop 5).take 8), spill := leNat ((b.drop 13).take 2) }
    let minutes := s.htg.minutes.map (fun x => (x.1, { x.2 with meters := (List.range 8).map (mtr x.1) }))
    let ring (x : Nat × List Bucket) : Nat × List Bucket :=
      (x.1, ((List.range x.2.length).zip x.2).map (fun ib => { ib.2 with bytes := freeBytes k (524288 + 4096 * x.1 + 128 * ib.1) 128 }))
    ({ s with access := { s.access with log := log }, htg := { s.htg with minutes := minutes, rings := s.htg.rings.map ring } }).useFree
  else s

/-- A run ends (R957, R958, R960, R961): `res` is 1 PASS, 2 FAIL, 3 TIMEOUT, 4 ABORTED. -/
def State.endRun (s : State) (r : BistRun) (res detail us : Nat) : State :=
  let w := r.swatch
  let names := ["NONE", "PASS", "FAIL", "TIMEOUT", "ABORTED"]
  let s0 := { s with life := { s.life with run := none } }
  let s1 := ((((s0.set BIST_CTL.START 0).set BIST_STAT.BUSY 0).set BIST_STAT.RESULT res).set BIST_STAT.STATUS (if res = 3 then 0x505 else 0))
  let s2 := (s1.setSat BIST_TIME.US (us - r.startUs)).set BIST_DETAIL.DETAIL (if res = 1 then 0 else detail)
  let s3 := (((s2.set (BIST_RES.RESULT w) res).set (BIST_RES.DOMAIN w) r.dom).count (BIST_RES.FAILS w) (if res = 2 ∨ res = 3 then 1 else 0)).count
    (BIST_RES.RUNS w) 1
  let s4 := s3.destroyed w r.dom
  let s5 := if res = 2 ∨ res = 3 then
      s4.notify "bist fail" [("swatch", swatchId w), ("domain", domainId r.dom), ("result", names.getD res "NONE"), ("detail", hex0x 8 detail)]
    else s4
  let s6 := match r.path with
    | none => { s5 with col := { s5.col with t0Lock := false } }
    | some p =>
      if res = 4 then
        (s5.unlock p).setSession p { (s5.unlock p).session p with await := none }
      else if r.job then s5.endJobOf "bist run" (if res = 3 then .timeout else .done)
      else if res = 3 then s5.finishFor (.bist w) (fun t => .er t .timeout)
      else
        s5.finishFor (.bist w) (fun t => .ok t [] ([("swatch", swatchId w), ("domain", domainId r.dom), ("result", names.getD res "NONE"),
          ("us", dec (us - r.startUs))] ++ (if res = 2 then [("detail", hex0x 8 detail)] else [])))
  if s6.flag (PWR_DSTAT.OFFABLE r.dom) then
    ((if res = 3 then s6.clearDomain r.dom else s6).fence r.dom).setDom r.dom 0
  else if res = 4 then (if r.dom = 0 then s6 else s6.fenceOff r.dom)
  else if r.dom = 0 then s6.beginReset .cold causeBist
  else s6.beginReset .warm causeBist

/-- A swatch that keeps the card from detecting a removal trigger (R959). -/
def State.blind (s : State) : Bool := match s.life.run with | some r => r.swatch == 35 || r.swatch == 36 | none => false

/-- A fault of a domain that calls for its reset: the run on that domain, if there is one, ends with FAIL, and its reset applies (R968); the
rules give no DETAIL for it, and it is a free value. -/
def State.runFault (s : State) (d cause : Nat) : State :=
  match s.life.run with
  | some r => if r.dom = d then (s.useFree).endRun r 2 (Config.random32 s.free).toNat s.clk else s.faultReset d cause
  | none => s.faultReset d cause

end Sys2Proof.Machine
end

