-- ==== Sys2Proof/Machine/DramOps.lean ====
section
/-!
DEFINITION. Sys2Proof/Machine/DramOps.lean: DRAM addresses, ranks, the tag cache, the scheduler's choices, activate counting, the merge
buffer, and what a rank's failure starts (chapter 10, R512 to R524, R676 to R693).
-/
namespace Sys2Proof.Machine
open Sys2Proof

/-! ### The channels -/

/-- A channel of the card. -/
def State.drc (s : State) (n : Nat) : DramCh := if n = 0 then (s.dram.ch.getD 0 DramCh.reset) else (s.dram.ch.getD 1 DramCh.reset)

def State.setDrc (s : State) (n : Nat) (c : DramCh) : State := { s with dram := { s.dram with ch := s.dram.ch.set n c } }

/-- Does the channel serve traffic: trained or restored, its controller and PHY domains IN (R548, R753)? -/
def State.drcServes (s : State) (n : Nat) : Bool :=
  (s.get (DRC_STAT.TRAIN n) == 2 || s.get (DRC_STAT.TRAIN n) == 3) && s.domIn (29 + 2 * n) && s.domIn (30 + 2 * n)

/-- Lines of a rank: 8, 12 or 16 GiB of data by density (R541, Table DRC-10). -/
def State.rankLines (s : State) (n : Nat) : Nat :=
  2 ^ 24 * (match s.get (DRC_CFG.DENS n) with | 0 => 8 | 1 => 12 | _ => 16)

/-- Lines of a channel's active ranks. -/
def State.chLines (s : State) (n : Nat) : Nat := 2 ^ 24 * s.get (DRC_STAT.SIZE_GIB n)

/-- S, the total size of the active ranks in bytes (R549). -/
def State.dramSize (s : State) : Nat := 2 ^ 30 * (s.get (DRC_STAT.SIZE_GIB 0) + (if s.bothChannels then s.get (DRC_STAT.SIZE_GIB 1) else 0))

/-- The XOR of the bits of a number. -/
def parityOf : Nat → Nat → Bool
  | 0, _ => false
  | k + 1, x => xor (x.testBit k) (parityOf k x)

/-- A hash field of a channel address: f is 0 CS, 1 to 3 BG0 to BG2, 4 and 5 BA0 and BA1 (R551). -/
def State.hash (s : State) (n f c : Nat) : Nat := if parityOf 29 ((c / 64) &&& s.get (DRC_HMASK.MASK n f)) then 1 else 0

/-- Where a line lies: logical rank, bank (4 × bank group + bank address), row, column (R550 to R552). -/
structure LinePlace where
  rank : Nat
  bank : Nat
  row : Nat
  col : Nat
  deriving DecidableEq, Repr

/-- The decomposition of a channel address (R550 to R552). -/
def State.placeOf (s : State) (n c : Nat) : LinePlace :=
  let r2 := 2 * (64 * s.rankLines n)
  let two := decide (2 * s.rankLines n ≤ s.chLines n)
  let high := two && decide (r2 ≤ c)
  let x := if high then c - r2 else c
  let single := !two || high
  { rank := if high then 2 else if two then s.hash n 0 x else 0,
    bank := 4 * (s.hash n 1 x + 2 * s.hash n 2 x + 4 * s.hash n 3 x) + s.hash n 4 x + 2 * s.hash n 5 x,
    row := if single then x / 2 ^ 17 else x / 2 ^ 18,
    col := 16 * (x / 64 % 64) }

/-! ### Ranks -/

/-- The state field of a physical rank. -/
def rankFld (n r : Nat) : Fld := ⟨(DRC_RANK.STATE0 n).addr, 4 * r, 4⟩

/-- The field of ECC_DMARK for a physical rank; 0xF is none. -/
def markFld (n r : Nat) : Fld := ⟨ECC_DMARK.addr, 16 * n + 4 * r, 4⟩

/-- A channel's half of a counter that holds one count for each channel. -/
def chanFld (a n : Nat) : Fld := ⟨a, 16 * n, 16⟩

/-- The physical rank that serves a logical rank (Table DRC-10). -/
def State.physRank (s : State) (n l : Nat) : Nat :=
  if l = 0 then s.get (DRC_RANK.LOG0 n) else if l = 1 then s.get (DRC_RANK.LOG1 n) else 2

def State.setLog (s : State) (n l p : Nat) : State :=
  if l = 0 then s.set (DRC_RANK.LOG0 n) p else if l = 1 then s.set (DRC_RANK.LOG1 n) p else s

/-- The channel's spare, if it has one (Table DRC-5). -/
def State.spareOf (s : State) (n : Nat) : Option Nat := (List.range 3).find? (fun r => s.get (rankFld n r) == 5)

/-- The next line of a logical rank at or after a line (R574): a rank has half the lines of any 4,096 in a row. -/
def State.nextLine (s : State) (n l k : Nat) : Option Nat :=
  ((List.range 8192).find? (fun i => decide (k + i < s.chLines n) && (s.placeOf n (64 * (k + i))).rank == l)).map (fun i => k + i)

/-- The copy pointer in 1/1,024 parts of the rank (R575). -/
def State.copyPart (s : State) (n l k : Nat) : Nat :=
  let span := if l = 2 then s.rankLines n else if 2 * s.rankLines n ≤ s.chLines n then 2 * s.rankLines n else s.rankLines n
  let at' := if l = 2 then k - 2 * s.rankLines n else k
  min 1024 (1024 * at' / span)

/-- A migration of a rank to the spare starts (Table DRC-5, R574). -/
def State.startMigration (s : State) (n l src dst : Nat) : State :=
  let c := s.drc n
  let first := (s.nextLine n l (if l = 2 then 2 * s.rankLines n else 0)).getD (s.chLines n)
  let m : Migration := { src := src, dst := dst, logical := l, next := first }
  (((s.setDrc n { c with migration := some m }).set (rankFld n src) 3).set (rankFld n dst) 6).set (DRC_SPARE.PROGRESS n) 0

/-- A rank is due to retire without a spare (R577): RANK_SHRINK follows. -/
def State.shrinkDue (s : State) (n r : Nat) : State :=
  let c := s.drc n
  match c.shrink with
  | some _ => s
  | none => s.setDrc n { c with shrink := some r }

def rankKv (n r : Nat) : List KV := [("ch", dec n), ("rank", dec r)]

/-- A device of a physical rank is marked (R515, Table DRC-5). -/
def State.deviceMarked (s : State) (n l r d : Nat) : State :=
  let s1 := (s.set (markFld n r) d).notify "dram device marked" (rankKv n r ++ [("dev", dec d)])
  if s1.get (rankFld n r) ≠ 1 then s1
  else
    match (s1.drc n).migration, s1.spareOf n with
    | none, some t => (s1.startMigration n l r t).notify "dram rank migrate" (rankKv n r)
    | _, _ => (s1.set (rankFld n r) 2).notify "dram rank degraded" (rankKv n r)

/-- A rank has an uncorrectable line (Table DRC-5, R588). -/
def State.rankFails (s : State) (n l r : Nat) : State :=
  let c := s.drc n
  match c.migration with
  | some m =>
    if r = m.src then s
    else if r = m.dst then
      (((s.setDrc n { c with migration := none }).set (rankFld n r) 4).shrinkDue n m.src)
    else if c.failing.contains r then s
    else s.setDrc n { c with failing := c.failing ++ [r] }
  | none =>
    if s.get (rankFld n r) ≠ 1 ∧ s.get (rankFld n r) ≠ 2 then s
    else
      match s.spareOf n with
      | some t => s.startMigration n l r t
      | none => s.shrinkDue n r

/-- The line that a line's accesses go to: its remap target, where the channel's table holds it (R522). Target i is line i of the 16 highest (DEDUCED,
assumption log entry 186). -/
def State.homeLine (s : State) (n line : Nat) : Nat :=
  match (List.range 16).find? (fun i => s.flag (ECC_DREMAP.VALID n i) && s.get (ECC_DREMAP.LINE n i) == line) with
  | some i => s.chLines n - 16 + i
  | none => line

/-- The place that serves a line (R522, R550 to R552). -/
def State.linePlace (s : State) (n line : Nat) : LinePlace := s.placeOf n (64 * s.homeLine n line)

/-- The physical rank that serves a line now: a migration's target below its copy pointer (R522, R574). -/
def State.serves (s : State) (n line0 : Nat) : Nat :=
  let line := s.homeLine n line0
  let l := (s.placeOf n (64 * line)).rank
  match (s.drc n).migration with
  | some m => if m.logical = l ∧ line < m.next then m.dst else s.physRank n l
  | none => s.physRank n l

/-! ### Rings and map segments -/

/-- A submission entry (Table POC-5). -/
def Cmd.entryBytes (c : Cmd) : Bytes :=
  leBytes 1 c.opcode ++ leBytes 1 c.flags ++ leBytes 2 c.tag ++ leBytes 4 0 ++ leBytes 6 c.lba ++ leBytes 2 0 ++ leBytes 4 c.count ++ leBytes 2 c.dkey ++
    leBytes 2 c.ikey ++ leBytes 8 c.handle ++ List.replicate 32 0

/-- The entries of a queue's submission ring, oldest first: those in execution and those that wait. -/
def State.ringEntries (s : State) (q : Nat) : List Cmd :=
  (s.execs.filter (fun x => x.queue == q)).map (fun x => x.cmd) ++ (match s.queues.lookup q with | some k => k.waiting | none => [])

/-- Entry i of a queue's submission ring, and of its completion ring: entries stand in their order from the first place on (DESIGN CHOICE, assumption log
entry 183). -/
def State.submissionAt (s : State) (q i : Nat) : Option Bytes := ((s.ringEntries q)[i]?).map Cmd.entryBytes
def State.completionAt (s : State) (q i : Nat) : Option Bytes := ((s.slv.posted.filter (fun c => c.queue == q))[i]?).map (fun c => c.bytes)

/-- Page i of a segment that the card holds (R453). -/
def State.segPageBytes (s : State) (e i : Nat) : Option Bytes :=
  match s.seg e, s.segOwner e with
  | some g, some (p, n) => if g.resident then some (s.mapPage p n i (g.wseqs.getD i 0)) else none
  | _, _ => none

/-- The line of the ring or map carve-out that a card address lies in, as the card has written it (R521). Queue by queue stand the submission rings of 4,096
entries and after them the completion rings (R325), and 64 KiB apart the segments in the order of the index (DESIGN CHOICE, assumption log entry 183). -/
def State.carveLine (s : State) (a : Nat) : Option Bytes :=
  match s.carveOf "rings", s.carveOf "map" with
  | some r, some m =>
    if r.base ≤ a ∧ a < r.base + r.size then
      let o := a - r.base
      if o < 2 ^ 28 then s.submissionAt (o / 2 ^ 18) (o % 2 ^ 18 / 64)
      else
        let q := (o - 2 ^ 28) / 2 ^ 17
        let k := (o - 2 ^ 28) % 2 ^ 17 / 32
        match s.completionAt q k, s.completionAt q (k + 1) with
        | none, _ => none
        | some x, y => some (x ++ y.getD (List.replicate 32 0))
    else if m.base ≤ a ∧ a < m.base + m.size then
      let o := a - m.base
      (s.segPageBytes (o / 65536) (o % 65536 / 16384)).map (fun b => (b.drop (o % 16384 / 64 * 64)).take 64)
    else none
  | _, _ => none

/-! ### Lines -/

/-- The stamp of what a line's place holds; 0 outside the cache and the inbound area. -/
def State.lineStamp (s : State) (n line : Nat) : Nat :=
  match s.holding (s.spotOf (s.cardAddr n (64 * line))) with
  | some h => h.stamp
  | none => 0

/-- What a line holds: a cache entry or a command's inbound data where its place says so, else `said`. -/
def State.lineHolder (s : State) (n line : Nat) (said : Owner) : Owner :=
  match s.holding (s.spotOf (s.cardAddr n (64 * line))) with
  | some h => h.owner
  | none => said

/-- A line as it was last written, where its place still holds what it held then. -/
def State.lineWritten (s : State) (n line : Nat) : Option DLine :=
  ((s.drc n).lines.lookup (s.homeLine n line)).filter (fun x => x.stamp == s.lineStamp n line)

/-- A line as it stands: with the card's own bytes in the rings and in the map, as a request wrote it, else with the bytes of the cache entry or the inbound
data that its place holds. A line that was never written reads as free values (R521). -/
def State.lineOf (s : State) (n line : Nat) : DLine :=
  match s.lineWritten n line, s.holding (s.spotOf (s.cardAddr n (64 * line))) with
  | some x, _ => { x with data := (s.carveLine (s.cardAddr n (64 * line))).getD x.data }
  | none, some h => { data := ((h.bytes.drop (64 * (line % 64))).take 64), poison := false, flips := 0, stamp := h.stamp }
  | none, none =>
    let power := (List.range 64).map (fun i => Config.dramPowerUp s.free (64 * line + i))
    { data := (s.carveLine (s.cardAddr n (64 * line))).getD power, poison := false, flips := 0, stamp := 0 }

/-- Do a line's bytes stand for themselves? A line that was never written reads as free values. -/
def State.lineKnown (s : State) (n line : Nat) : Bool :=
  (s.lineWritten n line).isSome || s.lineStamp n line != 0 || (s.carveLine (s.cardAddr n (64 * line))).isSome

/-- A whole line is written; an armed injection into the channel's next write acts here, where it may (R528, R529). -/
def State.storeLine (s : State) (n line : Nat) (data : Bytes) (poison : Bool) : State :=
  let c := s.drc n
  let hit := s.flag ECC_INJ.ARM && s.get ECC_INJ.TARGET == n + 1
  let x : DLine := { data := data, poison := poison, flips := if hit then s.injFlips else 0, stamp := s.lineStamp n line }
  let s1 := s.setDrc n { c with lines := putSorted (s.homeLine n line) x c.lines }
  if hit then s1.set ECC_INJ.ARM 0 else s1

/-- A line is left as a poison line (R516): its check symbols carry the poison constant. -/
def State.poisonLine (s : State) (n line : Nat) : State := (s.storeLine n line (s.lineOf n line).data true).useFree

/-- What a line's own place holds goes to the place that serves the line now, or comes back from it. -/
def State.moveLine (s : State) (n src dst : Nat) : State :=
  let c := s.drc n
  match c.lines.lookup src with
  | none => s
  | some x => s.setDrc n { c with lines := putSorted dst x (c.lines.filter (fun y => y.1 ≠ src)) }

/-- A line of an active rank is copied, in corrected form, to a free target, and is served from there from now on (R522, R523). -/
def State.remapLine (s : State) (n line : Nat) : State :=
  let st := s.get (rankFld n (s.serves n line))
  if s.homeLine n line ≠ line ∨ st < 1 ∨ 3 < st then s
  else
    match (List.range 16).find? (fun i => !s.flag (ECC_DREMAP.VALID n i)) with
    | none => s
    | some i =>
      let s1 := ((s.set (ECC_DREMAP.LINE n i) line).set (ECC_DREMAP.VALID n i) 1).moveLine n line (s.chLines n - 16 + i)
      if (List.range 16).all (fun k => s1.flag (ECC_DREMAP.VALID n k)) then s1.notify "dram remap full" [("ch", dec n)] else s1

/-- What became of a line that was read through the decoder. -/
inductive LineEnd where
  | good
  | poison
  deriving DecidableEq, Repr

/-- What the line decoder finds (R513 to R517): no error; errors it corrects; errors it takes for others; errors beyond it, with the devices that
mismatch in the diagnosis. -/
inductive LineRes where
  | clean
  | corrected
  | wrong
  | beyond (devices : List Nat)
  deriving DecidableEq, Repr

/-- The symbols that an injection has flipped in a line: its lowest-numbered bits, which lie in device 0, 16 to a symbol (R512, R528). -/
def DLine.flipped (x : DLine) : List Nat := List.range (min 8 ((x.flips + 15) / 16))

/-- The decoder at work on a burst with these symbols in error, `mark` being the device marked (R512 to R517). Up to 4 are corrected. With a device marked
its 8 symbols are erasures and nothing is left to detect an error elsewhere: what comes out is taken for right. -/
def decodeSyms (mark : Nat) (bad : List Nat) (e : LineErrs) : LineRes :=
  if bad = [] then .clean
  else if mark ≠ 0xF then (if bad.all (fun y => y / 8 == mark) then .corrected else .wrong)
  else if bad.length ≤ 4 then .corrected
  else if e.miss then .wrong
  else .beyond e.devs

/-- The symbols of a line that a burst brings in error. -/
def State.badSyms (s : State) (n line : Nat) (e : LineErrs) : List Nat :=
  ((s.lineOf n line).flipped ++ e.syms.filter (fun y => decide (y < 40))).eraseDups

def State.lineRes (s : State) (n line : Nat) (e : LineErrs) : LineRes :=
  decodeSyms (s.get (markFld n (s.serves n line))) (s.badSyms n line e) e

/-- The bytes of a line that a miscorrection leaves: free values (R517). -/
def State.wrongLine (s : State) : Bytes := (List.range 64).map (fun i => Config.miscorrected s.free i)

/-- A correction counts, and a line corrected twice in one scrub lap is served from a remap target (R522). -/
def State.fixedLine (s : State) (n line : Nat) : State :=
  let s1 := s.count (chanFld ECC_DCORR.addr n) 1
  let c := s1.drc n
  if c.fixed.contains line then s1.remapLine n line else s1.setDrc n { c with fixed := c.fixed ++ [line] }

/-- A corrected line is written back (R518). -/
def State.corrected (s : State) (n line : Nat) (data : Bytes) : State := (s.storeLine n line data false).fixedLine n line

/-- A line is read through the decoder (R513 to R518, R522): corrected, decoded by erasures with a device marked, or uncorrectable.
`stuck` says that diagnosis shows a stuck cell. What a miscorrection makes of a line is a free value; so is what erasures of the one device that
mismatches make of a line with errors in another (R514). -/
def State.decodeLine (s : State) (n line : Nat) (e : LineErrs) (stuck : Bool) : State × LineEnd :=
  let place := s.linePlace n line
  let r := s.serves n line
  let x := s.lineOf n line
  let remap (t : State) : State := if stuck then t.remapLine n line else t
  if x.poison then (s, .poison)
  else
    match s.lineRes n line e with
    | .clean => (s, .good)
    | .corrected => (s.corrected n line x.data, .good)
    | .wrong => ((s.corrected n line s.wrongLine).useFree, .good)
    | .beyond [d] =>
      let s1 := s.count (chanFld ECC_DCORR.addr n) 1
      let s2 := if (s.badSyms n line e).all (fun y => y / 8 == d) then s1.storeLine n line x.data false else (s1.storeLine n line s.wrongLine false).useFree
      (remap (s2.deviceMarked n place.rank r d), .good)
    | .beyond _ => (remap (((s.count (chanFld ECC_DUNC.addr n) 1).poisonLine n line).rankFails n place.rank r), .poison)

/-! ### Activates and open rows -/

/-- The activate table of a bank after an activate of a row, and whether the row has reached the threshold (R571). -/
def actRow (rows : List (Nat × Nat)) (row thresh : Nat) : List (Nat × Nat) × Bool :=
  let put : List (Nat × Nat) :=
    match rows.lookup row with
    | some k => upsert row (k + 1) rows
    | none =>
      if rows.length < 16 then rows ++ [(row, 1)]
      else
        match leastBy (fun x => x.2) rows with
        | some low => rows.map (fun x => if x = low then (row, low.2 + 1) else x)
        | none => rows
  if thresh ≤ (put.lookup row).getD 0 then (upsert row 0 put, true) else (put, false)

/-- An activate of a row is counted; at the threshold its neighbours are refreshed (R571, R572). -/
def State.activate (s : State) (n rank bank row : Nat) : State :=
  let c := s.drc n
  let rows := ((c.acts.find? (fun t => t.rank == rank && t.bank == bank)).map (fun t => t.rows)).getD []
  let (rows', full) := actRow rows row (max 256 (min 32768 (s.get (DRC_ACT.THRESH n))))
  let t : ActTable := { rank := rank, bank := bank, rows := rows' }
  let s1 := s.setDrc n { c with acts := c.acts.filter (fun x => !(x.rank == rank && x.bank == bank)) ++ [t] }
  if !full then s1
  else
    let s2 := s1.count (DRC_NBR.COUNT n) 1
    if c.rfm then s2.count (DRC_RFM.COUNT n) 1 else s2

/-- Is the row of a line open in its bank? -/
def State.rowHit (s : State) (n line : Nat) : Bool :=
  let p := s.linePlace n line
  (s.drc n).rows.any (fun o => o.rank == p.rank && o.bank == p.bank && o.row == p.row)

/-- A line's row is accessed (R563, R571): under CLOSE, and for a request without the hint, with auto-precharge. -/
def State.access1 (s : State) (n line : Nat) (hint : Bool) (ns : Nat) : State :=
  let p := s.linePlace n line
  let s1 := if s.rowHit n line then s else s.activate n (s.serves n line) p.bank p.row
  let c := s1.drc n
  let others := c.rows.filter (fun o => !(o.rank == p.rank && o.bank == p.bank))
  let o : OpenRow := { rank := p.rank, bank := p.bank, row := p.row, last := ns }
  s1.setDrc n { c with rows := if hint && !c.closePage then others ++ [o] else others }

/-! ### The write queue and the merge buffer -/

/-- The bytes of a write as a list of 64. -/
def fullMask (bs : List (Option Byte)) : List (Option Byte) := (bs ++ List.replicate 64 none).take 64

/-- Later bytes over earlier ones. -/
def overlay (new old : List (Option Byte)) : List (Option Byte) :=
  (List.range 64).map (fun i => match new.getD i none with | some b => some b | none => old.getD i none)

/-- Bytes over a line. -/
def overlayLine (new : List (Option Byte)) (old : Bytes) : Bytes :=
  (List.range 64).map (fun i => (new.getD i none).getD (old.getD i 0))

def maskFull (bs : List (Option Byte)) : Bool := bs.all Option.isSome

/-- A full line enters the write queue, in the place of an entry of the same line (R566). -/
def State.queueLine (s : State) (n : Nat) (w : DReq) : State :=
  let c := s.drc n
  if c.wq.any (fun x => x.line == w.line) then
    let upd (x : DReq) : DReq := if x.line = w.line then { x with data := w.data, poison := w.poison } else x
    s.setDrc n { c with wq := c.wq.map upd }
  else s.setDrc n { c with wq := c.wq ++ [w] }

/-- Can the write queue take this line (R562)? -/
def State.wqRoom (s : State) (n line : Nat) : Bool :=
  let c := s.drc n
  decide (c.wq.length < 64) || c.wq.any (fun x => x.line == line)

/-- What a requester gets back. -/
def State.dramReply (s : State) (n : Nat) (r : DReply) : State :=
  let c := s.drc n
  s.setDrc n { c with replies := c.replies ++ [r] }

/-- A request as it arrives at a channel (R557, R594). -/
def State.newReq (s : State) (n port line ns : Nat) (hint : Bool) (o : Owner) : State × DReq :=
  let r : DReq :=
    { id := s.dram.nextId, port := port, line := line, arrived := ns,
      target := max 10 (s.get (DRC_PORT.TARGET_NS n port)), deadline := s.flag (DRC_CFG.QOS n), missed := false,
      hint := hint, owner := o, fwd := [], data := [], poison := false }
  ({ s with dram := { s.dram with nextId := s.dram.nextId + 1 } }, r)

/-- The writers of a merge entry over an uncorrectable line each get POISON (R520). -/
def State.mergePoison (s : State) (n : Nat) (m : MergeEntry) : State :=
  (m.writers.foldl (fun t w =>
    (t.dramReply n { id := w.1, port := w.2.1, status := Status.poison.code, data := [] }).accessLost w.2.2 .poison) s).settle

/-- A merge entry leaves the buffer as a full line (R519, R520, R537): over the write queue's line, or over the line read from DRAM
through the decoder; a line that is uncorrectable becomes a poison line with the merged bytes, and each writer gets POISON, unless all 64 bytes are
written (R516). -/
def State.mergeOut (s : State) (n : Nat) (m : MergeEntry) (errs : LineErrs) (ns : Nat) : State :=
  let c := s.drc n
  let s0 := s.setDrc n { c with merge := c.merge.filter (fun x => x.line ≠ m.line) }
  let (s1, r) := s0.newReq n m.port m.line ns m.hint m.owner
  match c.wq.find? (fun x => x.line == m.line) with
  | some w =>
    let bad := w.poison && !maskFull m.bytes
    let s2 := s1.queueLine n { r with data := overlayLine m.bytes w.data, poison := bad }
    if bad then s2.mergePoison n m else s2
  | none =>
    if maskFull m.bytes then s1.queueLine n { r with data := overlayLine m.bytes [] }
    else
      let (s2, e) := (s1.access1 n m.line m.hint ns).decodeLine n m.line errs false
      let s3 := s2.queueLine n { r with data := overlayLine m.bytes (s2.lineOf n m.line).data, poison := e == .poison }
      let s4 := if s2.lineKnown n m.line then s3 else s3.useFree
      if e = .good then s4 else s4.mergePoison n m

/-! ### The tag cache -/

/-- Is a channel address inside the channel's tag store (R677)? -/
def State.inTagStore (s : State) (n c : Nat) : Bool :=
  let b := 4096 * s.get ⟨TAG_TBASE0.addr + 4 * n, 0, 32⟩
  decide (b ≤ c) && decide (c < b + s.chLines n)

/-- A tag line of the store. The ROM sets every tag to 0x00 before DRAM is used; the cache manager keeps an entry's and an inbound unit's tag line at
the Pocket that owns what they hold (R678 to R680). -/
def State.storedTags (s : State) (n num : Nat) : List Nat :=
  let x := s.spotOf (s.cardAddr n (4096 * num))
  match (s.drc n).tagWrong.lookup num with
  | some (stamp, bytes) => if stamp = s.lineStamp n (64 * num) then bytes else List.replicate 64 (s.spotColour x)
  | none => if x = .nowhere then ((s.drc n).tags.lookup num).getD (List.replicate 64 0) else List.replicate 64 (s.spotColour x)

/-- A tag line as the tag cache shows it: the cache manager's writes go through it. -/
def State.tagView (s : State) (n : Nat) (t : TagLine) : TagLine :=
  if s.spotOf (s.cardAddr n (4096 * t.num)) = .nowhere then t else { t with bytes := s.storedTags n t.num }

/-- A tag line enters the tag cache over the least recently used line of its set, which is written back when dirty (R681). -/
def State.tagPut (s : State) (n : Nat) (t : TagLine) : State :=
  let c := s.drc n
  let others := c.tcache.filter (fun x => x.num ≠ t.num)
  let set' := others.filter (fun x => x.num % 256 == t.num % 256)
  let victim := if set'.length < 8 then none else leastBy (fun x => x.used) set'
  let t' := { t with used := s.dram.order }
  let c1 :=
    match victim with
    | none => { c with tcache := others ++ [t'] }
    | some v =>
      if v.dirty then
        { c with tcache := others.filter (fun x => x.num ≠ v.num) ++ [t'], tags := putSorted v.num v.bytes c.tags,
                 tagBad := c.tagBad.filter (fun k => k.1 ≠ v.num), tagWrong := c.tagWrong.filter (fun k => k.1 ≠ v.num) }
      else { c with tcache := others.filter (fun x => x.num ≠ v.num) ++ [t'] }
  let s1 := s.setDrc n c1
  { s1 with dram := { s1.dram with order := s1.dram.order + 1 } }

/-- Every line that a tag line tags is marked POISON (Table DRC-6). -/
def State.poisonTagged (s : State) (n num : Nat) : State :=
  (List.range 64).foldl (fun t i => t.poisonLine n (64 * num + i)) s

/-- The line of the tag store that holds a tag line (R677). -/
def State.tagStoreLine (s : State) (n num : Nat) : Nat := 64 * s.get ⟨TAG_TBASE0.addr + 4 * n, 0, 32⟩ + num

/-- A miscorrection has changed a tag line, as DRAM holds it: its bytes are free values (R515, R517). -/
def State.tagWrongly (s : State) (n num : Nat) : State :=
  let d := s.drc n
  let bytes := s.wrongLine.map (fun b => b.toNat)
  let stamp := s.lineStamp n (64 * num)
  let d1 := if stamp = 0 then { d with tags := putSorted num bytes d.tags }
    else { d with tagWrong := (num, (stamp, bytes)) :: d.tagWrong.filter (fun k => k.1 ≠ num) }
  (s.setDrc n d1).useFree

/-- A tag line is uncorrectable: the rank fails, and every line it tags is marked POISON (Table DRC-6). -/
def State.tagLost (s : State) (n num : Nat) : State :=
  let line := s.tagStoreLine n num
  let d := s.drc n
  let s1 := (s.count (chanFld ECC_DUNC.addr n) 1).setDrc n { d with tagBad := d.tagBad ++ [(num, s.lineStamp n (64 * num))] }
  (s1.rankFails n (s1.linePlace n line).rank (s1.serves n line)).poisonTagged n num

/-- A line of the tag store comes through the line decoder like every other (R513 to R517, R681): whether it is good. -/
def State.tagDecode (s : State) (n num : Nat) (e : LineErrs) : State × Bool :=
  let line := s.tagStoreLine n num
  let r := s.serves n line
  let bad := (e.syms.filter (fun y => decide (y < 40))).eraseDups
  match decodeSyms (s.get (markFld n r)) bad e with
  | .clean => (s, true)
  | .corrected => (s.fixedLine n line, true)
  | .wrong => ((s.tagWrongly n num).fixedLine n line, true)
  | .beyond [d] =>
    let s1 := (if bad.all (fun y => y / 8 == d) then s else s.tagWrongly n num).count (chanFld ECC_DCORR.addr n) 1
    (s1.deviceMarked n (s1.linePlace n line).rank r d, true)
  | .beyond _ => (s.tagLost n num, false)

/-- The tag line of a channel address, from the tag cache or by one read of the store, of which the burst brings `e` (R513 to R517, R681, R682, R693); none
when the tag line is uncorrectable. -/
def State.tagFetch (s : State) (n c : Nat) (e : LineErrs) : State × Option TagLine :=
  let num := c / 4096
  let d := s.drc n
  match d.tcache.find? (fun t => t.num == num) with
  | some t => ((s.count (if n = 0 then TAG_HIT0.COUNT else TAG_HIT1.COUNT) 1).tagPut n t, some (s.tagView n t))
  | none =>
    let s1 := s.count (if n = 0 then TAG_MISS0.COUNT else TAG_MISS1.COUNT) 1
    if d.tagBad.contains (num, s.lineStamp n (64 * num)) then (s1, none)
    else
      match s1.tagDecode n num e with
      | (s2, false) => (s2, none)
      | (s2, true) =>
        let t : TagLine := { num := num, bytes := s2.storedTags n num, dirty := false, used := 0 }
        (s2.tagPut n t, some t)

/-- The channel address whose tag a line has: its own, or for a remap target in use that of the line it replaces (Table ACC-5). Target i is line i of
the 16 highest (DEDUCED, assumption log entry 186). -/
def State.tagAddr (s : State) (n c : Nat) : Nat :=
  let first := s.chLines n - 16
  let i := c / 64 - first
  if first ≤ c / 64 ∧ i < 16 ∧ s.flag (ECC_DREMAP.VALID n i) = true then 64 * s.get (ECC_DREMAP.LINE n i) else c

/-- One tag is written (R680). -/
def State.tagByte (s : State) (n c value : Nat) : State :=
  match s.tagFetch n c LineErrs.none with
  | (s1, none) => s1
  | (s1, some t) => s1.tagPut n { t with bytes := t.bytes.set (c / 64 % 64) value, dirty := true }

/-! ### The scheduler -/

/-- Urgency of a request (Table DRC-4): its age in whole CORECLK cycles, each 4 / (level + 1) ns. -/
def State.urgency (s : State) (r : DReq) (ns : Nat) : Nat :=
  let l := s.get PWR_LEVEL.CUR + 1
  let a := 4 * ((ns - r.arrived) * l / 4)
  if !r.deadline then 0
  else if a * 2 < r.target * l then 0
  else if a * 4 < 3 * r.target * l then 1
  else if a < r.target * l then 2
  else 3

/-- Has a request waited longer than the guard (R561)? -/
def State.overGuard (s : State) (n : Nat) (r : DReq) (ns : Nat) : Bool :=
  decide (max 500 (s.get (DRC_GUARD.NS n)) < ns - r.arrived)

/-- The least of a list by three measures, one after the other. -/
def leastOf (a b c : DReq → Nat) (l : List DReq) : Option DReq :=
  match leastBy a l with
  | none => none
  | some x =>
    let l1 := l.filter (fun y => a y == a x)
    match leastBy b l1 with
    | none => none
    | some z => leastBy c (l1.filter (fun y => b y == b z))

/-- Has a port of the channel other than the scrubber's a request pending: a read, a write in the queue or in the merge buffer (R524)? -/
def DramCh.othersWait (c : DramCh) : Bool := c.reads.any (fun r => r.port != 7) || !c.wq.isEmpty || !c.merge.isEmpty

/-- The request that the channel issues next (R558, R560 to R562, R568). A write waits for an earlier read of its line. A scrub read that has come waits its
turn like any other (chapter 10, worked case). -/
def State.pickReq (s : State) (n : Nat) (draining : Bool) (ns : Nat) : Option DReq :=
  let c := s.drc n
  let writes := c.wq.filter (fun w => !c.reads.any (fun r => r.line == w.line && decide (r.id < w.id)))
  let late := (c.reads ++ writes).filter (fun r => s.overGuard n r ns)
  match leastBy (fun r => r.arrived) late with
  | some r => some r
  | none =>
    let pool := if draining then (if writes = [] then c.reads else writes) else (if c.reads = [] then writes else c.reads)
    match leastBy (fun r => r.arrived) pool with
    | none => none
    | some old =>
      let same := pool.filter (fun r => r.deadline == old.deadline)
      let hit (r : DReq) : Nat := if s.rowHit n r.line then 0 else 1
      if old.deadline then leastOf (fun r => 3 - s.urgency r ns) hit (fun r => r.arrived + r.target) same
      else leastOf (fun r => 7 - s.get (DRC_PORT.PRIO n r.port)) hit (fun r => r.arrived) same

/-- Does the channel serve writes now (R562)? -/
def State.drainsWrites (s : State) (n ns : Nat) : Bool :=
  let c := s.drc n
  let pressed := c.reads.any (fun r => s.urgency r ns == 3 || s.overGuard n r ns)
  !pressed && (decide (48 ≤ c.wq.length) || (c.draining && decide (16 < c.wq.length)))

/-- Requests that have reached urgency 3 are counted, each once (Table DRC-4). -/
def State.countMisses (s : State) (n ns : Nat) : State :=
  let c := s.drc n
  let late := (c.reads ++ c.wq).filter (fun r => !r.missed && s.urgency r ns == 3)
  let s1 := late.foldl (fun t r => t.count (DRC_MISS.COUNT n r.port) 1) s
  let upd (r : DReq) : DReq := if s.urgency r ns = 3 then { r with missed := true } else r
  s1.setDrc n { c with reads := c.reads.map upd, wq := c.wq.map upd }

end Sys2Proof.Machine
end

