-- ==== Sys2Proof/Machine/AccessRows.lean ====
section
/-!
DEFINITION. Sys2Proof/Machine/AccessRows.lean: MPU faults, policy extensions, the MPU lock and tag writes (chapter 12).
-/
namespace Sys2Proof.Machine
open Sys2Proof

/-- Does the address map itself refuse an access (Table MAP-1, R1118)? `access` is 0 load, 1 store, 2 fetch. -/
def State.mapRefuses (s : State) (access addr : Nat) : Bool :=
  if addr < 0x40000 then access == 1
  else if addr / 0x40000 = 0x400 ∨ addr / 0x40000 = 0x440 then false
  else if addr / 0x400000 = 0x80 ∨ addr / 0x400000 = 0x100 then access == 2
  else if 0x80000000 ≤ addr ∧ addr < 2 ^ 32 then
    let trained (n : Nat) : Bool := s.get (DRC_STAT.TRAIN n) == 2 || s.get (DRC_STAT.TRAIN n) == 3
    access == 2 || decide (s.dramSize ≤ addr - 0x80000000) || s.flag SYS_BOOTSTAT.STAGING || (!trained 0 && !trained 1)
  else true

/-- Is an access of a core refused by its MPU or by the address map (R661, R662, R1118)? -/
def State.coreRefused (s : State) (core : Nat) (p1 : Bool) (access addr : Nat) : Bool :=
  !s.mpuPermits core p1 access addr || s.mapRefuses access addr

/-- A refused access of a core: PRIV_FAULT with its record, its registers, its notice and its action (R663, R668, R669, R689). -/
def State.mpuFault (s : State) (core : Nat) (p1 : Bool) (access addr : Nat) : State :=
  let pv := if p1 then 1 else 0
  let region := (s.deciding core addr).getD 0xFF
  let s1 := (s.count (MPU_FSTAT.COUNT core) 1).set (MPU_FSTAT.ACCESS core) access
  let s2 := ((s1.set (MPU_FSTAT.PRIV core) pv).set (MPU_FSTAT.REGION core) region).set (MPU_FADDR.ADDR core) addr
  let f : FaultRec :=
    { source := 0x20 + core, access := access, colour := 0, tag := 0, priv := pv, region := region, status := .privFault,
      addr := addr, handle := 0, queue := 0, cmdTag := 0 }
  let s3 := (s2.logFault f).notify "mpu fault" [("core", "T" ++ dec core), ("priv", "P" ++ dec pv), ("addr", hex0x 8 addr)]
  s3.coreFault core p1 causeMpu

/-- MPU_FAULT (R663, R667 to R669, R689, R1118): an access that the regions or the address map refuse. An access they permit raises
nothing. T0 always runs at P0. -/
def execMpuFault (core : Nat) (p1 : Bool) (access addr us : Nat) (s0 : State) : Host.Outcome State Fault Refusal :=
  let s := s0.at us
  if 2 ≤ core ∨ 3 ≤ access ∨ (core = 0 ∧ p1 = true) ∨ s.domIn (49 + core) = false ∨ s.coreRefused core p1 access addr = false then .next s
  else .next (s.mpuFault core p1 access addr)

/-! ### Policy extensions -/

/-- A region descriptor of an extension header (Table ACC-2). -/
structure ExtRegion where
  base : Nat
  n : Nat
  attr : Nat
  deriving DecidableEq, Repr

/-- The eight descriptors, for regions 8 to 15. -/
def extRegions (img : Bytes) : List ExtRegion :=
  (List.range 8).map (fun i =>
    let d := (img.drop (16 + 8 * i)).take 8
    { base := leNat (d.take 4), n := (d.getD 4 0).toNat, attr := (d.getD 5 0).toNat : ExtRegion })

def allZero (b : Bytes) : Bool := b.all (fun x => x == 0)

/-- The region a descriptor covers: its first address and its size. -/
def ExtRegion.span (r : ExtRegion) : Nat × Nat :=
  let k := 2 ^ clamp 5 32 r.n
  (r.base / k * k, k)

/-- Is a region block one an extension may be granted (Tables ACC-4, MAP-2)? -/
def grantable (k : Nat) : Bool :=
  (decide (0x4000 ≤ k ∧ k ≤ 0x4012) && k != 0x400B && k != 0x400C && k != 0x400F && k != 0x4010) ||
    decide (0x4020 ≤ k ∧ k ≤ 0x4031)

/-- Table ACC-4. -/
def ExtRegion.allowed (r : ExtRegion) : Bool :=
  let (b, k) := r.span
  if 0x11020000 ≤ b ∧ b + k ≤ 0x11040000 then r.attr == 1 || r.attr == 3 || r.attr == 5
  else if k ≤ 0x10000 ∧ grantable (b / 0x10000) = true then r.attr == 1 || r.attr == 3
  else false

/-- Table ACC-3, in order: none when the image passes. -/
def State.extCheck (s : State) (img : Bytes) (slot : Nat) : Option Status :=
  let len := leNat ((img.drop 4).take 4)
  let rs := (extRegions img).filter (fun r => r.n != 0)
  let zeros := allZero ((img.drop 12).take 4) && allZero ((img.drop 80).take 32) &&
    (List.range 8).all (fun i => allZero ((img.drop (22 + 8 * i)).take 2))
  if leNat (img.take 4) ≠ 0x31455842 ∨ len < 128 ∨ 131072 < len ∨ len ≠ img.length ∨ zeros = false then some .badArg
  else
    match s.keys.slots.lookup slot with
    | none => some .keyEmpty
    | some k =>
      if k.state ≠ .loaded ∨ k.kind ≠ 6 then some .keyEmpty
      else if 512 ≤ slot ∨ k.owner ≠ 0 ∨ cmac k.material (img.take 112 ++ img.drop 128) ≠ (img.drop 112).take 16 then some .macMismatch
      else if !(rs.all ExtRegion.allowed) then some .privFault
      else
        let entry := 0x11020000 + leNat ((img.drop 8).take 4)
        if rs.any (fun r => r.attr.testBit 2 && decide (r.span.1 ≤ entry ∧ entry < r.span.1 + r.span.2)) then none else some .badArg

/-- P1 execution is halted and regions 8 to 15 of T1 are disabled (R673, R675, R695). -/
def State.haltExt (s : State) : State :=
  (List.range 8).foldl (fun t i => t.set (MPU_RATTR.EN 1 (8 + i)) 0) (s.set (MPU_CTL.P1ACT 1) 0)

/-- May the extension start now (R674)? -/
def State.extMayStart (s : State) : Bool :=
  s.ready && !s.boot.retry && (s.get SYS_STRAP.BOOT_SEL == 0 || (s.get SYS_STRAP.BOOT_SEL == 3 && !s.factory)) && !s.limp && s.get MPU_EXT.STATE != 2 && s.domIn 50

/-- Regions 8 to 15 as the descriptors ask, P0 with R and W (R672, R673, R675). -/
def State.programRegions (s : State) (rs : List ExtRegion) : State :=
  ((List.range 8).zip rs).foldl (fun t ir =>
    let i := 8 + ir.1
    let r := ir.2
    if r.n = 0 then t.setWord (MPU_RATTR.addr 1 i) 0
    else
      let t1 := t.set (MPU_RBASE.BASE 1 i) (r.base / 32)
      let t2 := ((t1.set (MPU_RATTR.N 1 i) r.n).set (MPU_RATTR.P1 1 i) r.attr).set (MPU_RATTR.P0 1 i) 3
      t2.set (MPU_RATTR.EN 1 i) 1) s

/-- The stored image is loaded into the extension area, which is bank 1 of T1's TCM (R670, R675). -/
def State.loadExt (s : State) (img : Bytes) : State :=
  let cells := (((List.range img.length).zip img).filter (fun x => x.2 != 0)).map (fun x => (0x11020000 + x.1, x.2))
  let m := s.access.sram
  { s with access := { s.access with
    sram := m.filter (fun c => decide (c.1 < 0x11020000)) ++ cells ++ m.filter (fun c => decide (0x11020000 + img.length ≤ c.1)) } }

/-- The ROM starts the stored extension (R675). -/
def State.startExt (s : State) : State :=
  match s.access.ext with
  | none => s
  | some (img, slot) =>
    let s1 := s.haltExt.loadExt img
    match s1.extCheck img slot with
    | some st => (s1.set MPU_EXT.STATE 2).notify "mpu ext rejected" [("status", hex0x 3 st.code)]
    | none => ((s1.programRegions (extRegions img)).set (MPU_CTL.P1ACT 1) 1).set MPU_EXT.STATE 1

/-- EXTENSION_START (R84, R673 to R675, R967): at READY, after a restart of T1 and after any reset that covers D50. -/
def execExtensionStart (s : State) : Host.Outcome State Fault Refusal :=
  if s.extMayStart = true ∧ s.flag (MPU_CTL.P1ACT 1) = false then .next s.startExt else .next s

/-! ### Register actions -/

/-- May a core at a privilege write the MPU registers of a core (R664)? T0 may write T1's while T1 is halted. -/
def State.mpuWriter (s : State) (core writer : Nat) (p1 : Bool) : Bool :=
  !p1 && (writer == core || (writer == 0 && core == 1 && !s.domIn 50))

/-- MPU_LOCK (R664, R665): LOCK is set and holds until the core's domain is reset. -/
def execMpuLock (core writer : Nat) (p1 : Bool) (s : State) : Host.Outcome State Fault Refusal :=
  if core < 2 ∧ s.mpuWriter core writer p1 = true ∧ s.dom (49 + core) ≠ 0 then .next (s.set (MPU_CTL.LOCK core) 1) else .next s

/-- TAG_WCTL.START of a core (R680, R1124): VALUE becomes the tag of LINE, or the write is refused for a line of the cache or of the inbound
area. -/
def State.tagWrite (s : State) (core value : Nat) : State :=
  let s1 := s.setOn core TAG_WCTL.VALUE value
  let a := 64 * s.getOn core TAG_WADDR.LINE
  let (n, c) := s.chanOf a
  if s.inCarve "cache" a ∨ s.inCarve "inbound" a then s1.setOn core TAG_WCTL.ERR 1
  else if s.dramSize ≤ a ∨ s.drcServes n = false ∨ s.inTagStore n c = true then s1.setOn core TAG_WCTL.ERR 0
  else (s1.setOn core TAG_WCTL.ERR 0).tagByte n c (value % 256)

/-- TAG_WRITE (R680): from P0 alone. -/
def execTagWrite (core value : Nat) (p1 : Bool) (s : State) : Host.Outcome State Fault Refusal :=
  if p1 = true ∨ 2 ≤ core then .next s else .next (s.tagWrite core value)

end Sys2Proof.Machine
end

