-- ==== Sys2Proof/Machine/SessionRows.lean ====
section
/-!
DEFINITION. Sys2Proof/Machine/SessionRows.lean: the commands `hello`, `id`, `ver`, `line` and `clock` (chapters 03 and 19).
-/
namespace Sys2Proof.Machine
open Sys2Proof

/-- The roles O, H and M of Tables CMDA-1 and CMDB-1. -/
def rolesOHM : List Role := [.operator, .host, .mantle]

/-- A reading form and a changing form. -/
def reading (roles : List Role) (needs : List Nat) : Form := { changing := false, roles := roles, needs := needs }
def changing (roles : List Role) (needs : List Nat) : Form := { changing := true, roles := roles, needs := needs }

/-- A line's command at a time: what R975 demands of every command, then the line's own arguments (R147), then the command. -/
def State.cmd (s : State) (c : Say) (ln : Ln) (us : Nat) (f : Form) (body : State → State × Result) : Host.Outcome State Fault Refusal :=
  .next ((s.at us).runLine c ln f false (fun t => if ln.bad then (t, .fail .badArg) else body t))

/-- The same for a command that is answered before READY too (R82). -/
def State.cmdEarly (s : State) (c : Say) (ln : Ln) (us : Nat) (f : Form) (body : State → State × Result) : Host.Outcome State Fault Refusal :=
  .next ((s.at us).runLine c ln f true (fun t => if ln.bad then (t, .fail .badArg) else body t))

/-- A value of a setting within a range, where it is given. -/
def within (v : Option Nat) (lo hi : Nat) : Bool := match v with | some n => decide (lo ≤ n) && decide (n ≤ hi) | none => true

/-- A setting is kept where it is given (R1019, R1024, R1028, R1031, R1047, R1058, R1062, R1065). -/
def State.keepIf (s : State) (f : Fld) : Option Nat → State
  | some v => s.keep f v
  | none => s

/-- A switch as a field value. -/
def bit01 (b : Bool) : Nat := if b then 1 else 0

/-! ### hello -/

/-- `hello` is open on every path, to a Seam source with no role too (R895). -/
def helloForm : Form := reading [.operator, .host, .mantle, .service, .none] []

/-- The name of a path in `hello` (chapter 19), and its code in the challenge block (Table COL-8). -/
def pathName : Path → String
  | .collar => "collar"
  | .mgt => "mgt"
  | .seam _ => "seam"
def pathCode : Path → Nat
  | .collar => 1
  | .mgt => 2
  | .seam _ => 3

/-- A path's session takes a role; a Seam session that returns to its start stores none. -/
def State.takeRole (s : State) (p : Path) (r : Role) : State :=
  s.setSession p { s.session p with role := if r = .mantle then .none else r }

/-- HELLO (R976): `hello` alone. -/
def execHello (ln : Ln) (us : Nat) (s : State) : Host.Outcome State Fault Refusal :=
  s.cmdEarly (Say.hello us) ln us helloForm (fun t => (t, .ok []
    [("role", roleName (t.roleOf ln.path)), ("path", pathName ln.path), ("life", lifeLower (t.get LCS_STATE.STATE))]))

/-- SERVICE is asked for without a response (R176, R179, R180, R182, R184, R185, R978): granted outside FIELD, else a challenge is drawn.
`us` is the time of the last character of its reply (R183). R184 speaks of an empty WK63: a RETIRING one is refused with KEY_EMPTY as well
(DESIGN CHOICE, assumption log entry 163). -/
def State.askService (s : State) (p : Path) (us : Nat) : State × Result :=
  if s.get LCS_STATE.STATE ≠ 2 then (s.takeRole p .service, .ok [] [("role", "SERVICE")])
  else if s.col.lockout then (s, .busy)
  else if (s.slot 575).state ≠ .loaded then (s, .fail .keyEmpty)
  else
    let n := (Config.random32 s.free).toNat
    let c : Challenge := { num := n, issuedUs := us }
    (s.useFree.setSession p { s.session p with chal := some c }, .ok [] [("challenge", hexPlain 8 n), ("ttl", "60")])

/-- HELLO_ROLE (R186, R977): the path returns to its starting role; any other name is refused. -/
def execHelloRole (ln : Ln) (role : Role) (us : Nat) (s : State) : Host.Outcome State Fault Refusal :=
  s.cmdEarly (Say.helloRole role us) ln us helloForm (fun t =>
    if role = .service then t.askService ln.path us
    else if role = .none ∨ role ≠ t.startRole ln.path then (t, .fail .role)
    else (t.takeRole ln.path role, .ok [] [("role", roleName role)]))

/-- HELLO_SERVICE (R978). -/
def execHelloService (ln : Ln) (us : Nat) (s : State) : Host.Outcome State Fault Refusal :=
  s.cmdEarly (Say.helloService us) ln us helloForm (fun t => t.askService ln.path us)

/-- The correct response to a challenge (R181, Table COL-8). -/
def State.response (s : State) (p : Path) (num : Nat) : Bytes :=
  let blk := leBytes 4 num ++ leBytes 4 (s.get SYS_SERIAL.SERIAL) ++ leBytes 1 (pathCode p) ++ List.replicate 7 0
  (aesEnc (s.slot 575).material blk).take 8

/-- HELLO_RESPONSE (R183 to R185, R654, R979): `resp` are the 8 bytes of the response. -/
def execHelloResponse (ln : Ln) (resp : Bytes) (us : Nat) (s : State) : Host.Outcome State Fault Refusal :=
  s.cmdEarly (Say.helloResponse resp us) ln us helloForm (fun t =>
    if t.get LCS_STATE.STATE ≠ 2 then t.askService ln.path us
    else if resp.length ≠ 8 then (t, .fail .badArg)
    else
      let x := t.session ln.path
      let t1 := t.setSession ln.path { x with chal := none }
      match x.chal with
      | none => (t1, .fail .wrongState)
      | some c =>
        if c.issuedUs + 60000000 < us then (t1, .fail .wrongState)
        else if (t.slot 575).state ≠ .loaded then (t1, .fail .keyEmpty)
        else if resp = t.response ln.path c.num then (t1.takeRole ln.path .service, .ok [] [("role", "SERVICE")])
        else ({ t1 with col := { t1.col with lockout := true } }, .fail .role))

/-! ### id and ver -/

/-- The causes of LIMP in replies, in lower case (R974). -/
def limpLower (c : Nat) : String := ["none", "checker", "fuse", "repair", "bootarea", "stall"].getD c "none"

/-- ID (R33, R113, R115, R980). -/
def execId (ln : Ln) (us : Nat) (s : State) : Host.Outcome State Fault Refusal :=
  s.cmdEarly (Say.id us) ln us (reading rolesOHM []) (fun t => (t, .ok []
    [("part", "BX640"), ("step", "B0"), ("code", if t.get SYS_ID.CODE = 1 then "BX640-E0" else "BX640-C0"),
     ("serial", hexPlain 8 (t.get SYS_SERIAL.SERIAL)),
     ("slot", if t.flag SYS_STRAP.SLOT_VALID then slotId (t.get SYS_STRAP.SLOT_ID) else "none"),
     ("boot", if t.limp then "limp" else if t.ready then "service" else "start"), ("stage", onOff t.staging),
     ("map", if t.flag SYS_BOOTSTAT.MAP_RESIDENT then "resident" else "paging"),
     ("limp", if t.limp then limpLower (t.get SYS_LIMP.CAUSE) else "none")]))

/-- Names of MPU_EXT.STATE's codes (R981). -/
def extName (n : Nat) : String := ["none", "running", "stopped", "loading"].getD n "none"

/-- VER (R981). -/
def execVer (ln : Ln) (us : Nat) (s : State) : Host.Outcome State Fault Refusal :=
  s.cmdEarly (Say.ver us) ln us (reading rolesOHM []) (fun t =>
    let st := t.get MPU_EXT.STATE
    (t, .ok [] [("baleong", "2.1"), ("rom", dec Config.romRevision.1 ++ "." ++ dec Config.romRevision.2), ("ext", extName st),
      ("extlen", dec (if st = 0 then 0 else t.get MPU_EXTLEN.LENGTH))]))

/-! ### line -/

/-- `line` acts on the Collar session alone: on another path it is refused with WRONG_STATE whatever role the path holds (R154). -/
def State.lineCmd (s : State) (c : Say) (ln : Ln) (us : Nat) (body : State → State × Result) : Host.Outcome State Fault Refusal :=
  if ln.path = .collar then s.cmd c ln us (reading [.operator] []) body
  else .next ((s.at us).runLine c ln helloForm false (fun t => (t, .fail .wrongState)))

/-- LINE_SHOW (R986): the rate BAUD_DIV gives, in whole baud. -/
def execLineShow (ln : Ln) (us : Nat) (s : State) : Host.Outcome State Fault Refusal :=
  s.lineCmd (Say.lineShow us) ln us (fun t => (t, .ok []
    [("speed", dec (roundDiv 800000000 (max 1 (t.get SYS_COLCFG.BAUD_DIV)))),
     ("mode", if t.flag SYS_COLCFG.STRICT then "strict" else "typed"), ("cts", onOff (t.flag SYS_COLCFG.CTS_EN))]))

/-- LINE_SPEED (R135 to R139): the switch follows the reply. -/
def execLineSpeed (ln : Ln) (speed : Nat) (us : Nat) (s : State) : Host.Outcome State Fault Refusal :=
  s.lineCmd (Say.lineSpeed speed us) ln us (fun t =>
    if speed < 9600 ∨ 3000000 < speed then (t, .fail .badArg)
    else ({ t with col := { t.col with switchDiv := some (roundDiv 800000000 speed) } }, .ok [] []))

/-- LINE_MODE (R153): the reply is in the new mode. -/
def execLineMode (ln : Ln) (strict : Bool) (us : Nat) (s : State) : Host.Outcome State Fault Refusal :=
  s.lineCmd (Say.lineMode strict us) ln us (fun t => (t.setFlag SYS_COLCFG.STRICT strict, .ok [] []))

/-- LINE_CTS (R129, R986): it acts from the first character after the reply. -/
def execLineCts (ln : Ln) (on : Bool) (us : Nat) (s : State) : Host.Outcome State Fault Refusal :=
  s.lineCmd (Say.lineCts on us) ln us (fun t => ({ t with col := { t.col with ctsNext := some on } }, .ok [] []))

/-! ### clock -/

/-- CLOCK_SHOW (R987). -/
def execClockShow (ln : Ln) (us : Nat) (s : State) : Host.Outcome State Fault Refusal :=
  s.cmd (Say.clockShow us) ln us (reading rolesOHM []) (fun t => (t, .ok []
    [("minute", dec (t.get HTG_MINUTE.MINUTE)), ("sec", dec (t.htg.phase / 10000)),
     ("source", if t.flag HTG_STAT.LOCAL then "local" else "tick"), ("sync", yesNo (!t.flag HTG_STAT.UNSYNC))]))

/-- CLOCK_SET (R891, R920, R939, R988 to R990): the counter and the place within the minute; minutes below a raised counter close. -/
def execClockSet (ln : Ln) (minute sec : Nat) (us : Nat) (s : State) : Host.Outcome State Fault Refusal :=
  s.cmd (Say.clockSet minute sec us) ln us (changing [.operator, .mantle] []) (fun t =>
    let st := t.get SEAM_MANTLE.STATE
    if 2 ^ 32 ≤ minute ∨ 60 ≤ sec then (t, .fail .badArg)
    else if st = 1 ∨ st = 2 then (t, .fail .wrongState)
    else
      let old := t.get HTG_MINUTE.MINUTE
      let t1 := ((t.set HTG_MINUTE.MINUTE minute).set HTG_STAT.UNSYNC 0)
      let t2 := { t1 with
        htg := { t1.htg with phase := 10000 * sec }, seam := { t1.seam with minuteSet := if st = 4 then some minute else none } }
      let t3 := if old < minute then t2.closeAll minute false else t2
      (t3, .ok [] [("minute", dec minute), ("sec", dec sec)]))

end Sys2Proof.Machine
end

