-- ==== Sys2Proof/Machine/AccessLines.lean ====
section
/-!
DEFINITION. Sys2Proof/Machine/AccessLines.lean: the commands `mpu`, `colour` and `log` (chapter 20).
-/
namespace Sys2Proof.Machine
open Sys2Proof

/-! ### mpu -/

/-- Three letters of `r`, `w` and `x`, with `-` for an attribute not granted (R1072). -/
def attrText (a : Nat) : String :=
  String.ofList [if a.testBit 0 then 'r' else '-', if a.testBit 1 then 'w' else '-', if a.testBit 2 then 'x' else '-']

/-- MPU_SHOW (R1072): `core` 0 T0, 1 T1. -/
def execMpuShow (ln : Ln) (core : Option Nat) (us : Nat) (s : State) : Host.Outcome State Fault Refusal :=
  s.cmd (Say.mpuShow core us) ln us (reading rolesOHM (if core = some 1 then [50] else [])) (fun t =>
    let c := core.getD 1
    if 1 < c then (t, .fail .badArg)
    else if t.dom (49 + c) = 0 then (t, .fail .domainOff)
    else
      let row (i : Nat) : List KV :=
        [("region", dec i), ("en", yesNo (t.flag (MPU_RATTR.EN c i))), ("base", hex0x 8 (32 * t.get (MPU_RBASE.BASE c i))),
         ("n", dec (t.get (MPU_RATTR.N c i))), ("p0", attrText (t.get (MPU_RATTR.P0 c i))), ("p1", attrText (t.get (MPU_RATTR.P1 c i)))]
      (t, .ok ((List.range 16).map row) [("n", "16"), ("ext", extName (t.get MPU_EXT.STATE)), ("length", dec (t.get MPU_EXTLEN.LENGTH)),
        ("key", keySlotId (t.get MPU_EXT.KEYSLOT)), ("restarts", dec (t.get MPU_EXT.RESTARTS))]))

def State.setImage (s : State) (i : Option (Path × Nat × Bytes)) : State := { s with access := { s.access with image := i } }

/-- MPU_LOAD (R1068, R1112): the buffer is the issuing path's, and empty. -/
def execMpuLoad (ln : Ln) (length us : Nat) (s : State) : Host.Outcome State Fault Refusal :=
  s.cmd (Say.mpuLoad length us) ln us (changing [.operator] []) (fun t =>
    if length < 128 ∨ 131072 < length then (t, .fail .badArg)
    else (t.setImage (some (ln.path, length, [])), .ok [] [("bytes", "0"), ("length", dec length)]))

/-- The bytes that a path's image buffer holds and its length. -/
def State.imageOf (s : State) (p : Path) : Option (Nat × Bytes) :=
  match s.access.image with
  | some (q, n, b) => if q = p then some (n, b) else none
  | none => none

/-- MPU_ADD (R1069). -/
def execMpuAdd (ln : Ln) (off : Nat) (hex : Bytes) (us : Nat) (s : State) : Host.Outcome State Fault Refusal :=
  s.cmd (Say.mpuAdd off hex us) ln us (changing [.operator] []) (fun t =>
    match t.imageOf ln.path with
    | none => (t, .fail .wrongState)
    | some (n, b) =>
      if hex = [] ∨ 16 < hex.length ∨ off ≠ b.length ∨ n < b.length + hex.length then (t, .fail .badArg)
      else (t.setImage (some (ln.path, n, b ++ hex)), .ok [] [("bytes", dec (b.length + hex.length))]))

/-- An image is admitted (R673 to R675, R695, R1070): the running extension is halted, the image stored, STOPPED cleared, and the image
started where R674 permits. -/
def State.admitExt (s : State) (img : Bytes) (slot : Nat) : State × Result :=
  let s1 := s.haltExt
  let s2 := (({ s1 with access := { s1.access with ext := some (img, slot) } }).showExt).set MPU_EXT.STATE 0
  let may := s2.extMayStart
  let s3 := if may then s2.startExt else s2
  (s3, .ok [] [("state", if may then "running" else "held"), ("length", dec img.length),
    ("regions", dec ((extRegions img).filter (fun r => r.n != 0)).length)])

/-- MPU_ADMIT (R670 to R675, R695, R1070): the buffer is emptied whatever the outcome. -/
def execMpuAdmit (ln : Ln) (slot us : Nat) (s : State) : Host.Outcome State Fault Refusal :=
  s.cmd (Say.mpuAdmit slot us) ln us (changing [.operator] []) (fun t =>
    let t1 := t.setImage none
    match t.imageOf ln.path with
    | none => (t1, .fail .wrongState)
    | some (n, b) =>
      if b.length ≠ n then (t1, .fail .wrongState)
      else if 511 < slot then (t1, .fail .badArg)
      else
        match t1.extCheck b slot with
        | some st => (t1, .fail st)
        | none => t1.admitExt b slot)

/-- MPU_REMOVE (R675, R695, R1071). -/
def execMpuRemove (ln : Ln) (us : Nat) (s : State) : Host.Outcome State Fault Refusal :=
  s.cmd (Say.mpuRemove us) ln us (changing [.operator] []) (fun t =>
    let t1 := t.haltExt
    let t2 := (({ t1 with access := { t1.access with ext := none } }).showExt).set MPU_EXT.STATE 0
    (t2, .ok [] [("state", "none")]))

/-! ### colour -/

/-- The card DRAM address of a channel's tag store (R677). -/
def State.tagBase (s : State) (n : Nat) : Nat := s.cardAddr n (4096 * s.get ⟨TAG_TBASE0.addr + 4 * n, 0, 32⟩)

/-- COLOUR_SHOW (R677, R1073). -/
def execColourShow (ln : Ln) (us : Nat) (s : State) : Host.Outcome State Fault Refusal :=
  s.cmd (Say.colourShow us) ln us (reading rolesOHM []) (fun t =>
    (t, .ok [] [("tbase0", hex0x 9 (t.tagBase 0)), ("tbase1", hex0x 9 (t.tagBase 1)), ("faults", dec (t.get TAG_FTOTAL.COUNT))]))

/-- Is the address one of shared SRAM? -/
def inSram (addr : Nat) : Bool := 0x20000000 ≤ addr && addr < 0x20400000

/-- The byte of a tag line as COLOUR_TAG answers it, or POISON where the line is uncorrectable. -/
def State.tagOf (s : State) (addr n c : Nat) (e : LineErrs) : State × Result :=
  match s.tagFetch n c e with
  | (t1, none) => (t1, .fail .poison)
  | (t1, some x) =>
    (t1, .ok [] [("addr", hex0x 9 addr), ("ch", dec n), ("taddr", hex0x 9 (4096 * s.get ⟨TAG_TBASE0.addr + 4 * n, 0, 32⟩ + c / 64)),
      ("tag", hexPlain 2 (x.bytes.getD (c / 64 % 64) 0))])

/-- The colour of a shared SRAM granule as COLOUR_TAG answers it. -/
def State.granuleKv (s : State) (addr : Nat) : List (String × String) :=
  let g := (addr - 0x20000000) / 4096
  [("addr", hex0x 8 addr), ("granule", dec g), ("tag", hexPlain 2 (s.granuleColour g))]

/-- What COLOUR_TAG answers: of DRAM, of shared SRAM, or of neither. -/
def State.colourTag (s : State) (addr : Nat) (e : LineErrs) : State × Result :=
  let place := s.chanOf addr
  if addr < s.dramSize ∧ s.drcServes place.1 = true then s.tagOf addr place.1 place.2 e
  else if inSram addr then (s, .ok [] (s.granuleKv addr))
  else if addr < s.dramSize then (s, .fail .domainOff)
  else (s, .fail .badArg)

/-- COLOUR_TAG (R513 to R517, R677, R681, R682, R686, R1074): `errs` is what a read of the tag line from DRAM finds. -/
def execColourTag (ln : Ln) (addr : Nat) (errs : LineErrs) (us : Nat) (s : State) : Host.Outcome State Fault Refusal :=
  s.cmd (Say.colourTag addr errs us) ln us (reading rolesOHM []) (fun t => t.colourTag addr errs)

/-! ### log -/

/-- The number of the oldest fault record held, 0 with none (R1104). -/
def State.oldestFault (s : State) : Nat :=
  let n := s.get TAG_FTOTAL.COUNT
  if n = 0 then 0 else n - min n 64 + 1

/-- LOG_SHOW (R689, R1104). -/
def execLogShow (ln : Ln) (us : Nat) (s : State) : Host.Outcome State Fault Refusal :=
  s.cmd (Say.logShow us) ln us (reading rolesOHM []) (fun t =>
    let n := t.get TAG_FTOTAL.COUNT
    (t, .ok [] [("total", dec n), ("held", dec (min n 64)), ("oldest", dec t.oldestFault)]))

/-- A source of Table ACC-8 by name. -/
def sourceName (n : Nat) : String :=
  if n = 0x10 then "STG" else if n = 0x20 then "MPU0" else if n = 0x21 then "MPU1" else portName n

/-- A fault record's data line (R1105, Table ACC-8). -/
def faultKv (seq : Nat) (b : Bytes) : List KV :=
  let byte (i : Nat) : Nat := (b.getD i 0).toNat
  let field (i n : Nat) : Nat := leNat ((b.drop i).take n)
  [("seq", dec seq), ("source", sourceName (byte 0)), ("access", ["read", "write", "fetch"].getD (byte 1 % 4) "read"),
   ("tagstore", yesNo (128 ≤ byte 1)), ("colour", hexPlain 2 (byte 2)), ("found", hexPlain 2 (byte 3)),
   ("priv", if byte 4 = 0 then "p0" else if byte 4 = 1 then "p1" else "hw"), ("region", if byte 5 = 0xFF then "none" else dec (byte 5)),
   ("status", hex0x 3 (field 6 2)), ("addr", hex0x 9 (field 8 8)), ("handle", hex0x 16 (field 16 8)), ("queue", queueId (field 24 2)),
   ("cmdtag", dec (field 26 2)), ("time", dec (field 28 4))]

/-- LOG_FAULTS (R689, R1105): record k lies in slot (k − 1) mod 64. -/
def execLogFaults (ln : Ln) (frm count : Option Nat) (us : Nat) (s : State) : Host.Outcome State Fault Refusal :=
  s.cmd (Say.logFaults frm count us) ln us (reading rolesOHM []) (fun t =>
    let total := t.get TAG_FTOTAL.COUNT
    let old := max 1 t.oldestFault
    let f := frm.getD old
    let n := count.getD 16
    if f = 0 ∨ n = 0 ∨ 64 < n then (t, .fail .badArg)
    else
      let first := max f old
      let rows := (List.range (min n (total + 1 - first))).map (fun k =>
        faultKv (first + k) ((t.access.log.lookup ((first + k - 1) % 64)).getD []))
      (t, .ok rows [("n", dec rows.length), ("next", dec (first + rows.length)), ("lost", dec (first - f))]))

end Sys2Proof.Machine
end

