-- ==== Sys2Proof/Machine/DomainRows.lean ====
section
/-!
DEFINITION. Sys2Proof/Machine/DomainRows.lean: drains, resets, CHECK and rejoin of the domains, the fabric, PWR_DREQ, and the Sleeve
reset (chapters 14, 05 and 02).
-/
namespace Sys2Proof.Machine
open Sys2Proof

/-! ### Drains -/

/-- A drained domain goes off; an entry's domain waits for the others (R773, R811). -/
def State.drained (s : State) (r : Drain) : State :=
  match r.who with
  | .entry => (s.entryDrained r.dom false).entryGo
  | _ => s.offAfterDrain r .drained

/-- The drain of a domain that has not yet counted as drained. -/
def State.drainOf (s : State) (d : Nat) : Option Drain :=
  if (match s.pwr.entry with | some e => e.drained.contains d | none => false) then none
  else s.pwr.drains.find? (fun r => r.dom == d)

/-- DRAIN_COMPLETE (R767, R772, R773). -/
def execDrainComplete (d : Nat) (s : State) : Host.Outcome State Fault Refusal :=
  match s.drainOf d with
  | some r => if s.busyIn d then .next s else .next (s.drained r)
  | none => .next s

/-- A drain refused in wait mode: the domain stays as it was (R773). -/
def State.drainRefused (s : State) (r : Drain) (refuser : Nat) : State :=
  let s1 := (s.set (PWR_DSTAT.DRAINING r.dom) 0).count PWR_REFUSE.COUNT 1
  ((s1.set PWR_REFUSE.LAST refuser).cutOps r.dom (some .pwrRefused) .pwrRefused).dropChange r.dom

/-- DRAIN_WINDOW_END (R773, R774, R811): the window of domain `d` ends. `refuser` is the domain at the other end of its oldest
transfer. For D26 in step 3 of an entry it is the time for the stop of the link. -/
def execDrainWindowEnd (d refuser us : Nat) (s : State) : Host.Outcome State Fault Refusal :=
  let s0 := s.at us
  match s0.drainOf d with
  | some r =>
    if us < r.endUs then .next s0
    else if !s0.busyIn d then .next (s0.drained r)
    else
      match r.who, s0.pwr.entry with
      | .entry, some e =>
        if r.abort then .next ((s0.entryDrained d true).entryGo) else .next (s0.refuseEntry e .pwrRefused refuser (domainId refuser))
      | _, _ => if r.abort then .next (s0.offAfterDrain r .abort) else .next (s0.drainRefused r refuser)
  | none =>
    match s0.pwr.entry with
    | some e =>
      match e.stopBy with
      | some t =>
        if d = 26 ∧ s0.get PWR_STATE.STEP = 3 ∧ t ≤ us then .next (s0.refuseEntry e .pwrRefused 26 (domainId 26)) else .next s0
      | none => .next s0
    | none => .next s0

/-! ### Switch-on, reset and CHECK -/

/-- RESET_HOLD_END (R777): the SRAM is filled and the domain enters CHECK. A T1 restart is a reset of its own in SYS_RSTCAUSE (Table
BOOT-14). -/
def execResetHoldEnd (d us : Nat) (s : State) : Host.Outcome State Fault Refusal :=
  let s0 := s.at us
  match s0.pwr.holds.lookup d with
  | none => .next s0
  | some who =>
    let s1 := s0.enterCheck d who
    .next (if d = 50 then s1.recordReset .t1 [causeT1] else s1)

/-- DOMAIN_SWITCH_ON_DONE (R779): the ramp ends, clamps and reset are released and the SRAM is filled. -/
def execDomainSwitchOnDone (d : Nat) (s : State) : Host.Outcome State Fault Refusal :=
  match s.pwr.ramps.lookup d with
  | none => .next s
  | some who => .next (s.enterCheck d who)

/-- DOMAIN_CHECK_DONE (R779): the unit's check of a domain ends; quads, lanes and cipher pairs have rows of their own. -/
def execDomainCheckDone (d : Nat) (ok : Bool) (us : Nat) (s : State) : Host.Outcome State Fault Refusal :=
  let s0 := s.at us
  if s0.dom d = 1 ∧ d ≤ 50 ∧ ¬ (1 ≤ d ∧ d ≤ 25) ∧ ¬ (33 ≤ d ∧ d ≤ 36) then .next (s0.checkEnds d ok) else .next s0

/-- FQq_LUN, FQq_STAT.HAS_DIE and FQq_BAD show the die table (Tables FLS-13, FLS-12). -/
def State.showQuad (s : State) (q : Nat) : State :=
  let log2 (p : Nat) : Nat := if 4 ≤ p then 2 else if 2 ≤ p then 1 else 0
  let mine := s.flash.dies.filter (fun x => x.ch / 4 == q)
  let one (t : State) (x : Die) : State :=
    let i := 16 * (x.ch % 4) + x.pos
    let t1 := (((t.set (FQ_LUN.PRESENT q i) 1).setFlag (FQ_LUN.EXCLUDED q i) x.excluded).set (FQ_LUN.IFACE q i) x.iface).set
      (FQ_LUN.RATE q i) x.rate
    (((t1.set (FQ_LUN.PLANES_LOG2 q i) (log2 x.planes)).set (FQ_LUN.WL_PAGES q i) (x.wlPages - 1)).set (FQ_LUN.TMAX q i)
      (x.tmax / 8)).set (FQ_LUN.PAGES_M1 q i) (x.pages - 1)
  let has := ((List.range 4).map (fun j =>
    if mine.any (fun x => x.ch % 4 == j && !x.excluded) then 2 ^ j else 0)).sum
  let bad := (s.flash.retired.filter (fun b => b / 2 ^ 16 / 4 == q)).length
  let gone := (List.range 64).filter (fun i => s.flag (FQ_LUN.PRESENT q i) && !mine.any (fun x => 16 * (x.ch % 4) + x.pos == i))
  ((mine.foldl one (gone.foldl (fun t i => t.setWord (FQ_LUN.addr q i) 0) s)).set (FQ_STAT.HAS_DIE q) has).setSat (FQ_BAD.RETIRED q) bad

/-- QUAD_CHECK_DONE (R471, Table FLS-10): `loops` are the channels that passed loopback, `same` says that every die agrees with
the die table. -/
def execQuadCheckDone (quad loops : Nat) (same : Bool) (us : Nat) (s : State) : Host.Outcome State Fault Refusal :=
  let s0 := s.at us
  if 16 ≤ quad ∨ s0.dom (quad + 1) ≠ 1 then .next s0
  else
    let ok := decide (loops % 16 = 15) && same && !s0.flash.differs.contains quad
    let s1 := s0.checkEnds (quad + 1) ok
    .next (if ok then (s1.showQuad quad).set (FQ_STAT.LOOP_OK quad) loops else s1)

/-- CIPHER_PAIR_KAT (R642, Table CIP-8): the known-answer tests of a pair's two cores. -/
def execCipherPairKat (pair : Nat) (ok : Bool) (us : Nat) (s : State) : Host.Outcome State Fault Refusal :=
  let s0 := s.at us
  if 4 ≤ pair ∨ s0.dom (33 + pair) ≠ 1 then .next s0
  else
    let put (f : Fld) (b : Bool) (t : State) : State := t.setFlag ⟨f.addr, f.lsb + pair, 1⟩ b
    .next (put CIP_KAT.FAIL (!ok) (put CIP_KAT.PASS ok (s0.checkEnds (33 + pair) ok)))

/-- LANE_LOOPBACK_DONE (R254, R779, Table SLVW-10). -/
def execLaneLoopbackDone (lane : Nat) (ok : Bool) (us : Nat) (s : State) : Host.Outcome State Fault Refusal :=
  let s0 := s.at us
  if 9 ≤ lane ∨ s0.dom (laneDomain lane) ≠ 1 then .next s0 else .next (s0.checkEnds (laneDomain lane) ok)

/-- DOMAIN_REJOIN (R779, R1172): the boundary at a start of work, or the ROM entry of T1, is reached. -/
def execDomainRejoin (d : Nat) (s : State) : Host.Outcome State Fault Refusal :=
  if s.dom d = 2 ∧ (startsAtWork d = true ∨ d = 50) then .next (s.enterIn d) else .next s

/-! ### Retries -/

/-- May the card retry a domain now: it is OFF, the card took it out itself, and no command concerns it (R782)? -/
def State.retryOk (s : State) (d : Nat) : Bool :=
  s.dom d == 0 && !s.flag (PWR_DSTAT.CMD_OFF d) && !s.pwr.ramps.any (fun r => r.1 == d) && !s.asleep

/-- DOMAIN_RETRY (R782): every 10 s. -/
def execDomainRetry (d : Nat) (s : State) : Host.Outcome State Fault Refusal :=
  if s.pwr.own.contains d = true ∧ s.retryOk d = true then .next (s.switchOn d .card) else .next s

/-- QUAD_RETRY (R474, R782): every 60 s. -/
def execQuadRetry (quad : Nat) (s : State) : Host.Outcome State Fault Refusal :=
  if s.flash.ownQuads.contains quad = true ∧ s.retryOk (quad + 1) = true then .next (s.switchOn (quad + 1) .card) else .next s

/-- LANE_RETRY (R255, R782): every 10 s. -/
def execLaneRetry (lane : Nat) (s : State) : Host.Outcome State Fault Refusal :=
  if s.slv.ownLanes.contains lane = true ∧ s.retryOk (laneDomain lane) = true then .next (s.switchOn (laneDomain lane) .card)
  else .next s

/-! ### The fabric -/

/-- FABRIC_HANG (R755, R771, R793, R968): a request to the domain has been outstanding for 100 ms. -/
def execFabricHang (d us : Nat) (s : State) : Host.Outcome State Fault Refusal :=
  let s0 := s.at us
  if d = 0 ∨ 50 < d ∨ s0.dom d = 0 then .next s0
  else
    let s1 := ((s0.count PWR_HUNG.COUNT 1).set PWR_HUNG.DOMAIN d).notify "domain hung" [("domain", domainId d)]
    .next (s1.runFault d causeHang)

/-- FABRIC_REPLY (R765, R766): a reply that carries `replyEpoch` to a request issued under `sentEpoch` by domain `requester` with
epoch `echo`. A reply under another epoch is discarded and counted; one that is acted on has its effect by the command it
belongs to. -/
def execFabricReply (sentEpoch replyEpoch requester echo : Nat) (s : State) : Host.Outcome State Fault Refusal :=
  if replyEpoch ≠ sentEpoch ∨ (requester ≠ 0 ∧ echo ≠ s.get (PWR_DSTAT.EPOCH requester)) then .next (s.count PWR_LATE.COUNT 1)
  else .next s

/-! ### PWR_DREQ (R794) -/

/-- A write of PWR_DREQ with START 1: its fields, then the operation; at once refused or complete, or in progress. R794 gives no outcome
for a START while an operation is in progress: the fields are stored, and the START does nothing (DESIGN CHOICE, assumption log
entry 157). -/
def State.dreq (s : State) (op d : Nat) (abort : Bool) (act : State → State × Option Result) : State :=
  let s0 := ((s.set PWR_DREQ.OP op).setFlag PWR_DREQ.MODE abort).set PWR_DREQ.DOMAIN d
  if s.flag PWR_DRES.BUSY then s0
  else
    let s1 := s0.set PWR_DREQ.START 1
    let s2 := (s1.set PWR_DRES.DOMAIN (clamp 1 50 d)).set PWR_DRES.BUSY 1
    let (s3, r) := if s2.life.run.isSome then (s2, some (.fail .wrongState)) else act s2
    let ends (t : State) (st : Nat) : State := ((t.set PWR_DREQ.START 0).set PWR_DRES.BUSY 0).set PWR_DRES.STATUS st
    match r with
    | some (.fail st) => ends s3 st.code
    | some _ => ends s3 0
    | none => s3

/-- PWR_DREQ_ON: OP 0, and 3 acts as 0. -/
def execPwrDreqOn (op d us : Nat) (s : State) : Host.Outcome State Fault Refusal :=
  if op = 0 ∨ op = 3 then .next ((s.at us).dreq op d false (fun t => t.domainOn (clamp 1 50 d) .dreq)) else .next s

/-- PWR_DREQ_OFF: OP 1, in the mode MODE names, with PWR_DRAIN.US. -/
def execPwrDreqOff (d : Nat) (abort : Bool) (us : Nat) (s : State) : Host.Outcome State Fault Refusal :=
  .next ((s.at us).dreq 1 d abort (fun t => t.domainOff (clamp 1 50 d) abort (clamp 10 10000 (t.get PWR_DRAIN.US)) none .dreq))

/-- PWR_DREQ_RESET: OP 2. -/
def execPwrDreqReset (d us : Nat) (s : State) : Host.Outcome State Fault Refusal :=
  .next ((s.at us).dreq 2 d false (fun t => t.domainReset (clamp 1 50 d) none .dreq))

/-! ### Sleeve reset -/

/-- SLV_RST_N_FALL (R217, R219 to R222, R837): low for at least 1 µs; `ns` says how long. In a power state nothing further
happens until its exit. -/
def execSlvRstNFall (ns : Nat) (s : State) : Host.Outcome State Fault Refusal :=
  if ns < 1000 ∨ s.boot.sleeveHigh = false then .next s
  else
    let s1 := { s with boot := { s.boot with sleeveHigh := false } }
    let s2 := if s1.asleep then s1 else s1.sleeveReset
    .next ({ s2 with boot := { s2.boot with sleeveFell := true } }).entryGo

/-- SLV_RST_N_RISE (R83, R223, R224, R825): a GRT once READY is high too; the reset's cause is recorded as the card leaves it. -/
def execSlvRstNRise (us : Nat) (s : State) : Host.Outcome State Fault Refusal :=
  let s0 := s.at us
  if s0.boot.sleeveHigh then .next s0
  else
    let s1 := { s0 with boot := { s0.boot with sleeveHigh := true } }
    let s2 := s1.wakeEvent 3 0 us
    .next (if s2.asleep then s2 else s2.sleeveRisen.greet)

end Sys2Proof.Machine
end

