-- ==== Sys2Proof/Machine/LiningOps.lean ====
section
/-!
DEFINITION. Sys2Proof/Machine/LiningOps.lean: the charge controller, the measurements of the bank, the dirty budget and the removal ladder
(chapter 13).
-/
namespace Sys2Proof.Machine
open Sys2Proof

def State.setLin (s : State) (l : Lining) : State := { s with lin := l }

/-! ### Limits in force -/

/-- I_lim in mA (Table LIN-8). -/
def State.iLim (s : State) : Nat := 250 * (s.get LIN_CFG.ILIM + 1)

/-- V_f in mV. -/
def State.vFloat (s : State) : Nat := 10 * clamp 420 540 (s.get LIN_CFG.FLOAT)

/-- H in mV. -/
def State.linHyst (s : State) : Nat := 25 * 2 ^ s.get LIN_CFG.HYST

/-- V_oc averaged over the last 1 ms, in 0.1 µV (R705). -/
def State.voc (s : State) : Int :=
  let l := s.lin.vocs
  if l.isEmpty then 0 else (l.map (fun x => x.2)).sum / (l.length : Int)

/-- V_oc in mV, 0 at the least. -/
def State.vocMv (s : State) : Nat := (s.voc / 10000).toNat

/-- A field that holds a signed 16-bit number. -/
def signed16 (v : Int) : Nat := ((v + 65536) % 65536).toNat

/-- The signed number a 16-bit field holds. -/
def unsigned16 (n : Nat) : Int := if n < 32768 then (n : Int) else (n : Int) - 65536

/-- The bank temperature in 0.1 °C. -/
def State.bankT (s : State) : Int := unsigned16 (s.get LIN_TEMP.T_DC)

/-- Values of the descriptor, Blank where it was never programmed (Table LIN-3). -/
def LinDesc.floatV (d : LinDesc) : Nat := d.float.getD 420
def LinDesc.ilimV (d : LinDesc) : Nat := d.ilim.getD 3
def LinDesc.slotV (d : LinDesc) : Nat := d.slotW.getD 40
def LinDesc.esrV (d : LinDesc) : Nat := d.esrMax.getD 1000
def LinDesc.nomV (d : LinDesc) : Nat := d.nom.getD 0

/-- The descriptor is loaded (R708). -/
def State.loadDescriptor (s : State) : State :=
  let d := s.lin.desc
  ((((s.set LIN_CFG.FLOAT d.floatV).set LIN_CFG.ILIM d.ilimV).set LIN_CFG.SLOT_W d.slotV).set LIN_ESR.MAX d.esrV).set LIN_NOM.NOM_10MF d.nomV

/-! ### The charge controller -/

/-- The charge state moves; the capacitance window ends with it (R715). -/
def State.linState (s : State) (st : Nat) : State :=
  (s.set LIN_STAT.STATE st).setLin { s.lin with win := none, lowUs := none }

/-- A charge ramp begins (Table LIN-4). -/
def State.linRamp (s : State) : State :=
  let s1 := s.linState 1
  s1.setLin { s1.lin with en := true, boost := false, softUs := s1.clk, weakUs := s1.clk, why := [] }

/-- A probe ends: LIN_PROBE.START clears, and its job ends with 0x000 when an estimate was accepted, else 0x505 (R1055). -/
def State.probeEnds (s : State) (ok : Bool) : State :=
  if s.get LIN_STAT.STATE ≠ 5 then s
  else (s.set LIN_PROBE.START 0).endJobOf "lining probe" (if ok then .done else .timeout)

/-- A probe begins: 1.0 A from the bank in boost (R715). -/
def State.startProbe (s : State) : State :=
  let s1 := s.linState 5
  (s1.setLin { s1.lin with en := true, boost := true }).set LIN_PROBE.START 1

/-- LIN_EN goes low and the controller stands in a state. -/
def State.linStop (s : State) (st : Nat) : State :=
  let s1 := (s.probeEnds false).linState st
  s1.setLin { s1.lin with en := false, boost := false }

/-- The controller enters FAULT: a wake source where PWR_WAKEEN.LINING enables it, with the lowest bit set of LIN_FAULT (Tables LIN-4, PWS-6). -/
def State.enterFault (s : State) : State :=
  let s1 := s.linStop 7
  if s1.flag PWR_WAKEEN.LINING then
    s1.wakeEvent 9 (((List.range 8).find? (fun k => (s1.word LIN_FAULT.addr).getLsbD k)).getD 0) s1.clk
  else s1

/-- A fault that stops charging, in any state but BOOST (Table LIN-4). `k` is its bit of LIN_FAULT. -/
def State.linFault (s : State) (k : Nat) : State :=
  let s1 := s.set ⟨LIN_FAULT.addr, k, 1⟩ 1
  if s1.get LIN_STAT.STATE = 6 then s1
  else
    let s2 := if s1.get LIN_STAT.STATE = 7 then s1 else s1.enterFault
    s2.setLin { s2.lin with faultUs := s2.clk, why := if s2.lin.why.contains k then s2.lin.why else s2.lin.why ++ [k] }

/-- A capacitance estimate in 10 mF (R717, R718): accepted from 1.0 to 100.0 F; below 2.0 F the bank is ABSENT. -/
def State.takeCap (s : State) (c : Nat) : State × Bool :=
  let s1 := if c < 200 then s.set LIN_STAT.ABSENT 1 else s
  if 100 ≤ c ∧ c ≤ 10000 then
    let s2 := (s1.set LIN_CAP.EST_10MF c).set LIN_STAT.ESTIMATED 1
    (s2.setLin { s2.lin with capT := s2.bankT, capUs := some s2.clk }, true)
  else if 10000 < c then (s1.linFault 3, false)
  else (s1, false)

/-- ESR_EST above its limit (R721). -/
def State.esrCheck (s : State) : State :=
  if s.get LIN_ESR.MAX < s.get LIN_ESR.EST ∧ s.lin.esrUs.isSome = true then
    (if s.flag LIN_FAULT.ESR_HIGH then s else (s.set LIN_FAULT.ESR_HIGH 1).notify "lining fault" [("reason", "esr")])
  else s

/-- An ESR estimate from a step: `dv` µV over `di` mA (R716, R717). -/
def State.takeEsr (s : State) (dv di : Nat) : State :=
  let e := 10 * dv / di
  if 5 ≤ e ∧ e ≤ 20000 then
    let s1 := s.set LIN_ESR.EST e
    (s1.setLin { s1.lin with esrT := s1.bankT, esrUs := some s1.clk }).esrCheck
  else s.linFault 3

/-- Is a refresh due (R714)? -/
def State.refreshDue (s : State) : Bool :=
  let old (t : Option Nat) : Bool := match t with | some u => decide (u + 86400000000 ≤ s.clk) | none => true
  old s.lin.capUs || old s.lin.esrUs || decide (100 ≤ (s.bankT - s.lin.esrT).natAbs)

/-- The capacitance window grows by a sample (R715): one direction, 0.25 A or more, one state. -/
def State.windowRuns (s : State) (iMa : Int) (us : Nat) : State :=
  let st := s.get LIN_STAT.STATE
  if iMa.natAbs < 250 then s.setLin { s.lin with win := none }
  else
    let fresh : CapWin := { state := st, charging := decide (0 < iMa), startV := s.voc, charge := 0, lastUs := us }
    match s.lin.win with
    | none => s.setLin { s.lin with win := some fresh }
    | some w =>
      if w.state ≠ st ∨ w.charging ≠ decide (0 < iMa) then s.setLin { s.lin with win := some fresh }
      else
        let w1 := { w with charge := w.charge + iMa.natAbs * (us - w.lastUs), lastUs := us }
        let dv := (s.voc - w.startV).natAbs
        if st ≠ 5 ∧ 1000000 ≤ dv then ((s.setLin { s.lin with win := some fresh }).takeCap (w1.charge / dv)).1
        else s.setLin { s.lin with win := some w1 }

/-! ### The dirty budget -/

/-- The numerator and denominator of f(T) (R718). -/
def tempFactor (t : Int) : Nat := (2000 + (if t < 0 then max t (-400) else 0)).toNat

/-- C_use in 10 mF, as a fraction (R718). -/
def State.capUse (s : State) : Nat × Nat := (s.get LIN_CAP.EST_10MF * tempFactor s.bankT, tempFactor s.lin.capT)

/-- Is B forced to 0 (R723)? -/
def State.budgetForced (s : State) : Bool :=
  !s.flag LIN_STAT.ESTIMATED || s.flag LIN_STAT.ABSENT ||
    (s.get LIN_STAT.STATE == 7 && s.lin.why.any (fun k => k == 0 || k == 3 || k == 6)) || s.flag LIN_FAULT.ESR_HIGH

/-- B before the cap, in bytes, with η, k in thousandths, E_fixed in 0.1 J, e_B in pJ/byte, V_oc in mV (R722). -/
def rawBudget (eta kder efix pj vMv : Nat) (cap : Nat × Nat) : Nat :=
  let num : Int := (eta * kder * cap.1 : Nat) * ((vMv : Int) * vMv - 5760000)
  let den : Int := (200000000000000 * cap.2 : Nat)
  ((10 * num - efix * den) * 100000000000 / (den * pj)).toNat

/-- The least number whose square is at least n, within 64 bits. -/
def ceilSqrtFrom : Nat → Nat → Nat → Nat
  | 0, _, acc => acc + 1
  | k + 1, n, acc => if (acc + 2 ^ k) * (acc + 2 ^ k) < n then ceilSqrtFrom k n (acc + 2 ^ k) else ceilSqrtFrom k n acc

def ceilSqrt (n : Nat) : Nat := if n = 0 then 0 else ceilSqrtFrom 64 n 0

def ceilQuot (a b : Nat) : Nat := (a + b - 1) / b

/-- LIN_ETA (R727). DEDUCED, log 152: a value that is 0 by its own line stays 0 while the controller is not charging. -/
def State.eta (s : State) (b : Nat) : Nat × Nat :=
  let st := s.get LIN_STAT.STATE
  let charging := (st == 1 || st == 2 || st == 3) && s.lin.targetMa != 0
  let v := s.vocMv
  let c := s.capUse
  let i := s.lin.targetMa
  let pj := clamp 4000 20000 (s.get LIN_EB.PJ)
  let cap := clamp 1 16 (s.get LIN_BUDGET.CAP)
  let eta := clamp 500 980 (s.get LIN_K.ETA)
  let kder := clamp 500 1000 (s.get LIN_K.KDER)
  let etot := clamp 10 1000 (s.get LIN_K.EFIX) * 100000000000 + 2 ^ 30 * cap * pj
  -- V_cap² = 5.76 V² + 2 × etot / (η × k × C_use), here multiplied by (C_est × f(T_now) / f(T_est))² and both denominators
  let q := eta * kder * c.1
  let need := ceilSqrt (ceilQuot (c.1 * c.1 * (5760000 * q + 200 * etot * c.2)) q)
  let rests := !charging && decide (v < s.vFloat)
  if !s.flag LIN_STAT.ESTIMATED || q == 0 || decide (c.1 * s.vFloat < need) then (0xFFFF, 0xFFFF)
  else
    let fl := if st = 4 ∨ s.vFloat ≤ v then 0 else if rests then 0xFFFF else ceilQuot (c.1 * (s.vFloat - v)) (100 * i * c.2)
    let cp := if 2 ^ 30 * cap ≤ b then 0 else if rests ∨ i = 0 then 0xFFFF else ceilQuot (need - c.1 * v) (100 * i * c.2)
    (fl, cp)

/-- The notice of R728, at most one per 10 s. -/
def State.throughCheck (s : State) (b d : Nat) : State :=
  let on := if b < d then true else if d < b then false else s.lin.thru
  let s1 := s.setLin { s.lin with thru := on }
  if on = s1.lin.thruSaid then s1
  else
    match s1.lin.thruUs with
    | some _ => s1
    | none =>
      (s1.setLin { s1.lin with thruSaid := on, thruUs := some s1.clk }).notify (if on then "lining through on" else "lining through off") []

/-- The bank has lost capacitance (R720). -/
def State.capCheck (s : State) : State :=
  let c := s.capUse
  let nom := s.get LIN_NOM.NOM_10MF
  if nom ≠ 0 ∧ s.flag LIN_STAT.ESTIMATED = true ∧ 100 * c.1 < 70 * nom * c.2 then
    let s1 := (s.set LIN_FAULT.CAP_LOW 1).set LIN_STAT.DEGRADED 1
    let quiet := match s.lin.degradedUs with | some t => decide (s.clk < t + 86400000000) | none => false
    if quiet then s1
    else (s1.setLin { s1.lin with degradedUs := some s1.clk }).notify "lining degraded"
      [("cap_f", decPlaces 2 (c.1 / c.2)), ("nom_f", decPlaces 2 nom)]
  else s.set LIN_STAT.DEGRADED 0

/-- The budget is computed (R722 to R724, R727, R728). -/
def State.budget (s : State) : State :=
  let s0 := (s.esrCheck).capCheck
  let c := s0.capUse
  let raw := if s0.budgetForced then 0
    else rawBudget (clamp 500 980 (s0.get LIN_K.ETA)) (clamp 500 1000 (s0.get LIN_K.KDER)) (clamp 10 1000 (s0.get LIN_K.EFIX))
      (clamp 4000 20000 (s0.get LIN_EB.PJ)) s0.vocMv c
  let b := min (2 ^ 30 * clamp 1 16 (s0.get LIN_BUDGET.CAP)) (raw / 4096 * 4096)
  let s1 := (((s0.setFlag LIN_STAT.THROUGH_ALL s0.budgetForced).setSat LIN_BUDGET.RAW_MIB (raw / 1048576)).set CCH_BUDGET.MIB (b / 1048576)).setSat
    LIN_CAP.USE_10MF (if s0.flag LIN_STAT.ESTIMATED then c.1 / c.2 else 0)
  let s2 := { s1 with cache := { s1.cache with budget := b } }
  let e := s2.eta b
  (((s2.setSat LIN_ETA.FLOAT_S e.1).setSat LIN_ETA.CAP_S e.2).flushMode).throughCheck b s2.dirtyBytes

/-! ### The removal ladder -/

/-- Names of the causes (Table LIN-9). -/
def removalName (c : Nat) : String := ["none", "CDET", "VIN", "DRILL"].getD c "none"

/-- A line that waits receives no reply; its path goes on, and the lock it held ends. -/
def State.silence (s : State) (w : AwaitFor) : State :=
  match s.awaiting w with
  | some p => (s.setSession p { s.session p with await := none }).unlock p
  | none =>
    match s.col.jobs.find? (fun j => j.await == some w) with
    | some j => ({ s with col := { s.col with jobs := s.col.jobs.filter (fun k => k.num != j.num) } }).unlock j.path
    | none => s

/-- A command that works on a domain ends as the ladder switches the domain off: a `domain off` that drains receives no reply (R789); a
switch-on or a reset is answered while T0 runs (R201), with NOT_READY (DESIGN CHOICE, assumption log entry 176). -/
def State.ladderAnswers (s : State) (d : Nat) : State :=
  if s.t0Runs then (s.silence (.domainOff d)).cutOps d none .notReady else s

/-- A domain is switched off in the ladder without a drain window: what it carried ends with no completion (R737). -/
def State.ladderOff (s : State) (d : Nat) : State :=
  let s1 := (s.ladderAnswers d).dropChange d
  if s.dom d = 0 then s1 else s1.fenceOff d

/-- The domains that the ladder switches off first, in their order (Table LIN-6). -/
def ladderFirst : List Nat :=
  (List.range 10).map (fun k => 17 + k) ++ [27, 28, 33, 34, 35, 36, 39, 40, 41, 42, 38]

/-- The domains that follow the checkpoint, in their order. -/
def ladderLast : List Nat :=
  [37, 49, 50, 43, 44, 45, 46, 47, 48] ++ (List.range 16).map (fun k => 1 + k) ++ [29, 30, 31, 32]

/-- The MGT and Seam paths end as their domains go off (R201). -/
def State.pathsEnd (s : State) : State :=
  let s1 := ((s.mute .mgt).endSession .mgt (Session.start .host)).dropImage .mgt
  let s2 := s1.col.seam.foldl (fun t x => (t.mute (.seam x.1)).dropImage (.seam x.1)) s1
  { s2 with col := { s2.col with seam := [], waiting := [] } }

/-- Commands in execution, waiting commands and what the link held end with no completion; THROUGH entries and inbound data are
discarded, and acknowledged DIRTY data that stood under a THROUGH entry is the block's newest again (R56, R414, R736, R737). -/
def State.dropWork (s : State) : State :=
  let empty (x : Nat × QueuePair) : Nat × QueuePair := (x.1, { x.2 with waiting := [], doneTags := [] })
  let s1 := s.dropEntries (fun e => e.kind == .through)
  let newer (e o : CacheEntry) : Bool := o.pocket == e.pocket && o.lba == e.lba && decide (e.filled < o.filled)
  let own (e : CacheEntry) : CacheEntry := { e with owners := [], old := s1.cache.entries.any (newer e) }
  let s2 := s1.setEntries (s1.cache.entries.map own)
  { s2 with
    execs := [], queues := s2.queues.map empty, refusals := [],
    slv := { Sleeve.reset with sent := s2.slv.sent ++ [SlvOut.idle], ownLanes := s2.slv.ownLanes } }

/-- A domain the flush needs returns from a power state (R738). -/
def State.flushDomains (s : State) : State :=
  let back (t : State) (x : Nat × Nat) : State :=
    if ladderFirst.contains x.1 then t else if x.2 = 3 then t.enterIn x.1 else t.switchOn x.1 .card
  let s1 := s.pwr.offWas.reverse.foldl back s
  ({ s1 with pwr := { s1.pwr with offWas := [], entry := none } }).set PWR_STATE.STATE 0

/-- The ladder of a card that is not READY in its start-up: nothing is flushed, nothing boosts or isolates (R117, R118). -/
def State.abandonLadder (s : State) (cause : Nat) : State :=
  let s1 := ((s.set RMV_STAT.CAUSE cause).set RMV_STAT.PHASE 6).set RMV_STAT.REINSERT 0
  let s2 := (((ladderFirst ++ ladderLast).foldl (fun t d => t.ladderOff d) (s1.linStop 0)).dropWork).pathsEnd
  let s3 := { s2 with boot := { s2.boot with running := false, ready := false, pending := none } }
  (s3.setLin { s3.lin with bare := true, rearmUs := none, trigUs := s3.clk }).seamCheck

/-- A removal trigger (R735 to R738, R746, R748, R752, R925, R959, R963). -/
def State.removalTrigger (s : State) (cause : Nat) : State :=
  if s.removing || s.blind then s
  else if s.boot.running then s.abandonLadder cause
  else
    let d := s.dirtyBytes
    let sr := match s.life.run with | some r => s.endRun r 4 0 s.clk | none => s
    let s0 := (sr.closeRemoval).probeEnds false
    let s1 := ((s0.set RMV_STAT.CAUSE cause).set RMV_STAT.PHASE 1).set RMV_STAT.REINSERT 0
    let s2 := s1.set RMV_VBANK.START_MV s1.vocMv
    let s3 := (s2.linState 6).setLin { (s2.linState 6).lin with
      en := true, boost := true, isoHigh := false, bare := false, rearmUs := none, trigUs := s2.clk, dirtyAt := d }
    let s4 := { (s3.readyLow) with
      pwr := { s3.readyLow.pwr with entry := none }, boot := { s3.readyLow.boot with pending := none } }
    let n : Notice := { event := "removal start", kv := [("cause", removalName cause), ("dirty_mib", dec ((d + 1048575) / 1048576))] }
    let s5 := { s4 with col := { s4.col with collar := s4.col.collar.note n } }
    let s6 := ((ladderFirst.foldl (fun t k => t.ladderOff k) s5).dropWork).pathsEnd
    let s7 := s6.flushDomains
    let pl := min 3 (s7.get RMV_CFG.FLUSH_PL)
    let s8 := ((s7.set RMV_STAT.PHASE 2).levelAsk pl).setLevel pl
    (s8.setLin { s8.lin with flushUs := s8.clk }).finishFor .level (fun t => .ok t [] s8.levelKv)

end Sys2Proof.Machine
end

