-- ==== Sys2Proof/Machine/BootOps.lean ====
section
/-!
DEFINITION. Sys2Proof/Machine/BootOps.lean: what each kind of reset covers and keeps, the start-up ladder, and the layout of DRAM at a
start (chapter 02; R461, R547, R549, R577, R578).
-/
namespace Sys2Proof.Machine
open Sys2Proof

/-! ### What flash keeps -/

/-- Is a page ERASED: none of it is programmed, or its raw bytes hold no more zero bits than its Bolt's strength (R497)? -/
def Flash.erasedAt (f : Flash) (t ppa : Nat) : Bool :=
  match f.pages.lookup ppa with
  | none => true
  | some pg => pg.all (fun w => decide (zeroBits (bchEncode t w) ≤ t))

/-- The changes that a page carries for a replay (R445, R461): a Stitch's page with its VALID bits, or the records of a delta page (R459). -/
def pageChanges (ppa : Nat) (pg : Page) : List Change :=
  let host (w : Bytes) : Bool := cwFormat w == 1 || cwFormat w == 7
  match pg.find? host with
  | some w =>
    let valid := ((List.range 4).map (fun j => if host (pg.getD j []) then 2 ^ j else 0)).sum
    [{ wseq := pageWseq pg, pocket := cwPocket w, lba := cwLba w / 4 * 4, count := 4, entry := some (mkEntry valid ppa) }]
  | none =>
    if pg.any (fun w => cwFormat w == 4) then
      let b := (pg.map cwData).flatten
      (List.range 512).filterMap (fun k =>
        let r := (b.drop (32 * k)).take 32
        if (r.getD 1 0).toNat = 1 then
          some { wseq := leNat ((r.drop 12).take 8), pocket := (r.getD 0 0).toNat, lba := leNat ((r.drop 2).take 6),
                 count := leNat ((r.drop 8).take 4), entry := none }
        else none)
    else []

/-- The WSEQ in the header of a map page (Table FLS-7). -/
def headWseq (pg : Page) : Nat := if pg.any (fun w => cwFormat w == 2) then leNat (((cwData (pg.getD 0 [])).drop 8).take 8) else 0

/-- The highest WSEQ that flash holds: in page metadata, in delta records, in map pages and in the checkpoint record (R461). -/
def Flash.topWseq (f : Flash) : Nat :=
  let one (m : Nat) (x : Nat × Page) : Nat := (pageChanges x.1 x.2).foldl (fun n c => max n c.wseq) (max m (headWseq x.2))
  max (f.pages.foldl one 0) (match f.ckpt with | some c => c.wseq | none => 0)

/-- A Bolt after the reset: copies out of a victim start again; an OPEN Bolt with a row that is not closed is closed there, its pages that
reached flash unprotected (the assumption log says so). -/
def Flash.cutBolt (f : Flash) (b : Bolt) : Bolt :=
  let bare := (List.range (ceilDiv b.next b.width)).filter (fun w =>
    !b.rowsDone.contains w && !b.bare.contains w && b.dataChs.any (fun c => !f.erasedAt b.t (b.rowPpa w c)))
  match b.state with
  | .victim => { b with state := .full }
  | .opened =>
    if (List.range (ceilDiv b.next b.width)).all (fun w => b.rowsDone.contains w) then b
    else { b with state := .full, bare := b.bare ++ bare, closing := false }
  | _ => b

/-- What flash holds after power or the domains have gone, and nothing that was under way: an erase that a reset cuts short leaves its Bolt FREE, and the
map is what the next start makes of the pages (R455, R461). The map Bolt table is kept (DEDUCED, assumption log entry 211). -/
def Flash.stable (f : Flash) : Flash :=
  { f with
    dies := [], bolts := (f.bolts.filter (fun b => b.state != .erasing)).map (fun b => { f.cutBolt b with learnt := false }), segUse := [], map := [], segs := [],
    progs := [], held := [], fit := 0, patrolPos := 0, patrolUs := [], deltas := [], deltaDue := false, closedSince := 0, ckptRuns := none,
    ckptOwn := false, bootSingle := false, relocs := [], gcQueue := [], recov := [], lap := [], lapWarned := false, ownQuads := [],
    wpHigh := [], differs := [], reads := [], idxDirty := [], idxAt := match f.ckpt with | some c => c.index | none => [], wseq := f.topWseq }

def State.flashKept (s : State) : Flash := s.flash.stable

/-! ### The map at a start (R453 to R455, R461) -/

/-- The index entries that are not zero in the index pages that a checkpoint record names, without RESIDENT and DIRTY (Table FLS-8). -/
def State.indexWords (s : State) (c : Ckpt) : List (Nat × Nat) :=
  (c.index.map (fun x =>
    let b := match s.page x.2 with | some pg => (pg.map cwData).flatten | none => []
    (List.range 4096).filterMap (fun k =>
      let w := leNat ((b.drop (4 * k)).take 4) % 2 ^ 30
      if w = 0 then none else some (4096 * x.1 + k, w)))).flatten

/-- The pages of the map row that an index entry names (R454, R455). -/
def State.mapRow (s : State) (w : Nat) : List Bytes :=
  match s.slotBolt (w / 2 ^ 18 % 1024) with
  | none => []
  | some b =>
    ((b.dataChs.drop (4 * (w % 16))).take 4).filterMap (fun ch =>
      (s.page (b.rowPpa (w / 16 % 16384) ch)).map (fun pg => (pg.map cwData).flatten))

/-- The map entries of a map page that are not zero, by their keys. -/
def mapPageEntries (b : Bytes) : List (Nat × Nat) :=
  let first := mapKey (b.getD 1 0).toNat (13056 * leNat ((b.drop 2).take 4) + 3264 * (b.getD 6 0).toNat)
  (List.range 3264).filterMap (fun k =>
    let e := leNat ((b.drop (64 + 5 * k)).take 5)
    if e = 0 then none else some (first + k, e))

/-- A segment stands as its map row has it, where its header's Pocket has its index entries now; the index page of a row that has no place or
another place there is written again. -/
def State.loadSeg (s : State) (x : Nat × Nat) : State :=
  match s.mapRow x.2 with
  | [] => s.dirtyIndex (x.1 / 4096)
  | h :: r =>
    let p := (h.getD 1 0).toNat
    let n := leNat ((h.drop 2).take 4)
    let size := match s.pockets.lookup p with | some k => k.size | none => 0
    match s.flash.bases.lookup p with
    | none => s.dirtyIndex (x.1 / 4096)
    | some base =>
      if ceilDiv size 13056 ≤ n then s.dirtyIndex (x.1 / 4096)
      else
        let g : Seg := { resident := false, dirty := false, slot := x.2 / 2 ^ 18 % 1024, row := x.2 / 16 % 16384, quartet := x.2 % 16, reading := false, rebuilding := false,
                         wseqs := (h :: r).map (fun b => leNat ((b.drop 8).take 8)) }
        let s1 := ((h :: r).map mapPageEntries).flatten.foldl (fun t e =>
          { t with flash := { t.flash with map := putSorted e.1 e.2 t.flash.map } }) (s.setSeg (base + n) g)
        if base + n = x.1 then s1 else (s1.dirtyIndex (x.1 / 4096)).dirtyIndex ((base + n) / 4096)

/-- The changes that a replay makes after a checkpoint, in WSEQ order (R461); of equal ones the page of the Bolt opened later counts (R466). -/
def State.changesAfter (s : State) (c : Ckpt) : List Change :=
  let of (x : Nat × Page) : List (Nat × Change) :=
    match s.boltAt x.1 with
    | none => []
    | some b =>
      (((List.range 512).zip (pageChanges x.1 x.2)).filter (fun y => decide (c.wseq < y.2.wseq) && (y.2.entry.isNone || decide (c.boltSeq < b.seq)))).map
        (fun y => (((y.2.wseq * 2 ^ 64 + b.seq) * 2 ^ 36 + x.1) * 512 + y.1, y.2))
  ((s.flash.pages.flatMap of).foldl (fun (l : List (Nat × Change)) (y : Nat × Change) => putSorted y.1 y.2 l) []).map (fun y => y.2)

/-- The WSEQ in the header of the map page that holds a Stitch's entry, of the segments as they were loaded. -/
def headerWseq (segs : List (Nat × Seg)) (e st : Nat) : Nat := match segs.lookup e with | some g => g.wseqs.getD (segPage st) 0 | none => 0

/-- A Stitch's entry becomes what a replayed change makes of it; its segment is under replay, and DIRTY after it (R90). -/
def State.replayEntry (s : State) (p st wseq entry : Nat) : State :=
  let e := s.segOf p st
  let g := (s.seg e).getD { Seg.fresh with resident := false }
  (s.setEntry p st entry).setSeg e { g with dirty := true, wseqs := g.wseqs.set (segPage st) (max wseq (g.wseqs.getD (segPage st) 0)) }

/-- A change is applied where its WSEQ exceeds the segment header's (R461). -/
def State.replayChange (heads : List (Nat × Seg)) (s : State) (c : Change) : State :=
  let newer (st : Nat) : Bool := decide (headerWseq heads (s.segOf c.pocket st) st < c.wseq)
  match s.pockets.lookup c.pocket, c.entry with
  | none, _ => s
  | some k, some e => if c.lba / 4 < k.size ∧ newer (c.lba / 4) = true then s.replayEntry c.pocket (c.lba / 4) c.wseq e else s
  | some _, none =>
    ((s.unmaps c.pocket c.lba c.count).filter (fun x => newer (x.1 % 2 ^ 34))).foldl (fun t x =>
      let st := x.1 % 2 ^ 34
      t.replayEntry c.pocket st c.wseq (mkEntry (entryValid x.2 &&& (15 - rangeMask c.lba c.count st)) (entryPpa x.2))) s

/-- The map checkpoint index is loaded, and with a replay due its changes are those of R461. What a later read of a map row brings is what it
holds already (assumption log entry 213). -/
def State.loadMap (s : State) : State :=
  let c := s.flash.ckpt.getD { index := [], wseq := 0, boltSeq := 0, delta := 0, clean := false }
  let s1 := (s.indexWords c).foldl State.loadSeg s
  if s1.flag SYS_BOOTSTAT.REPLAY then (s1.changesAfter c).foldl (State.replayChange s1.flash.segs) s1 else s1

/-- The key journal as flash keeps it: of an update that is cut, some image pages may be programmed (R638; how many is a free value, assumption log
entry 185). -/
def Keys.kept (k : Keys) : Keys :=
  let n := min 4 (Config.cutPages k.jseq)
  let k1 := match k.update with
    | some u => if n = 0 then k else k.program u n false
    | none => k
  { Keys.reset with
    image := k1.image, jseq := k1.jseq, active := k1.active, room := k1.room, copies := k1.copies, blocks := k1.blocks,
    interrupted := k1.interruptedSlot, records := k1.records }

/-- The pairing and what the mirror needs to resume (R868, R881, R883). -/
def Twin.kept (t : Twin) : Twin :=
  let next := match t.lineAwait with | some l => l.1 | none => t.rxNext
  { Twin.reset with
    pairing := t.pairing, txNext := t.txNext, sentTo := t.txNext, confirmed := t.confirmed, marked := t.marked, missed := t.missed,
    rxNext := next, acked := next, clean := t.clean, served := t.served, fresh := t.fresh }

/-- What has gone out stands as it was sent. -/
def State.sentOf (s : State) (t : State) : State :=
  { t with
    col := { t.col with sent := s.col.sent, ctsHigh := s.col.ctsHigh }, slv := { t.slv with sent := s.slv.sent ++ [SlvOut.idle] },
    seam := { t.seam with sent := s.seam.sent } }

/-- The parts that every reset of D01 to D50 loses, and what flash keeps of them. The lockout of R185 ends with them, which the spec leaves open
(DESIGN CHOICE, assumption log entry 165). -/
def State.lostCore (s : State) : State :=
  let s1 : State :=
    { s with
      col := Collar.reset, slv := Sleeve.reset, pockets := s.pockets.map (fun x => (x.1, x.2.kept)),
      queues := (s.queues.filter (fun q => q.2.state == .opened)).map (fun q => (q.1, q.2.kept)),
      arb := Arbiter.reset, refusals := [], cache := Cache.reset, flash := s.flashKept, execs := [], keys := s.keys.kept, seam := Seam.reset,
      twin := s.twin.kept, dram := { Dram.reset with record := s.dram.record, masksNext := s.dram.masksNext },
      htg := { s.htg with store := [] },
      access := { Access.reset with log := s.access.log, noted := s.access.noted, ext := s.access.ext } }
  s.sentOf s1

/-! ### The resets -/

/-- A lifecycle copy whose programming was cut short senses bits that nothing states (R948, R966): each bit asked for reads 0 or 1. -/
def State.senseLife (s : State) : List Nat :=
  match s.life.trans with
  | none => s.life.copies
  | some t => (List.range 3).map (fun i => (s.life.copies.getD i 0) ||| (t.bits &&& (Config.fuseSense s.free i).toNat))

/-- Every domain is held in power-on reset: nothing is kept but what flash and fuses hold, and the levels of the pins (R23, R69, R70,
Table BOOT-6). A primary that was not in MIRROR marks every region (R883). -/
def State.powerOff (s : State) : State :=
  let c := s.lostCore
  let b : Boot := { Boot.reset with
    supply := s.boot.supply, fuseSerial := s.boot.fuseSerial, fuseCode := s.boot.fuseCode, sleeveHigh := s.boot.sleeveHigh }
  let t : State := { c with
    regs := [], boot := b, htg := Htg.reset, pwr := { Pwr.reset with pmb := s.pwr.pmb }, access := { Access.reset with ext := s.access.ext },
    lin := { Lining.reset with desc := s.lin.desc, cdetLowUs := s.lin.cdetLowUs },
    life := { Life.reset with copies := s.senseLife, tapIn := s.life.tapIn, tap := s.life.tap },
    free := if s.life.trans.isSome then s.free + 1 else s.free }
  let primary := match s.twin.pairing with | some g => g.primary | none => false
  if primary = true ∧ s.get SEAM_TWIN.STATE ≠ 2 then t.markAll else t

/-- Registers of D00 that a cold reset keeps (Table BOOT-6, R830): PWR_WAKESRC, PWR_WAKETIME, SYS_RSTCAUSE, SYS_RSTLAST, the Hangtag block, the fault log's counts, BIST_RESw. -/
def coldKeeps (a : Nat) : Bool :=
  a == SYS_RSTCAUSE.addr || a == SYS_RSTLAST.addr || a == PWR_WAKESRC.addr || a == PWR_WAKETIME.addr || a / 0x10000 == 0x400D || a == TAG_FTOTAL.addr || a == TAG_FHEAD.addr ||
  decide (BIST_RES.addr 1 ≤ a ∧ a ≤ BIST_RES.addr 40)

/-- A cold reset of D00 to D50 (Table BOOT-6, R105): the level is PL2, or the level in force where the regulator does not answer. -/
def State.coldReset (s : State) : State :=
  let c := s.lostCore
  let b : Boot := { Boot.reset with
    supply := true, fuseSerial := s.boot.fuseSerial, fuseCode := s.boot.fuseCode, onUs := s.boot.onUs, sleeveHigh := s.boot.sleeveHigh }
  let s1 : State :=
    { c with
      regs := s.regs.clear (fun _ => true) coldKeeps, boot := b, pwr := { Pwr.reset with pmb := s.pwr.pmb }, life := { s.life with trans := none, run := none },
      lin := { Lining.reset with desc := s.lin.desc, cdetLowUs := s.lin.cdetLowUs } }
  if s.pwr.regBad then s1.setLevel (s.get PWR_LEVEL.CUR) else s1

/-- A warm reset of D01 to D50: D00 stays, with the retired-rank record; every domain is fenced, and waits for the ladder (R103, R764,
R776). The ladder that follows is a first one: only the start-up timer makes it the retry of R86. -/
def State.warmReset (s : State) : State :=
  let s0 := ((List.range 50).map (fun k => k + 1)).foldl (fun t d => t.fenceOff d) s
  let c := s0.lostCore
  let r := s0.regs.clear (fun d => 1 ≤ d) (fun a => a == DRC_RANK.addr 0 || a == DRC_RANK.addr 1)
  let s1 : State :=
    { c with
      regs := r, boot := { s0.boot with ready := false, pending := none, retry := false },
      pwr := { Pwr.reset with
        pmb := s0.pwr.pmb, regBad := s0.pwr.regBad, fullLevel := s0.pwr.fullLevel, timerS := s0.pwr.timerS, tackS := s0.pwr.tackS, tackCh := s0.pwr.tackCh },
      lin := { s0.lin with bare := false }, life := { s0.life with trans := none, run := none },
      access := { c.access with p1Faults := s0.access.p1Faults } }
  let s2 := sleeveStatusRegs.foldl (fun t a => t.setWord a (resetWord a)) s1
  let s3 := ((((s2.set SYS_BOOTSTAT.MAP_RESIDENT 0).set SYS_BOOTSTAT.STORED_TRAIN 0).set SYS_BOOTSTAT.STAGING 1).set SYS_BOOTSTAT.REPLAY 0).set
    SYS_BOOTSTAT.UNCLEAN 0
  let s4 := ((s3.set SYS_BOOTSTAT.FIRST_BOOT 0).set PWR_STATE.STATE 0).set PWR_STATE.STEP 0
  ((s4.set PWR_DREQ.START 0).set PWR_DRES.BUSY 0).leaveRing 0

/-! ### The start-up ladder -/

/-- The rows of Table BOOT-4 in order. -/
def bootRows : List BootRow :=
  [.release, .aon, .pll, .fuse, .sram, .check, .tailor, .banner, .flash, .records, .dram, .keys, .tables, .ready]

/-- PHASE of a row (Table BOOT-23). The table gives the 30.0 ms row no phase: while it alone is open, PHASE stays 7 (DESIGN CHOICE,
assumption log entry 155). -/
def BootRow.phase : BootRow → Nat
  | .release => 0
  | .aon => 0
  | .pll => 1
  | .fuse => 2
  | .sram => 3
  | .check => 4
  | .tailor => 5
  | .banner => 5
  | .flash => 6
  | .records => 6
  | .dram => 6
  | .keys => 7
  | .tables => 7
  | .ready => 7

/-- SYS_BOOTSTAT.PHASE names the phase of the earliest row that is not complete; 9 in LIMP (R1173). -/
def State.showPhase (s : State) : State :=
  if s.limp then s.set SYS_BOOTSTAT.PHASE 9
  else
    match bootRows.find? (fun r => !s.boot.done.contains r) with
    | some r => s.set SYS_BOOTSTAT.PHASE r.phase
    | none => s.set SYS_BOOTSTAT.PHASE 8

/-- The rows a row waits for: all before it, but the key-slot row runs beside the DRAM row (Table BOOT-4). -/
def BootRow.after (r : BootRow) : List BootRow :=
  match r with
  | .keys => bootRows.takeWhile (fun x => x ≠ .dram)
  | r => bootRows.takeWhile (fun x => x ≠ r)

/-- May a row of the ladder be completed now? -/
def State.rowDue (s : State) (r : BootRow) : Bool :=
  s.boot.running && !s.boot.done.contains r && r.after.all (fun x => s.boot.done.contains x)

/-- A row is complete. -/
def State.rowDone (s : State) (r : BootRow) : State := ({ s with boot := { s.boot with done := s.boot.done ++ [r] } }).showPhase

/-- The ladder starts or resumes after a reset of a kind, from the trigger or the reset point at `us` (R79, R105, R109). -/
def State.startLadder (s : State) (k : ResetKind) (causes : List Nat) (us : Nat) : State :=
  let skipped : List BootRow :=
    match k with
    | .powerOn => [.release]
    | .cold => [.release, .aon]
    | _ => [.release, .aon, .fuse]
  let s1 := { s with boot := { s.boot with running := true, done := skipped, kind := k, triggerUs := us, ready := false } }
  ((s1.set SYS_BOOTSTAT.READY 0).showPhase).recordReset k causes

/-- A power-on: the ladder's trigger (R64, R79, R742, R1157). -/
def State.powerOn (s : State) (us : Nat) : State :=
  ({ s with boot := { s.boot with onUs := us } }).startLadder .powerOn [causePowerOn] us

/-- The boot form (Table BOOT-3): the retry of R86 runs in the RETRAIN form. -/
def State.bootForm (s : State) : BootForm :=
  if s.boot.retry then .retrain
  else
    match s.get SYS_STRAP.BOOT_SEL with
    | 0 => .normal
    | 1 => .noExt
    | 2 => .retrain
    | _ => if s.factory then .factory else .normal

/-- Do stored modes and stored training count in this form? -/
def State.storedForm (s : State) : Bool := s.bootForm == .normal || s.bootForm == .noExt

/-- A domain whose row succeeded enters IN (R781), but for one that LIMP has lost and one a command had switched off. D49 runs in LIMP
whatever its cause, because the Collar line and MGT frames then work (R112; assumption log entry 156). -/
def State.bringIn (s : State) (d : Nat) : State :=
  if s.flag (PWR_DSTAT.CMD_OFF d) ∨ (s.limpDomain = some d ∧ d ≠ 49) then s else s.enterIn d

def State.bringAll (s : State) (ds : List Nat) : State := ds.foldl State.bringIn s

/-- The rest of the 3.0 ms row: AON is released, the straps are sampled, Lining charge control starts (R31, R76, R708, R709). `ok` is the
sample of SLOT_VALID's range. -/
def State.aonRow (s : State) (p : Straps) : State :=
  let s1 := (((s.setFlag SYS_STRAP.SLOT_VALID (p.slotId ≤ 23)).set SYS_STRAP.BOOT_SEL p.bootSel).setFlag SYS_STRAP.MANTLE_CAP p.mantleCap).set
    SYS_STRAP.SLOT_ID p.slotId
  let s2 := (s1.set SYS_CLKSTAT.XTAL_OK 1).setFlag RMV_STAT.SEATED s1.lin.cdetLowUs.isSome
  let s3 := s2.loadDescriptor
  if s3.flag LIN_CFG.CHG_EN then s3.linRamp else s3

/-! ### DRAM at a start -/

/-- GiB of a rank by density code (Table DRC-10). -/
def rankGib (dens : Nat) : Nat := match dens with | 0 => 8 | 1 => 12 | _ => 16

/-- The state a rank starts in: by R547 where the retired-rank record holds nothing of it, else as the record has it; a copy that was
under way has ended with the contents. -/
def State.rankStart (s : State) (n r : Nat) : Nat :=
  let pop := (s.get (DRC_CFG.POP n)).testBit r
  let full := s.get (DRC_CFG.POP n) = 7 ∧ 32 < 3 * rankGib (s.get (DRC_CFG.DENS n))
  if !pop then 0
  else
    match s.get (rankFld n r) with
    | 0 => if r = 2 ∧ (s.flag (DRC_CFG.SPARE_EN n) = true ∨ full) then 5 else 1
    | 3 => 2
    | 6 => 5
    | k => k

/-- The ranks in use, by their states (Table DRC-5). -/
def inUse (st : List Nat) : List Nat := (List.range 3).filter (fun r => st.getD r 0 == 1 || st.getD r 0 == 2)

/-- The ranks of a channel kept to `m` in use: the highest surplus rank becomes the spare where there is none, any further one is held
idle (R577). -/
def shrinkTo (m : Nat) (st : List Nat) : List Nat :=
  let extra := (inUse st).drop m
  (List.range 3).map (fun r =>
    if extra.contains r then (if st.contains 5 = false ∧ extra.getLast? = some r then 5 else 4) else st.getD r 0)

/-- The ranks of both channels are laid out (R547, R573, R577). -/
def State.layRanks (s : State) : State :=
  let st (n : Nat) : List Nat := (List.range 3).map (fun r => s.rankStart n r)
  let two := s.bothChannels
  let m := if two then min (inUse (st 0)).length (inUse (st 1)).length else (inUse (st 0)).length
  let lay (t : State) (n : Nat) : State :=
    let l := if two then shrinkTo m (st n) else st n
    let act := inUse l
    let t1 := (List.range 3).foldl (fun u r => u.set (rankFld n r) (l.getD r 0)) t
    ((t1.set (DRC_RANK.LOG0 n) (act.getD 0 0)).set (DRC_RANK.LOG1 n) (act.getD 1 1)).set (DRC_STAT.SIZE_GIB n)
      (act.length * rankGib (t1.get (DRC_CFG.DENS n)))
  (lay s 0) |> fun t => if two then lay t 1 else t

/-- Does every populated channel have a rank in use (R578)? -/
def State.ranksServe (s : State) : Bool :=
  s.get (DRC_STAT.SIZE_GIB 0) != 0 && (!s.bothChannels || s.get (DRC_STAT.SIZE_GIB 1) != 0)

/-- The populated channels. -/
def State.channels (s : State) : List Nat := if s.bothChannels then [0, 1] else if s.get (DRC_CFG.POP 0) = 0 then [] else [0]

/-- The names of the carve-outs, in the order of `dram show`. -/
def carveNames : List String := ["map", "cache", "rings", "tags", "inbound", "scratch", "remap"]

/-- Do the places that the ROM chose hold what the carve-outs must (R325, R393, R405, R554, R555, R932)? Each is a base and a size in bytes;
the cache is what the others leave. -/
def State.carveFits (s : State) (ps : List (Nat × Nat)) : Bool :=
  let S := s.dramSize
  let size (k : Nat) : Nat := (ps.getD k (0, 0)).2
  let fits (a b : Nat × Nat) : Bool := decide (a.1 + a.2 ≤ b.1) || decide (b.1 + b.2 ≤ a.1)
  decide (ps.length = 7) && ps.all (fun p => decide (p.1 + p.2 ≤ S)) &&
  (List.range 7).all (fun i => (List.range i).all (fun j => fits (ps.getD i (0, 0)) (ps.getD j (0, 0)))) &&
  decide ((ps.map (fun p => p.2)).sum = S) && decide (size 2 = 384 * 2 ^ 20) && decide (size 3 = S / 64) && (ps.getD 6 (0, 0) == (S - 8192, 8192)) &&
  decide ((ps.getD 5 (0, 0)).1 + size 5 ≤ 2 ^ 31)

/-- The carve-outs stand where the ROM places them (R393, R555, R677); the cache has its size. -/
def State.placeCarves (s : State) (ps : List (Nat × Nat)) : State :=
  let cs : List Carve := (carveNames.zip ps).map (fun x => { name := x.1, base := x.2.1, size := x.2.2 : Carve })
  let tb := (ps.getD 3 (0, 0)).1
  let per := if s.bothChannels then tb / 2 else tb
  (((({ s with dram := { s.dram with carve := cs } }).set TAG_TBASE0.BASE_4K (per / 4096)).set TAG_TBASE1.BASE_4K
    (if s.bothChannels then per / 4096 else 0)).set CCH_SIZE.MIB ((ps.getD 1 (0, 0)).2 / 2 ^ 20))

/-- The hash masks, CS, BG0 to BG2, BA0, BA1, of both channels. -/
def State.setMasks (s : State) (ms : List Nat) : State :=
  (List.range 6).foldl (fun t f => [0, 1].foldl (fun u n => u.set (DRC_HMASK.MASK n f) (ms.getD f 0)) t) s

/-- The masks in force. -/
def State.masksNow (s : State) : List Nat := (List.range 6).map (fun f => s.get (DRC_HMASK.MASK 0 f))

/-- What a channel's PHY and devices have at a start. -/
def State.startChannels (s : State) (rfm : Bool) : State :=
  let ch (n : Nat) : DramCh := { DramCh.reset with rfm := rfm, closePage := s.flag (DRC_CFG.PAGE n) }
  { s with dram := { s.dram with ch := [ch 0, ch 1] } }

/-- Training registers: a channel's delay and strobe registers (Table DRC-11). -/
def trainReg (a : Nat) : Bool :=
  (a / 0x10000 == 0x4011 || a / 0x10000 == 0x4012) && decide (0x300 ≤ a % 0x10000 ∧ a % 0x10000 < 0x640)

/-- Full training has failed on channels, or never served them: the card stays on the staging path (R93, R578). -/
def State.trainFailed (s : State) (ns : List Nat) : State :=
  ns.foldl (fun t n => (t.set (DRC_STAT.TRAIN n) 4).notify "boot dram failed" [("ch", dec n)]) (s.set SYS_BOOTSTAT.DRAM_FAIL 1)

/-- Tenths of a millisecond from the trigger, as the notices of a start give them (R85, R1170). -/
def State.sinceTrigger (s : State) (us : Nat) : String := decPlaces 1 (roundDiv (us - s.boot.triggerUs) 100)

/-! ### READY -/

/-- A level the regulator offers (R807): its VCORE in whole steps of 2^N V, at most 20 mV above and at most VOUT_MAX. -/
def regOffers (r : Regulator) (mv : Nat) : Bool :=
  if 0 ≤ r.exp then false
  else
    let k := 2 ^ (-r.exp).toNat
    let steps := (mv * k + 999) / 1000
    r.linear && decide (1000 * steps ≤ (mv + 20) * k) && decide (steps ≤ r.vmax)

/-- The levels that a regulator offers. -/
def regLevels (r : Regulator) : Nat :=
  ((List.range 4).map (fun l => if regOffers r (levelMv.getD l 0) then 2 ^ l else 0)).sum

/-- After READY the card moves to the configured level as far as the regulator and throttling allow (R105, R801, R805, R808). -/
def State.toConfigured (s : State) : State :=
  let l := s.get PWR_LEVEL.CFG
  if s.flag PWR_PMB.OK = true ∧ s.flag PWR_LEVEL.THROTTLED = false ∧ (s.get PWR_LEVEL.AVAIL).testBit l = true then s.levelAsk l else s

/-- The regulator is read after READY of a power-on or cold reset (R71, R806 to R808): CAPABILITY, VOUT_MODE, VOUT_MAX and PMBUS_REVISION, in
an order that the spec leaves open (DESIGN CHOICE, assumption log entry 188). -/
def State.readRegulator (s0 : State) (reg : Option Regulator) : State :=
  match reg with
  | none => (s0.pmbus [.read 0x19]).regFault
  | some r =>
    let s := s0.pmbus [.read 0x19, .read 0x20, .read 0x24, .read 0x98]
    if regLevels r = 0 then s.regFault
    else
      (((((s.set PWR_LEVEL.AVAIL (regLevels r)).set PWR_PMB.OK 1).setFlag PWR_PMB.PEC r.pec).set PWR_PMB.REV r.rev).set PWR_PMB.EXP
        ((r.exp + 32) % 32).toNat)

/-- Full training starts where the staging path was selected and
nothing has failed (R91, R92, R112). -/
def State.afterReady (s : State) : State :=
  if s.flag SYS_BOOTSTAT.STAGING = true ∧ s.flag SYS_BOOTSTAT.DRAM_FAIL = false then
    s.channels.foldl (fun t n => if t.domIn (29 + 2 * n) && t.domIn (30 + 2 * n) then t.set (DRC_STAT.TRAIN n) 1 else t) s
  else s

/-- READY rises (R73, R83 to R85, R89, R109, R113, R1173). -/
def State.readyRise (s : State) (reg : Option Regulator) (us : Nat) : State :=
  let b : Boot := { s.boot with running := false, ready := true, done := bootRows }
  let s1 : State := ({ s with boot := b }).set SYS_BOOTSTAT.READY 1
  let s2 : State := s1.showPhase.setSat SYS_BOOTTIME.READY_US (us - b.triggerUs)
  let s3 := s2.notify "boot ready"
    [("ms", s2.sinceTrigger us), ("dram", if s2.flag SYS_BOOTSTAT.STAGING then "staging" else "trained"),
     ("map", if s2.flag SYS_BOOTSTAT.MAP_RESIDENT then "resident" else "paging")]
  let s4 : State := match b.kind with | .warm => s3 | _ => s3.readRegulator reg
  let s5 := if s4.pwr.regBad then s4 else s4.toConfigured
  s5.afterReady.greet.seamCheck.tapGate

end Sys2Proof.Machine
end

