-- ==== Sys2Proof/Machine/CollarRows.lean ====
section
/-!
DEFINITION. Sys2Proof/Machine/CollarRows.lean: the events of the Collar line and of the Baleong sessions (chapter 03).
-/
namespace Sys2Proof.Machine
open Sys2Proof

/-- The characters the card holds and has not yet processed (R130): those of each complete line with its terminator, and the partial line,
the ones received in error among them. -/
def State.heldChars (s : State) : Nat :=
  (s.col.held.map (fun l => l.chars.length + l.marks + 1)).sum + s.col.part.chars.length + s.col.part.marks

/-- Echo on the Collar line, in typed mode alone (Table COL-3). -/
def State.echo (s : State) (cs : List Nat) : State :=
  if s.strict .collar then s else s.send .collar (.echo cs)

/-- A new partial line. -/
def State.setPart (s : State) (l : RawLine) : State := { s with col := { s.col with part := l } }

/-- The removal of the last `n` characters, echoed as BS, space, BS each (Table COL-3). -/
def rubout : Nat → List Nat
  | 0 => []
  | n + 1 => [0x08, 0x20, 0x08] ++ rubout n

/-- The terminator is taken even when 256 characters are held: it ends the line that lost characters (assumption log entry 161).
CR ends the line: an empty one is prompted again or ignored (R155), a `=` while a reply is pending is discarded (R172); any other waits for its
processing. -/
def State.endLine (s : State) : State :=
  let l := s.col.part
  let s1 := (s.echo [0x0D, 0x0A]).setPart RawLine.empty
  if l = { RawLine.empty with chars := [0x3D] } ∧ (s.col.collar.await.isSome = true ∨ s.replyHeld .collar = true) then s1
  else if !l.parity && !l.framing && !l.overrun && l.chars.all (· == 0x20) then s1.prompt .collar
  else { s1 with col := { s1.col with held := s1.col.held ++ [l] } }

/-- An accepted character joins the partial line, or is lost because 256 are held (R130, R174). -/
def State.takeChar (s : State) (c : Nat) : State :=
  let l := s.col.part
  if 256 ≤ s.heldChars then s.setPart { l with overrun := true }
  else (s.echo [c]).setPart { l with chars := l.chars ++ [c] }

/-- A character received whole and right (R141, R152, Table COL-3). -/
def State.goodChar (s : State) (c : Nat) : State :=
  let l := s.col.part
  if c = 0x0D then s.endLine
  else if c = 0x0A then s
  else if s.strict .collar then s.takeChar c
  else if c = 0x08 ∨ c = 0x7F then
    if l.chars = [] then s else (s.echo (rubout 1)).setPart { l with chars := l.chars.dropLast }
  else if c = 0x15 then
    if l.chars = [] then s else (s.echo (rubout l.chars.length)).setPart { l with chars := [] }
  else if c < 0x20 ∨ 0x80 ≤ c then s
  else s.takeChar c

/-- A character at COL_RXD that reaches the line editor: discarded before the banner (R81), in the speed-change window, which begins as the reply
has gone (R138), in a break and once T0 is off (R201); a parity or framing error marks its line and is not echoed (R132). -/
def State.collarChar (s : State) (c : Nat) (parity framing : Bool) : State :=
  if !s.bannerDone || !(s.t0Runs || s.asleep) || (s.col.switchDiv.isSome && !s.replyHeld .collar) || s.col.inBreak then s
  else if parity || framing then
    let l := { s.col.part with parity := s.col.part.parity || parity, framing := s.col.part.framing || framing }
    s.setPart (if 256 ≤ s.heldChars then { l with overrun := true } else { l with marks := l.marks + 1 })
  else s.goodChar (c % 256)

/-- A line that brings no command, as the card keeps it while the reply before it is owed. -/
def discarded (path : Path) : Waited := { path := path, tag := none, bad := false, verb := "", sub := some "RP" }

/-- Is it the oldest line that the Collar holds, where it holds one (R130, R173)? -/
def State.isHeld (s : State) (path : Path) (p : RawLine → Bool) : Bool :=
  match path, s.col.held with
  | .collar, l :: _ => p l
  | _, _ => true

/-- LINE_DISCARD (R166 to R168, R142, R152, R173, R188, R198): a line that cannot be trusted is answered RP with the first reason of Table COL-5
that applies; a line with no fault is not discarded. An empty line of MGT or a Seam path is ignored (Table COL-3). -/
def execLineDiscard (path : Path) (line : RawLine) (s : State) : Host.Outcome State Fault Refusal :=
  let fault := lineFault (s.strict path) (path != .collar) line
  let mine := fault.isSome || (path != .collar && line.chars.all (· == 0x20))
  if !s.hears path || !s.isHeld path (· == line) || !mine then .next s
  else if path = .mgt ∧ (s.frameJudge line.rx).2 = false then .next (s.heard path line.rx)
  else if s.ripe (discarded path) line.rx = false then .next (s.keepLine (discarded path) line.rx)
  else
    match fault with
    | some w => .next ((s.heard path line.rx).rp path w)
    | none => .next (s.heard path line.rx)

/-- The notices among what the Collar holds back (R129). -/
def CardLine.noticeOf : CardLine → Option Notice
  | .notice _ n => some n
  | _ => none

/-- The end of a break (R133, R186, R1001): a reply that is held back is abandoned, a notice that is held back goes again first; a command
still executing goes on without its reply. -/
def State.breakEnd (s0 : State) : State :=
  let s := s0.mute .collar
  let x := s.col.collar.restart .operator
  let c1 : Collar := { s.col with
    part := RawLine.empty, held := [], switchDiv := none, ctsNext := none, txHold := [], txCut := 0, txLock := false, inBreak := false,
    collar := { x with notices := s.col.txHold.filterMap CardLine.noticeOf ++ x.notices } }
  let s1 := ({ s with col := c1 }).dropImage .collar
  let s2 := (((s1.set SYS_COLCFG.BAUD_DIV 0x1B20).set SYS_COLCFG.STRICT 0).set SYS_COLCFG.CTS_EN 0).ctsRelease
  if !s.bannerDone || !s.t0Runs then s2
  else ((s2.send .collar (.banner (s2.get SYS_SERIAL.SERIAL))).send .collar .prompt).sendNotices .collar

/-- COLLAR_BREAK (R133, R196): COL_RXD has been low for 100 ms, and the card sends nothing further: `left` characters of its output have not gone.
With `ended` the break ends. -/
def execCollarBreak (ended : Bool) (left : Nat) (s : State) : Host.Outcome State Fault Refusal :=
  if ended then .next s.breakEnd
  else
    let s1 := s.cutOutput left
    .next { s1 with col := { s1.col with inBreak := true } }

/-- LINE_SPEED_SWITCH (R137, R139, R195): the new speed stands, and in typed mode the prompt follows at that speed. -/
def execLineSpeedSwitch (s : State) : Host.Outcome State Fault Refusal :=
  match s.col.switchDiv with
  | none => .next s
  | some d =>
    if s.replyHeld .collar then .next s else
    let s1 := { s with col := { s.col with switchDiv := none } }
    .next ((s1.set SYS_COLCFG.BAUD_DIV d).prompt .collar)

/-- STRICT_IDLE_TIMEOUT (R152, Table COL-3): a partial strict line with no character for 1 s is discarded with RP;
an earlier row of Table COL-5 that also applies to it is the reason reported (R167). -/
def execStrictIdleTimeout (s : State) : Host.Outcome State Fault Refusal :=
  if !s.strict .collar || s.col.part == RawLine.empty || !s.t0Runs then .next s
  else
    match lineFault true false { s.col.part with idle := true } with
    | some w => .next ((s.setPart RawLine.empty).rp .collar w)
    | none => .next s

/-- TYPED_NOTICE_RELEASE (R163, R195, R196): notices go out on fresh lines, then the prompt and the partial line again. -/
def execTypedNoticeRelease (s : State) : Host.Outcome State Fault Refusal :=
  if s.strict .collar || s.col.part == RawLine.empty || s.col.collar.due == [] || s.col.collar.await.isSome || s.col.switchDiv.isSome ||
      s.col.inBreak || !s.t0Runs || !s.col.held.isEmpty || s.replyHeld .collar then .next s
  else .next (((s.send .collar (.echo [0x0D, 0x0A])).sendNotices .collar).send .collar (.echo s.col.part.chars))

/-- NOTICE_SEND (R162, R164, R165, R189, R195): an idle path sends its queued notices; MGT once the link has negotiated,
and the Collar outside the speed-change window and a break (R196). -/
def execNoticeSend (path : Path) (s : State) : Host.Outcome State Fault Refusal :=
  if !s.bannerDone || !s.t0Runs || !s.pathIdle path then .next s
  else if path = .collar ∧ (s.col.switchDiv.isSome ∨ s.col.inBreak) then .next s
  else if path = .mgt ∧ !s.linkUp then .next s
  else .next (s.sendNotices path)

/-- RESEND_REQUEST (R82, R169 to R173, R198): `=` alone; `rx` is the MGT frame that brought it. While a reply is pending it is discarded. -/
def execResendRequest (path : Path) (parity framing : Bool) (rx : FrameRx) (s : State) : Host.Outcome State Fault Refusal :=
  if !s.hears path || !s.isHeld path (fun l => l.chars == [0x3D] && l.parity == parity && l.framing == framing) then .next s
  else if path = .mgt ∧ (s.frameJudge rx).2 = false then .next (s.heard path rx)
  else if s.listens path = false then .next (if parity || framing then s else s.heard path rx)
  else
    let s0 := s.heard path rx
    if parity then .next (s0.rp path .parity)
    else if framing then .next (s0.rp path .framing)
    else
      match (s0.session path).last with
      | none => .next (s0.reply path (.er none .wrongState))
      | some (st, r) => .next ((s0.send path (.reply st r)).prompt path)

/-- CHALLENGE_EXPIRY (R183): 60 s after the reply that issued it a challenge is no longer valid. -/
def execChallengeExpiry (path : Path) (s : State) : Host.Outcome State Fault Refusal :=
  .next (s.setSession path { s.session path with chal := none })

/-- CHALLENGE_LOCKOUT_END (R185). -/
def execChallengeLockoutEnd (s : State) : Host.Outcome State Fault Refusal :=
  .next { s with col := { s.col with lockout := false } }

/-- SERVICE_IDLE_EXPIRY (R186): 15 minutes without a line. Table COL-7 has no name for the start of a Seam path that is not the active
Mantle's: its notice says NONE (DESIGN CHOICE, assumption log entry 162). -/
def execServiceIdleExpiry (path : Path) (s : State) : Host.Outcome State Fault Refusal :=
  if (s.session path).role = .service then
    let r := s.startRole path
    .next ((s.setSession path { s.session path with role := if r = .mantle then .none else r }).notifyOn path "role expired"
      [("role", roleName r)])
  else .next s

/-- The statuses that a reply or a job can end with: not those of UNP markers, nor those that a line shows as RP alone (R193). -/
def Status.final : Status → Bool
  | .unpickedEcc | .unpickedMac | .badCheck | .lineTooLong | .badFrame => false
  | _ => true

/-- JOB_DONE (R161, R175, R193): the work of job `num` ends with a status. -/
def execJobDone (num : Nat) (status : Nat) (s : State) : Host.Outcome State Fault Refusal :=
  match Status.ofCode status with
  | some st => .next (if st.final then s.endJob num st else s)
  | none => .next s

/-- COL_CTS_N_CHANGE (R129): with CTS_EN at 1 a low level lets the next waiting character start; a high one holds back the `left` characters of the
card's output that have not started. -/
def execColCtsNChange (high : Bool) (left : Nat) (s : State) : Host.Outcome State Fault Refusal :=
  let s1 := { s with col := { s.col with ctsHigh := high } }
  if s1.ctsHolds then .next (if s.ctsHolds || s.col.inBreak then s1 else s1.cutOutput left) else .next s1.ctsRelease

/-- SYS_COLCFG_BAUD_WRITE (R125, R140, R197): the speed changes at the next character boundary. -/
def execSysColcfgBaudWrite (div : Nat) (s : State) : Host.Outcome State Fault Refusal :=
  .next (s.set SYS_COLCFG.BAUD_DIV div)

/-- UNKNOWN_COMMAND_LINE (R147, R970): a trusted line whose verb or subcommand is unknown. Every path but a Seam source
without a role answers it; such a source is refused with ROLE (R192). -/
def execUnknownCommandLine (ln : Ln) (s : State) : Host.Outcome State Fault Refusal :=
  .next (s.runLine Say.unknownCommandLine ln { changing := false, roles := [.operator, .host, .mantle, .service], needs := [] } false
    (fun t => (t, .fail .badVerb)))

end Sys2Proof.Machine
end

