-- ==== Sys2Proof/Machine/SleeveRows.lean ====
section
/-!
DEFINITION. Sys2Proof/Machine/SleeveRows.lean: negotiation, training, clock stop, lanes, acknowledgement and turns of the
Sleeve link (chapters 04 and 05).
-/
namespace Sys2Proof.Machine
open Sys2Proof

/-- GRT_REPEAT (R230): no valid SEL within 200 µs, so GRT goes out again. -/
def execGrtRepeat (s : State) : Host.Outcome State Fault Refusal :=
  if s.slv.phase = .grtSent then .next s.sendGrt else .next s

/-- SEL_RECEIVE (R213, R227, R228, R232, R262): a SEL arrives on L0 with `errs` character errors; a valid one answers the GRT, and the card
sends CNF twice. -/
def execSelReceive (payload : Bytes) (crcOk : Bool) (errs : Nat) (s : State) : Host.Outcome State Fault Refusal :=
  let s0 := s.count (SLV_LANEERR.COUNT 0) errs
  if s.slv.phase ≠ .grtSent ∨ crcOk = false ∨ payload.length < 64 ∨ payload.getD 0 0 ≠ 0x02 then .next s0
  else if payload.getD 1 0 ≠ 1 then
    .next (({ s0 with slv := { s0.slv with phase := .refused } }).slvSend [.cnf (cnfPayload 0x03 LinkMode.none 2 0)])
  else
    let (m, result) := s.chooseMode payload
    let v : Sleeve := { s0.slv with
      phase := .s0, mode := m, selLanes := (payload.getD 3 0).toNat, selGusset := (payload.getD 4 0).getLsbD 0,
      attempt := 0 }
    .next (({ s0 with slv := v }).slvSend [.cnf (cnfPayload 0x03 m result 0)])

/-- GRT_RESTART (R229, R243): 1 ms later, a new GRT with REASON 4. -/
def execGrtRestart (us : Nat) (s : State) : Host.Outcome State Fault Refusal :=
  if s.slv.phase = .refused ∨ s.slv.phase = .floorFailed then .next ((s.at us).negotiate 4) else .next s

/-- TRAINING_ATTEMPT_START (R233 to R235). -/
def execTrainingAttemptStart (s : State) : Host.Outcome State Fault Refusal :=
  if s.slv.phase = .s0 then .next s.startAttempt else .next s

/-- TRAINING_REPORT_RECEIVE (R213, R227, R236, R237): the host's Phase B as each lane brought it, and its report on L0 with `errs` character
errors. From a report of another attempt than k, for which the spec gives no rule, the card takes no result of Phase A (DESIGN CHOICE,
assumption log entry 170). -/
def execTrainingReportReceive (payload : Bytes) (crcOk : Bool) (errs : Nat) (phaseB : List LaneTrain) (s : State) :
    Host.Outcome State Fault Refusal :=
  if s.slv.phase ≠ .training then .next s
  else
    let okA :=
      if crcOk = true ∧ 16 ≤ payload.length ∧ payload.getD 0 0 = 0x12 ∧ (payload.getD 1 0).toNat = s.slv.attempt
      then some ((payload.getD 2 0).toNat + (if (payload.getD 3 0).getLsbD 0 then 256 else 0)) else none
    let s1 := phaseB.foldl (fun t l => if l.lane < 9 then t.count (SLV_LANEERR.COUNT l.lane) l.errs else t)
      (s.count (SLV_LANEERR.COUNT 0) errs)
    .next { s1 with slv := { s1.slv with okA := okA, okB := some (lanesGood phaseB) } }

/-- TRAINING_VERDICT (R238 to R240, R243, R264): PASS when every data lane was judged good in both phases; a Gusset lane that
alone failed is off. -/
def execTrainingVerdict (s : State) : Host.Outcome State Fault Refusal :=
  if s.slv.phase ≠ .training then .next s
  else
    match s.slv.good with
    | some g =>
      if s.slv.tried.lanes &&& g = s.slv.tried.lanes then
        let m : LinkMode := { s.slv.tried with gusset := s.slv.tried.gusset && g.testBit 8 }
        .next (({ s with slv := { s.slv with phase := .passed, mode := m } }).slvSend
          [.cnf (cnfPayload 0x13 m 0 s.slv.attempt)])
      else .next (s.attemptFailed true)
    | none => .next (s.attemptFailed true)

/-- PASS_PREAMBLE_TIMEOUT (R242): no host preamble within 50 µs of a PASS verdict. -/
def execPassPreambleTimeout (s : State) : Host.Outcome State Fault Refusal :=
  if s.slv.phase = .passed then .next (s.attemptFailed false) else .next s

/-- DATA_PHASE_ENTRY (R223, R234, R244, R247, R254, R278, R286, R293, R306): the host's first data-phase preamble. Items that wait are cut to
the MAX_FRAME now in force. After a Sleeve reset the 50 ms of a READ that runs on start here (R378, R418). -/
def execDataPhaseEntry (us : Nat) (s : State) : Host.Outcome State Fault Refusal :=
  if s.slv.phase ≠ .passed then .next s
  else
    let s0 := s.at us
    let s1 := (s0.setLanes s0.slv.mode.rate s0.slv.mode.mask).forceMode.lanesIn
    let items := (s1.slv.newItems.map (TxItem.cut (max 256 s1.slv.mode.maxFrame))).flatten
    let again (x : Exec) : Exec := if s1.slv.fresh then { x with lastBasted := x.lastBasted.map (fun _ => s1.clk) } else x
    let v : Sleeve := { s1.slv with phase := .data, fresh := false, backAt := none, ackUndo := none, newItems := items }
    let s2 := (((({ s1 with slv := v, execs := s1.execs.map again }).set SLV_STAT.STATE 2).set SLV_STAT.OWNER 0)).laneRetrain
    let m := s2.slv.mode
    .next (s2.notify "sleeve up"
      [("lanes", dec (lanesOf m.lanes).length), ("rate", rateText m.rate), ("gusset", onOff m.gusset),
       ("split", onOff (m.feat.testBit 0)), ("attempts", dec s2.slv.attempt), ("us", dec (s2.clk - s2.slv.firstGrtUs))])

/-- LNK_RETRAIN_RECEIVE (R213, R272, R279, R292, R304, R308): an LNK frame; a damaged one is a damaged item, one of any other subtype than
RETRAIN is ignored. A retrain of the card's own that stands in the same turn pair keeps its REASON. -/
def execLnkRetrainReceive (rx : SlvRx) (subtype arg : Nat) (s : State) : Host.Outcome State Fault Refusal :=
  if s.slv.phase ≠ .data then .next s
  else
    match s.frameWhole rx 4 with
    | (s0, .accepted) =>
      if subtype ≠ 1 then .next s0
      else
        let r := s.slv.retrainDue.getD arg
        let s1 := ((s0.count SLV_RETRAIN.COUNT 1).set SLV_RETRAIN.LAST_REASON r).set SLV_CTL.RETRAIN 0
        .next { s1 with slv := { s1.slv with phase := .retrainSent, reason := r, retrainDue := none } }
    | (s0, _) => .next s0

/-- RETRAIN_GRT (R246, R291): 50 to 100 µs after the turn with the retrain frame; the send counts restart. -/
def execRetrainGrt (us : Nat) (s : State) : Host.Outcome State Fault Refusal :=
  if s.slv.phase ≠ .retrainSent then .next s
  else
    let v : Sleeve := { s.slv with unacked := s.slv.unacked.map (fun x => { x with sends := 0 }), backAt := none }
    .next ((({ s with slv := v }).at us).negotiate s.slv.reason)

/-- CLOCK_STOP_SEND (R214, R248, R249, R285): at its turn, with clock stop in force, every item acknowledged and nothing queued. The turn
opens like every other and ends with STOP. -/
def State.clockStopSend (s : State) : State :=
  if s.slv.phase = .data ∧ s.flag SLV_STAT.OWNER = true ∧ s.slv.mode.feat.testBit 1 = true ∧ s.slv.unacked = [] ∧
     s.slv.newItems = [] ∧ s.slv.posted = [] ∧ s.refusals = [] ∧ s.slv.repDue = false ∧ s.slv.retrainDue = none then
    let m := s.leaseNow
    ((s.slvSend [s.opening m false, .stop]).set SLV_STAT.LEASE_M m).clockStopped
  else s

/-- CLOCK_STOP_RECEIVE (R213, R248, R249, R305): STOP arrived without error on the lanes given. -/
def State.clockStopReceive (s : State) (lanes : List Nat) : State :=
  if s.slv.phase = .data then
    let (s1, seen) := s.codeSeen (s.rxLanes false) lanes
    if seen then s1.clockStopped else s1
  else s

/-- CARD_WAKE_BURST (R219, R251, R821): the card has an item to send on a stopped link; the lanes are switched on first. In a Sleeve reset
and in a power state it sends nothing. -/
def execCardWakeBurst (s : State) : Host.Outcome State Fault Refusal :=
  if s.slv.phase = .stopped ∧ s.boot.sleeveHigh = true ∧ s.asleep = false ∧ (s.slv.newItems ≠ [] ∨ s.slv.posted ≠ [] ∨ s.refusals ≠ [] ∨ s.slv.retrainDue ≠ none) then
    let s1 := s.sleeveOn
    .next (({ s1 with slv := { s1.slv with phase := .waking, bursts := 1 } }).slvSend [.burst])
  else .next s

/-- WAKE_BURST_RETRY (R253, R261): another burst, and after three a negotiation with REASON 5. -/
def execWakeBurstRetry (us : Nat) (s : State) : Host.Outcome State Fault Refusal :=
  if s.slv.phase ≠ .waking then .next s
  else if s.slv.bursts < 3 then
    .next (({ s with slv := { s.slv with bursts := s.slv.bursts + 1 } }).slvSend [.burst])
  else .next ((s.at us).negotiate 5)

/-- LANE_ERROR_THRESHOLD (R247, R254, R256, R309): 16 character errors within 1 ms on a lane in use. -/
def execLaneErrorThreshold (lane : Nat) (s : State) : Host.Outcome State Fault Refusal :=
  if lane ≤ 8 ∧ s.dom (laneDomain lane) = 3 then .next (s.laneOut lane true) else .next s

/-- The character errors of an ACK or REP (R213, R304): those of its K-code are counted, those of a data character are corrected where L8
covers one lane's error. -/
def State.ctlErrs (s : State) (cs : List CtlCopy) : State :=
  let k := (cs.filter (fun c => !c.code)).map (·.lane)
  let s1 := k.foldl (fun t l => if l < 9 then t.count (SLV_LANEERR.COUNT l) 1 else t) s
  (List.range 3).foldl (fun t i => (t.charErrs true ((cs.filter (fun c => c.args[i]? == some none)).map (·.lane))).1) s1

/-- E of a received ACK or REP (R284, R305): its K-code recognised, E from the data lanes on which every character arrived without error.
Lanes disagree where their E does; the host's LEASE character, which always is 0xF0, is not compared (DESIGN CHOICE, assumption log entry
202). -/
def State.ctlValue (s : State) (cs : List CtlCopy) : Option Nat :=
  if !recognised (s.rxLanes false) ((cs.filter (·.code)).map (·.lane)) then none
  else
    let whole := cs.filter (fun c => c.lane != 8 && c.code && c.args.all (·.isSome))
    ackTaken (whole.map (fun c => ((c.args.getD 0 none).getD 0, (c.args.getD 1 none).getD 0)))

/-- ACK_RECEIVE (R213, R283, R284, R290, R305, R312, R313): the ACK that opens the host's turn. It acknowledges every item before E;
where it stops short of an item already sent, the card goes back to that item. -/
def execAckReceive (copies : List CtlCopy) (s : State) : Host.Outcome State Fault Refusal :=
  let s0 := s.resume
  if s0.slv.phase ≠ .data then .next s0
  else
    let s1 := s0.ctlErrs copies
    match s1.ctlValue copies with
    | none => .next s1
    | some e =>
      if !s1.ackInRange e then .next s1
      else
        let s2 := (s1.acked e).goBackTo e
        let u : AckUndo :=
          { acked := s1.get SLV_SEQ.TX_ACKED, items := s1.slv.unacked, back := s1.slv.backAt, next := s1.slv.txNext,
            cut := s2.slv.newItems.length - s1.slv.newItems.length }
        .next { s2 with slv := { s2.slv with ackUndo := some u } }

/-- The link as it stood before the ACK of this host turn (R307, R313). -/
def State.ackUndone (s : State) : State :=
  match s.slv.ackUndo with
  | none => s
  | some u =>
    ({ s with slv := { s.slv with
        unacked := u.items, backAt := u.back, ackUndo := none, txNext := u.next,
        newItems := s.slv.newItems.drop u.cut } }).set SLV_SEQ.TX_ACKED u.acked

/-- REP_RECEIVE (R213, R283, R284, R290, R305, R307, R313, R417): the host asks for E and every later item again. It counts from what was
acknowledged before this turn, so that it goes back also behind an ACK with a later number; an ignored REP takes the ACK of its turn with
it. -/
def execRepReceive (copies : List CtlCopy) (s : State) : Host.Outcome State Fault Refusal :=
  if s.slv.phase ≠ .data then .next s
  else
    let s1 := s.ctlErrs copies
    let s2 := s1.ackUndone
    match s2.ctlValue copies with
    | none => .next s2
    | some e => if !s2.ackInRange e then .next s2 else .next (((s2.count SLV_REPCNT.RX 1).acked e).goBackTo e)

/-- The host's turn has ended: the card owns the link. -/
def State.turnTaken (s : State) : State := ({ s with slv := { s.slv with ackUndo := none } }).set SLV_STAT.OWNER 1

/-- TURN_RECEIVE (R213, R286, R305): TURN arrived without error on the lanes given; where it is recognised, the host hands the link over. -/
def execTurnReceive (lanes : List Nat) (s : State) : Host.Outcome State Fault Refusal :=
  let s0 := s.resume
  if s0.slv.phase = .data then
    let (s1, seen) := s0.codeSeen (s0.rxLanes false) lanes
    .next (if seen then s1.turnTaken else s1)
  else .next s0

/-- TURN_IDLE_INFERENCE (R289): every lane the owner drove is idle for 1 µs, so the turn is taken as ended. -/
def execTurnIdleInference (s : State) : Host.Outcome State Fault Refusal :=
  if s.slv.phase = .data then .next s.turnTaken else .next s

/-- REPEAT_LIMIT (R247, R291, R292): an item would be sent for the ninth time. -/
def execRepeatLimit (s : State) : Host.Outcome State Fault Refusal :=
  if s.slv.phase = .data ∧ s.slv.backAt.isSome = true ∧ s.slv.unacked.any (fun x => 8 ≤ x.sends) = true then .next (s.retrain 1)
  else .next s

/-- A write of SLV_CTL (R247): a write of 1 to SLV_CTL.RETRAIN starts a retrain with REASON 2; the bit clears when the
retrain frame has been sent. On a link that is neither in its data phase nor clock stopped the bit is set and starts nothing, and it stays
until a retrain or a Sleeve reset (DESIGN CHOICE, assumption log entry 205). -/
def State.ctlRetrain (s : State) : State :=
  let s1 := s.set SLV_CTL.RETRAIN 1
  if s1.linkUp then s1.retrain 2 else s1

/-- SLV_CTL_RETRAIN (R247, Table SLVF-13). -/
def execSlvCtlRetrain (s : State) : Host.Outcome State Fault Refusal := .next s.ctlRetrain

end Sys2Proof.Machine
end

