-- ==== Sys2Proof/Machine/PowerRows.lean ====
section
/-!
DEFINITION. Sys2Proof/Machine/PowerRows.lean: performance levels, the regulator, entry to and exit from power states, wake sources,
comparators and the ADC (chapter 15), with the rows of other chapters that an entry waits for or that end one.
-/
namespace Sys2Proof.Machine
open Sys2Proof

/-! ### Rows an entry waits for -/

/-- STITCH_PROGRAM_DONE (R443, R444, R446, R452, R457, R460, R468, R476, R477, R481, R811, R873): the program of a page's word line
reports. -/
def execStitchProgramDone (ppa : Nat) (ok : Bool) (s : State) : Host.Outcome State Fault Refusal :=
  .next ((s.stitchProgrammed ppa ok).twinAck).entryGo

/-- CHECKPOINT_DONE (R460, R463, R811, R1023): the index pages and the record are written. -/
def execCheckpointDone (us : Nat) (s : State) : Host.Outcome State Fault Refusal := .next (s.checkpointEnds us).entryGo

/-- CLOCK_STOP_SEND (R248, R249, R811). -/
def execClockStopSend (s : State) : Host.Outcome State Fault Refusal := .next s.clockStopSend.entryGo

/-- CLOCK_STOP_RECEIVE (R213, R248, R249, R305, R811). -/
def execClockStopReceive (lanes : List Nat) (s : State) : Host.Outcome State Fault Refusal := .next (s.clockStopReceive lanes).entryGo

/-! ### Rows that are wake events -/

/-- A Sleeve frame that arrives after an entry's OK is a wake event (R815). -/
def State.frameWake (s : State) : State :=
  if s.pwr.entry.isSome ∧ s.slv.phase = .data then s.wakeEvent 2 1 s.clk else s

/-- CMD_FRAME_RECEIVE (R266 to R274, R279 to R281, R327 to R335, R815): queue, payload and reception of a CMD frame. -/
def execCmdFrameReceive (rx : SlvRx) (queue : Nat) (payload : Bytes) (us : Nat) (s : State) : Host.Outcome State Fault Refusal :=
  .next ((s.at us).frameWake.cmdFrame rx queue payload us)

/-- DAT_FRAME_RECEIVE (R266 to R274, R279 to R281, R815): any other sequenced frame than CMD and MGT. -/
def execDatFrameReceive (rx : SlvRx) (type tag queue offset : Nat) (payload : Bytes) (s : State) : Host.Outcome State Fault Refusal :=
  .next (s.frameWake.datFrame rx type tag queue offset payload)

/-- COLLAR_CHARACTER (R127 to R136, R815, R816, R821): a character on COL_RXD; its start bit is a wake event. -/
def execCollarCharacter (c : Nat) (parity framing : Bool) (us : Nat) (s : State) : Host.Outcome State Fault Refusal :=
  .next ((s.wakeEvent 1 0 us).collarChar c parity framing)

/-- HOST_WAKE_BURST (R208, R251 to R253, R260, R815, R816): the host's wake burst on L0, or another where the host has had no reply; in a power
state AON latches it. -/
def execHostWakeBurst (us : Nat) (s : State) : Host.Outcome State Fault Refusal :=
  if s.squelchArmed = false ∧ s.slv.phase ≠ .waking ∧ s.slv.phase ≠ .stopped then .next (s.at us)
  else
    let s1 := s.wakeEvent 2 0 us
    .next (if s1.asleep then s1 else s1.replyBurst)

/-! ### Levels and the regulator -/

/-- LEVEL_CHANGE_PAUSE (R63, R802, R803): the pause is taken and the core PLL relocks. A line that asked for the level is answered
(R1046). -/
def execLevelChangePause (us : Nat) (s : State) : Host.Outcome State Fault Refusal :=
  let s0 := s.at us
  match s0.pwr.levelTo with
  | none => .next s0
  | some l =>
    if !s0.pauseOk then .next s0
    else
      let s1 := ({ s0 with pwr := { s0.pwr with pauseUs := us } }).setLevel l
      .next ((s1.finishFor .level (fun t => .ok t [] s1.levelKv)).entryGo)

/-- REGULATOR_TIMEOUT (R808, R838): the regulator has not reached its target within 1 ms. -/
def execRegulatorTimeout (us : Nat) (s : State) : Host.Outcome State Fault Refusal :=
  let s0 := s.at us
  if s0.pwr.levelTo.isSome ∧ s0.pwr.regBad = false then .next s0.regFault.entryGo else .next s0

/-- PMBUS_ALERT (R806, R808, R825): PMB_ALERT_N falls; `status` is the STATUS_WORD read; CLEAR_FAULTS follows. -/
def execPmbusAlert (status us : Nat) (s : State) : Host.Outcome State Fault Refusal :=
  let s1 := if s.flag PWR_WAKEEN.PMBUS then s.wakeEvent 8 0 us else s.at us
  .next ((s1.pmbus [.read 0x79, .send 0x03]).notify "power pmbus alert" [("status", hex0x 4 status)])

/-- THROTTLE_STEP (R805, R808, R836, R965): the die stays above the throttle point; `t` is its temperature. -/
def execThrottleStep (t : Int) (us : Nat) (s : State) : Host.Outcome State Fault Refusal :=
  let s0 := s.at us
  let cur := s0.get PWR_LEVEL.CUR
  if s0.pwr.entry.isSome ∨ s0.asleep = true ∨ s0.life.run.isSome = true ∨ cur ≤ 1 then .next s0
  else
    let full := if s0.flag PWR_LEVEL.THROTTLED then s0.pwr.fullLevel else cur
    let s1 := ({ s0 with pwr := { s0.pwr with fullLevel := full } }).set PWR_LEVEL.THROTTLED 1
    .next ((s1.levelAsk (cur - 1)).notify "power throttle" [("level", "PL" ++ dec (cur - 1)), ("t", decInt t)])

/-- THROTTLE_RELEASE (R805, R808): back to the configured level in one move; with a failed regulator to the level the throttling
began at. -/
def execThrottleRelease (us : Nat) (s : State) : Host.Outcome State Fault Refusal :=
  let s0 := s.at us
  if s0.flag PWR_LEVEL.THROTTLED = false ∨ s0.pwr.entry.isSome = true ∨ s0.asleep = true then .next s0
  else
    let l := if s0.pwr.regBad then s0.pwr.fullLevel else s0.get PWR_LEVEL.CFG
    .next ((s0.set PWR_LEVEL.THROTTLED 0).levelAsk l)

/-! ### Gating -/

/-- Has no switched domain work, no request outstanding and no item on a link (R797)? -/
def State.quiet (s : State) : Bool :=
  s.execs.isEmpty && s.flash.progs.isEmpty && s.flash.reads.isEmpty && s.flash.recov.isEmpty && s.slv.newItems.isEmpty && s.slv.unacked.isEmpty &&
  s.slv.posted.isEmpty && s.seam.east.queue.isEmpty && s.seam.east.unacked.isEmpty && s.seam.west.queue.isEmpty &&
  s.seam.west.unacked.isEmpty && s.keys.update.isNone && s.dram.ch.all (fun c => c.reads.isEmpty && c.wq.isEmpty && c.issued.isEmpty)

/-- CORECLK_GATE (R797): IDLE is armed and 64 idle cycles have passed. -/
def execCoreclkGate (s : State) : Host.Outcome State Fault Refusal :=
  if s.flag PWR_STATE.IDLE_ARM = true ∧ s.asleep = false ∧ s.pwr.entry = none ∧ s.quiet = true then
    .next { s with pwr := { s.pwr with gated := true } }
  else .next s

/-- CORECLK_RESTART (R797): new work restarts CORECLK. -/
def execCoreclkRestart (s : State) : Host.Outcome State Fault Refusal := .next { s with pwr := { s.pwr with gated := false } }

/-! ### Entry and exit -/

/-- POINT_OF_NO_RETURN (R811, R817): every domain has drained; the domains go off one by one until `endUs`, when the state is
entered. -/
def execPointOfNoReturn (us endUs : Nat) (s : State) : Host.Outcome State Fault Refusal :=
  let s0 := s.at us
  match s0.pwr.entry with
  | none => .next s0
  | some e => if s0.get PWR_STATE.STEP = 4 ∧ s0.allDrained e = true then .next (s0.goToSleep e endUs) else .next s0

/-- STATE_EXIT_DONE (R780, R819 to R822): the exit that a latched event started is complete. -/
def execStateExitDone (us : Nat) (s : State) : Host.Outcome State Fault Refusal :=
  let s0 := s.at us
  if s0.asleep = true ∧ s0.pwr.wakes ≠ [] ∧ s0.pwr.enteredUs ≤ us then .next s0.wakeUp else .next s0

/-- WAKE_TIMER (R825): PWR_WTIMER.S seconds after the entry. -/
def execWakeTimer (us : Nat) (s : State) : Host.Outcome State Fault Refusal :=
  if s.asleep = true ∧ 0 < s.pwr.timerS ∧ s.pwr.enteredUs + 1000000 * s.pwr.timerS ≤ us then .next (s.wakeEvent 7 0 us) else .next (s.at us)

/-! ### Comparators and the ADC -/

/-- ACMP_CROSSING (R815, R825 to R827): comparator `n` now gives `out`. ACMP1 and ACMP2 wake on any change, ACMP0 never. -/
def execAcmpCrossing (n : Nat) (out : Bool) (us : Nat) (s : State) : Host.Outcome State Fault Refusal :=
  let s0 := s.at us
  if 8 ≤ n then .next s0
  else
    let wakeDir := decide (n = 1) || decide (n = 2) || (out == s0.flag (PWR_ACMP.POL n))
    let s1 := s0.setFlag (PWR_ACMP.OUT n) out
    let s2 := if wakeDir then s1.set (PWR_ACMP.CROSS n) 1 else s1
    .next (if wakeDir && s2.flag (PWR_ACMP.WAKE n) && n != 0 then s2.wakeEvent 5 n us else s2)

/-- A sample is checked against every enabled window of its channel (R829, Table PWS-6). -/
def State.windows (s : State) (ch code us : Nat) : State :=
  (List.range 4).foldl (fun t k =>
    if t.flag (PWR_AWIN.EN k) = true ∧ t.get (PWR_AWIN.CH k) = ch ∧ (code < t.get (PWR_AWIN.LOW k) ∨ t.get (PWR_AWIN.HIGH k) < code)
    then t.wakeEvent 6 k us else t) s

/-- ADC_SAMPLE (R829): a conversion of channel `ch`. In TACK channels 5 to 9 are sampled only at visits. -/
def execAdcSample (ch code us : Nat) (s : State) : Host.Outcome State Fault Refusal :=
  let s0 := s.at us
  if 10 ≤ ch ∨ (5 ≤ ch ∧ s0.get PWR_STATE.STATE = 3) then .next s0
  else .next ((s0.set (PWR_ADC.CODE ch) code).windows ch (code % 4096) us)

/-- The retention log starts again (R823). -/
def State.retlogClear (s : State) : State := (s.set PWR_RETLOG.MAX 0).set PWR_RETLOG.MIN 0xFFF

/-- PWR_RETLOG_CLR (R823): a write of PWR_RETLOG.CLR restarts the log; CLR clears at once. -/
def execPwrRetlogClr (s : State) : Host.Outcome State Fault Refusal := .next s.retlogClear

end Sys2Proof.Machine
end

