-- ==== Sys2Proof/Machine/LiningRows.lean ====
section
/-!
DEFINITION. Sys2Proof/Machine/LiningRows.lean: the commands of the Lining, of the removal ladder and of TACK visits (chapter 13, R823).
-/
namespace Sys2Proof.Machine
open Sys2Proof

/-! ### Charging -/

/-- Does the Lining controller run: AON is released (Table BOOT-4)? -/
def State.linRuns (s : State) : Bool := s.boot.done.contains .aon

/-- V_oc makes the controller move (Table LIN-4): CC to CV at V_f, FLOAT to SOFT below V_f − H, the latter only at visits in TACK
(R824). -/
def State.linMoves (s : State) (visit : Bool) : State :=
  let v := s.voc
  match s.get LIN_STAT.STATE with
  | 2 => if (10000 * s.vFloat : Nat) ≤ v then s.linState 3 else s
  | 4 =>
    if v < ((10000 * (s.vFloat - s.linHyst) : Nat) : Int) ∧ (visit = true ∨ s.get PWR_STATE.STATE ≠ 3) then s.linRamp else s
  | _ => s

/-- The ADC code of a bank voltage in mV, through the divider of 1/4 (R829, Table LIN-2). -/
def vCode (mv : Nat) : Nat := min 4095 (mv * 4096 / 7200)

/-- The ADC code of a bank current in mA: 0.800 V at 0 A, 0.040 V/A (R829, Table LIN-2). -/
def iCode (ma : Int) : Nat := min 4095 ((20000 + ma).toNat * 4096 / 45000)

/-- The faults that a sample shows (R706, R712): a temperature outside −40 to 85 °C at once; LIN_I at an end of the range or LIN_V at its top once
it has lasted 10 ms; a bank above 60 °C. -/
def State.sampleFaults (s : State) (vMv : Nat) (iMa tDc : Int) : State :=
  let ends := iCode iMa == 0 || iCode iMa == 4095 || vCode vMv == 4095
  let sens := if ends then some (s.lin.sensUs.getD s.clk) else none
  let s1 := s.setLin { s.lin with sensUs := sens }
  let lasts := match sens with | some t => decide (t + 10000 ≤ s.clk) | none => false
  let s2 := if lasts || decide (tDc < -400) || decide (850 < tDc) then s1.linFault 3 else s1
  if 600 < tDc then s2.linFault 1 else s2

/-- LINING_SAMPLE (R704 to R706, R710, R712, R715): LIN_V in mV, LIN_I in mA, LIN_T in 0.1 °C, and the slot-power headroom in mA. -/
def execLiningSample (vMv : Nat) (iMa tDc : Int) (headMa us : Nat) (s0 : State) : Host.Outcome State Fault Refusal :=
  let s := s0.at us
  if !s.linRuns then .next s
  else
    let esr : Int := if s.lin.esrUs.isSome then (s.get LIN_ESR.EST : Int) else 0
    let v : Int := (10000 * vMv : Nat) - iMa * esr
    let l := s.lin.vocs.filter (fun x => decide (us < x.1 + 1000)) ++ [(us, v)]
    let s1 := s.setLin { s.lin with vocs := l }
    let s2 := ((s1.set LIN_VI.I_MA (signed16 iMa)).setSat LIN_VI.VOC_MV s1.vocMv).set LIN_TEMP.T_DC (signed16 tDc)
    let cold := decide (tDc < -200)
    let most := if cold then min 250 s2.iLim else s2.iLim
    let s3 := if cold then s2.set LIN_FAULT.COLD 1 else s2
    let st := s3.get LIN_STAT.STATE
    let s4 := if (st = 1 ∨ st = 2) ∧ headMa < most then s3.set LIN_FAULT.SLOT_LIMIT 1 else s3
    let weak := if 100 ≤ iMa.natAbs ∨ 5000000 ≤ s4.voc then us else s4.lin.weakUs
    let low := if st = 3 ∧ 20 * iMa < (s4.iLim : Int) then some (s4.lin.lowUs.getD us) else none
    let s5 := s4.setLin { s4.lin with targetMa := min most headMa, weakUs := weak, lowUs := low }
    .next (((s5.windowRuns iMa us).linMoves false).sampleFaults vMv iMa tDc)

/-- CHARGE_RAMP_DONE (Table LIN-4): SOFT ends after 10 ms. -/
def execChargeRampDone (us : Nat) (s0 : State) : Host.Outcome State Fault Refusal :=
  let s := s0.at us
  if s.get LIN_STAT.STATE = 1 ∧ s.lin.softUs + 10000 ≤ us then .next (s.linState 2) else .next s

/-- CHARGE_FLOAT_ENTRY (Table LIN-4): the bank floats; the first time after power-on with a notice. -/
def execChargeFloatEntry (us : Nat) (s0 : State) : Host.Outcome State Fault Refusal :=
  let s := s0.at us
  match s.get LIN_STAT.STATE, s.lin.lowUs with
  | 3, some t =>
    if us < t + 1000000 then .next s
    else
      let s1 := s.linStop 4
      if s1.flag LIN_STAT.CHARGED then .next s1
      else .next ((s1.set LIN_STAT.CHARGED 1).notify "lining charged" [("s", dec (roundDiv (us - s1.boot.onUs) 1000000))])
  | _, _ => .next s

/-- ESTIMATE_REFRESH_DUE (R714, R715, R824): in CV and FLOAT a probe is made, in TACK's FLOAT only at a visit; in CC the step of R716 follows by
itself. -/
def execEstimateRefreshDue (us : Nat) (s0 : State) : Host.Outcome State Fault Refusal :=
  let s := s0.at us
  let st := s.get LIN_STAT.STATE
  if s.refreshDue = true ∧ (st = 3 ∨ (st = 4 ∧ s.get PWR_STATE.STATE ≠ 3)) then .next s.startProbe else .next s

/-- ESR_STEP (R716, R717, R721): LIN_V moved by `dvUv` µV across a step of `diMa` mA: in CC with a target of 0.5 A or more, at a top-up
start in TACK, or at the start of a probe. -/
def execEsrStep (dvUv diMa us : Nat) (s0 : State) : Host.Outcome State Fault Refusal :=
  let s := s0.at us
  let st := s.get LIN_STAT.STATE
  if 500 ≤ diMa ∧ ((st = 2 ∧ 500 ≤ s.lin.targetMa) ∨ (st = 1 ∧ s.get PWR_STATE.STATE = 3) ∨ st = 5) then .next (s.takeEsr dvUv diMa)
  else .next s

/-- PROBE_DONE (R715, R717): V_oc has fallen by 200 mV; the estimate is taken, and the bank is charged again. -/
def execProbeDone (us : Nat) (s0 : State) : Host.Outcome State Fault Refusal :=
  let s := s0.at us
  match s.get LIN_STAT.STATE, s.lin.win with
  | 5, some w =>
    let dv := (w.startV - s.voc).toNat
    if dv < 2000000 then .next s
    else
      let (s1, ok) := s.takeCap (w.charge / dv)
      if s1.get LIN_STAT.STATE ≠ 5 then .next s1 else .next ((s1.probeEnds ok).linRamp)
  | _, _ => .next s

/-- LINING_FAULT_RETRY (Table LIN-4, R1175): every stopping fault has been absent for 10 s. An ABSENT bank is not charged again. -/
def execLiningFaultRetry (us : Nat) (s0 : State) : Host.Outcome State Fault Refusal :=
  let s := s0.at us
  if s.get LIN_STAT.STATE ≠ 7 ∨ s.flag LIN_STAT.ABSENT = true ∨ us < s.lin.faultUs + 10000000 ∨ 600 < s.bankT then .next s
  else if s.flag LIN_CFG.CHG_EN then .next s.linRamp
  else .next ((s.linState 0).setLin { (s.linState 0).lin with why := [] })

/-- BANK_ABSENT_TIMEOUT (Table LIN-4). -/
def execBankAbsentTimeout (us : Nat) (s0 : State) : Host.Outcome State Fault Refusal :=
  let s := s0.at us
  let st := s.get LIN_STAT.STATE
  if (st = 1 ∨ st = 2) ∧ s.lin.weakUs + 2000000 ≤ us then .next (s.enterFault.set LIN_STAT.ABSENT 1) else .next s

/-- LIN_OVERVOLT (R713): ACMP1 crosses V_f + 150 mV while the converter is in buck. -/
def execLinOvervolt (us : Nat) (s0 : State) : Host.Outcome State Fault Refusal :=
  let s := s0.at us
  if s.linRuns ∧ s.lin.boost = false then .next (s.linFault 0) else .next s

/-- LIN_HOT (R712): ACMP2 reports the bank above 60 °C. -/
def execLinHot (us : Nat) (s0 : State) : Host.Outcome State Fault Refusal :=
  let s := s0.at us
  if s.linRuns then .next (s.linFault 1) else .next s

/-- SENSOR_FAULT (R706). -/
def execSensorFault (us : Nat) (s0 : State) : Host.Outcome State Fault Refusal :=
  let s := s0.at us
  if s.linRuns then .next (s.linFault 3) else .next s

/-- CONVERTER_FAULT (R1175): judged while the converter switches, and in SOFT and CC only from 0.5 V. -/
def execConverterFault (us : Nat) (s0 : State) : Host.Outcome State Fault Refusal :=
  let s := s0.at us
  let st := s.get LIN_STAT.STATE
  if s.lin.en = false ∨ ((st = 1 ∨ st = 2) ∧ s.voc < 5000000) then .next s else .next (s.linFault 6)

/-! ### Register actions -/

/-- A write of LIN_CFG (R708, R709, R751, Table LIN-8): values above the descriptor act as the descriptor's; CHG_EN starts or stops the
controller. -/
def State.writeLinCfg (s : State) (w : BitVec 32) : State :=
  let st := s.get LIN_STAT.STATE
  if st = 6 ∨ s.removing = true then s
  else
    let d := s.lin.desc
    let s1 := (((s.setWord LIN_CFG.addr (w &&& 0xF3FF3FFF#32)).set LIN_CFG.FLOAT (min d.floatV (clamp 420 540 (LIN_CFG.FLOAT.of w)))).set
      LIN_CFG.ILIM (min d.ilimV (LIN_CFG.ILIM.of w))).set LIN_CFG.SLOT_W (min d.slotV (clamp 20 150 (LIN_CFG.SLOT_W.of w)))
    if s1.flag LIN_CFG.CHG_EN then
      (if st = 0 ∧ s1.linRuns then s1.linRamp else s1)
    else if st = 0 ∨ st = 7 then s1
    else s1.linStop 0

/-- LIN_CFG_CHG_EN (Table LIN-4): a write of LIN_CFG; one from P1 is ignored. -/
def execLinCfgChgEn (word : BitVec 32) (p1 : Bool) (s : State) : Host.Outcome State Fault Refusal :=
  if p1 then .next s else .next (s.writeLinCfg word)

/-- LIN_PROBE_START (Table LIN-8): from CV or FLOAT; in any other state the bit clears at once. -/
def execLinProbeStart (p1 : Bool) (s : State) : Host.Outcome State Fault Refusal :=
  let st := s.get LIN_STAT.STATE
  if p1 = false ∧ (st = 3 ∨ st = 4) then .next s.startProbe else .next s

/-! ### The budget -/

/-- BUDGET_RECOMPUTE (R722 to R724, R753). -/
def execBudgetRecompute (us : Nat) (s : State) : Host.Outcome State Fault Refusal :=
  let s0 := s.at us
  if s0.linRuns then .next s0.budget else .next s0

/-- EB_SAMPLE (R725, R726): a flush episode of at least 256 MiB ends; card input energy in µJ, duration in µs. -/
def execEbSample (bytes energyUj durUs : Nat) (s : State) : Host.Outcome State Fault Refusal :=
  if bytes < 268435456 ∨ s.linRuns = false then .next s
  else
    let x := (energyUj - min 48 (s.get LIN_EB.FLOOR_W) * durUs) * 1000000 / bytes
    let l := (s.lin.ebs ++ [x]).drop ((s.lin.ebs ++ [x]).length - 8)
    .next (((s.setLin { s.lin with ebs := l }).set LIN_EB.SAMPLES l.length).set LIN_EB.PJ (clamp 4000 20000 (l.foldl max 0)))

/-- THROUGH_NOTICE (R728): 10 s after the last notice, a changed condition is reported. -/
def execThroughNotice (us : Nat) (s : State) : Host.Outcome State Fault Refusal :=
  let s0 := s.at us
  match s0.lin.thruUs with
  | none => .next s0
  | some t =>
    if us < t + 10000000 then .next s0
    else if s0.lin.thru = s0.lin.thruSaid then .next (s0.setLin { s0.lin with thruUs := none })
    else
      .next ((s0.setLin { s0.lin with thruSaid := s0.lin.thru, thruUs := some us }).notify
        (if s0.lin.thru then "lining through on" else "lining through off") [])

/-! ### Removal -/

/-- REMOVAL_TRIGGER_CDET (R117, R729, R735, R746): CDET_N has been high for `ns`. -/
def execRemovalTriggerCdet (ns us : Nat) (s : State) : Host.Outcome State Fault Refusal :=
  let s0 := s.at us
  if ns < 200 then .next s0
  else
    let s1 := (s0.set RMV_STAT.SEATED 0).setLin { s0.lin with cdetLowUs := none }
    if s1.linRuns then .next (s1.removalTrigger 1) else .next s1

/-- REMOVAL_TRIGGER_VIN (R38, R731, R746, R752): ACMP0 has crossed below VIN_TRIP. R38 gives no condition on VIN_EN for the Seam bypasses, and R731
gates the trigger by it: with VIN_EN 0 the crossing closes no bypass either (DESIGN CHOICE, assumption log entry 207). -/
def execRemovalTriggerVin (us : Nat) (s : State) : Host.Outcome State Fault Refusal :=
  let s0 := s.at us
  if s0.linRuns ∧ s0.flag RMV_CFG.VIN_EN = true then .next (s0.removalTrigger 2) else .next s0

/-- A write of 1 to RMV_CTL.DRILL (R732): ignored in FIELD and SCRAP. -/
def State.drill (s : State) : State :=
  if s.linRuns ∧ (s.get LCS_STATE.STATE = 0 ∨ s.get LCS_STATE.STATE = 1 ∨ s.get LCS_STATE.STATE = 3) then s.removalTrigger 3 else s

/-- RMV_CTL_DRILL (R732). -/
def execRmvCtlDrill (p1 : Bool) (us : Nat) (s : State) : Host.Outcome State Fault Refusal :=
  if p1 then .next (s.at us) else .next (s.at us).drill

/-- REMOVAL_FLUSH_DONE (Table LIN-6, R119, R460, R479): every entry that was DIRTY is programmed; the checkpoint with CLEAN follows. -/
def execRemovalFlushDone (us : Nat) (s : State) : Host.Outcome State Fault Refusal :=
  let s0 := s.at us
  if s0.get RMV_STAT.PHASE ≠ 2 then .next s0
  else
    match s0.cleanStop with
    | (s1, false) => .next s1
    | (s1, true) =>
      let s2 := (s1.setSat RMV_FLUSHED.MIB ((s1.lin.dirtyAt + 1048575) / 1048576)).setSat RMV_TIME.FLUSH_MS (roundDiv (us - s1.lin.flushUs) 1000)
      .next ((s2.setSat RMV_VBANK.END_MV s2.vocMv).set RMV_STAT.PHASE 3)

/-- REMOVAL_CHECKPOINT_DONE (Table LIN-6, R428, R747): the remaining domains go off in order, the key vault once its update is over, and
the card is PARKED. -/
def execRemovalCheckpointDone (us : Nat) (s : State) : Host.Outcome State Fault Refusal :=
  let s0 := s.at us
  if s0.get RMV_STAT.PHASE ≠ 3 ∧ s0.get RMV_STAT.PHASE ≠ 4 then .next s0
  else if s0.keys.update.isSome then .next (s0.set RMV_STAT.PHASE 4)
  else
    let s1 := ladderLast.foldl (fun t d => t.ladderOff d) s0
    .next ((s1.dramSleep true).set RMV_STAT.PHASE 5)

/-- CDET_N_FALL (R741, R750, Table LIN-9): CDET_N has gone low. -/
def execCdetNFall (us : Nat) (s : State) : Host.Outcome State Fault Refusal :=
  let s0 := s.at us
  let s1 := (s0.set RMV_STAT.SEATED 1).setLin { s0.lin with cdetLowUs := some us }
  if s1.removing then .next (s1.set RMV_STAT.REINSERT 1) else .next s1

/-- REARM (R118, R741, R742): CDET_N low, and VIN_SNS above VIN_OK since `vinUs`, for 100 ms. -/
def execRearm (vinUs us : Nat) (s : State) : Host.Outcome State Fault Refusal :=
  let s0 := s.at us
  let ph := s0.get RMV_STAT.PHASE
  match s0.lin.cdetLowUs with
  | none => .next s0
  | some t =>
    if (ph = 5 ∨ (ph = 6 ∧ s0.lin.rearmUs = none)) ∧ t + 100000 ≤ us ∧ vinUs + 100000 ≤ us then
      .next ((s0.set RMV_STAT.PHASE 6).setLin { s0.lin with isoHigh := true, en := false, boost := false, rearmUs := some us })
    else .next s0

/-! ### Tack -/

/-- The retention log takes a code (R823). -/
def State.retain (s : State) (code : Nat) : State :=
  (s.set PWR_RETLOG.MIN (min (s.get PWR_RETLOG.MIN) code)).set PWR_RETLOG.MAX (max (s.get PWR_RETLOG.MAX) code)

/-- TACK_VISIT (R715, R716, R823, R824): the averaged codes of the ten ADC channels and the comparators' outputs. -/
def execTackVisit (codes : List Nat) (outs : List Bool) (us : Nat) (s : State) : Host.Outcome State Fault Refusal :=
  let s0 := s.at us
  if s0.get PWR_STATE.STATE ≠ 3 ∨ us < s0.pwr.visitUs + 1000000 * s0.pwr.tackS then .next s0
  else
    let s1 := (List.range 10).foldl (fun t ch => (t.set (PWR_ADC.CODE ch) (codes.getD ch 0)).windows ch (codes.getD ch 0 % 4096) us) s0
    let s2 := (List.range 8).foldl (fun t n => t.setFlag (PWR_ACMP.OUT n) (outs.getD n false)) s1
    let s3 := s2.linMoves true
    let s4 := if s3.refreshDue = true ∧ (s3.get LIN_STAT.STATE = 3 ∨ s3.get LIN_STAT.STATE = 4) then s3.startProbe else s3
    let s5 := s4.retain (codes.getD s4.pwr.tackCh 0 % 4096)
    let s6 := s5.tackJoins
    .next (({ s6 with pwr := { s6.pwr with visitUs := s6.pwr.visitUs + 1000000 * s6.pwr.tackS } }).count PWR_VISITS.COUNT 1)

end Sys2Proof.Machine
end

