-- ==== Sys2Proof/Machine/BootRows.lean ====
section
/-!
DEFINITION. Sys2Proof/Machine/BootRows.lean: supply and crystal, the rows of the start-up ladder, training and the map after READY, the
watchdog and the resets (chapter 02), with the end of a removal (R740, R742).
-/
namespace Sys2Proof.Machine
open Sys2Proof

/-! ### Supply and crystal -/

/-- SUPPLY_GOOD_RISE (R64, R79, R109): power-on reset is released and the ladder starts. -/
def execSupplyGoodRise (us : Nat) (s : State) : Host.Outcome State Fault Refusal :=
  let s0 := s.at us
  if s0.boot.supply then .next s0
  else .next (({ s0 with boot := { s0.boot with supply := true } }).powerOn us)

/-- SUPPLY_GOOD_FALL (R69, R70, R749): low for `ns`; a pulse shorter than 1 µs is ignored. -/
def execSupplyGoodFall (ns us : Nat) (s : State) : Host.Outcome State Fault Refusal :=
  let s0 := s.at us
  if ns < 1000 ∨ s0.boot.supply = false then .next s0
  else
    let t := s0.powerOff
    .next { t with boot := { t.boot with supply := false } }

/-- CRYSTAL_LOSS (R1157, R1166): amplitude has been below the good level for `ns`; from 5 µs on every domain is held in power-on reset. -/
def execCrystalLoss (ns us : Nat) (s : State) : Host.Outcome State Fault Refusal :=
  let s0 := s.at us
  if ns < 5000 ∨ s0.boot.supply = false ∨ s0.boot.xtalLost = true ∨ s0.flag SYS_CLKSTAT.XTAL_OK = false then .next s0
  else
    let t := s0.powerOff
    .next (({ t with boot := { t.boot with xtalLost := true } }).set SYS_RSTCAUSE.POWER_ON 1)

/-- CRYSTAL_RECOVERY (R1157): the ladder restarts, this moment standing for SUPPLY_GOOD rising. -/
def execCrystalRecovery (us : Nat) (s : State) : Host.Outcome State Fault Refusal :=
  let s0 := s.at us
  if s0.boot.supply = true ∧ s0.boot.xtalLost = true then .next (({ s0 with boot := { s0.boot with xtalLost := false } }).powerOn us)
  else .next s0

/-! ### Rows of the ladder -/

/-- AON_RELEASE (R30, R31, R76, R79, R708, R709, R1164, R1165): the straps as sampled; `cdetHigh` is the level of CDET_N. -/
def execAonRelease (straps : Straps) (cdetHigh : Bool) (us : Nat) (s : State) : Host.Outcome State Fault Refusal :=
  let s0 := s.at us
  if !s0.rowDue .aon then .next s0
  else
    let low := if cdetHigh then none else some (s0.lin.cdetLowUs.getD us)
    let s1 := ((s0.setLin { s0.lin with cdetLowUs := low }).aonRow straps).rowDone .aon
    .next (if cdetHigh then s1.abandonLadder 1 else s1)

/-- PLL_LOCK (R71, R79, R105): every PLL locks; CORECLK runs at the multiple of the level in force. -/
def execPllLock (us : Nat) (s : State) : Host.Outcome State Fault Refusal :=
  let s0 := s.at us
  if !s0.rowDue .pll then .next s0
  else
    let lock (t : State) (f : Fld) : State := t.set f 1
    let s1 := [SYS_CLKSTAT.SEAM_LOCK, SYS_CLKSTAT.SLV_LOCK, SYS_CLKSTAT.DDR_LOCK, SYS_CLKSTAT.FIO_LOCK, SYS_CLKSTAT.CORE_LOCK].foldl lock s0
    .next ((s1.set SYS_CLKSTAT.CORE_MULT (levelMult (s1.get PWR_LEVEL.CUR))).rowDone .pll)

/-- FUSE_SHADOW_LOAD (R79, R110, R114, R943, Table BOOT-3): `ok` says that a copy of the shadow passed its CRC. -/
def execFuseShadowLoad (ok : Bool) (us : Nat) (s : State) : Host.Outcome State Fault Refusal :=
  let s0 := s.at us
  if !s0.rowDue .fuse then .next s0
  else
    let s1 := s0.formLife
    let s2 := if ok then
        let t := (s1.set SYS_SERIAL.SERIAL s1.boot.fuseSerial).set SYS_ID.CODE s1.boot.fuseCode
        { t with boot := { t.boot with rootKey := true } }
      else s1.enterLimp 2 0
    let s3 := if s2.get SYS_STRAP.BOOT_SEL = 3 ∧ s2.factory = false then s2.notify "boot strap ignored" [] else s2
    .next (s3.rowDone .fuse)

/-- SRAM_FILL (R79, R107, R110, R508, R509): `repair` names the domain of an array whose defects exceed its spares. -/
def execSramFill (repair : Option Nat) (us : Nat) (s : State) : Host.Outcome State Fault Refusal :=
  let s0 := s.at us
  if !s0.rowDue .sram then .next s0
  else
    let s1 := match repair with | some d => s0.enterLimp 3 (min 50 d) | none => s0
    .next (({ s1 with access := { s1.access with sram := [], sramFlips := [] } }).rowDone .sram)

/-- CHECKER_SELF_TEST (R79, R110, R113, R527): `failed` names the checkers that failed, in the order of their tests: the row of Table SDP-2 from 0, and the
checker's domain. -/
def execCheckerSelfTest (failed : List (Nat × Nat)) (us : Nat) (s : State) : Host.Outcome State Fault Refusal :=
  let s0 := s.at us
  if !s0.rowDue .check then .next s0
  else
    let passed (k : Nat) : Nat := if failed.any (fun x => x.1 == k) then 0 else 2 ^ k
    let s1 := s0.set ECC_SELFTEST.PASS (passed 0 + passed 1 + passed 2)
    let s2 := match failed with
      | x :: _ => (s1.enterLimp 1 (min 50 x.2)).set ECC_SELFTEST.FAIL_DOMAIN (min 50 x.2)
      | [] => s1
    .next (s2.rowDone .check)

/-- TAILOR_RELEASE (R79, R108, R665, R781): `rom` is what the ROM sets up in regions 0 to 7 of each core: core, region, RBASE, RATTR. -/
def execTailorRelease (rom : List (Nat × (Nat × (Nat × Nat)))) (us : Nat) (s : State) : Host.Outcome State Fault Refusal :=
  let s0 := s.at us
  if !s0.rowDue .tailor then .next s0
  else
    let s1 := { s0 with access := { s0.access with rom := rom }, boot := { s0.boot with wdogUs := us } }
    .next ((((s1.bringAll [49, 50]).romRegions 0).romRegions 1).rowDone .tailor)

/-- COLLAR_BANNER (R80, R134): 115,200 baud, typed mode, role OPERATOR; the banner and the first prompt. -/
def execCollarBanner (us : Nat) (s : State) : Host.Outcome State Fault Refusal :=
  let s0 := s.at us
  if !s0.rowDue .banner then .next s0
  else
    let s1 := s0.setWord SYS_COLCFG.BAUD_DIV.addr (resetWord SYS_COLCFG.BAUD_DIV.addr)
    let x : Session := { s1.session .collar with role := .operator, last := none, chal := none, await := none }
    let s2 := (s1.setSession .collar x).send .collar (.banner (s1.get SYS_SERIAL.SERIAL))
    .next ((s2.prompt .collar).rowDone .banner)

/-- Table FLS-3, but for the interface. -/
def paramFits (p : ParamPage) : Bool :=
  p.dataArea == 16384 && decide (384 ≤ p.spare) && (p.planes == 1 || p.planes == 2 || p.planes == 4) && decide (64 ≤ p.pages ∧ p.pages ≤ 4096) &&
  decide (64 ≤ p.blocks ∧ p.blocks ≤ 4096) && decide (1 ≤ p.luns ∧ p.luns ≤ 4) && p.onePass && decide (1 ≤ p.wlPages ∧ p.wlPages ≤ 4)

/-- t_die (Table FLS-3). -/
def tDie (spare : Nat) : Nat := min 160 ((spare / 4 - 64) / 2 / 8 * 8)

/-- Data rates of the rate codes for data (Table FLS-2). -/
def rateMts : List Nat := [2400, 1200, 800, 600, 400, 200]

/-- The interface of Table FLS-1 that a target runs: 1 NV-DDR3 by the ONFI signature, 2 Toggle DDR by JEDEC's, 0 none. -/
def dieIface (d : DieFound) (p : ParamPage) : Nat := if d.onfi && p.nvddr3 then 1 else if d.jedec && p.toggle12 then 2 else 0

/-- The rate code of a target (R433, steps 5 and 6): the first from the highest within the advertised maximum at which the ID read matches. -/
def dieRate (d : DieFound) (p : ParamPage) : Option Nat :=
  (List.range 6).find? (fun k => decide (rateMts.getD k 0 ≤ p.maxRate) && d.codes.contains k)

/-- What the steps of R433 find of a target: its parameter page, the first copy whose CRC passes; its interface and rate, or the reason for which it is
excluded (R434, R435; the names are DESIGN CHOICE, assumption log entry 217). -/
def dieSteps (d : DieFound) : ParamPage × Nat × Nat × Option String :=
  match d.copies.findSome? (fun c => c) with
  | none =>
    ({ nvddr3 := false, toggle12 := false, maxRate := 0, dataArea := 0, spare := 0, planes := 1, wlPages := 1, pages := 1, blocks := 0, luns := 1,
       onePass := false, offsets := false }, 0, 15, some "PARAMETERS")
  | some p =>
    if !paramFits p then (p, 0, 15, some "REQUIREMENT")
    else if dieIface d p = 0 then (p, 0, 15, some "INTERFACE")
    else match dieRate d p with
      | some r => (p, dieIface d p, r, none)
      | none => (p, dieIface d p, 15, some "RATE")

/-- The entries of a target in the flash mode record that stand without a further step: its ID matches, and the ID read again at the stored mode too
(R436). -/
def State.storedLuns (s : State) (stored : Bool) (d : DieFound) : List Die :=
  if stored then
    s.flash.modes.filter (fun x => x.ch == d.ch && x.pos / 4 == d.ce && x.ident == d.ident && !x.excluded && d.codes.contains x.rate)
  else []

/-- The LUNs of a target as the die table holds them, and the reason for which it is excluded (R433 to R436). -/
def State.lunsOf (s : State) (stored : Bool) (d : DieFound) : List Die × Option String :=
  let rec_ := s.storedLuns stored d
  if !rec_.isEmpty then (rec_, none)
  else
    let (p, i, r, why) := dieSteps d
    ((List.range (clamp 1 4 p.luns)).map (fun l =>
      { ch := d.ch, pos := 4 * d.ce + l, ident := d.ident, iface := i, rate := r, planes := p.planes, wlPages := p.wlPages, pages := p.pages,
        blocks := p.blocks, spare := p.spare, tmax := tDie p.spare, offsets := p.offsets, excluded := why.isSome : Die }), why)

/-- An excluded target raises its notice (R435). -/
def State.excludedNote (s : State) (d : DieFound) (why : Option String) : State :=
  match why with
  | some r => s.notify "flash die excluded" [("ch", channelId d.ch), ("ce", dec d.ce), ("reason", r)]
  | none => s

/-- A target joins the die table; blocks its maker marked bad are retired when it is first found (R435, R468). -/
def State.takeTarget (s : State) (stored : Bool) (d : DieFound) : State :=
  let (ls, why) := s.lunsOf stored d
  let known := s.flash.modes.any (fun x => x.ch == d.ch && x.pos / 4 == d.ce && x.ident == d.ident)
  let s1 := { s with flash := { s.flash with dies := s.flash.dies.filter (fun (x : Die) => !(x.ch == d.ch && x.pos / 4 == d.ce)) ++ ls } }
  let s2 := if known then s1 else (d.bad.filter (fun b => decide (b.1 < 4))).foldl (fun t b => t.retire d.ch (4 * d.ce + b.1) b.2) s1
  s2.excludedNote d why

/-- Do two LUNs agree in ID and geometry (R482)? The rate may differ (R433, step 6). -/
def Die.agrees (x y : Die) : Bool := x == { y with rate := x.rate }

/-- At a quad's CHECK the dies found are compared with the die table: the same dies are taken again, a different one keeps the quad out (R471,
R482). -/
def State.checkQuad (s : State) (stored : Bool) (found : List DieFound) (q : Nat) : State :=
  let mine (x : Die) : Bool := x.ch / 4 == q
  let ts := found.filter (fun d => d.ch / 4 == q && decide (d.ce < 4))
  let ls := (ts.map (fun d => (s.lunsOf stored d).1)).flatten
  let s0 := ts.foldl (fun t d => t.excludedNote d (s.lunsOf stored d).2) s
  let table := s.flash.modes.filter mine
  let rest := s.flash.differs.filter (fun k => k ≠ q)
  if ls.length = table.length ∧ ls.all (fun x => table.any x.agrees) = true then
    (({ s0 with flash := { s0.flash with
      dies := s.flash.dies.filter (fun x => !mine x) ++ ls, modes := s.flash.modes.filter (fun x => !mine x) ++ ls, differs := rest } }).showQuad
        q).modeRecord
  else { s0 with flash := { s0.flash with differs := rest ++ [q] } }

/-- Targets of quads whose dies the card looks for are taken, and a die table that differs from the record is written (R436, Table FLS-9). -/
def State.discover (s : State) (stored : Bool) (quads : List Nat) (found : List DieFound) : State :=
  let mine := found.filter (fun d => decide (d.ch < 64 ∧ d.ce < 4) && quads.contains (d.ch / 4))
  let s1 := { s with flash := { s.flash with dies := s.flash.dies.filter (fun x => !quads.contains (x.ch / 4)) } }
  let s2 := mine.foldl (fun t d => t.takeTarget stored d) s1
  let s3 : State := quads.foldl (fun t q => t.showQuad q) s2
  let inQuads (x : Die) : Bool := quads.contains (x.ch / 4)
  let now : List Die := s3.flash.dies.filter inQuads
  if (s3.flash.modes.filter inQuads == now) then s3
  else
    let rest := s3.flash.modes.filter (fun x => !inQuads x)
    ({ s3 with flash := { s3.flash with modes := rest ++ now } }).modeRecord

/-- Has a quad a usable target (R781)? -/
def State.quadUsable (s : State) (q : Nat) : Bool := s.flash.dies.any (fun x => x.ch / 4 == q && !x.excluded)

/-- The die table of the flash mode record that is used, where one is valid (R436, R464): `bad` are the copies that fail their CRC. -/
def State.modeTable (s : State) (bad : List (Bool × Nat)) : Option (List Die) :=
  let of (b : Bool) : List LogRec := (logRecs (s.logOf b)).filter (fun r => r.kind == 1 && !bad.contains (b, r.rseq))
  let top := (of false ++ of true).foldl (fun (m : Option LogRec) (r : LogRec) =>
    match m with
    | some x => if x.rseq < r.rseq then some r else m
    | none => some r) none
  match top.map (fun (r : LogRec) => r.body) with
  | some (BootBody.mode ds _ _) => some ds
  | _ => none

/-- DIE_DISCOVERY (R79, R433 to R436, R468, R471, R482, R781): on the ladder every target, at a quad CHECK the targets of quads in CHECK. `bad` are
the copies of flash mode records whose CRC fails. -/
def execDieDiscovery (found : List DieFound) (bad : List (Bool × Nat)) (us : Nat) (s : State) : Host.Outcome State Fault Refusal :=
  let s0 := s.at us
  let stored := s0.storedForm && (s0.modeTable bad).isSome
  if s0.rowDue .flash then
    let on (q : Nat) : Bool := !s0.flag (PWR_DSTAT.CMD_OFF (q + 1)) && s0.limpDomain != some (q + 1)
    let s1 := ({ s0 with flash := { s0.flash with modes := (s0.modeTable bad).getD [] } }).discover stored ((List.range 16).filter on) found
    let good := (List.range 16).filter (fun q => on q && s1.quadUsable q)
    .next ((s1.bringAll (good.map (fun q => q + 1) ++ [45, 46, 47, 48])).rowDone .flash)
  else
    let qs := (List.range 16).filter (fun q => s0.dom (q + 1) == 1)
    .next (qs.foldl (fun t q => t.checkQuad stored found q) s0)

/-- The card is blank: a new boot area, no Pocket but P000 (R87). -/
def State.newBootArea (s : State) : State :=
  let c : Ckpt := { index := [], wseq := 0, boltSeq := 0, delta := 0, clean := false }
  let s1 := ({ s with flash := { s.flash with area := true }, pockets := [(0, Pocket.p000)], queues := [], conf := [] }).set
    SYS_BOOTSTAT.FIRST_BOOT 1
  ((s1.bootRecord (.mode s1.flash.modes s1.flash.retired s1.flash.lapRate)).bootRecord (.config s1.confNow)).ckptWrite c

/-! ### The boot records (R88, R464) -/

/-- The records of a kind that can be read, of log A and of log B (`true`): those on channels whose quad is IN. -/
def State.copiesOf (s : State) (kind : Nat) : List (Bool × Nat × LogRec) :=
  let of (b : Bool) : List (Bool × Nat × LogRec) :=
    ((s.logOf b).map (fun k => k.recs.map (fun r => (b, logChannel b k.pos, r)))).flatten
  (of false ++ of true).filter (fun c => c.2.2.kind == kind && s.domIn (quadDomain c.2.1))

/-- The highest RSEQ of some copies. -/
def topRseq (cs : List (Bool × Nat × LogRec)) : Nat := (cs.map (fun c => c.2.2.rseq)).foldl max 0

/-- What a record held stands again. The dies were found by discovery; of the flash mode record the bad-block table counts. -/
def State.putBody (s : State) : BootBody → State
  | .mode _ r m => { s with flash := { s.flash with retired := r, lapRate := m } }
  | .config c =>
    { s with
      pockets := c.pockets, queues := c.queues, conf := c.conf, twin := { s.twin with pairing := c.pairing },
      flash := { s.flash with usable := c.usable, gens := c.gens, bases := c.bases } }
  | .training r => { s with dram := { s.dram with record := r } }
  | .ckpt c => { s with flash := { s.flash with ckpt := c } }

/-- What stands of a kind without any record of it. -/
def noRecord : Nat → BootBody
  | 1 => .mode [] [] []
  | 2 => .config { pockets := [(0, Pocket.p000)], queues := [], conf := [], pairing := none, usable := 0, gens := [], bases := [] }
  | 3 => .training none
  | _ => .ckpt none

/-- For a kind, the record with the highest RSEQ whose CRC passes in either log is used (R464); `bad` are the copies that fail. The channel of
a record that fails in every copy (R88): the newest. -/
def State.useKind (s : State) (bad : List (Bool × Nat)) (kind : Nat) : State × Option Nat :=
  let cs := s.copiesOf kind
  let good := cs.filter (fun c => !bad.contains (c.1, c.2.2.rseq))
  let last := match s.newestRec kind with | some r => r.rseq | none => 0
  let s1 :=
    if good.isEmpty then (if last = 0 then s else s.putBody (noRecord kind))
    else if topRseq good = last then s
    else match good.find? (fun c => c.2.2.rseq == topRseq good) with
      | some c => s.putBody c.2.2.body
      | none => s
  (s1, if topRseq good < topRseq cs then (cs.find? (fun c => c.2.2.rseq == topRseq cs)).map (fun c => c.2.1) else none)

/-- The four kinds, and the first channel with a record that fails in every copy. -/
def State.useRecords (s : State) (bad : List (Bool × Nat)) : State × Option Nat :=
  [1, 2, 3, 4].foldl (fun t k =>
    let u := t.1.useKind bad k
    (u.1, match t.2 with | some c => some c | none => u.2)) (s, none)

/-- The records of a card that is not blank: the marker of the previous run, used up by this start; the settings (R88, R89, R461). PAIR tells of an unclean
stop (R881). -/
def State.readRecords (s : State) (bad : List (Bool × Nat)) : State :=
  let (s0, failed) := s.useRecords bad
  let s1 := match failed with | some c => s0.enterLimp 4 c | none => s0
  let clean := match s1.flash.ckpt with | some c => c.clean | none => false
  let s2 := if clean then s1 else ((s1.set SYS_BOOTSTAT.UNCLEAN 1).set SYS_BOOTSTAT.REPLAY 1).notify "boot unclean" []
  let s3 : State := { s2.unclean with twin := { s2.unclean.twin with clean := s2.unclean.twin.clean && clean } }
  let s4 := if s3.dram.record.isNone then s3.set SYS_BOOTSTAT.FIRST_BOOT 1 else s3
  s4.conf.foldl (fun t c => t.set c.1 c.2) s4

/-- The nonce counter starts at the highest limit found, and the next block of 2^20 is reserved (R615). While no quad that holds the log is
IN no record can be written (R614). -/
def State.startNonce (s : State) : State :=
  let top := s.keys.records.foldl max 0
  let k : Keys := { s.keys with nonce := top, limit := top, reserving := false }
  if s.noReservation then { s with keys := k }
  else { s with keys := { k with limit := top + 2 ^ 20, records := (top + 2 ^ 20) :: k.records.take 1 } }

/-- BOOT_RECORDS_READ (R79, R87 to R89, R461, R464, R493, R615, R1113): `bad` are the copies of records whose CRC fails, by log (B: true) and RSEQ. The
measured rates are restored; a format that was cut short runs again from its first step. -/
def execBootRecordsRead (bad : List (Bool × Nat)) (us : Nat) (s : State) : Host.Outcome State Fault Refusal :=
  let s0 := s.at us
  if !s0.rowDue .records then .next s0
  else
    let s1 := (if s0.flash.area then s0.readRecords bad else s0.newBootArea).startNonce
    let s2 := s1.flash.lapRate.foldl (fun t r => t.showRate r.1 r.2) { s1 with flash := { s1.flash with lapStart := us } }
    .next (((if s2.flash.formatting then s2.formatAll else s2).showExt).rowDone .records).modeRecord

/-- The DRAM devices are known: their registers, their domains, their ranks (R542, R547, R573, R781). -/
def State.findDram (s : State) (f : DramFound) : State :=
  let s1 := [0, 1].foldl (fun t n => (t.set (DRC_CFG.POP n) (f.pop.getD n 0)).set (DRC_CFG.DENS n) f.dens) s
  let s2 := s1.startChannels f.rfm
  s2.bringAll (s2.channels.flatMap (fun n => [29 + 2 * n, 30 + 2 * n]))

/-- May a training record be used (R91, R553): the stored form of start-up, the same devices, a temperature within 30 °C, and a verification pass
without error? -/
def State.recordFits (s : State) (r : TrainRec) (found : DramFound) (temp : Int) (verified : Bool) : Bool :=
  s.storedForm && s.dram.masksNext.isNone && found.same && r.ident == found.ident && decide ((temp - r.temp).natAbs ≤ 30) &&
  verified && s.ranksServe && !s.flag SYS_BOOTSTAT.DRAM_FAIL && s.channels.all (fun n => s.domIn (29 + 2 * n) && s.domIn (30 + 2 * n))

/-- The values of a record are in force (R91). -/
def State.useRecord (s : State) (r : TrainRec) : State :=
  let s1 := r.regs.foldl (fun t e => t.setWord e.1 e.2) (s.setMasks r.masks)
  s1.channels.foldl (fun t n => (t.set (DRC_STAT.TRAIN n) 3).set (DRC_STAT.RATE n) r.rate) s1

/-- Out of DORMANT, DRAM waits to be restored (R820). -/
def State.dramDue (s : State) : Bool :=
  s.ready && s.flag SYS_BOOTSTAT.STAGING && !s.flag SYS_BOOTSTAT.DRAM_FAIL && !s.asleep && !s.channels.isEmpty &&
  s.channels.all (fun n => s.get (DRC_STAT.TRAIN n) == 0 && s.domIn (29 + 2 * n) && s.domIn (30 + 2 * n))

/-- Out of DORMANT, DRAM is restored from the training copy under the conditions of R91, or full training begins (R820). -/
def State.dramBack (s : State) (found : DramFound) (temp : Int) (verified : Bool) : State :=
  match s.dram.record with
  | some r => if s.recordFits r found temp verified then s.useRecord r else s.afterReady
  | none => s.afterReady

/-- DRAM_RESTORE (R79, R91, R542, R553, R577, R578, R820): the devices, the die temperature in °C, the result of the verification pass, and
where the ROM places the carve-outs. Out of DORMANT it restores DRAM in the background, and the move to the DRAM path comes later (DEDUCED, assumption log
entry 53). -/
def execDramRestore (found : DramFound) (temp : Int) (verified : Bool) (places : List (Nat × Nat)) (us : Nat) (s : State) :
    Host.Outcome State Fault Refusal :=
  let s0 := s.at us
  if s0.dramDue then .next (s0.dramBack found temp verified)
  else if !s0.rowDue .dram then .next s0
  else
    let s1 := (s0.findDram found).layRanks
    let s2 := if s1.channels.isEmpty ∨ s1.ranksServe = true ∨ s1.flag SYS_BOOTSTAT.DRAM_FAIL = true then s1
      else s1.trainFailed (s1.channels.filter (fun n => s1.get (DRC_STAT.SIZE_GIB n) == 0))
    match s2.dram.record with
    | none => .next (s2.rowDone .dram)
    | some r =>
      let s4 := s2.useRecord r
      if s2.recordFits r found temp verified = false ∨ s4.carveFits places = false then .next (s2.rowDone .dram)
      else .next ((((s4.placeCarves places).set SYS_BOOTSTAT.STAGING 0).set SYS_BOOTSTAT.STORED_TRAIN 1).rowDone .dram)

/-- Slots as the journal's image holds them, without the entries whose unwrap failed (R637, R638). -/
def State.loadSlots (s : State) (lost : List Nat) : State :=
  let gone := lost.filter (fun c => (s.keys.image.lookup c).isSome)
  let s1 := { s with keys := { s.keys with slots := s.keys.image.filter (fun x => !gone.contains x.1) } }
  let s2 := gone.foldl (fun t c => t.keyNote "key entry lost" c) s1
  match s2.keys.interrupted with
  | none => s2
  | some c =>
    let k := (s2.keys.slots.lookup c).getD KeySlot.none
    ({ s2 with keys := { s2.keys with slots := putSorted c { k with lost := true } s2.keys.slots } }).keyNote "key update lost" c

/-- The newest valid image of the journal stands, or none does (R637, R639); a blank card has none yet. -/
def State.loadJournal (s : State) (bad : List (Nat × Nat × Nat)) (lost : List Nat) : State :=
  match s.keys.newestImage bad with
  | some (c, g) => ({ s with keys := { s.keys with image := g.slots, jseq := g.jseq, active := c } }).loadSlots lost
  | none =>
    if s.flag SYS_BOOTSTAT.FIRST_BOOT = true ∧ s.keys.jseq = 0 then s.loadSlots lost
    else (({ s with keys := { s.keys with slots := [], image := [] } }).set KEY_STAT.JLOST 1).notify "key journal lost" []

/-- KEY_JOURNAL_LOAD (R79, R114, R637 to R640): the pages of the journal that fail their CRC, and the entries whose unwrap fails. Without a usable
root key every slot reads as empty. -/
def execKeyJournalLoad (bad : List (Nat × Nat × Nat)) (lost : List Nat) (us : Nat) (s : State) : Host.Outcome State Fault Refusal :=
  let s0 := s.at us
  if !s0.rowDue .keys then .next s0
  else
    let ds := [33, 34, 35, 36, 37, 38]
    if s0.boot.rootKey = false ∨ s0.limpDomain = some 37 ∨ s0.limpDomain = some 50 then .next ((s0.bringAll ds).rowDone .keys)
    else
      let s1 := s0.loadJournal bad lost
      let other := s1.keys.room.getD (1 - s1.keys.active) 0
      let s2 := ({ s1 with keys := { s1.keys with erasing := decide (other < 5) } }).set KEY_STAT.ACTIVE s1.keys.active
      .next ((s2.bringAll ds).rowDone .keys)

/-- POCKET_TABLE_LOAD (R79, R320, R321, R329, R455, R781): Pockets and queues stand as the configuration record has them; the pairing too
(the assumption log gives its state). -/
def execPocketTableLoad (us : Nat) (s : State) : Host.Outcome State Fault Refusal :=
  let s0 := s.at us
  if !s0.rowDue .tables then .next s0
  else
    let s1 := if s0.limpDomain = some 43 then s0 else (s0.flash.bases.foldl (fun t b => t.set (MAP_PBASE.BASE b.1) b.2) s0).loadMap
    let s2 := s1.bringAll ((List.range 12).map (fun k => 17 + k) ++ [39, 40, 41, 42, 43, 44])
    let s3 := match s2.twin.pairing with
      | none => s2
      | some g => s2.showTwin (if g.primary then 3 else 6)
    .next ((({ s3 with flash := { s3.flash with ckptUs := us } }).showCapacity).rowDone .tables)

/-- READY_RISE (R73, R79, R83 to R85, R105, R109, R113, R801, R806 to R808, R1173): `reg` is what the regulator answers. -/
def execReadyRise (reg : Option Regulator) (us : Nat) (s : State) : Host.Outcome State Fault Refusal :=
  let s0 := s.at us
  if s0.rowDue .ready then .next (s0.readyRise reg us) else .next s0

/-- The bound of the start-up timer (R86), in µs. -/
def ResetKind.bound : ResetKind → Nat
  | .powerOn => 30000
  | _ => 27000

/-- STARTUP_TIMER_EXPIRY (R86, R110, R111): the first time a warm reset and a retry in the RETRAIN form, then LIMP; in LIMP the ladder ends. -/
def execStartupTimerExpiry (reg : Option Regulator) (us : Nat) (s : State) : Host.Outcome State Fault Refusal :=
  let s0 := s.at us
  if s0.boot.running = false ∨ us < s0.boot.triggerUs + s0.boot.kind.bound then .next s0
  else if s0.limp then .next (s0.readyRise reg us)
  else if s0.boot.retry then .next ((s0.enterLimp 5 0).readyRise reg us)
  else
    let s1 := s0.warmReset
    .next (({ s1 with boot := { s1.boot with retry := true } }).startLadder .warm [causeStall] us)

/-! ### After READY -/

/-- DRAM_TRAINING_DONE (R92, R93, R102, R542, R546, R553, R573, R580 to R582): channels that failed at 6,400 MT/s, channels that failed the
training, the device identity, the die temperature in °C, and the delay and strobe registers as set. -/
def execDramTrainingDone (failedFast failed : List Nat) (ident : Nat) (temp : Int) (delays : List (Nat × Nat)) (us : Nat) (s : State) :
    Host.Outcome State Fault Refusal :=
  let s0 := s.at us
  let chs := s0.channels.filter (fun n => s0.get (DRC_STAT.TRAIN n) == 1)
  if chs.isEmpty then .next s0
  else
    let held := s0.channels.any (fun n => s0.flag (DRC_CFG.RATE_MAX n))
    let slow := held || !failedFast.isEmpty
    let s1 := if slow && !held then s0.notify "dram rate" [("rate", "3200")] else s0
    let bad := chs.filter (fun n => failed.contains n)
    if !bad.isEmpty then
      .next ((chs.foldl (fun t n => t.set (DRC_STAT.TRAIN n) 0) s1).trainFailed bad)
    else
      let rate := if slow then 1 else 0
      let s2 := match s1.dram.masksNext with
        | some ms => ({ s1 with dram := { s1.dram with masksNext := none } }).setMasks ms
        | none => s1
      let regs := (delays.filter (fun e => trainReg e.1)).map (fun e => (e.1, BitVec.ofNat 32 e.2))
      let s3 := regs.foldl (fun t e => t.setWord e.1 e.2) s2
      let s4 := chs.foldl (fun t n => (t.set (DRC_STAT.TRAIN n) 2).set (DRC_STAT.RATE n) rate) s3
      let r : TrainRec := { rate := rate, masks := s4.masksNow, ident := ident, temp := temp, regs := regs }
      let s5 := ({ s4 with dram := { s4.dram with record := some r } }).bootRecord (.training (some r))
      .next (s5.notify "boot dram trained" [("ms", s5.sinceTrigger us)])

/-- STAGING_TO_DRAM_SWITCH (R100, R121): once every channel is trained; the reads of segments that are under way are finished, and held
segments are copied to DRAM in the pause. -/
def execStagingToDramSwitch (places : List (Nat × Nat)) (us : Nat) (s : State) : Host.Outcome State Fault Refusal :=
  let s0 := s.at us
  if s0.flag SYS_BOOTSTAT.STAGING = true ∧ s0.ready = true ∧ s0.channels ≠ [] ∧
      s0.channels.all (fun n => s0.get (DRC_STAT.TRAIN n) == 2 || s0.get (DRC_STAT.TRAIN n) == 3) = true ∧
      s0.carveFits places = true then
    let s1 := (s0.placeCarves places).set SYS_BOOTSTAT.STAGING 0
    let due := (s1.flash.segs.filter (fun x => x.2.reading)).map (·.1)
    .next (due.foldl (fun t e => t.segArrives e) { s1 with flash := { s1.flash with segUse := [] } })
  else .next s0

/-- Background work that needs the mapping engine runs in LIMP unless D43 is the unit that failed (R112). -/
def State.mapWorks (s : State) : Bool := s.limpDomain != some 43

/-- A replayed segment is held; one beyond those that may be DIRTY is written (R457). -/
def State.replayHeld (s : State) (e : Nat) : State :=
  let t := s.segHeld e
  if t.dirtySegs ≤ t.dirtyRoom then t else (t.putSeg e).1

/-- REPLAY_DONE (R90, R112, R122, R457, R461, R1023): every change has been replayed, once all replayed segments are held or written; commands that waited for
a segment go on, and the checkpoint of a `map checkpoint` that came meanwhile begins. A reset that was commanded during the replay waits for it. -/
def execReplayDone (us : Nat) (s : State) : Host.Outcome State Fault Refusal :=
  let s0 := s.at us
  if s0.flag SYS_BOOTSTAT.REPLAY = true ∧ (s0.ready = true ∨ s0.boot.pending.isSome = true) ∧ s0.mapWorks = true then
    let es := (s0.flash.segs.filter (fun x => s0.replaying x.2)).map (·.1)
    let s1 := es.foldl State.replayHeld (s0.set SYS_BOOTSTAT.REPLAY 0)
    if s1.flash.segs.any (fun x => x.2.dirty && !x.2.resident) || decide (s1.dirtyRoom < s1.dirtySegs) then .next s0
    else
      let s2 := es.foldl (fun t e => t.segArrives e) s1
      .next (if s2.flash.ckptOwn then ({ s2 with flash := { s2.flash with ckptOwn := false } }).beginCkpt false true else s2)
  else .next s0

/-- MAP_BACKGROUND_LOAD_DONE (R102, R112, R958): every remaining segment is held. -/
def execMapBackgroundLoadDone (us : Nat) (s : State) : Host.Outcome State Fault Refusal :=
  let s0 := s.at us
  if s0.ready = true ∧ s0.flag SYS_BOOTSTAT.STAGING = false ∧ s0.flag SYS_BOOTSTAT.REPLAY = false ∧ s0.flag SYS_BOOTSTAT.MAP_RESIDENT = false ∧
      s0.quiesced = false ∧ s0.asleep = false ∧ s0.mapWorks = true then
    let s1 := ((s0.flash.segs.filter (fun x => !x.2.resident)).map (·.1)).foldl (fun t e => t.segArrives e) s0
    .next ((s1.set SYS_BOOTSTAT.MAP_RESIDENT 1).notify "boot map resident" [("ms", s1.sinceTrigger us)])
  else .next s0

/-! ### The watchdog and the resets -/

/-- The watchdog's period in µs (Table BOOT-16). -/
def State.wdogPeriod (s : State) : Nat := 1000 * clamp 10 10000 (s.get SYS_WDOG.TIMEOUT_MS)

/-- WATCHDOG_EXPIRY (R108, R123, R814). -/
def execWatchdogExpiry (us : Nat) (s : State) : Host.Outcome State Fault Refusal :=
  let s0 := s.at us
  if s0.flag SYS_WDOG.EN = true ∧ s0.dom 49 ≠ 0 ∧ s0.removing = false ∧ s0.boot.wdogUs + s0.wdogPeriod ≤ us then
    .next (s0.beginReset .warm causeWdog)
  else .next s0

/-- A write of SYS_WDOG (Table BOOT-16): EN and TIMEOUT_MS take the written value; KICK restarts the count. -/
def State.writeWdog (s : State) (w us : Nat) : State :=
  let s1 := (s.set SYS_WDOG.EN (w / 2 ^ 30)).set SYS_WDOG.TIMEOUT_MS w
  if w / 2 ^ 31 % 2 = 1 then { s1 with boot := { s1.boot with wdogUs := us } } else s1

/-- SYS_WDOG_KICK (R108): `value` is the word written; a word without KICK only sets the other fields. -/
def execSysWdogKick (value us : Nat) (s : State) : Host.Outcome State Fault Refusal := .next ((s.at us).writeWdog value us)

/-- A write of SYS_RSTCTL (Table BOOT-15, R124): it acts with the key and not from P1; the removal ladder goes before it (the assumption
log says so). -/
def State.writeRstctl (s : State) (key kind : Nat) (p1 : Bool) : State :=
  if p1 ∨ key ≠ 0xC3 ∨ s.removing = true ∨ s.boot.supply = false then s
  else
    match kind with
    | 1 => s.commandReset .cold causeCold
    | 2 => s.commandReset .warm causeWarm
    | 4 => s.restartT1 .card
    | _ => s

/-- SYS_RSTCTL_COLD (R104). -/
def execSysRstctlCold (key : Nat) (p1 : Bool) (us : Nat) (s : State) : Host.Outcome State Fault Refusal := .next ((s.at us).writeRstctl key 1 p1)

/-- SYS_RSTCTL_WARM (R104). -/
def execSysRstctlWarm (key : Nat) (p1 : Bool) (us : Nat) (s : State) : Host.Outcome State Fault Refusal := .next ((s.at us).writeRstctl key 2 p1)

/-- SYS_RSTCTL_T1_RESTART (R103). -/
def execSysRstctlT1Restart (key : Nat) (p1 : Bool) (us : Nat) (s : State) : Host.Outcome State Fault Refusal :=
  .next ((s.at us).writeRstctl key 4 p1)

/-- The domains are reset, and the ladder resumes from the reset point `us` (R105, R109). -/
def State.resetPoint (s : State) (p : PendingReset) (straps : Straps) (cdetHigh : Bool) (us : Nat) : State :=
  match p.kind with
  | .cold =>
    let s1 := s.coldReset
    let s2 := s1.setLin { s1.lin with cdetLowUs := if cdetHigh then none else some (s1.lin.cdetLowUs.getD us) }
    let s3 := (s2.aonRow straps).startLadder .cold p.causes us
    if cdetHigh then s3.abandonLadder 1 else s3
  | _ => s.warmReset.startLadder .warm p.causes us

/-- Before the reset point of a cold reset the card moves to PL2, where the regulator answers (R105, R802); `none` when it stands there. -/
def State.toPl2 (s : State) (p : PendingReset) : Option State :=
  if p.kind = .cold ∧ s.get PWR_LEVEL.CUR ≠ 2 ∧ s.flag PWR_PMB.OK = true ∧ s.pwr.regBad = false then
    some (if s.pwr.levelTo = some 2 then s else s.levelAsk 2)
  else none

/-- The reset point, or the level move before it. -/
def State.toResetPoint (s : State) (p : PendingReset) (straps : Straps) (cdetHigh : Bool) (us : Nat) : State :=
  (s.toPl2 p).getD (s.resetPoint p straps cdetHigh us)

/-- RESET_FLUSH_DONE (R104, R105, R109, R122, R764): the flush has gone as far as programs have reported; once all is written the
domains are reset, for a cold reset at PL2. A replay completes first. A reset that came during the ladder has nothing to flush. `straps` and `cdetHigh` are the
samples of the strap step of a cold reset. -/
def execResetFlushDone (straps : Straps) (cdetHigh : Bool) (us : Nat) (s : State) : Host.Outcome State Fault Refusal :=
  let s0 := s.at us
  match s0.boot.pending with
  | none => .next s0
  | some p =>
    if s0.removing then .next s0
    else if s0.boot.running then .next (s0.toResetPoint p straps cdetHigh us)
    else if s0.flag SYS_BOOTSTAT.REPLAY = true ∧ s0.mapWorks = true then .next s0
    else
      match s0.cleanStop with
      | (s1, false) => .next s1
      | (s1, true) => .next (s1.toResetPoint p straps cdetHigh us)

/-! ### The end of a removal -/

/-- The checkpoint record being written is cut short by the loss of power: neither log holds it (R740). -/
def State.tornCheckpoint (s : State) : State :=
  match s.newestRec 4 with
  | some r =>
    let cut (b : LogBlk) : LogBlk := { b with recs := b.recs.filter (fun x => x.rseq ≠ r.rseq) }
    { s with log := { s.log with logA := s.log.logA.map cut, logB := s.log.logB.map cut } }
  | none => s

/-- BANK_EXHAUSTED (R735, R740): LIN_V has fallen below V_MIN; LIN_EN goes low and the card stops. Before the checkpoint row is complete no
clean-shutdown marker stands. -/
def execBankExhausted (us : Nat) (s : State) : Host.Outcome State Fault Refusal :=
  let s0 := s.at us
  let ph := s0.get RMV_STAT.PHASE
  if 1 ≤ ph ∧ ph ≤ 5 ∧ s0.lin.en = true then
    let t := (if ph = 3 then s0.tornCheckpoint else s0).powerOff
    .next { t with boot := { t.boot with supply := false } }
  else .next s0

/-- REARM_POWER_ON (R742, R925): VIN has been above VIN_OK for a further 1 ms. -/
def execRearmPowerOn (us : Nat) (s : State) : Host.Outcome State Fault Refusal :=
  let s0 := s.at us
  match s0.lin.rearmUs with
  | none => .next s0
  | some t => if s0.get RMV_STAT.PHASE = 6 ∧ t + 1000 ≤ us then .next (s0.powerOff.powerOn us) else .next s0

end Sys2Proof.Machine
end

