-- ==== Sys2Proof/Machine/DramRows.lean ====
section
/-!
DEFINITION. Sys2Proof/Machine/DramRows.lean: the commands of the DRAM channels (chapter 10) and the uncorrectable SRAM read (R511).
-/
namespace Sys2Proof.Machine
open Sys2Proof

/-! ### Requests -/

/-- Is an access exempt from the check: the scrubber and tag fetches (Table ACC-6)? -/
def exempt (port : Nat) (o : Owner) : Bool := port == 7 && (match o with | .scrub => true | .tags => true | _ => false)

/-- Does colour c pass a tag t (R683)? -/
def colourPasses (o : Owner) (c t : Nat) : Bool :=
  c == t && (t != 0 || (match o with | .tailor _ p1 => !p1 | _ => true))

/-- The bytes of a line that are held for a read, in the merge buffer or in the write queue (R567). -/
def DramCh.held (c : DramCh) (line : Nat) : List (Option Byte) :=
  overlay (((c.merge.find? (fun x => x.line == line)).map (fun x => x.bytes)).getD [])
    (((c.wq.find? (fun x => x.line == line)).map (fun x => x.data.map some)).getD [])

/-- A checked and admitted read (R567): built byte by byte from the merge buffer, the write queue and DRAM. -/
def State.acceptRead (s : State) (n port line ns : Nat) (hint : Bool) (o : Owner) : State :=
  let c := s.drc n
  let m := c.merge.find? (fun x => x.line == line)
  let w := c.wq.find? (fun x => x.line == line)
  let held := c.held line
  let (s1, r) := s.newReq n port line ns hint o
  let s2 := if held.any Option.isSome then s1.count (DRC_FWD.COUNT n) 1 else s1
  if maskFull held then
    if (w.map (fun x => x.poison)).getD false && !((m.map (fun x => maskFull x.bytes)).getD false) then
      s2.dramReply n { id := r.id, port := port, status := Status.poison.code, data := [] }
    else s2.dramReply n { id := r.id, port := port, status := 0, data := overlayLine held [] }
  else
    let d := s2.drc n
    s2.setDrc n { d with reads := d.reads ++ [{ r with fwd := held }] }

/-- A checked and admitted write (R519, R566): into the merge buffer, or as a full line into the write queue. -/
def State.acceptWrite (s : State) (n port line ns : Nat) (hint : Bool) (o : Owner) (bytes : List (Option Byte)) (evict : LineErrs) : State :=
  let c := s.drc n
  match c.merge.find? (fun x => x.line == line) with
  | some m =>
    let m1 := { m with
      bytes := overlay bytes m.bytes, used := s.dram.order, hint := hint, owner := o, port := port, writers := m.writers ++ [(s.dram.nextId, (port, o))] }
    let others := c.merge.filter (fun x => x.line ≠ line)
    let s1 := { s.setDrc n { c with merge := others ++ [m1] } with dram :=
      { (s.setDrc n { c with merge := others ++ [m1] }).dram with order := s.dram.order + 1, nextId := s.dram.nextId + 1 } }
    if maskFull m1.bytes then s1.mergeOut n m1 LineErrs.none ns else s1
  | none =>
    if maskFull bytes then
      let (s1, r) := s.newReq n port line ns hint o
      s1.queueLine n { r with data := overlayLine bytes [] }
    else
      let s1 :=
        if c.merge.length < 32 then s
        else match leastBy (fun x => x.used) c.merge with
          | some old => s.mergeOut n old evict ns
          | none => s
      let d := s1.drc n
      let e : MergeEntry :=
        { line := line, bytes := bytes, since := ns, used := s1.dram.order, port := port, owner := o, hint := hint,
          writers := [(s1.dram.nextId, (port, o))] }
      let s2 := s1.setDrc n { d with merge := d.merge ++ [e] }
      { s2 with dram := { s2.dram with order := s2.dram.order + 1, nextId := s2.dram.nextId + 1 } }

/-- Is there room for a write (R562)? -/
def State.writeRoom (s : State) (n line : Nat) (bytes : List (Option Byte)) : Bool :=
  let c := s.drc n
  match c.merge.find? (fun x => x.line == line) with
  | some m => !maskFull (overlay bytes m.bytes) || s.wqRoom n line
  | none =>
    if maskFull bytes then s.wqRoom n line
    else decide (c.merge.length < 32) || decide (c.wq.length < 64)

/-- DRAM_REQUEST (R50, R99, R683 to R693, R556, R566 to R569): a request enters its channel, or an access of staging SRAM its granule. It
carries the colour of the Pocket that its owner acts for. `tag` is what a read
of the tag line that the check needs finds; `evict` is what the read of a merge entry that makes room finds. A request
the channel cannot take yet changes nothing. -/
def execDramRequest (port addr : Nat) (op : DramOp) (hint : Bool) (owner : Owner) (staging : Bool) (tag evict : LineErrs) (ns : Nat)
    (s0 : State) : Host.Outcome State Fault Refusal :=
  let s := s0.at (ns / 1000)
  let wr := match op with | .read => false | _ => true
  let colour := s.colourOf owner
  if staging then
    let g := addr / 4096
    if 1024 ≤ g ∨ colourPasses owner colour (s.granuleColour g) = true then .next s
    else .next (s.colourFault 0x10 port colour (s.granuleColour g) addr wr false owner)
  else
    let (n, c) := s.chanOf addr
    if 8 ≤ port ∨ s.drcServes n = false ∨ s.dramSize ≤ addr then .next s
    else
      let line := c / 64
      let scrubOff := owner == .scrub &&
        (!s.flag ECC_CFG.SCRUB_EN || s.quiesced || (s.drc n).othersWait || line != (s.drc n).scrubNext ||
          (s.flag PWR_STATE.IDLE_ARM && (match (s.drc n).scrubUs with | some t => decide (s.clk < t + 10) | none => false)))
      let bytes := match op with | .write bs => fullMask bs | _ => []
      if scrubOff || (wr && !s.writeRoom n line bytes) then .next s
      else if exempt port owner then
        let t := if owner = .scrub then s.setDrc n { s.drc n with scrubUs := some s.clk } else s
        if wr then .next (t.acceptWrite n port line ns hint owner bytes evict) else .next (t.acceptRead n port line ns hint owner)
      else if s.inTagStore n c then .next (s.colourFault port port colour 0 addr wr true owner)
      else
        match s.tagFetch n (s.tagAddr n c) tag with
        | (s1, none) =>
          .next (((s1.dramReply n { id := s1.dram.nextId, port := port, status := Status.poison.code, data := [] }).accessLost owner .poison).settle)
        | (s1, some t) =>
          let k := t.bytes.getD (s.tagAddr n c / 64 % 64) 0
          if colourPasses owner colour k then
            if wr then .next (s1.acceptWrite n port line ns hint owner bytes evict) else .next (s1.acceptRead n port line ns hint owner)
          else
            .next ((s1.dramReply n { id := s1.dram.nextId, port := port, status := Status.colourFault.code, data := [] }).colourFault
              port port colour k addr wr false owner)

/-- DRAM_SCHEDULE (R557 to R563, R568, R571): the next request is issued; a write reaches its line, a read waits for its burst. -/
def execDramSchedule (ch ns : Nat) (s0 : State) : Host.Outcome State Fault Refusal :=
  let s := s0.at (ns / 1000)
  if 2 ≤ ch ∨ s.drcServes ch = false then .next s
  else
    let s1 := s.countMisses ch ns
    let drain := s1.drainsWrites ch ns
    let c := s1.drc ch
    let s2 := s1.setDrc ch { c with draining := drain }
    match s2.pickReq ch drain ns with
    | none => .next s2
    | some r =>
      let s3 := s2.access1 ch r.line r.hint ns
      let d := s3.drc ch
      if d.reads.any (fun x => x.id == r.id) then
        .next (s3.setDrc ch { d with reads := d.reads.filter (fun x => x.id ≠ r.id), issued := d.issued ++ [r] })
      else
        .next ((s3.setDrc ch { d with wq := d.wq.filter (fun x => x.id ≠ r.id) }).storeLine ch r.line r.data r.poison)

/-- The scrubber has read a line (R524): the lap ends after the last line. -/
def State.scrubDone (s : State) (n line : Nat) : State :=
  let c := s.drc n
  if line + 1 < s.chLines n then s.setDrc n { c with scrubNext := line + 1 }
  else
    (s.setDrc n { c with scrubNext := 0, fixed := [], scrubLapUs := s.clk }).setSat ECC_DSCRUB.LAP_S (roundDiv (s.clk - c.scrubLapUs) 1000000)

/-- DRAM_LINE_READ (R513 to R518, R522, R573, R579): the burst of the oldest issued read arrives. `errs` is what the burst brings, `holds`
what the line holds where it lies neither in the cache nor in the inbound area. -/
def execDramLineRead (ch : Nat) (errs : LineErrs) (stuck : Bool) (holds : Owner) (us : Nat) (s0 : State) : Host.Outcome State Fault Refusal :=
  let s := s0.at us
  if 2 ≤ ch ∨ s.drcServes ch = false then .next s
  else
    match (s.drc ch).issued with
    | [] => .next s
    | r :: rest =>
      let c := s.drc ch
      let was := (s.lineOf ch r.line).poison
      let own := s.lineHolder ch r.line holds
      let (s1, e) := (s.setDrc ch { c with issued := rest }).decodeLine ch r.line errs stuck
      let line := s1.lineOf ch r.line
      let s2 := if s.lineKnown ch r.line then s1 else s1.useFree
      let s3 := if r.owner = .scrub then s2.scrubDone ch r.line else s2
      if e = .good then
        .next (s3.dramReply ch { id := r.id, port := r.port, status := 0, data := overlayLine r.fwd line.data })
      else
        let s4 := s3.dramReply ch { id := r.id, port := r.port, status := Status.poison.code, data := [] }
        let s5 := if was then s4 else s4.placeLost (s.spotOf (s.cardAddr ch (64 * r.line))) own
        .next ((if r.owner = own ∧ was = false then s5 else s5.accessLost r.owner .poison).settle)

/-- MERGE_ENTRY_TIMEOUT (R519, R520): an entry held for 2 µs goes to the write queue as a full line. -/
def execMergeEntryTimeout (ch line : Nat) (errs : LineErrs) (ns : Nat) (s0 : State) : Host.Outcome State Fault Refusal :=
  let s := s0.at (ns / 1000)
  if 2 ≤ ch ∨ s.drcServes ch = false then .next s
  else
    match (s.drc ch).merge.find? (fun m => m.line == line) with
    | some m => if m.since + 2000 ≤ ns ∧ s.wqRoom ch line = true then .next (s.mergeOut ch m errs ns) else .next s
    | none => .next s

/-! ### Refresh, rows and alerts -/

/-- DRAM_REFRESH (R563, R564, R570, R576): REFab of a rank that is active or the spare closes its rows; a policy that has changed applies from
here. -/
def execDramRefresh (ch rank : Nat) (s : State) : Host.Outcome State Fault Refusal :=
  let st := s.get (rankFld ch rank)
  if 2 ≤ ch ∨ 3 ≤ rank ∨ s.drcServes ch = false ∨ st = 0 ∨ st = 4 then .next s
  else
    let c := s.drc ch
    let want := s.flag (DRC_CFG.PAGE ch)
    let rows := if c.closePage = want then c.rows.filter (fun o => s.physRank ch o.rank != rank) else []
    .next (s.setDrc ch { c with rows := rows, closePage := want })

/-- ACT_TABLE_CLEAR (R571). -/
def execActTableClear (s : State) : Host.Outcome State Fault Refusal :=
  let clear (c : DramCh) : DramCh := { c with acts := [] }
  .next { s with dram := { s.dram with ch := s.dram.ch.map clear } }

/-- ROW_IDLE_CLOSE (R563): an open row without a hit for IDLE_NS is closed. -/
def execRowIdleClose (ch rank bank ns : Nat) (s0 : State) : Host.Outcome State Fault Refusal :=
  let s := s0.at (ns / 1000)
  if 2 ≤ ch then .next s
  else
    let c := s.drc ch
    let idle := max 20 (min 5000 (s.get (DRC_PAGE.IDLE_NS ch)))
    .next (s.setDrc ch { c with rows := c.rows.filter (fun o => !(o.rank == rank && o.bank == bank && decide (o.last + idle ≤ ns))) })

/-- DRAM_ALERT (R545): counted, with a notice at most once per second. -/
def execDramAlert (ch us : Nat) (s0 : State) : Host.Outcome State Fault Refusal :=
  let s := s0.at us
  if 2 ≤ ch then .next s
  else
    let s1 := s.count (DRC_ERR.ALERT ch) 1
    let c := s1.drc ch
    let quiet := match c.alertUs with | some t => decide (us < t + 1000000) | none => false
    if quiet then .next s1
    else .next ((s1.setDrc ch { c with alertUs := some us }).notify "dram alert" [("ch", dec ch)])

/-! ### Migration and retirement -/

/-- MIGRATION_COPY_LINE (R573 to R575, R591, R592): the next line of the source goes to the target; an uncorrectable one as a poison line. A migration
stops when the removal ladder starts. -/
def execMigrationCopyLine (ch : Nat) (errs : LineErrs) (holds : Owner) (s : State) : Host.Outcome State Fault Refusal :=
  if 2 ≤ ch ∨ s.drcServes ch = false ∨ s.removing = true then .next s
  else
    match (s.drc ch).migration with
    | none => .next s
    | some m =>
      if s.chLines ch ≤ m.next then .next s
      else
        let was := (s.lineOf ch m.next).poison
        let (s1, e) := s.decodeLine ch m.next errs false
        let go := (s1.nextLine ch m.logical (m.next + 1)).getD (s1.chLines ch)
        let c := s1.drc ch
        let s2 := (s1.setDrc ch { c with migration := some { m with next := go } }).set (DRC_SPARE.PROGRESS ch) (s1.copyPart ch m.logical go)
        if e = .poison ∧ was = false then
          .next ((s2.placeLost (s.spotOf (s.cardAddr ch (64 * m.next))) (s.lineHolder ch m.next holds)).settle)
        else .next s2

/-- MIGRATION_DONE (R576, R588): the target takes the source's logical rank number. -/
def execMigrationDone (ch : Nat) (s : State) : Host.Outcome State Fault Refusal :=
  if 2 ≤ ch ∨ s.removing = true then .next s
  else
    match (s.drc ch).migration with
    | none => .next s
    | some m =>
      if m.next < s.chLines ch then .next s
      else
        let c := s.drc ch
        let s1 := s.setDrc ch { c with migration := none, failing := [] }
        let s2 := ((s1.set (rankFld ch m.src) 4).set (rankFld ch m.dst) 1).setLog ch m.logical m.dst
        let gone (i : Nat) : Bool :=
          s2.flag (ECC_DREMAP.VALID ch i) && (s2.placeOf ch (64 * s2.get (ECC_DREMAP.LINE ch i))).rank == m.logical
        let s3 := ((List.range 16).filter gone).foldl (fun t i =>
          (t.moveLine ch (t.chLines ch - 16 + i) (t.get (ECC_DREMAP.LINE ch i))).setWord (ECC_DREMAP.addr ch i) 0) s2
        let s4 := s3.notify "dram rank retired" (rankKv ch m.src ++ [("spare", "used")])
        .next (c.failing.foldl (fun t r => t.shrinkDue ch r) s4)

/-- RANK_SHRINK (R577, R593): the rank retires, and a warm reset with its flush and clean checkpoint begins; a replay completes first. -/
def execRankShrink (ch : Nat) (s : State) : Host.Outcome State Fault Refusal :=
  if 2 ≤ ch ∨ s.flag SYS_BOOTSTAT.REPLAY = true then .next s
  else
    match (s.drc ch).shrink with
    | none => .next s
    | some r =>
      let c := s.drc ch
      let s1 := ((s.setDrc ch { c with shrink := none }).set (rankFld ch r) 4).notify "dram rank retired" (rankKv ch r ++ [("spare", "none")])
      .next (s1.beginReset .warm causeShrink)

/-- DQS_TRACK (R583): each device's write DQS delay moves by at most one step: 1 up, 2 down, else not at all. -/
def execDqsTrack (ch : Nat) (moves : List Nat) (s : State) : Host.Outcome State Fault Refusal :=
  if 2 ≤ ch ∨ s.drcServes ch = false then .next s
  else
    .next ((List.range 5).foldl (fun t d =>
      let v := t.get (DRC_DQS.DQS_TX ch d)
      if moves.getD d 0 = 1 then t.set (DRC_DQS.DQS_TX ch d) (min 255 (v + 1))
      else if moves.getD d 0 = 2 then t.set (DRC_DQS.DQS_TX ch d) (v - 1) else t) s)

/-- One bit of PRBS7, x^7 + x^6 + 1 (Table DRC-8). -/
def prbs7Step (r : Nat) : Bool × Nat :=
  let b := (r / 2 ^ 6 + r / 2 ^ 5) % 2
  (b == 1, (2 * r + b) % 2 ^ 7)

/-- Bits of a generator from a state on, one a beat. -/
def genBits (f : Nat → Bool × Nat) : Nat → Nat → List Bool
  | 0, _ => []
  | n + 1, r => (f r).1 :: genBits f n (f r).2

/-- A training pattern as bit b of a channel, DQ0 to DQ31 and CB0 to CB7, carries it for n beats (Table DRC-8). PRBS7 runs ahead by the bit number. The
user bytes fill the lines of the run, four to a beat. -/
def State.trainBits (s : State) (ch pat b n : Nat) : List Bool :=
  match pat with
  | 0 => (genBits prbs7Step (b + n) 0x7F).drop b
  | 1 => genBits (fun r => ((prbsStep r).1 == 1, (prbsStep r).2)) n (prbsSeed b)
  | 2 => (List.range n).map (fun i => i % 40 == b)
  | 3 => (List.range n).map (fun i =>
      if b < 32 then (s.get (DRC_TUSER.DATA ch (i % 16))).testBit b else Config.trainBit 3 b i)
  | k => (List.range n).map (fun i => Config.trainBit k b i)

/-- May the training helpers of a channel be used (R584): in training, or on a channel not in use in BLANK, MAKE or RETURN? -/
def State.helpersFree (s : State) (ch : Nat) : Bool :=
  s.get (DRC_STAT.TRAIN ch) == 1 ||
    (!s.drcServes ch && (s.get LCS_STATE.STATE == 0 || s.get LCS_STATE.STATE == 1 || s.get LCS_STATE.STATE == 3))

/-- A write of DRCn_TPAT with START (R584): the pattern runs only while the channel is in training, or not in use in BLANK, MAKE or RETURN. `got` are the
beats that come back, in order: bit b of each is compared with the pattern, and its mismatches are counted. A run that writes leaves the
channel's lines unknown. -/
def State.patternRun (s : State) (ch rank dir pat : Nat) (got : List Nat) : State :=
  if 2 ≤ ch ∨ s.helpersFree ch = false ∨ s.domIn (29 + 2 * ch) = false then s
  else
    let s1 := ((s.set (DRC_TPAT.RANK ch) rank).set (DRC_TPAT.DIR ch) dir).set (DRC_TPAT.PAT ch) pat
    let beats := got.take (16 * s1.get (DRC_TLEN.LINES ch))
    let missed (b : Nat) : Nat := ((beats.zip (s1.trainBits ch pat b beats.length)).filter (fun x => x.1.testBit b != x.2)).length
    let s2 := (List.range 40).foldl (fun t b => t.count (DRC_TCMP.MISS ch b) (missed b)) s1
    let c := s2.drc ch
    if dir = 1 then s2.setDrc ch { c with lines := [] } else s2

/-- DRC_TPAT_START (R584). -/
def execDrcTpatStart (ch rank dir pat : Nat) (got : List Nat) (s : State) : Host.Outcome State Fault Refusal :=
  .next (s.patternRun ch rank dir pat got)

/-! ### SRAM -/

/-- A word of a meter reads zero: 0 the amount, 1 the total, else the spill count. -/
def Meter.clearWord (m : Meter) (w : Nat) : Meter :=
  if w = 0 then { m with acc := 0 } else if w = 1 then { m with tot := 0 } else { m with spill := 0 }

/-- Bytes of a record replaced, and its CRC formed again (Table HTG-2). -/
def patchBucket (b : Bytes) (at' : Nat) (new : Bytes) : Bytes :=
  let body := ((b.take at') ++ new ++ b.drop (at' + new.length)).take 124
  body ++ leBytes 4 (crc32c body)

/-- A word of the Hangtag SRAM reads zero and its meter is marked DAMAGED: in the open minute, or in the closed bucket that holds the word
(R927). -/
def State.meterDamaged (s : State) (p k w : Nat) (closed : Option Nat) : State :=
  match closed with
  | none =>
    let o := s.htg.minute p
    let m := (o.meters.getD k Meter.zero).clearWord w
    let o1 := { o with meters := o.meters.set k m, damaged := o.damaged ||| (2 ^ k) }
    { s with htg := { s.htg with minutes := putSorted p o1 s.htg.minutes } }
  | some i =>
    let ring := (s.htg.rings.lookup p).getD []
    match ring[i]? with
    | none => s
    | some b =>
      let zero := if w = 2 then patchBucket b.bytes (88 + 2 * k) (leBytes 2 0) else patchBucket b.bytes (24 + 8 * k) (leBytes 8 0)
      let mark := patchBucket zero 10 (leBytes 1 ((zero.getD 10 0).toNat ||| (2 ^ k)))
      { s with htg := { s.htg with rings := upsert p (ring.set i { b with bytes := mark }) s.htg.rings } }

/-- A key slot's material, owner and kind come again from the key journal; its state, its latches and what is pending on it stay (Table SDP-1,
row 4). -/
def KeySlot.reloaded (k img : KeySlot) : KeySlot := { k with owner := img.owner, kind := img.kind, material := img.material }

/-- What an uncorrectable SRAM read costs (R511, R968, Table SDP-1); in the key vault, a byte of a command's latch costs the command (R655). -/
def State.sramLost (s : State) (array domain : Nat) (owner : Owner) (unit : Nat) (closed : Option Nat) : State :=
  let s1 := ((s.count ECC_SCORR.UNC 1).set ECC_SLAST.DOMAIN domain).set ECC_SLAST.ARRAY array
  match array with
  | 1 => (s1.accessLost owner .poison).settle
  | 2 => s1.runFault 26 causeMemErr
  | 3 => if 39 ≤ domain ∧ domain ≤ 42 then s1.runFault domain causeMemErr else s1
  | 4 =>
    (match owner, s1.keys.image.lookup unit, s1.keys.slots.lookup unit with
     | .command _ _, _, _ => (s1.accessLost owner .poison).settle
     | _, some k, some live => { s1 with keys := { s1.keys with slots := upsert unit (live.reloaded k) s1.keys.slots } }
     | _, _, _ => s1)
  | 5 => (match owner with | .segment e => s1.rebuildSeg e | _ => s1)
  | 6 => s1.poisonLine (unit / 2 ^ 32 % 2) (unit % 2 ^ 32)
  | 7 =>
    (match s1.life.run with
     | some r => if r.dom = domain then s1.runFault domain causeMemErr
       else if domain = 50 then s1.restartT1 .card else s1.beginReset .warm causeMemErr
     | none => if domain = 50 then s1.restartT1 .card else s1.beginReset .warm causeMemErr)
  | 8 => s1.meterDamaged (unit / 32 % 256) (unit / 4 % 8) (unit % 4) closed
  | 9 =>
    let s2 := { s1 with boot := { s1.boot with romErrs := s1.boot.romErrs + 1 } }
    if s1.boot.romErrs = 0 then s2.beginReset .warm causeMemErr else s2.enterLimp 1 49
  | _ => s1

/-- SRAM_UNCORRECTABLE (R507, R510, R511, Table SDP-1): a read of a byte of on-chip SRAM of which `bits`, of the 13 stored, are read wrong. A single one
is corrected, and the array holds the corrected byte before any later read; more are an uncorrectable read. `array` is the row of Table
SDP-1 from 1, `owner` the command or segment at the byte, `unit` the
key slot, the DRAM line as channel × 2^32 + line, or the damaged word as (Pocket × 8 + meter) × 4 + word, in the open minute or in a `closed`
bucket of the Pocket's ring. -/
def execSramUncorrectable (array domain : Nat) (bits : List Nat) (owner : Owner) (unit : Nat) (closed : Option Nat) (s : State) :
    Host.Outcome State Fault Refusal :=
  match (bits.filter (fun b => decide (b < 13))).eraseDups with
  | [] => .next s
  | [_] => .next (s.count ECC_SCORR.CORR 1)
  | _ => .next (s.sramLost array domain owner unit closed)

end Sys2Proof.Machine
end

