-- ==== Sys2Proof/Machine/HelpLines.lean ====
section
/-!
DEFINITION. Sys2Proof/Machine/HelpLines.lean: the command forms of Tables CMDA-1 and CMDB-1 as `help` shows them, and the two forms of
`help` (chapter 19, R982 to R984; chapter 20).
-/
namespace Sys2Proof.Machine
open Sys2Proof

/-- A form of a verb: its subcommand (`-` for none), class, roles and keys, as `help VERB` writes them. -/
structure HelpRow where
  sub : String
  changing : Bool
  roles : String
  keys : String
  deriving DecidableEq, Repr

/-- A reading and a changing form. -/
def rd (sub roles keys : String) : HelpRow := { sub := sub, changing := false, roles := roles, keys := keys }
def ch (sub roles keys : String) : HelpRow := { sub := sub, changing := true, roles := roles, keys := keys }

/-- The forms of the verbs of chapter 19 (Table CMDA-1 and the grammars of its sections). `plainRoles` is who may load a key in plain. -/
def helpTenants (plainRoles : String) : List (String × List HelpRow) :=
  [("cache", [rd "show" "O,H,M" "-", ch "set" "O,H,M" "[clean_min],[clean_max],[dirty_min],[dirty_max]",
      ch "cfg" "O,H,M" "[baste],[prefetch],[flush_hi],[flush_lo],[ahead],[window]"]),
   ("cipher", [rd "show" "O,H,M" "-", rd "gmac" "O,H" "slot,[hex]", rd "cmac" "O,H" "slot,[hex]", rd "enc" "O,H" "slot,hex",
      rd "dec" "O,H" "slot,hex"]),
   ("clock", [rd "show" "O,H,M" "-", ch "set" "O,M" "minute,[sec]"]),
   ("hello", [rd "-" "all" "-", rd "-" "all" "role,[response]"]),
   ("help", [rd "-" "O,H,M" "-", rd "-" "O,H,M" "[sub]"]),
   ("id", [rd "-" "O,H,M" "-"]),
   ("key", [ch "load" "O,H,M" "kind,wrap,[owner]", ch "load" plainRoles "kind,plain", ch "gen" "O,H,M" "kind,wrap,[owner]",
      ch "erase" "O,H,M" "-", rd "show" "O,H,M" "-", ch "show" "O" "[slot]", rd "list" "O,H,M" "[owner],[from]",
      rd "blob" "O,H,M" "hex", rd "blob" "O,H,M" "-"]),
   ("line", [rd "-" "O" "-", rd "-" "O" "speed", rd "-" "O" "mode", rd "-" "O" "cts"]),
   ("link", [rd "show" "O,H,M" "-", ch "retrain" "O,H" "-",
      ch "cfg" "O,H" "[max_frame],[turn_frames],[turn_us],[idle_us],[lease],[fixed_m]"]),
   ("map", [rd "show" "O,H,M" "-", rd "lookup" "O,H,M" "lba", ch "checkpoint" "O,H,M" "-", ch "cfg" "O" "dirty_cap"]),
   ("meter", [rd "show" "O,H,M" "-", rd "read" "O,H,M" "[index]", ch "ack" "O,H" "gen,minute", ch "cfg" "O" "[k],[base]"]),
   ("pocket", [ch "create" "O,H,M" "size,[class],[weight],[limit],[unit]", ch "set" "O,H,M" "[size],[class],[weight],[limit],[unit]",
      ch "suspend" "O,H,M" "-", ch "resume" "O,H,M" "-", ch "delete" "O,H,M" "-", rd "show" "O,H,M" "-", rd "list" "O,H,M" "-"]),
   ("queue", [ch "create" "O,H,M" "pocket,[depth],[ack],[baste]", ch "set" "O,H,M" "[depth],[ack],[baste]", ch "delete" "O,H,M" "-",
      rd "show" "O,H,M" "-", rd "list" "O,H,M" "[pocket],[from]"]),
   ("ver", [rd "-" "O,H,M" "-"])]

/-- The forms of the verbs of chapter 20 (Table CMDB-1 and the grammars of its sections). -/
def helpService : List (String × List HelpRow) :=
  [("bist", [ch "run" "S" "domain", rd "show" "O,H,M" "-", rd "list" "O,H,M" "-"]),
   ("colour", [rd "show" "O,H,M" "-", rd "tag" "O,H,M" "addr"]),
   ("domain", [rd "show" "O,H,M" "-", ch "on" "O,H,M" "-", ch "off" "O,H,M" "[mode],[drain]"]),
   ("dram", [rd "show" "O,H,M" "-", ch "cfg" "O" "[ch],[rate_max],[spare],[qos],[page],[idle_ns],[guard_ns],[act],[share]",
      ch "port" "O" "[ch],[target_ns],[prio]", ch "masks" "O" "cs,bg0,bg1,bg2,ba0,ba1"]),
   ("ecc", [rd "show" "O,H,M" "-", rd "group" "O,H,M" "-",
      ch "cfg" "O" "[refresh],[retry],[rb],[patrol],[scrub],[z],[growth],[fixed_t],[t_init],[warn_h]", ch "inject" "O" "target,[unit],[bits]"]),
   ("flash", [rd "show" "O,H,M" "-", rd "die" "O,H,M" "-", ch "cfg" "O" "[op],[open_host],[gc_start],[gc_urgent],[wl_spread]",
      ch "format" "S" "confirm"]),
   ("life", [rd "show" "O,H,M" "-", ch "set" "S" "to,confirm"]),
   ("lining", [rd "show" "O,H,M" "-",
      ch "cfg" "O" "[chg],[float],[ilim],[slot_w],[esr_max],[eta],[kder],[efix],[cap],[floor_w]", ch "probe" "O" "-", ch "drill" "O" "-",
      ch "desc" "O" "[nom],[esr_max],[float],[ilim],[slot_w]"]),
   ("log", [rd "show" "O,H,M" "-", rd "faults" "O,H,M" "[from],[n]"]),
   ("mantle", [rd "show" "O,H,M" "-", rd "relay" "O,H" "text", rd "read" "O,H,M" "slot,pocket,[minute]"]),
   ("mpu", [rd "show" "O,H,M" "[core]", ch "load" "O" "length", ch "add" "O" "off,hex", ch "admit" "O" "key", ch "remove" "O" "-"]),
   ("peek", [rd "-" "O,H,M" "[n]"]),
   ("poke", [ch "-" "O" "-"]),
   ("power", [rd "-" "O,H,M" "-", ch "-" "O,H,M" "state,[set],[drain],[mode]", ch "-" "O,H,M" "level",
      ch "-" "O" "[nap],[tack_s],[tch],[timer],[wake_pmbus],[wake_lining]"]),
   ("reset", [ch "card" "O,M" "-", ch "warm" "O,M" "-", ch "domain" "O" "-"]),
   ("ring", [rd "show" "O,H,M" "-", ch "retrain" "O,M" "port", ch "cfg" "O,M" "[join],[force],[rate_max],[lanes],[darn_share]"]),
   ("twin", [rd "show" "O,H,M" "-", ch "pair" "O,M" "role,key", ch "unpair" "O,M" "-", ch "swap" "O,M" "-", ch "takeover" "O,M" "-",
      ch "integ" "O,M" "slot", ch "offer" "-" "role,key,kcv,cap,serial"])]

/-- Every form. -/
def helpTable (plainRoles : String) : List (String × List HelpRow) := helpTenants plainRoles ++ helpService

/-- The verbs in alphabetical order (R982). -/
def helpVerbs : List String :=
  ["bist", "cache", "cipher", "clock", "colour", "domain", "dram", "ecc", "flash", "hello", "help", "id", "key", "life", "line", "lining",
   "link", "log", "mantle", "map", "meter", "mpu", "peek", "pocket", "poke", "power", "queue", "reset", "ring", "twin", "ver"]

/-- The subcommands of a verb, each once, in the order of its forms; `-` for a verb without one (R982). -/
def subsOf (rows : List HelpRow) : String :=
  ",".intercalate (rows.foldl (fun (l : List String) (r : HelpRow) => if l.contains r.sub then l else l ++ [r.sub]) [])

/-- Who may load a key in plain (Table CMDA-1): S; in lifecycle MAKE also O and H. -/
def State.plainRoles (s : State) : String := if s.get LCS_STATE.STATE = 1 then "O,H,S" else "S"

/-- A form as a data line (R983). -/
def HelpRow.kvs (r : HelpRow) : List KV :=
  [("sub", r.sub), ("class", if r.changing then "changing" else "reading"), ("roles", r.roles), ("keys", r.keys)]

/-- HELP (R982, R984). -/
def execHelp (ln : Ln) (us : Nat) (s : State) : Host.Outcome State Fault Refusal :=
  s.cmd (Say.help us) ln us (reading rolesOHM []) (fun t =>
    let rows := helpVerbs.map (fun v => [("verb", v), ("subs", subsOf (((helpTable t.plainRoles).lookup v).getD []))])
    (t, .ok rows [("n", dec rows.length)]))

/-- HELP_VERB (R983, R984). -/
def execHelpVerb (ln : Ln) (verb : String) (sub : Option String) (us : Nat) (s : State) : Host.Outcome State Fault Refusal :=
  s.cmd (Say.helpVerb verb sub us) ln us (reading rolesOHM []) (fun t =>
    let all : List HelpRow := ((helpTable t.plainRoles).lookup verb).getD []
    let rows := match sub with | some w => all.filter (fun (r : HelpRow) => r.sub == w) | none => all
    if rows.isEmpty then (t, .fail .badArg) else (t, .ok (rows.map HelpRow.kvs) [("n", dec rows.length)]))

end Sys2Proof.Machine
end

