-- ==== Sys2Proof/Machine/SeamRows.lean ====
section
/-!
DEFINITION. Sys2Proof/Machine/SeamRows.lean: the Seam ports, the ring, BEATs and the Mantle (chapter 16), and the reception of a
member's lines (R1090, R1091).
-/
namespace Sys2Proof.Machine
open Sys2Proof

/-! ### Joining -/

/-- SEAM_MONITOR_LOCK (R845): a monitoring port's receivers lock on a rate code and a lane count. -/
def execSeamMonitorLock (port rate : Nat) (two : Bool) (s : State) : Host.Outcome State Fault Refusal :=
  if port < 2 ∧ (s.hop port).phase = .monitor then .next (s.setHop port { s.hop port with locked := some (rate, two) }) else .next s

/-- SEAM_MONITOR_LOCK_LOSS (R845). -/
def execSeamMonitorLockLoss (port : Nat) (s : State) : Host.Outcome State Fault Refusal :=
  if port < 2 ∧ (s.hop port).phase = .monitor then .next (s.setHop port { s.hop port with locked := none }) else .next s

/-- May the card insert itself at `us`, behind the token (R847, R851, R905)? -/
def State.insertOk (s : State) (us : Nat) : Option (Nat × Bool) :=
  let token := match s.seam.tokenUs with | some t => decide (t ≤ us) && decide (us ≤ t + 5) | none => false
  let away := match s.seam.leftUs with | some t => decide (t + 10000000 ≤ us) | none => true
  let pause := decide (s.pwr.pauseUs ≤ us) && decide (us < s.pwr.pauseUs + 12)
  if s.monitoring && token && away && !pause && s.mayJoin then
    match s.seam.east.locked, s.seam.west.locked with
    | some a, some b => if a = b then some a else none
    | _, _ => none
  else none

/-- RING_INSERT (R843, R847, R888): both switches open, JOIN on each port in the monitored mode. -/
def execRingInsert (us : Nat) (s : State) : Host.Outcome State Fault Refusal :=
  let s0 := s.at us
  match s0.insertOk us with
  | none => .next s0
  | some m =>
    let join (t : State) (p : Nat) : State :=
      let t1 := t.setMode p m.1 m.2
      (t1.seamOut p (.hop (t1.hopPayload p 0x24 0 0))).setPhase p .up
    .next ((([0, 1].foldl join s0.openPorts).joinedNow us).twinGo)

/-- RING_FORM_TIMEOUT (R848): no lock for 30 ms, or for 100 ms one lock or two that differ. -/
def execRingFormTimeout (us : Nat) (s : State) : Host.Outcome State Fault Refusal :=
  let s0 := s.at us
  let same := s0.seam.east.locked.isSome && s0.seam.east.locked == s0.seam.west.locked
  if s0.monitoring = false ∨ s0.mayJoin = false ∨ same = true then .next s0
  else .next (((s0.openPorts.negotiateHop 0).negotiateHop 1).joinedNow us)

/-- HOP_JOIN_RECEIVE (R849, R853, R859, R899): JOIN, or a hop frame whose partner is new. -/
def execHopJoinReceive (port : Nat) (payload : Bytes) (s : State) : Host.Outcome State Fault Refusal :=
  if 2 ≤ port ∨ s.joined = false then .next s
  else match s.hearHop port payload with
    | none => .next s.dropFrame
    | some s1 => .next s1

/-! ### Hop negotiation -/

/-- IDENT_SEND (R854, R857): at its IDENT time a port starts attempt 1 once an IDENT has named it as partner, or sends IDENT. -/
def execIdentSend (port : Nat) (s : State) : Host.Outcome State Fault Refusal :=
  if 2 ≤ port ∨ s.joined = false then .next s
  else
    match (s.hop port).phase with
    | .ident =>
      if (s.hop port).echoed then
        let m := s.firstMode port
        .next (s.startHopAttempt port 1 m.1 m.2)
      else .next (s.seamOut port (.hop (s.hopPayload port 0x21 0 0)))
    | .up => .next (s.seamOut port (.hop (s.hopPayload port 0x21 0 0)))
    | _ => .next s

/-- IDENT_RECEIVE (R849, R854, R859). -/
def execIdentReceive (port : Nat) (payload : Bytes) (s : State) : Host.Outcome State Fault Refusal :=
  if 2 ≤ port ∨ s.joined = false then .next s
  else match s.hearHop port payload with
    | none => .next s.dropFrame
    | some s1 =>
      if (s1.hop port).phase = .ident ∧ le payload 16 4 = s1.get SYS_SERIAL.SERIAL then
        .next (s1.setHop port { s1.hop port with echoed := true })
      else .next s1

/-- HOP_REPORT_RECEIVE (R236, R849, R855): the far end's REPORT; `lanes` are what the port's lanes brought of the attempt, which this end judges.
The hop is up when both show every lane of the mode good; IDENT follows in the new mode. -/
def execHopReportReceive (port : Nat) (payload : Bytes) (lanes : List LaneTrain) (s : State) : Host.Outcome State Fault Refusal :=
  if 2 ≤ port ∨ s.joined = false then .next s
  else match s.hearHop port payload with
    | none => .next s.dropFrame
    | some s1 =>
      let h := s1.hop port
      let good := lanesGood lanes
      if h.phase ≠ .attempt ∨ le payload 11 1 ≠ h.k then .next s1
      else
        let s2 := s1.seamOut port (.hop (s1.hopPayload port 0x23 h.k (good % 4)))
        let mode := if h.two then 3 else 1
        if mode &&& good = mode ∧ mode &&& le payload 12 1 = mode then
          let s3 := s2.hopUp port
          .next (s3.seamOut port (.hop (s3.hopPayload port 0x21 0 0)))
        else .next s2

/-- HOP_ATTEMPT_END (R856): 200 µs without the hop up. -/
def execHopAttemptEnd (port : Nat) (s : State) : Host.Outcome State Fault Refusal :=
  let h := s.hop port
  if 2 ≤ port ∨ h.phase ≠ .attempt then .next s
  else match nextHopMode h.k h.rate h.two with
    | some m => .next (s.startHopAttempt port (h.k + 1) m.1 m.2)
    | none => .next (s.setPhase port .failed)

/-- HOP_RETRY (R856): 1 s after the hop failed. -/
def execHopRetry (port : Nat) (s : State) : Host.Outcome State Fault Refusal :=
  if port < 2 ∧ (s.hop port).phase = .failed then .next (s.negotiateHop port) else .next s

/-- HOP_ERROR (R857): loss of alignment, or 16 character errors within 1 ms. -/
def execHopError (port : Nat) (s : State) : Host.Outcome State Fault Refusal :=
  if port < 2 ∧ (s.hop port).phase = .up then .next (s.negotiateHop port) else .next s

/-- HOP_DOWN_LEAVE (R852): a hop has not been up for 10 ms. -/
def execHopDownLeave (port us : Nat) (s : State) : Host.Outcome State Fault Refusal :=
  let s0 := s.at us
  if 2 ≤ port ∨ s0.joined = false ∨ (s0.hop port).phase = .up then .next s0
  else
    let s1 := ({ s0 with seam := { s0.seam with leftUs := some us } }).leaveRing 1
    .next (s1.notify "ring left" [("reason", "hop"), ("port", if port = 0 then "E" else "W")])

/-! ### Frames -/

/-- RING_FRAME_RECEIVE (R858 to R863, R815, R896, R897): an item other than a BEAT arrives. An MGT frame for this card wakes it. -/
def execRingFrameReceive (port : Nat) (rx : RxInfo) (frame : RFrame) (us : Nat) (s : State) : Host.Outcome State Fault Refusal :=
  let s0 := s.at us
  if 2 ≤ port ∨ s0.joined = false ∨ (s0.hop port).phase ≠ .up ∨ frame.cls = 0 ∨ frame.cls = 4 then .next s0
  else
    let (s1, ok) := s0.ringJudge port rx frame.payload.length
    if !ok then .next s1
    else
      let s2 := s1.routeFrame port frame
      .next (if frame.cls = 2 ∧ frame.dst = s2.ownSlot then s2.wakeEvent 4 port us else s2)

/-- SEAM_ACK_RECEIVE (R282, R284, R861). -/
def execSeamAckReceive (port : Nat) (copies : List (Nat × Nat)) (s : State) : Host.Outcome State Fault Refusal :=
  if 2 ≤ port ∨ (s.hop port).phase ≠ .up then .next s
  else match ackTaken copies with
    | none => .next s
    | some e => .next (s.hopAcked port e)

/-- SEAM_REP_RECEIVE (R857, R861). -/
def execSeamRepReceive (port : Nat) (copies : List (Nat × Nat)) (s : State) : Host.Outcome State Fault Refusal :=
  if 2 ≤ port ∨ (s.hop port).phase ≠ .up then .next s
  else match ackTaken copies with
    | none => .next s
    | some e => .next (s.hopBack port e)

/-- SEAM_GO_BACK_TIMEOUT (R857, R861): the oldest unacknowledged item has had no ACK progress for 20 µs. -/
def execSeamGoBackTimeout (port : Nat) (s : State) : Host.Outcome State Fault Refusal :=
  if 2 ≤ port ∨ (s.hop port).phase ≠ .up then .next s
  else match (s.hop port).unacked with
    | [] => .next s
    | i :: _ => .next (s.hopBack port i.seq)

/-! ### BEATs and the Mantle -/

/-- BEAT_SEND (R865, R866, R891): on the card's 10 ms grid. -/
def execBeatSend (us : Nat) (s : State) : Host.Outcome State Fault Refusal :=
  let s0 := s.at us
  if s0.joined then .next (s0.sendBeat us false) else .next s0

/-- What every BEAT of another card tells: its state, its part in the twinset, its office (R866 to R868, R878, R888 to R892). -/
def State.hearBeat (s : State) (src us : Nat) (b : Beat) : State :=
  let s1 := s.noteBeat src us b
  let s2 := if s1.twin.pairing.isSome ∧ src = s1.partner then s1.partnerBeat b.tstate else s1
  if b.mantle then s2.mantleBeat src us b else s2

/-- The card's own BEAT returns: the Mantle takes the PASS as its next ROSTER (R866), and the frame is removed (R860). -/
def State.ownBeatBack (s : State) (port us : Nat) (b : Beat) : State :=
  let s1 := if b.mantle then
      (({ s with seam := { s.seam with lastPass := b.pass, passSince := s.seam.ownTokenUs } }).setRoster b.pass)
    else s
  let s2 := s1.dropFrame
  if port = 1 ∧ s2.isToken us b = true then s2.portsIn else s2

/-- BEAT_RECEIVE (R846, R847, R850, R851, R859, R860, R863, R866, R867, R878, R888 to R892, R904): a BEAT arrives on a port; a
monitoring card only listens. -/
def execBeatReceive (port : Nat) (rx : RxInfo) (frame : RFrame) (us : Nat) (s : State) : Host.Outcome State Fault Refusal :=
  let s0 := s.at us
  let b := Beat.of frame.payload
  let bad := decide (le frame.payload 0 1 ≠ 1) || decide (frame.payload.length < 64)
  let west (t : State) : State :=
    if port = 1 ∧ t.isToken us b = true then { t with seam := { t.seam with tokenUs := some us } } else t
  if 2 ≤ port ∨ frame.cls ≠ 4 then .next s0
  else if s0.monitoring then
    if rx.crcOk = false then .next s0
    else if bad then .next s0.dropFrame
    else if frame.src = s0.ownSlot then .next s0.dupSlot
    else .next ((west s0).hearBeat frame.src us b)
  else if s0.joined = false ∨ (s0.hop port).phase ≠ .up then .next s0
  else
    let (s1, ok) := s0.ringJudge port rx frame.payload.length
    if !ok then .next s1
    else if bad then .next s1.dropFrame
    else if frame.src = s1.ownSlot then
      .next (if b.serial = s1.get SYS_SERIAL.SERIAL then (west s1).ownBeatBack port us b else s1.dupSlot)
    else
      let (s2, new) := s1.freshFrame frame
      if !new then .next s2
      else
        let token := s2.isToken us b
        let s3 := (west s2).hearBeat frame.src us b
        let pass := if b.mantle then b.pass ||| 2 ^ s3.ownSlot else b.pass
        let out : RFrame := { frame with payload := frame.payload.take 20 ++ leBytes 3 pass ++ frame.payload.drop 23 }
        let s4 := s3.forward port out
        .next (if port = 1 ∧ token = true then s4.portsIn else s4)

/-- The Mantle has gone silent: the card elects (Table SEAM-7). -/
def State.elect (s : State) : State := s.noMantle.mantleState 3

/-- BEAT_SILENCE (R867, R878, R888): 30 ms without a BEAT of `slot`. -/
def execBeatSilence (slot us : Nat) (s : State) : Host.Outcome State Fault Refusal :=
  let s0 := s.at us
  match s0.beatOf slot with
  | none => .next s0
  | some r =>
    if r.counted ∨ us < r.us + 30000 then .next s0
    else
      let mark (b : BeatRec) : BeatRec := if b.src = slot then { b with counted := true } else b
      let s1 := ({ s0 with seam := { s0.seam with beats := s0.seam.beats.map mark } }).count SEAM_BEATMISS.COUNT 1
      let s2 := if s1.twin.pairing.isSome ∧ slot = s1.partner then s1.partnerSilent else s1
      .next (if slot = s2.get SEAM_STAT.MANTLE ∧ s2.get SEAM_MANTLE.STATE = 1 ∧ s2.seam.named = false then s2.elect else s2)

/-- JOIN_NO_MANTLE_TIMEOUT (R888): joined, and no MANTLE BEAT for 30 ms. -/
def execJoinNoMantleTimeout (us : Nat) (s : State) : Host.Outcome State Fault Refusal :=
  let s0 := s.at us
  if s0.joined = true ∧ s0.get SEAM_MANTLE.STATE = 0 ∧ s0.mantleSeen us = false then .next s0.elect else .next s0

/-- STANDBY_BEAT_WAIT_EXPIRY (R888): 20 ms more without the standby's MANTLE BEAT. -/
def execStandbyBeatWaitExpiry (us : Nat) (s : State) : Host.Outcome State Fault Refusal :=
  let s0 := s.at us
  let gone := match s0.seam.mantleUs with | some t => decide (t + 50000 ≤ us) | none => true
  if s0.get SEAM_MANTLE.STATE = 1 ∧ gone = true then .next s0.elect else .next s0

/-- MANTLE_ELECTION_TIMER (R888): 30 ms in ELECTING; the highest-ranked candidate becomes the active Mantle. -/
def execMantleElectionTimer (us : Nat) (s : State) : Host.Outcome State Fault Refusal :=
  let s0 := s.at us
  if s0.get SEAM_MANTLE.STATE = 3 ∧ s0.highest us = true then .next s0.becomeMantle else .next s0

/-- MANTLE_STANDBY_TAKEOVER (R890, R894): the standby's first MANTLE BEAT at the next point of its grid, with TICK when the minute
passed in the silence. -/
def execMantleStandbyTakeover (us : Nat) (s : State) : Host.Outcome State Fault Refusal :=
  let s0 := s.at us
  let silent := match s0.seam.mantleUs with | some t => decide (t + 30000 ≤ us) | none => true
  if s0.get SEAM_MANTLE.STATE = 2 ∧ silent = true then
    .next (s0.becomeMantle.sendBeat us (decide (s0.get SEAM_MINUTE.MINUTE < s0.get HTG_MINUTE.MINUTE)))
  else .next s0

/-- LOCAL_MINUTE_CLOSE (R893, R918, R919): 100 ms after the counter reached a minute without its TICK. -/
def execLocalMinuteClose (us : Nat) (s : State) : Host.Outcome State Fault Refusal :=
  let s0 := s.at us
  let m := s0.get HTG_MINUTE.MINUTE
  let due := s0.meteredPockets.any (fun p => match (s0.htg.minute p).stamp with | some x => decide (x + 1 < m) | none => decide (0 < m))
  if due = true ∧ s0.get SEAM_MINUTE.MINUTE < m ∧ 1000 ≤ s0.htg.phase ∧ s0.removing = false then .next (s0.closeAll m false) else .next s0

/-! ### Lines of members -/

/-- A strict line without its checksum. -/
def dropCheck (l : String) : String := String.ofList (l.toList.take (l.length - 6))

/-- The pairing completes on the secondary (R868, R1079, Table SEAM-6). The partner's serial is the one its BEATs show. -/
def State.pairedSecondary (s : State) (g : Pairing) : State :=
  let serial := match s.beatOf g.slot with | some b => b.beat.serial | none => g.serial
  let tw : Twin := { s.twin with pairing := some { g with serial := serial }, offer := none, offerReq := none }
  let s1 := ({ s with twin := tw }).becomeSecondary
  if s1.twin.offerFirst then s1.notify "twin paired" [("slot", slotId g.slot), ("role", "secondary")] else s1

/-- An offer has been refused (R1079): the notice of the card commanded first, or the answer of the command that was to complete the
pairing. The pairing stays pending. -/
def State.pairRefused (s : State) (g : Pairing) (st : Status) : State :=
  if s.twin.offerFirst then s.notify "twin pair failed" [("slot", slotId g.slot), ("status", hex0x 3 st.code)]
  else s.finishFor .pairing (fun t => .er t st)

/-- The status of an ER line, from its three digits. -/
def erStatus (l : String) : Option Status :=
  match l.toList with
  | 'E' :: 'R' :: ' ' :: '0' :: 'x' :: a :: b :: c :: _ =>
    (hex4 ([0x30] ++ [a, b, c].map Char.toNat)).bind Status.ofCode
  | _ => none

/-- The primary's judgement of an offer arrives (R1077, R1079). -/
def State.offerJudged (s : State) (g : Pairing) (l : String) : State :=
  if l.toList.take 2 = ['O', 'K'] then s.pairedSecondary g
  else match erStatus l with
    | some st => s.pairRefused g st
    | none => s

/-- SEAM_REPLY_RECEIVE (R158, R897, R1079, R1090): a line of a member's reply to the Mantle's relay, which carries at most 257 data lines, or
the judgement of an offer. -/
def execSeamReplyReceive (src req : Nat) (last : Bool) (text : String) (us : Nat) (s : State) : Host.Outcome State Fault Refusal :=
  let s0 := s.at us
  let l := dropCheck text
  let offer := match s0.twin.offer with
    | some (g, _) => if g.slot = src ∧ s0.twin.offerReq = some req then some g else none
    | none => none
  match offer, s0.seam.relay.find? (fun r => r.slot == src && r.req == req) with
  | some g, _ => .next (s0.offerJudged g l)
  | none, none => .next s0
  | none, some r =>
    let ls := (r.lines ++ [l]).take 257
    let others := s0.seam.relay.filter (fun x => x.req ≠ req)
    if !last then .next { s0 with seam := { s0.seam with relay := others ++ [{ r with lines := ls }] } }
    else
      let s1 := { s0 with seam := { s0.seam with relay := others } }
      .next (s1.finishFor (.relay req) (fun t =>
        .ok t (ls.map (fun x => [("", x)])) [("lines", dec ls.length), ("ms", dec (roundDiv (us - r.us) 1000))]))

/-- SEAM_NOTICE_RECEIVE (R1091): a member's notice goes out on the Mantle's own Collar line, cut at 240 characters. -/
def execSeamNoticeReceive (src : Nat) (text : String) (s : State) : Host.Outcome State Fault Refusal :=
  if s.get SEAM_MANTLE.STATE ≠ 4 then .next s
  else
    let body := String.ofList ((dropCheck text).toList.drop 2)
    let ev := "member=" ++ slotId src ++ " " ++ body
    .next (s.notifyOn .collar (String.ofList (ev.toList.take 238)) [])

end Sys2Proof.Machine
end

