-- ==== Sys2Proof/Machine/TwinRows.lean ====
section
/-!
DEFINITION. Sys2Proof/Machine/TwinRows.lean: the items of a twinset and its timers (chapter 16).
-/
namespace Sys2Proof.Machine
open Sys2Proof

/-- TWIN_DATA (R872, R873, R875, R876): a DATA item. -/
def execTwinData (tseq lba pocket half : Nat) (integ poison : Bool) (ikey count : Nat) (tag bytes : Bytes) (s : State) : Host.Outcome State Fault Refusal :=
  .next (s.applyData tseq lba pocket half integ poison ikey count tag bytes)

/-- TWIN_DARN (R872, R873, R875, R876, R886): as DATA. -/
def execTwinDarn (tseq lba pocket half : Nat) (integ poison : Bool) (ikey count : Nat) (tag bytes : Bytes) (s : State) : Host.Outcome State Fault Refusal :=
  .next (s.applyData tseq lba pocket half integ poison ikey count tag bytes)

/-- TWIN_TRIM (R873, R875, R876). -/
def execTwinTrim (tseq lba pocket count : Nat) (s : State) : Host.Outcome State Fault Refusal := .next (s.applyUnmap tseq lba pocket count)

/-- TWIN_UNMAP (R873, R875, R876): a darned range with no data. -/
def execTwinUnmap (tseq lba pocket count : Nat) (s : State) : Host.Outcome State Fault Refusal := .next (s.applyUnmap tseq lba pocket count)

/-- TWIN_COPY (R873, R875, R876). -/
def execTwinCopy (tseq src pocket count dst : Nat) (integ : Bool) (dkey ikey : Nat) (s : State) : Host.Outcome State Fault Refusal :=
  .next (s.applyCopy tseq src pocket count dst integ dkey ikey)

/-- TWIN_REGION_END (R873, R884): everything of the region before it has been applied. -/
def execTwinRegionEnd (tseq _region pocket : Nat) (s : State) : Host.Outcome State Fault Refusal :=
  if s.takesItem tseq then .next (s.itemHeard pocket).itemApplied else .next s

/-- TWIN_HOLD (R882): the secondary does not take over for `ms` milliseconds. -/
def execTwinHold (tseq ms us : Nat) (s : State) : Host.Outcome State Fault Refusal :=
  let s0 := s.at us
  if s0.takesItem tseq then
    .next (({ s0 with twin := { s0.twin with holdUntil := us + 1000 * clamp 1 5000 ms } }).itemHeard 0).itemApplied
  else .next s0

/-- HOLD_EXPIRY (R882). -/
def execHoldExpiry (us : Nat) (s : State) : Host.Outcome State Fault Refusal :=
  let s0 := s.at us
  if s0.twin.holdUntil ≤ us then .next { s0 with twin := { s0.twin with holdUntil := 0 } } else .next s0

/-- TWIN_ACK (R873, R874, R884): everything up to `upTo` is confirmed. -/
def execTwinAck (upTo us : Nat) (s : State) : Host.Outcome State Fault Refusal :=
  let s0 := s.at us
  if s0.mirrors then .next (s0.twinAcked upTo).twinGo else .next s0

/-- TWIN_NAK (R875, R876, R878): the item is sent once more; a second refusal ends the mirror. -/
def execTwinNak (tseq : Nat) (s : State) : Host.Outcome State Fault Refusal :=
  if s.mirrors = false ∨ (s.twin.unconf.any (fun i => i.tseq == tseq)) = false then .next s
  else if s.twin.refused = some tseq then .next s.toLost
  else .next ({ s with twin := { s.twin with refused := some tseq } }).twinBack

/-- TWIN_CONFIRM_TIMEOUT (R876): 200 µs without a confirmation. -/
def execTwinConfirmTimeout (s : State) : Host.Outcome State Fault Refusal := if s.mirrors then .next s.twinBack else .next s

/-- TWIN_LOST_TIMEOUT (R878): 50 ms without a confirmation while items are unconfirmed. -/
def execTwinLostTimeout (us : Nat) (s : State) : Host.Outcome State Fault Refusal :=
  let s0 := s.at us
  if s0.mirrors = true ∧ s0.twin.unconf ≠ [] then .next s0.toLost else .next s0

/-- TAKEOVER_AUTO (R879 to R881, R901): a secondary in WAIT that left STANDBY, the primary silent and absent from the roster, and no
HOLD in force. -/
def execTakeoverAuto (us : Nat) (s : State) : Host.Outcome State Fault Refusal :=
  let s0 := s.at us
  if s0.twinState = 6 ∧ s0.twin.fromStandby = true ∧ s0.primarySilent us = true ∧ s0.twin.holdUntil ≤ us ∧ s0.rosterLacks = true then
    .next s0.takeover
  else .next s0

/-- DARN_REGION (R456, R472, R505, R883 to R886): the lowest marked region is copied; `reads` and `unc` are what its reads from flash meet. A segment it
needs is read first; while a block of it stands on a quad or pool that is out of service it is not taken (DESIGN CHOICE, assumption log entry 222). -/
def execDarnRegion (reads : List (Nat × List (List Nat))) (unc : List Nat) (s : State) : Host.Outcome State Fault Refusal :=
  if s.twinState ≠ 1 ∨ 64 ≤ s.twin.inCopy.length then .next s
  else match lowestRegion s.twin.marked with
    | none => .next s.darnEnds
    | some (p, r) =>
      let away := (s.segsOf p (256 * r) 256).filter s.segAbsent
      if away ≠ [] then .next (away.foldl State.needSeg s)
      else if (s.regionBlocks p r).all (s.blockReadable p) then .next (s.darnRegion p r reads unc).settle else .next s

end Sys2Proof.Machine
end

