-- ==== Sys2Proof/Machine/HtgRows.lean ====
section
/-!
DEFINITION. Sys2Proof/Machine/HtgRows.lean: samples, buckets and the Hangtag's registers (chapter 17).
-/
namespace Sys2Proof.Machine
open Sys2Proof

/-- Energy of a sample in nJ (R910). -/
def sampleEnergy (codeV codeI : Nat) : Nat := codeV * codeI * 32400000 / 2 ^ 24

/-- The Pocket's busy time in the sample; P000 has none (R908). -/
def busyOf (busy : List (Nat × Nat)) (p : Nat) : Nat := if p = 0 then 0 else min 100 ((busy.lookup p).getD 0)

/-- The weights of R911; bytes of a Pocket that has none of the meters any more are work for no Pocket. -/
def State.weight (s : State) (busy : List (Nat × Nat)) (p : Nat) : Nat :=
  if p = 0 then
    s.get HTG_BASE.BASE + ((s.htg.cross.filter (fun x => x.1 == 0 || !s.metered x.1)).map (fun x => x.2)).sum
  else (s.htg.cross.lookup p).getD 0 + s.get HTG_CFG.K * busyOf busy p

/-- Cache entries held CLEAN, DIRTY or THROUGH (Table HTG-1). -/
def State.heldEntries (s : State) (p : Nat) : Nat :=
  if p = 0 then 0 else s.holds p .clean + s.holds p .dirty + s.holds p .through

/-- Shares of a sample's energy: floors by weight, and the residue to P000 (R912). Work of Pockets without meters counts for
P000. -/
def State.shareEnergy (s : State) (busy : List (Nat × Nat)) (e : Nat) : State :=
  let ws := s.meteredPockets.map (fun p => (p, s.weight busy p))
  let total := (ws.map (fun w => w.2)).sum
  if total = 0 then s.meter 0 4 e
  else
    let parts : List (Nat × Nat) := ws.map (fun w => (w.1, e * w.2 / total))
    let given := (parts.map (fun x => x.2)).sum
    parts.foldl (fun t x => t.meter x.1 4 (if x.1 = 0 then x.2 + (e - given) else x.2)) s

/-- A sample has been taken in every open minute; the count stops at its largest value (R1169). -/
def State.countSample (s : State) : State :=
  let one (t : State) (p : Nat) : State :=
    let o := t.htg.minute p
    { t with htg := { t.htg with minutes := upsert p { o with samples := min (2 ^ 32 - 1) (o.samples + 1) } t.htg.minutes } }
  (s.meteredPockets.foldl one s).count HTG_STAT.SAMPLES 1

/-- The AON minute counter: 600,000 samples to a minute (Table HTG-3, R920). -/
def State.minuteRuns (s : State) : State :=
  if s.htg.phase + 1 < 600000 then { s with htg := { s.htg with phase := s.htg.phase + 1 } }
  else ({ s with htg := { s.htg with phase := 0 } }).set HTG_MINUTE.MINUTE (s.get HTG_MINUTE.MINUTE + 1)

/-- HTG_SAMPLE (R906 to R914, R916, R925): the ADC codes at the sample's end and each Pocket's busy µs. In TACK the energy waits in
the TACK accumulator; after a removal trigger nothing is added. -/
def execHtgSample (codeV codeI : Nat) (busy : List (Nat × Nat)) (us : Nat) (s : State) : Host.Outcome State Fault Refusal :=
  let s0 := s.at us
  let e := sampleEnergy (codeV % 4096) (codeI % 4096)
  let s1 := (s0.minuteRuns).set HTG_LASTE.NJ e
  if s1.removing then .next { s1 with htg := { s1.htg with cross := [] } }
  else if s1.get PWR_STATE.STATE = 3 then
    .next ({ s1 with htg := { s1.htg with tack := s1.htg.tack + e, cross := [] } }).countSample
  else
    let s2 := s1.shareEnergy busy e
    let one (t : State) (p : Nat) : State := (t.meter p 3 (busyOf busy p)).meter p 6 (t.heldEntries p)
    let s3 := s2.meteredPockets.foldl one s2
    .next ({ s3 with htg := { s3.htg with cross := [] } }).countSample

/-! ### Buckets -/

/-- The key of a stored bucket: SLOT, POCKET, GEN and MINUTE (R930). -/
def bucketKey (b : Bytes) : Nat × Nat × Nat × Nat := (le b 2 1, le b 1 1, le b 12 4, le b 4 4)

/-- A bucket enters the shelf store: it replaces one with an equal key, and the 16 newest of its slot and Pocket stay (R930,
R932). -/
def State.shelve (s : State) (b : Bytes) : State :=
  let (sl, p, _, _) := bucketKey b
  let rest := s.htg.store.filter (fun x => bucketKey x.2 ≠ bucketKey b)
  let same := (sl, b) :: rest.filter (fun x => x.1 == sl && le x.2 1 1 == p)
  let cut := if same.length ≤ 16 then same else
    match leastBy (fun x => le x.2 4 4) same with
    | some old => same.erase old
    | none => same
  { s with htg := { s.htg with store := cut ++ rest.filter (fun x => !(x.1 == sl && le x.2 1 1 == p)) } }

/-- Every bucket of the rings changed by a function. -/
def State.mapBuckets (s : State) (f : Bucket → Bucket) : State :=
  { s with htg := { s.htg with rings := s.htg.rings.map (fun r => (r.1, r.2.map f)) } }

/-- Buckets of the rings that a test selects, by Pocket ascending, oldest first. -/
def State.bucketsWhere (s : State) (sel : Bucket → Bool) : List Bytes :=
  ((List.range 256).map (fun p => (((s.htg.rings.lookup p).getD []).reverse.filter sel).map (fun b => b.bytes))).flatten

/-- The selected buckets are broadcast and are SENT; the active Mantle stores its own directly and marks them COLLECTED (R929,
R932). -/
def State.broadcast (s : State) (us : Nat) (sel : Bucket → Bool) : State :=
  let bs := s.bucketsWhere sel
  let s1 := bs.foldl (fun t b => t.ringSend 3 1 0xFF [] b) s
  let own := s1.get SEAM_MANTLE.STATE == 4
  let s2 := if own then bs.foldl (fun t b => t.shelve b) s1 else s1
  s2.mapBuckets (fun b => if sel b then { b with state := if own then 3 else 2, sentUs := us } else b)

/-- BUCKET_BROADCAST (R929, R932). -/
def execBucketBroadcast (us : Nat) (s : State) : Host.Outcome State Fault Refusal :=
  let s0 := s.at us
  if s0.joined then .next (s0.broadcast us (fun b => b.state == 1)) else .next s0

/-- BUCKET_REPEAT (R929): every 2 s until acknowledged. -/
def execBucketRepeat (us : Nat) (s : State) : Host.Outcome State Fault Refusal :=
  let s0 := s.at us
  if s0.joined then .next (s0.broadcast us (fun b => b.state == 2 && decide (b.sentUs + 2000000 ≤ us))) else .next s0

/-- HTG_BUCKET_RECEIVE (R930, R931): a broadcast bucket of another card. -/
def execHtgBucketReceive (src : Nat) (bucket : Bytes) (s : State) : Host.Outcome State Fault Refusal :=
  let st := s.get SEAM_MANTLE.STATE
  if bucket.length ≠ 128 ∨ (st ≠ 4 ∧ st ≠ 2) then .next s
  else
    let s1 := s.shelve bucket
    let area := (bucket.drop 1).take 1 ++ List.replicate 3 0 ++ (bucket.drop 12).take 4 ++ (bucket.drop 4).take 4
    .next (if st = 4 then s1.ringSend 3 2 src area [] else s1)

/-- The buckets that an acknowledgement names are COLLECTED (R930, R938). -/
def State.collect (s : State) (p gen minute : Nat) : State :=
  s.mapBuckets (fun b => if le b.bytes 1 1 = p ∧ le b.bytes 12 4 = gen ∧ le b.bytes 4 4 = minute then { b with state := 3 } else b)

/-- HTG_BUCKET_ACK_RECEIVE (R930, R938). -/
def execHtgBucketAckReceive (pocket gen minute : Nat) (s : State) : Host.Outcome State Fault Refusal :=
  .next (s.collect pocket gen minute)

/-- A write of a core's HTG_PSEL (R941, R1124): a snapshot of a Pocket's meter, taken in one cycle. -/
def State.pselWrite (s : State) (core meter pocket : Nat) : State :=
  let s1 := (s.setOn core HTG_PSEL.METER meter).setOn core HTG_PSEL.POCKET pocket
  let p := pocket % 256
  let m := (s1.htg.minute p).meters.getD (meter % 8) Meter.zero
  let s2 := (s1.setOn core HTG_PACC_LO.VALUE m.acc).setOn core HTG_PACC_HI.GUARD (m.acc / 2 ^ 32)
  let s3 := (s2.setOn core HTG_PTOT_LO.TOTAL m.tot).setOn core HTG_PTOT_HI.TOTAL (m.tot / 2 ^ 32)
  let gen := match s3.pockets.lookup p with | some k => k.gen | none => 0
  (s3.setOn core HTG_PSPILL.COUNT m.spill).setOn core HTG_PGEN.GEN gen

/-- HTG_PSEL_WRITE (R941). -/
def execHtgPselWrite (core meter pocket : Nat) (s : State) : Host.Outcome State Fault Refusal :=
  if core < 2 then .next (s.pselWrite core meter pocket) else .next s

/-- A write of a core's HTG_BSEL (R941, R1124): the named bucket is loaded into HTG_BUF. -/
def State.bselWrite (s : State) (core index pocket : Nat) : State :=
  let s1 := (s.setOn core HTG_BSEL.INDEX index).setOn core HTG_BSEL.POCKET pocket
  let b := (((s1.htg.rings.lookup (pocket % 256)).getD [])[index % 16]?).getD { bytes := [], state := 0, sentUs := 0 }
  (List.range 32).foldl (fun t i => t.setOn core (HTG_BUF.DATA i) (le b.bytes (4 * i) 4)) (s1.setOn core HTG_BSEL.STATE b.state)

/-- HTG_BSEL_WRITE (R941). -/
def execHtgBselWrite (core index pocket : Nat) (s : State) : Host.Outcome State Fault Refusal :=
  if core < 2 then .next (s.bselWrite core index pocket) else .next s

end Sys2Proof.Machine
end

