-- ==== Sys2Proof/Machine/LifeRows.lean ====
section
/-!
DEFINITION. Sys2Proof/Machine/LifeRows.lean: lifecycle programming, swatch runs and JTAG instructions (chapter 18).
-/
namespace Sys2Proof.Machine
open Sys2Proof

/-- JTAG_MAKE_TRANSITION (R942, R944, R948): bit 0 of a BLANK card's array is programmed at wafer test; the state is formed at the next
fuse load, or at once after a failure. -/
def execJtagMakeTransition (failed : Option (Nat × Nat)) (s : State) : Host.Outcome State Fault Refusal :=
  if s.get LCS_STATE.STATE ≠ 0 then .next s
  else
    let s1 := { s with life := { s.life with copies := programmed s.life.copies 1 failed } }
    match failed with
    | some _ => .next s1.formLife
    | none => if s1.ready then .next (s1.beginReset .cold causeLife) else .next s1

/-- LIFECYCLE_PROGRAM_DONE (R945, R948, R969): every copy verifies, or `failed` names the copy that failed twice and how its bits sense. -/
def execLifecycleProgramDone (failed : Option (Nat × Nat)) (s : State) : Host.Outcome State Fault Refusal :=
  match s.life.trans with
  | none => .next s
  | some t =>
    let s1 := { s with life := { s.life with copies := programmed s.life.copies t.bits failed, trans := none } }
    let s2 := if t.byT0 then { s1 with col := { s1.col with t0Lock := false } } else s1
    match failed with
    | none =>
      let s3 := if t.byT0 then (s2.set LCS_CTL.START 0).set LCS_RESULT.STATUS 0
        else s2.finishFor .life (fun g => .ok g [] [("state", lifeLower t.target)])
      .next ((s3.notify "life" [("state", lifeName t.target)]).beginReset .cold causeLife)
    | some _ =>
      let s3 := if t.byT0 then (s2.set LCS_CTL.START 0).set LCS_RESULT.STATUS Status.timeout.code
        else s2.finishFor .life (fun g => .er g .timeout)
      .next s3.formLife

/-- A write of LCS_CTL with START (R969): it acts only with the key, from T0 at P0. -/
def State.lcsCtl (s : State) (key target : Nat) (t0 : Bool) : State :=
  if t0 = false then s
  else
    let s1 := s.set LCS_CTL.TARGET target
    if key ≠ 0x5A ∨ s1.life.trans.isSome = true then s1
    else if s1.locked then s1.set LCS_RESULT.STATUS Status.wrongState.code
    else
      match s1.lifeRefusal (target % 8) with
      | some st => s1.set LCS_RESULT.STATUS st.code
      | none => ({ s1 with col := { s1.col with t0Lock := true } }).set LCS_CTL.START 1 |>.beginLife (target % 8) true

/-- LCS_CTL_START (R969). -/
def execLcsCtlStart (key target : Nat) (t0 : Bool) (s : State) : Host.Outcome State Fault Refusal := .next (s.lcsCtl key target t0)

/-- A write of BIST_CTL with START (R956): SWATCH and DOMAIN are stored; START acts from T0 at P0 alone. Table LCS-3 has no check for a
run in progress: that run goes on, and BIST_STAT shows no refusal (DESIGN CHOICE, assumption log entry 158). -/
def State.bistCtl (s : State) (sw d : Nat) (t0 : Bool) : State :=
  let s1 := (s.set BIST_CTL.SWATCH sw).set BIST_CTL.DOMAIN d
  if t0 = false ∨ s.life.run.isSome = true then s1
  else
    if s1.locked then s1.runRefused .wrongState
    else
      match s1.runRefusal (clamp 1 40 sw) (min 50 d) with
      | some st => s1.runRefused st
      | none => (({ s1 with col := { s1.col with t0Lock := true } }).set BIST_CTL.START 1).beginRun (clamp 1 40 sw) (min 50 d) none false

/-- BIST_CTL_START (R956). -/
def execBistCtlStart (sw d : Nat) (t0 : Bool) (us : Nat) (s : State) : Host.Outcome State Fault Refusal := .next ((s.at us).bistCtl sw d t0)

/-- BIST_RUN_DONE (R957, R958, R961, R968): the swatch ends within its bound. -/
def execBistRunDone (pass : Bool) (detail us : Nat) (s0 : State) : Host.Outcome State Fault Refusal :=
  let s := s0.at us
  match s.life.run with
  | none => .next s
  | some r =>
    if r.startUs + s.runBound r.swatch r.dom < us then .next s
    else .next (s.endRun r (if pass then 1 else 2) detail us)

/-- BIST_RUN_TIMEOUT (R960, R961): the run is not complete at its bound. -/
def execBistRunTimeout (detail us : Nat) (s0 : State) : Host.Outcome State Fault Refusal :=
  let s := s0.at us
  match s.life.run with
  | none => .next s
  | some r => if us < r.startUs + s.runBound r.swatch r.dom then .next s else .next (s.endRun r 3 detail us)

/-- JTAG_INSTRUCTION (R950 to R952). -/
def execJtagInstruction (instr : JtagInstr) (s : State) : Host.Outcome State Fault Refusal :=
  .next ({ s with life := { s.life with tapIn := instr } }).tapGate

end Sys2Proof.Machine
end

