-- ==== Sys2Proof/Machine/PowerLines.lean ====
section
/-!
DEFINITION. Sys2Proof/Machine/PowerLines.lean: the commands `power`, `domain` and `reset` (chapter 20).
-/
namespace Sys2Proof.Machine
open Sys2Proof

/-- A line whose action follows its OK: the checks, then the reply, then the action. -/
def State.runThen (s : State) (c : Say) (ln : Ln) (f : Form) (check : State → Option Status) (after : State → State) : State :=
  if !(s.ripe (c.waited ln) ln.rx && s.says c ln) then s.missed c ln
  else
    let s0 := (s.wakeLine ln.path ln.rx).heard ln.path ln.rx
    match s0.gate ln.path f false with
    | some r => s0.turnAway ln r
    | none =>
      match if ln.bad then some .badArg else check s0 with
      | some st => s0.answer ln f (.fail st)
      | none => after (s0.answer ln f (.ok [] []))

/-- A command that answers OK with no keys before it acts. -/
def State.cmdThen (s : State) (c : Say) (ln : Ln) (us : Nat) (f : Form) (check : State → Option Status) (after : State → State) :
    Host.Outcome State Fault Refusal :=
  .next ((s.at us).runThen c ln f check after)

/-- A command that is refused with a status when one stands, and answered otherwise. -/
def refuseOr (st : Option Status) (s : State) (go : State × Result) : State × Result :=
  match st with
  | some e => (s, .fail e)
  | none => go

/-! ### power -/

/-- The names of a power state and of a level in replies, in lower case (R974, R1048). -/
def powerLower : Nat → String
  | 2 => "nap"
  | 3 => "tack"
  | 4 => "dormant"
  | _ => "run"

/-- The available levels, joined by commas (R1048); DEDUCED, log 117: `none` for an empty set. -/
def State.availText (s : State) : String :=
  match ((List.range 4).filter (fun l => (s.get PWR_LEVEL.AVAIL).testBit l)).map levelName with
  | [] => "none"
  | ls => String.intercalate "," ls

/-- POWER_SHOW (R1048). -/
def execPowerShow (ln : Ln) (us : Nat) (s : State) : Host.Outcome State Fault Refusal :=
  s.cmd (Say.powerShow us) ln us (reading rolesOHM []) (fun t => (t, .ok []
    ([("state", powerLower (t.get PWR_STATE.STATE)), ("idle", if t.flag PWR_STATE.IDLE_ARM then "armed" else "off")] ++ t.levelKv ++
     [("throttled", yesNo (t.flag PWR_LEVEL.THROTTLED)), ("avail", t.availText), ("pmbus", if t.flag PWR_PMB.OK then "ok" else "fault"),
      ("wake_src", wakeName (t.get PWR_WAKESRC.SRC)), ("wake_from", powerLower (t.get PWR_WAKESRC.FROM))])))

/-- Check 1 of Table PWS-3 alone. -/
def State.armCheck (s : State) : Option Status := if s.notReadyNow then some .notReady else none

/-- POWER_STATE_RUN (R797, R1045): IDLE is disarmed. -/
def execPowerStateRun (ln : Ln) (us : Nat) (s : State) : Host.Outcome State Fault Refusal :=
  s.cmd (Say.powerStateRun us) ln us (changing rolesOHM []) (fun t => refuseOr t.armCheck t (t.keep PWR_STATE.IDLE_ARM 0, .ok [] []))

/-- POWER_STATE_IDLE (R797, R1045): IDLE is armed. -/
def execPowerStateIdle (ln : Ln) (us : Nat) (s : State) : Host.Outcome State Fault Refusal :=
  s.cmd (Say.powerStateIdle us) ln us (changing rolesOHM []) (fun t => refuseOr t.armCheck t (t.keep PWR_STATE.IDLE_ARM 1, .ok [] []))

/-- A drain window that a command names lies from 10 µs to 10 ms (Table CMDB-2). -/
def windowOk (v : Option Nat) : Bool := within v 10 10000

/-- The drain window of a command: its own, or PWR_DRAIN.US (R773, R811). -/
def State.window (s : State) (drain : Option Nat) : Nat := drain.getD (clamp 10 10000 (s.get PWR_DRAIN.US))

/-- An entry to NAP, TACK or DORMANT by command (R810, R811, R1045): the OK comes before the first step. -/
def State.enterCmd (s : State) (c : Say) (ln : Ln) (us target : Nat) (doms : State → List Nat) (drain : Option Nat) (abort : Bool) :
    Host.Outcome State Fault Refusal :=
  s.cmdThen c ln us (changing rolesOHM []) (fun t => if !windowOk drain then some .badArg else t.powerRefusal target (doms t))
    (fun t => t.beginEntry target (doms t) (t.window drain) abort)

/-- POWER_STATE_NAP (R795, R799, R809 to R817, R1043 to R1045): `set` replaces the NAP set for this entry. -/
def execPowerStateNap (ln : Ln) (set : Option (List Nat)) (drain : Option Nat) (abort : Bool) (us : Nat) (s : State) :
    Host.Outcome State Fault Refusal :=
  match set with
  | some l => if l.all napAllowed then s.enterCmd (Say.powerStateNap set drain abort us) ln us 2 (fun _ => l) drain abort
      else s.cmd (Say.powerStateNap set drain abort us) ln us (changing rolesOHM []) (fun t => (t, .fail .badArg))
  | none => s.enterCmd (Say.powerStateNap set drain abort us) ln us 2 State.napSet drain abort

/-- POWER_STATE_TACK (R795, R799, R810 to R817, R1045): every domain permitted for NAP goes off. -/
def execPowerStateTack (ln : Ln) (drain : Option Nat) (abort : Bool) (us : Nat) (s : State) : Host.Outcome State Fault Refusal :=
  s.enterCmd (Say.powerStateTack drain abort us) ln us 3 (fun _ => napAll) drain abort

/-- POWER_STATE_DORMANT (R795, R799, R810 to R818, R1045): D01 to D50 go off. -/
def execPowerStateDormant (ln : Ln) (drain : Option Nat) (abort : Bool) (us : Nat) (s : State) : Host.Outcome State Fault Refusal :=
  s.enterCmd (Say.powerStateDormant drain abort us) ln us 4 (fun _ => (List.range 51).drop 1) drain abort

/-- POWER_LEVEL (R801, R802, R805, R808, R836, R882, R1046): during an entry the answer is BZ. -/
def execPowerLevel (ln : Ln) (level us : Nat) (s : State) : Host.Outcome State Fault Refusal :=
  s.cmd (Say.powerLevel level us) ln us (changing rolesOHM []) (fun t =>
    if t.pwr.entry.isSome then (t, .busy)
    else if 3 < level then (t, .fail .badArg)
    else if !(t.get PWR_LEVEL.AVAIL).testBit level || t.pwr.regBad then (t, .fail .wrongState)
    else
      let t1 := (t.sendHold 10).keep PWR_LEVEL.CFG level
      if t1.flag PWR_LEVEL.THROTTLED then (t1, .ok [] t1.levelKv)
      else
        let t2 := t1.levelAsk level
        if t2.pwr.levelTo.isSome then (t2, .wait .level) else (t2, .ok [] t2.levelKv))

/-- Domains in ascending order with runs collapsed to ranges (R1044, R1047): `run` is the range that is being collected. -/
def rangesGo : List Nat → Option (Nat × Nat) → List String
  | [], none => []
  | [], some (a, b) => [if a = b then domainId a else domainId a ++ "-" ++ domainId b]
  | d :: r, none => rangesGo r (some (d, d))
  | d :: r, some (a, b) =>
    if d = b + 1 then rangesGo r (some (a, d))
    else (if a = b then domainId a else domainId a ++ "-" ++ domainId b) :: rangesGo r (some (d, d))

def rangesText (l : List Nat) : String := if l = [] then "none" else String.intercalate "," (rangesGo l none)

/-- The mask of domains in a list, as bits. -/
def domMask (l : List Nat) : Nat := ((List.range 51).filter (fun d => l.contains d)).foldl (fun m d => m + 2 ^ d) 0

/-- POWER_SETTINGS (R809, R823, R825, R1044, R1047). -/
def execPowerSettings (ln : Ln) (nap : Option (List Nat)) (tackS tch timer : Option Nat) (wakePmbus wakeLining : Option Bool) (us : Nat)
    (s : State) : Host.Outcome State Fault Refusal :=
  s.cmd (Say.powerSettings nap tackS tch timer wakePmbus wakeLining us) ln us (changing [.operator] []) (fun t =>
    if (match nap with | some l => l == [] || !l.all napAllowed | none => false) || !within tackS 1 3600 || !within tch 0 9 ||
        !within timer 0 16777215 then (t, .fail .badArg)
    else
      let t1 := (t.keepIf PWR_NAPSET0.SET (nap.map (fun l => domMask l % 2 ^ 32 / 2))).keepIf PWR_NAPSET1.SET (nap.map (fun l => domMask l / 2 ^ 32))
      let t2 := ((t1.keepIf PWR_TACK.PERIOD_S tackS).keepIf PWR_TACK.TCH tch).keepIf PWR_WTIMER.S timer
      let t3 := (t2.keepIf PWR_WAKEEN.PMBUS (wakePmbus.map bit01)).keepIf PWR_WAKEEN.LINING (wakeLining.map bit01)
      (t3, .ok [] [("nap", rangesText t3.napSet), ("tack_s", dec (t3.get PWR_TACK.PERIOD_S)), ("tch", dec (t3.get PWR_TACK.TCH)),
        ("timer", dec (t3.get PWR_WTIMER.S)), ("wake_pmbus", onOff (t3.flag PWR_WAKEEN.PMBUS)),
        ("wake_lining", onOff (t3.flag PWR_WAKEEN.LINING))]))

/-! ### domain -/

/-- Names of a domain's states (R1052). -/
def domName (n : Nat) : String := ["off", "check", "shadow", "in", "fenced"].getD n "off"

/-- D01 to D50 (R1049). -/
def domOk (d : Nat) : Bool := decide (1 ≤ d) && decide (d ≤ 50)

/-- DOMAIN_SHOW (R1049, R1052). -/
def execDomainShow (ln : Ln) (dom : Option Nat) (us : Nat) (s : State) : Host.Outcome State Fault Refusal :=
  s.cmd (Say.domainShow dom us) ln us (reading rolesOHM []) (fun t =>
    let row (d : Nat) : List KV :=
      [("domain", domainId d), ("state", domName (t.dom d)), ("epoch", hexPlain 2 (t.get (PWR_DSTAT.EPOCH d)))]
    match dom with
    | some d =>
      if !domOk d then (t, .fail .badArg)
      else (t, .ok [] (row d ++ [("cmd_off", yesNo (t.flag (PWR_DSTAT.CMD_OFF d))),
        ("resettable", yesNo (t.flag (PWR_DSTAT.RESETTABLE d))), ("offable", yesNo (t.flag (PWR_DSTAT.OFFABLE d)))]))
    | none => (t, .ok (((List.range 51).drop 1).map row) [("n", "50")]))

/-- What a domain's change answers at once, or the wait for its end. -/
def orWait (r : State × Option Result) (w : AwaitFor) : State × Result := (r.1, r.2.getD (.wait w))

/-- DOMAIN_ON (R754, R779, R782, R787, R1049, R1051). -/
def execDomainOn (ln : Ln) (dom us : Nat) (s : State) : Host.Outcome State Fault Refusal :=
  s.cmd (Say.domainOn dom us) ln us (changing rolesOHM []) (fun t =>
    if !domOk dom then (t, .fail .badArg) else orWait (t.domainOn dom .line) (.domainOn dom))

/-- DOMAIN_OFF (R754, R772 to R776, R787, R788, R1049, R1050). -/
def execDomainOff (ln : Ln) (dom : Nat) (abort : Bool) (drain : Option Nat) (us : Nat) (s : State) : Host.Outcome State Fault Refusal :=
  s.cmd (Say.domainOff dom abort drain us) ln us (changing rolesOHM []) (fun t =>
    if !domOk dom || !windowOk drain then (t, .fail .badArg)
    else orWait (t.domainOff dom abort (t.window drain) (some ln.path) .line) (.domainOff dom))

/-! ### reset -/

/-- RESET_CARD (R104, R882, R1102): a cold reset after its OK. -/
def execResetCard (ln : Ln) (us : Nat) (s : State) : Host.Outcome State Fault Refusal :=
  s.cmdThen (Say.resetCard us) ln us (changing [.operator, .mantle] []) (fun _ => none) (fun t => t.commandReset .cold causeCold)

/-- RESET_WARM (R104, R882, R1102): a warm reset after its OK. -/
def execResetWarm (ln : Ln) (us : Nat) (s : State) : Host.Outcome State Fault Refusal :=
  s.cmdThen (Say.resetWarm us) ln us (changing [.operator, .mantle] []) (fun _ => none) (fun t => t.commandReset .warm causeWarm)

/-- RESET_DOMAIN (R754, R777, R786 to R788, R1103): D50's is the T1 restart of Table BOOT-6. -/
def execResetDomain (ln : Ln) (dom us : Nat) (s : State) : Host.Outcome State Fault Refusal :=
  s.cmd (Say.resetDomain dom us) ln us (changing [.operator] []) (fun t =>
    if !domOk dom then (t, .fail .badArg)
    else orWait (t.domainReset dom (some ln.path) .line) (.domainReset dom))

end Sys2Proof.Machine
end

