-- ==== Sys2Proof/Machine/TenantRows.lean ====
section
/-!
DEFINITION. Sys2Proof/Machine/TenantRows.lean: the commands `pocket`, `queue`, `key` and `cipher` (chapter 19).
-/
namespace Sys2Proof.Machine
open Sys2Proof

/-- A changing command of the configuration, which a secondary takes from its primary alone (R877). -/
def State.confCmd (s : State) (c : Say) (ln : Ln) (us : Nat) (f : Form) (body : State → State × Result) : Host.Outcome State Fault Refusal :=
  s.cmd c ln us f (fun t => if t.isSecondary then (t, .fail .wrongState) else body t)

/-! ### pocket -/

def pocketForm : Form := changing rolesOHM [39, 43]

/-- POCKET_CREATE (R316, R318, R321, R323, R455, R596, R922, R991, R994). -/
def execPocketCreate (ln : Ln) (pocket : Nat) (attrs : PocketAttrs) (us : Nat) (s : State) : Host.Outcome State Fault Refusal :=
  s.confCmd (Say.pocketCreate pocket attrs us) ln us pocketForm (fun t => t.createPocket pocket attrs)

/-- POCKET_SET (R316, R317, R322, R365, R596, R991 to R994). -/
def execPocketSet (ln : Ln) (pocket : Nat) (attrs : PocketAttrs) (us : Nat) (s : State) : Host.Outcome State Fault Refusal :=
  s.confCmd (Say.pocketSet pocket attrs us) ln us pocketForm (fun t => t.alterPocket pocket attrs)

/-- POCKET_SUSPEND (R318, R323, R391). -/
def execPocketSuspend (ln : Ln) (pocket : Nat) (us : Nat) (s : State) : Host.Outcome State Fault Refusal :=
  s.confCmd (Say.pocketSuspend pocket us) ln us pocketForm (fun t => t.turnPocket pocket .active .suspended "suspend")

/-- POCKET_RESUME (R318, R323). -/
def execPocketResume (ln : Ln) (pocket : Nat) (us : Nat) (s : State) : Host.Outcome State Fault Refusal :=
  s.confCmd (Say.pocketResume pocket us) ln us pocketForm (fun t => t.turnPocket pocket .suspended .active "resume")

/-- POCKET_DELETE (R318 to R320, R323, R887, R995). -/
def execPocketDelete (ln : Ln) (pocket : Nat) (us : Nat) (s : State) : Host.Outcome State Fault Refusal :=
  s.confCmd (Say.pocketDelete pocket us) ln us pocketForm (fun t => t.deletePocket pocket)

/-- POCKET_SHOW (R994, Table CMDA-2). -/
def execPocketShow (ln : Ln) (pocket : Nat) (us : Nat) (s : State) : Host.Outcome State Fault Refusal :=
  s.cmd (Say.pocketShow pocket us) ln us (reading rolesOHM [39]) (fun t => if 255 < pocket then (t, .fail .badArg) else (t, .ok [] (t.pocketKv pocket)))

/-- POCKET_LIST (R972, Table CMDA-2): P000 first. -/
def execPocketList (ln : Ln) (us : Nat) (s : State) : Host.Outcome State Fault Refusal :=
  s.cmd (Say.pocketList us) ln us (reading rolesOHM [39]) (fun t =>
    let row (x : Nat × Pocket) : List KV :=
      [("pocket", pocketId x.1), ("state", x.2.state.name), ("size", dec x.2.size), ("used", dec (t.mapped x.1).length),
       ("class", x.2.cls.name)]
    (t, .ok (t.pockets.map row) [("n", dec t.pockets.length)]))

/-! ### queue -/

/-- QUEUE_CREATE (R326, R327, R996, R998). -/
def execQueueCreate (ln : Ln) (queue pocket : Nat) (attrs : QueueAttrs) (us : Nat) (s : State) : Host.Outcome State Fault Refusal :=
  s.confCmd (Say.queueCreate queue pocket attrs us) ln us (changing rolesOHM [queueDomain queue]) (fun t => t.createQueue queue pocket attrs)

/-- QUEUE_SET (R326, R363, R996, R998). -/
def execQueueSet (ln : Ln) (queue : Nat) (attrs : QueueAttrs) (us : Nat) (s : State) : Host.Outcome State Fault Refusal :=
  s.confCmd (Say.queueSet queue attrs us) ln us (changing rolesOHM [queueDomain queue]) (fun t => t.alterQueue queue attrs)

/-- QUEUE_DELETE (R327, R359, R997). -/
def execQueueDelete (ln : Ln) (queue : Nat) (us : Nat) (s : State) : Host.Outcome State Fault Refusal :=
  s.confCmd (Say.queueDelete queue us) ln us (changing rolesOHM [queueDomain queue]) (fun t => t.deleteQueue queue)

/-- QUEUE_SHOW (R998). -/
def execQueueShow (ln : Ln) (queue : Nat) (us : Nat) (s : State) : Host.Outcome State Fault Refusal :=
  s.cmd (Say.queueShow queue us) ln us (reading rolesOHM [queueDomain queue]) (fun t => if 1023 < queue then (t, .fail .badArg) else (t, .ok [] (t.queueKv queue)))

/-- Rows of a list reply: at most 256, and what comes next (R999, R1011). -/
def listReply (rows : List (Nat × List KV)) (name : Nat → String) : Result :=
  let shown := rows.take 256
  .ok (shown.map (·.2)) [("n", dec shown.length), ("next", match rows[256]? with | some r => name r.1 | none => "none")]

/-- QUEUE_LIST (R999). -/
def execQueueList (ln : Ln) (pocket : Option Nat) (frm : Nat) (us : Nat) (s : State) : Host.Outcome State Fault Refusal :=
  s.cmd (Say.queueList pocket frm us) ln us (reading rolesOHM [39]) (fun t =>
    let row (x : Nat × QueuePair) : Nat × List KV :=
      (x.1, [("queue", queueId x.1), ("pocket", pocketId x.2.pocket), ("state", x.2.state.name), ("depth", dec x.2.depth)])
    let hit := t.queues.filter (fun x => decide (frm ≤ x.1) && (match pocket with | some p => x.2.pocket == p | none => true))
    (t, listReply (hit.map row) queueId))

/-! ### key -/

/-- A path's blob buffer. -/
def State.setBlob (s : State) (p : Path) (b : Bytes) : State := s.setSession p { s.session p with blob := b }

/-- KEY_BLOB_ADD (R1000). -/
def execKeyBlobAdd (ln : Ln) (hex : Bytes) (us : Nat) (s : State) : Host.Outcome State Fault Refusal :=
  s.cmd (Say.keyBlobAdd hex us) ln us (reading rolesOHM []) (fun t =>
    let b := (t.session ln.path).blob ++ hex
    if hex = [] ∨ 16 < hex.length ∨ 256 < b.length then (t, .fail .badArg)
    else (t.setBlob ln.path b, .ok [] [("bytes", dec b.length)]))

/-- KEY_BLOB_CLEAR (R1000). -/
def execKeyBlobClear (ln : Ln) (us : Nat) (s : State) : Host.Outcome State Fault Refusal :=
  s.cmd (Say.keyBlobClear us) ln us (reading rolesOHM []) (fun t => (t.setBlob ln.path [], .ok [] [("bytes", "0")]))

/-- A `key` command that names slots: refused on a secondary (R877), and where it names the twin key (R869). -/
def State.keyCmd (s : State) (c : Say) (ln : Ln) (us : Nat) (f : Form) (slots : List Nat) (body : State → State × Result) :
    Host.Outcome State Fault Refusal :=
  s.confCmd c ln us f (fun t => if t.namesTwinKey slots then (t, .fail .wrongState) else body t)

/-- Is a line refused before its command acts, and not with BZ? -/
def State.gateRefuses (s : State) (c : Say) (ln : Ln) (f : Form) : Bool :=
  s.ripe (c.waited ln) ln.rx && s.says c ln &&
  (match ((s.wakeLine ln.path ln.rx).heard ln.path ln.rx).gate ln.path f false with
   | some (.fail _) => true
   | _ => false)

/-- A `key load`: the path's blob buffer is empty after it, whatever its outcome (R1001); a line answered BZ has none yet (assumption log
entry 196). -/
def State.loadCmd (s : State) (c : Say) (ln : Ln) (us : Nat) (f : Form) (slots : List Nat) (body : Bytes → State → State × Result) :
    Host.Outcome State Fault Refusal :=
  let v := (s.at us).runLine c ln f false (fun t0 =>
    let blob := (t0.session ln.path).blob
    let t := t0.setBlob ln.path []
    if ln.bad then (t, .fail .badArg)
    else if t.isSecondary || t.namesTwinKey slots then (t, .fail .wrongState)
    else body blob t)
  .next (if (s.at us).gateRefuses c ln f then v.setBlob ln.path [] else v)

/-- KEY_LOAD_WRAP (R624 to R631, R635, R869, R947, R1001 to R1007). -/
def execKeyLoadWrap (ln : Ln) (slot kind wrap : Nat) (owner : Option Nat) (us : Nat) (s : State) : Host.Outcome State Fault Refusal :=
  s.loadCmd (Say.keyLoadWrap slot kind wrap owner us) ln us (changing rolesOHM [37]) [slot, wrap] (fun blob t => t.loadWrapped blob slot kind wrap owner)

/-- KEY_LOAD_PLAIN (R628, R635, R869, R947, R1001, R1002, R1004, R1005, R1007): role S, and in MAKE also O and H. -/
def execKeyLoadPlain (ln : Ln) (slot kind : Nat) (owner : Option Nat) (us : Nat) (s : State) : Host.Outcome State Fault Refusal :=
  let roles : List Role := if s.get LCS_STATE.STATE = 1 then [.service, .operator, .host] else [.service]
  s.loadCmd (Say.keyLoadPlain slot kind owner us) ln us (changing roles [37]) [slot] (fun blob t => t.loadPlain blob slot kind owner)

/-- KEY_GEN (R628, R635, R869, R947, R1002, R1003, R1005 to R1007). -/
def execKeyGen (ln : Ln) (slot kind wrap : Nat) (owner : Option Nat) (us : Nat) (s : State) : Host.Outcome State Fault Refusal :=
  s.keyCmd (Say.keyGen slot kind wrap owner us) ln us (changing rolesOHM [37]) [slot, wrap] (fun t => t.genKey slot kind wrap owner)

/-- KEY_ERASE (R630, R632, R869, R1008, R1034). -/
def execKeyErase (ln : Ln) (slot : Nat) (us : Nat) (s : State) : Host.Outcome State Fault Refusal :=
  s.keyCmd (Say.keyErase slot us) ln us (changing rolesOHM [37]) [slot] (fun t => t.eraseKey slot)

/-- Names of a slot's states (Table CIP-6). -/
def SlotState.name : SlotState → String
  | .empty => "empty"
  | .loaded => "loaded"
  | .retiring => "retiring"

/-- Kind, owner and check value of a slot that is not EMPTY. -/
def KeySlot.kv (k : KeySlot) : List KV :=
  if k.state = .empty then [] else [("kind", kindName k.kind), ("owner", pocketId k.owner), ("kcv", kcvText k.kind k.material)]

/-- KEY_SHOW (R869, R1009). -/
def execKeyShow (ln : Ln) (slot : Nat) (us : Nat) (s : State) : Host.Outcome State Fault Refusal :=
  s.cmd (Say.keyShow slot us) ln us (reading rolesOHM [37]) (fun t =>
    if 575 < slot then (t, .fail .badArg)
    else if t.namesTwinKey [slot] then (t, .fail .wrongState)
    else
      let k := t.slot slot
      (t, .ok [] ([("slot", keySlotId slot), ("state", k.state.name)] ++ k.kv ++
        [("latches", dec (t.latchesOf slot).length), ("lost", yesNo k.lost)])))

/-- KEY_SHOW_CLEAR (R638, R869, R1010). -/
def execKeyShowClear (ln : Ln) (slot : Option Nat) (us : Nat) (s : State) : Host.Outcome State Fault Refusal :=
  s.keyCmd (Say.keyShowClear slot us) ln us (changing [.operator] [37]) slot.toList (fun t => t.clearLostFlags slot)

/-- KEY_LIST (R1011). -/
def execKeyList (ln : Ln) (owner : Option Nat) (frm : Nat) (us : Nat) (s : State) : Host.Outcome State Fault Refusal :=
  s.cmd (Say.keyList owner frm us) ln us (reading rolesOHM [37]) (fun t =>
    let row (x : Nat × KeySlot) : Nat × List KV := (x.1, [("slot", keySlotId x.1), ("state", x.2.state.name)] ++ x.2.kv)
    let hit := t.keys.slots.filter (fun x =>
      x.2.state != .empty && decide (frm ≤ x.1) && (match owner with | some p => x.2.owner == p | none => true))
    (t, listReply (hit.map row) keySlotId))

/-! ### cipher -/

/-- CIPHER_SHOW (R1016). -/
def execCipherShow (ln : Ln) (us : Nat) (s : State) : Host.Outcome State Fault Refusal :=
  s.cmd (Say.cipherShow us) ln us (reading rolesOHM []) (fun t =>
    (t, .ok [] [("cores", dec (2 * ([33, 34, 35, 36].filter t.domIn).length)), ("ic", if t.domIn 38 then "in" else "off"),
      ("nonce", dec t.keys.nonce), ("limit", dec t.keys.limit)]))

/-- The message of `gmac` and `cmac` (R1012); `none` for a `hex=` of the wrong length. -/
def State.cipherMsg (s : State) (p : Path) : Option Bytes → Option Bytes
  | some h => if h = [] ∨ 16 < h.length then none else some h
  | none => some (s.session p).blob

/-- CIPHER_GMAC (R602, R605, R612 to R616, R1012, R1013, R1015). -/
def execCipherGmac (ln : Ln) (slot : Nat) (hex : Option Bytes) (us : Nat) (s : State) : Host.Outcome State Fault Refusal :=
  s.cmd (Say.cipherGmac slot hex us) ln us (reading [.operator, .host] [37, 38]) (fun t =>
    match t.cipherMsg ln.path hex with
    | none => (t, .fail .badArg)
    | some m => t.cipherGmac slot m)

/-- CIPHER_CMAC (R602, R1012, R1013, R1015). -/
def execCipherCmac (ln : Ln) (slot : Nat) (hex : Option Bytes) (us : Nat) (s : State) : Host.Outcome State Fault Refusal :=
  s.cmd (Say.cipherCmac slot hex us) ln us (reading [.operator, .host] [37, 38]) (fun t =>
    match t.cipherMsg ln.path hex, t.cipherFault slot [5, 6] with
    | none, _ => (t, .fail .badArg)
    | _, some st => (t, .fail st)
    | some m, none => if t.domIn 38 then (t, .ok [] [("tag", hexBytes (cmac (t.slot slot).material m))]) else (t, .fail .domainOff))

/-- One raw-block operation of a line (R618, R1014, R1015). -/
def State.cipherRaw (s : State) (decr : Bool) (slot : Nat) (hex : Bytes) : State × Result :=
  if hex.length ≠ 16 then (s, .fail .badArg)
  else match s.cipherFault slot [7, 8] with
    | some st => (s, .fail st)
    | none => (s, .ok [] [("hex", hexBytes ((if decr then aesDec else aesEnc) (s.slot slot).material hex))])

/-- CIPHER_ENC (R612, R618, R1014, R1015). -/
def execCipherEnc (ln : Ln) (slot : Nat) (hex : Bytes) (us : Nat) (s : State) : Host.Outcome State Fault Refusal :=
  s.cmd (Say.cipherEnc slot hex us) ln us (reading [.operator, .host] [37]) (fun t => t.cipherRaw false slot hex)

/-- CIPHER_DEC (R612, R618, R1014, R1015). -/
def execCipherDec (ln : Ln) (slot : Nat) (hex : Bytes) (us : Nat) (s : State) : Host.Outcome State Fault Refusal :=
  s.cmd (Say.cipherDec slot hex us) ln us (reading [.operator, .host] [37]) (fun t => t.cipherRaw true slot hex)

end Sys2Proof.Machine
end

