-- ==== Sys2Proof/Machine/StoreRows.lean ====
section
/-!
DEFINITION. Sys2Proof/Machine/StoreRows.lean: the commands `cache`, `map`, `meter` and `link` (chapter 19).
-/
namespace Sys2Proof.Machine
open Sys2Proof

/-! ### cache -/

/-- The keys of `cache cfg` and of `cache show` without a Pocket (R1020). -/
def State.cacheKv (s : State) : List KV :=
  [("size_mib", dec (s.get CCH_SIZE.MIB)), ("window_mib", dec s.cache.window),
   ("window_set", dec (clamp 256 4096 (s.get CCH_INBOUND.WINDOW_MIB))), ("used_mib", dec (ceilDiv s.inboundData 1048576)),
   ("budget_mib", dec (s.cache.budget / 1048576)), ("dirty_mib", dec (ceilDiv s.dirtyBytes 1048576)),
   ("baste", onOff (s.flag CCH_CFG.BASTE_EN)), ("prefetch", onOff (s.flag CCH_CFG.PF_EN)),
   ("flush_hi", dec (s.get CCH_CFG.FLUSH_HI)), ("flush_lo", dec (s.get CCH_CFG.FLUSH_LO)),
   ("ahead", dec (128 * (s.get CCH_CFG.PF_AHEAD + 1)))]

/-- CACHE_SHOW (R1018, R1020). -/
def execCacheShow (ln : Ln) (pocket : Option Nat) (us : Nat) (s : State) : Host.Outcome State Fault Refusal :=
  s.cmd (Say.cacheShow pocket us) ln us (reading rolesOHM [43]) (fun t =>
    match pocket with
    | some p => if 255 < p then (t, .fail .badArg) else (t, .ok [] (t.shareKv p))
    | none => (t, .ok [] t.cacheKv))

/-- CACHE_SET (R400, R403, R1017, R1018). -/
def execCacheSet (ln : Ln) (pocket : Nat) (share : ShareAttrs) (us : Nat) (s : State) : Host.Outcome State Fault Refusal :=
  s.confCmd (Say.cacheSet pocket share us) ln us (changing rolesOHM [43]) (fun t => t.setShare pocket share)

/-- The named settings of `cache cfg` as keys. -/
def cacheAttrsKv (a : CacheAttrs) : List KV :=
  let one (k : String) (v : Option String) : List KV := match v with | some x => [(k, x)] | none => []
  one "baste" (a.baste.map onOff) ++ one "prefetch" (a.prefetch.map onOff) ++ one "flush_hi" (a.flushHi.map dec) ++
  one "flush_lo" (a.flushLo.map dec) ++ one "ahead" (a.ahead.map dec) ++ one "window" (a.window.map dec)

/-- The settings of `cache cfg` (R1019, R424): the window acts from the next negotiation. -/
def State.configCache (s : State) (a : CacheAttrs) : State × Result :=
  let hi := a.flushHi.getD (s.get CCH_CFG.FLUSH_HI)
  let lo := a.flushLo.getD (s.get CCH_CFG.FLUSH_LO)
  let aheadOk : Bool := match a.ahead with | some n => n % 128 == 0 | none => true
  if !within a.flushHi 1 100 || !within a.flushLo 1 100 || !within a.ahead 128 2048 || !within a.window 256 4096 || !aheadOk ||
      (decide (hi < lo) && (a.flushHi.isSome || a.flushLo.isSome)) then (s, .fail .badArg)
  else
    let s1 := ((s.keepIf CCH_CFG.BASTE_EN (a.baste.map (fun b => if b then 1 else 0))).keepIf CCH_CFG.PF_EN
      (a.prefetch.map (fun b => if b then 1 else 0))).keepIf CCH_CFG.FLUSH_HI a.flushHi
    let s2 := ((s1.keepIf CCH_CFG.FLUSH_LO a.flushLo).keepIf CCH_CFG.PF_AHEAD (a.ahead.map (fun n => n / 128 - 1))).keepIf
      CCH_INBOUND.WINDOW_MIB a.window
    let s3 := (s2.tell ["cache", "cfg"] (cacheAttrsKv a)).flushMode
    (s3, .ok [] s3.cacheKv)

/-- CACHE_CFG (R424, R877, R1019, R1020). -/
def execCacheCfg (ln : Ln) (attrs : CacheAttrs) (us : Nat) (s : State) : Host.Outcome State Fault Refusal :=
  s.confCmd (Say.cacheCfg attrs us) ln us (changing rolesOHM [43]) (fun t => t.configCache attrs)

/-! ### map -/

/-- Index entries allocated (Table FLS-14). -/
def State.indexTotal (s : State) : Nat := ((s.pockets.filter (fun x => x.1 ≠ 0)).map (fun x => indexLen x.2.size)).sum

/-- Delta records since the last checkpoint (Table FLS-14). -/
def State.deltasSince (s : State) : Nat :=
  s.flash.deltaPos - (match s.flash.ckpt with | some c => c.delta | none => 0) + s.openRecords.length

/-- Milliseconds since the last checkpoint, as MAP_CKPT.AGE_MS has them. -/
def State.ckptAge (s : State) : Nat := min (2 ^ 20 - 1) ((s.clk - s.flash.ckptUs) / 1000)

/-- Segments that are held. -/
def State.heldSegs (s : State) : Nat := (s.flash.segs.filter (fun x => x.2.resident)).length

/-- MAP_SHOW (R1021). -/
def execMapShow (ln : Ln) (us : Nat) (s : State) : Host.Outcome State Fault Refusal :=
  s.cmd (Say.mapShow us) ln us (reading rolesOHM [43]) (fun t => (t, .ok []
    [("segments", dec t.indexTotal), ("resident", dec t.heldSegs), ("dirty", dec t.dirtySegs), ("eff_cap", dec t.effCap),
     ("dirty_cap", dec (t.get MAP_CFG.DIRTY_CAP)), ("ckpt_ms", dec t.ckptAge), ("deltas", dec t.deltasSince),
     ("state", if t.flag SYS_BOOTSTAT.MAP_RESIDENT then "resident" else "paging"), ("replay", yesNo (t.flag SYS_BOOTSTAT.REPLAY))]))

/-- MAP_LOOKUP (R456, R1022). -/
def execMapLookup (ln : Ln) (pocket lba : Nat) (us : Nat) (s : State) : Host.Outcome State Fault Refusal :=
  s.cmd (Say.mapLookup pocket lba us) ln us (reading rolesOHM [43]) (fun t =>
    let size := match t.pockets.lookup pocket with | some k => 4 * k.size | none => 0
    if size ≤ lba then (t, .fail .badArg)
    else
      let e := t.segOf pocket (lba / 4)
      let held : Bool := match t.seg e with | some g => g.resident | none => false
      if t.segAbsent e then (t.needSeg e, .wait (.mapLookup pocket lba))
      else ((t.segHeld e), .ok [] (t.lookupKv pocket lba held)))

/-- MAP_CHECKPOINT (R460, R1023, R1038): one already running completes first, and so does a replay (assumption log entry 212). -/
def execMapCheckpoint (ln : Ln) (us : Nat) (s : State) : Host.Outcome State Fault Refusal :=
  s.cmd (Say.mapCheckpoint us) ln us (changing rolesOHM [43]) (fun t =>
    let t1 := { t with flash := { t.flash with ckptOwnUs := us } }
    if t1.flash.ckptRuns.isSome || t1.flag SYS_BOOTSTAT.REPLAY then ({ t1 with flash := { t1.flash with ckptOwn := true } }, .wait .checkpoint)
    else (t1.beginCkpt false true, .wait .checkpoint))

/-- MAP_CFG (R457, R1024). -/
def execMapCfg (ln : Ln) (dirtyCap : Nat) (us : Nat) (s : State) : Host.Outcome State Fault Refusal :=
  s.cmd (Say.mapCfg dirtyCap us) ln us (changing [.operator] [43]) (fun t =>
    if dirtyCap < 16 ∨ 2048 < dirtyCap then (t, .fail .badArg)
    else
      let t1 := t.keep MAP_CFG.DIRTY_CAP dirtyCap
      (t1, .ok [] [("dirty_cap", dec dirtyCap), ("eff_cap", dec t1.effCap)]))

/-! ### meter -/

/-- Names of the meters, in the order of Table HTG-1 (R1025). -/
def meterNames : List String := ["rd", "wr", "cmds", "busy", "energy", "prog", "cache", "twin"]

/-- The values of a Pocket's open minute, exported with the present carries (R921, R1025). -/
def OpenMin.values (o : OpenMin) : List Nat :=
  let tot := o.totals
  (tot.set 4 (exportScaled (tot.getD 4 0) 1 1000 o.carryE).1).set 6 (exportScaled (tot.getD 6 0) 4096 600000 o.carryC).1

/-- METER_SHOW (R1025). A Pocket that is FREE has no open minute. -/
def execMeterShow (ln : Ln) (pocket : Nat) (us : Nat) (s : State) : Host.Outcome State Fault Refusal :=
  s.cmd (Say.meterShow pocket us) ln us (reading rolesOHM []) (fun t =>
    if 255 < pocket then (t, .fail .badArg)
    else if !t.metered pocket then (t, .fail .wrongState)
    else
      let o := t.htg.minute pocket
      (t, .ok [] ([("pocket", pocketId pocket), ("gen", dec (t.genOf pocket)), ("minute", dec (t.get HTG_MINUTE.MINUTE)),
        ("samples", dec o.samples)] ++ meterNames.zip (o.values.map dec))))

/-- Names of a bucket's states (R928, R1026). -/
def bucketState (n : Nat) : String := ["empty", "closed", "sent", "collected"].getD n "closed"

/-- The three data lines of a bucket (R1026, Table HTG-2). -/
def bucketLines (index : Nat) (b : Bucket) : List (List KV) :=
  let f (off n : Nat) : Nat := le b.bytes off n
  [[("pocket", pocketId (f 1 1)), ("index", dec index), ("state", bucketState b.state), ("minute", dec (f 4 4)), ("span", dec (f 8 2)),
    ("gen", dec (f 12 4)), ("flags", hex0x 2 (f 3 1)), ("damaged", dec (f 10 1)), ("samples", dec (f 104 4))],
   meterNames.zip ((List.range 8).map (fun k => dec (f (24 + 8 * k) 8))),
   [("spill", String.intercalate "," ((List.range 8).map (fun k => dec (f (88 + 2 * k) 2)))), ("crc", hex0x 8 (f 124 4))]]

/-- METER_READ (R1026): newest first. -/
def execMeterRead (ln : Ln) (pocket : Nat) (index : Option Nat) (us : Nat) (s : State) : Host.Outcome State Fault Refusal :=
  s.cmd (Say.meterRead pocket index us) ln us (reading rolesOHM []) (fun t =>
    let ring := (t.htg.rings.lookup pocket).getD []
    let rows := ((List.range ring.length).zip ring).filter (fun x => match index with | some i => x.1 == i | none => true)
    if 255 < pocket ∨ (match index with | some i => decide (15 < i) | none => false) = true then (t, .fail .badArg)
    else (t, .ok ((rows.map (fun x => bucketLines x.1 x.2)).flatten) [("n", dec rows.length)]))

/-- METER_ACK (R928, R933, R1027). -/
def execMeterAck (ln : Ln) (pocket gen minute : Nat) (us : Nat) (s : State) : Host.Outcome State Fault Refusal :=
  s.cmd (Say.meterAck pocket gen minute us) ln us (changing [.operator, .host] []) (fun t =>
    if 255 < pocket then (t, .fail .badArg)
    else if t.joined then (t, .fail .wrongState)
    else
      let hit (b : Bucket) : Bool := le b.bytes 1 1 == pocket && le b.bytes 12 4 == gen && le b.bytes 4 4 == minute && b.state != 3
      let any := ((t.htg.rings.lookup pocket).getD []).any hit
      let mark (b : Bucket) : Bucket := if hit b then { b with state := 3 } else b
      let rings := t.htg.rings.map (fun r => (r.1, r.2.map mark))
      ({ t with htg := { t.htg with rings := rings } }, .ok [] [("collected", if any then "1" else "0")]))

/-- METER_CFG (R911, R1028). -/
def execMeterCfg (ln : Ln) (k base : Option Nat) (us : Nat) (s : State) : Host.Outcome State Fault Refusal :=
  s.cmd (Say.meterCfg k base us) ln us (changing [.operator] []) (fun t =>
    if !within k 0 65535 || !within base 0 (2 ^ 32 - 1) then (t, .fail .badArg)
    else
      let t1 := (t.keepIf HTG_CFG.K k).keepIf HTG_BASE.BASE base
      (t1, .ok [] [("k", dec (t1.get HTG_CFG.K)), ("base", dec (t1.get HTG_BASE.BASE))]))

/-! ### link -/

/-- Names of the lease modes (Table SLVF-9); 3 acts as 2. -/
def leaseName (n : Nat) : String := ["auto", "fixed", "plain", "plain"].getD n "plain"

/-- LINK_SHOW (R1029). -/
def execLinkShow (ln : Ln) (us : Nat) (s : State) : Host.Outcome State Fault Refusal :=
  s.cmd (Say.linkShow us) ln us (reading rolesOHM []) (fun t =>
    let st := t.get SLV_STAT.STATE
    let force : List KV :=
      [("lanes", dec t.laneCount), ("rate", rateText (t.get SLV_STAT.RATE)), ("gusset", onOff (t.flag SLV_STAT.GUSSET)),
       ("split", onOff (t.flag SLV_STAT.SPLIT)), ("max_frame", dec (t.get SLV_FORCE1.MAX_FRAME)),
       ("turn_frames", dec (t.get SLV_FORCE0.TURN_MAX_FRAMES)), ("turn_us", dec (t.get SLV_FORCE0.TURN_MAX_US)),
       ("idle_us", dec (t.get SLV_FORCE1.IDLE_HOLD_US)), ("lease", leaseName (t.get SLV_LEASE.MODE)), ("m", dec (t.get SLV_STAT.LEASE_M))]
    (t, .ok [] (("state", ["reset", "negotiating", "data", "stopped"].getD st "reset") :: (if 2 ≤ st then force else []))))

/-- LINK_RETRAIN (R247, R292, R1030): the OK goes first. -/
def execLinkRetrain (ln : Ln) (us : Nat) (s : State) : Host.Outcome State Fault Refusal :=
  s.cmd (Say.linkRetrain us) ln us (changing [.operator, .host] [26]) (fun t =>
    if t.linkUp then
      let t1 := t.retrain 2
      ({ t1 with slv := { t1.slv with okFirst := ln.path == .mgt } }, .ok [] [])
    else (t, .fail .wrongState))

/-- LINK_CFG (R314, R1031, R1037): the settings, not the values in force, are answered. -/
def execLinkCfg (ln : Ln) (attrs : LinkAttrs) (us : Nat) (s : State) : Host.Outcome State Fault Refusal :=
  s.cmd (Say.linkCfg attrs us) ln us (changing [.operator, .host] [26]) (fun t =>
    if !within attrs.maxFrame 256 4096 || !within attrs.turnFrames 1 1024 || !within attrs.turnUs 1 1000 || !within attrs.idleUs 10 10000 ||
        !within attrs.lease 0 2 || !within attrs.fixedM 1 7 then (t, .fail .badArg)
    else
      let t1 := ((t.keepIf SLV_CFG.MAX_FRAME attrs.maxFrame).keepIf SLV_TURN.TURN_MAX_FRAMES attrs.turnFrames).keepIf
        SLV_TURN.TURN_MAX_US attrs.turnUs
      let t2 := ((t1.keepIf SLV_IDLE.IDLE_HOLD_US attrs.idleUs).keepIf SLV_LEASE.MODE attrs.lease).keepIf SLV_LEASE.FIXED_M attrs.fixedM
      (t2, .ok [] [("max_frame", dec (t2.get SLV_CFG.MAX_FRAME)), ("turn_frames", dec (t2.get SLV_TURN.TURN_MAX_FRAMES)),
        ("turn_us", dec (t2.get SLV_TURN.TURN_MAX_US)), ("idle_us", dec (t2.get SLV_IDLE.IDLE_HOLD_US)),
        ("lease", leaseName (t2.get SLV_LEASE.MODE)), ("fixed_m", dec (t2.get SLV_LEASE.FIXED_M))]))

end Sys2Proof.Machine
end

