-- ==== Sys2Proof/Machine/MediaLines.lean ====
section
/-!
DEFINITION. Sys2Proof/Machine/MediaLines.lean: the commands `lining`, `flash`, `dram` and `ecc` (chapter 20).
-/
namespace Sys2Proof.Machine
open Sys2Proof

/-- A value of a setting is a multiple of a number, where it is given. -/
def multipleOf (v : Option Nat) (k : Nat) : Bool := match v with | some n => n % k == 0 | none => true

/-! ### lining -/

/-- Names of the charge states (Table LIN-4) in lower case. -/
def linName (n : Nat) : String := ["off", "soft", "cc", "cv", "float", "probe", "boost", "fault"].getD n "off"

/-- LINING_SHOW (R1054). -/
def execLiningShow (ln : Ln) (us : Nat) (s : State) : Host.Outcome State Fault Refusal :=
  s.cmd (Say.liningShow us) ln us (reading rolesOHM []) (fun t => (t, .ok []
    [("state", linName (t.get LIN_STAT.STATE)), ("voc_mv", dec (t.get LIN_VI.VOC_MV)), ("i_ma", decInt (unsigned16 (t.get LIN_VI.I_MA))),
     ("t_dc", decInt t.bankT), ("cap_10mf", dec (t.get LIN_CAP.EST_10MF)), ("use_10mf", dec (t.get LIN_CAP.USE_10MF)),
     ("esr", dec (t.get LIN_ESR.EST)), ("budget_mib", dec (t.get CCH_BUDGET.MIB)), ("raw_mib", dec (t.get LIN_BUDGET.RAW_MIB)),
     ("eb_pj", dec (t.get LIN_EB.PJ)), ("float_s", dec (t.get LIN_ETA.FLOAT_S)), ("cap_s", dec (t.get LIN_ETA.CAP_S)),
     ("faults", hex0x 2 (t.word LIN_FAULT.addr).toNat), ("absent", yesNo (t.flag LIN_STAT.ABSENT))]))

/-- The keys of `lining cfg`, with the values in force. -/
def State.liningKv (s : State) : List KV :=
  [("chg", onOff (s.flag LIN_CFG.CHG_EN)), ("float", dec s.vFloat), ("ilim", dec s.iLim), ("slot_w", dec (s.get LIN_CFG.SLOT_W)),
   ("esr_max", dec (s.get LIN_ESR.MAX)), ("eta", dec (s.get LIN_K.ETA)), ("kder", dec (s.get LIN_K.KDER)),
   ("efix", dec (s.get LIN_K.EFIX)), ("cap", dec (s.get LIN_BUDGET.CAP)), ("floor_w", dec (s.get LIN_EB.FLOOR_W))]

/-- The ranges of Tables LIN-3 and LIN-8 that bind the fields of the descriptor, with their multiples. -/
def descInRange (esrMax float ilim slotW : Option Nat) : Bool :=
  within esrMax 50 5000 && within float 4200 5400 && multipleOf float 10 && within ilim 250 4000 && multipleOf ilim 250 && within slotW 20 150

/-- A field of LIN_CFG takes a named value. -/
def Fld.named (f : Fld) (w : BitVec 32) (v : Option Nat) : BitVec 32 := match v with | some n => f.into w n | none => w

/-- The settings of `lining cfg` (R708, R709, R1053): LIN_CFG is written as a whole, ESR_MAX may not pass the descriptor. -/
def State.configLining (s : State) (a : LiningAttrs) : State :=
  let w0 := LIN_CFG.CHG_EN.named (s.word LIN_CFG.addr) (a.chg.map bit01)
  let w1 := LIN_CFG.FLOAT.named w0 (a.float.map (fun v => v / 10))
  let w2 := LIN_CFG.ILIM.named w1 (a.ilim.map (fun v => v / 250 - 1))
  let w3 := LIN_CFG.SLOT_W.named w2 a.slotW
  let s1 := if a.chg.isSome || a.float.isSome || a.ilim.isSome || a.slotW.isSome then s.writeLinCfg w3 else s
  let s2 := match a.esrMax with | some n => s1.set LIN_ESR.MAX (min s1.lin.desc.esrV n) | none => s1
  ((((s2.keepIf LIN_K.ETA a.eta).keepIf LIN_K.KDER a.kder).keepIf LIN_K.EFIX a.efix).keepIf LIN_BUDGET.CAP a.cap).keepIf LIN_EB.FLOOR_W a.floorW

/-- LINING_CFG (R708, R709, R1053, Table LIN-8). -/
def execLiningCfg (ln : Ln) (attrs : LiningAttrs) (us : Nat) (s : State) : Host.Outcome State Fault Refusal :=
  s.cmd (Say.liningCfg attrs us) ln us (changing [.operator] []) (fun t =>
    let a := attrs
    if !descInRange a.esrMax a.float a.ilim a.slotW || !within a.eta 500 980 || !within a.kder 500 1000 || !within a.efix 10 1000 ||
        !within a.cap 1 16 || !within a.floorW 0 48 then (t, .fail .badArg)
    else
      let t1 := t.configLining a
      (t1, .ok [] t1.liningKv))

/-- LINING_PROBE (R715, R1055). -/
def execLiningProbe (ln : Ln) (us : Nat) (s : State) : Host.Outcome State Fault Refusal :=
  s.cmd (Say.liningProbe us) ln us (changing [.operator] []) (fun t =>
    let st := t.get LIN_STAT.STATE
    if st = 3 ∨ st = 4 then (t.startProbe, .job "lining probe") else (t, .fail .wrongState))

/-- LINING_DRILL (R732, R743, R1056): the drill follows the OK. -/
def execLiningDrill (ln : Ln) (us : Nat) (s : State) : Host.Outcome State Fault Refusal :=
  s.cmdThen (Say.liningDrill us) ln us (changing [.operator] [])
    (fun t => let st := t.get LCS_STATE.STATE; if st = 0 ∨ st = 1 ∨ st = 3 then none else some .lifecycle) State.drill

/-- The descriptor as it now reads, in the units of the command. -/
def LinDesc.kv (d : LinDesc) : List KV :=
  [("nom", dec d.nomV), ("esr_max", dec d.esrV), ("float", dec (10 * d.floatV)), ("ilim", dec (250 * (d.ilimV + 1))),
   ("slot_w", dec d.slotV)]

/-- The descriptor with the first `n` of its fields, in the order of the command's grammar, programmed as named. -/
def LinDesc.program (d : LinDesc) (a : DescAttrs) (n : Nat) : LinDesc :=
  let put (k : Nat) (old new : Option Nat) : Option Nat := if k < n ∧ new.isSome then new else old
  { nom := put 0 d.nom a.nom, esrMax := put 1 d.esrMax a.esrMax, float := put 2 d.float (a.float.map (fun v => v / 10)),
    ilim := put 3 d.ilim (a.ilim.map (fun v => v / 250 - 1)), slotW := put 4 d.slotW a.slotW }

/-- Is a named field programmed already? -/
def LinDesc.taken (d : LinDesc) (a : DescAttrs) : Bool :=
  (d.nom.isSome && a.nom.isSome) || (d.esrMax.isSome && a.esrMax.isSome) || (d.float.isSome && a.float.isSome) ||
  (d.ilim.isSome && a.ilim.isSome) || (d.slotW.isSome && a.slotW.isSome)

/-- LINING_DESC (R707, R708, R1057): `bad` is the place, in the order of the grammar, of the first field whose verification fails; the
fields before it stand. -/
def execLiningDesc (ln : Ln) (attrs : DescAttrs) (bad : Option Nat) (us : Nat) (s : State) : Host.Outcome State Fault Refusal :=
  s.cmd (Say.liningDesc attrs bad us) ln us (changing [.operator] []) (fun t =>
    let a := attrs
    if t.get LCS_STATE.STATE ≠ 1 then (t, .fail .lifecycle)
    else if !within a.nom 1000 6000 || !descInRange a.esrMax a.float a.ilim a.slotW then (t, .fail .badArg)
    else if t.lin.desc.taken a then (t, .fail .wrongState)
    else
      let d := t.lin.desc.program a (bad.getD 5)
      let t1 := t.setLin { t.lin with desc := d }
      match bad with
      | some _ => (t1, .fail .timeout)
      | none => (t1, .ok [] d.kv))

/-! ### flash -/

/-- MOV_FREE.OPEN: OPEN Bolts. -/
def State.openCount (s : State) : Nat := (s.flash.bolts.filter (fun b => b.state == .opened)).length

/-- MOV_ERASE: the highest and the mean erase count of the good LUN blocks. -/
def State.allErases (s : State) : List Nat := (List.range 16).flatMap s.groupErases
def State.eraseMax (s : State) : Nat := s.allErases.foldl max 0
def State.eraseMean (s : State) : Nat := s.allErases.sum / max 1 s.allErases.length

/-- FLASH_SHOW (R1060). -/
def execFlashShow (ln : Ln) (us : Nat) (s : State) : Host.Outcome State Fault Refusal :=
  s.cmd (Say.flashShow us) ln us (reading rolesOHM [44]) (fun t =>
    let quads := ((List.range 16).map (fun q => if t.domIn (1 + q) then 2 ^ q else 0)).sum
    (t, .ok [] [("cap_stitches", dec t.flash.usable), ("free", dec t.freeBolts), ("open", dec t.openCount),
      ("readonly", yesNo (t.flag MOV_STAT.READONLY)), ("gc", ["idle", "background", "urgent"].getD (t.get MOV_STAT.GC) "idle"),
      ("erase_max", dec t.eraseMax), ("erase_mean", dec t.eraseMean), ("op", dec (t.get MOV_CFG.OP_PCT)),
      ("open_host", dec (t.get MOV_CFG.OPEN_HOST)), ("quads", hex0x 4 quads)]))

/-- One chip enable of a channel, from the die table. -/
def State.dieKv (s : State) (ch ce : Nat) : List KV :=
  let luns := s.flash.dies.filter (fun d => d.ch == ch && d.pos / 4 == ce)
  match luns with
  | [] => [("ce", dec ce), ("luns", "0"), ("iface", "0"), ("rate", "15"), ("planes", "0"), ("pages", "0"), ("tmax", "0"), ("state", "absent")]
  | d :: _ => [("ce", dec ce), ("luns", dec luns.length), ("iface", dec d.iface), ("rate", dec d.rate), ("planes", dec d.planes),
      ("pages", dec d.pages), ("tmax", dec d.tmax), ("state", if d.excluded then "excluded" else "usable")]

/-- FLASH_DIE (R1061). -/
def execFlashDie (ln : Ln) (ch us : Nat) (s : State) : Host.Outcome State Fault Refusal :=
  s.cmd (Say.flashDie ch us) ln us (reading rolesOHM []) (fun t =>
    if 63 < ch then (t, .fail .badArg) else (t, .ok ((List.range 4).map (t.dieKv ch)) [("n", "4")]))

/-- FLASH_CFG (R1058, Table FLS-15). -/
def execFlashCfg (ln : Ln) (attrs : MoverAttrs) (us : Nat) (s : State) : Host.Outcome State Fault Refusal :=
  s.cmd (Say.flashCfg attrs us) ln us (changing [.operator] [44]) (fun t =>
    let a := attrs
    if !within a.op 2 50 || !within a.openHost 1 8 || !within a.gcStart 3 64 || !within a.gcUrgent 0 255 || !within a.wlSpread 50 10000 then
      (t, .fail .badArg)
    else
      let t1 := (((t.keepIf MOV_CFG.OP_PCT a.op).keepIf MOV_CFG.OPEN_HOST a.openHost).keepIf MOV_GC.START a.gcStart).keepIf MOV_GC.URGENT
        a.gcUrgent
      let t2 := (t1.keepIf MOV_WL.SPREAD a.wlSpread).gcMode
      (t2, .ok [] [("op", dec (t2.get MOV_CFG.OP_PCT)), ("open_host", dec (t2.get MOV_CFG.OPEN_HOST)),
        ("gc_start", dec (t2.get MOV_GC.START)), ("gc_urgent", dec (t2.get MOV_GC.URGENT)), ("wl_spread", dec (t2.get MOV_WL.SPREAD))]))

/-- FLASH_FORMAT (R469, R1059): `confirm` is the serial the line names; FLASH_FORMAT_DONE ends the job. -/
def execFlashFormat (ln : Ln) (confirm us : Nat) (s : State) : Host.Outcome State Fault Refusal :=
  s.cmd (Say.flashFormat confirm us) ln us (changing [.service] [43, 44]) (fun t =>
    if confirm ≠ t.get SYS_SERIAL.SERIAL then (t, .fail .badArg)
    else if t.pockets.any (fun x => x.1 != 0) || t.isSecondary then (t, .fail .wrongState)
    else ({ t with flash := { t.flash with formatting := true } }, .job "flash format"))

/-! ### dram -/

/-- Channels that a `dram` line names: one, or both. -/
def dramChannels : Option Nat → List Nat
  | some n => [n]
  | none => [0, 1]

/-- The controller and the PHY of a DRAM channel, or those of both (Table PWD-1): what `dram` commands need (R112, R201). -/
def dramUnits : Option Nat → List Nat
  | some 0 => [29, 30]
  | some 1 => [31, 32]
  | _ => [29, 30, 31, 32]

/-- DRAM_SHOW (R555, R1064). -/
def execDramShow (ln : Ln) (us : Nat) (s : State) : Host.Outcome State Fault Refusal :=
  s.cmd (Say.dramShow us) ln us (reading rolesOHM (dramUnits none)) (fun t =>
    let rank (n r : Nat) : String :=
      ["absent", "active", "marked", "copying", "retired", "spare", "target"].getD (t.get (rankFld n r)) "absent"
    let chan (n : Nat) : List KV :=
      [("ch", dec n), ("size_gib", dec (t.get (DRC_STAT.SIZE_GIB n))), ("rate", if t.get (DRC_STAT.RATE n) = 0 then "6400" else "3200"),
       ("train", ["none", "training", "trained", "restored", "failed"].getD (t.get (DRC_STAT.TRAIN n)) "none"),
       ("ranks", String.intercalate "," ((List.range 3).map (rank n)))]
    let carve (c : Carve) : List KV := [("region", c.name), ("base", hex0x 9 c.base), ("size_mib", dec (ceilDiv c.size 1048576))]
    let rows := ([0, 1].filter (fun n => t.get (DRC_CFG.POP n) != 0)).map chan ++ t.dram.carve.map carve
    (t, .ok rows [("n", dec rows.length)]))

/-- A setting of the named channels. -/
def State.keepCh (s : State) (chs : List Nat) (f : Nat → Fld) (v : Option Nat) : State :=
  chs.foldl (fun t n => t.keepIf (f n) v) s

/-- DRAM_CFG (R546, R547, R557, R564, R1062, Table DRC-10). -/
def execDramCfg (ln : Ln) (ch : Option Nat) (attrs : DramAttrs) (us : Nat) (s : State) : Host.Outcome State Fault Refusal :=
  s.cmd (Say.dramCfg ch attrs us) ln us (changing [.operator] (dramUnits ch)) (fun t =>
    let a := attrs
    let rateOk : Bool := match a.rateMax with | some n => n == 6400 || n == 3200 | none => true
    if !within ch 0 1 || !rateOk || !within a.idleNs 20 5000 || !within a.guardNs 500 65535 || !within a.act 256 32768 ||
        !within a.share 10 90 then (t, .fail .badArg)
    else
      let cs := dramChannels ch
      let t1 := (t.keepCh cs DRC_CFG.RATE_MAX (a.rateMax.map (fun n => if n = 3200 then 1 else 0))).keepCh cs DRC_CFG.SPARE_EN (a.spare.map bit01)
      let t2 := (t1.keepCh cs DRC_CFG.QOS (a.deadline.map bit01)).keepCh cs DRC_CFG.PAGE (a.close.map bit01)
      let t3 := ((t2.keepCh cs DRC_PAGE.IDLE_NS a.idleNs).keepCh cs DRC_GUARD.NS a.guardNs).keepCh cs DRC_ACT.THRESH a.act
      let t4 := t3.keepCh cs DRC_SPARE.SHARE a.share
      (t4, .ok [] [("rate_max", if t4.flag (DRC_CFG.RATE_MAX 0) then "3200" else "6400"), ("spare", onOff (t4.flag (DRC_CFG.SPARE_EN 0))),
        ("qos", if t4.flag (DRC_CFG.QOS 0) then "deadline" else "priority"), ("page", if t4.flag (DRC_CFG.PAGE 0) then "close" else "hint"),
        ("idle_ns", dec (t4.get (DRC_PAGE.IDLE_NS 0))), ("guard_ns", dec (t4.get (DRC_GUARD.NS 0))), ("act", dec (t4.get (DRC_ACT.THRESH 0))),
        ("share", dec (t4.get (DRC_SPARE.SHARE 0)))]))

/-- DRAM_PORT (R556, R1062). -/
def execDramPort (ln : Ln) (port : Nat) (ch targetNs prio : Option Nat) (us : Nat) (s : State) : Host.Outcome State Fault Refusal :=
  s.cmd (Say.dramPort port ch targetNs prio us) ln us (changing [.operator] (dramUnits ch)) (fun t =>
    if 7 < port ∨ within ch 0 1 = false ∨ within targetNs 10 65535 = false ∨ within prio 0 7 = false then (t, .fail .badArg)
    else
      let cs := dramChannels ch
      let t1 := (t.keepCh cs (fun n => DRC_PORT.TARGET_NS n port) targetNs).keepCh cs (fun n => DRC_PORT.PRIO n port) prio
      (t1, .ok [] [("port", portName port), ("target_ns", dec (t1.get (DRC_PORT.TARGET_NS 0 port))), ("prio", dec (t1.get (DRC_PORT.PRIO 0 port)))]))

/-- One bits in the lowest `n` places. -/
def onesIn (n x : Nat) : Nat := ((List.range n).filter (fun k => x.testBit k)).length

/-- A hash mask meets R551: its own base bit, no other base bit, at most 6 bits, all within C[34:6]. `base` is the place of its base bit. -/
def maskOk (base x : Nat) : Bool :=
  decide (x < 2 ^ 29) && x.testBit base && [6, 7, 8, 9, 10, 11].all (fun k => k == base || !x.testBit k) && decide (onesIn 29 x ≤ 6)

/-- DRAM_MASKS (R551, R553, R1063): stored, and in force from the next reset on. -/
def execDramMasks (ln : Ln) (cs bg0 bg1 bg2 ba0 ba1 us : Nat) (s : State) : Host.Outcome State Fault Refusal :=
  s.cmd (Say.dramMasks cs bg0 bg1 bg2 ba0 ba1 us) ln us (changing [.operator] (dramUnits none)) (fun t =>
    let ok := maskOk 11 cs && maskOk 6 bg0 && maskOk 7 bg1 && maskOk 8 bg2 && maskOk 9 ba0 && maskOk 10 ba1
    if !ok then (t, .fail .badArg)
    else
      ({ t with dram := { t.dram with masksNext := some [cs, bg0, bg1, bg2, ba0, ba1] } }, .ok []
        [("cs", hex0x 8 cs), ("bg0", hex0x 8 bg0), ("bg1", hex0x 8 bg1), ("bg2", hex0x 8 bg2), ("ba0", hex0x 8 ba0), ("ba1", hex0x 8 ba1),
         ("at", "next_reset")]))

/-! ### ecc -/

/-- The ten settings of `ecc cfg`. -/
def State.eccKv (s : State) : List KV :=
  [("refresh", dec (s.get ECC_CFG.REFRESH_PCT)), ("retry", dec (s.get ECC_CFG.RETRY_STEPS)), ("rb", dec (s.get ECC_CFG.RB_STEPS)),
   ("patrol", onOff (s.flag ECC_CFG.PATROL_EN)), ("scrub", onOff (s.flag ECC_CFG.SCRUB_EN)), ("z", dec (s.get ECC_STR.Z)),
   ("growth", dec (s.get ECC_STR.GROWTH)), ("fixed_t", dec (s.get ECC_STR.FIXED_T)), ("t_init", dec (s.get ECC_STR.T_INIT)),
   ("warn_h", dec (s.get ECC_FPATROL.WARN_H))]

/-- The marked devices of a channel's ranks, rank 0 first, `f` for none. -/
def State.markText (s : State) (n : Nat) : String :=
  String.ofList ((List.range 3).map (fun r =>
    let d := s.get (markFld n r)
    if d = 15 then 'f' else hexDigit d))

/-- ECC_SHOW (R1067). -/
def execEccShow (ln : Ln) (us : Nat) (s : State) : Host.Outcome State Fault Refusal :=
  s.cmd (Say.eccShow us) ln us (reading rolesOHM []) (fun t => (t, .ok []
    (t.eccKv ++ [("armed", yesNo (t.flag ECC_INJ.ARM)), ("selftest", hex0x 1 (t.get ECC_SELFTEST.PASS)),
      ("scrub_lap_s", dec (t.get ECC_DSCRUB.LAP_S)), ("patrol_lap_h", dec (t.get ECC_FPATROL.LAP_H)),
      ("dmark0", t.markText 0), ("dmark1", t.markText 1)])))

/-- ECC_GROUP (R1067). -/
def execEccGroup (ln : Ln) (group us : Nat) (s : State) : Host.Outcome State Fault Refusal :=
  s.cmd (Say.eccGroup group us) ln us (reading rolesOHM []) (fun t =>
    if 15 < group then (t, .fail .badArg)
    else (t, .ok [] [("group", dec group), ("tnext", dec (t.get (ECC_GRBER.TNEXT group))), ("ppb", dec (t.get (ECC_GRBER.PPB group)))]))

/-- TNEXT of every group follows the strength settings (R489, R490). -/
def State.showStrengths (s : State) : State := (List.range 16).foldl (fun t g => t.setTNext g) s

/-- ECC_CFG (R489, R1065, Tables SDP-4 and SDP-5). -/
def execEccCfg (ln : Ln) (attrs : EccAttrs) (us : Nat) (s : State) : Host.Outcome State Fault Refusal :=
  s.cmd (Say.eccCfg attrs us) ln us (changing [.operator] []) (fun t =>
    let a := attrs
    let fixedOk := a.fixedT == some 0 || within a.fixedT 16 160
    if !within a.refresh 50 100 || !within a.retry 0 12 || !within a.rb 0 12 || !within a.z 2 12 || !within a.growth 8 255 || !fixedOk ||
        !within a.tInit 16 160 || !multipleOf a.tInit 8 || !within a.warnH 24 8760 then (t, .fail .badArg)
    else
      let t1 := ((t.keepIf ECC_CFG.REFRESH_PCT a.refresh).keepIf ECC_CFG.RETRY_STEPS a.retry).keepIf ECC_CFG.RB_STEPS a.rb
      let t2 := (t1.keepIf ECC_CFG.PATROL_EN (a.patrol.map bit01)).keepIf ECC_CFG.SCRUB_EN (a.scrub.map bit01)
      let t3 := ((t2.keepIf ECC_STR.Z a.z).keepIf ECC_STR.GROWTH a.growth).keepIf ECC_STR.FIXED_T a.fixedT
      let t4 := ((t3.keepIf ECC_STR.T_INIT a.tInit).keepIf ECC_FPATROL.WARN_H a.warnH).showStrengths
      (t4, .ok [] t4.eccKv))

/-- An injection is armed (R528, R529). -/
def State.armInjection (s : State) (target unit bits : Nat) : State :=
  (((s.set ECC_INJ.TARGET target).set ECC_INJ.UNIT unit).set ECC_INJ.BITS bits).set ECC_INJ.ARM 1

/-- ECC_INJECT (R528, R529, R1066): `target` 0 sram, 1 dram0, 2 dram1, 3 bch. -/
def execEccInject (ln : Ln) (target : Nat) (unit bits : Option Nat) (us : Nat) (s : State) : Host.Outcome State Fault Refusal :=
  s.cmd (Say.eccInject target unit bits us) ln us (changing [.operator] []) (fun t =>
    let top := if target = 3 then 3 else if target = 0 then 50 else 255
    if 3 < target ∨ within unit 0 top = false ∨ within bits 1 255 = false then (t, .fail .badArg)
    else
      let t1 := t.armInjection target (unit.getD 0) (bits.getD 1)
      if t.flag ECC_INJ.ARM then (t, .fail .wrongState)
      else if !t1.injMay then (t, .fail .lifecycle)
      else (t1, .ok [] [("armed", "yes")]))

/-- ECC_INJ_ARM (R528, R529, Table SDP-5): a write of ECC_INJ with ARM 1; one from P1 is ignored, and ARM clears at once where the injection
may not act. -/
def execEccInjArm (target unit bits : Nat) (p1 : Bool) (s : State) : Host.Outcome State Fault Refusal :=
  if p1 then .next s
  else
    let s1 := s.armInjection target unit bits
    .next (if s1.injMay then s1 else s1.set ECC_INJ.ARM 0)

end Sys2Proof.Machine
end

