-- ==== Sys2Proof/Machine/ServiceLines.lean ====
section
/-!
DEFINITION. Sys2Proof/Machine/ServiceLines.lean: the commands `bist` and `life` (chapter 20).
-/
namespace Sys2Proof.Machine
open Sys2Proof

/-! ### bist -/

/-- BIST_RUN (R956 to R961, R1093, R1094): a run whose budget exceeds 1 s is a job. -/
def execBistRun (ln : Ln) (swatch dom us : Nat) (s : State) : Host.Outcome State Fault Refusal :=
  s.cmd (Say.bistRun swatch dom us) ln us (changing [.service] []) (fun t =>
    match t.runRefusal swatch dom, Sys2Proof.Machine.swatch swatch with
    | some st, _ => (t, .fail st)
    | none, none => (t, .fail .badArg)
    | none, some w =>
      let long := decide (1000000 < t.swatchUs w dom)
      (t.beginRun swatch dom (some ln.path) long, if long then .job "bist run" else .wait (.bist swatch)))

/-- Result names in upper case (R1093, R1095). -/
def resultName (n : Nat) : String := ["NONE", "PASS", "FAIL", "TIMEOUT", "ABORTED"].getD n "NONE"

/-- BIST_SHOW (R1095). -/
def execBistShow (ln : Ln) (swatch us : Nat) (s : State) : Host.Outcome State Fault Refusal :=
  s.cmd (Say.bistShow swatch us) ln us (reading rolesOHM []) (fun t =>
    if swatch = 0 ∨ 40 < swatch then (t, .fail .badArg)
    else (t, .ok [] [("swatch", swatchId swatch), ("result", resultName (t.get (BIST_RES.RESULT swatch))),
      ("domain", domainId (t.get (BIST_RES.DOMAIN swatch))), ("runs", dec (t.get (BIST_RES.RUNS swatch))),
      ("fails", dec (t.get (BIST_RES.FAILS swatch)))]))

/-- BIST_LIST (R953, R1095): budgets in µs, those of SW26 and SW27 for each GiB. -/
def execBistList (ln : Ln) (us : Nat) (s : State) : Host.Outcome State Fault Refusal :=
  s.cmd (Say.bistList us) ln us (reading rolesOHM []) (fun t =>
    let row (x : Nat × Swatch) : List KV :=
      [("swatch", swatchId x.1), ("name", x.2.name), ("budget", dec x.2.us), ("field", yesNo x.2.field)]
    (t, .ok (((List.range 40).map (fun k => k + 1)).zip (swatchesA ++ swatchesB) |>.map row) [("n", "40")]))

/-! ### life -/

/-- LIFE_SHOW (R1096). -/
def execLifeShow (ln : Ln) (us : Nat) (s : State) : Host.Outcome State Fault Refusal :=
  s.cmd (Say.lifeShow us) ln us (reading rolesOHM []) (fun t =>
    (t, .ok [] [("state", lifeLower (t.get LCS_STATE.STATE)), ("copies", hex0x 3 (t.get LCS_COPIES.BITS)),
      ("gates", hex0x 3 (t.get LCS_GATE.GATES))]))

/-- LIFE_SET (R944 to R948, R1097): `confirm` is the serial that the line names; the reply follows LIFECYCLE_PROGRAM_DONE. -/
def execLifeSet (ln : Ln) (target confirm us : Nat) (s : State) : Host.Outcome State Fault Refusal :=
  s.cmd (Say.lifeSet target confirm us) ln us (changing [.service] []) (fun t =>
    if confirm ≠ t.get SYS_SERIAL.SERIAL ∨ 4 < target then (t, .fail .badArg)
    else
      match t.lifeRefusal target with
      | some st => (t, .fail st)
      | none => (t.beginLife target false, .wait .life))

end Sys2Proof.Machine
end

