-- ==== Sys2Proof/Machine/ShelfLines.lean ====
section
/-!
DEFINITION. Sys2Proof/Machine/ShelfLines.lean: the commands `twin`, `ring` and `mantle` (chapter 20), the line items of a primary and the
PAIR of a returning secondary (chapter 16: R868, R871, R873, R881).
-/
namespace Sys2Proof.Machine
open Sys2Proof

/-! ### Configuration over the mirror -/

/-- A Pocket's shares, queues, state and twin integrity slot as lines. -/
def State.tellPocket (s : State) (p : Nat) (k : Pocket) : State :=
  let s1 := (s.tell ["pocket", "create", pocketId p] (attrsKv k.attrs)).tell ["cache", "set", pocketId p]
    [("clean_min", dec k.cleanMin), ("clean_max", dec k.cleanMax), ("dirty_min", dec k.dirtyMin), ("dirty_max", dec k.dirtyMax)]
  let qs := s.queues.filter (fun q => q.2.pocket == p && q.2.state == .opened)
  let s2 := qs.foldl (fun t q => t.tell ["queue", "create", queueId q.1]
    (("pocket", pocketId p) :: queueAttrsKv { depth := some q.2.depth, ack := some q.2.ack, baste := some q.2.baste })) s1
  if k.state = .suspended then s2.tell ["pocket", "suspend", pocketId p] [] else s2

/-- The line that names or clears a twin integrity slot. -/
def State.tellInteg (s : State) (p : Nat) (slot : Option Nat) : State :=
  s.tell ["twin", "integ", pocketId p] [("slot", match slot with | some c => keySlotId c | none => "none")]

/-- Every Pocket, queue, share and key goes to the secondary as LINE items (Table SEAM-6); twin integrity slots follow their keys. -/
def State.resendConf (s : State) : State :=
  let ps := s.pockets.filter (fun x => x.1 ≠ 0 && x.2.state != .deleting)
  let s1 := ps.foldl (fun t x => t.tellPocket x.1 x.2) s
  let s2 := s.keys.slots.foldl (fun t k => t.tellKey k.1) s1
  ps.foldl (fun t x => if x.2.integSlot.isSome then t.tellInteg x.1 x.2.integSlot else t) s2

/-- Darning begins with item `next`; every region is marked unless `keep` (R881). -/
def State.beginDarning (s : State) (next : Nat) (keep : Bool) : State :=
  let s0 := if keep then s else s.markAll
  let tw : Twin := { s0.twin with
    txNext := next, sentTo := next, confirmed := next, unconf := [], missed := [], copies := [], inCopy := [], darn := [],
    refused := none, darnStart := s.clk, darnRegions := 0, recopied := 0 }
  (({ s0 with twin := tw }).showTwin 1).resendConf

/-- TWIN_PAIR_ITEM (R878, R881, R902): in LOST, or still SERVING after a takeover, a PAIR of the partner starts darning. -/
def execTwinPairItem (durable : Nat) (clean served fresh : Bool) (us : Nat) (s : State) : Host.Outcome State Fault Refusal :=
  let s0 := s.at us
  if s0.twinState ≠ 3 ∧ s0.twinState ≠ 7 then .next s0
  else
    let keep := clean && !served && !fresh && decide (s0.twin.confirmed ≤ durable + 1)
    .next (s0.beginDarning (if fresh then 0 else durable + 1) keep)

/-! ### Twin integrity slots -/

/-- `twin integ` (R886, R1083). -/
def State.setInteg (s : State) (p : Nat) (slot : Option Nat) : State × Result :=
  match s.pockets.lookup p with
  | none => (s, if 255 < p then .fail .badArg else .fail .wrongState)
  | some k =>
    let ok : Bool := match slot with
      | none => true
      | some c => decide (c < 512) && (s.slot c).state == .loaded && (s.slot c).owner == p && gmacKinds.contains (s.slot c).kind
    if k.state = .deleting then (s, .fail .wrongState)
    else if !ok then (s, .fail .keyEmpty)
    else ((s.setPocket p { k with integSlot := slot }).tellInteg p slot,
      .ok [] [("pocket", pocketId p), ("slot", match slot with | some c => keySlotId c | none => "none")])

/-! ### Line items on the secondary -/

/-- What a line item asks for, under the rules of the command it carries (R873): a Pocket or queue that is there already takes the
attributes of its `create`. -/
def State.doLine (s : State) : TwinCmd → State × Result
  | .pocketCreate p a => if (s.pockets.lookup p).isSome then s.alterPocket p a else s.createPocket p a
  | .pocketSet p a => s.alterPocket p a
  | .pocketSuspend p =>
    match s.pockets.lookup p with
    | some k => if k.state = .suspended then (s, .ok [] []) else s.turnPocket p .active .suspended "suspend"
    | none => (s, .fail .wrongState)
  | .pocketResume p => s.turnPocket p .suspended .active "resume"
  | .pocketDelete p => s.deletePocket p
  | .queueCreate q p a => if (s.queues.lookup q).isSome then s.alterQueue q a else s.createQueue q p a
  | .queueSet q a => s.alterQueue q a
  | .queueDelete q => s.deleteQueue q
  | .cacheSet p a => s.setShare p a
  | .cacheCfg a => s.configCache a
  | .blobAdd h => ({ s with twin := { s.twin with blob := s.twin.blob ++ h } }, .ok [] [])
  | .keyLoad c kind w o => ({ s with twin := { s.twin with blob := [] } }).loadWrapped s.twin.blob c kind w o
  | .keyErase c => s.eraseKey c
  | .integ p c => s.setInteg p c
  | .darned => ((if s.twinState = 4 then s.showTwin 5 else s), .ok [] [])
  | .unpair => (s, .ok [] [])
  | .swap => (s, .ok [] [])
  | .bad => (s, .fail .badArg)

/-- The secondary that a swap makes primary, in MIRROR; TSEQ numbering goes on (R1081). -/
def State.swapIn (s : State) : State :=
  match s.twin.pairing with
  | none => s
  | some g =>
    let n := s.twin.rxNext
    let tw : Twin := { s.twin with
      pairing := some { g with primary := true }, txNext := n, sentTo := n, confirmed := n, unconf := [], darn := [], refused := none,
      half := none, through := [], blob := [], holdUntil := 0, served := false }
    (({ s with twin := tw }).showTwin 2).confRecord.notify "twin swapped" [("primary", slotId s.ownSlot)]

/-- What follows the confirmation of a line item that ends the twinset or swaps its roles. -/
def State.lineAfter (s : State) : TwinCmd → State
  | .unpair => s.leaveTwin
  | .swap => s.swapIn
  | _ => s

/-- TWIN_LINE (R42, R871, R873, R875, R876, R1080, R1081): a line item is executed under the configuration lock; while a line of this card
holds the lock the item is discarded, and comes again (R876). -/
def execTwinLine (tseq : Nat) (cmd : TwinCmd) (us : Nat) (s : State) : Host.Outcome State Fault Refusal :=
  let s0 := s.at us
  if !s0.takesItem tseq then .next s0
  else
    let s1 := s0.pairAnswered
    if s1.locked then .next s1
    else
      match (s1.itemHeard 0).doLine cmd with
      | (s2, .ok _ _) => .next (s2.confRecord.itemApplied.lineAfter cmd)
      | (s2, .wait w) =>
        .next { s2 with twin := { s2.twin with rxNext := tseq + 1, fresh := false, lineAwait := some (tseq, w) } }
      | (s2, _) => .next (s2.itemRefused tseq)

/-! ### twin -/

/-- Names of a twinset's states, in lower case (Table SEAM-6, R1084). -/
def twinName (n : Nat) : String := ["solo", "darning", "mirror", "lost", "shadow", "standby", "wait", "serving"].getD n "solo"

/-- SEAM_TSEQ: the next TSEQ to send, or the one expected (Table SEAM-9). -/
def State.tseqShown (s : State) : Nat :=
  match s.twin.pairing with | some g => if g.primary then s.twin.txNext else s.twin.rxNext | none => 0

/-- SEAM_TCONF: the last TSEQ confirmed (Table SEAM-9); 0 before the first. -/
def State.tconfShown (s : State) : Nat :=
  match s.twin.pairing with | some g => (if g.primary then s.twin.confirmed else s.secondaryConf) - 1 | none => 0

/-- SEAM_DARN.REMAIN: regions marked or in copy (Table SEAM-9). -/
def State.darnRemain (s : State) : Nat := s.twin.marked.length + s.twin.inCopy.length

/-- TWIN_SHOW (R1084). -/
def execTwinShow (ln : Ln) (us : Nat) (s : State) : Host.Outcome State Fault Refusal :=
  s.cmd (Say.twinShow us) ln us (reading rolesOHM []) (fun t =>
    let role := match t.twin.pairing with | some g => if g.primary then "primary" else "secondary" | none => "none"
    let paired : List KV := match t.twin.pairing with
      | some g => [("partner", slotId g.slot), ("key", keySlotId (512 + g.wk)), ("tseq", dec t.tseqShown), ("tconf", dec t.tconfShown),
          ("darn_remain", dec t.darnRemain)]
      | none => []
    let pending : List KV := match t.twin.offer with
      | some (g, at_) => [("pending", slotId g.slot), ("ttl", dec ((at_ + 60000000 - us) / 1000000))]
      | none => []
    (t, .ok [] ([("role", role), ("state", twinName t.twinState)] ++ paired ++ pending)))

/-- The material of a twin key's slot, when it holds one (R868). -/
def State.twinKey (s : State) (wk : Nat) : Option Bytes :=
  let k := s.slot (512 + wk)
  if k.state = .loaded ∧ k.kind = 16 then some k.material else none

/-- The checks of R868 that a card decides alone (R1075). -/
def State.pairRefusal (s : State) (slot wk : Nat) (primary : Bool) : Option Status :=
  if 23 < slot ∨ 62 < wk then some .badArg
  else if s.twin.pairing.isSome || slot == s.ownSlot || !s.joined || !s.inRoster slot then some .wrongState
  else if s.limp || s.flag SEAM_STAT.DUPSLOT then some .wrongState
  else if !primary && s.pockets.any (fun p => p.1 ≠ 0) then some .wrongState
  else if (s.twinKey wk).isNone then some .keyEmpty
  else none

/-- The would-be secondary sends its offer (R1076). -/
def State.sendOffer (s : State) : State :=
  match s.twin.offer with
  | none => s
  | some (g, _) =>
    match s.twinKey g.wk with
    | none => s
    | some m =>
      if g.primary then s
      else
        let text := "twin offer" ++ kvText [("role", "secondary"), ("key", keySlotId (512 + g.wk)), ("kcv", kcvText 16 m),
          ("cap", dec s.flash.usable), ("serial", hexPlain 8 (s.get SYS_SERIAL.SERIAL))]
        let req := (s.seam.rseq.lookup 2).getD 0
        let s1 := { s with twin := { s.twin with offerReq := some req } }
        s1.ringSend 2 1 g.slot [] ((withCheck true text).toList.map (fun c => BitVec.ofNat 8 c.toNat))

/-- TWIN_PAIR (R868, R1075, R1076): `second` when the partner already holds the matching pending pairing, so that this command completes
it and is answered by R1079. -/
def execTwinPair (ln : Ln) (slot : Nat) (primary : Bool) (wk : Nat) (second : Bool) (us : Nat) (s : State) : Host.Outcome State Fault Refusal :=
  s.cmd (Say.twinPair slot primary wk second us) ln us (changing [.operator, .mantle] []) (fun t =>
    match t.pairRefusal slot wk primary with
    | some st => (t, .fail st)
    | none =>
      let g : Pairing := { slot := slot, serial := 0, wk := wk, primary := primary }
      let t1 := { t with twin := { t.twin with offer := some (g, us), offerFirst := !second, offerReq := none } }
      (t1.sendOffer, if second then .wait .pairing else .ok [] [("state", "pending"), ("ttl", "60")]))

/-- TWIN_OFFER_SEND (R1076): every 250 ms. -/
def execTwinOfferSend (us : Nat) (s : State) : Host.Outcome State Fault Refusal := .next (s.at us).sendOffer

/-- The would-be primary judges an offer (R868, R1077). -/
def State.judgeOffer (s : State) (g : Pairing) (wk kcvNum cap : Nat) : Option Status :=
  if !g.primary || g.wk != wk then some .wrongState
  else match s.twinKey wk with
    | none => some .keyEmpty
    | some m =>
      if beNat (kcv 16 m) ≠ kcvNum then some .unwrapFail
      else if cap < s.flash.usable then some .quota
      else none

/-- The pairing completes on the primary: it sends its first items (R868, R1079, Table SEAM-6). -/
def State.pairedPrimary (s : State) (g : Pairing) (serial : Nat) : State :=
  let tw : Twin := { s.twin with pairing := some { g with serial := serial }, offer := none, offerReq := none, served := false }
  let s1 := (({ s with twin := tw }).beginDarning 0 false).confRecord
  if s1.twin.offerFirst then s1.notify "twin paired" [("slot", slotId g.slot), ("role", "primary")] else s1.pairAnswered

/-- TWIN_OFFER (R868, R895, R1077 to R1079): accepted on the Seam session of the slot that the own pending pairing names. The lock that
the card's own `twin pair` holds while it waits for this offer does not stop it. -/
def execTwinOffer (ln : Ln) (wk kcvNum cap serial us : Nat) (s : State) : Host.Outcome State Fault Refusal :=
  let named := match s.twin.offer, ln.path with
    | some (g, _), .seam n => if g.slot = n then some g else none
    | _, _ => none
  match named with
  | none => s.cmd (Say.twinOffer wk kcvNum cap serial us) ln us { changing := true, roles := [], needs := [] } (fun t => (t, .fail .role))
  | some g =>
    let roles : List Role := [.operator, .host, .mantle, .service, .none]
    s.cmd (Say.twinOffer wk kcvNum cap serial us) ln us { changing := (s.awaiting .pairing).isNone, roles := roles, needs := [] } (fun t =>
      match t.judgeOffer g wk kcvNum cap with
      | some st => (t.pairRefused g st, .fail st)
      | none => (t.pairedPrimary g serial, .ok [] []))

/-- TWIN_PAIR_LAPSE (R1079): 60 s. -/
def execTwinPairLapse (us : Nat) (s : State) : Host.Outcome State Fault Refusal :=
  let s0 := s.at us
  match s0.twin.offer with
  | some (_, at_) => if at_ + 60000000 ≤ us then .next s0.lapsePair else .next s0
  | none => .next s0

/-- The card is a primary: PAIRED with that role. -/
def State.isPrimary (s : State) : Bool := match s.twin.pairing with | some g => g.primary | none => false

/-- TWIN_UNPAIR (R882, R1080): HOLD, then the line item that ends the twinset; in LOST the answer comes at once. -/
def execTwinUnpair (ln : Ln) (us : Nat) (s : State) : Host.Outcome State Fault Refusal :=
  s.cmd (Say.twinUnpair us) ln us (changing [.operator, .mantle] []) (fun t =>
    if !t.isPrimary then (t, .fail .wrongState)
    else if t.mirrors then
      let t1 := t.sendHold 1000
      let t2 := { t1 with twin := { t1.twin with unpairSeq := some t1.twin.txNext } }
      (t2.mirrorLine "twin unpair", .wait .unpair)
    else (t.leaveTwin.settle, .ok [] [("state", "solo")]))

/-- TWIN_SWAP (R1081): HOLD, then dispatch stops; the rest follows as commands complete and items are confirmed. -/
def execTwinSwap (ln : Ln) (us : Nat) (s : State) : Host.Outcome State Fault Refusal :=
  s.cmd (Say.twinSwap us) ln us (changing [.operator, .mantle] []) (fun t =>
    if !t.isPrimary || !t.mirroring then (t, .fail .wrongState)
    else
      let t1 := t.sendHold 1000
      (({ t1 with twin := { t1.twin with swapUs := some us, swapSeq := none } }).swapGo, .wait .swap))

/-- TWIN_SWAP_TIMEOUT (R1081, R1111): the items are not all confirmed 1 s after the command, or the mirror is gone. -/
def execTwinSwapTimeout (us : Nat) (s : State) : Host.Outcome State Fault Refusal :=
  let s0 := s.at us
  match s0.twin.swapUs with
  | none => .next s0
  | some t0 =>
    if us < t0 + 1000000 ∨ (s0.twin.swapSeq.isSome = true ∧ s0.mirroring = true) then .next s0
    else
      let s1 := { s0 with twin := { s0.twin with swapUs := none, swapSeq := none } }
      .next (s1.finishFor .swap (fun t => .er t .timeout))

/-- TWIN_TAKEOVER (R879, R880, R882, R1082): in WAIT entered from STANDBY, the primary silent for 30 ms and no HOLD in force. -/
def execTwinTakeover (ln : Ln) (us : Nat) (s : State) : Host.Outcome State Fault Refusal :=
  s.cmd (Say.twinTakeover us) ln us (changing [.operator, .mantle] []) (fun t =>
    if t.twinState = 6 ∧ t.twin.fromStandby = true ∧ t.primarySilent us = true ∧ t.twin.holdUntil ≤ us then
      (t.takeover, .ok [] [("role", "primary")])
    else (t, .fail .wrongState))

/-- TWIN_INTEG (R886, R1083). -/
def execTwinInteg (ln : Ln) (pocket : Nat) (slot : Option Nat) (us : Nat) (s : State) : Host.Outcome State Fault Refusal :=
  s.confCmd (Say.twinInteg pocket slot us) ln us (changing [.operator, .mantle] []) (fun t => t.setInteg pocket slot)

/-! ### ring -/

/-- A slot in a reply; 0xFF is none. -/
def slotOrNone (n : Nat) : String := if n = 0xFF then "none" else slotId n

/-- A port's keys in `ring show` (R1085). -/
def State.portKv (s : State) (p : Nat) (name : String) : List KV :=
  [(name, ["off", "monitor", "negotiating", "up"].getD (s.get (portFld SEAM_PORTE.STATE p)) "off"),
   (name ++ "_rate", ["2.5", "5.0", "10.0"].getD (s.get (portFld SEAM_PORTE.RATE p)) "2.5"),
   (name ++ "_lanes", if s.flag (portFld SEAM_PORTE.LANES2 p) then "2" else "1"),
   (name ++ "_partner", slotOrNone (s.get (portFld SEAM_PORTE.PARTNER p)))]

/-- RING_SHOW (R1085). -/
def execRingShow (ln : Ln) (us : Nat) (s : State) : Host.Outcome State Fault Refusal :=
  s.cmd (Say.ringShow us) ln us (reading rolesOHM []) (fun t => (t, .ok []
    ([("ring", ["out", "monitoring", "joined"].getD (t.get SEAM_STAT.RING) "out"), ("members", dec (t.get SEAM_STAT.MEMBERS)),
      ("roster", hex0x 6 (t.get SEAM_ROSTER.MASK)), ("mantle", slotOrNone (t.get SEAM_STAT.MANTLE)),
      ("standby", slotOrNone (t.get SEAM_STAT.STANDBY))] ++ t.portKv 0 "east" ++ t.portKv 1 "west")))

/-- RING_RETRAIN (R857, R1086): the OK goes first. -/
def execRingRetrain (ln : Ln) (east west : Bool) (us : Nat) (s : State) : Host.Outcome State Fault Refusal :=
  s.cmdThen (Say.ringRetrain east west us) ln us (changing [.operator, .mantle] [])
    (fun t =>
      let came : Option Nat := match ln.path with | .seam n => t.seam.linePort.lookup n | _ => none
      if !t.joined || (east && came == some 0) || (west && came == some 1) then some .wrongState else none)
    (fun t => let t1 := if east then t.negotiateHop 0 else t; if west then t1.negotiateHop 1 else t1)

/-- RING_CFG (R845, R854, R864, R1087): `rate` is a rate code, `lanes` 1 or 2. -/
def execRingCfg (ln : Ln) (join : Option Bool) (force : Bool) (rate lanes share : Option Nat) (us : Nat) (s : State) :
    Host.Outcome State Fault Refusal :=
  s.cmd (Say.ringCfg join force rate lanes share us) ln us (changing [.operator, .mantle] []) (fun t =>
    let onSeam : Bool := match ln.path with | .seam _ => true | _ => false
    let st := t.get SEAM_MANTLE.STATE
    let bound := t.twin.pairing.isSome || st == 4 || st == 2
    if !within rate 0 2 || !within lanes 1 2 || !within share 10 90 then (t, .fail .badArg)
    else if join = some false ∧ (onSeam = true ∨ (force = false ∧ bound = true)) then (t, .fail .wrongState)
    else
      let t1 := ((t.keepIf SEAM_CFG.RATE_MAX rate).keepIf SEAM_CFG.ONE_LANE (lanes.map (fun n => 2 - n))).keepIf SEAM_CFG.DARN_SHARE share
      let t2 := t1.keepIf SEAM_CFG.JOIN (join.map bit01)
      let t3 := t2.seamCheck
      let t4 := if join = some false ∧ t.get SEAM_STAT.RING ≠ 0 then t3.notify "ring left" [("reason", "cmd")] else t3
      (t4, .ok [] [("join", onOff (t4.flag SEAM_CFG.JOIN)), ("rate_max", ["2.5", "5.0", "10.0"].getD (t4.get SEAM_CFG.RATE_MAX) "10.0"),
        ("lanes", if t4.flag SEAM_CFG.ONE_LANE then "1" else "2"), ("darn_share", dec (t4.get SEAM_CFG.DARN_SHARE))]))

/-! ### mantle -/

/-- MANTLE_SHOW (R1088): the shelf store's size in MiB, rounded up. -/
def execMantleShow (ln : Ln) (us : Nat) (s : State) : Host.Outcome State Fault Refusal :=
  s.cmd (Say.mantleShow us) ln us (reading rolesOHM []) (fun t =>
    let st := t.get SEAM_MANTLE.STATE
    let store : List KV := if st = 4 ∨ st = 2 then [("store_mib", dec (ceilDiv (128 * t.htg.store.length) 1048576))] else []
    (t, .ok [] ([("state", ["none", "member", "standby", "electing", "active"].getD st "none"),
      ("mantle", slotOrNone (t.get SEAM_STAT.MANTLE)), ("standby", slotOrNone (t.get SEAM_STAT.STANDBY)),
      ("minute", dec (t.get SEAM_MINUTE.MINUTE)), ("grid", dec t.gridNow)] ++ store)))

/-- MANTLE_RELAY (R895, R897, R1089, R1090, R1110): the line goes to the member with its checksum. -/
def execMantleRelay (ln : Ln) (slot : Nat) (text : String) (us : Nat) (s : State) : Host.Outcome State Fault Refusal :=
  s.cmd (Say.mantleRelay slot text us) ln us (reading [.operator, .host] []) (fun t =>
    let cs := text.toList.map Char.toNat
    if t.get SEAM_MANTLE.STATE ≠ 4 then (t, .fail .wrongState)
    else if slot = t.ownSlot ∨ (t.get SEAM_ROSTER.MASK).testBit slot = false then (t, .fail .badArg)
    else if cs = [] ∨ 62 < cs.length ∨ malformedPayload cs = true then (t, .fail .badArg)
    else
      let req := (t.seam.rseq.lookup 2).getD 0
      let r : Relay := { slot := slot, req := req, us := us, lines := [] }
      let t1 := { t with seam := { t.seam with relay := t.seam.relay ++ [r] } }
      (t1.ringSend 2 1 slot [] ((withCheck true text).toList.map (fun c => BitVec.ofNat 8 c.toNat)), .wait (.relay req)))

/-- MANTLE_RELAY_TIMEOUT (R1090, R1109): 1.2 s after the line was sent; later reply lines are dropped. -/
def execMantleRelayTimeout (us : Nat) (s : State) : Host.Outcome State Fault Refusal :=
  let s0 := s.at us
  let late (r : Relay) : Bool := decide (r.us + 1200000 ≤ us)
  let s1 := { s0 with seam := { s0.seam with relay := s0.seam.relay.filter (fun r => !late r) } }
  .next ((s0.seam.relay.filter late).foldl (fun t r => t.finishFor (.relay r.req) (fun g => .er g .timeout)) s1)

/-- Stored buckets with the newest minute first. -/
def byMinute (x : Bytes) : List Bytes → List Bytes
  | [] => [x]
  | y :: r => if le y 4 4 ≤ le x 4 4 then x :: y :: r else y :: byMinute x r

/-- MANTLE_READ (R932, R1026, R1092). -/
def execMantleRead (ln : Ln) (slot pocket : Nat) (minute : Option Nat) (us : Nat) (s : State) : Host.Outcome State Fault Refusal :=
  s.cmd (Say.mantleRead slot pocket minute us) ln us (reading rolesOHM []) (fun t =>
    let st := t.get SEAM_MANTLE.STATE
    if st ≠ 4 ∧ st ≠ 2 then (t, .fail .wrongState)
    else if 23 < slot ∨ 255 < pocket then (t, .fail .badArg)
    else
      let hit := (t.htg.store.filter (fun x => x.1 == slot && le x.2 1 1 == pocket)).map (·.2)
      let sorted := hit.foldr byMinute []
      let rows := ((List.range sorted.length).zip sorted).filter (fun x => match minute with | some m => le x.2 4 4 == m | none => true)
      let named (kv : KV) : KV := if kv.1 = "state" then ("slot", slotId slot) else kv
      let lines (x : Nat × Bytes) : List (List KV) :=
        (bucketLines x.1 { bytes := x.2, state := 1, sentUs := 0 }).map (fun (l : List KV) => l.map named)
      (t, .ok ((rows.map lines).flatten) [("n", dec rows.length)]))

end Sys2Proof.Machine
end

