-- ==== Sys2Proof/Machine/RegLines.lean ====
section
/-!
DEFINITION. Sys2Proof/Machine/RegLines.lean: loads and stores of registers by the Tailor cores, and the commands `peek` and `poke`
(chapter 00, R20 to R29; chapter 20, R1098 to R1101; chapter 21).
-/
namespace Sys2Proof.Machine
open Sys2Proof

/-! ### Which copy, which domain -/

/-- The registers of Table MAP-4, of which each core has its own copy (R1124). -/
def banked (a : Nat) : Bool :=
  decide (KEY_SEL.addr ≤ a ∧ a ≤ KEY_LATCH.addr) || decide (KEY_RBCTL.addr ≤ a ∧ a ≤ KEY_RBOUT.addr 3) ||
  a == MAP_IDXSEL.addr || a == MAP_IDXVAL.addr || decide (TAG_FSEL.addr ≤ a ∧ a ≤ TAG_FREC.addr 7) || a == TAG_WADDR.addr ||
  a == TAG_WCTL.addr || decide (HTG_PSEL.addr ≤ a ∧ a ≤ HTG_PGEN.addr) || a == HTG_BSEL.addr ||
  decide (HTG_BUF.addr 0 ≤ a ∧ a ≤ HTG_BUF.addr 31)

/-- Where the word that a core reaches at an address is kept. -/
def keyOf (core a : Nat) : Nat := if banked a then bankKey core a else a

/-- Register space (R1115). -/
def inRegSpace (a : Nat) : Bool := decide (0x40000000 ≤ a) && decide (a ≤ 0x403FFFFF)

/-- The domain of an address is OFF or FENCED (R770). -/
def State.regDark (s : State) (a : Nat) : Bool := s.dom (regDomain a) == 0 || s.dom (regDomain a) == 4

/-! ### Fields that show other state -/

/-- A 64-bit value's words. -/
def lowWord (n : Nat) : Nat := n % 2 ^ 32
def highWord (n : Nat) : Nat := n / 2 ^ 32

/-- Whole minutes since a moment, saturating at 16 bits; 0xFFFF when it never was (Table LIN-8). -/
def State.minutesSince (s : State) : Option Nat → Nat
  | some t => min 0xFFFF ((s.clk - t) / 60000000)
  | none => 0xFFFF

/-- Commanded VCORE of a level in mV: whole steps of 2^N V, rounded up, and the result rounded down (R807, Table PWS-10). 0 before the
regulator has answered. -/
def State.voutMv (s : State) (l : Nat) : Nat :=
  if !s.flag PWR_PMB.OK then 0
  else 1000 * s.vcoreSteps l / 2 ^ (32 - s.get PWR_PMB.EXP)

/-- The DAC code of a threshold in mV at the ball, rounded to the nearest (R826; assumption log entry 189). -/
def dacCode (mv : Nat) : Nat := roundDiv (mv * 1024) 1800

/-- The settings of ACMP0 to ACMP2, THRESH and HYST, which their owners give (R704, R712, R713, R731, R827, Table LIN-6): VIN_TRIP with 20 mV; V_f +
150 mV, or V_MIN once the converter boosts in the ladder; the hot limit of 60 °C on the NTC of Table LIN-2, 413 mV, with 40 mV. The spec gives
ACMP1 no hysteresis (assumption log entry 189). -/
def State.acmpOwn (s : State) (n : Nat) : List (Fld × Nat) :=
  let (mv, h) := match n with
    | 0 => (10 * clamp 96 114 (s.get RMV_CFG.VIN_TRIP), 2)
    | 1 => (if s.get LIN_STAT.STATE = 6 then 600 else (s.vFloat + 150) / 4, 0)
    | _ => (413, 3)
  [(PWR_ACMP.THRESH n, dacCode mv), (PWR_ACMP.HYST n, h)]

/-- Live fields of SYS, PWR, LIN, RMV and SEAM. -/
def State.liveCard (s : State) (a : Nat) : List (Fld × Nat) :=
  if a = SYS_REFCNT_LO.addr then [(SYS_REFCNT_LO.COUNT, lowWord s.refcnt)]
  else if a = SYS_REFCNT_HI.addr then [(SYS_REFCNT_HI.COUNT, highWord s.refcnt)]
  else if PWR_VOUT.addr 0 ≤ a ∧ a ≤ PWR_VOUT.addr 3 then
    let l := (a - PWR_VOUT.addr 0) / 4
    [(PWR_VOUT.MV l, s.voutMv l)]
  else if PWR_ACMP.addr 0 ≤ a ∧ a ≤ PWR_ACMP.addr 2 then s.acmpOwn ((a - PWR_ACMP.addr 0) / 4)
  else if a = LIN_AGE.addr then [(LIN_AGE.CAP_MIN, s.minutesSince s.lin.capUs), (LIN_AGE.ESR_MIN, s.minutesSince s.lin.esrUs)]
  else if a = RMV_TIME.addr then
    [(RMV_TIME.SINCE_MS, if s.get RMV_STAT.PHASE = 0 then 0 else min 0xFFFF ((s.clk - s.lin.trigUs) / 1000))]
  else if a = SEAM_TSEQ_LO.addr then [(SEAM_TSEQ_LO.TSEQ, lowWord s.tseqShown)]
  else if a = SEAM_TSEQ_HI.addr then [(SEAM_TSEQ_HI.TSEQ, highWord s.tseqShown)]
  else if a = SEAM_TCONF_LO.addr then [(SEAM_TCONF_LO.TSEQ, lowWord s.tconfShown)]
  else if a = SEAM_TCONF_HI.addr then [(SEAM_TCONF_HI.TSEQ, highWord s.tconfShown)]
  else if a = SEAM_DARN.addr then [(SEAM_DARN.REMAIN, s.darnRemain)]
  else if a = SEAM_GRID.addr then [(SEAM_GRID.GRID, s.gridNow)]
  else []

/-- The codes of the states of Pockets, queues and key slots (Tables POC-13, POC-17, CIP-10). -/
def PocketState.code : PocketState → Nat
  | .active => 1
  | .suspended => 2
  | .deleting => 3
def QueueState.code : QueueState → Nat
  | .opened => 1
  | .draining => 2
def SlotState.code : SlotState → Nat
  | .empty => 0
  | .loaded => 1
  | .retiring => 2

/-- Live fields of QUE (Tables POC-10 to POC-14). -/
def State.liveQue (s : State) (a : Nat) : List (Fld × Nat) :=
  if a = QUE_STAT.addr then
    [(QUE_STAT.INFLIGHT, s.execs.length), (QUE_STAT.OPEN, (s.queues.filter (fun q => q.2.state == .opened)).length)]
  else if a = QUE_REFUSE.addr then [(QUE_REFUSE.USED, s.refusals.length)]
  else if a < QUE_QCFG.addr 0 then []
  else
    let q := (a - QUE_QCFG.addr 0) / 8
    match s.queues.lookup q with
    | none => []
    | some k =>
      if a % 8 = 0 then
        [(QUE_QCFG.STATE q, k.state.code), (QUE_QCFG.BASTE q, bit01 k.baste), (QUE_QCFG.ACK q, k.ack),
         (QUE_QCFG.DEPTH_LOG2 q, Nat.log2 k.depth), (QUE_QCFG.POCKET q, k.pocket)]
      else [(QUE_QSTAT.TAKEN q, (s.tagsTaken q k).length), (QUE_QSTAT.WAITING q, k.waiting.length)]

/-- Live fields of POC (Table POC-17). -/
def State.livePoc (s : State) (a : Nat) : List (Fld × Nat) :=
  if a < 0x40071000 then []
  else
    let p := (a - 0x40071000) / 0x20
    match s.pockets.lookup p with
    | none => []
    | some k =>
      let used := (s.mapped p).length
      match (a - 0x40071000) % 0x20 with
      | 0x00 => [(POC_PCFG_00.STATE p, k.state.code), (POC_PCFG_00.CLASS p, k.cls.code), (POC_PCFG_00.WEIGHT p, k.weight),
          (POC_PCFG_00.QUEUES p, (s.queues.filter (fun q => q.2.pocket == p)).length)]
      | 0x04 => [(POC_PCFG_04.SIZE_LO p, lowWord k.size)]
      | 0x08 => [(POC_PCFG_08.SIZE_HI p, highWord k.size)]
      | 0x0C => [(POC_PCFG_0C.USED_LO p, lowWord used)]
      | 0x10 => [(POC_PCFG_10.USED_HI p, highWord used)]
      | 0x14 => [(POC_PCFG_14.LIMIT p, k.limit)]
      | 0x18 => [(POC_PCFG_18.INFLIGHT p, s.inFlight p), (POC_PCFG_18.CREDIT p, min 0xFFFF k.credit)]
      | _ => []

/-- Live fields of CCH (Tables BST-3, BST-4). -/
def State.liveCch (s : State) (a : Nat) : List (Fld × Nat) :=
  if a = CCH_INBOUND.addr then [(CCH_INBOUND.USED_MIB, ceilDiv s.inboundData 1048576)]
  else if a = CCH_DIRTY_LO.addr then [(CCH_DIRTY_LO.BYTES, lowWord s.dirtyBytes)]
  else if a = CCH_DIRTY_HI.addr then [(CCH_DIRTY_HI.BYTES, highWord s.dirtyBytes)]
  else if a < 0x40081000 then []
  else
    let p := (a - 0x40081000) / 0x20
    let k := (s.pockets.lookup p).getD Pocket.free
    match (a - 0x40081000) % 0x20 with
    | 0x00 => [(CCH_PSHARE_00.CLEAN_MAX p, k.cleanMax), (CCH_PSHARE_00.CLEAN_MIN p, k.cleanMin)]
    | 0x04 => [(CCH_PSHARE_04.DIRTY_MAX p, k.dirtyMax), (CCH_PSHARE_04.DIRTY_MIN p, k.dirtyMin)]
    | 0x08 => [(CCH_PSHARE_08.CLEAN_BLK p, s.holds p .clean + s.holds p .prefetch)]
    | 0x0C => [(CCH_PSHARE_0C.DIRTY_BLK p, s.holds p .dirty)]
    | 0x10 => [(CCH_PSHARE_10.EMIN_BLK p, s.effMin p / 4096)]
    | 0x14 => [(CCH_PSHARE_14.PF_BLK p, s.holds p .prefetch)]
    | _ => []

/-- Live fields of KEY (Table CIP-10), by the core's own KEY_SEL. -/
def State.liveKey (s : State) (core a : Nat) : List (Fld × Nat) :=
  let code := s.getOn core KEY_SEL.SLOT
  let k := s.slot code
  if a = KEY_STAT.addr then
    [(KEY_STAT.LOADED_DK, (s.keys.slots.filter (fun x => decide (x.1 < 512) && x.2.state != .empty)).length),
     (KEY_STAT.LOADED_WK, (s.keys.slots.filter (fun x => decide (512 ≤ x.1) && x.2.state == .loaded)).length),
     (KEY_STAT.BUSY, bit01 s.keys.update.isSome)]
  else if a = KEY_JSEQ.addr then [(KEY_JSEQ.JSEQ, lowWord s.keys.jseq)]
  else if a = KEY_INFO.addr then
    [(KEY_INFO.STATE, k.state.code), (KEY_INFO.UPDATE_LOST, bit01 k.lost), (KEY_INFO.KIND, k.kind), (KEY_INFO.OWNER, k.owner)]
  else if a = KEY_KCV.addr then [(KEY_KCV.KCV, if k.state = .empty then 0 else beNat (kcv k.kind k.material))]
  else if a = KEY_LATCH.addr then [(KEY_LATCH.COUNT, (s.latchesOf code).length)]
  else []

/-- Live fields of CIP (Table CIP-11). -/
def State.liveCip (s : State) (a : Nat) : List (Fld × Nat) :=
  if a = CIP_STAT.addr then
    let pairs := ((List.range 4).map (fun j => if s.domIn (33 + j) then 3 * 4 ^ j else 0)).sum
    [(CIP_STAT.KV_IN, bit01 (s.domIn 37)), (CIP_STAT.IC_IN, bit01 (s.domIn 38)), (CIP_STAT.CORE_IN, pairs)]
  else if a = CIP_NONCE_LO.addr then [(CIP_NONCE_LO.COUNT, lowWord s.keys.nonce)]
  else if a = CIP_NONCE_HI.addr then [(CIP_NONCE_HI.COUNT, highWord s.keys.nonce)]
  else if a = CIP_NRES_LO.addr then [(CIP_NRES_LO.LIMIT, lowWord s.keys.limit)]
  else if a = CIP_NRES_HI.addr then [(CIP_NRES_HI.LIMIT, highWord s.keys.limit)]
  else if CIP_PUNIT.addr 0 ≤ a ∧ a ≤ CIP_PUNIT.addr 7 then
    let w := (a - CIP_PUNIT.addr 0) / 4
    let ps := (s.pockets.filter (fun x => x.1 / 32 == w && x.2.unit512)).map (fun x => 2 ^ (x.1 % 32))
    [(CIP_PUNIT.UNIT512 w, ps.sum)]
  else []

/-- Live fields of TAG and HTG (Tables ACC-11, HTG-4). -/
def State.liveLog (s : State) (core a : Nat) : List (Fld × Nat) :=
  if TAG_FREC.addr 0 ≤ a ∧ a ≤ TAG_FREC.addr 7 then
    let i := (a - TAG_FREC.addr 0) / 4
    let rec_ := (s.access.log.lookup (s.getOn core TAG_FSEL.INDEX)).getD []
    [(TAG_FREC.DATA i, leNat ((rec_.drop (4 * i)).take 4))]
  else if TAG_STG.addr 0 ≤ a ∧ a ≤ TAG_STG.addr 255 then
    let w := (a - TAG_STG.addr 0) / 4
    [(TAG_STG.COLOUR0 w, s.granuleColour (4 * w)), (TAG_STG.COLOUR1 w, s.granuleColour (4 * w + 1)),
     (TAG_STG.COLOUR2 w, s.granuleColour (4 * w + 2)), (TAG_STG.COLOUR3 w, s.granuleColour (4 * w + 3))]
  else if a = HTG_PENDING.addr then
    let n := (s.htg.rings.map (fun r => (r.2.filter (fun b => b.state == 1 || b.state == 2)).length)).sum
    [(HTG_PENDING.COUNT, n)]
  else []

/-- Live fields of FQ, MAP and MOV (Tables FLS-12, FLS-14, FLS-15). -/
def State.liveFlash (s : State) (core a : Nat) : List (Fld × Nat) :=
  if 0x40200000 ≤ a ∧ a < 0x40300000 then
    let q := (a - 0x40200000) / 0x10000
    if a = FQ_STAT.addr q then [(FQ_STAT.STATE q, s.dom (1 + q))] else []
  else if a = MAP_STAT.addr then [(MAP_STAT.DIRTY, s.dirtySegs), (MAP_STAT.RESIDENT, s.heldSegs)]
  else if a = MAP_CKPT.addr then [(MAP_CKPT.EFF_CAP, s.effCapShown), (MAP_CKPT.AGE_MS, s.ckptAge)]
  else if a = MAP_SEGS.addr then [(MAP_SEGS.TOTAL, s.indexTotal)]
  else if a = MAP_DELTA.addr then [(MAP_DELTA.COUNT, min 0xFFFFFFFF s.deltasSince)]
  else if a = MAP_IDXVAL.addr then [(MAP_IDXVAL.VALUE, s.indexWord (min 786431 (s.getOn core MAP_IDXSEL.ENTRY)))]
  else if a = MOV_FREE.addr then [(MOV_FREE.OPEN, s.openCount), (MOV_FREE.FREE, s.freeBolts)]
  else if a = MOV_ERASE.addr then [(MOV_ERASE.MAX, min 0xFFFF s.eraseMax), (MOV_ERASE.MEAN, min 0xFFFF s.eraseMean)]
  else []

/-- The fields of a register that show other state. -/
def State.live (s : State) (core a : Nat) : List (Fld × Nat) :=
  match a / 0x10000 with
  | 0x4006 => s.liveQue a
  | 0x4007 => s.livePoc a
  | 0x4008 => s.liveCch a
  | 0x4009 => s.liveKey core a
  | 0x400A => s.liveCip a
  | 0x400C => s.liveLog core a
  | 0x400D => s.liveLog core a
  | b => if b < 0x4006 then s.liveCard a else s.liveFlash core a

/-! ### Loads -/

/-- What a load of a core returns (R20, R21): the stored word with its live fields. -/
def State.readWord (s : State) (core a : Nat) : BitVec 32 := (s.live core a).foldl (fun w x => x.1.into w x.2) (s.word (keyOf core a))

/-- A field of a register row at an address. -/
def FSpec.fld (f : FSpec) (a : Nat) : Fld := ⟨a, f.lsb, f.width⟩

/-- The RC fields of a word return to their reset values (R20, R22, R27). -/
def State.readClear (s : State) (core a : Nat) : State :=
  let rcs := (fieldsAt a).filter (fun f => f.acc == .rc)
  if rcs.isEmpty then s
  else
    s.setWord (keyOf core a)
      (rcs.foldl (fun w f => (f.fld a).into w ((f.fld a).of (resetWord a))) (s.word (keyOf core a)))

/-- An access to a register whose domain is OFF or FENCED is counted (R770, R1128). -/
def State.busError (s : State) (a : Nat) : State := (s.count PWR_BUSERR.COUNT 1).set PWR_BUSERR.DOMAIN (regDomain a)

/-- A core's request carries the target domain's epoch as the core knew it (R765). The domain acts on it only where that is its own; D00 has no
epoch (R766, R791). -/
def State.staleFor (s : State) (a epoch : Nat) : Bool :=
  regDomain a != 0 && epoch != s.get (PWR_DSTAT.EPOCH (regDomain a))

/-- A domain answers a stale request with DOMAIN_RESET and does nothing (R766, R791). -/
def State.staleAnswer (s : State) : State := { s with access := { s.access with answer := Status.domainReset.code } }

/-- An access of the shape that register space serves (R1121). -/
def servedShape (addr bytes : Nat) : Bool := bytes == 4 && addr % 4 == 0 && inRegSpace addr

/-- The domain that holds an address outside register space, when the address lies in a TCM, staging SRAM or the DRAM window
(Table MAP-1). A window address has its controller's domain, or its PHY's when only that is dark. -/
def State.areaDomain (s : State) (a : Nat) : Option Nat :=
  if 0x80000000 ≤ a ∧ a < 2 ^ 32 then
    let d := 29 + 2 * (s.chanOf (a - 0x80000000)).1
    some (if s.dom d = 0 ∨ s.dom d = 4 then d else d + 1)
  else sramDomain a

/-- Is an address outside register space in a dark domain (R1119)? -/
def State.areaDark (s : State) (a : Nat) : Option Nat := (s.areaDomain a).filter (fun d => s.dom d == 0 || s.dom d == 4)

/-- What a load has returned. -/
def State.took (s : State) (v : Nat) : State := { s with access := { s.access with readData := v } }

/-- A byte of the cores' SRAM; one that no core has stored reads zero (R509). -/
def cellAt (m : List Host.Cell) (a : Nat) : Byte := (m.lookup a).getD 0

/-- A byte stored; a zero byte is not listed, so that equal memories are equal lists. -/
def putCell : List Host.Cell → Nat → Byte → List Host.Cell
  | [], a, v => if v = 0 then [] else [(a, v)]
  | (b, w) :: r, a, v =>
    if b = a then (if v = 0 then r else (a, v) :: r)
    else if a < b then (if v = 0 then (b, w) :: r else (a, v) :: (b, w) :: r)
    else (b, w) :: putCell r a v

/-- Addresses strictly rising above a bound, and no zero byte. -/
def cellsWfFrom : Nat → List Host.Cell → Bool
  | _, [] => true
  | lo, (a, v) :: r => decide (lo ≤ a) && decide (v ≠ 0) && cellsWfFrom (a + 1) r

/-- The canonical form of the cores' SRAM. -/
def cellsWf (m : List Host.Cell) : Bool := cellsWfFrom 0 m

/-- Bytes stored one after the other. -/
def putCells (m : List Host.Cell) (a : Nat) : Bytes → List Host.Cell
  | [] => m
  | v :: r => putCells (putCell m a v) (a + 1) r

/-- An access of a core carries 0x00; does it pass the colour of its staging granule (R683, R686, Tables ACC-6, BOOT-5)? -/
def State.stagingPasses (s : State) (core : Nat) (p1 : Bool) (a : Nat) : Bool :=
  a / 0x400000 != 0x80 || colourPasses (.tailor core p1) 0 (s.granuleColour (a % 0x400000 / 4096))

/-- The colour fault of a core's access to staging SRAM. -/
def State.stagingFault (s : State) (core : Nat) (p1 : Bool) (a : Nat) (wr : Bool) : State :=
  s.colourFault 0x10 (5 + core) 0 (s.granuleColour (a % 0x400000 / 4096)) a wr false (.tailor core p1)

/-- The tag check of a core's access to the DRAM window (R683 to R687, R693): none where it fails, with what follows. -/
def State.windowCheck (s : State) (core : Nat) (p1 : Bool) (a : Nat) (wr : Bool) : State × Bool :=
  let o := Owner.tailor core p1
  let (n, c) := s.chanOf a
  if s.inTagStore n c then (s.colourFault (5 + core) (5 + core) 0 0 a wr true o, false)
  else
    match s.tagFetch n (s.tagAddr n c) LineErrs.none with
    | (s1, none) => ((s1.accessLost o .poison).settle, false)
    | (s1, some t) =>
      let tag := t.bytes.getD (s.tagAddr n c / 64 % 64) 0
      if colourPasses o 0 tag then (s1, true) else (s1.colourFault (5 + core) (5 + core) 0 tag a wr false o, false)

/-- A core's load of the DRAM window (R567, R579): the line's bytes under those held for it; a poison line returns POISON to the core. -/
def State.windowLoad (s : State) (core : Nat) (p1 : Bool) (a bytes : Nat) : State :=
  let (s1, ok) := s.windowCheck core p1 a false
  let (n, c) := s1.chanOf a
  let held := (s1.drc n).held (c / 64)
  let x := s1.lineOf n (c / 64)
  let own := (List.range bytes).all (fun i => (held.getD (c % 64 + i) none).isSome)
  if !ok then s1
  else if x.poison && !own then (s1.accessLost (.tailor core p1) .poison).settle
  else (if s1.lineKnown n (c / 64) then s1 else s1.useFree).took (leNat (((overlayLine held x.data).drop (c % 64)).take bytes))

/-- A core's store to the DRAM window (R519, R566); one that the channel cannot take yet waits. -/
def State.windowStore (s : State) (core : Nat) (p1 : Bool) (a : Nat) (data : Bytes) : State :=
  let (s1, ok) := s.windowCheck core p1 a true
  let (n, c) := s1.chanOf a
  let bs := fullMask (List.replicate (c % 64) none ++ data.map some)
  if !ok || !s1.writeRoom n (c / 64) bs then s1
  else s1.acceptWrite n (5 + core) (c / 64) (1000 * s.clk) false (.tailor core p1) bs LineErrs.none

/-- What Table BOOT-5's rows hold at an address of staging SRAM, while the card serves from there: the rings' entries, data buffers, map segments; `none` where they hold
nothing. Entries stand in their rings, and segments in the map cache, in their order from the first place on (DESIGN CHOICE, assumption log entry 183). -/
def State.stagingByte (s : State) (a : Nat) : Option Byte :=
  let o := a % 0x400000
  if s.staging = false ∨ a / 0x400000 ≠ 0x80 then none
  else if o < 0x100000 then (s.submissionAt (o / 1024) (o % 1024 / 64)).bind (fun b => b[o % 64]?)
  else if o < 0x180000 then (s.completionAt ((o - 0x100000) / 512) (o % 512 / 32)).bind (fun b => b[o % 32]?)
  else if o < 0x380000 then (s.holding (.buffer ((o - 0x180000) / 4096))).bind (fun h => h.bytes[o % 4096]?)
  else
    (((s.flash.segs.filter (fun x => x.2.resident)).map (·.1))[(o - 0x380000) / 65536]?).bind (fun e =>
      (s.segPageBytes e (o % 65536 / 16384)).bind (fun b => b[o % 16384]?))

/-- The bytes of a core's load that stand with flipped bits meet the SEC-DED check: one is corrected and held corrected, more are an uncorrectable read
(R507, R510, R511, R528); whether the bytes may be returned. -/
def State.sramChecked (s : State) (core : Nat) (p1 : Bool) (a bytes : Nat) : State × Bool :=
  let mine := s.access.sramFlips.filter (fun c => decide (a ≤ c.1 ∧ c.1 < a + bytes))
  let s1 := { s with access := { s.access with sramFlips := s.access.sramFlips.filter (fun c => !(decide (a ≤ c.1 ∧ c.1 < a + bytes) && c.2 == 1)) } }
  let s2 := s1.count ECC_SCORR.CORR (mine.filter (fun c => c.2 == 1)).length
  match mine.find? (fun c => c.2 != 1), sramDomain a with
  | some _, some d => (s2.sramLost (if d = 43 then 1 else 7) d (.tailor core p1) 0 none, false)
  | _, _ => (s2, true)

/-- A core's load outside register space (R94, R1118, R1119): the ROM's contents are no state of the model and read zero. -/
def State.areaLoad (s : State) (core : Nat) (p1 : Bool) (a bytes : Nat) : State :=
  match s.areaDark a with
  | some d => ((s.count PWR_BUSERR.COUNT 1).set PWR_BUSERR.DOMAIN d).took 0
  | none =>
    if 0x80000000 ≤ a then s.windowLoad core p1 (a - 0x80000000) bytes
    else if !s.stagingPasses core p1 a then s.stagingFault core p1 a false
    else
      match s.sramChecked core p1 a bytes with
      | (s1, false) => s1
      | (s1, true) => s1.took (leNat ((List.range bytes).map (fun i => (s.stagingByte (a + i)).getD (cellAt s.access.sram (a + i)))))

/-- A core's store outside register space (R94, R1118, R1119). -/
def State.areaStore (s : State) (core : Nat) (p1 : Bool) (a : Nat) (data : Bytes) : State :=
  match s.areaDark a with
  | some d => (s.count PWR_BUSERR.COUNT 1).set PWR_BUSERR.DOMAIN d
  | none =>
    if 0x80000000 ≤ a then s.windowStore core p1 (a - 0x80000000) data
    else if !s.stagingPasses core p1 a then s.stagingFault core p1 a true
    else
      match sramDomain a with
      | none => s
      | some d =>
        let clean := s.access.sramFlips.filter (fun c => !decide (a ≤ c.1 ∧ c.1 < a + data.length))
        ({ s with access := { s.access with sram := putCells s.access.sram a data, sramFlips := clean } }).sramWrite d (some a)

/-- REGISTER_READ_CLEAR (R20 to R22, R663, R765, R766, R770, R791, R1118 to R1121, R1124, R1169): a core's load of `bytes` bytes; what it returns stands in
`readData`. A core that is not running and T0 at P1 do not occur (R658, R667). -/
def execRegisterReadClear (core addr bytes : Nat) (p1 : Bool) (epoch us : Nat) (s : State) : Host.Outcome State Fault Refusal :=
  let s0 := s.at us
  if 2 ≤ core ∨ (p1 = true ∧ core = 0) ∨ s0.domIn (49 + core) = false then .next s0
  else if s0.coreRefused core p1 0 addr then .next (s0.mpuFault core p1 0 addr)
  else if inRegSpace addr = false then .next (s0.areaLoad core p1 addr bytes)
  else if servedShape addr bytes = false then .next (s0.took 0)
  else if s0.regDark addr then .next ((s0.busError addr).took 0)
  else if s0.staleFor addr epoch then .next s0.staleAnswer
  else .next ((s0.readClear core addr).took (s0.readWord core addr).toNat)

/-! ### Stores -/

/-- One field of a word after a write (R20). -/
def FSpec.write (f : FSpec) (a : Nat) (old new w : BitVec 32) : BitVec 32 :=
  let x := f.fld a
  match f.acc with
  | .rw => x.into w (x.of new)
  | .w1c => x.into w ((x.of old) &&& (2 ^ f.width - 1 - x.of new))
  | .w1s => x.into w ((x.of old) ||| (x.of new))
  | _ => w

/-- A write acts on its own fields by their access types alone (R20, R21, R1123). -/
def State.plainWrite (s : State) (core a : Nat) (new : BitVec 32) : State :=
  let old := s.word (keyOf core a)
  s.setWord (keyOf core a) ((fieldsAt a).foldl (fun w f => f.write a old new w) old)

/-- The registers that ignore a write from P1: R124, R366, R529, R732, R794 and the register sections of the chapters. -/
def ignoresP1 (a : Nat) : Bool :=
  let b := a / 0x10000
  [0x4001, 0x4002, 0x4003, 0x4005, 0x400B, 0x400C, 0x400F, 0x4010, 0x4011, 0x4012].contains b ||
  [SYS_RSTCTL.addr, POC_AGE.addr, POC_QUANTUM.addr, CCH_CFG.addr, CCH_INBOUND.addr, MAP_CFG.addr, MOV_CFG.addr, MOV_GC.addr, MOV_WL.addr,
    ECC_CFG.addr, ECC_STR.addr, ECC_INJ.addr, HTG_CFG.addr, HTG_BASE.addr].contains a ||
  decide (ECC_RRSTEP.addr 0 ≤ a ∧ a ≤ ECC_RRSTEP.addr 11)

/-- The MPU registers of a core (R664, R665): a locked region, and EN under LOCK, keep their values. -/
def State.mpuWrite (s : State) (core a : Nat) (w : BitVec 32) : State :=
  let o := a % 0x10000
  let c := o / 0x100
  let locked := s.flag (MPU_CTL.LOCK c)
  if 0x200 ≤ o ∨ s.mpuWriter c core false = false then s
  else if locked = true ∧ 0x40 ≤ o % 0x100 ∧ o % 0x100 < 0x80 then s
  else if locked = true ∧ o % 0x100 = 0 then s
  else s.plainWrite core a w

/-- PWR_DREQ (R794): with START the operation of OP; without it the fields alone. -/
def State.dreqWrite (s : State) (a : Nat) (w : BitVec 32) : State :=
  let op := PWR_DREQ.OP.of w
  let d := PWR_DREQ.DOMAIN.of w
  let abort := PWR_DREQ.MODE.of w == 1
  if PWR_DREQ.START.of w = 0 then s.plainWrite 0 a w
  else if op = 1 then s.dreq 1 d abort (fun t => t.domainOff (clamp 1 50 d) abort (clamp 10 10000 (t.get PWR_DRAIN.US)) none .dreq)
  else if op = 2 then s.dreq 2 d abort (fun t => t.domainReset (clamp 1 50 d) none .dreq)
  else s.dreq op d abort (fun t => t.domainOn (clamp 1 50 d) .dreq)

/-- Stores to PWR and LIN (R732, R751, R794, R809, R823). -/
def State.powerWrite (s : State) (core a : Nat) (w : BitVec 32) : State :=
  let st := s.get LIN_STAT.STATE
  if a = PWR_DREQ.addr then s.dreqWrite a w
  else if a = PWR_RETLOG.addr then (if PWR_RETLOG.CLR.of w = 1 then s.retlogClear else s)
  else if a = PWR_NAPSET0.addr ∨ a = PWR_NAPSET1.addr then
    let base := if a = PWR_NAPSET0.addr then 0 else 32
    let may := ((List.range 32).map (fun i => if napAllowed (base + i) then 2 ^ i else 0)).sum
    let t := s.plainWrite core a w
    t.setWord a ((t.word a &&& BitVec.ofNat 32 may) ||| (s.word a &&& ~~~ BitVec.ofNat 32 may))
  else if a = LIN_CFG.addr then s.writeLinCfg w
  else if a = LIN_ESR.addr then s.set LIN_ESR.MAX (min s.lin.desc.esrV (clamp 50 5000 (LIN_ESR.MAX.of w)))
  else if a = LIN_K.addr ∨ a = LIN_BUDGET.addr then (if st = 6 ∨ s.get RMV_STAT.PHASE = 5 then s else s.plainWrite core a w)
  else if a = LIN_PROBE.addr then (if LIN_PROBE.START.of w = 1 ∧ (st = 3 ∨ st = 4) then s.startProbe else s)
  else if a = RMV_CTL.addr then (if RMV_CTL.DRILL.of w = 1 then s.drill else s)
  else s.plainWrite core a w

/-- Stores to ECC, BIST, LCS and the DRAM controllers (R528, R584, R956, R969). -/
def State.unitWrite (s : State) (core a : Nat) (p1 : Bool) (w : BitVec 32) (got : List Nat) : State :=
  let t0 := core == 0 && !p1
  if a = ECC_STR.addr then (s.plainWrite core a w).showStrengths
  else if a = ECC_INJ.addr then
    if ECC_INJ.ARM.of w = 0 then s.plainWrite core a w
    else
      let t := s.armInjection (ECC_INJ.TARGET.of w) (ECC_INJ.UNIT.of w) (ECC_INJ.BITS.of w)
      if t.injMay then t else t.set ECC_INJ.ARM 0
  else if a = BIST_CTL.addr then
    if BIST_CTL.START.of w = 0 then s.plainWrite core a w else s.bistCtl (BIST_CTL.SWATCH.of w) (BIST_CTL.DOMAIN.of w) t0
  else if a = LCS_CTL.addr then
    if LCS_CTL.START.of w = 0 then s.plainWrite core a w else s.lcsCtl (LCS_CTL.KEY.of w) (LCS_CTL.TARGET.of w) t0
  else if (a / 0x10000 = 0x4011 ∨ a / 0x10000 = 0x4012) ∧ 0x100 ≤ a % 0x10000 ∧ (t0 = false ∨ s.helpersFree (a / 0x10000 - 0x4011) = false) then s
  else if a = DRC_TPAT.addr 0 ∨ a = DRC_TPAT.addr 1 then
    let n := if a = DRC_TPAT.addr 0 then 0 else 1
    if (DRC_TPAT.START n).of w = 0 then s.plainWrite core a w
    else s.patternRun n ((DRC_TPAT.RANK n).of w) ((DRC_TPAT.DIR n).of w) ((DRC_TPAT.PAT n).of w) got
  else s.plainWrite core a w

/-- Stores to KEY, TAG and HTG (R618, R680, R941). -/
def State.bankWrite (s : State) (core a : Nat) (p1 : Bool) (w : BitVec 32) : State :=
  if a = KEY_RBCTL.addr ∧ KEY_RBCTL.START.of w = 1 then s.rawBlock core p1 (KEY_RBCTL.DIR.of w == 1) (KEY_RBCTL.SLOT.of w)
  else if a = TAG_WCTL.addr ∧ TAG_WCTL.START.of w = 1 then s.tagWrite core (TAG_WCTL.VALUE.of w)
  else if a = HTG_PSEL.addr then s.pselWrite core (HTG_PSEL.METER.of w) (HTG_PSEL.POCKET.of w)
  else if a = HTG_BSEL.addr then s.bselWrite core (HTG_BSEL.INDEX.of w) (HTG_BSEL.POCKET.of w)
  else s.plainWrite core a w

/-- A store of a word to a register (R20, R1123): its fields by their types, and what its chapter has the write do. `got` is what a
training pattern finds (R584). -/
def State.regWrite (s : State) (core a : Nat) (p1 : Bool) (w : BitVec 32) (got : List Nat) (us : Nat) : State :=
  let b := a / 0x10000
  if p1 = true ∧ ignoresP1 a = true then s
  else if a = SYS_RSTCTL.addr then s.writeRstctl (SYS_RSTCTL.KEY.of w) (SYS_RSTCTL.KIND.of w) p1
  else if a = SYS_WDOG.addr then s.writeWdog w.toNat us
  else if a = SYS_COLCFG.BAUD_DIV.addr then (s.plainWrite core a w).ctsRelease
  else if 0x4001 ≤ b ∧ b ≤ 0x4003 then s.powerWrite core a w
  else if a = SLV_CTL.addr then (if SLV_CTL.RETRAIN.of w = 1 then s.ctlRetrain else s)
  else if a = SEAM_CFG.addr then (s.plainWrite core a w).seamCheck
  else if a = CCH_CFG.addr then (s.plainWrite core a w).flushMode
  else if b = 0x4009 ∨ b = 0x400C ∨ b = 0x400D then s.bankWrite core a p1 w
  else if b = 0x400B then s.mpuWrite core a w
  else s.unitWrite core a p1 w got

/-- What the write of T1 adds when T0 writes the same register in the same cycle (R1127): an RW field takes T0's value, a WO field T0's
write alone, a W1C or W1S bit acts when either write carries a 1. -/
def besideT0 (a : Nat) (w0 w1 : BitVec 32) : BitVec 32 :=
  (fieldsAt a).foldl (fun w f =>
    let x := f.fld a
    match f.acc with
    | .rw => x.into w (x.of w0)
    | .w1c => x.into w (x.of (w1 &&& ~~~ w0))
    | .w1s => x.into w (x.of (w1 &&& ~~~ w0))
    | _ => x.into w 0) 0

/-- Both cores' stores to a register in one cycle (R1127): `w0` of T0, `w1` of T1, with T1's privilege. A banked register has a copy for
each (R1124). -/
def State.bothWrite (s : State) (a : Nat) (w0 w1 : BitVec 32) (p1 : Bool) (got : List Nat) (us : Nat) : State :=
  (s.regWrite 1 a p1 (if banked a then w1 else besideT0 a w0 w1) got us).regWrite 0 a false w0 got us

/-- REGISTER_WRITE (R20, R21, R26, R28, R29, R124, R314, R366, R657, R663, R664, R751, R765, R766, R770, R791, R1118 to R1121, R1123 to R1125, R1127, R1174): a
core's store of `bytes` bytes. `other` is the word that the other core stores to the same register in the same cycle, where it does and
its access is allowed (R1127); that of T1 is at P0. -/
def execRegisterWrite (core addr bytes : Nat) (p1 : Bool) (epoch : Nat) (word : BitVec 32) (other : Option (BitVec 32)) (got : List Nat) (us : Nat)
    (s : State) : Host.Outcome State Fault Refusal :=
  let s0 := s.at us
  if 2 ≤ core ∨ (p1 = true ∧ core = 0) ∨ s0.domIn (49 + core) = false then .next s0
  else if s0.coreRefused core p1 1 addr then .next (s0.mpuFault core p1 1 addr)
  else if inRegSpace addr = false then .next (s0.areaStore core p1 addr (leBytes (min 4 bytes) word.toNat))
  else if servedShape addr bytes = false then .next s0
  else if s0.regDark addr then .next (s0.busError addr)
  else if s0.staleFor addr epoch then .next s0.staleAnswer
  else
    match other with
    | some w =>
      if s0.domIn (50 - core) = false ∨ s0.coreRefused (1 - core) false 1 addr = true then .next (s0.regWrite core addr p1 word got us)
      else if core = 0 then .next (s0.bothWrite addr word w false got us)
      else .next (s0.bothWrite addr w word p1 got us)
    | none => .next (s0.regWrite core addr p1 word got us)

/-! ### peek and poke -/

/-- The name of a word in a reply (R1098, R1099). -/
def wordName (a : Nat) : String := (regName a).getD (hex0x 8 a)

/-- A number in hexadecimal without leading zeros. -/
def hexShort (n : Nat) : String := hex0x (Nat.log2 n / 4 + 1) n

end Sys2Proof.Machine

namespace Sys2Proof
open Sys2Proof.Machine

/-- The field of a register that a target names. -/
def Target.spec (t : Target) : Option FSpec :=
  match t.field with
  | some l => (fieldsAt t.addr).find? (fun f => f.lsb == l)
  | none => none

/-- Does the target name a word of register space, and a field that the word has (R1098)? -/
def Target.ok (t : Target) : Bool := inRegSpace t.addr && t.addr % 4 == 0 && (t.field.isNone || t.spec.isSome)

end Sys2Proof

namespace Sys2Proof.Machine
open Sys2Proof

/-- PEEK (R22, R770, R1041, R1098, R1099, R1101, R1130): `n` words, for T0 at P0. -/
def execPeek (ln : Ln) (target : Target) (n : Option Nat) (us : Nat) (s : State) : Host.Outcome State Fault Refusal :=
  s.cmd (Say.peek target n us) ln us (reading rolesOHM []) (fun t =>
    let as := (List.range (n.getD 1)).map (fun k => target.addr + 4 * k)
    if target.ok = false ∨ within n 1 16 = false ∨ (target.field.isSome = true ∧ n.isSome = true) ∨ as.all inRegSpace = false then (t, .fail .badArg)
    else if as.any t.regDark then (t, .fail .domainOff)
    else
      let row (a : Nat) : KV := (wordName a, hexWord (t.readWord 0 a))
      let t1 := as.foldl (fun u a => u.readClear 0 a) t
      match target.spec, n with
      | some f, _ => (t1, .ok [] [(wordName target.addr ++ "." ++ f.name, hexShort ((f.fld target.addr).of (t.readWord 0 target.addr)))])
      | none, none => (t1, .ok [] [row target.addr])
      | none, some k => (t1, .ok (as.map (fun a => [row a])) [("n", dec k)]))

/-- The word that a `poke` of a field writes (R1100): RC fields as they stand, and every W1C, W1S and WO bit outside the field 0. -/
def State.pokeWord (s : State) (a : Nat) (f : FSpec) (v : Nat) : BitVec 32 :=
  let acts (g : FSpec) : Bool := g.acc == .w1c || g.acc == .w1s || g.acc == .wo
  let base := ((fieldsAt a).filter acts).foldl (fun w g => (g.fld a).into w 0) (s.readWord 0 a)
  (f.fld a).into base v

/-- A word as a `poke` reads it back: RC fields 0 (R1100). -/
def State.readBack (s : State) (a : Nat) : BitVec 32 :=
  ((fieldsAt a).filter (fun g => g.acc == .rc)).foldl (fun w g => (g.fld a).into w 0) (s.readWord 0 a)

/-- POKE (R770, R1041, R1098, R1100, R1101): by T0 at P0. -/
def execPoke (ln : Ln) (target : Target) (value : Nat) (got : List Nat) (us : Nat) (s : State) : Host.Outcome State Fault Refusal :=
  s.cmd (Say.poke target value got us) ln us (changing [.operator] []) (fun t =>
    let a := target.addr
    let wide := match target.spec with | some f => decide (2 ^ f.width ≤ value) || f.acc == .ro | none => decide (2 ^ 32 ≤ value)
    if target.ok = false ∨ wide = true then (t, .fail .badArg)
    else if t.regDark a then (t, .fail .domainOff)
    else
      let w := match target.spec with | some f => t.pokeWord a f value | none => BitVec.ofNat 32 value
      let t1 := t.regWrite 0 a false w got us
      (t1, .ok [] [(wordName a, hexWord (t1.readBack a))]))

end Sys2Proof.Machine
end

