-- ==== Sys2Proof/Machine/Dispatch.lean ====
section
/-!
DEFINITION. Sys2Proof/Machine/Dispatch.lean: which meaning each command has, one arm per constructor of Instr.
-/
namespace Sys2Proof.Machine
open Sys2Proof

/-- The effect of a command on everything but the queue of waiting commands. -/
def exec (i : Instr) (s : State) : Host.Outcome State Fault Refusal :=
  match i with
  | .supplyGoodRise us => Sys2Proof.Machine.execSupplyGoodRise us s
  | .supplyGoodFall ns us => Sys2Proof.Machine.execSupplyGoodFall ns us s
  | .crystalLoss ns us => Sys2Proof.Machine.execCrystalLoss ns us s
  | .aonRelease straps cdetHigh us => Sys2Proof.Machine.execAonRelease straps cdetHigh us s
  | .pllLock us => Sys2Proof.Machine.execPllLock us s
  | .fuseShadowLoad ok us => Sys2Proof.Machine.execFuseShadowLoad ok us s
  | .sramFill repair us => Sys2Proof.Machine.execSramFill repair us s
  | .checkerSelfTest failed us => Sys2Proof.Machine.execCheckerSelfTest failed us s
  | .tailorRelease rom us => Sys2Proof.Machine.execTailorRelease rom us s
  | .collarBanner us => Sys2Proof.Machine.execCollarBanner us s
  | .dieDiscovery found bad us => Sys2Proof.Machine.execDieDiscovery found bad us s
  | .bootRecordsRead bad us => Sys2Proof.Machine.execBootRecordsRead bad us s
  | .dramRestore found temp verified places us => Sys2Proof.Machine.execDramRestore found temp verified places us s
  | .keyJournalLoad bad lost us => Sys2Proof.Machine.execKeyJournalLoad bad lost us s
  | .pocketTableLoad us => Sys2Proof.Machine.execPocketTableLoad us s
  | .readyRise reg us => Sys2Proof.Machine.execReadyRise reg us s
  | .startupTimerExpiry reg us => Sys2Proof.Machine.execStartupTimerExpiry reg us s
  | .dramTrainingDone failedFast failed ident temp delays us => Sys2Proof.Machine.execDramTrainingDone failedFast failed ident temp delays us s
  | .stagingToDramSwitch places us => Sys2Proof.Machine.execStagingToDramSwitch places us s
  | .replayDone us => Sys2Proof.Machine.execReplayDone us s
  | .mapBackgroundLoadDone us => Sys2Proof.Machine.execMapBackgroundLoadDone us s
  | .watchdogExpiry us => Sys2Proof.Machine.execWatchdogExpiry us s
  | .sysWdogKick value us => Sys2Proof.Machine.execSysWdogKick value us s
  | .sysRstctlCold key p1 us => Sys2Proof.Machine.execSysRstctlCold key p1 us s
  | .sysRstctlWarm key p1 us => Sys2Proof.Machine.execSysRstctlWarm key p1 us s
  | .sysRstctlT1Restart key p1 us => Sys2Proof.Machine.execSysRstctlT1Restart key p1 us s
  | .resetFlushDone straps cdetHigh us => Sys2Proof.Machine.execResetFlushDone straps cdetHigh us s
  | .sysColcfgBaudWrite div => Sys2Proof.Machine.execSysColcfgBaudWrite div s
  | .collarCharacter c parity framing us => Sys2Proof.Machine.execCollarCharacter c parity framing us s
  | .lineDiscard path line => Sys2Proof.Machine.execLineDiscard path line s
  | .collarBreak ended left => Sys2Proof.Machine.execCollarBreak ended left s
  | .lineSpeedSwitch => Sys2Proof.Machine.execLineSpeedSwitch s
  | .strictIdleTimeout => Sys2Proof.Machine.execStrictIdleTimeout s
  | .typedNoticeRelease => Sys2Proof.Machine.execTypedNoticeRelease s
  | .noticeSend path => Sys2Proof.Machine.execNoticeSend path s
  | .resendRequest path parity framing rx => Sys2Proof.Machine.execResendRequest path parity framing rx s
  | .challengeExpiry path => Sys2Proof.Machine.execChallengeExpiry path s
  | .challengeLockoutEnd => Sys2Proof.Machine.execChallengeLockoutEnd s
  | .serviceIdleExpiry path => Sys2Proof.Machine.execServiceIdleExpiry path s
  | .jobDone num status => Sys2Proof.Machine.execJobDone num status s
  | .slvRstNFall ns => Sys2Proof.Machine.execSlvRstNFall ns s
  | .slvRstNRise us => Sys2Proof.Machine.execSlvRstNRise us s
  | .grtRepeat => Sys2Proof.Machine.execGrtRepeat s
  | .selReceive payload crcOk errs => Sys2Proof.Machine.execSelReceive payload crcOk errs s
  | .grtRestart us => Sys2Proof.Machine.execGrtRestart us s
  | .trainingAttemptStart => Sys2Proof.Machine.execTrainingAttemptStart s
  | .trainingReportReceive payload crcOk errs phaseB => Sys2Proof.Machine.execTrainingReportReceive payload crcOk errs phaseB s
  | .trainingVerdict => Sys2Proof.Machine.execTrainingVerdict s
  | .passPreambleTimeout => Sys2Proof.Machine.execPassPreambleTimeout s
  | .dataPhaseEntry us => Sys2Proof.Machine.execDataPhaseEntry us s
  | .lnkRetrainReceive rx subtype arg => Sys2Proof.Machine.execLnkRetrainReceive rx subtype arg s
  | .retrainGrt us => Sys2Proof.Machine.execRetrainGrt us s
  | .clockStopSend => Sys2Proof.Machine.execClockStopSend s
  | .clockStopReceive lanes => Sys2Proof.Machine.execClockStopReceive lanes s
  | .hostWakeBurst us => Sys2Proof.Machine.execHostWakeBurst us s
  | .cardWakeBurst => Sys2Proof.Machine.execCardWakeBurst s
  | .wakeBurstRetry us => Sys2Proof.Machine.execWakeBurstRetry us s
  | .laneLoopbackDone lane ok us => Sys2Proof.Machine.execLaneLoopbackDone lane ok us s
  | .laneRetry lane => Sys2Proof.Machine.execLaneRetry lane s
  | .laneErrorThreshold lane => Sys2Proof.Machine.execLaneErrorThreshold lane s
  | .cmdFrameReceive rx queue payload us => Sys2Proof.Machine.execCmdFrameReceive rx queue payload us s
  | .datFrameReceive rx type tag queue offset payload => Sys2Proof.Machine.execDatFrameReceive rx type tag queue offset payload s
  | .ackReceive copies => Sys2Proof.Machine.execAckReceive copies s
  | .repReceive copies => Sys2Proof.Machine.execRepReceive copies s
  | .turnReceive lanes => Sys2Proof.Machine.execTurnReceive lanes s
  | .turnIdleInference => Sys2Proof.Machine.execTurnIdleInference s
  | .cardTurnStart fit us => Sys2Proof.Machine.execCardTurnStart fit us s
  | .repeatLimit => Sys2Proof.Machine.execRepeatLimit s
  | .slvCtlRetrain => Sys2Proof.Machine.execSlvCtlRetrain s
  | .read us => Sys2Proof.Machine.execRead us s
  | .write us => Sys2Proof.Machine.execWrite us s
  | .trim us => Sys2Proof.Machine.execTrim us s
  | .flush us => Sys2Proof.Machine.execFlush us s
  | .verify us => Sys2Proof.Machine.execVerify us s
  | .copy us => Sys2Proof.Machine.execCopy us s
  | .seal us => Sys2Proof.Machine.execSeal us s
  | .pocketSizeReduceApply pocket => Sys2Proof.Machine.execPocketSizeReduceApply pocket s
  | .pocketDeleteFinish pocket => Sys2Proof.Machine.execPocketDeleteFinish pocket s
  | .queueFree queue => Sys2Proof.Machine.execQueueFree queue s
  | .basteCplDeadline queue tag us => Sys2Proof.Machine.execBasteCplDeadline queue tag us s
  | .prefetchFill pocket lba errs => Sys2Proof.Machine.execPrefetchFill pocket lba errs s
  | .moverFlush pocket stitch group idx unc pad => Sys2Proof.Machine.execMoverFlush pocket stitch group idx unc pad s
  | .quadCheckDone quad loops same us => Sys2Proof.Machine.execQuadCheckDone quad loops same us s
  | .quadRetry quad => Sys2Proof.Machine.execQuadRetry quad s
  | .boltOpen group idx use => Sys2Proof.Machine.execBoltOpen group idx use s
  | .stitchProgramDone ppa ok => Sys2Proof.Machine.execStitchProgramDone ppa ok s
  | .boltRelease group idx => Sys2Proof.Machine.execBoltRelease group idx s
  | .mapSegmentReadDone entry => Sys2Proof.Machine.execMapSegmentReadDone entry s
  | .mapSegmentWriteDone entry fit => Sys2Proof.Machine.execMapSegmentWriteDone entry fit s
  | .checkpointTimer us => Sys2Proof.Machine.execCheckpointTimer us s
  | .checkpointDone us => Sys2Proof.Machine.execCheckpointDone us s
  | .gcStart => Sys2Proof.Machine.execGcStart s
  | .wearLevelStart group => Sys2Proof.Machine.execWearLevelStart group s
  | .codewordDecode ppa j errs us => Sys2Proof.Machine.execCodewordDecode ppa j errs us s
  | .retryStepDone ppa errs us => Sys2Proof.Machine.execRetryStepDone ppa errs us s
  | .rebuildDone ppa reads us => Sys2Proof.Machine.execRebuildDone ppa reads us s
  | .recoveryTimeout ppa us => Sys2Proof.Machine.execRecoveryTimeout ppa us s
  | .relocation => Sys2Proof.Machine.execRelocation s
  | .sramUncorrectable array domain bits owner unit closed => Sys2Proof.Machine.execSramUncorrectable array domain bits owner unit closed s
  | .dramRequest port addr op hint owner staging tag evict ns => Sys2Proof.Machine.execDramRequest port addr op hint owner staging tag evict ns s
  | .dramSchedule ch ns => Sys2Proof.Machine.execDramSchedule ch ns s
  | .dramLineRead ch res stuck holds us => Sys2Proof.Machine.execDramLineRead ch res stuck holds us s
  | .mergeEntryTimeout ch line res ns => Sys2Proof.Machine.execMergeEntryTimeout ch line res ns s
  | .dramRefresh ch rank => Sys2Proof.Machine.execDramRefresh ch rank s
  | .actTableClear => Sys2Proof.Machine.execActTableClear s
  | .rowIdleClose ch rank bank ns => Sys2Proof.Machine.execRowIdleClose ch rank bank ns s
  | .dramAlert ch us => Sys2Proof.Machine.execDramAlert ch us s
  | .migrationCopyLine ch res holds => Sys2Proof.Machine.execMigrationCopyLine ch res holds s
  | .migrationDone ch => Sys2Proof.Machine.execMigrationDone ch s
  | .rankShrink ch => Sys2Proof.Machine.execRankShrink ch s
  | .dqsTrack ch moves => Sys2Proof.Machine.execDqsTrack ch moves s
  | .drcTpatStart ch rank dir pat got => Sys2Proof.Machine.execDrcTpatStart ch rank dir pat got s
  | .bulkBlockStart core raw => Sys2Proof.Machine.execBulkBlockStart core raw s
  | .bulkBlockDone core => Sys2Proof.Machine.execBulkBlockDone core s
  | .gmacVerify queue tag blk => Sys2Proof.Machine.execGmacVerify queue tag blk s
  | .nonceReserve => Sys2Proof.Machine.execNonceReserve s
  | .nonceReserveDone ok => Sys2Proof.Machine.execNonceReserveDone ok s
  | .keyDrainEnd slot => Sys2Proof.Machine.execKeyDrainEnd slot s
  | .keyDrainTimeout slot us => Sys2Proof.Machine.execKeyDrainTimeout slot us s
  | .journalCommit us => Sys2Proof.Machine.execJournalCommit us s
  | .journalTimeout paged us => Sys2Proof.Machine.execJournalTimeout paged us s
  | .journalBlockErase us => Sys2Proof.Machine.execJournalBlockErase us s
  | .keyRbEncrypt core p1 slot => Sys2Proof.Machine.execKeyRbEncrypt core p1 slot s
  | .keyRbDecrypt core p1 slot => Sys2Proof.Machine.execKeyRbDecrypt core p1 slot s
  | .cipherPairKat pair ok us => Sys2Proof.Machine.execCipherPairKat pair ok us s
  | .mpuFault core p1 access addr us => Sys2Proof.Machine.execMpuFault core p1 access addr us s
  | .extensionStart => Sys2Proof.Machine.execExtensionStart s
  | .mpuLock core writer p1 => Sys2Proof.Machine.execMpuLock core writer p1 s
  | .tagWrite core value p1 => Sys2Proof.Machine.execTagWrite core value p1 s
  | .liningSample vMv iMa tDc headMa us => Sys2Proof.Machine.execLiningSample vMv iMa tDc headMa us s
  | .chargeRampDone us => Sys2Proof.Machine.execChargeRampDone us s
  | .chargeFloatEntry us => Sys2Proof.Machine.execChargeFloatEntry us s
  | .estimateRefreshDue us => Sys2Proof.Machine.execEstimateRefreshDue us s
  | .esrStep dvUv diMa us => Sys2Proof.Machine.execEsrStep dvUv diMa us s
  | .probeDone us => Sys2Proof.Machine.execProbeDone us s
  | .liningFaultRetry us => Sys2Proof.Machine.execLiningFaultRetry us s
  | .bankAbsentTimeout us => Sys2Proof.Machine.execBankAbsentTimeout us s
  | .linOvervolt us => Sys2Proof.Machine.execLinOvervolt us s
  | .linHot us => Sys2Proof.Machine.execLinHot us s
  | .sensorFault us => Sys2Proof.Machine.execSensorFault us s
  | .converterFault us => Sys2Proof.Machine.execConverterFault us s
  | .linCfgChgEn word p1 => Sys2Proof.Machine.execLinCfgChgEn word p1 s
  | .linProbeStart p1 => Sys2Proof.Machine.execLinProbeStart p1 s
  | .budgetRecompute us => Sys2Proof.Machine.execBudgetRecompute us s
  | .ebSample bytes energyUj durUs => Sys2Proof.Machine.execEbSample bytes energyUj durUs s
  | .throughNotice us => Sys2Proof.Machine.execThroughNotice us s
  | .removalTriggerCdet ns us => Sys2Proof.Machine.execRemovalTriggerCdet ns us s
  | .removalTriggerVin us => Sys2Proof.Machine.execRemovalTriggerVin us s
  | .rmvCtlDrill p1 us => Sys2Proof.Machine.execRmvCtlDrill p1 us s
  | .removalFlushDone us => Sys2Proof.Machine.execRemovalFlushDone us s
  | .removalCheckpointDone us => Sys2Proof.Machine.execRemovalCheckpointDone us s
  | .bankExhausted us => Sys2Proof.Machine.execBankExhausted us s
  | .cdetNFall us => Sys2Proof.Machine.execCdetNFall us s
  | .rearm vinUs us => Sys2Proof.Machine.execRearm vinUs us s
  | .rearmPowerOn us => Sys2Proof.Machine.execRearmPowerOn us s
  | .drainComplete d => Sys2Proof.Machine.execDrainComplete d s
  | .drainWindowEnd d refuser us => Sys2Proof.Machine.execDrainWindowEnd d refuser us s
  | .resetHoldEnd d us => Sys2Proof.Machine.execResetHoldEnd d us s
  | .domainSwitchOnDone d => Sys2Proof.Machine.execDomainSwitchOnDone d s
  | .domainCheckDone d ok us => Sys2Proof.Machine.execDomainCheckDone d ok us s
  | .domainRejoin d => Sys2Proof.Machine.execDomainRejoin d s
  | .fabricHang d us => Sys2Proof.Machine.execFabricHang d us s
  | .fabricReply sentEpoch replyEpoch requester echo => Sys2Proof.Machine.execFabricReply sentEpoch replyEpoch requester echo s
  | .domainRetry d => Sys2Proof.Machine.execDomainRetry d s
  | .pwrDreqOn op d us => Sys2Proof.Machine.execPwrDreqOn op d us s
  | .pwrDreqOff d abort us => Sys2Proof.Machine.execPwrDreqOff d abort us s
  | .pwrDreqReset d us => Sys2Proof.Machine.execPwrDreqReset d us s
  | .coreclkGate => Sys2Proof.Machine.execCoreclkGate s
  | .coreclkRestart => Sys2Proof.Machine.execCoreclkRestart s
  | .levelChangePause us => Sys2Proof.Machine.execLevelChangePause us s
  | .regulatorTimeout us => Sys2Proof.Machine.execRegulatorTimeout us s
  | .pmbusAlert status us => Sys2Proof.Machine.execPmbusAlert status us s
  | .throttleStep t us => Sys2Proof.Machine.execThrottleStep t us s
  | .throttleRelease us => Sys2Proof.Machine.execThrottleRelease us s
  | .pointOfNoReturn us endUs => Sys2Proof.Machine.execPointOfNoReturn us endUs s
  | .acmpCrossing n out us => Sys2Proof.Machine.execAcmpCrossing n out us s
  | .adcSample ch code us => Sys2Proof.Machine.execAdcSample ch code us s
  | .wakeTimer us => Sys2Proof.Machine.execWakeTimer us s
  | .stateExitDone us => Sys2Proof.Machine.execStateExitDone us s
  | .tackVisit codes outs us => Sys2Proof.Machine.execTackVisit codes outs us s
  | .pwrRetlogClr => Sys2Proof.Machine.execPwrRetlogClr s
  | .seamMonitorLock port rate two => Sys2Proof.Machine.execSeamMonitorLock port rate two s
  | .ringInsert us => Sys2Proof.Machine.execRingInsert us s
  | .ringFormTimeout us => Sys2Proof.Machine.execRingFormTimeout us s
  | .hopJoinReceive port payload => Sys2Proof.Machine.execHopJoinReceive port payload s
  | .identSend port => Sys2Proof.Machine.execIdentSend port s
  | .identReceive port payload => Sys2Proof.Machine.execIdentReceive port payload s
  | .hopReportReceive port payload lanes => Sys2Proof.Machine.execHopReportReceive port payload lanes s
  | .hopAttemptEnd port => Sys2Proof.Machine.execHopAttemptEnd port s
  | .hopRetry port => Sys2Proof.Machine.execHopRetry port s
  | .hopError port => Sys2Proof.Machine.execHopError port s
  | .hopDownLeave port us => Sys2Proof.Machine.execHopDownLeave port us s
  | .ringFrameReceive port rx frame us => Sys2Proof.Machine.execRingFrameReceive port rx frame us s
  | .seamAckReceive port copies => Sys2Proof.Machine.execSeamAckReceive port copies s
  | .seamRepReceive port copies => Sys2Proof.Machine.execSeamRepReceive port copies s
  | .seamGoBackTimeout port => Sys2Proof.Machine.execSeamGoBackTimeout port s
  | .beatSend us => Sys2Proof.Machine.execBeatSend us s
  | .beatReceive port rx frame us => Sys2Proof.Machine.execBeatReceive port rx frame us s
  | .beatSilence slot us => Sys2Proof.Machine.execBeatSilence slot us s
  | .mantleElectionTimer us => Sys2Proof.Machine.execMantleElectionTimer us s
  | .mantleStandbyTakeover us => Sys2Proof.Machine.execMantleStandbyTakeover us s
  | .localMinuteClose us => Sys2Proof.Machine.execLocalMinuteClose us s
  | .twinData tseq lba pocket half integ poison ikey count tag bytes => Sys2Proof.Machine.execTwinData tseq lba pocket half integ poison ikey count tag bytes s
  | .twinTrim tseq lba pocket count => Sys2Proof.Machine.execTwinTrim tseq lba pocket count s
  | .twinCopy tseq src pocket count dst integ dkey ikey => Sys2Proof.Machine.execTwinCopy tseq src pocket count dst integ dkey ikey s
  | .twinLine tseq cmd us => Sys2Proof.Machine.execTwinLine tseq cmd us s
  | .twinDarn tseq lba pocket half integ poison ikey count tag bytes => Sys2Proof.Machine.execTwinDarn tseq lba pocket half integ poison ikey count tag bytes s
  | .twinUnmap tseq lba pocket count => Sys2Proof.Machine.execTwinUnmap tseq lba pocket count s
  | .twinRegionEnd tseq region pocket => Sys2Proof.Machine.execTwinRegionEnd tseq region pocket s
  | .twinHold tseq ms us => Sys2Proof.Machine.execTwinHold tseq ms us s
  | .holdExpiry us => Sys2Proof.Machine.execHoldExpiry us s
  | .twinAck upTo us => Sys2Proof.Machine.execTwinAck upTo us s
  | .twinNak tseq => Sys2Proof.Machine.execTwinNak tseq s
  | .twinPairItem durable clean served fresh us => Sys2Proof.Machine.execTwinPairItem durable clean served fresh us s
  | .twinConfirmTimeout => Sys2Proof.Machine.execTwinConfirmTimeout s
  | .twinLostTimeout us => Sys2Proof.Machine.execTwinLostTimeout us s
  | .takeoverAuto us => Sys2Proof.Machine.execTakeoverAuto us s
  | .darnRegion reads unc => Sys2Proof.Machine.execDarnRegion reads unc s
  | .seamReplyReceive src req last text us => Sys2Proof.Machine.execSeamReplyReceive src req last text us s
  | .seamNoticeReceive src text => Sys2Proof.Machine.execSeamNoticeReceive src text s
  | .htgSample codeV codeI busy us => Sys2Proof.Machine.execHtgSample codeV codeI busy us s
  | .bucketBroadcast us => Sys2Proof.Machine.execBucketBroadcast us s
  | .bucketRepeat us => Sys2Proof.Machine.execBucketRepeat us s
  | .htgBucketReceive src bucket => Sys2Proof.Machine.execHtgBucketReceive src bucket s
  | .htgBucketAckReceive pocket gen minute => Sys2Proof.Machine.execHtgBucketAckReceive pocket gen minute s
  | .htgPselWrite core meter pocket => Sys2Proof.Machine.execHtgPselWrite core meter pocket s
  | .htgBselWrite core index pocket => Sys2Proof.Machine.execHtgBselWrite core index pocket s
  | .jtagMakeTransition failed => Sys2Proof.Machine.execJtagMakeTransition failed s
  | .lifecycleProgramDone failed => Sys2Proof.Machine.execLifecycleProgramDone failed s
  | .bistCtlStart sw d t0 us => Sys2Proof.Machine.execBistCtlStart sw d t0 us s
  | .bistRunDone pass detail us => Sys2Proof.Machine.execBistRunDone pass detail us s
  | .bistRunTimeout detail us => Sys2Proof.Machine.execBistRunTimeout detail us s
  | .lcsCtlStart key target t0 => Sys2Proof.Machine.execLcsCtlStart key target t0 s
  | .hello ln us => Sys2Proof.Machine.execHello ln us s
  | .helloRole ln role us => Sys2Proof.Machine.execHelloRole ln role us s
  | .helloService ln us => Sys2Proof.Machine.execHelloService ln us s
  | .helloResponse ln resp us => Sys2Proof.Machine.execHelloResponse ln resp us s
  | .id ln us => Sys2Proof.Machine.execId ln us s
  | .ver ln us => Sys2Proof.Machine.execVer ln us s
  | .help ln us => Sys2Proof.Machine.execHelp ln us s
  | .helpVerb ln verb sub us => Sys2Proof.Machine.execHelpVerb ln verb sub us s
  | .lineShow ln us => Sys2Proof.Machine.execLineShow ln us s
  | .lineSpeed ln speed us => Sys2Proof.Machine.execLineSpeed ln speed us s
  | .lineMode ln strict us => Sys2Proof.Machine.execLineMode ln strict us s
  | .lineCts ln on us => Sys2Proof.Machine.execLineCts ln on us s
  | .clockShow ln us => Sys2Proof.Machine.execClockShow ln us s
  | .clockSet ln minute sec us => Sys2Proof.Machine.execClockSet ln minute sec us s
  | .pocketCreate ln pocket attrs us => Sys2Proof.Machine.execPocketCreate ln pocket attrs us s
  | .pocketSet ln pocket attrs us => Sys2Proof.Machine.execPocketSet ln pocket attrs us s
  | .pocketSuspend ln pocket us => Sys2Proof.Machine.execPocketSuspend ln pocket us s
  | .pocketResume ln pocket us => Sys2Proof.Machine.execPocketResume ln pocket us s
  | .pocketDelete ln pocket us => Sys2Proof.Machine.execPocketDelete ln pocket us s
  | .pocketShow ln pocket us => Sys2Proof.Machine.execPocketShow ln pocket us s
  | .pocketList ln us => Sys2Proof.Machine.execPocketList ln us s
  | .queueCreate ln queue pocket attrs us => Sys2Proof.Machine.execQueueCreate ln queue pocket attrs us s
  | .queueSet ln queue attrs us => Sys2Proof.Machine.execQueueSet ln queue attrs us s
  | .queueDelete ln queue us => Sys2Proof.Machine.execQueueDelete ln queue us s
  | .queueShow ln queue us => Sys2Proof.Machine.execQueueShow ln queue us s
  | .queueList ln pocket frm us => Sys2Proof.Machine.execQueueList ln pocket frm us s
  | .keyBlobAdd ln hex us => Sys2Proof.Machine.execKeyBlobAdd ln hex us s
  | .keyBlobClear ln us => Sys2Proof.Machine.execKeyBlobClear ln us s
  | .keyLoadWrap ln slot kind wrap owner us => Sys2Proof.Machine.execKeyLoadWrap ln slot kind wrap owner us s
  | .keyLoadPlain ln slot kind owner us => Sys2Proof.Machine.execKeyLoadPlain ln slot kind owner us s
  | .keyGen ln slot kind wrap owner us => Sys2Proof.Machine.execKeyGen ln slot kind wrap owner us s
  | .keyErase ln slot us => Sys2Proof.Machine.execKeyErase ln slot us s
  | .keyShow ln slot us => Sys2Proof.Machine.execKeyShow ln slot us s
  | .keyShowClear ln slot us => Sys2Proof.Machine.execKeyShowClear ln slot us s
  | .keyList ln owner frm us => Sys2Proof.Machine.execKeyList ln owner frm us s
  | .cipherShow ln us => Sys2Proof.Machine.execCipherShow ln us s
  | .cipherGmac ln slot hex us => Sys2Proof.Machine.execCipherGmac ln slot hex us s
  | .cipherCmac ln slot hex us => Sys2Proof.Machine.execCipherCmac ln slot hex us s
  | .cipherEnc ln slot hex us => Sys2Proof.Machine.execCipherEnc ln slot hex us s
  | .cipherDec ln slot hex us => Sys2Proof.Machine.execCipherDec ln slot hex us s
  | .cacheShow ln pocket us => Sys2Proof.Machine.execCacheShow ln pocket us s
  | .cacheSet ln pocket share us => Sys2Proof.Machine.execCacheSet ln pocket share us s
  | .cacheCfg ln attrs us => Sys2Proof.Machine.execCacheCfg ln attrs us s
  | .mapShow ln us => Sys2Proof.Machine.execMapShow ln us s
  | .mapLookup ln pocket lba us => Sys2Proof.Machine.execMapLookup ln pocket lba us s
  | .mapCheckpoint ln us => Sys2Proof.Machine.execMapCheckpoint ln us s
  | .mapCfg ln dirtyCap us => Sys2Proof.Machine.execMapCfg ln dirtyCap us s
  | .meterShow ln pocket us => Sys2Proof.Machine.execMeterShow ln pocket us s
  | .meterRead ln pocket index us => Sys2Proof.Machine.execMeterRead ln pocket index us s
  | .meterAck ln pocket gen minute us => Sys2Proof.Machine.execMeterAck ln pocket gen minute us s
  | .meterCfg ln k base us => Sys2Proof.Machine.execMeterCfg ln k base us s
  | .linkShow ln us => Sys2Proof.Machine.execLinkShow ln us s
  | .linkRetrain ln us => Sys2Proof.Machine.execLinkRetrain ln us s
  | .linkCfg ln attrs us => Sys2Proof.Machine.execLinkCfg ln attrs us s
  | .powerShow ln us => Sys2Proof.Machine.execPowerShow ln us s
  | .powerStateRun ln us => Sys2Proof.Machine.execPowerStateRun ln us s
  | .powerStateIdle ln us => Sys2Proof.Machine.execPowerStateIdle ln us s
  | .powerStateNap ln set drain abort us => Sys2Proof.Machine.execPowerStateNap ln set drain abort us s
  | .powerStateTack ln drain abort us => Sys2Proof.Machine.execPowerStateTack ln drain abort us s
  | .powerStateDormant ln drain abort us => Sys2Proof.Machine.execPowerStateDormant ln drain abort us s
  | .powerLevel ln level us => Sys2Proof.Machine.execPowerLevel ln level us s
  | .powerSettings ln nap tackS tch timer wakePmbus wakeLining us => Sys2Proof.Machine.execPowerSettings ln nap tackS tch timer wakePmbus wakeLining us s
  | .domainShow ln dom us => Sys2Proof.Machine.execDomainShow ln dom us s
  | .domainOn ln dom us => Sys2Proof.Machine.execDomainOn ln dom us s
  | .domainOff ln dom abort drain us => Sys2Proof.Machine.execDomainOff ln dom abort drain us s
  | .liningShow ln us => Sys2Proof.Machine.execLiningShow ln us s
  | .liningCfg ln attrs us => Sys2Proof.Machine.execLiningCfg ln attrs us s
  | .liningProbe ln us => Sys2Proof.Machine.execLiningProbe ln us s
  | .liningDrill ln us => Sys2Proof.Machine.execLiningDrill ln us s
  | .liningDesc ln attrs bad us => Sys2Proof.Machine.execLiningDesc ln attrs bad us s
  | .flashShow ln us => Sys2Proof.Machine.execFlashShow ln us s
  | .flashDie ln ch us => Sys2Proof.Machine.execFlashDie ln ch us s
  | .flashCfg ln attrs us => Sys2Proof.Machine.execFlashCfg ln attrs us s
  | .flashFormat ln confirm us => Sys2Proof.Machine.execFlashFormat ln confirm us s
  | .flashFormatDone us => Sys2Proof.Machine.execFlashFormatDone us s
  | .dramShow ln us => Sys2Proof.Machine.execDramShow ln us s
  | .dramCfg ln ch attrs us => Sys2Proof.Machine.execDramCfg ln ch attrs us s
  | .dramPort ln port ch targetNs prio us => Sys2Proof.Machine.execDramPort ln port ch targetNs prio us s
  | .dramMasks ln cs bg0 bg1 bg2 ba0 ba1 us => Sys2Proof.Machine.execDramMasks ln cs bg0 bg1 bg2 ba0 ba1 us s
  | .eccShow ln us => Sys2Proof.Machine.execEccShow ln us s
  | .eccGroup ln group us => Sys2Proof.Machine.execEccGroup ln group us s
  | .eccCfg ln attrs us => Sys2Proof.Machine.execEccCfg ln attrs us s
  | .eccInject ln target unit bits us => Sys2Proof.Machine.execEccInject ln target unit bits us s
  | .eccInjArm target unit bits p1 => Sys2Proof.Machine.execEccInjArm target unit bits p1 s
  | .mpuShow ln core us => Sys2Proof.Machine.execMpuShow ln core us s
  | .mpuLoad ln length us => Sys2Proof.Machine.execMpuLoad ln length us s
  | .mpuAdd ln off hex us => Sys2Proof.Machine.execMpuAdd ln off hex us s
  | .mpuAdmit ln slot us => Sys2Proof.Machine.execMpuAdmit ln slot us s
  | .mpuRemove ln us => Sys2Proof.Machine.execMpuRemove ln us s
  | .colourShow ln us => Sys2Proof.Machine.execColourShow ln us s
  | .colourTag ln addr errs us => Sys2Proof.Machine.execColourTag ln addr errs us s
  | .twinShow ln us => Sys2Proof.Machine.execTwinShow ln us s
  | .twinPair ln slot primary wk second us => Sys2Proof.Machine.execTwinPair ln slot primary wk second us s
  | .twinOfferSend us => Sys2Proof.Machine.execTwinOfferSend us s
  | .twinOffer ln wk kcvNum cap serial us => Sys2Proof.Machine.execTwinOffer ln wk kcvNum cap serial us s
  | .twinPairLapse us => Sys2Proof.Machine.execTwinPairLapse us s
  | .twinUnpair ln us => Sys2Proof.Machine.execTwinUnpair ln us s
  | .twinSwap ln us => Sys2Proof.Machine.execTwinSwap ln us s
  | .twinSwapTimeout us => Sys2Proof.Machine.execTwinSwapTimeout us s
  | .twinTakeover ln us => Sys2Proof.Machine.execTwinTakeover ln us s
  | .twinInteg ln pocket slot us => Sys2Proof.Machine.execTwinInteg ln pocket slot us s
  | .ringShow ln us => Sys2Proof.Machine.execRingShow ln us s
  | .ringRetrain ln east west us => Sys2Proof.Machine.execRingRetrain ln east west us s
  | .ringCfg ln join force rate lanes share us => Sys2Proof.Machine.execRingCfg ln join force rate lanes share us s
  | .mantleShow ln us => Sys2Proof.Machine.execMantleShow ln us s
  | .mantleRelay ln slot text us => Sys2Proof.Machine.execMantleRelay ln slot text us s
  | .mantleRelayTimeout us => Sys2Proof.Machine.execMantleRelayTimeout us s
  | .mantleRead ln slot pocket minute us => Sys2Proof.Machine.execMantleRead ln slot pocket minute us s
  | .bistRun ln swatch dom us => Sys2Proof.Machine.execBistRun ln swatch dom us s
  | .bistShow ln swatch us => Sys2Proof.Machine.execBistShow ln swatch us s
  | .bistList ln us => Sys2Proof.Machine.execBistList ln us s
  | .lifeShow ln us => Sys2Proof.Machine.execLifeShow ln us s
  | .lifeSet ln target confirm us => Sys2Proof.Machine.execLifeSet ln target confirm us s
  | .peek ln target n us => Sys2Proof.Machine.execPeek ln target n us s
  | .poke ln target value got us => Sys2Proof.Machine.execPoke ln target value got us s
  | .resetCard ln us => Sys2Proof.Machine.execResetCard ln us s
  | .resetWarm ln us => Sys2Proof.Machine.execResetWarm ln us s
  | .resetDomain ln dom us => Sys2Proof.Machine.execResetDomain ln dom us s
  | .logShow ln us => Sys2Proof.Machine.execLogShow ln us s
  | .logFaults ln frm count us => Sys2Proof.Machine.execLogFaults ln frm count us s
  | .registerWrite core addr bytes p1 epoch word other got us => Sys2Proof.Machine.execRegisterWrite core addr bytes p1 epoch word other got us s
  | .registerReadClear core addr bytes p1 epoch us => Sys2Proof.Machine.execRegisterReadClear core addr bytes p1 epoch us s
  | .unknownCommandLine ln => Sys2Proof.Machine.execUnknownCommandLine ln s
  | .colCtsNChange high left => Sys2Proof.Machine.execColCtsNChange high left s
  | .flashPatrolRead us => Sys2Proof.Machine.execFlashPatrolRead us s
  | .patrolSlow us => Sys2Proof.Machine.execPatrolSlow us s
  | .joinNoMantleTimeout us => Sys2Proof.Machine.execJoinNoMantleTimeout us s
  | .standbyBeatWaitExpiry us => Sys2Proof.Machine.execStandbyBeatWaitExpiry us s
  | .seamMonitorLockLoss port => Sys2Proof.Machine.execSeamMonitorLockLoss port s
  | .crystalRecovery us => Sys2Proof.Machine.execCrystalRecovery us s
  | .blockEraseDone group idx ch ok => Sys2Proof.Machine.execBlockEraseDone group idx ch ok s
  | .jtagInstruction instr => Sys2Proof.Machine.execJtagInstruction instr s

end Sys2Proof.Machine
end

