-- ==== Sys2Proof/Safety.lean ====
section
/-!
DEFINITION. Sys2Proof/Safety.lean: what counts as a state in good order, and when a line's command runs at once.
-/
namespace Sys2Proof.Machine
open Sys2Proof

/-- The register file is in its canonical form. -/
def State.canonical (s : State) : Bool := s.regs.wf

/-- The state in which a line's command acts: its time is read and the line taken up (R130, R279, R815). -/
def State.taken (s : State) (ln : Ln) (us : Nat) : State := ((s.at us).wakeLine ln.path ln.rx).heard ln.path ln.rx

/-- A line whose command runs at once: its path takes lines, or it is the line that has waited longest there (R81, R173, R201, R821), its own
arguments are in order (R147), and none of the checks of R975 turns it away. `early` marks the forms that are answered before READY (R82). -/
def State.admitsLine (s : State) (c : Say) (ln : Ln) (us : Nat) (f : Form) (early : Bool) : Prop :=
  (s.at us).ripe (c.waited ln) ln.rx = true ∧ ln.bad = false ∧ (s.taken ln us).gate ln.path f early = none

/-- Such a line that says the command `c` with its operands: a line that the Collar holds is read from its characters (R130, R141), and an MGT line's
frame is accepted (R279). -/
def State.runs (s : State) (c : Say) (ln : Ln) (us : Nat) (f : Form) (early : Bool) : Prop :=
  s.admitsLine c ln us f early ∧ (s.at us).says c ln = true

/-- A changing command has been answered OK: what it changed is in the configuration record before its reply is sent (R321), and a changing line of
another path at the same moment finds it accepted (R199). -/
def State.done (s : State) (ln : Ln) (data : List (List KV)) (kv : List KV) : State :=
  (s.confRecord.reply ln.path (.ok ln.tag data kv)).accepted ln.path

/-- A changing command has been refused with a status by its own checks. -/
def State.refused (s : State) (ln : Ln) (st : Status) : State := (s.reply ln.path (.er ln.tag st)).accepted ln.path

/-- The state in which the session of a path waits for something, and a changing command holds the configuration lock (R160, R175). -/
def State.waiting (s : State) (ln : Ln) (w : AwaitFor) : State :=
  { s.setSession ln.path { s.session ln.path with await := some { tag := ln.tag, what := w, sinceUs := s.clk } } with
    col := { (s.setSession ln.path { s.session ln.path with await := some { tag := ln.tag, what := w, sinceUs := s.clk } }).col with lock := some ln.path } }

/-- The state in which a changing command goes on as a job: the reply names the job, which holds the configuration lock (R161, R175). -/
def State.jobbed (s : State) (ln : Ln) (what : String) : State :=
  { (s.startJob ln.path what).reply ln.path (.ok ln.tag [] [("job", dec s.col.jobNext)]) with
    col := { ((s.startJob ln.path what).reply ln.path (.ok ln.tag [] [("job", dec s.col.jobNext)])).col with lock := some ln.path } }

end Sys2Proof.Machine
end

