-- ==== Sys2Proof/Certificates/Slice0/Obligations.lean ====
section
/-!
DEFINITION. Sys2Proof/Certificates/Slice0/Obligations.lean: the statements. `s.taken ln us` is the state in which a line has been taken up, and
`s.runs ln us f early` that its command passes every check of R975; `s.at us` is the state at time `us`. Where a docstring names rules, they are
what the statement rests on; what it states is its Lean.
-/
open Sys2Proof Sys2Proof.Machine

/-- The model's own queue (log entries 1 and 2; R173 takes lines in order): a step runs exactly the command at the front of the queue, with the queue's rest; on an empty queue the card idles; no word spells a
command, since the opcode table gives no row bits. -/
def Obligations.StepRunsFront : Prop :=
  (∀ (c : Instr) (rest : List Instr) (s : State), s.pending = c :: rest → step s = exec c { s with pending := rest }) ∧
  (∀ s : State, s.pending = [] → step s = .next s) ∧
  (∀ (s : State) (n w : Nat), decodeTableWord n w = none ∧ s.withFetchWord n w = s)

/-- Rests on R23, R1124, R1125: after reset every register, in both copies of a banked one, holds its reset word, those of Table MAP-3 named here among them; nothing is queued; the register file is in its
canonical form. What fuses, straps, descriptors and the lifecycle array give is the model's choice (log entries 9 to 12). -/
def Obligations.ResetState : Prop :=
  State.reset.canonical = true ∧ State.reset.pending = [] ∧ (∀ a : Nat, State.reset.word a = resetWord (a % 0x100000000)) ∧
  resetWord SYS_BOOTSTAT.addr = 0x00000020 ∧ resetWord SYS_BOOTTIME.addr = 0 ∧ resetWord SYS_RSTCAUSE.addr = 0 ∧
  (SYS_COLCFG.BAUD_DIV.of (resetWord SYS_COLCFG.addr) = 6944) ∧ resetWord 0x40064050 = 0x0B000000 ∧ resetWord (PWR_BUSERR.addr) = 0 ∧
  State.reset.queues = [] ∧ State.reset.execs = [] ∧ State.reset.cache.entries = [] ∧ State.reset.ready = false

/-- Every command of the opcode table answers a next state, whatever its operands and whatever the state: no command faults and none is refused. An event that the card is in no position to
meet changes at most the clock (the model's choice, log entry 4). R155 (exactly one reply to a line), R341 (a status for each entry) and R1121 (an access that acts on no register) are its cases in the manual. -/
def Obligations.EveryCommandAnswers : Prop :=
  ∀ (i : Instr) (s : State), ∃ t : State, exec i s = .next t

/-- The register file's canonical form (addresses strictly rising, no word equal to its reset word) is the model's own form of the state: every step keeps it, in every state, reachable or not. -/
def Obligations.StepKeepsCanonical : Prop :=
  ∀ s t : State, s.canonical = true → step s = .next t → t.canonical = true

/-- The model's own queue (log entry 1; R173 takes lines in order): commands are taken first in, first out. A step removes the front command and nothing else, and a command neither adds commands to the queue nor removes any. -/
def Obligations.QueueInOrder : Prop :=
  (∀ (i : Instr) (s t : State), s.canonical = true → exec i s = .next t → t.pending = s.pending) ∧
  (∀ s t : State, s.canonical = true → step s = .next t → t.pending = s.pending.tail)

/-- Rests on R82, R147, R176, R178, R201, R173, R975: what meets every line before its command acts, stated for commands of every chapter. Nothing is heard before the banner or with T0 off; a line whose
path still owes a reply is kept until its turn (log entry 164), and a line that does not say the command is no line of it; BZ before READY; ROLE for a role the reference does not list; NOT_READY for a changing command once READY has fallen in a removal; BZ for a changing command while the configuration lock is held, and
never BZ for a reading command after READY. A line whose characters the Collar holds brings the command that they say (R130, R141). -/
def Obligations.LineAdmission : Prop :=
  (∀ (s : State) (ln : Ln) (p us : Nat) (a : EccAttrs) (x : Instr × Say), x ∈ [(Instr.pocketDelete ln p us, Say.pocketDelete p us),
      (.queueDelete ln p us, Say.queueDelete p us), (.twinSwap ln us, Say.twinSwap us), (.eccCfg ln a us, Say.eccCfg a us),
      (.ringCfg ln none false none none none us, Say.ringCfg none false none none none us), (.pocketShow ln p us, Say.pocketShow p us),
      (.queueShow ln p us, Say.queueShow p us), (.lifeShow ln us, Say.lifeShow us), (.linkShow ln us, Say.linkShow us), (.dramShow ln us, Say.dramShow us)] →
    ((s.at us).ripe (x.2.waited ln) ln.rx = false ∨ (s.at us).says x.2 ln = false →
      ((s.at us).hears ln.path = false → exec x.1 s = .next (s.at us)) ∧
      ((s.at us).hears ln.path = true → (s.at us).says x.2 ln = true → exec x.1 s = .next ((s.at us).keepLine (x.2.waited ln) ln.rx)) ∧
      ((s.at us).hears ln.path = true → (s.at us).says x.2 ln = false →
        exec x.1 s = .next (if ln.path = .mgt then (s.at us).heard .mgt ln.rx else s.at us))) ∧
    (∀ u, u = s.taken ln us → (s.at us).ripe (x.2.waited ln) ln.rx = true → (s.at us).says x.2 ln = true →
      (u.ready = false → u.removing = false → exec x.1 s = .next (u.reply ln.path (.bz ln.tag))) ∧
      (u.ready = true → u.roleOf ln.path = .none → exec x.1 s = .next (u.reply ln.path (.er ln.tag .role))))) ∧
  (∀ (s u : State) (ln : Ln) (p us : Nat) (a : EccAttrs) (x : Instr × Say), x ∈ [(Instr.pocketDelete ln p us, Say.pocketDelete p us),
      (.queueDelete ln p us, Say.queueDelete p us), (.twinSwap ln us, Say.twinSwap us), (.eccCfg ln a us, Say.eccCfg a us),
      (.ringCfg ln none false none none none us, Say.ringCfg none false none none none us)] →
    u = s.taken ln us → (s.at us).ripe (x.2.waited ln) ln.rx = true → (s.at us).says x.2 ln = true → u.roleOf ln.path = .operator →
    (u.ready = false → u.removing = true → exec x.1 s = .next (u.reply ln.path (.er ln.tag .notReady))) ∧
    (u.ready = true → u.locked = true → exec x.1 s = .next (u.reply ln.path (.bz ln.tag)))) ∧
  (∀ (s u : State) (ln : Ln) (p us : Nat) (x : Instr × Say), x ∈ [(Instr.pocketShow ln p us, Say.pocketShow p us), (.queueShow ln p us, Say.queueShow p us),
      (.lifeShow ln us, Say.lifeShow us), (.linkShow ln us, Say.linkShow us), (.dramShow ln us, Say.dramShow us)] →
    u = s.taken ln us → (s.at us).ripe (x.2.waited ln) ln.rx = true → (s.at us).says x.2 ln = true → u.roleOf ln.path = .operator → u.ready = true →
    u.removing = false →
    ∃ r, exec x.1 s = .next (u.reply ln.path r) ∧ r ≠ .bz ln.tag ∧ (u.limp = false → ln.bad = true → r = .er ln.tag .badArg)) ∧
  Status.role.code = 0x407 ∧ Status.notReady.code = 0x204 ∧ Status.badArg.code = 0x102

/-- Rests on R155, R164, R166, R168, R170: a reply becomes its path's stored last reply and ends the wait for it; notices and RP replace no stored reply; a session holds 64 notices and counts the rest; and the
frame of all three: nothing of the tenants, the stores, the keys, the twinset, the power sections or any other path's stored reply is touched. -/
def Obligations.RepliesAndNotices : Prop :=
  (∀ (s : State) (p : Path) (r : Reply), ((s.reply p r).session p).last = some (s.strict p, r) ∧ ((s.reply p r).session p).await = none) ∧
  (∀ (s : State) (p : Path) (r : Reply) (w : RpReason) (ev : String) (kv : List KV) (q : Path), (q ≠ p → ((s.reply p r).session q).last = (s.session q).last) ∧
    ((s.rp p w).session q).last = (s.session q).last ∧ ((s.notifyOn p ev kv).session q).last = (s.session q).last ∧
    ((s.notify ev kv).session q).last = (s.session q).last) ∧
  (∀ (s t : State) (p : Path) (r : Reply) (w : RpReason) (ev : String) (kv : List KV), t ∈ [s.reply p r, s.rp p w, s.notify ev kv, s.notifyOn p ev kv] →
    t.pockets = s.pockets ∧ t.queues = s.queues ∧ t.execs = s.execs ∧ t.cache = s.cache ∧ t.flash = s.flash ∧ t.keys = s.keys ∧ t.dram = s.dram ∧ t.twin = s.twin ∧
    t.htg = s.htg ∧ t.pwr = s.pwr ∧ t.lin = s.lin ∧ t.life = s.life ∧ t.access = s.access ∧ t.boot = s.boot ∧ t.pending = s.pending ∧ t.clk = s.clk ∧ t.free = s.free) ∧
  (∀ (x : Session) (n : Notice), (x.notices.length < 64 → (x.note n).notices = x.notices ++ [n] ∧ (x.note n).lost = x.lost) ∧
    (64 ≤ x.notices.length → (x.note n).notices = x.notices ∧ (x.note n).lost = x.lost + 1))

/-- Rests on R976 to R979: the four forms of `hello`. -/
def Obligations.HelloForms : Prop :=
  (∀ (s u : State) (ln : Ln) (us : Nat), u = s.taken ln us → s.runs (Say.hello us) ln us helloForm true →
    exec (.hello ln us) s = .next (u.reply ln.path (.ok ln.tag []
      [("role", roleName (u.roleOf ln.path)), ("path", pathName ln.path), ("life", lifeLower (u.get LCS_STATE.STATE))]))) ∧
  (∀ (s u : State) (ln : Ln) (r : Role) (us : Nat), u = s.taken ln us → s.runs (Say.helloRole r us) ln us helloForm true →
    r ≠ .service → r ≠ .none → r = u.startRole ln.path →
    exec (.helloRole ln r us) s = .next ((u.takeRole ln.path r).reply ln.path (.ok ln.tag [] [("role", roleName r)]))) ∧
  (∀ (s u : State) (ln : Ln) (r : Role) (us : Nat), u = s.taken ln us → s.runs (Say.helloRole r us) ln us helloForm true →
    r ≠ .service → r ≠ u.startRole ln.path → exec (.helloRole ln r us) s = .next (u.reply ln.path (.er ln.tag .role))) ∧
  (∀ (s u : State) (ln : Ln) (us : Nat), u = s.taken ln us → s.runs (Say.helloService us) ln us helloForm true → u.get LCS_STATE.STATE ≠ 2 →
    exec (.helloService ln us) s = .next ((u.takeRole ln.path .service).reply ln.path (.ok ln.tag [] [("role", "SERVICE")]))) ∧
  (∀ (s u : State) (ln : Ln) (us n : Nat), u = s.taken ln us → s.runs (Say.helloService us) ln us helloForm true → u.get LCS_STATE.STATE = 2 →
    u.col.lockout = false → (u.slot 575).state = .loaded → n = (Config.random32 u.free).toNat →
    exec (.helloService ln us) s =
      .next ((State.setSession { u with free := u.free + 1 } ln.path { u.session ln.path with chal := some { num := n, issuedUs := us } }).reply
        ln.path (.ok ln.tag [] [("challenge", hexPlain 8 n), ("ttl", "60")]))) ∧
  (∀ (s u : State) (ln : Ln) (us : Nat), u = s.taken ln us → s.runs (Say.helloService us) ln us helloForm true → u.get LCS_STATE.STATE = 2 →
    u.col.lockout = true → exec (.helloService ln us) s = .next (u.reply ln.path (.bz ln.tag))) ∧
  (∀ (s u v : State) (ln : Ln) (resp : Bytes) (us : Nat) (c : Challenge), u = s.taken ln us → s.runs (Say.helloResponse resp us) ln us helloForm true →
    u.get LCS_STATE.STATE = 2 → resp.length = 8 → (u.session ln.path).chal = some c → us ≤ c.issuedUs + 60000000 →
    (u.slot 575).state = .loaded → v = u.setSession ln.path { u.session ln.path with chal := none } →
    (resp = u.response ln.path c.num →
      exec (.helloResponse ln resp us) s = .next ((v.takeRole ln.path .service).reply ln.path (.ok ln.tag [] [("role", "SERVICE")]))) ∧
    (resp ≠ u.response ln.path c.num →
      exec (.helloResponse ln resp us) s =
        .next (State.reply { v with col := { v.col with lockout := true } } ln.path (.er ln.tag .role)))) ∧
  (∀ (u : State) (p : Path) (r : Role), r = .service ∨ (r = u.startRole p ∧ r ≠ .none) →
    (u.takeRole p r).roleOf p = r ∧ (u.takeRole p r).regs = u.regs ∧ ∀ q, q ≠ p → (u.takeRole p r).session q = u.session q)

/-- Rests on R980, R981, R982 to R984, R986, R987: the reading commands of the session verbs, with the keys that chapter 19 gives each. -/
def Obligations.SessionReads : Prop :=
  (∀ (s u : State) (ln : Ln) (us : Nat), u = s.taken ln us → s.runs (Say.id us) ln us (reading rolesOHM []) true →
    exec (.id ln us) s = .next (u.reply ln.path (.ok ln.tag []
      [("part", "BX640"), ("step", "B0"), ("code", if u.get SYS_ID.CODE = 1 then "BX640-E0" else "BX640-C0"),
       ("serial", hexPlain 8 (u.get SYS_SERIAL.SERIAL)),
       ("slot", if u.flag SYS_STRAP.SLOT_VALID then slotId (u.get SYS_STRAP.SLOT_ID) else "none"),
       ("boot", if u.limp then "limp" else if u.ready then "service" else "start"),
       ("stage", if u.flag SYS_BOOTSTAT.STAGING then "on" else "off"),
       ("map", if u.flag SYS_BOOTSTAT.MAP_RESIDENT then "resident" else "paging"),
       ("limp", if u.limp then limpLower (u.get SYS_LIMP.CAUSE) else "none")]))) ∧
  (∀ (s u : State) (ln : Ln) (us : Nat), u = s.taken ln us → s.runs (Say.ver us) ln us (reading rolesOHM []) true →
    exec (.ver ln us) s = .next (u.reply ln.path (.ok ln.tag []
      [("baleong", "2.1"), ("rom", dec Config.romRevision.1 ++ "." ++ dec Config.romRevision.2),
       ("ext", extName (u.get MPU_EXT.STATE)), ("extlen", dec (if u.get MPU_EXT.STATE = 0 then 0 else u.get MPU_EXTLEN.LENGTH))]))) ∧
  (∀ (s u : State) (ln : Ln) (us : Nat), u = s.taken ln us → s.runs (Say.help us) ln us (reading rolesOHM []) false →
    ∃ rows : List (List KV), exec (.help ln us) s = .next (u.reply ln.path (.ok ln.tag rows [("n", dec 31)])) ∧
      rows.length = 31 ∧ rows.map (fun r => r.map (·.1)) = List.replicate 31 ["verb", "subs"] ∧
      rows.map (fun r => r.lookup "verb") = helpVerbs.map some) ∧
  (∀ (s u : State) (ln : Ln) (verb : String) (sub : Option String) (us : Nat) (rows : List HelpRow), u = s.taken ln us →
    s.runs (Say.helpVerb verb sub us) ln us (reading rolesOHM []) false →
    rows = (((helpTable (if u.get LCS_STATE.STATE = 1 then "O,H,S" else "S")).lookup verb).getD []).filter
      (fun r => match sub with | some w => r.sub == w | none => true) →
    (rows ≠ [] → exec (.helpVerb ln verb sub us) s = .next (u.reply ln.path (.ok ln.tag (rows.map (fun r =>
      [("sub", r.sub), ("class", if r.changing then "changing" else "reading"), ("roles", r.roles), ("keys", r.keys)]))
      [("n", dec rows.length)]))) ∧
    (rows = [] → exec (.helpVerb ln verb sub us) s = .next (u.reply ln.path (.er ln.tag .badArg)))) ∧
  (∀ (s u : State) (ln : Ln) (us : Nat), u = s.taken ln us → ln.path = .collar → s.runs (Say.lineShow us) ln us (reading [.operator] []) false →
    exec (.lineShow ln us) s = .next (u.reply ln.path (.ok ln.tag []
      [("speed", dec (roundDiv 800000000 (max 1 (u.get SYS_COLCFG.BAUD_DIV)))),
       ("mode", if u.flag SYS_COLCFG.STRICT then "strict" else "typed"), ("cts", onOff (u.flag SYS_COLCFG.CTS_EN))]))) ∧
  (∀ (s u : State) (ln : Ln) (us : Nat), u = s.taken ln us → s.runs (Say.clockShow us) ln us (reading rolesOHM []) false →
    exec (.clockShow ln us) s = .next (u.reply ln.path (.ok ln.tag []
      [("minute", dec (u.get HTG_MINUTE.MINUTE)), ("sec", dec (u.htg.phase / 10000)),
       ("source", if u.flag HTG_STAT.LOCAL then "local" else "tick"), ("sync", yesNo (!u.flag HTG_STAT.UNSYNC))])))

/-- Rests on R135 to R139, R153, R986, R988 to R990: the session verbs that change something. -/
def Obligations.SessionChanges : Prop :=
  (∀ (s u : State) (ln : Ln) (speed us : Nat), u = s.taken ln us → ln.path = .collar → s.runs (Say.lineSpeed speed us) ln us (reading [.operator] []) false →
    9600 ≤ speed → speed ≤ 3000000 →
    exec (.lineSpeed ln speed us) s =
      .next (State.reply { u with col := { u.col with switchDiv := some (roundDiv 800000000 speed) } } ln.path (.ok ln.tag [] []))) ∧
  (∀ (s u : State) (ln : Ln) (speed us : Nat), u = s.taken ln us → ln.path = .collar → s.runs (Say.lineSpeed speed us) ln us (reading [.operator] []) false →
    speed < 9600 ∨ 3000000 < speed → exec (.lineSpeed ln speed us) s = .next (u.reply ln.path (.er ln.tag .badArg))) ∧
  (∀ (s u : State) (ln : Ln) (strict : Bool) (us : Nat), u = s.taken ln us → s.canonical = true → ln.path = .collar →
    s.runs (Say.lineMode strict us) ln us (reading [.operator] []) false →
    ∃ v : State, exec (.lineMode ln strict us) s = .next (v.reply ln.path (.ok ln.tag [] [])) ∧ v.flag SYS_COLCFG.STRICT = strict ∧
      v = { u with regs := v.regs } ∧ v.get SYS_COLCFG.BAUD_DIV = u.get SYS_COLCFG.BAUD_DIV ∧
      ∀ a, a ≠ SYS_COLCFG.addr → v.word a = u.word a) ∧
  (∀ (s u : State) (ln : Ln) (on : Bool) (us : Nat), u = s.taken ln us → ln.path = .collar → s.runs (Say.lineCts on us) ln us (reading [.operator] []) false →
    exec (.lineCts ln on us) s = .next (State.reply { u with col := { u.col with ctsNext := some on } } ln.path (.ok ln.tag [] []))) ∧
  (∀ (s u : State) (ln : Ln) (speed us : Nat) (b : Bool) (x : Instr × Say), x ∈ [(Instr.lineShow ln us, Say.lineShow us),
      (.lineSpeed ln speed us, Say.lineSpeed speed us), (.lineMode ln b us, Say.lineMode b us), (.lineCts ln b us, Say.lineCts b us)] →
    u = s.taken ln us → ln.path ≠ .collar → (s.at us).ripe (x.2.waited ln) ln.rx = true → (s.at us).says x.2 ln = true →
    u.gate ln.path helloForm false = none → exec x.1 s = .next (u.reply ln.path (.er ln.tag .wrongState))) ∧
  (∀ (s u v : State) (ln : Ln) (m sec us : Nat), u = s.taken ln us → s.runs (Say.clockSet m sec us) ln us (changing [.operator, .mantle] []) false →
    m < 2 ^ 32 → sec < 60 → u.get SEAM_MANTLE.STATE ≠ 1 → u.get SEAM_MANTLE.STATE ≠ 2 →
    v = { (u.set HTG_MINUTE.MINUTE m).set HTG_STAT.UNSYNC 0 with
      htg := { u.htg with phase := 10000 * sec }, seam := { u.seam with minuteSet := if u.get SEAM_MANTLE.STATE = 4 then some m else none } } →
    exec (.clockSet ln m sec us) s =
      .next ((if u.get HTG_MINUTE.MINUTE < m then v.closeAll m false else v).done ln [] [("minute", dec m), ("sec", dec sec)])) ∧
  (∀ (s u : State) (ln : Ln) (m sec us : Nat), u = s.taken ln us →
    s.runs (Say.clockSet m sec us) ln us (changing [.operator, .mantle] []) false → m < 2 ^ 32 → sec < 60 →
    u.get SEAM_MANTLE.STATE = 1 ∨ u.get SEAM_MANTLE.STATE = 2 →
    exec (.clockSet ln m sec us) s = .next (u.refused ln .wrongState))

/-- Rests on R316 to R323, R365, R391, R991 to R995: the `pocket` verb. `Pocket.p000` gives the attributes that a `create` does not name their
defaults of Table POC-1; `tell` is the line that the primary of a twinset sends its secondary (R877). -/
def Obligations.PocketCommands : Prop :=
  (∀ (s u : State) (ln : Ln) (p size base gen us : Nat) (a : PocketAttrs) (k : Pocket), u = s.taken ln us →
    s.runs (Say.pocketCreate p a us) ln us (changing rolesOHM [39, 43]) false → u.isSecondary = false → a.size = some size → attrsInRange a = true → p ≤ 255 →
    u.pockets.lookup p = none → u.sizesBut p + size ≤ u.flash.usable → indexPlace (u.indexUsed p) (indexLen size) = some base →
    gen = (u.genOf p + 1) % 2 ^ 32 →
    k = { Pocket.p000 with
      size := size, cls := a.cls.getD .normal, weight := a.weight.getD 1, limit := a.limit.getD 256, unit512 := a.unit == some 512, gen := gen } →
    exec (.pocketCreate ln p a us) s =
      .next (((State.setBase { u with
          pockets := putSorted p k u.pockets, flash := { u.flash with gens := putSorted p gen u.flash.gens },
          htg := { u.htg with minutes := upsert p OpenMin.fresh u.htg.minutes } } p base).tell
            ["pocket", "create", pocketId p] (attrsKv a)).done ln [] [("pocket", pocketId p), ("state", "active"), ("size", dec size), ("gen", dec gen)])) ∧
  (∀ (s u : State) (ln : Ln) (p size us : Nat) (a : PocketAttrs), u = s.taken ln us → s.runs (Say.pocketCreate p a us) ln us (changing rolesOHM [39, 43]) false →
    u.isSecondary = false → a.size = some size → attrsInRange a = true → p ≤ 255 → u.pockets.lookup p = none →
    u.flash.usable < u.sizesBut p + size → exec (.pocketCreate ln p a us) s = .next (u.refused ln .quota)) ∧
  (∀ (s u v : State) (ln : Ln) (p us : Nat) (a : PocketAttrs) (k : Pocket) (c : PocketChange), u = s.taken ln us →
    s.runs (Say.pocketSet p a us) ln us (changing rolesOHM [39, 43]) false → u.isSecondary = false →
    a ≠ { size := none, cls := none, weight := none, limit := none, unit := none } → attrsInRange a = true → p ≠ 0 →
    u.pockets.lookup p = some k → k.state ≠ .deleting → c = k.with a →
    (c.size ≤ k.size ∨ u.sizesBut p + c.size ≤ u.flash.usable) →
    (k.size ≤ c.size ∨ (u.usedFrom p c.size = false ∧ u.anyBeyond p c.size = false)) →
    (c.unit512 = k.unit512 ∨ u.usedFrom p 0 = false) → u.changePocket p k c = some v →
    exec (.pocketSet ln p a us) s =
      .next ((v.tell ["pocket", "set", pocketId p] (attrsKv a)).done ln [] ((v.tell ["pocket", "set", pocketId p] (attrsKv a)).pocketKv p))) ∧
  (∀ (s u : State) (ln : Ln) (p us : Nat) (a : PocketAttrs) (k : Pocket) (c : PocketChange), u = s.taken ln us →
    s.runs (Say.pocketSet p a us) ln us (changing rolesOHM [39, 43]) false → u.isSecondary = false →
    a ≠ { size := none, cls := none, weight := none, limit := none, unit := none } → attrsInRange a = true → p ≠ 0 →
    u.pockets.lookup p = some k → k.state ≠ .deleting → c = k.with a → c.size < k.size → u.usedFrom p c.size = false →
    (c.unit512 = k.unit512 ∨ u.usedFrom p 0 = false) → u.anyBeyond p c.size = true →
    exec (.pocketSet ln p a us) s = .next ((u.setPocket p { k with change := some c }).waiting ln (.sizeReduce p))) ∧
  (∀ (s u : State) (ln : Ln) (p us : Nat) (k : Pocket), u = s.taken ln us → u.isSecondary = false → p ≠ 0 → u.pockets.lookup p = some k →
    (k.state = .active → s.runs (Say.pocketSuspend p us) ln us (changing rolesOHM [39, 43]) false → exec (.pocketSuspend ln p us) s =
      .next ((((u.setPocket p { k with state := .suspended }).stopPrefetch p).tell ["pocket", "suspend", pocketId p] []).done ln [] [("pocket", pocketId p), ("state", "suspended")])) ∧
    (k.state ≠ .active → s.runs (Say.pocketSuspend p us) ln us (changing rolesOHM [39, 43]) false → exec (.pocketSuspend ln p us) s = .next (u.refused ln .wrongState)) ∧
    (k.state = .suspended → s.runs (Say.pocketResume p us) ln us (changing rolesOHM [39, 43]) false → exec (.pocketResume ln p us) s =
      .next ((((u.setPocket p { k with state := .active }).stopPrefetch p).tell ["pocket", "resume", pocketId p] []).done ln [] [("pocket", pocketId p), ("state", "active")])) ∧
    (k.state ≠ .suspended → s.runs (Say.pocketResume p us) ln us (changing rolesOHM [39, 43]) false → exec (.pocketResume ln p us) s = .next (u.refused ln .wrongState))) ∧
  (∀ (s u v : State) (ln : Ln) (p us : Nat) (k : Pocket), u = s.taken ln us → s.runs (Say.pocketDelete p us) ln us (changing rolesOHM [39, 43]) false →
    u.isSecondary = false → p ≠ 0 → u.pockets.lookup p = some k → k.state ≠ .deleting →
    v = ((((u.setPocket p { k with state := .deleting, wasSuspended := k.state == .suspended, delStep := 1 }).stopPrefetch p).unmarkPocket
      p).tell ["pocket", "delete", pocketId p] []) →
    exec (.pocketDelete ln p us) s =
      .next (((((v.queues.filter (fun q => q.2.pocket == p && q.2.state == .opened)).foldl (fun t q => t.drainQueue q.1 q.2) v).deletionUnmap
        p).deletionsGo).waiting ln (.pocketDelete p))) ∧
  (∀ (s u : State) (ln : Ln) (us : Nat), u = s.taken ln us → s.runs (Say.pocketDelete 0 us) ln us (changing rolesOHM [39, 43]) false → u.isSecondary = false →
    exec (.pocketDelete ln 0 us) s = .next (u.refused ln .wrongState)) ∧
  (∀ (s u : State) (ln : Ln) (p us : Nat), u = s.taken ln us → s.runs (Say.pocketShow p us) ln us (reading rolesOHM [39]) false → p ≤ 255 →
    exec (.pocketShow ln p us) s = .next (u.reply ln.path (.ok ln.tag [] (u.pocketKv p))) ∧
    (u.pocketKv p).map (·.1) =
      ["pocket", "state", "size", "used", "class", "weight", "limit", "inflight", "queues", "keys", "unit", "gen"]) ∧
  (∀ (s u : State) (ln : Ln) (us : Nat), u = s.taken ln us → s.runs (Say.pocketList us) ln us (reading rolesOHM [39]) false →
    exec (.pocketList ln us) s = .next (u.reply ln.path (.ok ln.tag
      (u.pockets.map (fun (x : Nat × Pocket) => [("pocket", pocketId x.1), ("state", x.2.state.name), ("size", dec x.2.size),
        ("used", dec (u.mapped x.1).length), ("class", x.2.cls.name)])) [("n", dec u.pockets.length)])))

/-- Rests on R326, R327, R359, R363, R996 to R999: the `queue` verb. The domain of queue q's quarter is D39 + q / 256 (R324). -/
def Obligations.QueueCommands : Prop :=
  (∀ (s u v : State) (ln : Ln) (q p us : Nat) (a : QueueAttrs) (k : Pocket) (k1 : QueuePair), u = s.taken ln us →
    s.runs (Say.queueCreate q p a us) ln us (changing rolesOHM [39 + q / 256]) false → u.isSecondary = false → queueAttrsOk a = true → p ≠ 0 → p ≤ 255 → q ≤ 1023 →
    u.dom (39 + q / 256) = 2 ∨ u.dom (39 + q / 256) = 3 → u.queues.lookup q = none → u.pockets.lookup p = some k → k.state ≠ .deleting →
    k1 = {
      state := .opened, pocket := p, depth := a.depth.getD 64, ack := a.ack.getD 1, baste := a.baste.getD false, waiting := [],
      doneTags := [] } → v = State.tell { u with queues := putSorted q k1 u.queues } ["queue", "create", queueId q]
      (("pocket", pocketId p) :: queueAttrsKv a) →
    exec (.queueCreate ln q p a us) s = .next (v.done ln [] (v.queueKv q))) ∧
  (∀ (s u v : State) (ln : Ln) (q us : Nat) (a : QueueAttrs) (k : QueuePair), u = s.taken ln us →
    s.runs (Say.queueSet q a us) ln us (changing rolesOHM [39 + q / 256]) false → u.isSecondary = false → queueAttrsOk a = true → q ≤ 1023 →
    u.dom (39 + q / 256) = 2 ∨ u.dom (39 + q / 256) = 3 → u.queues.lookup q = some k → k.state = .opened →
    (a.depth.getD k.depth = k.depth ∨ u.tagsTaken q k = []) →
    v = (u.setQueue q { k with depth := a.depth.getD k.depth, ack := a.ack.getD k.ack, baste := a.baste.getD k.baste }).tell
      ["queue", "set", queueId q] (queueAttrsKv a) →
    exec (.queueSet ln q a us) s = .next (v.done ln [] (v.queueKv q))) ∧
  (∀ (s u : State) (ln : Ln) (q us : Nat) (k : QueuePair), u = s.taken ln us → s.runs (Say.queueDelete q us) ln us (changing rolesOHM [39 + q / 256]) false →
    u.isSecondary = false → q ≤ 1023 → u.queues.lookup q = some k →
    (k.state = .opened → exec (.queueDelete ln q us) s =
      .next (((k.waiting.foldl (fun t c => t.postWaiting q c .wrongState) (u.setQueue q { k with state := .draining, waiting := [] })).tell
        ["queue", "delete", queueId q] []).done ln [] [("queue", queueId q), ("state", "draining"), ("waiting", dec k.waiting.length)])) ∧
    (k.state = .draining → exec (.queueDelete ln q us) s = .next (u.refused ln .wrongState))) ∧
  (∀ (s u : State) (ln : Ln) (q us : Nat), u = s.taken ln us → s.runs (Say.queueShow q us) ln us (reading rolesOHM [39 + q / 256]) false → q ≤ 1023 →
    exec (.queueShow ln q us) s = .next (u.reply ln.path (.ok ln.tag [] (u.queueKv q))) ∧
    (u.queueKv q).map (·.1) = ["queue", "state", "pocket", "depth", "ack", "baste", "taken", "waiting"]) ∧
  (∀ (s u : State) (ln : Ln) (pocket : Option Nat) (frm us : Nat) (hit : List (Nat × QueuePair)), u = s.taken ln us →
    s.runs (Say.queueList pocket frm us) ln us (reading rolesOHM [39]) false →
    hit = u.queues.filter (fun x => decide (frm ≤ x.1) && (match pocket with | some p => x.2.pocket == p | none => true)) →
    exec (.queueList ln pocket frm us) s = .next (u.reply ln.path (.ok ln.tag
      ((hit.take 256).map (fun x => [("queue", queueId x.1), ("pocket", pocketId x.2.pocket), ("state", x.2.state.name), ("depth", dec x.2.depth)]))
      [("n", dec (min 256 hit.length)), ("next", match hit[256]? with | some x => queueId x.1 | none => "none")])))

/-- Rests on R624 to R632, R638, R869, R1000 to R1011: the `key` verb. A load or generation, and an erasure, wait for the journal (R635, R1007). -/
def Obligations.KeyCommands : Prop :=
  (∀ (s u : State) (ln : Ln) (hex : Bytes) (us : Nat) (b : Bytes), u = s.taken ln us → s.runs (Say.keyBlobAdd hex us) ln us (reading rolesOHM []) false →
    b = (u.session ln.path).blob ++ hex → hex ≠ [] → hex.length ≤ 16 →
    (b.length ≤ 256 → exec (.keyBlobAdd ln hex us) s =
      .next ((u.setSession ln.path { u.session ln.path with blob := b }).reply ln.path (.ok ln.tag [] [("bytes", dec b.length)]))) ∧
    (256 < b.length → exec (.keyBlobAdd ln hex us) s = .next (u.reply ln.path (.er ln.tag .badArg)))) ∧
  (∀ (s u : State) (ln : Ln) (us : Nat), u = s.taken ln us → s.runs (Say.keyBlobClear us) ln us (reading rolesOHM []) false →
    exec (.keyBlobClear ln us) s =
      .next ((u.setSession ln.path { u.session ln.path with blob := [] }).reply ln.path (.ok ln.tag [] [("bytes", "0")]))) ∧
  (∀ (s u v : State) (ln : Ln) (slot kind wrap : Nat) (owner : Option Nat) (us : Nat) (blob m : Bytes), u = s.taken ln us →
    s.runs (Say.keyLoadWrap slot kind wrap owner us) ln us (changing rolesOHM [37]) false → v.isSecondary = false → v.namesTwinKey [slot, wrap] = false →
    blob = (u.session ln.path).blob → v = u.setSession ln.path { u.session ln.path with blob := [] } →
    v.arrivalFault slot kind .wrapped (some wrap) owner = none → blob.length = kindLen kind + 8 →
    (keyUnwrap (v.slot wrap).material blob).2 = m →
    ((keyUnwrap (v.slot wrap).material blob).1 = wrapIv kind → xtsEqual kind m = false →
      exec (.keyLoadWrap ln slot kind wrap owner us) s =
        .next (((v.count KEY_UNWRAP.OK 1).loadSlot slot kind (owner.getD 0) m [] []).waiting ln .journal)) ∧
    ((keyUnwrap (v.slot wrap).material blob).1 ≠ wrapIv kind →
      exec (.keyLoadWrap ln slot kind wrap owner us) s = .next ((v.count KEY_UNWRAP.FAIL 1).refused ln .unwrapFail))) ∧
  (∀ (s u v : State) (ln : Ln) (slot kind : Nat) (owner : Option Nat) (us : Nat) (blob : Bytes), u = s.taken ln us →
    s.runs (Say.keyLoadPlain slot kind owner us) ln us (changing (if s.get LCS_STATE.STATE = 1 then [.service, .operator, .host] else [.service]) [37]) false →
    v.isSecondary = false → v.namesTwinKey [slot] = false →
    blob = (u.session ln.path).blob → v = u.setSession ln.path { u.session ln.path with blob := [] } →
    v.arrivalFault slot kind .plain none owner = none → blob.length = kindLen kind →
    exec (.keyLoadPlain ln slot kind owner us) s = .next ((v.loadSlot slot kind 0 blob [] []).waiting ln .journal)) ∧
  (∀ (s u : State) (ln : Ln) (slot kind wrap : Nat) (owner : Option Nat) (us : Nat) (m b : Bytes), u = s.taken ln us →
    s.runs (Say.keyGen slot kind wrap owner us) ln us (changing rolesOHM [37]) false → u.isSecondary = false → u.namesTwinKey [slot, wrap] = false →
    u.arrivalFault slot kind .generated (some wrap) owner = none →
    m = (List.range (kindLen kind)).map (fun i => Config.randomByte u.free i) → xtsEqual kind m = false →
    b = keyWrap (u.slot wrap).material (wrapIv kind) m →
    exec (.keyGen ln slot kind wrap owner us) s =
      .next ((State.loadSlot { u with free := u.free + 1 } slot kind (owner.getD 0) m [("bytes", dec b.length)] (blobLines 0 b)).waiting ln .journal)) ∧
  (∀ (s u : State) (ln : Ln) (slot us : Nat), u = s.taken ln us → s.runs (Say.keyErase slot us) ln us (changing rolesOHM [37]) false → u.isSecondary = false →
    u.namesTwinKey [slot] = false → slot ≤ 575 →
    ((u.slot slot).state = .empty → exec (.keyErase ln slot us) s =
      .next (u.done ln [] [("slot", keySlotId slot), ("state", "empty"), ("jseq", dec u.keys.jseq)])) ∧
    ((u.slot slot).state = .loaded → u.domIn 1 = true → u.domIn 9 = true → exec (.keyErase ln slot us) s =
      .next (State.waiting { u with
        queues := u.queues.map (fun q => if q.2.pocket = (u.slot slot).owner then
          (q.1, { q.2 with waiting := q.2.waiting.map (Cmd.noteRetired slot) }) else q),
        keys := { u.keys with slots := putSorted slot { u.slot slot with state := .retiring } u.keys.slots, drains := u.keys.drains ++ [(slot, u.clk)] } } ln .journal)) ∧
    ((u.slot slot).state = .retiring → exec (.keyErase ln slot us) s = .next (u.refused ln .wrongState))) ∧
  (∀ (s u : State) (ln : Ln) (slot us : Nat) (k : KeySlot), u = s.taken ln us → s.runs (Say.keyShow slot us) ln us (reading rolesOHM [37]) false →
    slot ≤ 575 → u.namesTwinKey [slot] = false → k = u.slot slot →
    exec (.keyShow ln slot us) s = .next (u.reply ln.path (.ok ln.tag [] ([("slot", keySlotId slot), ("state", k.state.name)] ++
      (if k.state = .empty then [] else [("kind", kindName k.kind), ("owner", pocketId k.owner), ("kcv", kcvText k.kind k.material)]) ++
      [("latches", dec (u.latchesOf slot).length), ("lost", yesNo k.lost)])))) ∧
  (∀ (s u : State) (ln : Ln) (slot : Option Nat) (us : Nat) (hit : List Nat), u = s.taken ln us →
    s.runs (Say.keyShowClear slot us) ln us (changing [.operator] [37]) false → u.isSecondary = false → u.namesTwinKey slot.toList = false →
    hit = (u.keys.slots.filter (fun x => x.2.lost && (match slot with | some c => x.1 == c | none => true))).map (·.1) →
    (hit = [] → exec (.keyShowClear ln slot us) s = .next (u.done ln [] [("cleared", "0"), ("jseq", dec u.keys.jseq)])) ∧
    (∀ c r, hit = c :: r → u.domIn 1 = true → u.domIn 9 = true → exec (.keyShowClear ln slot us) s =
      .next ((u.startUpdate {
        slot := c, content := none, startUs := u.clk, line := true, clears := hit,
        kv := [("cleared", dec hit.length), ("jseq", "")], data := [] }).waiting ln .journal))) ∧
  (∀ (s u : State) (ln : Ln) (owner : Option Nat) (frm us : Nat) (hit : List (Nat × KeySlot)), u = s.taken ln us →
    s.runs (Say.keyList owner frm us) ln us (reading rolesOHM [37]) false →
    hit = u.keys.slots.filter (fun x =>
      x.2.state != .empty && decide (frm ≤ x.1) && (match owner with | some p => x.2.owner == p | none => true)) →
    exec (.keyList ln owner frm us) s = .next (u.reply ln.path (.ok ln.tag
      ((hit.take 256).map (fun x => [("slot", keySlotId x.1), ("state", x.2.state.name)] ++ x.2.kv))
      [("n", dec (min 256 hit.length)), ("next", match hit[256]? with | some x => keySlotId x.1 | none => "none")])))

/-- Rests on R602, R612 to R618, R1012 to R1016: the `cipher` verb. `cipherFault` is the refusal of R1013 for a slot and the kinds a form takes. -/
def Obligations.CipherCommands : Prop :=
  (∀ (s u : State) (ln : Ln) (us : Nat), u = s.taken ln us → s.runs (Say.cipherShow us) ln us (reading rolesOHM []) false →
    exec (.cipherShow ln us) s = .next (u.reply ln.path (.ok ln.tag []
      [("cores", dec (2 * ([33, 34, 35, 36].filter u.domIn).length)), ("ic", if u.domIn 38 then "in" else "off"),
       ("nonce", dec u.keys.nonce), ("limit", dec u.keys.limit)]))) ∧
  (∀ (s u : State) (ln : Ln) (slot : Nat) (hex : Option Bytes) (us n serial : Nat) (m : Bytes), u = s.taken ln us →
    s.runs (Say.cipherGmac slot hex us) ln us (reading [.operator, .host] [37, 38]) false → u.cipherMsg ln.path hex = some m → u.cipherFault slot [3, 4] = none →
    u.domIn 38 = true → n = u.keys.nonce → n < u.keys.limit → serial = u.get SYS_SERIAL.SERIAL →
    exec (.cipherGmac ln slot hex us) s = .next (State.reply { u with keys := { u.keys with nonce := n + 1 } } ln.path (.ok ln.tag []
      [("tag", hexBytes (gmac (u.slot slot).material (nonceBytes serial n) m)), ("nonce_serial", hexPlain 8 serial),
       ("nonce_count", dec n)]))) ∧
  (∀ (s u : State) (ln : Ln) (slot : Nat) (hex : Option Bytes) (us : Nat) (m : Bytes), u = s.taken ln us →
    s.runs (Say.cipherCmac slot hex us) ln us (reading [.operator, .host] [37, 38]) false → u.cipherMsg ln.path hex = some m → u.cipherFault slot [5, 6] = none →
    u.domIn 38 = true →
    exec (.cipherCmac ln slot hex us) s = .next (u.reply ln.path (.ok ln.tag [] [("tag", hexBytes (cmac (u.slot slot).material m))]))) ∧
  (∀ (s u : State) (ln : Ln) (slot : Nat) (hex : Bytes) (us : Nat), u = s.taken ln us →
    hex.length = 16 → u.cipherFault slot [7, 8] = none →
    (s.runs (Say.cipherEnc slot hex us) ln us (reading [.operator, .host] [37]) false →
      exec (.cipherEnc ln slot hex us) s = .next (u.reply ln.path (.ok ln.tag [] [("hex", hexBytes (aesEnc (u.slot slot).material hex))]))) ∧
    (s.runs (Say.cipherDec slot hex us) ln us (reading [.operator, .host] [37]) false →
      exec (.cipherDec ln slot hex us) s = .next (u.reply ln.path (.ok ln.tag [] [("hex", hexBytes (aesDec (u.slot slot).material hex))])))) ∧
  (∀ (s u : State) (ln : Ln) (slot : Nat) (hex : Bytes) (us : Nat), u = s.taken ln us →
    hex.length ≠ 16 →
    (s.runs (Say.cipherEnc slot hex us) ln us (reading [.operator, .host] [37]) false → exec (.cipherEnc ln slot hex us) s = .next (u.reply ln.path (.er ln.tag .badArg))) ∧
    (s.runs (Say.cipherDec slot hex us) ln us (reading [.operator, .host] [37]) false → exec (.cipherDec ln slot hex us) s = .next (u.reply ln.path (.er ln.tag .badArg))))

/-- Rests on R400 to R403, R424, R1017 to R1020 and R456, R457, R1021 to R1024: the verbs `cache` and `map`. -/
def Obligations.CacheAndMapCommands : Prop :=
  (∀ (s u : State) (ln : Ln) (p us : Nat), u = s.taken ln us → (p ≤ 255 → s.runs (Say.cacheShow (some p) us) ln us (reading rolesOHM [43]) false → exec (.cacheShow ln (some p) us) s = .next (u.reply ln.path (.ok ln.tag [] (u.shareKv p)))) ∧
    (255 < p → s.runs (Say.cacheShow (some p) us) ln us (reading rolesOHM [43]) false → exec (.cacheShow ln (some p) us) s = .next (u.reply ln.path (.er ln.tag .badArg))) ∧
    (s.runs (Say.cacheShow none us) ln us (reading rolesOHM [43]) false → exec (.cacheShow ln none us) s = .next (u.reply ln.path (.ok ln.tag [] u.cacheKv))) ∧
    (u.shareKv p).map (·.1) =
      ["pocket", "clean_min", "clean_max", "dirty_min", "dirty_max", "clean_mib", "dirty_mib", "emin_mib", "pf_mib"] ∧
    u.cacheKv.map (·.1) = ["size_mib", "window_mib", "window_set", "used_mib", "budget_mib", "dirty_mib", "baste", "prefetch", "flush_hi",
      "flush_lo", "ahead"]) ∧
  (∀ (s u v : State) (ln : Ln) (p us : Nat) (a : ShareAttrs) (k n : Pocket), u = s.taken ln us →
    s.runs (Say.cacheSet p a us) ln us (changing rolesOHM [43]) false → u.isSecondary = false → p ≠ 0 → u.pockets.lookup p = some k → k.state ≠ .deleting →
    n = { k with
      cleanMin := a.cleanMin.getD k.cleanMin, cleanMax := a.cleanMax.getD k.cleanMax, dirtyMin := a.dirtyMin.getD k.dirtyMin,
      dirtyMax := a.dirtyMax.getD k.dirtyMax } →
    within a.cleanMin 0 65535 = true → within a.cleanMax 0 65535 = true → within a.dirtyMin 0 65535 = true →
    within a.dirtyMax 0 65535 = true → n.cleanMin ≤ n.cleanMax → n.dirtyMin ≤ n.dirtyMax →
    (((u.pockets.filter (fun x => x.1 ≠ p)).map (fun x => x.2.cleanMin + x.2.dirtyMin)).sum + n.cleanMin + n.dirtyMin ≤ u.get CCH_SIZE.MIB →
      v = ((u.setPocket p n).trimClean p (256 * n.cleanMax) u.cache.entries.length).tell ["cache", "set", pocketId p]
        [("clean_min", dec n.cleanMin), ("clean_max", dec n.cleanMax), ("dirty_min", dec n.dirtyMin), ("dirty_max", dec n.dirtyMax)] →
      exec (.cacheSet ln p a us) s = .next (v.done ln [] (v.shareKv p))) ∧
    (u.get CCH_SIZE.MIB < ((u.pockets.filter (fun x => x.1 ≠ p)).map (fun x => x.2.cleanMin + x.2.dirtyMin)).sum + n.cleanMin + n.dirtyMin →
      exec (.cacheSet ln p a us) s = .next (u.refused ln .budget))) ∧
  (∀ (s u v : State) (ln : Ln) (us : Nat) (a : CacheAttrs), u = s.taken ln us → s.runs (Say.cacheCfg a us) ln us (changing rolesOHM [43]) false →
    u.isSecondary = false → within a.flushHi 1 100 = true → within a.flushLo 1 100 = true → within a.ahead 128 2048 = true →
    multipleOf a.ahead 128 = true → within a.window 256 4096 = true →
    a.flushLo.getD (u.get CCH_CFG.FLUSH_LO) ≤ a.flushHi.getD (u.get CCH_CFG.FLUSH_HI) →
    v = (((((((u.keepIf CCH_CFG.BASTE_EN (a.baste.map bit01)).keepIf CCH_CFG.PF_EN (a.prefetch.map bit01)).keepIf
      CCH_CFG.FLUSH_HI a.flushHi).keepIf CCH_CFG.FLUSH_LO a.flushLo).keepIf CCH_CFG.PF_AHEAD (a.ahead.map (fun n => n / 128 - 1))).keepIf
      CCH_INBOUND.WINDOW_MIB a.window).tell ["cache", "cfg"] (cacheAttrsKv a)).flushMode →
    exec (.cacheCfg ln a us) s = .next (v.done ln [] v.cacheKv)) ∧
  (∀ (s u : State) (ln : Ln) (us : Nat), u = s.taken ln us → s.runs (Say.mapShow us) ln us (reading rolesOHM [43]) false →
    exec (.mapShow ln us) s = .next (u.reply ln.path (.ok ln.tag []
      [("segments", dec u.indexTotal), ("resident", dec u.heldSegs), ("dirty", dec u.dirtySegs), ("eff_cap", dec u.effCap),
       ("dirty_cap", dec (u.get MAP_CFG.DIRTY_CAP)), ("ckpt_ms", dec u.ckptAge), ("deltas", dec u.deltasSince),
       ("state", if u.flag SYS_BOOTSTAT.MAP_RESIDENT then "resident" else "paging"), ("replay", yesNo (u.flag SYS_BOOTSTAT.REPLAY))]))) ∧
  (∀ (s u : State) (ln : Ln) (p lba us e : Nat) (k : Pocket) (held : Bool), u = s.taken ln us → s.runs (Say.mapLookup p lba us) ln us (reading rolesOHM [43]) false →
    u.pockets.lookup p = some k → lba < 4 * k.size → e = u.segOf p (lba / 4) →
    held = (match u.seg e with | some g => g.resident | none => false) →
    (u.segAbsent e = false → exec (.mapLookup ln p lba us) s = .next ((u.segHeld e).reply ln.path (.ok ln.tag [] (u.lookupKv p lba held)))) ∧
    (u.segAbsent e = true → exec (.mapLookup ln p lba us) s =
      .next ((u.needSeg e).setSession ln.path { (u.needSeg e).session ln.path with await := some { tag := ln.tag, what := .mapLookup p lba, sinceUs := (u.needSeg e).clk } }))) ∧
  (∀ (s u v : State) (ln : Ln) (us : Nat), u = s.taken ln us → s.runs (Say.mapCheckpoint us) ln us (changing rolesOHM [43]) false →
    v = { u with flash := { u.flash with ckptOwnUs := us } } →
    (u.flash.ckptRuns = none → u.flag SYS_BOOTSTAT.REPLAY = false →
      exec (.mapCheckpoint ln us) s = .next ((v.beginCkpt false true).waiting ln .checkpoint)) ∧
    (u.flash.ckptRuns ≠ none ∨ u.flag SYS_BOOTSTAT.REPLAY = true → exec (.mapCheckpoint ln us) s =
      .next (State.waiting { v with flash := { v.flash with ckptOwn := true } } ln .checkpoint))) ∧
  (∀ (s u : State) (ln : Ln) (cap us : Nat), u = s.taken ln us → s.runs (Say.mapCfg cap us) ln us (changing [.operator] [43]) false →
    (16 ≤ cap → cap ≤ 2048 → exec (.mapCfg ln cap us) s = .next ((u.keep MAP_CFG.DIRTY_CAP cap).done ln [] [("dirty_cap", dec cap), ("eff_cap", dec (u.keep MAP_CFG.DIRTY_CAP cap).effCap)])) ∧
    (cap < 16 ∨ 2048 < cap → exec (.mapCfg ln cap us) s = .next (u.refused ln .badArg)))

/-- Rests on R928, R933, R1025 to R1028 and R247, R1029 to R1031: the verbs `meter` and `link`. -/
def Obligations.MeterAndLinkCommands : Prop :=
  (∀ (s u : State) (ln : Ln) (p us : Nat), u = s.taken ln us → s.runs (Say.meterShow p us) ln us (reading rolesOHM []) false → p ≤ 255 →
    (u.metered p = true → exec (.meterShow ln p us) s = .next (u.reply ln.path (.ok ln.tag []
      ([("pocket", pocketId p), ("gen", dec (u.genOf p)), ("minute", dec (u.get HTG_MINUTE.MINUTE)),
        ("samples", dec (u.htg.minute p).samples)] ++
       ["rd", "wr", "cmds", "busy", "energy", "prog", "cache", "twin"].zip ((u.htg.minute p).values.map dec))))) ∧
    (u.metered p = false → exec (.meterShow ln p us) s = .next (u.reply ln.path (.er ln.tag .wrongState)))) ∧
  (∀ (s u : State) (ln : Ln) (p us : Nat) (ring : List Bucket), u = s.taken ln us → p ≤ 255 →
    ring = (u.htg.rings.lookup p).getD [] →
    (s.runs (Say.meterRead p none us) ln us (reading rolesOHM []) false → exec (.meterRead ln p none us) s = .next (u.reply ln.path (.ok ln.tag
      ((((List.range ring.length).zip ring).map (fun x => bucketLines x.1 x.2)).flatten) [("n", dec ring.length)]))) ∧
    (∀ (i : Nat) (rows : List (Nat × Bucket)), i ≤ 15 → rows = ((List.range ring.length).zip ring).filter (fun x => x.1 == i) →
      s.runs (Say.meterRead p (some i) us) ln us (reading rolesOHM []) false → exec (.meterRead ln p (some i) us) s = .next (u.reply ln.path (.ok ln.tag
        ((rows.map (fun x => bucketLines x.1 x.2)).flatten) [("n", dec rows.length)])))) ∧
  (∀ (s u : State) (ln : Ln) (p gen minute us : Nat) (hit : Bucket → Bool), u = s.taken ln us → s.runs (Say.meterAck p gen minute us) ln us (changing [.operator, .host] []) false →
    p ≤ 255 →
    hit = (fun b => le b.bytes 1 1 == p && le b.bytes 12 4 == gen && le b.bytes 4 4 == minute && b.state != 3) →
    (u.joined = false → exec (.meterAck ln p gen minute us) s = .next (State.done { u with htg := { u.htg with
        rings := u.htg.rings.map (fun r => (r.1, r.2.map (fun b => if hit b then { b with state := 3 } else b))) } } ln
      [] [("collected", if ((u.htg.rings.lookup p).getD []).any hit then "1" else "0")])) ∧
    (u.joined = true → exec (.meterAck ln p gen minute us) s = .next (u.refused ln .wrongState))) ∧
  (∀ (s u v : State) (ln : Ln) (k base : Option Nat) (us : Nat), u = s.taken ln us → s.runs (Say.meterCfg k base us) ln us (changing [.operator] []) false →
    within k 0 65535 = true → within base 0 (2 ^ 32 - 1) = true → v = (u.keepIf HTG_CFG.K k).keepIf HTG_BASE.BASE base →
    exec (.meterCfg ln k base us) s = .next (v.done ln [] [("k", dec (v.get HTG_CFG.K)), ("base", dec (v.get HTG_BASE.BASE))])) ∧
  (∀ (s u : State) (ln : Ln) (us : Nat), u = s.taken ln us → s.runs (Say.linkShow us) ln us (reading rolesOHM []) false →
    (u.get SLV_STAT.STATE < 2 → exec (.linkShow ln us) s = .next (u.reply ln.path (.ok ln.tag []
      [("state", ["reset", "negotiating", "data", "stopped"].getD (u.get SLV_STAT.STATE) "reset")]))) ∧
    (2 ≤ u.get SLV_STAT.STATE → exec (.linkShow ln us) s = .next (u.reply ln.path (.ok ln.tag []
      [("state", ["reset", "negotiating", "data", "stopped"].getD (u.get SLV_STAT.STATE) "reset"), ("lanes", dec u.laneCount),
       ("rate", rateText (u.get SLV_STAT.RATE)), ("gusset", onOff (u.flag SLV_STAT.GUSSET)), ("split", onOff (u.flag SLV_STAT.SPLIT)),
       ("max_frame", dec (u.get SLV_FORCE1.MAX_FRAME)), ("turn_frames", dec (u.get SLV_FORCE0.TURN_MAX_FRAMES)),
       ("turn_us", dec (u.get SLV_FORCE0.TURN_MAX_US)), ("idle_us", dec (u.get SLV_FORCE1.IDLE_HOLD_US)),
       ("lease", leaseName (u.get SLV_LEASE.MODE)), ("m", dec (u.get SLV_STAT.LEASE_M))])))) ∧
  (∀ (s u : State) (ln : Ln) (us : Nat), u = s.taken ln us → s.runs (Say.linkRetrain us) ln us (changing [.operator, .host] [26]) false →
    (2 ≤ u.get SLV_STAT.STATE → exec (.linkRetrain ln us) s = .next (State.done { u.retrain 2 with
      slv := { (u.retrain 2).slv with okFirst := ln.path == .mgt } } ln [] [])) ∧
    (u.get SLV_STAT.STATE < 2 → exec (.linkRetrain ln us) s = .next (u.refused ln .wrongState))) ∧
  (∀ (s u v : State) (ln : Ln) (a : LinkAttrs) (us : Nat), u = s.taken ln us → s.runs (Say.linkCfg a us) ln us (changing [.operator, .host] [26]) false →
    within a.maxFrame 256 4096 = true → within a.turnFrames 1 1024 = true → within a.turnUs 1 1000 = true → within a.idleUs 10 10000 = true →
    within a.lease 0 2 = true → within a.fixedM 1 7 = true →
    v = (((((u.keepIf SLV_CFG.MAX_FRAME a.maxFrame).keepIf SLV_TURN.TURN_MAX_FRAMES a.turnFrames).keepIf SLV_TURN.TURN_MAX_US a.turnUs).keepIf
      SLV_IDLE.IDLE_HOLD_US a.idleUs).keepIf SLV_LEASE.MODE a.lease).keepIf SLV_LEASE.FIXED_M a.fixedM →
    exec (.linkCfg ln a us) s = .next (v.done ln []
      [("max_frame", dec (v.get SLV_CFG.MAX_FRAME)), ("turn_frames", dec (v.get SLV_TURN.TURN_MAX_FRAMES)),
       ("turn_us", dec (v.get SLV_TURN.TURN_MAX_US)), ("idle_us", dec (v.get SLV_IDLE.IDLE_HOLD_US)),
       ("lease", leaseName (v.get SLV_LEASE.MODE)), ("fixed_m", dec (v.get SLV_LEASE.FIXED_M))]))

/-- Rests on R1058 to R1061: the `flash` verb. -/
def Obligations.FlashCommands : Prop :=
  (∀ (s u : State) (ln : Ln) (us : Nat), u = s.taken ln us → s.runs (Say.flashShow us) ln us (reading rolesOHM [44]) false →
    exec (.flashShow ln us) s = .next (u.reply ln.path (.ok ln.tag []
      [("cap_stitches", dec u.flash.usable), ("free", dec u.freeBolts), ("open", dec u.openCount), ("readonly", yesNo (u.flag MOV_STAT.READONLY)),
       ("gc", ["idle", "background", "urgent"].getD (u.get MOV_STAT.GC) "idle"), ("erase_max", dec u.eraseMax), ("erase_mean", dec u.eraseMean),
       ("op", dec (u.get MOV_CFG.OP_PCT)), ("open_host", dec (u.get MOV_CFG.OPEN_HOST)),
       ("quads", hex0x 4 (((List.range 16).map (fun q => if u.domIn (1 + q) then 2 ^ q else 0)).sum))]))) ∧
  (∀ (s u : State) (ln : Ln) (ch us : Nat), u = s.taken ln us → s.runs (Say.flashDie ch us) ln us (reading rolesOHM []) false →
    (ch ≤ 63 → exec (.flashDie ln ch us) s =
      .next (u.reply ln.path (.ok ln.tag [u.dieKv ch 0, u.dieKv ch 1, u.dieKv ch 2, u.dieKv ch 3] [("n", "4")]))) ∧
    (63 < ch → exec (.flashDie ln ch us) s = .next (u.reply ln.path (.er ln.tag .badArg)))) ∧
  (∀ (s u v : State) (ln : Ln) (a : MoverAttrs) (us : Nat), u = s.taken ln us → s.runs (Say.flashCfg a us) ln us (changing [.operator] [44]) false →
    within a.op 2 50 = true → within a.openHost 1 8 = true → within a.gcStart 3 64 = true → within a.gcUrgent 0 255 = true →
    within a.wlSpread 50 10000 = true →
    v = (((((u.keepIf MOV_CFG.OP_PCT a.op).keepIf MOV_CFG.OPEN_HOST a.openHost).keepIf MOV_GC.START a.gcStart).keepIf MOV_GC.URGENT
      a.gcUrgent).keepIf MOV_WL.SPREAD a.wlSpread).gcMode →
    exec (.flashCfg ln a us) s = .next (v.done ln []
      [("op", dec (v.get MOV_CFG.OP_PCT)), ("open_host", dec (v.get MOV_CFG.OPEN_HOST)), ("gc_start", dec (v.get MOV_GC.START)),
       ("gc_urgent", dec (v.get MOV_GC.URGENT)), ("wl_spread", dec (v.get MOV_WL.SPREAD))])) ∧
  (∀ (s u v : State) (ln : Ln) (us : Nat), u = s.taken ln us → s.runs (Say.flashFormat (u.get SYS_SERIAL.SERIAL) us) ln us (changing [.service] [43, 44]) false →
    u.pockets.any (fun x => x.1 != 0) = false → u.isSecondary = false → v = { u with flash := { u.flash with formatting := true } } →
    exec (.flashFormat ln (u.get SYS_SERIAL.SERIAL) us) s = .next (v.jobbed ln "flash format")) ∧
  (∀ (s u : State) (ln : Ln) (confirm us : Nat), u = s.taken ln us → s.runs (Say.flashFormat confirm us) ln us (changing [.service] [43, 44]) false →
    confirm ≠ u.get SYS_SERIAL.SERIAL → exec (.flashFormat ln confirm us) s = .next (u.refused ln .badArg))

/-- Rests on R551, R1062 to R1064: the `dram` verb. A setting without `ch=` is kept for both channels. -/
def Obligations.DramCommands : Prop :=
  (∀ (s u : State) (ln : Ln) (us : Nat), u = s.taken ln us → s.runs (Say.dramShow us) ln us (reading rolesOHM (dramUnits none)) false →
    ∃ rows : List (List KV), exec (.dramShow ln us) s = .next (u.reply ln.path (.ok ln.tag rows [("n", dec rows.length)])) ∧
      rows.length = ([0, 1].filter (fun n => u.get (DRC_CFG.POP n) != 0)).length + u.dram.carve.length ∧
      rows.map (fun r => r.map (·.1)) =
        ([0, 1].filter (fun n => u.get (DRC_CFG.POP n) != 0)).map (fun _ => ["ch", "size_gib", "rate", "train", "ranks"]) ++
        u.dram.carve.map (fun _ => ["region", "base", "size_mib"])) ∧
  (∀ (s u v : State) (ln : Ln) (ch : Option Nat) (a : DramAttrs) (us : Nat) (cs : List Nat), u = s.taken ln us →
    s.runs (Say.dramCfg ch a us) ln us (changing [.operator] (dramUnits ch)) false → within ch 0 1 = true → (a.rateMax = none ∨ a.rateMax = some 6400 ∨ a.rateMax = some 3200) →
    within a.idleNs 20 5000 = true → within a.guardNs 500 65535 = true → within a.act 256 32768 = true → within a.share 10 90 = true →
    cs = (match ch with | some n => [n] | none => [0, 1]) →
    v = (((((((u.keepCh cs DRC_CFG.RATE_MAX (a.rateMax.map (fun n => if n = 3200 then 1 else 0))).keepCh cs DRC_CFG.SPARE_EN
      (a.spare.map bit01)).keepCh cs DRC_CFG.QOS (a.deadline.map bit01)).keepCh cs DRC_CFG.PAGE (a.close.map bit01)).keepCh cs DRC_PAGE.IDLE_NS
      a.idleNs).keepCh cs DRC_GUARD.NS a.guardNs).keepCh cs DRC_ACT.THRESH a.act).keepCh cs DRC_SPARE.SHARE a.share →
    exec (.dramCfg ln ch a us) s = .next (v.done ln []
      [("rate_max", if v.flag (DRC_CFG.RATE_MAX 0) then "3200" else "6400"), ("spare", onOff (v.flag (DRC_CFG.SPARE_EN 0))),
       ("qos", if v.flag (DRC_CFG.QOS 0) then "deadline" else "priority"), ("page", if v.flag (DRC_CFG.PAGE 0) then "close" else "hint"),
       ("idle_ns", dec (v.get (DRC_PAGE.IDLE_NS 0))), ("guard_ns", dec (v.get (DRC_GUARD.NS 0))), ("act", dec (v.get (DRC_ACT.THRESH 0))),
       ("share", dec (v.get (DRC_SPARE.SHARE 0)))])) ∧
  (∀ (s u v : State) (ln : Ln) (port : Nat) (ch target prio : Option Nat) (us : Nat) (cs : List Nat), u = s.taken ln us →
    s.runs (Say.dramPort port ch target prio us) ln us (changing [.operator] (dramUnits ch)) false → port ≤ 7 → within ch 0 1 = true → within target 10 65535 = true → within prio 0 7 = true →
    cs = (match ch with | some n => [n] | none => [0, 1]) →
    v = (u.keepCh cs (fun n => DRC_PORT.TARGET_NS n port) target).keepCh cs (fun n => DRC_PORT.PRIO n port) prio →
    exec (.dramPort ln port ch target prio us) s = .next (v.done ln []
      [("port", portName port), ("target_ns", dec (v.get (DRC_PORT.TARGET_NS 0 port))), ("prio", dec (v.get (DRC_PORT.PRIO 0 port)))])) ∧
  (∀ (s u : State) (ln : Ln) (cs bg0 bg1 bg2 ba0 ba1 us : Nat), u = s.taken ln us → s.runs (Say.dramMasks cs bg0 bg1 bg2 ba0 ba1 us) ln us (changing [.operator] (dramUnits none)) false →
    (maskOk 11 cs = true → maskOk 6 bg0 = true → maskOk 7 bg1 = true → maskOk 8 bg2 = true → maskOk 9 ba0 = true → maskOk 10 ba1 = true →
      exec (.dramMasks ln cs bg0 bg1 bg2 ba0 ba1 us) s =
        .next (State.done { u with dram := { u.dram with masksNext := some [cs, bg0, bg1, bg2, ba0, ba1] } } ln []
          [("cs", hex0x 8 cs), ("bg0", hex0x 8 bg0), ("bg1", hex0x 8 bg1), ("bg2", hex0x 8 bg2), ("ba0", hex0x 8 ba0), ("ba1", hex0x 8 ba1),
           ("at", "next_reset")])) ∧
    (maskOk 11 cs = false ∨ maskOk 6 bg0 = false ∨ maskOk 7 bg1 = false ∨ maskOk 8 bg2 = false ∨ maskOk 9 ba0 = false ∨ maskOk 10 ba1 = false →
      exec (.dramMasks ln cs bg0 bg1 bg2 ba0 ba1 us) s = .next (u.refused ln .badArg)))

/-- Rests on R528, R529, R1065 to R1067: the `ecc` verb, and a write of ECC_INJ. -/
def Obligations.EccCommands : Prop :=
  (∀ (s u : State) (ln : Ln) (us : Nat), u = s.taken ln us → s.runs (Say.eccShow us) ln us (reading rolesOHM []) false →
    exec (.eccShow ln us) s = .next (u.reply ln.path (.ok ln.tag [] (u.eccKv ++
      [("armed", yesNo (u.flag ECC_INJ.ARM)), ("selftest", hex0x 1 (u.get ECC_SELFTEST.PASS)), ("scrub_lap_s", dec (u.get ECC_DSCRUB.LAP_S)),
       ("patrol_lap_h", dec (u.get ECC_FPATROL.LAP_H)), ("dmark0", u.markText 0), ("dmark1", u.markText 1)]))) ∧
    u.eccKv.map (·.1) = ["refresh", "retry", "rb", "patrol", "scrub", "z", "growth", "fixed_t", "t_init", "warn_h"]) ∧
  (∀ (s u : State) (ln : Ln) (g us : Nat), u = s.taken ln us → s.runs (Say.eccGroup g us) ln us (reading rolesOHM []) false →
    (g ≤ 15 → exec (.eccGroup ln g us) s = .next (u.reply ln.path (.ok ln.tag []
      [("group", dec g), ("tnext", dec (u.get (ECC_GRBER.TNEXT g))), ("ppb", dec (u.get (ECC_GRBER.PPB g)))]))) ∧
    (15 < g → exec (.eccGroup ln g us) s = .next (u.reply ln.path (.er ln.tag .badArg)))) ∧
  (∀ (s u v : State) (ln : Ln) (a : EccAttrs) (us : Nat), u = s.taken ln us → s.runs (Say.eccCfg a us) ln us (changing [.operator] []) false →
    within a.refresh 50 100 = true → within a.retry 0 12 = true → within a.rb 0 12 = true → within a.z 2 12 = true →
    within a.growth 8 255 = true → (a.fixedT = some 0 ∨ within a.fixedT 16 160 = true) → within a.tInit 16 160 = true →
    multipleOf a.tInit 8 = true → within a.warnH 24 8760 = true →
    v = ((((((((((u.keepIf ECC_CFG.REFRESH_PCT a.refresh).keepIf ECC_CFG.RETRY_STEPS a.retry).keepIf ECC_CFG.RB_STEPS a.rb).keepIf
      ECC_CFG.PATROL_EN (a.patrol.map bit01)).keepIf ECC_CFG.SCRUB_EN (a.scrub.map bit01)).keepIf ECC_STR.Z a.z).keepIf ECC_STR.GROWTH
      a.growth).keepIf ECC_STR.FIXED_T a.fixedT).keepIf ECC_STR.T_INIT a.tInit).keepIf ECC_FPATROL.WARN_H a.warnH).showStrengths →
    exec (.eccCfg ln a us) s = .next (v.done ln [] v.eccKv)) ∧
  (∀ (s u v : State) (ln : Ln) (target : Nat) (unit bits : Option Nat) (us : Nat), u = s.taken ln us →
    s.runs (Say.eccInject target unit bits us) ln us (changing [.operator] []) false → target ≤ 3 →
    within unit 0 (if target = 3 then 3 else if target = 0 then 50 else 255) = true → within bits 1 255 = true →
    v = (((u.set ECC_INJ.TARGET target).set ECC_INJ.UNIT (unit.getD 0)).set ECC_INJ.BITS (bits.getD 1)).set ECC_INJ.ARM 1 →
    (u.flag ECC_INJ.ARM = false → v.injMay = true →
      exec (.eccInject ln target unit bits us) s = .next (v.done ln [] [("armed", "yes")])) ∧
    (u.flag ECC_INJ.ARM = false → v.injMay = false →
      exec (.eccInject ln target unit bits us) s = .next (u.refused ln .lifecycle)) ∧
    (u.flag ECC_INJ.ARM = true → exec (.eccInject ln target unit bits us) s = .next (u.refused ln .wrongState))) ∧
  (∀ (s v : State) (target unit bits : Nat),
    v = (((s.set ECC_INJ.TARGET target).set ECC_INJ.UNIT unit).set ECC_INJ.BITS bits).set ECC_INJ.ARM 1 →
    exec (.eccInjArm target unit bits false) s = .next (if v.injMay then v else v.set ECC_INJ.ARM 0) ∧
    exec (.eccInjArm target unit bits true) s = .next s)

/-- Rests on R707 to R709, R715, R732, R743, R1053 to R1057: the `lining` verb. -/
def Obligations.LiningCommands : Prop :=
  (∀ (s u : State) (ln : Ln) (us : Nat), u = s.taken ln us → s.runs (Say.liningShow us) ln us (reading rolesOHM []) false →
    exec (.liningShow ln us) s = .next (u.reply ln.path (.ok ln.tag []
      [("state", linName (u.get LIN_STAT.STATE)), ("voc_mv", dec (u.get LIN_VI.VOC_MV)), ("i_ma", decInt (unsigned16 (u.get LIN_VI.I_MA))),
       ("t_dc", decInt u.bankT), ("cap_10mf", dec (u.get LIN_CAP.EST_10MF)), ("use_10mf", dec (u.get LIN_CAP.USE_10MF)),
       ("esr", dec (u.get LIN_ESR.EST)), ("budget_mib", dec (u.get CCH_BUDGET.MIB)), ("raw_mib", dec (u.get LIN_BUDGET.RAW_MIB)),
       ("eb_pj", dec (u.get LIN_EB.PJ)), ("float_s", dec (u.get LIN_ETA.FLOAT_S)), ("cap_s", dec (u.get LIN_ETA.CAP_S)),
       ("faults", hex0x 2 (u.word LIN_FAULT.addr).toNat), ("absent", yesNo (u.flag LIN_STAT.ABSENT))]))) ∧
  (∀ (s u v : State) (ln : Ln) (a : LiningAttrs) (us : Nat), u = s.taken ln us → s.runs (Say.liningCfg a us) ln us (changing [.operator] []) false →
    descInRange a.esrMax a.float a.ilim a.slotW = true → within a.eta 500 980 = true → within a.kder 500 1000 = true →
    within a.efix 10 1000 = true → within a.cap 1 16 = true → within a.floorW 0 48 = true → v = u.configLining a →
    exec (.liningCfg ln a us) s = .next (v.done ln []
      [("chg", onOff (v.flag LIN_CFG.CHG_EN)), ("float", dec v.vFloat), ("ilim", dec v.iLim), ("slot_w", dec (v.get LIN_CFG.SLOT_W)),
       ("esr_max", dec (v.get LIN_ESR.MAX)), ("eta", dec (v.get LIN_K.ETA)), ("kder", dec (v.get LIN_K.KDER)),
       ("efix", dec (v.get LIN_K.EFIX)), ("cap", dec (v.get LIN_BUDGET.CAP)), ("floor_w", dec (v.get LIN_EB.FLOOR_W))])) ∧
  (∀ (s u : State) (ln : Ln) (us : Nat), u = s.taken ln us → s.runs (Say.liningProbe us) ln us (changing [.operator] []) false →
    (u.get LIN_STAT.STATE = 3 ∨ u.get LIN_STAT.STATE = 4 →
      exec (.liningProbe ln us) s = .next (u.startProbe.jobbed ln "lining probe")) ∧
    (u.get LIN_STAT.STATE ≠ 3 → u.get LIN_STAT.STATE ≠ 4 →
      exec (.liningProbe ln us) s = .next (u.refused ln .wrongState))) ∧
  (∀ (s u : State) (ln : Ln) (us : Nat), u = s.taken ln us → s.runs (Say.liningDrill us) ln us (changing [.operator] []) false →
    (u.get LCS_STATE.STATE = 0 ∨ u.get LCS_STATE.STATE = 1 ∨ u.get LCS_STATE.STATE = 3 →
      exec (.liningDrill ln us) s = .next (u.done ln [] []).drill) ∧
    (u.get LCS_STATE.STATE ≠ 0 → u.get LCS_STATE.STATE ≠ 1 → u.get LCS_STATE.STATE ≠ 3 →
      exec (.liningDrill ln us) s = .next (u.refused ln .lifecycle))) ∧
  (∀ (s u : State) (ln : Ln) (a : DescAttrs) (us : Nat) (d : LinDesc), u = s.taken ln us → u.get LCS_STATE.STATE = 1 → within a.nom 1000 6000 = true → descInRange a.esrMax a.float a.ilim a.slotW = true →
    u.lin.desc.taken a = false →
    (d = u.lin.desc.program a 5 → s.runs (Say.liningDesc a none us) ln us (changing [.operator] []) false → exec (.liningDesc ln a none us) s =
      .next ((u.setLin { u.lin with desc := d }).done ln []
        [("nom", dec d.nomV), ("esr_max", dec d.esrV), ("float", dec (10 * d.floatV)), ("ilim", dec (250 * (d.ilimV + 1))),
         ("slot_w", dec d.slotV)])) ∧
    (∀ bad, d = u.lin.desc.program a bad → s.runs (Say.liningDesc a (some bad) us) ln us (changing [.operator] []) false → exec (.liningDesc ln a (some bad) us) s =
      .next ((u.setLin { u.lin with desc := d }).refused ln .timeout))) ∧
  (∀ (s u : State) (ln : Ln) (a : DescAttrs) (bad : Option Nat) (us : Nat), u = s.taken ln us → s.runs (Say.liningDesc a bad us) ln us (changing [.operator] []) false →
    u.get LCS_STATE.STATE ≠ 1 → exec (.liningDesc ln a bad us) s = .next (u.refused ln .lifecycle))

/-- Rests on R795 to R802, R809 to R817, R823, R825, R1043 to R1048: the `power` verb. A command that enters a state answers first (R811). -/
def Obligations.PowerCommands : Prop :=
  (∀ (s u : State) (ln : Ln) (us : Nat), u = s.taken ln us → s.runs (Say.powerShow us) ln us (reading rolesOHM []) false →
    exec (.powerShow ln us) s = .next (u.reply ln.path (.ok ln.tag []
      ([("state", powerLower (u.get PWR_STATE.STATE)), ("idle", if u.flag PWR_STATE.IDLE_ARM then "armed" else "off"),
        ("level", levelName (u.get PWR_LEVEL.CFG)), ("cur", levelName (u.get PWR_LEVEL.CUR)), ("throttled", yesNo (u.flag PWR_LEVEL.THROTTLED)),
        ("avail", u.availText), ("pmbus", if u.flag PWR_PMB.OK then "ok" else "fault"), ("wake_src", wakeName (u.get PWR_WAKESRC.SRC)),
        ("wake_from", powerLower (u.get PWR_WAKESRC.FROM))])))) ∧
  (∀ (s u : State) (ln : Ln) (us : Nat), u = s.taken ln us → (u.notReadyNow = false →
      (s.runs (Say.powerStateRun us) ln us (changing rolesOHM []) false → exec (.powerStateRun ln us) s = .next ((u.set PWR_STATE.IDLE_ARM 0).done ln [] [])) ∧
      (s.runs (Say.powerStateIdle us) ln us (changing rolesOHM []) false → exec (.powerStateIdle ln us) s = .next ((u.set PWR_STATE.IDLE_ARM 1).done ln [] []))) ∧
    (u.notReadyNow = true →
      (s.runs (Say.powerStateRun us) ln us (changing rolesOHM []) false → exec (.powerStateRun ln us) s = .next (u.refused ln .notReady)) ∧
      (s.runs (Say.powerStateIdle us) ln us (changing rolesOHM []) false → exec (.powerStateIdle ln us) s = .next (u.refused ln .notReady)))) ∧
  (∀ (s u : State) (ln : Ln) (set : Option (List Nat)) (drain : Option Nat) (abort : Bool) (us : Nat) (doms : List Nat),
    u = s.taken ln us → s.runs (Say.powerStateNap set drain abort us) ln us (changing rolesOHM []) false → doms = (match set with | some l => l | none => u.napSet) →
    doms.all napAllowed = true → within drain 10 10000 = true → u.powerRefusal 2 doms = none →
    ∃ v : State, v = u.done ln [] [] ∧
      exec (.powerStateNap ln set drain abort us) s =
        .next (v.beginEntry 2 (match set with | some l => l | none => v.napSet) (drain.getD (clamp 10 10000 (v.get PWR_DRAIN.US))) abort)) ∧
  (∀ (s u v : State) (ln : Ln) (drain : Option Nat) (abort : Bool) (us : Nat), u = s.taken ln us → within drain 10 10000 = true → v = u.done ln [] [] →
    (u.powerRefusal 3 napAll = none → s.runs (Say.powerStateTack drain abort us) ln us (changing rolesOHM []) false → exec (.powerStateTack ln drain abort us) s =
      .next (v.beginEntry 3 napAll (drain.getD (clamp 10 10000 (v.get PWR_DRAIN.US))) abort)) ∧
    (u.powerRefusal 4 ((List.range 51).drop 1) = none → s.runs (Say.powerStateDormant drain abort us) ln us (changing rolesOHM []) false → exec (.powerStateDormant ln drain abort us) s =
      .next (v.beginEntry 4 ((List.range 51).drop 1) (drain.getD (clamp 10 10000 (v.get PWR_DRAIN.US))) abort)) ∧
    (∀ st, u.powerRefusal 3 napAll = some st → s.runs (Say.powerStateTack drain abort us) ln us (changing rolesOHM []) false → exec (.powerStateTack ln drain abort us) s = .next (u.refused ln st)) ∧
    (∀ st, u.powerRefusal 4 ((List.range 51).drop 1) = some st →
      s.runs (Say.powerStateDormant drain abort us) ln us (changing rolesOHM []) false → exec (.powerStateDormant ln drain abort us) s = .next (u.refused ln st))) ∧
  (∀ (s u v : State) (ln : Ln) (level us : Nat), u = s.taken ln us → s.runs (Say.powerLevel level us) ln us (changing rolesOHM []) false → level ≤ 3 →
    u.pwr.entry = none → (u.get PWR_LEVEL.AVAIL).testBit level = true → u.pwr.regBad = false → v = (u.sendHold 10).keep PWR_LEVEL.CFG level →
    (v.flag PWR_LEVEL.THROTTLED = true → exec (.powerLevel ln level us) s = .next (v.done ln [] v.levelKv)) ∧
    (v.flag PWR_LEVEL.THROTTLED = false → (v.levelAsk level).pwr.levelTo.isSome = true →
      exec (.powerLevel ln level us) s = .next ((v.levelAsk level).waiting ln .level)) ∧
    (v.flag PWR_LEVEL.THROTTLED = false → (v.levelAsk level).pwr.levelTo.isSome = false →
      exec (.powerLevel ln level us) s = .next ((v.levelAsk level).done ln [] (v.levelAsk level).levelKv))) ∧
  (∀ (s u : State) (ln : Ln) (level us : Nat), u = s.taken ln us → s.runs (Say.powerLevel level us) ln us (changing rolesOHM []) false →
    (u.pwr.entry ≠ none → exec (.powerLevel ln level us) s = .next (u.reply ln.path (.bz ln.tag))) ∧
    (u.pwr.entry = none → 3 < level → exec (.powerLevel ln level us) s = .next (u.refused ln .badArg)) ∧
    (u.pwr.entry = none → level ≤ 3 → (u.get PWR_LEVEL.AVAIL).testBit level = false →
      exec (.powerLevel ln level us) s = .next (u.refused ln .wrongState))) ∧
  (∀ (s u v : State) (ln : Ln) (nap : Option (List Nat)) (tackS tch timer : Option Nat) (wp wl : Option Bool) (us : Nat), u = s.taken ln us →
    s.runs (Say.powerSettings nap tackS tch timer wp wl us) ln us (changing [.operator] []) false → (∀ l, nap = some l → l ≠ [] ∧ l.all napAllowed = true) → within tackS 1 3600 = true →
    within tch 0 9 = true → within timer 0 16777215 = true →
    v = ((((((u.keepIf PWR_NAPSET0.SET (nap.map (fun l => domMask l % 2 ^ 32 / 2))).keepIf PWR_NAPSET1.SET
      (nap.map (fun l => domMask l / 2 ^ 32))).keepIf PWR_TACK.PERIOD_S tackS).keepIf PWR_TACK.TCH tch).keepIf PWR_WTIMER.S timer).keepIf
      PWR_WAKEEN.PMBUS (wp.map bit01)).keepIf PWR_WAKEEN.LINING (wl.map bit01) →
    exec (.powerSettings ln nap tackS tch timer wp wl us) s = .next (v.done ln []
      [("nap", rangesText v.napSet), ("tack_s", dec (v.get PWR_TACK.PERIOD_S)), ("tch", dec (v.get PWR_TACK.TCH)),
       ("timer", dec (v.get PWR_WTIMER.S)), ("wake_pmbus", onOff (v.flag PWR_WAKEEN.PMBUS)), ("wake_lining", onOff (v.flag PWR_WAKEEN.LINING))]))

/-- Rests on R754, R772, R776, R777, R779, R782, R786 to R788, R1049 to R1052, R1102, R1103: the verbs `domain` and `reset`. -/
def Obligations.DomainAndResetCommands : Prop :=
  (∀ (s u : State) (ln : Ln) (d us : Nat), u = s.taken ln us → (1 ≤ d → d ≤ 50 → s.runs (Say.domainShow (some d) us) ln us (reading rolesOHM []) false → exec (.domainShow ln (some d) us) s = .next (u.reply ln.path (.ok ln.tag []
      [("domain", domainId d), ("state", domName (u.get (PWR_DSTAT.STATE d))), ("epoch", hexPlain 2 (u.get (PWR_DSTAT.EPOCH d))),
       ("cmd_off", yesNo (u.flag (PWR_DSTAT.CMD_OFF d))), ("resettable", yesNo (u.flag (PWR_DSTAT.RESETTABLE d))),
       ("offable", yesNo (u.flag (PWR_DSTAT.OFFABLE d)))]))) ∧
    (d = 0 ∨ 50 < d → s.runs (Say.domainShow (some d) us) ln us (reading rolesOHM []) false → exec (.domainShow ln (some d) us) s = .next (u.reply ln.path (.er ln.tag .badArg))) ∧
    (s.runs (Say.domainShow none us) ln us (reading rolesOHM []) false → exec (.domainShow ln none us) s = .next (u.reply ln.path (.ok ln.tag
      (((List.range 51).drop 1).map (fun k =>
        [("domain", domainId k), ("state", domName (u.get (PWR_DSTAT.STATE k))), ("epoch", hexPlain 2 (u.get (PWR_DSTAT.EPOCH k)))]))
      [("n", "50")])))) ∧
  (∀ (s u : State) (ln : Ln) (d us : Nat), u = s.taken ln us → s.runs (Say.domainOn d us) ln us (changing rolesOHM []) false → 1 ≤ d → d ≤ 50 →
    (u.dom d = 2 ∨ u.dom d = 3 ∨ u.dom d = 1 ∨ u.dom d = 4 →
      exec (.domainOn ln d us) s = .next (u.done ln [] [("state", if u.dom d = 3 then "in" else "shadow")])) ∧
    (u.dom d = 0 → u.pwr.ramps.any (fun r => r.1 == d && r.2.command) = true → exec (.domainOn ln d us) s = .next (u.done ln [] [("state", "shadow")])) ∧
    (u.dom d = 0 → u.pwr.ramps.any (fun r => r.1 == d && r.2.command) = false → u.flag (PWR_DSTAT.OFFABLE d) = true →
      ∃ v : State, u.domainOn d .line = (v, none) ∧ exec (.domainOn ln d us) s = .next (v.waiting ln (.domainOn d)) ∧
        (d, OpBy.line) ∈ v.pwr.ramps) ∧
    (u.dom d = 0 → u.pwr.ramps.any (fun r => r.1 == d && r.2.command) = false → u.flag (PWR_DSTAT.OFFABLE d) = false →
      exec (.domainOn ln d us) s = .next (u.refused ln .wrongState))) ∧
  (∀ (s u : State) (ln : Ln) (d us : Nat) (abort : Bool) (drain : Option Nat), u = s.taken ln us → s.runs (Say.domainOff d abort drain us) ln us (changing rolesOHM []) false →
    1 ≤ d → d ≤ 50 → within drain 10 10000 = true →
    (u.flag (PWR_DSTAT.OFFABLE d) = false → exec (.domainOff ln d abort drain us) s = .next (u.refused ln .wrongState)) ∧
    (u.flag (PWR_DSTAT.OFFABLE d) = true → u.pathNeeds ln.path d = true → exec (.domainOff ln d abort drain us) s = .next (u.refused ln .wrongState)) ∧
    (u.flag (PWR_DSTAT.OFFABLE d) = true → u.pathNeeds ln.path d = false → u.dom d = 0 → ¬ ((d = 17 ∨ d = 26) ∧ u.slv.stopWas.contains d = true ∧ u.linkUp = true) →
      exec (.domainOff ln d abort drain us) s =
        .next ((((u.cutOps d none .domainOff).dropChange d).set (PWR_DSTAT.CMD_OFF d) 1).done ln [] [])) ∧
    (u.flag (PWR_DSTAT.OFFABLE d) = true → u.pathNeeds ln.path d = false → u.dom d = 0 → d = 17 → u.slv.stopWas.contains 17 = true → u.linkUp = true →
      exec (.domainOff ln d abort drain us) s =
        .next (((((u.cutOps d none .domainOff).dropChange d).set (PWR_DSTAT.CMD_OFF d) 1).linkDown).done ln [] [])) ∧
    (u.flag (PWR_DSTAT.OFFABLE d) = true → u.pathNeeds ln.path d = false → u.dom d = 0 → d = 26 → u.slv.stopWas.contains 26 = true → u.linkUp = true →
      exec (.domainOff ln d abort drain us) s =
        .next (((((u.cutOps d none .domainOff).dropChange d).set (PWR_DSTAT.CMD_OFF d) 1).sleeveReset).done ln [] [])) ∧
    (u.flag (PWR_DSTAT.OFFABLE d) = true → u.pathNeeds ln.path d = false → u.dom d = 1 ∨ u.dom d = 4 →
      exec (.domainOff ln d abort drain us) s =
        .next (((((u.takeOut d 0 .drained).cutOps d none .domainOff).dropChange d).set (PWR_DSTAT.CMD_OFF d) 1).done ln [] [])) ∧
    (u.flag (PWR_DSTAT.OFFABLE d) = true → u.pathNeeds ln.path d = false → u.dom d = 2 ∨ u.dom d = 3 →
      exec (.domainOff ln d abort drain us) s =
        .next ((u.startDrain d abort (u.clk + drain.getD (clamp 10 10000 (u.get PWR_DRAIN.US))) .line).waiting ln (.domainOff d)))) ∧
  (∀ (s u : State) (ln : Ln) (us : Nat), u = s.taken ln us → (s.runs (Say.resetCard us) ln us (changing [.operator, .mantle] []) false → exec (.resetCard ln us) s = .next ((u.done ln [] []).commandReset .cold causeCold)) ∧
    (s.runs (Say.resetWarm us) ln us (changing [.operator, .mantle] []) false → exec (.resetWarm ln us) s = .next ((u.done ln [] []).commandReset .warm causeWarm))) ∧
  (∀ (s u : State) (ln : Ln) (d us : Nat), u = s.taken ln us → s.runs (Say.resetDomain d us) ln us (changing [.operator] []) false → 1 ≤ d → d ≤ 50 →
    (u.flag (PWR_DSTAT.RESETTABLE d) = false → exec (.resetDomain ln d us) s = .next (u.refused ln .wrongState)) ∧
    (u.flag (PWR_DSTAT.RESETTABLE d) = true → u.pathNeeds ln.path d = false → u.dom d = 0 →
      exec (.resetDomain ln d us) s = .next (u.refused ln .domainOff)) ∧
    (u.flag (PWR_DSTAT.RESETTABLE d) = true → u.pathNeeds ln.path d = true → exec (.resetDomain ln d us) s = .next (u.refused ln .wrongState)) ∧
    (u.flag (PWR_DSTAT.RESETTABLE d) = true → u.pathNeeds ln.path d = false → u.dom d ≠ 0 →
      u.pwr.drains.any (fun r => r.dom == d && r.who.command) = true →
      exec (.resetDomain ln d us) s = .next ((u.resetDomain d .card).refused ln .domainOff)) ∧
    (u.flag (PWR_DSTAT.RESETTABLE d) = true → u.pathNeeds ln.path d = false → u.dom d ≠ 0 →
      u.pwr.drains.any (fun r => r.dom == d && r.who.command) = false →
      exec (.resetDomain ln d us) s = .next ((u.resetDomain d .line).waiting ln (.domainReset d))))

/-- Rests on R670 to R675, R1068 to R1074, R1104, R1105: the verbs `mpu`, `colour` and `log`. -/
def Obligations.AccessCommands : Prop :=
  (∀ (s u : State) (ln : Ln) (core : Option Nat) (us : Nat) (c : Nat), u = s.taken ln us → s.runs (Say.mpuShow core us) ln us (reading rolesOHM (if core = some 1 then [50] else [])) false →
    c = core.getD 1 → c ≤ 1 → u.dom (49 + c) ≠ 0 →
    exec (.mpuShow ln core us) s = .next (u.reply ln.path (.ok ln.tag
      ((List.range 16).map (fun i => [("region", dec i), ("en", yesNo (u.flag (MPU_RATTR.EN c i))),
        ("base", hex0x 8 (32 * u.get (MPU_RBASE.BASE c i))), ("n", dec (u.get (MPU_RATTR.N c i))),
        ("p0", attrText (u.get (MPU_RATTR.P0 c i))), ("p1", attrText (u.get (MPU_RATTR.P1 c i)))]))
      [("n", "16"), ("ext", extName (u.get MPU_EXT.STATE)), ("length", dec (u.get MPU_EXTLEN.LENGTH)),
       ("key", keySlotId (u.get MPU_EXT.KEYSLOT)), ("restarts", dec (u.get MPU_EXT.RESTARTS))]))) ∧
  (∀ (s u : State) (ln : Ln) (length us : Nat), u = s.taken ln us → s.runs (Say.mpuLoad length us) ln us (changing [.operator] []) false →
    (128 ≤ length → length ≤ 131072 → exec (.mpuLoad ln length us) s =
      .next (State.done { u with access := { u.access with image := some (ln.path, length, []) } } ln
        [] [("bytes", "0"), ("length", dec length)])) ∧
    (length < 128 ∨ 131072 < length → exec (.mpuLoad ln length us) s = .next (u.refused ln .badArg))) ∧
  (∀ (s u : State) (ln : Ln) (off : Nat) (hex : Bytes) (us n : Nat) (b : Bytes), u = s.taken ln us →
    s.runs (Say.mpuAdd off hex us) ln us (changing [.operator] []) false → u.access.image = some (ln.path, n, b) →
    (hex ≠ [] → hex.length ≤ 16 → off = b.length → b.length + hex.length ≤ n → exec (.mpuAdd ln off hex us) s =
      .next (State.done { u with access := { u.access with image := some (ln.path, n, b ++ hex) } } ln
        [] [("bytes", dec (b.length + hex.length))])) ∧
    (hex = [] ∨ 16 < hex.length ∨ off ≠ b.length ∨ n < b.length + hex.length →
      exec (.mpuAdd ln off hex us) s = .next (u.refused ln .badArg))) ∧
  (∀ (s u v w : State) (ln : Ln) (slot us n : Nat) (b : Bytes), u = s.taken ln us → s.runs (Say.mpuAdmit slot us) ln us (changing [.operator] []) false →
    u.access.image = some (ln.path, n, b) → v = { u with access := { u.access with image := none } } →
    (b.length = n → slot ≤ 511 → v.extCheck b slot = none →
      w = (State.showExt { v.haltExt with access := { v.haltExt.access with ext := some (b, slot) } }).set MPU_EXT.STATE 0 →
      exec (.mpuAdmit ln slot us) s = .next ((if w.extMayStart then w.startExt else w).done ln []
        [("state", if w.extMayStart then "running" else "held"), ("length", dec b.length),
         ("regions", dec ((extRegions b).filter (fun r => r.n != 0)).length)])) ∧
    (b.length = n → slot ≤ 511 → ∀ st, v.extCheck b slot = some st →
      exec (.mpuAdmit ln slot us) s = .next (v.refused ln st)) ∧
    (b.length ≠ n → exec (.mpuAdmit ln slot us) s = .next (v.refused ln .wrongState))) ∧
  (∀ (s u : State) (ln : Ln) (us : Nat), u = s.taken ln us → s.runs (Say.mpuRemove us) ln us (changing [.operator] []) false →
    exec (.mpuRemove ln us) s = .next (((State.showExt { u.haltExt with access := { u.haltExt.access with ext := none } }).set
      MPU_EXT.STATE 0).done ln [] [("state", "none")])) ∧
  (∀ (s u : State) (ln : Ln) (us : Nat), u = s.taken ln us → s.runs (Say.colourShow us) ln us (reading rolesOHM []) false →
    exec (.colourShow ln us) s = .next (u.reply ln.path (.ok ln.tag []
      [("tbase0", hex0x 9 (u.tagBase 0)), ("tbase1", hex0x 9 (u.tagBase 1)), ("faults", dec (u.get TAG_FTOTAL.COUNT))]))) ∧
  (∀ (s u : State) (ln : Ln) (addr us : Nat) (e : LineErrs), u = s.taken ln us → s.runs (Say.colourTag addr e us) ln us (reading rolesOHM []) false →
    (0x20000000 ≤ addr → addr < 0x20400000 → (addr < u.dramSize → u.drcServes (u.chanOf addr).1 = false) →
      exec (.colourTag ln addr e us) s = .next (u.reply ln.path (.ok ln.tag []
        [("addr", hex0x 8 addr), ("granule", dec ((addr - 0x20000000) / 4096)), ("tag", hexPlain 2 (u.granuleColour ((addr - 0x20000000) / 4096)))]))) ∧
    (∀ v d kv, addr < u.dramSize → u.drcServes (u.chanOf addr).1 = true → u.tagOf addr (u.chanOf addr).1 (u.chanOf addr).2 e = (v, .ok d kv) →
      exec (.colourTag ln addr e us) s = .next (v.reply ln.path (.ok ln.tag d kv)))) ∧
  (∀ (s u : State) (ln : Ln) (us n : Nat), u = s.taken ln us → s.runs (Say.logShow us) ln us (reading rolesOHM []) false → n = u.get TAG_FTOTAL.COUNT →
    exec (.logShow ln us) s = .next (u.reply ln.path (.ok ln.tag []
      [("total", dec n), ("held", dec (min n 64)), ("oldest", dec (if n = 0 then 0 else n - min n 64 + 1))]))) ∧
  (∀ (s u : State) (ln : Ln) (frm count : Option Nat) (us total old f n first : Nat) (rows : List (List KV)), u = s.taken ln us →
    s.runs (Say.logFaults frm count us) ln us (reading rolesOHM []) false → total = u.get TAG_FTOTAL.COUNT → old = max 1 u.oldestFault → f = frm.getD old →
    n = count.getD 16 → f ≠ 0 → n ≠ 0 → n ≤ 64 → first = max f old →
    rows = (List.range (min n (total + 1 - first))).map (fun k =>
      faultKv (first + k) ((u.access.log.lookup ((first + k - 1) % 64)).getD [])) →
    exec (.logFaults ln frm count us) s = .next (u.reply ln.path (.ok ln.tag rows
      [("n", dec rows.length), ("next", dec (first + rows.length)), ("lost", dec (first - f))])))

/-- Rests on R147, R956 to R961, R944 to R948, R1093 to R1101: the verbs `bist`, `life`, `peek` and `poke`, and a verb the card does not know. -/
def Obligations.ServiceCommands : Prop :=
  (∀ (s u : State) (ln : Ln) (sw d us : Nat) (w : Swatch), u = s.taken ln us → s.runs (Say.bistRun sw d us) ln us (changing [.service] []) false →
    u.runRefusal sw d = none → swatch sw = some w →
    (u.swatchUs w d ≤ 1000000 → exec (.bistRun ln sw d us) s = .next ((u.beginRun sw d (some ln.path) false).waiting ln (.bist sw))) ∧
    (1000000 < u.swatchUs w d → exec (.bistRun ln sw d us) s = .next ((u.beginRun sw d (some ln.path) true).jobbed ln "bist run"))) ∧
  (∀ (s u : State) (ln : Ln) (sw d us : Nat) (st : Status), u = s.taken ln us → s.runs (Say.bistRun sw d us) ln us (changing [.service] []) false →
    u.runRefusal sw d = some st → exec (.bistRun ln sw d us) s = .next (u.refused ln st)) ∧
  (∀ (s u : State) (ln : Ln) (sw us : Nat), u = s.taken ln us → s.runs (Say.bistShow sw us) ln us (reading rolesOHM []) false →
    (1 ≤ sw → sw ≤ 40 → exec (.bistShow ln sw us) s = .next (u.reply ln.path (.ok ln.tag []
      [("swatch", swatchId sw), ("result", resultName (u.get (BIST_RES.RESULT sw))), ("domain", domainId (u.get (BIST_RES.DOMAIN sw))),
       ("runs", dec (u.get (BIST_RES.RUNS sw))), ("fails", dec (u.get (BIST_RES.FAILS sw)))]))) ∧
    (sw = 0 ∨ 40 < sw → exec (.bistShow ln sw us) s = .next (u.reply ln.path (.er ln.tag .badArg)))) ∧
  (∀ (s u : State) (ln : Ln) (us : Nat), u = s.taken ln us → s.runs (Say.bistList us) ln us (reading rolesOHM []) false →
    ∃ rows : List (List KV), exec (.bistList ln us) s = .next (u.reply ln.path (.ok ln.tag rows [("n", "40")])) ∧ rows.length = 40 ∧
      rows.map (fun r => r.lookup "swatch") = ((List.range 41).drop 1).map (fun k => some (swatchId k)) ∧
      rows.map (fun r => r.map (·.1)) = List.replicate 40 ["swatch", "name", "budget", "field"]) ∧
  (∀ (s u : State) (ln : Ln) (us : Nat), u = s.taken ln us → s.runs (Say.lifeShow us) ln us (reading rolesOHM []) false →
    exec (.lifeShow ln us) s = .next (u.reply ln.path (.ok ln.tag []
      [("state", lifeLower (u.get LCS_STATE.STATE)), ("copies", hex0x 3 (u.get LCS_COPIES.BITS)), ("gates", hex0x 3 (u.get LCS_GATE.GATES))]))) ∧
  (∀ (s u : State) (ln : Ln) (target us : Nat), u = s.taken ln us → target ≤ 4 →
    (u.lifeRefusal target = none →
      s.runs (Say.lifeSet target (u.get SYS_SERIAL.SERIAL) us) ln us (changing [.service] []) false → exec (.lifeSet ln target (u.get SYS_SERIAL.SERIAL) us) s = .next ((u.beginLife target false).waiting ln .life)) ∧
    (∀ st, u.lifeRefusal target = some st →
      s.runs (Say.lifeSet target (u.get SYS_SERIAL.SERIAL) us) ln us (changing [.service] []) false → exec (.lifeSet ln target (u.get SYS_SERIAL.SERIAL) us) s = .next (u.refused ln st)) ∧
    (∀ confirm, confirm ≠ u.get SYS_SERIAL.SERIAL →
      s.runs (Say.lifeSet target confirm us) ln us (changing [.service] []) false → exec (.lifeSet ln target confirm us) s = .next (u.refused ln .badArg))) ∧
  (∀ (s u : State) (ln : Ln) (t : Target) (us : Nat), u = s.taken ln us → s.runs (Say.peek t none us) ln us (reading rolesOHM []) false → t.ok = true →
    (u.regDark t.addr = true → exec (.peek ln t none us) s = .next (u.reply ln.path (.er ln.tag .domainOff))) ∧
    (u.regDark t.addr = false → t.field = none →
      exec (.peek ln t none us) s = .next ((u.readClear 0 t.addr).reply ln.path
        (.ok ln.tag [] [(wordName t.addr, hexWord (u.readWord 0 t.addr))]))) ∧
    (u.regDark t.addr = false → ∀ f, t.spec = some f →
      exec (.peek ln t none us) s = .next ((u.readClear 0 t.addr).reply ln.path
        (.ok ln.tag [] [(wordName t.addr ++ "." ++ f.name, hexShort ((f.fld t.addr).of (u.readWord 0 t.addr)))])))) ∧
  (∀ (s u : State) (ln : Ln) (t : Target) (n us : Nat) (as : List Nat), u = s.taken ln us → s.runs (Say.peek t (some n) us) ln us (reading rolesOHM []) false →
    t.ok = true → t.field = none → 1 ≤ n → n ≤ 16 → as = (List.range n).map (fun k => t.addr + 4 * k) → as.all inRegSpace = true →
    as.any u.regDark = false →
    exec (.peek ln t (some n) us) s = .next ((as.foldl (fun v a => v.readClear 0 a) u).reply ln.path
      (.ok ln.tag (as.map (fun a => [(wordName a, hexWord (u.readWord 0 a))])) [("n", dec n)]))) ∧
  (∀ (s u v : State) (ln : Ln) (t : Target) (value us : Nat) (got : List Nat), u = s.taken ln us → s.runs (Say.poke t value got us) ln us (changing [.operator] []) false →
    t.ok = true → u.regDark t.addr = false →
    (t.field = none → value < 2 ^ 32 → v = u.regWrite 0 t.addr false (BitVec.ofNat 32 value) got us →
      exec (.poke ln t value got us) s = .next (v.done ln [] [(wordName t.addr, hexWord (v.readBack t.addr))])) ∧
    (∀ f, t.spec = some f → value < 2 ^ f.width → f.acc ≠ .ro → v = u.regWrite 0 t.addr false (u.pokeWord t.addr f value) got us →
      exec (.poke ln t value got us) s = .next (v.done ln [] [(wordName t.addr, hexWord (v.readBack t.addr))])) ∧
    (∀ f, t.spec = some f → 2 ^ f.width ≤ value ∨ f.acc = .ro →
      exec (.poke ln t value got us) s = .next (u.refused ln .badArg))) ∧
  (∀ (s u : State) (ln : Ln), u = (s.wakeLine ln.path ln.rx).heard ln.path ln.rx → s.ripe (Say.unknownCommandLine.waited ln) ln.rx = true →
    s.says Say.unknownCommandLine ln = true → u.gate ln.path { changing := false, roles := [.operator, .host, .mantle, .service], needs := [] } false = none →
    exec (.unknownCommandLine ln) s = .next (u.reply ln.path (.er ln.tag .badVerb)))

/-- Rests on R868, R879 to R882, R886, R1075 to R1084: the `twin` verb. The offer of a would-be secondary comes on the Seam session of the slot that
the own pending pairing names (R1077). -/
def Obligations.TwinCommands : Prop :=
  (∀ (s u : State) (ln : Ln) (us : Nat), u = s.taken ln us → s.runs (Say.twinShow us) ln us (reading rolesOHM []) false → u.twin.offer = none →
    (u.twin.pairing = none → exec (.twinShow ln us) s = .next (u.reply ln.path (.ok ln.tag []
      [("role", "none"), ("state", twinName u.twinState)]))) ∧
    (∀ g, u.twin.pairing = some g → exec (.twinShow ln us) s = .next (u.reply ln.path (.ok ln.tag []
      [("role", if g.primary then "primary" else "secondary"), ("state", twinName u.twinState), ("partner", slotId g.slot),
       ("key", keySlotId (512 + g.wk)), ("tseq", dec u.tseqShown), ("tconf", dec u.tconfShown), ("darn_remain", dec u.darnRemain)])))) ∧
  (∀ (s u : State) (ln : Ln) (us at_ : Nat) (g : Pairing), u = s.taken ln us → s.runs (Say.twinShow us) ln us (reading rolesOHM []) false →
    u.twin.pairing = none → u.twin.offer = some (g, at_) →
    exec (.twinShow ln us) s = .next (u.reply ln.path (.ok ln.tag []
      [("role", "none"), ("state", twinName u.twinState), ("pending", slotId g.slot), ("ttl", dec ((at_ + 60000000 - us) / 1000000))]))) ∧
  (∀ (s u v : State) (ln : Ln) (slot wk us : Nat) (primary second : Bool), u = s.taken ln us →
    s.runs (Say.twinPair slot primary wk second us) ln us (changing [.operator, .mantle] []) false → u.pairRefusal slot wk primary = none →
    v = State.sendOffer { u with twin := { u.twin with
      offer := some ({ slot := slot, serial := 0, wk := wk, primary := primary }, us), offerFirst := !second, offerReq := none } } →
    (second = false → exec (.twinPair ln slot primary wk second us) s =
      .next (v.done ln [] [("state", "pending"), ("ttl", "60")])) ∧
    (second = true → exec (.twinPair ln slot primary wk second us) s = .next (v.waiting ln .pairing))) ∧
  (∀ (s u : State) (ln : Ln) (slot wk us : Nat) (primary second : Bool) (st : Status), u = s.taken ln us →
    s.runs (Say.twinPair slot primary wk second us) ln us (changing [.operator, .mantle] []) false → u.pairRefusal slot wk primary = some st →
    exec (.twinPair ln slot primary wk second us) s = .next (u.refused ln st)) ∧
  (∀ (s u : State) (ln : Ln) (n wk kcvNum cap serial at_ us : Nat) (g : Pairing), u = s.taken ln us → ln.path = .seam n →
    s.twin.offer = some (g, at_) → g.slot = n →
    s.runs (Say.twinOffer wk kcvNum cap serial us) ln us { changing := (s.awaiting .pairing).isNone, roles := [.operator, .host, .mantle, .service, .none], needs := [] } false →
    (u.judgeOffer g wk kcvNum cap = none → s.awaiting .pairing = none →
      exec (.twinOffer ln wk kcvNum cap serial us) s = .next ((u.pairedPrimary g serial).done ln [] [])) ∧
    (u.judgeOffer g wk kcvNum cap = none → s.awaiting .pairing ≠ none →
      exec (.twinOffer ln wk kcvNum cap serial us) s = .next ((u.pairedPrimary g serial).reply ln.path (.ok ln.tag [] []))) ∧
    (∀ st, u.judgeOffer g wk kcvNum cap = some st → s.awaiting .pairing = none →
      exec (.twinOffer ln wk kcvNum cap serial us) s = .next ((u.pairRefused g st).refused ln st)) ∧
    (∀ st, u.judgeOffer g wk kcvNum cap = some st → s.awaiting .pairing ≠ none →
      exec (.twinOffer ln wk kcvNum cap serial us) s = .next ((u.pairRefused g st).reply ln.path (.er ln.tag st)))) ∧
  (∀ (s u v : State) (ln : Ln) (us : Nat), u = s.taken ln us → s.runs (Say.twinUnpair us) ln us (changing [.operator, .mantle] []) false →
    (u.isPrimary = false → exec (.twinUnpair ln us) s = .next (u.refused ln .wrongState)) ∧
    (u.isPrimary = true → u.mirrors = true → v = u.sendHold 1000 → exec (.twinUnpair ln us) s =
      .next ((State.mirrorLine { v with twin := { v.twin with unpairSeq := some v.twin.txNext } } "twin unpair").waiting ln .unpair)) ∧
    (u.isPrimary = true → u.mirrors = false → exec (.twinUnpair ln us) s =
      .next (u.leaveTwin.settle.done ln [] [("state", "solo")]))) ∧
  (∀ (s u v : State) (ln : Ln) (us : Nat), u = s.taken ln us → s.runs (Say.twinSwap us) ln us (changing [.operator, .mantle] []) false →
    (u.isPrimary = false ∨ u.mirroring = false → exec (.twinSwap ln us) s = .next (u.refused ln .wrongState)) ∧
    (u.isPrimary = true → u.mirroring = true → v = u.sendHold 1000 → exec (.twinSwap ln us) s =
      .next ((State.swapGo { v with twin := { v.twin with swapUs := some us, swapSeq := none } }).waiting ln .swap))) ∧
  (∀ (s u : State) (ln : Ln) (us : Nat), u = s.taken ln us → s.runs (Say.twinTakeover us) ln us (changing [.operator, .mantle] []) false →
    (u.twinState = 6 → u.twin.fromStandby = true → u.primarySilent us = true → u.twin.holdUntil ≤ us →
      exec (.twinTakeover ln us) s = .next (u.takeover.done ln [] [("role", "primary")])) ∧
    (u.twinState ≠ 6 ∨ u.twin.fromStandby = false ∨ u.primarySilent us = false ∨ us < u.twin.holdUntil →
      exec (.twinTakeover ln us) s = .next (u.refused ln .wrongState))) ∧
  (∀ (s u : State) (ln : Ln) (p us : Nat) (k : Pocket), u = s.taken ln us → u.isSecondary = false → u.pockets.lookup p = some k → k.state ≠ .deleting →
    (∀ c, c < 512 → (u.slot c).state = .loaded → (u.slot c).owner = p → (u.slot c).kind = 3 ∨ (u.slot c).kind = 4 →
      s.runs (Say.twinInteg p (some c) us) ln us (changing [.operator, .mantle] []) false → exec (.twinInteg ln p (some c) us) s = .next (((u.setPocket p { k with integSlot := some c }).tellInteg p (some c)).done ln [] [("pocket", pocketId p), ("slot", keySlotId c)])) ∧
    (s.runs (Say.twinInteg p none us) ln us (changing [.operator, .mantle] []) false →
      exec (.twinInteg ln p none us) s = .next (((u.setPocket p { k with integSlot := none }).tellInteg p none).done ln [] [("pocket", pocketId p), ("slot", "none")])) ∧
    (∀ c, (u.slot c).state = .empty → s.runs (Say.twinInteg p (some c) us) ln us (changing [.operator, .mantle] []) false → exec (.twinInteg ln p (some c) us) s = .next (u.refused ln .keyEmpty)))

/-- Rests on R845, R854, R857, R864, R895, R932, R1085 to R1092: the verbs `ring` and `mantle`. -/
def Obligations.RingAndMantleCommands : Prop :=
  (∀ (s u : State) (ln : Ln) (us : Nat), u = s.taken ln us → s.runs (Say.ringShow us) ln us (reading rolesOHM []) false →
    exec (.ringShow ln us) s = .next (u.reply ln.path (.ok ln.tag []
      ([("ring", ["out", "monitoring", "joined"].getD (u.get SEAM_STAT.RING) "out"), ("members", dec (u.get SEAM_STAT.MEMBERS)),
        ("roster", hex0x 6 (u.get SEAM_ROSTER.MASK)), ("mantle", slotOrNone (u.get SEAM_STAT.MANTLE)),
        ("standby", slotOrNone (u.get SEAM_STAT.STANDBY))] ++ u.portKv 0 "east" ++ u.portKv 1 "west"))) ∧
    (u.portKv 0 "east").map (·.1) = ["east", "east_rate", "east_lanes", "east_partner"]) ∧
  (∀ (s u v : State) (ln : Ln) (east west : Bool) (us : Nat), u = s.taken ln us → s.runs (Say.ringRetrain east west us) ln us (changing [.operator, .mantle] []) false →
    v = u.done ln [] [] →
    (u.joined = true → (∀ n, ln.path ≠ .seam n) → exec (.ringRetrain ln east west us) s =
      .next (if west then (if east then v.negotiateHop 0 else v).negotiateHop 1 else if east then v.negotiateHop 0 else v)) ∧
    (u.joined = false → exec (.ringRetrain ln east west us) s = .next (u.refused ln .wrongState)) ∧
    (∀ n, ln.path = .seam n → u.joined = true →
      (east = true ∧ u.seam.linePort.lookup n = some 0 ∨ west = true ∧ u.seam.linePort.lookup n = some 1 →
        exec (.ringRetrain ln east west us) s = .next (u.refused ln .wrongState)))) ∧
  (∀ (s u v : State) (ln : Ln) (join : Option Bool) (force : Bool) (rate lanes share : Option Nat) (us : Nat), u = s.taken ln us →
    s.runs (Say.ringCfg join force rate lanes share us) ln us (changing [.operator, .mantle] []) false → within rate 0 2 = true → within lanes 1 2 = true → within share 10 90 = true →
    (join = some false → (∀ n, ln.path ≠ .seam n) ∧ (force = true ∨
      (u.twin.pairing = none ∧ u.get SEAM_MANTLE.STATE ≠ 4 ∧ u.get SEAM_MANTLE.STATE ≠ 2))) →
    v = (((((u.keepIf SEAM_CFG.RATE_MAX rate).keepIf SEAM_CFG.ONE_LANE (lanes.map (fun n => 2 - n))).keepIf SEAM_CFG.DARN_SHARE share).keepIf
      SEAM_CFG.JOIN (join.map bit01)).seamCheck) →
    ∃ w : State, w = (if join = some false ∧ u.get SEAM_STAT.RING ≠ 0 then v.notify "ring left" [("reason", "cmd")] else v) ∧
      exec (.ringCfg ln join force rate lanes share us) s = .next (w.done ln []
        [("join", onOff (w.flag SEAM_CFG.JOIN)), ("rate_max", ["2.5", "5.0", "10.0"].getD (w.get SEAM_CFG.RATE_MAX) "10.0"),
         ("lanes", if w.flag SEAM_CFG.ONE_LANE then "1" else "2"), ("darn_share", dec (w.get SEAM_CFG.DARN_SHARE))])) ∧
  (∀ (s u : State) (ln : Ln) (us st : Nat), u = s.taken ln us → s.runs (Say.mantleShow us) ln us (reading rolesOHM []) false → st = u.get SEAM_MANTLE.STATE →
    exec (.mantleShow ln us) s = .next (u.reply ln.path (.ok ln.tag []
      ([("state", ["none", "member", "standby", "electing", "active"].getD st "none"), ("mantle", slotOrNone (u.get SEAM_STAT.MANTLE)),
        ("standby", slotOrNone (u.get SEAM_STAT.STANDBY)), ("minute", dec (u.get SEAM_MINUTE.MINUTE)), ("grid", dec u.gridNow)] ++
       (if st = 4 ∨ st = 2 then [("store_mib", dec (ceilDiv (128 * u.htg.store.length) 1048576))] else []))))) ∧
  (∀ (s u : State) (ln : Ln) (slot us req : Nat) (text : String), u = s.taken ln us → s.runs (Say.mantleRelay slot text us) ln us (reading [.operator, .host] []) false →
    (u.get SEAM_MANTLE.STATE ≠ 4 → exec (.mantleRelay ln slot text us) s = .next (u.reply ln.path (.er ln.tag .wrongState))) ∧
    (u.get SEAM_MANTLE.STATE = 4 → slot ≠ u.ownSlot → (u.get SEAM_ROSTER.MASK).testBit slot = true → text.toList.length ≤ 62 →
      malformedPayload (text.toList.map Char.toNat) = false → text.toList ≠ [] → req = (u.seam.rseq.lookup 2).getD 0 →
      ∃ v : State, v = State.ringSend { u with
          seam := { u.seam with relay := u.seam.relay ++ [{ slot := slot, req := req, us := us, lines := [] }] } } 2 1 slot []
            ((withCheck true text).toList.map (fun c => BitVec.ofNat 8 c.toNat)) ∧
        exec (.mantleRelay ln slot text us) s =
          .next (v.setSession ln.path { v.session ln.path with await := some { tag := ln.tag, what := .relay req, sinceUs := v.clk } }))) ∧
  (∀ (s u : State) (ln : Ln) (slot p us : Nat) (minute : Option Nat) (stored : List Bytes) (rows : List (Nat × Bytes)), u = s.taken ln us →
    s.runs (Say.mantleRead slot p minute us) ln us (reading rolesOHM []) false →
    (u.get SEAM_MANTLE.STATE ≠ 4 → u.get SEAM_MANTLE.STATE ≠ 2 →
      exec (.mantleRead ln slot p minute us) s = .next (u.reply ln.path (.er ln.tag .wrongState))) ∧
    (u.get SEAM_MANTLE.STATE = 4 ∨ u.get SEAM_MANTLE.STATE = 2 → slot ≤ 23 → p ≤ 255 →
      stored = ((u.htg.store.filter (fun x => x.1 == slot && le x.2 1 1 == p)).map (·.2)).foldr byMinute [] →
      rows = ((List.range stored.length).zip stored).filter (fun x => match minute with | some m => le x.2 4 4 == m | none => true) →
      ∃ d : List (List KV), exec (.mantleRead ln slot p minute us) s =
          .next (u.reply ln.path (.ok ln.tag d [("n", dec rows.length)])) ∧
        d = (rows.map (fun x => (bucketLines x.1 { bytes := x.2, state := 1, sentUs := 0 }).map (fun (l : List KV) =>
          l.map (fun (kv : KV) => if kv.1 = "state" then ("slot", slotId slot) else kv)))).flatten))

/-- Rests on R64, R69, R70, R79, R1157, R1166: supply and crystal. A fall shorter than 1 µs, and a loss of amplitude shorter than 5 µs, change nothing. -/
def Obligations.SupplyAndCrystalEvents : Prop :=
  (∀ (s : State) (us : Nat),
    (s.boot.supply = false → exec (.supplyGoodRise us) s =
      .next (State.powerOn { s.at us with boot := { s.boot with supply := true } } us)) ∧
    (s.boot.supply = true → exec (.supplyGoodRise us) s = .next (s.at us))) ∧
  (∀ (s : State) (ns us : Nat), s.boot.supply = true →
    (1000 ≤ ns → ∃ t : State, exec (.supplyGoodFall ns us) s = .next t ∧ t.boot.supply = false ∧ t.boot.running = false ∧
      t.boot.ready = false ∧ t.regs = [] ∧ t.pending = s.pending ∧ t.life.tap = s.life.tap ∧ t.lin.desc = s.lin.desc ∧ t.execs = [] ∧
      t.cache.entries = [] ∧ t.boot.fuseSerial = s.boot.fuseSerial) ∧
    (ns < 1000 → exec (.supplyGoodFall ns us) s = .next (s.at us))) ∧
  (∀ (s : State) (ns us : Nat), s.boot.supply = true → s.boot.xtalLost = false → (s.at us).flag SYS_CLKSTAT.XTAL_OK = true →
    (5000 ≤ ns → ∃ t : State, exec (.crystalLoss ns us) s = .next t ∧ t.boot.xtalLost = true ∧ t.boot.supply = true ∧ t.boot.ready = false ∧
      t.flag SYS_RSTCAUSE.POWER_ON = true ∧ t.execs = []) ∧
    (ns < 5000 → exec (.crystalLoss ns us) s = .next (s.at us))) ∧
  (∀ (s : State) (us : Nat), s.boot.supply = true → s.boot.xtalLost = true →
    exec (.crystalRecovery us) s = .next (State.powerOn { s.at us with boot := { s.boot with xtalLost := false } } us)) ∧
  (∀ (s : State) (us : Nat), ∃ t : State, s.powerOn us = t ∧ t.boot.running = true ∧ t.boot.done = [.release] ∧ t.boot.kind = .powerOn ∧
    t.boot.triggerUs = us ∧ t.boot.ready = false)

/-- Rests on R76, R79, R105, R110, R114, R508, R509, R527, R708, R709: the rows of the start-up ladder on D00 and the fabric. A row that is not due
changes nothing. -/
def Obligations.LadderRows : Prop :=
  (∀ (s u : State) (p : Straps) (high : Bool) (us : Nat), u = s.at us → u.rowDue .aon = true →
    exec (.aonRelease p high us) s = .next
      (if high then (((u.setLin { u.lin with cdetLowUs := none }).aonRow p).rowDone .aon).abandonLadder 1
       else ((u.setLin { u.lin with cdetLowUs := some (u.lin.cdetLowUs.getD us) }).aonRow p).rowDone .aon)) ∧
  (∀ (s u v : State) (us : Nat), u = s.at us → u.rowDue .pll = true →
    v = ((((u.set SYS_CLKSTAT.SEAM_LOCK 1).set SYS_CLKSTAT.SLV_LOCK 1).set SYS_CLKSTAT.DDR_LOCK 1).set SYS_CLKSTAT.FIO_LOCK 1).set
      SYS_CLKSTAT.CORE_LOCK 1 →
    exec (.pllLock us) s = .next ((v.set SYS_CLKSTAT.CORE_MULT (levelMult (v.get PWR_LEVEL.CUR))).rowDone .pll)) ∧
  (∀ (s u v : State) (ok : Bool) (us : Nat), u = s.at us → u.rowDue .fuse = true →
    v = (if ok then { (u.formLife.set SYS_SERIAL.SERIAL u.formLife.boot.fuseSerial).set SYS_ID.CODE u.formLife.boot.fuseCode with
        boot := { u.formLife.boot with rootKey := true } } else u.formLife.enterLimp 2 0) →
    exec (.fuseShadowLoad ok us) s = .next
      ((if v.get SYS_STRAP.BOOT_SEL = 3 ∧ v.factory = false then v.notify "boot strap ignored" [] else v).rowDone .fuse)) ∧
  (∀ (s u : State) (us : Nat) (repair : Option Nat) (v w : State), u = s.at us → u.rowDue .sram = true →
    v = (match repair with | some d => u.enterLimp 3 (min 50 d) | none => u) →
    w = { v with access := { v.access with sram := [], sramFlips := [] } } →
    exec (.sramFill repair us) s = .next (w.rowDone .sram)) ∧
  (∀ (s u : State) (us : Nat), u = s.at us → u.rowDue .check = true →
    exec (.checkerSelfTest [] us) s = .next ((u.set ECC_SELFTEST.PASS 7).rowDone .check) ∧
    ∀ (k d : Nat) (rest : List (Nat × Nat)) (pass : Nat), k ≤ 2 →
      pass = (((List.range 3).filter (fun j => !((k, d) :: rest).any (fun x => x.1 == j))).map (fun j => 2 ^ j)).sum →
      exec (.checkerSelfTest ((k, d) :: rest) us) s = .next ((((u.set ECC_SELFTEST.PASS pass).enterLimp 1 (min 50 d)).set
        ECC_SELFTEST.FAIL_DOMAIN (min 50 d)).rowDone .check)) ∧
  (∀ (s u : State) (rom : List (Nat × (Nat × (Nat × Nat)))) (us : Nat), u = s.at us → u.rowDue .tailor = true →
    exec (.tailorRelease rom us) s = .next (((((State.bringAll { u with
      access := { u.access with rom := rom }, boot := { u.boot with wdogUs := us } } [49, 50]).romRegions 0).romRegions 1)).rowDone .tailor)) ∧
  (∀ (s u v : State) (us : Nat), u = s.at us → u.rowDue .banner = true →
    v = u.setWord SYS_COLCFG.addr (resetWord SYS_COLCFG.addr) →
    exec (.collarBanner us) s = .next ((((v.setSession .collar { v.session .collar with
      role := .operator, last := none, chal := none, await := none }).send .collar (.banner (v.get SYS_SERIAL.SERIAL))).prompt
        .collar).rowDone .banner)) ∧
  (∀ (s : State) (p : Straps) (high ok : Bool) (d : Option Nat) (f : List (Nat × Nat)) (rom : List (Nat × (Nat × (Nat × Nat)))) (us : Nat),
    s.boot.running = false →
    exec (.aonRelease p high us) s = .next (s.at us) ∧ exec (.pllLock us) s = .next (s.at us) ∧
    exec (.fuseShadowLoad ok us) s = .next (s.at us) ∧ exec (.sramFill d us) s = .next (s.at us) ∧
    exec (.checkerSelfTest f us) s = .next (s.at us) ∧ exec (.tailorRelease rom us) s = .next (s.at us) ∧
    exec (.collarBanner us) s = .next (s.at us))

/-- Rests on R83 to R93, R100, R102, R433 to R436, R455, R461, R542, R577, R614, R637 to R640: the rows of the ladder that read flash and set up DRAM, READY,
and what goes on after READY. -/
def Obligations.LadderOfStorage : Prop :=
  (∀ (s u v : State) (found : List DieFound) (bad : List (Bool × Nat)) (us : Nat) (on : Nat → Bool), u = s.at us → u.rowDue .flash = true →
    on = (fun q => !u.flag (PWR_DSTAT.CMD_OFF (q + 1)) && u.limpDomain != some (q + 1)) →
    v = State.discover { u with flash := { u.flash with modes := (u.modeTable bad).getD [] } } (u.storedForm && (u.modeTable bad).isSome)
      ((List.range 16).filter on) found →
    exec (.dieDiscovery found bad us) s = .next
      ((v.bringAll (((List.range 16).filter (fun q => on q && v.quadUsable q)).map (fun q => q + 1) ++ [45, 46, 47, 48])).rowDone .flash)) ∧
  (∀ (s u : State) (found : List DieFound) (bad : List (Bool × Nat)) (us : Nat), u = s.at us → u.rowDue .flash = false →
    exec (.dieDiscovery found bad us) s = .next (((List.range 16).filter (fun q => u.dom (q + 1) == 1)).foldl
      (fun t q => t.checkQuad (u.storedForm && (u.modeTable bad).isSome) found q) u)) ∧
  (∀ (s u v w : State) (bad : List (Bool × Nat)) (us : Nat), u = s.at us → u.rowDue .records = true →
    v = (if u.flash.area then u.readRecords bad else u.newBootArea).startNonce →
    w = v.flash.lapRate.foldl (fun t r => t.showRate r.1 r.2) { v with flash := { v.flash with lapStart := us } } →
    exec (.bootRecordsRead bad us) s = .next ((if w.flash.formatting then w.formatAll else w).showExt.rowDone .records).modeRecord) ∧
  (∀ (s u v : State) (f : DramFound) (temp : Int) (ok : Bool) (places : List (Nat × Nat)) (us : Nat), u = s.at us → u.dramDue = false → u.rowDue .dram = true →
    v = (if (u.findDram f).layRanks.channels.isEmpty ∨ (u.findDram f).layRanks.ranksServe = true ∨
        (u.findDram f).layRanks.flag SYS_BOOTSTAT.DRAM_FAIL = true then (u.findDram f).layRanks
      else (u.findDram f).layRanks.trainFailed ((u.findDram f).layRanks.channels.filter (fun n => (u.findDram f).layRanks.get (DRC_STAT.SIZE_GIB n) == 0))) →
    (v.dram.record = none → exec (.dramRestore f temp ok places us) s = .next (v.rowDone .dram)) ∧
    (∀ r, v.dram.record = some r → v.recordFits r f temp ok = true → (v.useRecord r).carveFits places = true →
      exec (.dramRestore f temp ok places us) s =
        .next (((((v.useRecord r).placeCarves places).set SYS_BOOTSTAT.STAGING 0).set SYS_BOOTSTAT.STORED_TRAIN 1).rowDone .dram)) ∧
    (∀ r, v.dram.record = some r → v.recordFits r f temp ok = false ∨ (v.useRecord r).carveFits places = false →
      exec (.dramRestore f temp ok places us) s = .next (v.rowDone .dram))) ∧
  (∀ (s u : State) (f : DramFound) (temp : Int) (ok : Bool) (places : List (Nat × Nat)) (us : Nat), u = s.at us → u.dramDue = true →
    (u.dram.record = none → exec (.dramRestore f temp ok places us) s = .next u.afterReady) ∧
    (∀ r, u.dram.record = some r →
      exec (.dramRestore f temp ok places us) s = .next (if u.recordFits r f temp ok then u.useRecord r else u.afterReady))) ∧
  (∀ (s u v : State) (bad : List (Nat × Nat × Nat)) (lost : List Nat) (us : Nat), u = s.at us → u.rowDue .keys = true →
    (u.boot.rootKey = false ∨ u.limpDomain = some 37 ∨ u.limpDomain = some 50 →
      exec (.keyJournalLoad bad lost us) s = .next ((u.bringAll [33, 34, 35, 36, 37, 38]).rowDone .keys)) ∧
    (u.boot.rootKey = true → u.limpDomain ≠ some 37 → u.limpDomain ≠ some 50 →
      v = (match u.keys.newestImage bad with
        | some (c, g) => State.loadSlots { u with keys := { u.keys with image := g.slots, jseq := g.jseq, active := c } } lost
        | none => if u.flag SYS_BOOTSTAT.FIRST_BOOT = true ∧ u.keys.jseq = 0 then u.loadSlots lost
          else (State.set { u with keys := { u.keys with slots := [], image := [] } } KEY_STAT.JLOST 1).notify "key journal lost" []) →
      exec (.keyJournalLoad bad lost us) s = .next (((State.set { v with keys := { v.keys with
        erasing := decide (v.keys.room.getD (1 - v.keys.active) 0 < 5) } } KEY_STAT.ACTIVE v.keys.active).bringAll
          [33, 34, 35, 36, 37, 38]).rowDone .keys))) ∧
  (∀ (s u v w : State) (us : Nat), u = s.at us → u.rowDue .tables = true →
    v = (if u.limpDomain = some 43 then u else (u.flash.bases.foldl (fun t b => t.set (MAP_PBASE.BASE b.1) b.2) u).loadMap).bringAll
      ((List.range 12).map (fun k => 17 + k) ++ [39, 40, 41, 42, 43, 44]) →
    w = (match v.twin.pairing with | none => v | some g => v.showTwin (if g.primary then 3 else 6)) →
    exec (.pocketTableLoad us) s = .next ((State.showCapacity { w with flash := { w.flash with ckptUs := us } }).rowDone .tables)) ∧
  (∀ (s u : State) (reg : Option Regulator) (us : Nat), u = s.at us → u.rowDue .ready = true →
    exec (.readyRise reg us) s = .next (u.readyRise reg us)) ∧
  (∀ (s u : State) (reg : Option Regulator) (us : Nat), u = s.at us → u.boot.running = true →
    u.boot.triggerUs + u.boot.kind.bound ≤ us →
    (u.limp = true → exec (.startupTimerExpiry reg us) s = .next (u.readyRise reg us)) ∧
    (u.limp = false → u.boot.retry = true → exec (.startupTimerExpiry reg us) s = .next ((u.enterLimp 5 0).readyRise reg us)) ∧
    (u.limp = false → u.boot.retry = false → exec (.startupTimerExpiry reg us) s =
      .next (State.startLadder { u.warmReset with boot := { u.warmReset.boot with retry := true } } .warm [causeStall] us))) ∧
  (∀ (s u v : State) (fast failed : List Nat) (ident : Nat) (temp : Int) (delays : List (Nat × Nat)) (us : Nat) (chs : List Nat), u = s.at us →
    chs = u.channels.filter (fun n => u.get (DRC_STAT.TRAIN n) == 1) → chs ≠ [] →
    v = (if fast ≠ [] ∧ u.channels.any (fun n => u.flag (DRC_CFG.RATE_MAX n)) = false then u.notify "dram rate" [("rate", "3200")] else u) →
    chs.any (fun n => failed.contains n) = true →
    exec (.dramTrainingDone fast failed ident temp delays us) s =
      .next ((chs.foldl (fun t n => t.set (DRC_STAT.TRAIN n) 0) v).trainFailed (chs.filter (fun n => failed.contains n)))) ∧
  (∀ (s u v : State) (ident : Nat) (temp : Int) (us : Nat), u = s.at us →
    u.channels.filter (fun n => u.get (DRC_STAT.TRAIN n) == 1) = [0] → u.channels.any (fun n => u.flag (DRC_CFG.RATE_MAX n)) = false →
    u.dram.masksNext = none → v = (u.set (DRC_STAT.TRAIN 0) 2).set (DRC_STAT.RATE 0) 0 →
    ∃ (r : TrainRec) (w : State), r = { rate := 0, masks := v.masksNow, ident := ident, temp := temp, regs := [] } ∧
      w = State.bootRecord { v with dram := { v.dram with record := some r } } (.training (some r)) ∧
      exec (.dramTrainingDone [] [] ident temp [] us) s = .next (w.notify "boot dram trained" [("ms", w.sinceTrigger us)])) ∧
  (∀ (s u : State) (places : List (Nat × Nat)) (us : Nat), u = s.at us → u.flag SYS_BOOTSTAT.STAGING = true → u.ready = true →
    u.channels ≠ [] → u.channels.all (fun n => u.get (DRC_STAT.TRAIN n) == 2 || u.get (DRC_STAT.TRAIN n) == 3) = true → u.carveFits places = true →
    ∃ t : State, t = (u.placeCarves places).set SYS_BOOTSTAT.STAGING 0 ∧
      exec (.stagingToDramSwitch places us) s = .next
        (((t.flash.segs.filter (fun x => x.2.reading)).map (·.1)).foldl
          (fun v e => v.segArrives e) { t with flash := { t.flash with segUse := [] } })) ∧
  (∀ (s u v w : State) (us : Nat) (es : List Nat), u = s.at us → u.flag SYS_BOOTSTAT.REPLAY = true → u.ready = true ∨ u.boot.pending ≠ none →
    u.limpDomain ≠ some 43 → es = (u.flash.segs.filter (fun x => u.replaying x.2)).map (·.1) →
    v = es.foldl State.replayHeld (u.set SYS_BOOTSTAT.REPLAY 0) → w = es.foldl (fun t e => t.segArrives e) v →
    (v.flash.segs.any (fun x => x.2.dirty && !x.2.resident) = true ∨ v.dirtyRoom < v.dirtySegs → exec (.replayDone us) s = .next u) ∧
    (v.flash.segs.any (fun x => x.2.dirty && !x.2.resident) = false → v.dirtySegs ≤ v.dirtyRoom →
      (w.flash.ckptOwn = false → exec (.replayDone us) s = .next w) ∧
      (w.flash.ckptOwn = true → exec (.replayDone us) s =
        .next (State.beginCkpt { w with flash := { w.flash with ckptOwn := false } } false true)))) ∧
  (∀ (s u v : State) (us : Nat), u = s.at us → u.ready = true → u.flag SYS_BOOTSTAT.STAGING = false → u.flag SYS_BOOTSTAT.REPLAY = false →
    u.flag SYS_BOOTSTAT.MAP_RESIDENT = false → u.quiesced = false → u.asleep = false → u.limpDomain ≠ some 43 →
    v = ((u.flash.segs.filter (fun x => !x.2.resident)).map (·.1)).foldl (fun t e => t.segArrives e) u →
    exec (.mapBackgroundLoadDone us) s = .next ((v.set SYS_BOOTSTAT.MAP_RESIDENT 1).notify "boot map resident" [("ms", v.sinceTrigger us)]))

/-- Rests on R103 to R109, R122 to R124, R734 to R742: the watchdog, the resets that software asks for, the flush before a reset, and the end of a removal. -/
def Obligations.ResetEvents : Prop :=
  (∀ (s u : State) (us : Nat), u = s.at us → u.flag SYS_WDOG.EN = true → u.dom 49 ≠ 0 → u.removing = false →
    u.boot.wdogUs + 1000 * clamp 10 10000 (u.get SYS_WDOG.TIMEOUT_MS) ≤ us →
    exec (.watchdogExpiry us) s = .next (u.beginReset .warm causeWdog)) ∧
  (∀ (s u v : State) (w us : Nat), u = s.at us → v = (u.set SYS_WDOG.EN (w / 2 ^ 30)).set SYS_WDOG.TIMEOUT_MS w →
    exec (.sysWdogKick w us) s = .next (if w / 2 ^ 31 % 2 = 1 then { v with boot := { v.boot with wdogUs := us } } else v)) ∧
  (∀ (s u : State) (us : Nat), u = s.at us → u.removing = false → u.boot.supply = true →
    exec (.sysRstctlCold 0xC3 false us) s = .next (u.commandReset .cold causeCold) ∧
    exec (.sysRstctlWarm 0xC3 false us) s = .next (u.commandReset .warm causeWarm) ∧
    exec (.sysRstctlT1Restart 0xC3 false us) s = .next (if u.dom 50 = 0 then u else u.resetDomain 50 .card)) ∧
  (∀ (s u : State) (key : Nat) (p1 : Bool) (us : Nat), u = s.at us → key ≠ 0xC3 ∨ p1 = true ∨ u.removing = true →
    exec (.sysRstctlCold key p1 us) s = .next u ∧ exec (.sysRstctlWarm key p1 us) s = .next u ∧
    exec (.sysRstctlT1Restart key p1 us) s = .next u) ∧
  (∀ (s u : State) (straps : Straps) (high : Bool) (us : Nat) (p : PendingReset) (go : State → State), u = s.at us → u.boot.pending = some p →
    go = (fun v => (v.toPl2 p).getD (v.resetPoint p straps high us)) →
    (u.removing = true → exec (.resetFlushDone straps high us) s = .next u) ∧
    (u.removing = false → u.boot.running = true → exec (.resetFlushDone straps high us) s = .next (go u)) ∧
    (u.removing = false → u.boot.running = false → u.flag SYS_BOOTSTAT.REPLAY = true → u.limpDomain ≠ some 43 →
      exec (.resetFlushDone straps high us) s = .next u) ∧
    (u.removing = false → u.boot.running = false → u.flag SYS_BOOTSTAT.REPLAY = false ∨ u.limpDomain = some 43 → (∀ v : State,
      (u.cleanStop = (v, true) → exec (.resetFlushDone straps high us) s = .next (go v)) ∧
      (u.cleanStop = (v, false) → exec (.resetFlushDone straps high us) s = .next v))) ∧
    (u.removing = false → u.boot.running = false → u.flag SYS_BOOTSTAT.REPLAY = false → u.flushed = false → u.flash.deltas = [] →
      u.rowsOpen = [] → exec (.resetFlushDone straps high us) s = .next u)) ∧
  (∀ (v : State) (p : PendingReset),
    (p.kind ≠ .cold ∨ v.get PWR_LEVEL.CUR = 2 ∨ v.flag PWR_PMB.OK = false ∨ v.pwr.regBad = true → v.toPl2 p = none) ∧
    (p.kind = .cold → v.get PWR_LEVEL.CUR ≠ 2 → v.flag PWR_PMB.OK = true → v.pwr.regBad = false →
      v.toPl2 p = some (if v.pwr.levelTo = some 2 then v else v.levelAsk 2))) ∧
  (∀ (s u : State) (us : Nat), u = s.at us → 1 ≤ u.get RMV_STAT.PHASE → u.get RMV_STAT.PHASE ≤ 5 → u.lin.en = true →
    ∃ t : State, t = (if u.get RMV_STAT.PHASE = 3 then u.tornCheckpoint else u).powerOff ∧
      exec (.bankExhausted us) s = .next { t with boot := { t.boot with supply := false } }) ∧
  (∀ (s u : State) (us t : Nat), u = s.at us → u.get RMV_STAT.PHASE = 6 → u.lin.rearmUs = some t →
    (t + 1000 ≤ us → exec (.rearmPowerOn us) s = .next (u.powerOff.powerOn us)) ∧
    (us < t + 1000 → exec (.rearmPowerOn us) s = .next u))

/-- Rests on R103, R104, R109, R123: what a reset leaves. A warm or cold reset that is asked for lowers READY and records its cause for the reset point
(stated where no pairing is pending);
a further cause during the flush is kept with it; a warm reset leaves no command in execution, no cache entry and a fresh Collar session; power-on reset leaves
only what flash and fuses hold. -/
def Obligations.ResetsLeave : Prop :=
  (∀ (s : State) (k : ResetKind) (c : Nat), s.twin.offer = none → s.boot.pending = none →
    (s.beginReset k c).boot.pending = some { kind := k, causes := [c] } ∧ (s.beginReset k c).boot.ready = false) ∧
  (∀ (s : State) (k : ResetKind) (c : Nat) (p : PendingReset), s.boot.pending = some p →
    (s.beginReset k c).boot.pending =
      some (if p.causes.contains c then p else { p with causes := p.causes ++ [c] })) ∧
  (∀ (s : State), s.warmReset.execs = [] ∧ s.warmReset.cache.entries = [] ∧ s.warmReset.refusals = [] ∧
    s.warmReset.col.collar = Session.start .operator ∧ s.warmReset.boot.ready = false ∧
    s.warmReset.boot.pending = none) ∧
  (∀ (s : State), s.powerOff.regs = [] ∧ s.powerOff.execs = [] ∧ s.powerOff.htg = Htg.reset ∧ s.powerOff.pending = s.pending ∧
    s.powerOff.boot.supply = s.boot.supply ∧ s.powerOff.lin.desc = s.lin.desc ∧ s.powerOff.keys.image = s.keys.image)

/-- Rests on R130, R132, R138, R141, R152, R174, R196, Table COL-3: a character at COL_RXD. It is a wake event first; before the banner, in the window of
a speed change and during a break it is lost. In typed mode a printable character joins the partial line and is echoed, BS and DEL remove one, NAK removes all;
CR ends a line, which then waits for its processing. A character in error marks its line; one that arrives while 256 are held is lost and marks
its line too. -/
def Obligations.CollarCharacters : Prop :=
  (∀ (s u : State) (c : Nat) (p f : Bool) (us : Nat), u = s.wakeEvent 1 0 us →
    u.bannerDone = false ∨ (u.t0Runs = false ∧ u.asleep = false) ∨ (u.col.switchDiv.isSome = true ∧ u.replyHeld .collar = false) ∨ u.col.inBreak = true →
    exec (.collarCharacter c p f us) s = .next u) ∧
  (∀ (s u : State) (us : Nat), u = s.wakeEvent 1 0 us → u.bannerDone = true → u.t0Runs = true → u.col.switchDiv = none → u.col.inBreak = false →
    (∀ (c : Nat) (p f : Bool), p = true ∨ f = true →
      (u.heldChars < 256 → exec (.collarCharacter c p f us) s = .next (u.setPart { u.col.part with
        parity := u.col.part.parity || p, framing := u.col.part.framing || f, marks := u.col.part.marks + 1 })) ∧
      (256 ≤ u.heldChars → exec (.collarCharacter c p f us) s = .next (u.setPart { u.col.part with
        parity := u.col.part.parity || p, framing := u.col.part.framing || f, overrun := true }))) ∧
    (∀ c : Nat, u.strict .collar = false → 0x20 ≤ c → c < 0x7F → u.heldChars < 256 →
      exec (.collarCharacter c false false us) s =
        .next ((u.send .collar (.echo [c])).setPart { u.col.part with chars := u.col.part.chars ++ [c] })) ∧
    (∀ c : Nat, u.strict .collar = true → c < 256 → c ≠ 0x0D → c ≠ 0x0A → u.heldChars < 256 →
      exec (.collarCharacter c false false us) s = .next (u.setPart { u.col.part with chars := u.col.part.chars ++ [c] })) ∧
    (∀ c : Nat, 0x20 ≤ c → c < 0x7F → 256 ≤ u.heldChars →
      exec (.collarCharacter c false false us) s = .next (u.setPart { u.col.part with overrun := true })) ∧
    (u.strict .collar = false → u.col.part.chars ≠ [] →
      exec (.collarCharacter 0x08 false false us) s = .next ((u.send .collar (.echo [0x08, 0x20, 0x08])).setPart
        { u.col.part with chars := u.col.part.chars.dropLast }) ∧
      exec (.collarCharacter 0x7F false false us) s = exec (.collarCharacter 0x08 false false us) s ∧
      exec (.collarCharacter 0x15 false false us) s = .next ((u.send .collar (.echo (rubout u.col.part.chars.length))).setPart
        { u.col.part with chars := [] })) ∧
    (exec (.collarCharacter 0x0A false false us) s = .next u) ∧
    (u.strict .collar = false → u.col.part.chars.all (· == 0x20) = false →
      u.col.part ≠ { RawLine.empty with chars := [0x3D] } ∨ (u.col.collar.await = none ∧ u.replyHeld .collar = false) →
      exec (.collarCharacter 0x0D false false us) s = .next { (u.send .collar (.echo [0x0D, 0x0A])).setPart RawLine.empty with
        col := { ((u.send .collar (.echo [0x0D, 0x0A])).setPart RawLine.empty).col with
          held := ((u.send .collar (.echo [0x0D, 0x0A])).setPart RawLine.empty).col.held ++ [u.col.part] } }))

/-- Rests on R129, R133, R137, R139, R142, R152, R163, R166 to R168, R186, R196: lines that end without a reply. A line that cannot be trusted is discarded with RP; during a break the
card sends nothing, and its end returns the Collar to 115,200 baud, typed mode and the role OPERATOR, abandons a reply that is held back, and the banner follows; the new speed stands at
its switch; a partial strict line is discarded after 1 s; notices go out on fresh lines in typed mode. -/
def Obligations.CollarLineEvents : Prop :=
  (∀ (s : State) (p : Path) (l : RawLine), s.hears p = true → s.isHeld p (· == l) = true → (p = .mgt → (s.frameJudge l.rx).2 = true) →
    (∀ w, lineFault (s.strict p) (p != .collar) l = some w →
      (s.ripe (discarded p) l.rx = true → exec (.lineDiscard p l) s = .next ((s.heard p l.rx).rp p w)) ∧
      (s.ripe (discarded p) l.rx = false → exec (.lineDiscard p l) s = .next (s.keepLine (discarded p) l.rx))) ∧
    (lineFault (s.strict p) (p != .collar) l = none → p ≠ .collar → l.chars.all (· == 0x20) = true →
      (s.ripe (discarded p) l.rx = true → exec (.lineDiscard p l) s = .next (s.heard p l.rx)) ∧
      (s.ripe (discarded p) l.rx = false → exec (.lineDiscard p l) s = .next (s.keepLine (discarded p) l.rx)))) ∧
  (∀ (s : State) (p : Path) (l : RawLine),
    s.hears p = false ∨ s.isHeld p (· == l) = false ∨
      (lineFault (s.strict p) (p != .collar) l = none ∧ (p = .collar ∨ l.chars.all (· == 0x20) = false)) →
    exec (.lineDiscard p l) s = .next s) ∧
  (∀ (s : State) (left : Nat) (ls : List CardLine) (cut : Nat) (rest : List (Path × CardLine)), unsent left s.col.sent.reverse = (ls, cut, rest) →
    (ls = [] → exec (.collarBreak false left) s = .next { s with col := { s.col with inBreak := true } }) ∧
    (ls ≠ [] → ∃ t : State, exec (.collarBreak false left) s = .next t ∧ t.col.inBreak = true ∧ t.col.sent = rest.reverse ∧
      t.col.txHold = ls ++ s.col.txHold ∧ t.col.txCut = cut ∧ t = { s with col := t.col })) ∧
  (∀ (s : State) (l : CardLine), s.col.inBreak = true → s.send .collar l = s) ∧
  (∀ (s m u : State) (left : Nat), m = s.mute .collar →
    u = ((((State.dropImage { m with col := { m.col with
      part := RawLine.empty, held := [], switchDiv := none, ctsNext := none, txHold := [], txCut := 0, txLock := false, inBreak := false,
      collar := { m.col.collar.restart .operator with
        notices := m.col.txHold.filterMap CardLine.noticeOf ++ m.col.collar.notices } } } .collar).set SYS_COLCFG.BAUD_DIV 6944).set
      SYS_COLCFG.STRICT 0).set SYS_COLCFG.CTS_EN 0).ctsRelease →
    (m.bannerDone = true → m.t0Runs = true → exec (.collarBreak true left) s =
      .next (((u.send .collar (.banner (u.get SYS_SERIAL.SERIAL))).send .collar .prompt).sendNotices .collar)) ∧
    (m.bannerDone = false ∨ m.t0Runs = false → exec (.collarBreak true left) s = .next u)) ∧
  (∀ (s : State) (d : Nat), s.col.switchDiv = some d →
    (s.replyHeld .collar = false → exec .lineSpeedSwitch s =
      .next ((State.set { s with col := { s.col with switchDiv := none } } SYS_COLCFG.BAUD_DIV d).prompt .collar)) ∧
    (s.replyHeld .collar = true → exec .lineSpeedSwitch s = .next s)) ∧
  (∀ (s : State) (w : RpReason), s.strict .collar = true → s.col.part ≠ RawLine.empty → s.t0Runs = true →
    lineFault true false { s.col.part with idle := true } = some w →
    exec .strictIdleTimeout s = .next ((s.setPart RawLine.empty).rp .collar w)) ∧
  (∀ (s : State), s.strict .collar = false → s.col.part ≠ RawLine.empty → s.col.collar.due ≠ [] → s.col.collar.await = none →
    s.col.switchDiv = none → s.col.inBreak = false → s.t0Runs = true → s.col.held = [] → s.replyHeld .collar = false →
    exec .typedNoticeRelease s = .next (((s.send .collar (.echo [0x0D, 0x0A])).sendNotices .collar).send .collar (.echo s.col.part.chars)))

/-- Rests on R129, R140, R161, R162, R165, R169 to R172, R175, R183, R185, R186, R189, R195, R197: notices of an idle path, the resend of the last reply, what ends a
challenge, a lockout and the SERVICE role, the end of a job, CTS_N, and a write of BAUD_DIV. -/
def Obligations.SessionEvents : Prop :=
  (∀ (s : State) (p : Path), s.bannerDone = true → s.t0Runs = true → s.pathIdle p = true →
    (p = .collar → s.col.switchDiv = none ∧ s.col.inBreak = false) → (p = .mgt → s.linkUp = true) → exec (.noticeSend p) s = .next (s.sendNotices p)) ∧
  (∀ (s : State) (p : Path), s.pathIdle p = false → exec (.noticeSend p) s = .next s) ∧
  (∀ (s u : State) (p : Path) (e : FrameRx) (par fra : Bool), u = s.heard p e → s.hears p = true →
    s.isHeld p (fun l => l.chars == [0x3D] && l.parity == par && l.framing == fra) = true → (p = .mgt → (s.frameJudge e).2 = true) →
    (s.listens p = false → exec (.resendRequest p par fra e) s = .next (if par || fra then s else u)) ∧
    (s.listens p = true →
      (par = true → exec (.resendRequest p par fra e) s = .next (u.rp p .parity)) ∧
      (par = false → fra = true → exec (.resendRequest p par fra e) s = .next (u.rp p .framing)) ∧
      (par = false → fra = false → (u.session p).last = none →
        exec (.resendRequest p par fra e) s = .next (u.reply p (.er none .wrongState))) ∧
      (∀ st r, par = false → fra = false → (u.session p).last = some (st, r) →
        exec (.resendRequest p par fra e) s = .next ((u.send p (.reply st r)).prompt p)))) ∧
  (∀ (s : State) (p : Path) (e : FrameRx) (par fra : Bool),
    s.hears p = false ∨ s.isHeld p (fun l => l.chars == [0x3D] && l.parity == par && l.framing == fra) = false →
    exec (.resendRequest p par fra e) s = .next s) ∧
  (∀ (s : State) (p : Path), exec (.challengeExpiry p) s = .next (s.setSession p { s.session p with chal := none })) ∧
  (∀ (s : State), exec .challengeLockoutEnd s = .next { s with col := { s.col with lockout := false } }) ∧
  (∀ (s : State), (s.session .collar).role = .service → exec (.serviceIdleExpiry .collar) s =
    .next (((s.setSession .collar { s.session .collar with role := .operator }).notifyOn .collar "role expired" [("role", "OPERATOR")]))) ∧
  (∀ (s : State), (s.session .mgt).role = .service → exec (.serviceIdleExpiry .mgt) s =
    .next (((s.setSession .mgt { s.session .mgt with role := .host }).notifyOn .mgt "role expired" [("role", "HOST")]))) ∧
  (∀ (s : State) (p : Path), (s.session p).role ≠ .service → exec (.serviceIdleExpiry p) s = .next s) ∧
  (∀ (s : State) (n : Nat) (j : Job) (st : Status), st.final = true → s.col.jobs.find? (fun j => j.num == n) = some j →
    exec (.jobDone n st.code) s = .next ((State.unlock { s with col := { s.col with jobs := s.col.jobs.filter (fun k => k.num != n) } }
      j.path).notify "job done" [("job", dec n), ("status", hex0x 3 st.code)])) ∧
  (∀ (s : State) (n : Nat), (Status.ofCode n = none ∨ ∃ st, Status.ofCode n = some st ∧ st.final = false) → ∀ k, exec (.jobDone k n) s = .next s) ∧
  (∀ (s u : State) (left : Nat), u = { s with col := { s.col with ctsHigh := true } } →
    (s.flag SYS_COLCFG.CTS_EN = false → exec (.colCtsNChange true left) s = .next u.ctsRelease) ∧
    (s.flag SYS_COLCFG.CTS_EN = true → s.col.ctsHigh = true ∨ s.col.inBreak = true → exec (.colCtsNChange true left) s = .next u) ∧
    (s.flag SYS_COLCFG.CTS_EN = true → s.col.ctsHigh = false → s.col.inBreak = false → exec (.colCtsNChange true left) s = .next (u.cutOutput left))) ∧
  (∀ (s : State) (left : Nat),
    (s.col.inBreak = true → exec (.colCtsNChange false left) s = .next { s with col := { s.col with ctsHigh := false } }) ∧
    (s.col.inBreak = false → s.col.ctsNext = none → exec (.colCtsNChange false left) s = .next { s with col := { s.col with
      ctsHigh := false, sent := s.col.sent ++ s.col.txHold.map (fun l => (Path.collar, l)), txHold := [], txCut := 0, txLock := false } })) ∧
  (∀ (s : State) (d : Nat), ∃ t : State, exec (.sysColcfgBaudWrite d) s = .next t ∧ t.col = s.col ∧
    (s.canonical = true → t.get SYS_COLCFG.BAUD_DIV = d % 2 ^ SYS_COLCFG.BAUD_DIV.width))

/-- Rests on R83, R213, R220 to R240, R242 to R244, R254, R262, R264, R272, R278, R279, R291, R304, R306, R308: Sleeve reset, negotiation and training. A pulse of SLV_RST_N shorter than 1 µs is no reset;
a GRT is repeated; a SEL chooses the mode; attempts go down the rungs until one passes or the floor fails; the host's first preamble enters
the data phase; a whole LNK RETRAIN frame starts a retrain. -/
def Obligations.SleeveTraining : Prop :=
  (∀ (s : State) (ns : Nat), ns < 1000 ∨ s.boot.sleeveHigh = false → exec (.slvRstNFall ns) s = .next s) ∧
  (∀ (s v : State) (ns : Nat), 1000 ≤ ns → s.boot.sleeveHigh = true → s.asleep = false →
    v = State.sleeveReset { s with boot := { s.boot with sleeveHigh := false } } →
    exec (.slvRstNFall ns) s = .next (State.entryGo { v with boot := { v.boot with sleeveFell := true } })) ∧
  (∀ (s u v : State) (us : Nat), u = s.at us → u.boot.sleeveHigh = false →
    v = State.wakeEvent { u with boot := { u.boot with sleeveHigh := true } } 3 0 us → v.asleep = false →
    exec (.slvRstNRise us) s = .next v.sleeveRisen.greet) ∧
  (∀ (s : State), (s.slv.phase = .grtSent → exec .grtRepeat s = .next s.sendGrt) ∧ (s.slv.phase ≠ .grtSent → exec .grtRepeat s = .next s)) ∧
  (∀ (s u : State) (p : Bytes) (e : Nat), u = s.count (SLV_LANEERR.COUNT 0) e →
    (∀ (m : LinkMode) (r : Nat), s.slv.phase = .grtSent → 64 ≤ p.length → p.getD 0 0 = 0x02 → p.getD 1 0 = 1 → s.chooseMode p = (m, r) →
      exec (.selReceive p true e) s = .next (State.slvSend { u with slv := { u.slv with
        phase := .s0, mode := m, selLanes := (p.getD 3 0).toNat, selGusset := (p.getD 4 0).getLsbD 0, attempt := 0 } } [.cnf (cnfPayload 0x03 m r 0)])) ∧
    (s.slv.phase = .grtSent → 64 ≤ p.length → p.getD 0 0 = 0x02 → p.getD 1 0 ≠ 1 → exec (.selReceive p true e) s =
      .next (State.slvSend { u with slv := { u.slv with phase := .refused } } [.cnf (cnfPayload 0x03 LinkMode.none 2 0)])) ∧
    exec (.selReceive p false e) s = .next u) ∧
  (∀ (s : State) (us : Nat), s.slv.phase = .refused ∨ s.slv.phase = .floorFailed → exec (.grtRestart us) s = .next ((s.at us).negotiate 4)) ∧
  (∀ (s u : State), s.slv.phase = .s0 → u = s.setLanes s.slv.mode.rate s.slv.mode.mask →
    exec .trainingAttemptStart s = .next (State.slvSend { u with slv := { u.slv with
      phase := .training, attempt := u.slv.attempt + 1, tried := s.slv.mode, okA := none, okB := none, badLanes := 0 } } [.phaseA s.slv.mode])) ∧
  (∀ (s u : State) (p : Bytes) (e : Nat) (ls : List LaneTrain), s.slv.phase = .training →
    u = ls.foldl (fun t l => if l.lane < 9 then t.count (SLV_LANEERR.COUNT l.lane) l.errs else t) (s.count (SLV_LANEERR.COUNT 0) e) →
    (16 ≤ p.length → p.getD 0 0 = 0x12 → (p.getD 1 0).toNat = s.slv.attempt → exec (.trainingReportReceive p true e ls) s =
      .next { u with slv := { u.slv with
        okA := some ((p.getD 2 0).toNat + (if (p.getD 3 0).getLsbD 0 then 256 else 0)), okB := some (lanesGood ls) } }) ∧
    exec (.trainingReportReceive p false e ls) s = .next { u with slv := { u.slv with okA := none, okB := some (lanesGood ls) } }) ∧
  (∀ (s : State), s.slv.phase = .training →
    (∀ g m, s.slv.good = some g → s.slv.tried.lanes &&& g = s.slv.tried.lanes →
      m = { s.slv.tried with gusset := s.slv.tried.gusset && g.testBit 8 } → exec .trainingVerdict s =
        .next (State.slvSend { s with slv := { s.slv with phase := .passed, mode := m } } [.cnf (cnfPayload 0x13 m 0 s.slv.attempt)])) ∧
    (∀ g, s.slv.good = some g → s.slv.tried.lanes &&& g ≠ s.slv.tried.lanes → exec .trainingVerdict s = .next (s.attemptFailed true)) ∧
    (s.slv.good = none → exec .trainingVerdict s = .next (s.attemptFailed true))) ∧
  (∀ (s : State), s.slv.phase = .passed → exec .passPreambleTimeout s = .next (s.attemptFailed false)) ∧
  (∀ (s u v w : State) (us : Nat), s.slv.phase = .passed →
    u = ((s.at us).setLanes (s.at us).slv.mode.rate (s.at us).slv.mode.mask).forceMode.lanesIn →
    v = { u with
      execs := u.execs.map (fun x => if u.slv.fresh then { x with lastBasted := x.lastBasted.map (fun _ => u.clk) } else x)
      slv := { u.slv with
      phase := .data, fresh := false, backAt := none, ackUndo := none,
      newItems := (u.slv.newItems.map (TxItem.cut (max 256 u.slv.mode.maxFrame))).flatten } } →
    w = ((v.set SLV_STAT.STATE 2).set SLV_STAT.OWNER 0).laneRetrain →
    exec (.dataPhaseEntry us) s = .next (w.notify "sleeve up"
      [("lanes", dec (lanesOf w.slv.mode.lanes).length), ("rate", rateText w.slv.mode.rate), ("gusset", onOff w.slv.mode.gusset),
       ("split", onOff (w.slv.mode.feat.testBit 0)), ("attempts", dec w.slv.attempt), ("us", dec (w.clk - w.slv.firstGrtUs))])) ∧
  (∀ (s : State) (us : Nat), s.slv.phase ≠ .passed → exec .passPreambleTimeout s = .next s ∧ exec (.dataPhaseEntry us) s = .next s) ∧
  (∀ (s u v : State) (rx : SlvRx) (arg : Nat), s.slv.phase = .data → s.frameWhole rx 4 = (u, .accepted) →
    v = ((u.count SLV_RETRAIN.COUNT 1).set SLV_RETRAIN.LAST_REASON (s.slv.retrainDue.getD arg)).set SLV_CTL.RETRAIN 0 →
    exec (.lnkRetrainReceive rx 1 arg) s = .next { v with slv := { v.slv with
      phase := .retrainSent, reason := s.slv.retrainDue.getD arg, retrainDue := none } } ∧
    ∀ st, st ≠ 1 → exec (.lnkRetrainReceive rx st arg) s = .next u) ∧
  (∀ (s u : State) (rx : SlvRx) (st arg : Nat) (w : RxVerdict), s.slv.phase = .data → s.frameWhole rx 4 = (u, w) → w ≠ .accepted →
    exec (.lnkRetrainReceive rx st arg) s = .next u) ∧
  (∀ (s : State) (us : Nat), s.slv.phase = .retrainSent → exec (.retrainGrt us) s =
    .next ((State.at { s with slv := { s.slv with
      unacked := s.slv.unacked.map (fun x => { x with sends := 0 }), backAt := none } } us).negotiate s.slv.reason))

/-- Rests on R208, R213, R214, R219, R247 to R249, R251, R253 to R256, R261, R285, R305, R309: clock stop, wake bursts, the lanes, and the write that asks for a retrain. -/
def Obligations.SleeveClockAndLanes : Prop :=
  (∀ (s : State), s.slv.phase = .data → s.flag SLV_STAT.OWNER = true → s.slv.mode.feat.testBit 1 = true → s.slv.unacked = [] →
    s.slv.newItems = [] → s.slv.posted = [] → s.refusals = [] → s.slv.repDue = false → s.slv.retrainDue = none →
    exec .clockStopSend s =
      .next (State.entryGo (((s.slvSend [s.opening s.leaseNow false, .stop]).set SLV_STAT.LEASE_M s.leaseNow).clockStopped))) ∧
  (∀ (s : State), s.slv.unacked ≠ [] ∨ s.slv.newItems ≠ [] ∨ s.flag SLV_STAT.OWNER = false → exec .clockStopSend s = .next s.entryGo) ∧
  (∀ (s u : State) (ls : List Nat),
    (s.slv.phase = .data → s.codeSeen (s.rxLanes false) ls = (u, true) → exec (.clockStopReceive ls) s = .next u.clockStopped.entryGo) ∧
    (s.slv.phase = .data → s.codeSeen (s.rxLanes false) ls = (u, false) → exec (.clockStopReceive ls) s = .next u.entryGo) ∧
    (s.slv.phase ≠ .data → exec (.clockStopReceive ls) s = .next s.entryGo)) ∧
  (∀ (s u : State) (us : Nat), u = s.wakeEvent 2 0 us → s.squelchArmed = true ∨ s.slv.phase = .waking ∨ s.slv.phase = .stopped →
    (u.asleep = false → u.slv.phase = .stopped ∨ u.slv.phase = .waking →
      exec (.hostWakeBurst us) s = .next (u.sleeveOn.slvSend [.burst])) ∧
    (u.asleep = true ∨ (u.slv.phase ≠ .stopped ∧ u.slv.phase ≠ .waking) → exec (.hostWakeBurst us) s = .next u)) ∧
  (∀ (s : State) (us : Nat), s.squelchArmed = false → s.slv.phase ≠ .waking → s.slv.phase ≠ .stopped →
    exec (.hostWakeBurst us) s = .next (s.at us)) ∧
  (∀ (s v : State), s.slv.phase = .stopped → s.boot.sleeveHigh = true → s.asleep = false →
    s.slv.newItems ≠ [] ∨ s.slv.posted ≠ [] ∨ s.refusals ≠ [] ∨ s.slv.retrainDue ≠ none → v = s.sleeveOn →
    exec .cardWakeBurst s = .next (State.slvSend { v with slv := { v.slv with phase := .waking, bursts := 1 } } [.burst])) ∧
  (∀ (s : State), s.slv.phase ≠ .stopped ∨ s.boot.sleeveHigh = false ∨ s.asleep = true → exec .cardWakeBurst s = .next s) ∧
  (∀ (s : State) (us : Nat), s.slv.phase = .waking →
    (s.slv.bursts < 3 → exec (.wakeBurstRetry us) s = .next (State.slvSend { s with slv := { s.slv with bursts := s.slv.bursts + 1 } } [.burst])) ∧
    (3 ≤ s.slv.bursts → exec (.wakeBurstRetry us) s = .next ((s.at us).negotiate 5))) ∧
  (∀ (s : State) (lane us : Nat) (ok : Bool), lane < 9 → (s.at us).dom (laneDomain lane) = 1 →
    exec (.laneLoopbackDone lane ok us) s = .next ((s.at us).checkEnds (laneDomain lane) ok)) ∧
  (∀ (s : State) (lane : Nat), s.slv.ownLanes.contains lane = true → s.retryOk (laneDomain lane) = true →
    exec (.laneRetry lane) s = .next (s.switchOn (laneDomain lane) .card)) ∧
  (∀ (s : State) (lane : Nat), lane ≤ 8 → s.dom (laneDomain lane) = 3 → exec (.laneErrorThreshold lane) s = .next (s.laneOut lane true)) ∧
  (∀ (s : State) (lane : Nat), s.dom (laneDomain lane) ≠ 3 → exec (.laneErrorThreshold lane) s = .next s) ∧
  (∀ (s u : State), u = s.set SLV_CTL.RETRAIN 1 → 2 ≤ u.get SLV_STAT.STATE →
    (s.slv.retrainDue = none → exec .slvCtlRetrain s = .next { u with slv := { u.slv with retrainDue := some 2 } }) ∧
    (s.slv.retrainDue.isSome = true → exec .slvCtlRetrain s = .next u)) ∧
  (∀ (s : State), (s.set SLV_CTL.RETRAIN 1).get SLV_STAT.STATE < 2 → exec .slvCtlRetrain s = .next (s.set SLV_CTL.RETRAIN 1))

/-- Rests on R213, R214, R223, R273 to R275, R279 to R281, R283 to R292, R300, R305, R307, R312, R313, R327: turns, frames, ACK and REP. An ACK or REP counts only when its K-code is recognised, its copies agree and E is in
range; a REP counts from before its turn's ACK; a damaged item is not accepted; an accepted CMD frame's entries are taken in order; what `judge` answers is stated in full. -/
def Obligations.SleeveTurns : Prop :=
  (∀ (s u v : State) (rx : SlvRx) (q us : Nat) (p : Bytes), u = ((s.at us).frameWake.resume).at us → u.slv.phase = .data →
    (u.judge rx p.length = (v, .accepted) → exec (.cmdFrameReceive rx q p us) s =
      .next ((entriesOf 65 p).foldl (fun t e => t.acceptEntry q e (p.length % 64 != 0 || p.length == 0)) v)) ∧
    (∀ w, w ≠ .accepted → u.judge rx p.length = (v, w) → exec (.cmdFrameReceive rx q p us) s = .next v)) ∧
  (∀ (s u v : State) (rx : SlvRx) (ty tag q off : Nat) (p : Bytes), u = s.frameWake.resume → u.slv.phase = .data →
    (∀ w, w ≠ .accepted → u.judge rx p.length = (v, w) → exec (.datFrameReceive rx ty tag q off p) s = .next v) ∧
    (u.judge rx p.length = (v, .accepted) →
      (ty ≠ 3 → exec (.datFrameReceive rx ty tag q off p) s = .next (v.count SLV_DISCARD.UNEXP 1)) ∧
      (∀ x, ty = 3 → v.execOf q tag = some x → x.cmd.awaitsData = true → exec (.datFrameReceive rx ty tag q off p) s =
        .next (((v.cross x.pocket p.length).execData x off p).settle)) ∧
      (∀ k, ty = 3 → v.execOf q tag = none → v.queues.lookup q = some k → k.waiting.any (fun c => c.tag == tag && c.awaitsData) = true →
        exec (.datFrameReceive rx ty tag q off p) s = .next ((v.cross k.pocket p.length).setQueue q { k with
          waiting := k.waiting.map (fun c => if c.tag = tag then v.spread (c.takeData off p) else c) })) ∧
      (ty = 3 → v.execOf q tag = none → v.queues.lookup q = none →
        exec (.datFrameReceive rx ty tag q off p) s = .next (v.count SLV_DISCARD.UNEXP 1)))) ∧
  (∀ (s v : State) (rx : SlvRx) (n : Nat), s.frameWhole rx n = (v, .accepted) →
    (rx.seq % 4096 = s.rxE % 4096 → s.judge rx n = (v.set SLV_SEQ.RX_EXPECT ((s.rxE + 1) % 4096), .accepted)) ∧
    (2048 ≤ (rx.seq + 4096 - s.rxE) % 4096 → s.judge rx n = (v.count SLV_DISCARD.DUP 1, .duplicate)) ∧
    ((rx.seq + 4096 - s.rxE) % 4096 < 2048 → rx.seq % 4096 ≠ s.rxE % 4096 →
      s.judge rx n = ({ v with slv := { v.slv with repDue := true } }, .gap))) ∧
  (∀ (s u : State) (cs : List CtlCopy), u = s.resume.ctlErrs cs → s.resume.slv.phase = .data →
    (u.ctlValue cs = none → exec (.ackReceive cs) s = .next u) ∧
    (∀ e, u.ctlValue cs = some e → u.ackInRange e = false → exec (.ackReceive cs) s = .next u) ∧
    (∀ e v, u.ctlValue cs = some e → u.ackInRange e = true → v = (u.acked e).goBackTo e → exec (.ackReceive cs) s = .next { v with slv := { v.slv with
      ackUndo := some {
        acked := u.get SLV_SEQ.TX_ACKED, items := u.slv.unacked, back := u.slv.backAt, next := u.slv.txNext,
        cut := v.slv.newItems.length - u.slv.newItems.length } } })) ∧
  (∀ (s u : State) (cs : List CtlCopy), s.slv.phase = .data → u = (s.ctlErrs cs).ackUndone →
    (u.ctlValue cs = none → exec (.repReceive cs) s = .next u) ∧
    (∀ e, u.ctlValue cs = some e → u.ackInRange e = false → exec (.repReceive cs) s = .next u) ∧
    (∀ e, u.ctlValue cs = some e → u.ackInRange e = true →
      exec (.repReceive cs) s = .next (((u.count SLV_REPCNT.RX 1).acked e).goBackTo e))) ∧
  (∀ (s v : State) (ls : List Nat), s.resume.slv.phase = .data →
    (s.resume.codeSeen (s.resume.rxLanes false) ls = (v, true) → exec (.turnReceive ls) s = .next v.turnTaken) ∧
    (s.resume.codeSeen (s.resume.rxLanes false) ls = (v, false) → exec (.turnReceive ls) s = .next v)) ∧
  (∀ (s : State), (s.slv.phase = .data → exec .turnIdleInference s = .next s.turnTaken) ∧
    (s.slv.phase ≠ .data → exec .turnIdleInference s = .next s)) ∧
  (∀ s : State, s.turnTaken = State.set { s with slv := { s.slv with ackUndo := none } } SLV_STAT.OWNER 1) ∧
  (∀ (s : State), s.slv.phase = .data → s.slv.backAt.isSome = true → s.slv.unacked.any (fun x => 8 ≤ x.sends) = true →
    exec .repeatLimit s = .next (s.retrain 1)) ∧
  (∀ (s : State), s.slv.unacked.any (fun x => 8 ≤ x.sends) = false → exec .repeatLimit s = .next s) ∧
  (∀ (s u : State) (fit us n : Nat), u = s.at us → s.slv.phase = .data → s.flag SLV_STAT.OWNER = true →
    n = min (u.get SLV_FORCE0.TURN_MAX_FRAMES) fit →
    ((u.planTurn n).ninth = true → exec (.cardTurnStart fit us) s = .next (u.retrainTurn (u.slv.retrainDue.getD 1))) ∧
    (∀ r, (u.planTurn n).ninth = false → u.slv.okFirst = false → u.slv.retrainDue = some r →
      exec (.cardTurnStart fit us) s = .next (u.retrainTurn r))) ∧
  (∀ (s : State) (fit us : Nat), s.slv.phase ≠ .data ∨ s.flag SLV_STAT.OWNER = false → exec (.cardTurnStart fit us) s = .next s) ∧
  (∀ (s u v w : State) (fit us m : Nat), u = s.at us → s.slv.phase = .data → s.flag SLV_STAT.OWNER = true → u.slv.retrainDue = none →
    u.slv.posted = [] → u.refusals = [] → u.slv.newItems = [] → u.slv.backAt = none → u.slv.txNext < 4096 → m = u.leaseNow →
    v = { u with slv := { u.slv with repDue := false, okFirst := false } } →
    w = (if u.slv.repDue then v.count SLV_REPCNT.TX 1 else v) →
    exec (.cardTurnStart fit us) s = .next (((w.slvSend [u.opening m u.slv.repDue, .turn]).set SLV_STAT.LEASE_M m).set SLV_STAT.OWNER 0).settle)

/-- Rests on R339 to R355, R367, R385, R404, R449, R611, R614: the dispatch of the seven opcodes. When the arbiter chooses a command of the opcode, no reservation holds it and its checks
pass, READ, WRITE, TRIM, FLUSH, VERIFY, COPY and SEAL each complete their dispatch: the command enters execution as its opcode says; when it chooses nothing, or a command of another opcode, nothing happens; a
command whose checks fail completes at once with its status. -/
def Obligations.OpcodeDispatch : Prop :=
  (∀ (s v : State) (q us : Nat) (c : Cmd) (k : QueuePair), (s.at us).select = some (v, q, c) → v.queues.lookup q = some k → v.nonceHolds c = false →
    (c.opcode = 1 → v.dispatchFault k.pocket c (State.readNeedsBulk k.pocket c v) = none → exec (.read us) s =
      .next (((v.newExec q k.pocket c k).1.startRead (v.newExec q k.pocket c k).2 k).settle).endVisits) ∧
    (c.opcode = 2 → v.dispatchFault k.pocket c true = none → exec (.write us) s =
      .next (((v.newExec q k.pocket c k).1.startWrite (v.newExec q k.pocket c k).2 k).settle).endVisits) ∧
    (c.opcode = 3 → v.dispatchFault k.pocket c false = none → exec (.trim us) s =
      .next (((v.newExec q k.pocket c k).1.startTrim (v.newExec q k.pocket c k).2 k).settle).endVisits) ∧
    (c.opcode = 4 → v.dispatchFault k.pocket c false = none → exec (.flush us) s =
      .next (((v.newExec q k.pocket c k).1.startFlush (v.newExec q k.pocket c k).2 k).settle).endVisits) ∧
    (c.opcode = 5 → v.dispatchFault k.pocket c false = none → exec (.verify us) s =
      .next (((v.newExec q k.pocket c k).1.startRead (v.newExec q k.pocket c k).2 k).settle).endVisits) ∧
    (c.opcode = 6 → v.dispatchFault k.pocket c (State.readNeedsBulk k.pocket c v) = none → exec (.copy us) s =
      .next (((v.newExec q k.pocket c k).1.startCopy (v.newExec q k.pocket c k).2 k).settle).endVisits) ∧
    (c.opcode = 7 → v.dispatchFault k.pocket c false = none → exec (.seal us) s =
      .next (((v.newExec q k.pocket c k).1.sealReady (v.newExec q k.pocket c k).2).settle).endVisits)) ∧
  (∀ (s u : State) (us : Nat), u = s.at us → u.select = none →
    exec (.read us) s = .next u ∧ exec (.write us) s = .next u ∧ exec (.trim us) s = .next u ∧ exec (.flush us) s = .next u ∧
    exec (.verify us) s = .next u ∧ exec (.copy us) s = .next u ∧ exec (.seal us) s = .next u) ∧
  (∀ (s u v : State) (us q : Nat) (c : Cmd) (k : QueuePair) (st : Status), u = s.at us → u.select = some (v, q, c) → v.queues.lookup q = some k →
    v.nonceHolds c = false →
    (c.opcode = 1 → v.dispatchFault k.pocket c (State.readNeedsBulk k.pocket c v) = some st →
      exec (.read us) s = .next (v.postWaiting q c st).endVisits) ∧
    (c.opcode = 2 → v.dispatchFault k.pocket c true = some st → exec (.write us) s = .next (v.postWaiting q c st).endVisits) ∧
    (c.opcode = 3 → v.dispatchFault k.pocket c false = some st → exec (.trim us) s = .next (v.postWaiting q c st).endVisits) ∧
    (c.opcode = 4 → v.dispatchFault k.pocket c false = some st → exec (.flush us) s = .next (v.postWaiting q c st).endVisits) ∧
    (c.opcode = 5 → v.dispatchFault k.pocket c false = some st → exec (.verify us) s = .next (v.postWaiting q c st).endVisits) ∧
    (c.opcode = 6 → v.dispatchFault k.pocket c (State.readNeedsBulk k.pocket c v) = some st →
      exec (.copy us) s = .next (v.postWaiting q c st).endVisits) ∧
    (c.opcode = 7 → v.dispatchFault k.pocket c false = some st → exec (.seal us) s = .next (v.postWaiting q c st).endVisits) ∧
    (c.opcode ≠ 1 → exec (.read us) s = .next u)) ∧
  (∀ (s u v : State) (us q : Nat) (c : Cmd) (k : QueuePair), u = s.at us → u.select = some (v, q, c) → c.opcode = 2 → v.queues.lookup q = some k →
    v.nonceHolds c = true →
    c.nwait = false → exec (.write us) s =
      .next ((u.setQueue q { k with waiting := { c with nwait := true } :: k.waiting }).count CIP_NWAIT.COUNT 1)) ∧
  (∀ (s : State) (x : Exec) (k : QueuePair), x.cmd.bad = true → s.startWrite x k = s.finishExec x .badFrame 0)

/-- Rests on R317 to R320, R327, R365, R378, R386, R387, R392, R992, R997: the end of a size reduction, of a deletion and of a queue; the deadline of basted
reads; a prefetched block; a Stitch that the mover takes to flash. -/
def Obligations.PocketAndCacheEnds : Prop :=
  (∀ (s : State) (p : Nat) (k : Pocket) (c : PocketChange), s.pockets.lookup p = some k → k.change = some c →
    (s.anyBeyond p c.size = true → exec (.pocketSizeReduceApply p) s = .next s) ∧
    (s.anyBeyond p c.size = false → s.usedFrom p c.size = true → exec (.pocketSizeReduceApply p) s =
      .next ((s.setPocket p { k with change := none }).finishFor (.sizeReduce p) (fun t => .er t .wrongState))) ∧
    (∀ v, s.anyBeyond p c.size = false → s.usedFrom p c.size = false → s.changePocket p k c = some v →
      exec (.pocketSizeReduceApply p) s =
        .next ((v.tellChange p).finishFor (.sizeReduce p) (fun t => .ok t [] ((v.tellChange p).pocketKv p))))) ∧
  (∀ (s v : State) (p : Nat) (k : Pocket) (qs : List (Nat × QueuePair)), s.pockets.lookup p = some k → k.state = .deleting → 5 ≤ k.delStep →
    qs = s.queues.filter (fun q => q.2.pocket == p) → qs.all (fun q => s.queueIdle q.1 q.2) = true →
    (s.ready = false → exec (.pocketDeleteFinish p) s = .next s) ∧
    (s.ready = true → v = s.closeFinal p →
      exec (.pocketDeleteFinish p) s = .next (((qs.foldl (fun t q => (t.freeQueue q.1).notify "queue free" [("q", queueId q.1)]) v).freeIndex p
        k.size).freePocket p).confRecord)) ∧
  (∀ (s : State) (p : Nat), s.pockets.lookup p = none → exec (.pocketDeleteFinish p) s = .next s ∧ exec (.pocketSizeReduceApply p) s = .next s) ∧
  (∀ (s : State) (q : Nat) (k : QueuePair) (p : Pocket), s.queues.lookup q = some k → s.pockets.lookup k.pocket = some p → p.state ≠ .deleting →
    (k.state = .draining → s.queueIdle q k = true → exec (.queueFree q) s =
      .next (State.notify (State.confRecord { s with queues := s.queues.filter (fun x => x.1 ≠ q) }) "queue free" [("q", queueId q)])) ∧
    (k.state = .opened → exec (.queueFree q) s = .next s)) ∧
  (∀ (s u : State) (q tag us t : Nat) (x : Exec), u = s.at us → u.execOf q tag = some x → x.lastBasted = some t →
    (us < t + 50000 → exec (.basteCplDeadline q tag us) s = .next u) ∧
    (t + 50000 ≤ us → ∃ y : Exec, exec (.basteCplDeadline q tag us) s = .next (u.setExec y).settle ∧ y.cmd = x.cmd ∧ y.id = x.id ∧
      y.blks.length = x.blks.length ∧ ∀ b ∈ y.blks, b.codec = .good ∨ ∃ n, b.codec = .lost n)) ∧
  (∀ (s : State) (p lba : Nat) (errs : List Nat),
    s.cache.wanted.contains (p, lba) = false ∨ s.hostReads (ppaCh (entryPpa (s.entry p (lba / 4)))) = true →
    exec (.prefetchFill p lba errs) s = .next s) ∧
  (∀ (s u s0 v w : State) (p lba ppa : Nat) (errs : List Nat) (r : Decode) (k : Pocket) (wd : Bytes) (n : Nat),
    s.cache.wanted.contains (p, lba) = true → s.hostReads (ppaCh (entryPpa (s.entry p (lba / 4)))) = false →
    u = { s with cache := { s.cache with wanted := s.cache.wanted.filter (fun w => w ≠ (p, lba)) } } → ppa = entryPpa (u.entry p (lba / 4)) →
    (entryValid (u.entry p (lba / 4))).testBit (lba % 4) = true → u.pockets.lookup p = some k → k.state = .active → u.staging = false →
    u.flag CCH_CFG.PF_EN = true → u.flashReadable (ppaCh ppa) = true → s0 = (u.cross 0 4096).learn ppa (lba % 4) errs → r = s0.decodeRead ppa (lba % 4) errs →
    v = (s0.countLap ppa (lba % 4) r).countCorrected ppa (lba % 4) r →
    v.right ppa (lba % 4) r = some (wd, n) → cwFormat wd ≠ 7 → w = v.fill p lba .prefetch (cwData wd) (cwCheck wd) →
    exec (.prefetchFill p lba errs) s = .next
      (if (w.cached p lba).isSome = true ∧ (v.cached p lba).isNone = true then w.count CCH_PFFILL.BLOCKS 1 else w)) ∧
  (∀ (s : State) (p st g i : Nat) (unc : List Nat) (b : Bolt), s.bolt g i = some b →
    s.flushRank p st = none ∨ (∃ r, s.flushRank p st = some r ∧ s.flushBefore r = true) ∨ s.stitchBusy p st = true →
    exec (.moverFlush p st g i unc false) s = .next s) ∧
  (∀ (s : State) (p st g i : Nat) (unc : List Nat) (pad : Bool), s.bolt g i = none → exec (.moverFlush p st g i unc pad) s = .next s) ∧
  (∀ (s u v : State) (p st g i valid r : Nat) (unc : List Nat) (b : Bolt) (ws : List (Bytes × Bool)) (mine : CacheEntry → Bool),
    s.bolt g i = some b → b.use = .host → b.room = true → s.flushRank p st = some r → s.flushBefore r = false → s.stitchBusy p st = false →
    mine = (fun e => e.pocket == p && e.lba / 4 == st && !e.old && (e.kind == .dirty || e.kind == .through)) →
    s.segAbsent (s.segOf p st) = false →
    ws = (List.range 4).map (s.mergeWord p st b.seq (s.flash.wseq + 1) unc) →
    valid = ((List.range 4).map (fun j => if (ws.getD j ([], false)).2 then 2 ^ j else 0)).sum →
    u = (s.unclean.setEntries (s.cache.entries.map (fun e => if mine e then { e with prog := true } else e))).cross p
      (16384 + 4096 * ((List.range 4).filter (s.fromMedia p st)).length) →
    v = { u with flash := { u.flash with wseq := s.flash.wseq + 1 } } →
    exec (.moverFlush p st g i unc false) s =
      .next (v.place b (.stitch p st valid (v.entry p st) true ((s.cache.entries.filter mine).map (fun e => e.filled))) (ws.map (fun x => x.1))))

/-- Rests on R439, R441, R446, R447, R451 to R458, R460, R463, R465 to R468, R470, R471, R478: Bolts, programs, map segments, checkpoints, collection and wear levelling. -/
def Obligations.BoltsAndMap : Prop :=
  (∀ (s v : State) (q l us : Nat) (same : Bool), q < 16 → (s.at us).dom (q + 1) = 1 →
    (l % 16 = 15 → same = true → (s.at us).flash.differs.contains q = false → v = (s.at us).checkPass (q + 1) →
      exec (.quadCheckDone q l same us) s = .next ((v.showQuad q).set (FQ_STAT.LOOP_OK q) l)) ∧
    (l % 16 ≠ 15 ∨ same = false ∨ (s.at us).flash.differs.contains q = true → exec (.quadCheckDone q l same us) s = .next ((s.at us).checkFail (q + 1)))) ∧
  (∀ (s : State) (q : Nat), s.flash.ownQuads.contains q = true → s.retryOk (q + 1) = true → exec (.quadRetry q) s = .next (s.switchOn (q + 1) .card)) ∧
  (∀ (s v : State) (g i : Nat) (all : List Nat), s.boltFree g i = true → s.mayOpen g .host = true → all = s.positions g i true → 16 ≤ all.length →
    v = s.erasePages g i →
    exec (.boltOpen g i 0) s = .next { v with flash := { v.flash with
      boltSeq := s.flash.boltSeq + 1, bolts := v.flash.bolts ++ [{
        group := g, idx := i, state := .erasing, use := .host, seq := s.flash.boltSeq + 1, t := 0, present := all,
        toErase := all, rows := 0, planes := 1, next := 0, rowsDone := [], bare := [], closing := false, bad := [], learnt := true, moved := 0 }] } }) ∧
  (∀ (s : State) (g i u : Nat), s.boltFree g i = false → exec (.boltOpen g i u) s = .next s) ∧
  (∀ (s v : State) (g i ch : Nat) (b : Bolt), s.bolt g i = some b → b.state = .erasing → b.toErase.contains ch = true →
    (v = s.countErase ch g i → b.toErase.filter (fun c => c ≠ ch) = [] →
      exec (.blockEraseDone g i ch true) s = .next (v.boltErased { b with toErase := [] })) ∧
    (v = s.countErase ch g i → b.toErase.filter (fun c => c ≠ ch) ≠ [] →
      exec (.blockEraseDone g i ch true) s = .next (v.setBolt { b with toErase := b.toErase.filter (fun c => c ≠ ch) })) ∧
    (v = (s.count (FQ_ERR.ERASE_FAIL (ch / 4)) 1).retire ch g i → b.toErase.filter (fun c => c ≠ ch) ≠ [] →
      exec (.blockEraseDone g i ch false) s = .next (v.setBolt { b with
        toErase := b.toErase.filter (fun c => c ≠ ch), present := b.present.filter (fun c => c ≠ ch) }))) ∧
  (∀ (s u : State) (ppa : Nat) (line : List Prog), s.lineFilled ppa = true → s.parityEarly ppa = false → line = s.lineProgs ppa →
    u = { s with flash := { s.flash with progs := s.flash.progs.filter (fun g => !line.any (fun h => h.ppa == g.ppa)) } } →
    exec (.stitchProgramDone ppa true) s = .next (((line.foldl (fun t g => t.progOk g) u).gcRun.flushMode.settle).twinAck).entryGo ∧
    ∀ b, u.boltAt ppa = some b → exec (.stitchProgramDone ppa false) s =
      .next (((((((line.foldl (fun t g => t.progBad g) u).redoParity b.group b.idx).padRow b.group b.idx 64).gcRun).flushMode.settle).twinAck).entryGo)) ∧
  (∀ (s : State) (ppa : Nat) (ok : Bool), s.lineFilled ppa = false ∨ s.parityEarly ppa = true →
    exec (.stitchProgramDone ppa ok) s = .next s.twinAck.entryGo) ∧
  (∀ (s : State) (g i : Nat) (b : Bolt), s.bolt g i = some b →
    (b.state = .victim → s.liveIn b = 0 → b.moved = 0 → s.readsIn g i = false → exec (.boltRelease g i) s =
      .next (State.readonlyExit { s with flash := { s.flash with
        mapBolts := s.flash.mapBolts.filter (fun x => x.2 ≠ (g, i)),
        bolts := s.flash.bolts.filter (fun x => !(x.group == g && x.idx == i)) } }).gcMode) ∧
    (b.state ≠ .victim ∨ s.liveIn b ≠ 0 ∨ b.moved ≠ 0 ∨ s.readsIn g i = true → exec (.boltRelease g i) s = .next s)) ∧
  (∀ (s : State) (e : Nat) (g : Seg), s.seg e = some g → 
    (g.reading = true → s.replaying g = false → exec (.mapSegmentReadDone e) s = .next ((s.cross 0 65536).segArrives e)) ∧
    (g.reading = false ∨ s.replaying g = true → exec (.mapSegmentReadDone e) s = .next s)) ∧
  (∀ (s u : State) (e fit : Nat) (g : Seg), u = { s with flash := { s.flash with fit := fit } } → u.seg e = some g →
    (g.rebuilding = true ∨ u.replaying g = true ∨ (g.dirty = false ∧ ∀ b, u.slotBolt g.slot = some b → b.state ≠ .victim) →
      exec (.mapSegmentWriteDone e fit) s = .next u) ∧
    (g.rebuilding = false → u.replaying g = false → (g.dirty = true ∨ ∃ b, u.slotBolt g.slot = some b ∧ b.state = .victim) →
      exec (.mapSegmentWriteDone e fit) s = .next (u.putSeg e).1.runHeld.settle)) ∧
  (∀ (s u : State) (e fit : Nat), u = { s with flash := { s.flash with fit := fit } } → u.seg e = none →
    exec (.mapSegmentWriteDone e fit) s = .next u) ∧
  (∀ (s u : State) (us : Nat), u = s.at us → u.flash.ckptUs + 30000000 ≤ us → 0 < u.dirtySegs →
    (u.flash.ckptRuns = none → u.flag SYS_BOOTSTAT.REPLAY = false → exec (.checkpointTimer us) s = .next (u.beginCkpt false false)) ∧
    (u.flash.ckptRuns.isSome = true ∨ u.flag SYS_BOOTSTAT.REPLAY = true → exec (.checkpointTimer us) s = .next u)) ∧
  (∀ (s u : State) (us : Nat), u = s.at us → us < u.flash.ckptUs + 30000000 ∨ u.dirtySegs = 0 → exec (.checkpointTimer us) s = .next u) ∧
  (∀ (s u : State) (us : Nat), u = s.at us → u.flash.ckptRuns = none → exec (.checkpointDone us) s = .next u.entryGo) ∧
  (∀ (s u v : State) (us : Nat) (c : CkptRun), u = s.at us → u.flash.ckptRuns = some c → v = u.writeIndex →
    (c.segs ≠ [] → exec (.checkpointDone us) s = .next u.entryGo) ∧
    (c.segs = [] → v.flash.idxDirty ≠ [] → exec (.checkpointDone us) s = .next v.entryGo) ∧
    (c.segs = [] → v.flash.idxDirty = [] → c.own = false → exec (.checkpointDone us) s = .next (v.ckptRecord c).settle.entryGo) ∧
    (c.segs = [] → v.flash.idxDirty = [] → c.own = true → exec (.checkpointDone us) s = .next (((v.ckptRecord c).finishFor .checkpoint
      (fun t => .ok t [] [("ms", dec (roundDiv (u.clk - u.flash.ckptOwnUs) 1000))])).settle).entryGo))

/-- Rests on R465 to R467, R469, R470, R505, R525, R526, R1059: garbage collection, wear levelling, relocation, the patrol and the end of a format. While the card has quiesced,
none of the first four begins. -/
def Obligations.FlashUpkeep : Prop :=
  (∀ (s : State) (g us : Nat), s.quiesced = true → exec .gcStart s = .next s ∧ exec (.wearLevelStart g) s = .next s ∧
    exec .relocation s = .next s ∧ ((s.at us).quiesced = true → exec (.flashPatrolRead us) s = .next (s.at us))) ∧
  (∀ (s : State), s.quiesced = false → s.gcStartAt ≤ s.freeBolts → exec .gcStart s = .next s.gcMode) ∧
  (∀ (s : State) (useful : List Bolt), s.quiesced = false → s.freeBolts < s.gcStartAt →
    useful = s.flash.bolts.filter (fun b => b.state == .full && (b.bare != [] || decide (s.liveIn b < b.rows * b.width)) &&
      (s.canCopy || s.liveIn b == 0)) →
    (∀ b, leastBy (fun b => (if b.bare = [] then 2 ^ 128 else 0) + s.liveIn b * 2 ^ 64 + b.seq % 2 ^ 64) useful = some b →
      exec .gcStart s = .next (s.takeVictim b).gcMode) ∧
    (useful = [] → s.freeBolts ≤ 2 → s.flag MOV_STAT.READONLY = false → exec .gcStart s =
      .next ((s.set MOV_STAT.READONLY 1).notify "flash readonly" []).gcMode)) ∧
  (∀ (s : State) (g lo : Nat) (b : Bolt), s.quiesced = false → leastBy (fun n => n) (s.groupErases g) = some lo →
    lo + clamp 50 10000 (s.get MOV_WL.SPREAD) < (s.groupErases g).foldl max 0 →
    leastBy (fun b => (b.present.map (fun c => s.eraseCount c b.group b.idx)).foldl min (2 ^ 32))
      (s.flash.bolts.filter (fun b => b.state == .full && b.group == g)) = some b →
    exec (.wearLevelStart g) s = .next (s.takeVictim b)) ∧
  (∀ (s u : State) (r : Reloc) (b : Bolt), s.quiesced = false → s.flash.relocs.find? (fun r => !r.copying) = some r →
    (s.openBolts .gc).find? (fun b => b.room) = some b →
    u = { s with flash := { s.flash with relocs := s.flash.relocs.map (fun x => if x = r then { x with copying := true } else x) } } →
    (s.entry r.pocket r.stitch ≠ 0 → entryPpa (s.entry r.pocket r.stitch) = r.ppa →
      exec .relocation s = .next (u.copyStitch b r.pocket r.stitch r.poison)) ∧
    (s.entry r.pocket r.stitch = 0 ∨ entryPpa (s.entry r.pocket r.stitch) ≠ r.ppa →
      exec .relocation s = .next (s.tidyReloc r.pocket r.stitch))) ∧
  (∀ (s : State), s.flash.relocs.find? (fun r => !r.copying) = none ∨ (s.openBolts .gc).find? (fun b => b.room) = none →
    exec .relocation s = .next s) ∧
  (∀ (s u : State) (us pos ppa : Nat), u = s.at us → u.ready = true → u.asleep = false → u.quiesced = false → u.flag ECC_CFG.PATROL_EN = true →
    u.patrolNext = some (pos, ppa) → u.channelBusy (ppaCh ppa) = false → u.flag PWR_STATE.IDLE_ARM = false →
    exec (.flashPatrolRead us) s = .next { u with flash := { u.flash with
      patrolPos := pos + 1, patrolUs := upsert (ppaCh ppa) us u.flash.patrolUs, reads := u.flash.reads ++ [ppa] } }) ∧
  (∀ (s u : State) (us : Nat), u = s.at us → u.ready = true → u.asleep = false → u.quiesced = false → u.flag ECC_CFG.PATROL_EN = true →
    u.patrolNext = none → (u.flash.reads = [] → 0 < u.flash.patrolPos → exec (.flashPatrolRead us) s = .next u.lapEnds) ∧
    (u.flash.reads ≠ [] ∨ u.flash.patrolPos = 0 → exec (.flashPatrolRead us) s = .next u)) ∧
  (∀ (s u : State) (us : Nat), u = s.at us → u.ready = true → u.flag ECC_CFG.PATROL_EN = true → u.flash.lapWarned = false →
    3600000000 * clamp 24 8760 (u.get ECC_FPATROL.WARN_H) < us - u.flash.lapStart →
    exec (.patrolSlow us) s = .next (State.notify { u with flash := { u.flash with lapWarned := true } } "flash patrol slow"
      [("h", dec ((us - u.flash.lapStart) / 3600000000))])) ∧
  (∀ (s : State) (us : Nat), s.flash.lapWarned = true → exec (.patrolSlow us) s = .next (s.at us)) ∧
  (∀ (s u : State) (us : Nat), u = s.at us → (u.flash.formatting = true → u.ready = true → exec (.flashFormatDone us) s =
    .next (u.formatAll.endJobOf "flash format" .done)) ∧ (u.flash.formatting = false → exec (.flashFormatDone us) s = .next u))

/-- Rests on R371 to R375, R494 to R506: codeword results, read-retry and rebuild. A recovery that lasts 40 ms is given up; a retry step takes the codewords it corrects off the
recovery; a rebuild delivers what the row's parity gives, and a page on a dark quad ends its commands with DOMAIN_OFF. -/
def Obligations.FlashRecovery : Prop :=
  (∀ (s u v w : State) (ppa j us : Nat) (errs : List Nat) (r : Decode), u = (s.at us).learn ppa j errs → r = u.decodeRead ppa j errs →
    v = (u.countLap ppa j r).countCorrected ppa j r →
    w = (u.waitersAt (.media ppa j)).foldl (fun t x => t.hearDecode ppa j us r x.1 x.2) v →
    (u.flash.reads.contains ppa = true → exec (.codewordDecode ppa j errs us) s = .next (w.patrolHears ppa j us r).settle) ∧
    (u.waitersAt (.media ppa j) ≠ [] → u.flash.reads.contains ppa = false → exec (.codewordDecode ppa j errs us) s = .next w.settle) ∧
    (u.waitersAt (.media ppa j) = [] → u.flash.reads.contains ppa = false → exec (.codewordDecode ppa j errs us) s = .next u)) ∧
  (∀ (s u v : State) (ppa us : Nat) (errs : List (Nat × List Nat)) (left : List Nat) (r : Recovery), u = s.at us →
    u.flash.recov.find? (fun r => r.ppa == ppa) = some r → r.step ≠ 0 →
    (u.stepLevels ppa r.step).retryAll ppa (r.failing.map (fun j => (j, u.decodeRead ppa j ((errs.lookup j).getD [])))) = (v, left) →
    exec (.retryStepDone ppa errs us) s = .next ((v.nextStep { r with failing := left }).settle)) ∧
  (∀ (s : State) (ppa us : Nat) (errs : List (Nat × List Nat)) (reads : List (Nat × List (List (List Nat)))),
    s.flash.recov.find? (fun r => r.ppa == ppa) = none →
    exec (.retryStepDone ppa errs us) s = .next (s.at us) ∧ exec (.rebuildDone ppa reads us) s = .next (s.at us) ∧
    exec (.recoveryTimeout ppa us) s = .next (s.at us)) ∧
  (∀ (s u v : State) (ppa us : Nat) (reads : List (Nat × List (List (List Nat)))) (r : Recovery) (b : Bolt), u = s.at us →
    u.flash.recov.find? (fun r => r.ppa == ppa) = some r → u.boltAt ppa = some b → r.step = 0 →
    v = u.setRecov (u.flash.recov.filter (fun q => q.ppa ≠ ppa)) →
    (b.present.all (fun c => u.flashReadable c || c == ppaCh ppa) = false → exec (.rebuildDone ppa reads us) s =
      .next ((r.failing.foldl (fun t j => t.giveUp ppa j .domainOff) v).settle)) ∧
    (b.present.all (fun c => u.flashReadable c || c == ppaCh ppa) = true →
      (u.rowClosed ppa = false → exec (.rebuildDone ppa reads us) s = .next ((u.failRecovery r).settle)) ∧
      (∀ w : State, u.rowClosed ppa = true → u.readRow ppa reads (u.rowOthers b ppa) = (w, none) →
        exec (.rebuildDone ppa reads us) s = .next ((w.failRecovery r).settle)) ∧
      ∀ (w x y : State) (others : List Page) (pg : Page), u.rowClosed ppa = true → u.readRow ppa reads (u.rowOthers b ppa) = (w, some others) →
        pg = w.rebuilt b ppa others → x = w.setRecov (w.flash.recov.filter (fun q => q.ppa ≠ r.ppa)) →
        y = (if r.failing.all (fun j => w.fits r.ppa j (pg.getD j [])) then x.count ECC_FRETRY.REBUILD_OK 1 else x) →
        exec (.rebuildDone ppa reads us) s = .next (((r.failing.foldl (fun t j =>
          if w.fits r.ppa j (pg.getD j []) then t.deliver r.ppa j (pg.getD j []) else t.loseBlock r.ppa j) y).refreshPage r.ppa).settle))) ∧
  (∀ (s u : State) (ppa us : Nat) (r : Recovery), u = s.at us → u.flash.recov.find? (fun r => r.ppa == ppa) = some r →
    (us < r.since + 40000 → exec (.recoveryTimeout ppa us) s = .next u) ∧
    (r.since + 40000 ≤ us → exec (.recoveryTimeout ppa us) s = .next ((u.failRecovery r).settle)))

/-- Rests on R511, R663 to R668, R672 to R675, R680, R1118: accesses of the Tailor cores. A refused access raises PRIV_FAULT; the ROM starts a stored extension
that passes every check; LOCK is set; a tag write of the cache's or the inbound area's lines is refused; each row of Table SDP-1 has its consequence. -/
def Obligations.AccessEvents : Prop :=
  (∀ (s u : State) (core a addr us : Nat) (p1 : Bool), u = s.at us → core < 2 → a < 3 → (p1 = true → core = 1) → u.domIn (49 + core) = true →
    (u.coreRefused core p1 a addr = true → exec (.mpuFault core p1 a addr us) s = .next (u.mpuFault core p1 a addr)) ∧
    (u.coreRefused core p1 a addr = false → exec (.mpuFault core p1 a addr us) s = .next u)) ∧
  (∀ (s u : State) (img : Bytes) (slot : Nat), s.extMayStart = true → s.flag (MPU_CTL.P1ACT 1) = false → s.access.ext = some (img, slot) →
    u = s.haltExt.loadExt img →
    (u.extCheck img slot = none → exec .extensionStart s =
      .next (((u.programRegions (extRegions img)).set (MPU_CTL.P1ACT 1) 1).set MPU_EXT.STATE 1)) ∧
    (∀ st, u.extCheck img slot = some st → exec .extensionStart s =
      .next ((u.set MPU_EXT.STATE 2).notify "mpu ext rejected" [("status", hex0x 3 st.code)]))) ∧
  (∀ (s : State), s.extMayStart = false ∨ s.access.ext = none → exec .extensionStart s = .next s) ∧
  (∀ (s : State) (core : Nat), core < 2 → s.dom (49 + core) ≠ 0 →
    exec (.mpuLock core core false) s = .next (s.set (MPU_CTL.LOCK core) 1) ∧ ∀ w, exec (.mpuLock core w true) s = .next s) ∧
  (∀ (s : State), s.dom 50 ≠ 0 → s.domIn 50 = true → exec (.mpuLock 1 0 false) s = .next s) ∧
  (∀ (s u : State) (core v n c a : Nat), core < 2 → u = s.setOn core TAG_WCTL.VALUE v → a = 64 * s.getOn core TAG_WADDR.LINE → s.chanOf a = (n, c) →
    (s.inCarve "cache" a = true ∨ s.inCarve "inbound" a = true → exec (.tagWrite core v false) s = .next (u.setOn core TAG_WCTL.ERR 1)) ∧
    (s.inCarve "cache" a = false → s.inCarve "inbound" a = false → a < s.dramSize → s.drcServes n = true → s.inTagStore n c = false →
      exec (.tagWrite core v false) s = .next ((u.setOn core TAG_WCTL.ERR 0).tagByte n c (v % 256)))) ∧
  (∀ (s : State) (core v : Nat), exec (.tagWrite core v true) s = .next s) ∧
  (∀ (s : State) (arr d b n : Nat) (o : Owner) (cl : Option Nat), b < 13 →
    exec (.sramUncorrectable arr d [] o n cl) s = .next s ∧
    exec (.sramUncorrectable arr d [b] o n cl) s = .next (s.count ECC_SCORR.CORR 1)) ∧
  (∀ (s v : State) (arr d : Nat) (o : Owner) (n : Nat) (cl : Option Nat) (e : Instr), v = ((s.count ECC_SCORR.UNC 1).set ECC_SLAST.DOMAIN d).set
      ECC_SLAST.ARRAY arr → (∃ b c, b < 13 ∧ c < 13 ∧ b ≠ c ∧ e = .sramUncorrectable arr d [b, c] o n cl) →
    (arr = 1 → exec e s = .next (v.accessLost o .poison).settle) ∧
    (arr = 2 → exec e s = .next (v.runFault 26 causeMemErr)) ∧
    (arr = 3 → 39 ≤ d → d ≤ 42 → exec e s = .next (v.runFault d causeMemErr)) ∧
    (∀ q t, arr = 4 → o = .command q t → exec e s = .next (v.accessLost o .poison).settle) ∧
    (∀ k live, arr = 4 → (∀ q t, o ≠ .command q t) → v.keys.image.lookup n = some k → v.keys.slots.lookup n = some live → exec e s =
      .next { v with keys := { v.keys with slots := upsert n (live.reloaded k) v.keys.slots } }) ∧
    (∀ g, arr = 5 → o = .segment g → exec e s = .next (v.rebuildSeg g)) ∧
    (arr = 6 → exec e s = .next (v.poisonLine (n / 2 ^ 32 % 2) (n % 2 ^ 32))) ∧
    (arr = 7 → d = 50 → v.life.run = none → exec e s = .next (if v.dom 50 = 0 then v else v.resetDomain 50 .card)) ∧
    (arr = 7 → d ≠ 50 → v.life.run = none → exec e s = .next (v.beginReset .warm causeMemErr)) ∧
    (∀ r, arr = 7 → v.life.run = some r → r.dom = d → exec e s = .next (v.runFault d causeMemErr)) ∧
    (arr = 8 → exec e s = .next (v.meterDamaged (n / 32 % 256) (n / 4 % 8) (n % 4) cl)) ∧
    (arr = 9 → v.boot.romErrs = 0 → exec e s = .next (State.beginReset { v with boot := { v.boot with romErrs := 1 } } .warm causeMemErr)) ∧
    (arr = 9 → v.boot.romErrs ≠ 0 → exec e s =
      .next (State.enterLimp { v with boot := { v.boot with romErrs := v.boot.romErrs + 1 } } 1 49)))

/-- Rests on R513 to R516, R519, R520, R556 to R569, R571, R683 to R693: requests to DRAM and to staging SRAM. A request passes with its line's colour, or is refused with a
colour fault; the scheduler issues what it picks; the oldest issued read is answered with data, or with POISON; an entry of the merge buffer leaves
after 2 µs. -/
def Obligations.DramTraffic : Prop :=
  (∀ (s u : State) (p a c g ns : Nat) (op : DramOp) (h : Bool) (o : Owner) (tu ev : LineErrs), u = s.at (ns / 1000) → c = u.colourOf o → g = a / 4096 →
    (g < 1024 → colourPasses o c (u.granuleColour g) = true → exec (.dramRequest p a op h o true tu ev ns) s = .next u) ∧
    (g < 1024 → colourPasses o c (u.granuleColour g) = false → exec (.dramRequest p a .read h o true tu ev ns) s =
      .next (u.colourFault 0x10 p c (u.granuleColour g) a false false o)) ∧
    (1024 ≤ g → exec (.dramRequest p a op h o true tu ev ns) s = .next u)) ∧
  (∀ (s u : State) (p a c ns n k b : Nat) (h : Bool) (o : Owner) (tu ev : LineErrs), u = s.at (ns / 1000) → u.chanOf a = (n, k) → p < 8 →
    u.drcServes n = true → a < u.dramSize → o ≠ .scrub → c = u.colourOf o → b = u.tagAddr n k →
    (exempt p o = true → exec (.dramRequest p a .read h o false tu ev ns) s = .next (u.acceptRead n p (k / 64) ns h o)) ∧
    (exempt p o = false → u.inTagStore n k = true → exec (.dramRequest p a .read h o false tu ev ns) s =
      .next (u.colourFault p p c 0 a false true o)) ∧
    (∀ (v : State) (t : TagLine), exempt p o = false → u.inTagStore n k = false → u.tagFetch n b tu = (v, some t) →
      colourPasses o c (t.bytes.getD (b / 64 % 64) 0) = true →
      exec (.dramRequest p a .read h o false tu ev ns) s = .next (v.acceptRead n p (k / 64) ns h o) ∧
      ∀ bs, u.writeRoom n (k / 64) (fullMask bs) = true →
        exec (.dramRequest p a (.write bs) h o false tu ev ns) s = .next (v.acceptWrite n p (k / 64) ns h o (fullMask bs) ev)) ∧
    (∀ (v : State) (t : TagLine), exempt p o = false → u.inTagStore n k = false → u.tagFetch n b tu = (v, some t) →
      colourPasses o c (t.bytes.getD (b / 64 % 64) 0) = false →
      exec (.dramRequest p a .read h o false tu ev ns) s =
        .next ((v.dramReply n { id := v.dram.nextId, port := p, status := Status.colourFault.code, data := [] }).colourFault p p c
          (t.bytes.getD (b / 64 % 64) 0) a false false o)) ∧
    (∀ v : State, exempt p o = false → u.inTagStore n k = false → u.tagFetch n b tu = (v, none) →
      exec (.dramRequest p a .read h o false tu ev ns) s =
        .next (((v.dramReply n { id := v.dram.nextId, port := p, status := Status.poison.code, data := [] }).accessLost o .poison).settle)) ∧
    (∀ bs, u.writeRoom n (k / 64) (fullMask bs) = false → exec (.dramRequest p a (.write bs) h o false tu ev ns) s = .next u)) ∧
  (∀ (s u v w : State) (ch ns : Nat) (dr : Bool), u = s.at (ns / 1000) → ch < 2 → u.drcServes ch = true → v = u.countMisses ch ns →
    dr = v.drainsWrites ch ns → w = v.setDrc ch { v.drc ch with draining := dr } →
    (w.pickReq ch dr ns = none → exec (.dramSchedule ch ns) s = .next w) ∧
    (∀ (r : DReq) (x : State), w.pickReq ch dr ns = some r → x = w.access1 ch r.line r.hint ns →
      ((x.drc ch).reads.any (fun y => y.id == r.id) = true → exec (.dramSchedule ch ns) s =
        .next (x.setDrc ch { x.drc ch with reads := (x.drc ch).reads.filter (fun y => y.id ≠ r.id), issued := (x.drc ch).issued ++ [r] })) ∧
      ((x.drc ch).reads.any (fun y => y.id == r.id) = false → exec (.dramSchedule ch ns) s =
        .next ((x.setDrc ch { x.drc ch with wq := (x.drc ch).wq.filter (fun y => y.id ≠ r.id) }).storeLine ch r.line
          r.data r.poison)))) ∧
  (∀ (s u v w : State) (ch us : Nat) (res : LineErrs) (stuck : Bool) (holds : Owner) (r : DReq) (rest : List DReq), u = s.at us → ch < 2 →
    u.drcServes ch = true → (u.drc ch).issued = r :: rest → r.owner ≠ .scrub →
    (u.setDrc ch { u.drc ch with issued := rest }).decodeLine ch r.line res stuck = (v, .good) →
    w = (if u.lineKnown ch r.line then v else v.useFree) →
    exec (.dramLineRead ch res stuck holds us) s = .next (w.dramReply ch
      { id := r.id, port := r.port, status := 0, data := overlayLine r.fwd (v.lineOf ch r.line).data })) ∧
  (∀ (s u : State) (ch us : Nat) (res : LineErrs) (stuck : Bool) (holds : Owner), u = s.at us → (u.drc ch).issued = [] →
    exec (.dramLineRead ch res stuck holds us) s = .next u) ∧
  (∀ (s u : State) (ch line ns : Nat) (res : LineErrs) (m : MergeEntry), u = s.at (ns / 1000) → ch < 2 → u.drcServes ch = true →
    (u.drc ch).merge.find? (fun m => m.line == line) = some m →
    (m.since + 2000 ≤ ns → u.wqRoom ch line = true → exec (.mergeEntryTimeout ch line res ns) s = .next (u.mergeOut ch m res ns)) ∧
    (ns < m.since + 2000 → exec (.mergeEntryTimeout ch line res ns) s = .next u))

/-- Rests on R545, R563, R564, R571, R573 to R577, R583, R584, R588: refresh, idle rows, alerts, rank migration and shrink, DQS tracking and training patterns. -/
def Obligations.DramUpkeep : Prop :=
  (∀ (s : State) (ch rank : Nat), ch < 2 → rank < 3 → s.drcServes ch = true → s.get (rankFld ch rank) ≠ 0 → s.get (rankFld ch rank) ≠ 4 →
    ((s.drc ch).closePage = s.flag (DRC_CFG.PAGE ch) → exec (.dramRefresh ch rank) s = .next (s.setDrc ch { s.drc ch with
      rows := (s.drc ch).rows.filter (fun o => s.physRank ch o.rank != rank) })) ∧
    ((s.drc ch).closePage ≠ s.flag (DRC_CFG.PAGE ch) → exec (.dramRefresh ch rank) s = .next (s.setDrc ch { s.drc ch with
      rows := [], closePage := s.flag (DRC_CFG.PAGE ch) }))) ∧
  (∀ (s : State), exec .actTableClear s = .next { s with dram := { s.dram with ch := s.dram.ch.map (fun c => { c with acts := [] }) } }) ∧
  (∀ (s u : State) (ch rank bank ns : Nat), u = s.at (ns / 1000) → ch < 2 → exec (.rowIdleClose ch rank bank ns) s =
    .next (u.setDrc ch { u.drc ch with rows := (u.drc ch).rows.filter (fun o =>
      !(o.rank == rank && o.bank == bank && decide (o.last + max 20 (min 5000 (u.get (DRC_PAGE.IDLE_NS ch))) ≤ ns))) })) ∧
  (∀ (s u : State) (ch us : Nat), u = (s.at us).count (DRC_ERR.ALERT ch) 1 → ch < 2 →
    ((u.drc ch).alertUs = none → exec (.dramAlert ch us) s =
      .next ((u.setDrc ch { u.drc ch with alertUs := some us }).notify "dram alert" [("ch", dec ch)])) ∧
    (∀ t, (u.drc ch).alertUs = some t → us < t + 1000000 → exec (.dramAlert ch us) s = .next u)) ∧
  (∀ (s v : State) (ch go : Nat) (res : LineErrs) (o : Owner) (m : Migration) (e : LineEnd), ch < 2 → s.drcServes ch = true →
    s.removing = false → (s.drc ch).migration = some m → m.next < s.chLines ch → s.decodeLine ch m.next res false = (v, e) → e = .good →
    go = (v.nextLine ch m.logical (m.next + 1)).getD (v.chLines ch) →
    exec (.migrationCopyLine ch res o) s = .next ((v.setDrc ch { v.drc ch with migration := some { m with next := go } }).set
      (DRC_SPARE.PROGRESS ch) (v.copyPart ch m.logical go))) ∧
  (∀ (s : State) (ch : Nat) (res : LineErrs) (o : Owner), (s.drc ch).migration = none ∨ s.removing = true →
    exec (.migrationCopyLine ch res o) s = .next s ∧ exec (.migrationDone ch) s = .next s) ∧
  (∀ (s v w : State) (ch : Nat) (m : Migration), ch < 2 → s.removing = false → (s.drc ch).migration = some m → s.chLines ch ≤ m.next → (s.drc ch).failing = [] →
    v = State.setLog (((s.setDrc ch { s.drc ch with migration := none, failing := [] }).set (rankFld ch m.src) 4).set (rankFld ch m.dst) 1)
      ch m.logical m.dst →
    w = ((List.range 16).filter (fun i => v.flag (ECC_DREMAP.VALID ch i) &&
      (v.placeOf ch (64 * v.get (ECC_DREMAP.LINE ch i))).rank == m.logical)).foldl (fun t i =>
      (t.moveLine ch (t.chLines ch - 16 + i) (t.get (ECC_DREMAP.LINE ch i))).setWord (ECC_DREMAP.addr ch i) 0) v →
    exec (.migrationDone ch) s = .next (w.notify "dram rank retired" (rankKv ch m.src ++ [("spare", "used")]))) ∧
  (∀ (s : State) (ch r : Nat), ch < 2 → s.flag SYS_BOOTSTAT.REPLAY = false → (s.drc ch).shrink = some r →
    exec (.rankShrink ch) s = .next ((((s.setDrc ch { s.drc ch with shrink := none }).set (rankFld ch r) 4).notify "dram rank retired"
      (rankKv ch r ++ [("spare", "none")])).beginReset .warm causeShrink)) ∧
  (∀ (s : State) (ch : Nat), s.flag SYS_BOOTSTAT.REPLAY = true ∨ (s.drc ch).shrink = none → exec (.rankShrink ch) s = .next s) ∧
  (∀ (s : State) (ch : Nat), ch < 2 → s.drcServes ch = true → exec (.dqsTrack ch []) s = .next s ∧
    exec (.dqsTrack ch [1, 0, 2]) s = .next ((s.set (DRC_DQS.DQS_TX ch 0) (min 255 (s.get (DRC_DQS.DQS_TX ch 0) + 1))).set (DRC_DQS.DQS_TX ch 2)
      ((s.set (DRC_DQS.DQS_TX ch 0) (min 255 (s.get (DRC_DQS.DQS_TX ch 0) + 1))).get (DRC_DQS.DQS_TX ch 2) - 1))) ∧
  (∀ (s u v : State) (ch rank dir pat : Nat) (got beats : List Nat), ch < 2 → s.helpersFree ch = true → s.domIn (29 + 2 * ch) = true →
    u = ((s.set (DRC_TPAT.RANK ch) rank).set (DRC_TPAT.DIR ch) dir).set (DRC_TPAT.PAT ch) pat → beats = got.take (16 * u.get (DRC_TLEN.LINES ch)) →
    v = (List.range 40).foldl (fun t b => t.count (DRC_TCMP.MISS ch b)
      ((beats.zip (u.trainBits ch pat b beats.length)).filter (fun x => x.1.testBit b != x.2)).length) u →
    exec (.drcTpatStart ch rank dir pat got) s = .next (if dir = 1 then v.setDrc ch { v.drc ch with lines := [] } else v)) ∧
  (∀ (s : State) (ch rank dir pat : Nat) (got : List Nat), s.helpersFree ch = false →
    exec (.drcTpatStart ch rank dir pat got) s = .next s)

/-- Rests on R368, R371, R375, R395, R598 to R609, R613, R614, R642, R653, R784: blocks through the bulk cores, the GMAC check of a block, and the nonce counter. A core that is busy or
not in service takes no block; a block whose tag agrees is confirmed; one that does not counts, and after its one re-read is lost; the limit rises by 2^20 when the
record's program has succeeded. -/
def Obligations.CipherEvents : Prop :=
  (∀ (s v : State) (c i : Nat) (raw : Bytes) (x : Exec) (b : Blk), s.pairsTaking.contains (coreDomain c) = true → s.keys.coreBusy.contains c = false →
    s.nextBlk = some (x, i, b) → v = s.setExec (x.setBlk i (b.toCore c raw)) →
    exec (.bulkBlockStart c raw) s = .next { v with keys := { v.keys with
      lastPocket := x.pocket, coreBusy := v.keys.coreBusy ++ [c], redo := v.keys.redo.filter (fun r => r ≠ (x.id, i)) } }) ∧
  (∀ (s : State) (c : Nat) (raw : Bytes), s.pairsTaking.contains (coreDomain c) = false ∨ s.keys.coreBusy.contains c = true ∨ s.nextBlk = none →
    exec (.bulkBlockStart c raw) s = .next s) ∧
  (∀ (s u : State) (c i : Nat) (x : Exec) (b : Blk), s.keys.coreBusy.contains c = true →
    u = { s with keys := { s.keys with coreBusy := s.keys.coreBusy.filter (fun k => k ≠ c) } } → u.coreBlk c = some (x, i) → x.blks[i]? = some b →
    (∀ k, b.pass = .core true k → exec (.bulkBlockDone c) s = .next (((u.encrypted x i b).settle).flushMode)) ∧
    (∀ k, b.pass = .core false k → exec (.bulkBlockDone c) s = .next ((u.decrypted x i b).settle)) ∧
    (∀ k, b.pass = .stale k → exec (.bulkBlockDone c) s =
      .next (((u.setExec (x.setBlk i { b with pass := .none })).advanceBlk x.id i).settle))) ∧
  (∀ (s : State) (c : Nat), s.keys.coreBusy.contains c = false → exec (.bulkBlockDone c) s = .next s) ∧
  (∀ (s : State) (q tag i : Nat) (x : Exec) (b : Blk) (fin : Bool) (c : Check), s.execOf q tag = some x → x.blks[i]? = some b → b.codec = .mac fin →
    b.check = some c →
    (blockTag (x.ikey.getD []) (s.get SYS_SERIAL.SERIAL) c.count x.pocket (x.cmd.lba + i) b.data = padTo 16 c.tag →
      exec (.gmacVerify q tag i) s = .next (((s.setExec (x.setBlk i { b with codec := .good })).advanceBlk x.id i).settle)) ∧
    (∀ (v : State) (b1 : Blk), blockTag (x.ikey.getD []) (s.get SYS_SERIAL.SERIAL) c.count x.pocket (x.cmd.lba + i) b.data ≠ padTo 16 c.tag →
      (s.count CIP_MACFAIL.COUNT 1).withdraw x i b .unpickedMac = (v, b1) → fin = true ∨ b.again = true →
      exec (.gmacVerify q tag i) s = .next ((v.setExec (x.setBlk i { b1 with codec := .lost Status.macMismatch.code })).settle)) ∧
    (∀ (v : State) (b1 : Blk), blockTag (x.ikey.getD []) (s.get SYS_SERIAL.SERIAL) c.count x.pocket (x.cmd.lba + i) b.data ≠ padTo 16 c.tag →
      (s.count CIP_MACFAIL.COUNT 1).withdraw x i b .unpickedMac = (v, b1) → fin = false → b.again = false → (v.reread x i b1).codec ≠ .flush →
      exec (.gmacVerify q tag i) s = .next ((((v.awaitProgram x.id x.pocket []).setExec (x.setBlk i (v.reread x i b1))).startBlock x.pocket
        (x.cmd.lba + i) (v.reread x i b1)).settle))) ∧
  (∀ (s : State) (q tag i : Nat), s.execOf q tag = none → exec (.gmacVerify q tag i) s = .next s) ∧
  (∀ (s : State), s.keys.reserving = false → s.noReservation = false →
    (s.keys.limit ≤ s.keys.nonce + 2 ^ 18 → exec .nonceReserve s = .next { s with keys := { s.keys with reserving := true } }) ∧
    (s.keys.nonce + 2 ^ 18 < s.keys.limit → exec .nonceReserve s = .next s)) ∧
  (∀ (s : State), s.keys.reserving = true →
    exec (.nonceReserveDone true) s = .next (State.gmacsGo { s with keys := { s.keys with
      reserving := false, limit := s.keys.limit + 2 ^ 20, records := (s.keys.limit + 2 ^ 20) :: s.keys.records.take 1 } }) ∧
    exec (.nonceReserveDone false) s = .next s) ∧
  (∀ (s v : State) (p us : Nat), p < 4 → (s.at us).dom (33 + p) = 1 →
    (v = (s.at us).checkPass (33 + p) → exec (.cipherPairKat p true us) s =
      .next ((v.setFlag ⟨CIP_KAT.PASS.addr, CIP_KAT.PASS.lsb + p, 1⟩ true).setFlag ⟨CIP_KAT.FAIL.addr, CIP_KAT.FAIL.lsb + p, 1⟩ false)) ∧
    (v = (s.at us).checkFail (33 + p) → exec (.cipherPairKat p false us) s =
      .next ((v.setFlag ⟨CIP_KAT.PASS.addr, CIP_KAT.PASS.lsb + p, 1⟩ false).setFlag ⟨CIP_KAT.FAIL.addr, CIP_KAT.FAIL.lsb + p, 1⟩ true)))

/-- Rests on R618 to R620, R630 to R632, R635, R637, R640, R641, R650, R657: the key journal and the raw-block core. A commit switches the slot, swaps the copies, raises JSEQ and lets the
reply go; 2 ms after RETIRING began the commands that hold a latch end; 25 ms after its start an update fails; a core at a privilege that may not name the slot gets ERR. -/
def Obligations.KeyEvents : Prop :=
  (∀ (s : State) (c t : Nat), s.keys.drains.lookup c = some t →
    (s.latchesOf c = [] → exec (.keyDrainEnd c) s = .next (s.drainEnds c)) ∧ (s.latchesOf c ≠ [] → exec (.keyDrainEnd c) s = .next s)) ∧
  (∀ (s u : State) (c us t : Nat), u = s.at us → u.keys.drains.lookup c = some t →
    (us < t + 2000 → exec (.keyDrainTimeout c us) s = .next u) ∧
    (t + 2000 ≤ us → exec (.keyDrainTimeout c us) s =
      .next ((((u.latchesOf c).foldl (fun v x => v.abortExec x .keyRetired) u).drainEnds c).deletionsGo))) ∧
  (∀ (k : Keys) (x : KeyUpdate) (n : Nat) (commit : Bool), (k.program x n commit).slots = k.slots ∧ (k.program x n commit).active = k.active ∧
    (k.program x n commit).room = k.room.set (1 - k.active) (k.room.getD (1 - k.active) 0 - (if commit then n + 1 else n)) ∧
    ∃ g : JImage, g.jseq = k.jseq + 1 ∧ g.slots = imageSlots (x.slots k.slots) ∧ g.pages = n ∧ g.commit = commit ∧
      (k.program x n commit).copies = k.copies.set (1 - k.active) (k.copies.getD (1 - k.active) [] ++ [g])) ∧
  (∀ (s u v : State) (us a : Nat) (k : KeyUpdate) (slots : List (Nat × KeySlot)) (y : Keys), u = s.at us → u.keys.update = some k →
    a = u.keys.active → slots = k.slots u.keys.slots → y = u.keys.program k 4 true →
    v = State.deletionsGo (State.set { u with keys := { y with
      slots := slots, image := slots.filter (fun x => x.2.state != .empty || x.2.lost), jseq := u.keys.jseq + 1, update := none, active := 1 - a,
      interrupted := none, erasing := decide (y.room.getD a 0 < 5) } } KEY_STAT.ACTIVE (1 - a)) →
    exec (.journalCommit us) s = .next (((v.tellUpdate k).finishFor .journal (fun t => .ok t k.data
      (k.kv.map (fun e => if e.1 = "jseq" then (e.1, dec (u.keys.jseq + 1)) else e)))).nextUpdate)) ∧
  (∀ (s u : State) (us : Nat) (p : Bool) (k : KeyUpdate), u = s.at us → u.keys.update = some k →
    (us < k.startUs + 25000 → exec (.journalTimeout p us) s = .next u) ∧
    (k.startUs + 25000 ≤ us → exec (.journalTimeout p us) s = .next ((u.updateFails k p).nextUpdate).deletionsGo)) ∧
  (∀ (s : State) (us : Nat) (p : Bool), s.keys.update = none → s.keys.waiting = [] →
    exec (.journalCommit us) s = .next (s.at us) ∧ exec (.journalTimeout p us) s = .next (s.at us)) ∧
  (∀ (s u : State) (us c n : Nat), u = s.at us → c = 1 - u.keys.active → n = (u.keys.blocks.getD c 0 + 1) % 4 →
    (u.keys.erasing = true → ∃ v : State, v = u.countErase (if c = 0 then 0 else 32) 0 ((u.journalBlocks c).getD n 8) ∧
      exec (.journalBlockErase us) s = .next (State.nextUpdate { v with keys := { v.keys with
        erasing := false, room := u.keys.room.set c (u.journalPages c), blocks := u.keys.blocks.set c n,
        copies := u.keys.copies.set c ((u.keys.copies.getD c []).filter (fun g => g.block != n)) } })) ∧
    (u.keys.erasing = false → exec (.journalBlockErase us) s = .next u)) ∧
  (∀ (s u : State) (core c : Nat) (p1 : Bool) (k : KeySlot), core < 2 → s.domIn 37 = true →
    s.keys.slots.lookup c = some k → k.kind = 7 ∨ k.kind = 8 → k.state = .loaded →
    (core = 0 ∧ p1 = false) ∨ (core = 1 ∧ p1 = true ∧ k.owner = 0) →
    (u = (s.setOn core KEY_RBCTL.SLOT c).setOn core KEY_RBCTL.DIR 0 → exec (.keyRbEncrypt core p1 c) s =
      .next (((u.rbOutput core (aesEnc k.material (u.rbInput core))).setOn core KEY_RBCTL.ERR 0).setOn core KEY_RBCTL.START 0)) ∧
    (u = (s.setOn core KEY_RBCTL.SLOT c).setOn core KEY_RBCTL.DIR 1 → exec (.keyRbDecrypt core p1 c) s =
      .next (((u.rbOutput core (aesDec k.material (u.rbInput core))).setOn core KEY_RBCTL.ERR 0).setOn core KEY_RBCTL.START 0))) ∧
  (∀ (s u : State) (core c : Nat) (p1 : Bool), core < 2 → s.domIn 37 = true → u = (s.setOn core KEY_RBCTL.SLOT c).setOn core KEY_RBCTL.DIR 0 →
    s.keys.slots.lookup c = none ∨ (core = 1 ∧ p1 = false) →
    exec (.keyRbEncrypt core p1 c) s = .next ((u.setOn core KEY_RBCTL.ERR 1).setOn core KEY_RBCTL.START 0)) ∧
  (∀ (s : State) (core c : Nat) (p1 : Bool), s.domIn 37 = false → exec (.keyRbEncrypt core p1 c) s = .next s ∧
    exec (.keyRbDecrypt core p1 c) s = .next s)

/-- Rests on R704 to R706, R708 to R717, R721 to R728, R751, R824, R1175, Table LIN-4: samples, charging, probes, faults and the budget of the Lining. While AON is not released
nothing of it runs. -/
def Obligations.LiningEvents : Prop :=
  (∀ (s : State) (v us : Nat) (i t : Int) (h : Nat), s.boot.done.contains .aon = false → exec (.liningSample v i t h us) s = .next (s.at us) ∧
    exec (.linHot us) s = .next (s.at us) ∧ exec (.sensorFault us) s = .next (s.at us) ∧ exec (.linOvervolt us) s = .next (s.at us) ∧
    exec (.budgetRecompute us) s = .next (s.at us)) ∧
  (∀ (s u v w : State) (mv us h : Nat) (i t : Int), u = s.at us → u.linRuns = true → -200 ≤ t →
    v = u.setLin { u.lin with vocs := u.lin.vocs.filter (fun x => decide (us < x.1 + 1000)) ++
      [(us, (10000 * mv : Nat) - i * (if u.lin.esrUs.isSome then (u.get LIN_ESR.EST : Int) else 0))] } →
    w = ((v.set LIN_VI.I_MA (signed16 i)).setSat LIN_VI.VOC_MV v.vocMv).set LIN_TEMP.T_DC (signed16 t) → w.get LIN_STAT.STATE = 4 →
    exec (.liningSample mv i t h us) s = .next (((w.setLin { w.lin with 
      targetMa := min w.iLim h,
      weakUs := if 100 ≤ i.natAbs ∨ 5000000 ≤ w.voc then us else w.lin.weakUs, lowUs := none }).windowRuns i us).linMoves false |>.sampleFaults mv i t)) ∧
  (∀ (s u : State) (us : Nat), u = s.at us → u.get LIN_STAT.STATE = 1 →
    (u.lin.softUs + 10000 ≤ us → exec (.chargeRampDone us) s = .next (u.linState 2)) ∧
    (us < u.lin.softUs + 10000 → exec (.chargeRampDone us) s = .next u)) ∧
  (∀ (s u v : State) (us t : Nat), u = s.at us → u.get LIN_STAT.STATE = 3 → u.lin.lowUs = some t → v = u.linStop 4 →
    (us < t + 1000000 → exec (.chargeFloatEntry us) s = .next u) ∧
    (t + 1000000 ≤ us → v.flag LIN_STAT.CHARGED = true → exec (.chargeFloatEntry us) s = .next v) ∧
    (t + 1000000 ≤ us → v.flag LIN_STAT.CHARGED = false → exec (.chargeFloatEntry us) s =
      .next ((v.set LIN_STAT.CHARGED 1).notify "lining charged" [("s", dec (roundDiv (us - v.boot.onUs) 1000000))]))) ∧
  (∀ (s u : State) (us : Nat), u = s.at us →
    (u.refreshDue = true → u.get LIN_STAT.STATE = 3 ∨ (u.get LIN_STAT.STATE = 4 ∧ u.get PWR_STATE.STATE ≠ 3) →
      exec (.estimateRefreshDue us) s = .next u.startProbe) ∧
    (u.refreshDue = false → exec (.estimateRefreshDue us) s = .next u)) ∧
  (∀ (s u : State) (dv di us : Nat), u = s.at us →
    (500 ≤ di → (u.get LIN_STAT.STATE = 2 ∧ 500 ≤ u.lin.targetMa) ∨ u.get LIN_STAT.STATE = 5 → exec (.esrStep dv di us) s = .next (u.takeEsr dv di)) ∧
    (di < 500 → exec (.esrStep dv di us) s = .next u)) ∧
  (∀ (s u : State) (us : Nat) (w : CapWin), u = s.at us → u.get LIN_STAT.STATE = 5 → u.lin.win = some w →
    ((w.startV - u.voc).toNat < 2000000 → exec (.probeDone us) s = .next u) ∧
    (∀ (v : State) (ok : Bool), 2000000 ≤ (w.startV - u.voc).toNat → u.takeCap (w.charge / (w.startV - u.voc).toNat) = (v, ok) →
      v.get LIN_STAT.STATE = 5 → exec (.probeDone us) s = .next ((v.probeEnds ok).linRamp))) ∧
  (∀ (s u : State) (us : Nat), u = s.at us → u.get LIN_STAT.STATE = 7 → u.flag LIN_STAT.ABSENT = false →
    (u.lin.faultUs + 10000000 ≤ us → u.bankT ≤ 600 → u.flag LIN_CFG.CHG_EN = true → exec (.liningFaultRetry us) s = .next u.linRamp) ∧
    (us < u.lin.faultUs + 10000000 → exec (.liningFaultRetry us) s = .next u)) ∧
  (∀ (s u : State) (us : Nat), u = s.at us → u.get LIN_STAT.STATE = 1 ∨ u.get LIN_STAT.STATE = 2 → u.lin.weakUs + 2000000 ≤ us →
    exec (.bankAbsentTimeout us) s = .next (u.enterFault.set LIN_STAT.ABSENT 1)) ∧
  (∀ (s : State), (s.linStop 7).flag PWR_WAKEEN.LINING = false → s.enterFault = s.linStop 7) ∧
  (∀ (s u : State) (us : Nat), u = s.at us → u.linRuns = true →
    (u.lin.boost = false → exec (.linOvervolt us) s = .next (u.linFault 0)) ∧ (u.lin.boost = true → exec (.linOvervolt us) s = .next u) ∧
    exec (.linHot us) s = .next (u.linFault 1) ∧ exec (.sensorFault us) s = .next (u.linFault 3) ∧
    exec (.budgetRecompute us) s = .next u.budget) ∧
  (∀ (s u : State) (us : Nat), u = s.at us → (u.lin.en = false → exec (.converterFault us) s = .next u) ∧
    (u.lin.en = true → 5000000 ≤ u.voc → exec (.converterFault us) s = .next (u.linFault 6))) ∧
  (∀ (s v : State) (w : BitVec 32), exec (.linCfgChgEn w true) s = .next s ∧
    (s.get LIN_STAT.STATE = 6 ∨ s.removing = true → exec (.linCfgChgEn w false) s = .next s) ∧
    (s.get LIN_STAT.STATE = 0 → s.removing = false → s.linRuns = true →
      v = (((s.setWord LIN_CFG.addr (w &&& 0xF3FF3FFF#32)).set LIN_CFG.FLOAT (min s.lin.desc.floatV (clamp 420 540 (LIN_CFG.FLOAT.of w)))).set
        LIN_CFG.ILIM (min s.lin.desc.ilimV (LIN_CFG.ILIM.of w))).set LIN_CFG.SLOT_W (min s.lin.desc.slotV (clamp 20 150 (LIN_CFG.SLOT_W.of w))) →
      exec (.linCfgChgEn w false) s = .next (if v.flag LIN_CFG.CHG_EN then v.linRamp else v))) ∧
  (∀ (s : State), exec (.linProbeStart true) s = .next s ∧
    (s.get LIN_STAT.STATE = 3 ∨ s.get LIN_STAT.STATE = 4 → exec (.linProbeStart false) s = .next s.startProbe) ∧
    (s.get LIN_STAT.STATE = 2 → exec (.linProbeStart false) s = .next s)) ∧
  (∀ (s : State) (b e d : Nat), b < 268435456 → exec (.ebSample b e d) s = .next s) ∧
  (∀ (s : State) (b e d : Nat) (l : List Nat), 268435456 ≤ b → s.linRuns = true → s.lin.ebs.length < 8 →
    l = s.lin.ebs ++ [(e - min 48 (s.get LIN_EB.FLOOR_W) * d) * 1000000 / b] →
    exec (.ebSample b e d) s = .next (((s.setLin { s.lin with ebs := l }).set LIN_EB.SAMPLES l.length).set LIN_EB.PJ (clamp 4000 20000 (l.foldl max 0)))) ∧
  (∀ (s u : State) (us t : Nat), u = s.at us → u.lin.thruUs = some t →
    (us < t + 10000000 → exec (.throughNotice us) s = .next u) ∧
    (t + 10000000 ≤ us → u.lin.thru = u.lin.thruSaid → exec (.throughNotice us) s = .next (u.setLin { u.lin with thruUs := none })) ∧
    (t + 10000000 ≤ us → u.lin.thru = true → u.lin.thruSaid = false → exec (.throughNotice us) s =
      .next ((u.setLin { u.lin with thruSaid := true, thruUs := some us }).notify "lining through on" [])))

/-- Rests on R118, R119, R729 to R732, R735, R741, R742, R747, R750, Tables LIN-6 and LIN-9: removal, from its triggers to the re-arm, and the visits of TACK (R823, R824). A pulse of CDET_N
shorter than 200 ns is no trigger. -/
def Obligations.RemovalEvents : Prop :=
  (∀ (s u v : State) (ns us : Nat), u = s.at us → v = (u.set RMV_STAT.SEATED 0).setLin { u.lin with cdetLowUs := none } →
    (ns < 200 → exec (.removalTriggerCdet ns us) s = .next u) ∧
    (200 ≤ ns → v.linRuns = true → exec (.removalTriggerCdet ns us) s = .next (v.removalTrigger 1)) ∧
    (200 ≤ ns → v.linRuns = false → exec (.removalTriggerCdet ns us) s = .next v)) ∧
  (∀ (s u : State) (us : Nat), u = s.at us → u.linRuns = true →
    (u.flag RMV_CFG.VIN_EN = true → exec (.removalTriggerVin us) s = .next (u.removalTrigger 2)) ∧
    (u.flag RMV_CFG.VIN_EN = false → exec (.removalTriggerVin us) s = .next u) ∧
    (u.get LCS_STATE.STATE = 0 ∨ u.get LCS_STATE.STATE = 1 ∨ u.get LCS_STATE.STATE = 3 → exec (.rmvCtlDrill false us) s =
      .next (u.removalTrigger 3)) ∧
    (u.get LCS_STATE.STATE = 2 → exec (.rmvCtlDrill false us) s = .next u) ∧ exec (.rmvCtlDrill true us) s = .next u) ∧
  (∀ (s u v w : State) (us : Nat), u = s.at us → u.get RMV_STAT.PHASE = 2 →
    (u.cleanStop = (v, false) → exec (.removalFlushDone us) s = .next v) ∧
    (u.cleanStop = (v, true) → w = (v.setSat RMV_FLUSHED.MIB ((v.lin.dirtyAt + 1048575) / 1048576)).setSat RMV_TIME.FLUSH_MS
        (roundDiv (us - v.lin.flushUs) 1000) →
      exec (.removalFlushDone us) s = .next ((w.setSat RMV_VBANK.END_MV w.vocMv).set RMV_STAT.PHASE 3))) ∧
  (∀ (s u : State) (us : Nat), u = s.at us → (u.get RMV_STAT.PHASE ≠ 2 → exec (.removalFlushDone us) s = .next u) ∧
    (u.get RMV_STAT.PHASE = 3 ∨ u.get RMV_STAT.PHASE = 4 →
      (u.keys.update.isSome = true → exec (.removalCheckpointDone us) s = .next (u.set RMV_STAT.PHASE 4)) ∧
      (u.keys.update = none → exec (.removalCheckpointDone us) s =
        .next (((ladderLast.foldl (fun t d => t.ladderOff d) u).dramSleep true).set RMV_STAT.PHASE 5)))) ∧
  (∀ (s u : State) (us : Nat), u = ((s.at us).set RMV_STAT.SEATED 1).setLin { (s.at us).lin with cdetLowUs := some us } →
    (u.removing = true → exec (.cdetNFall us) s = .next (u.set RMV_STAT.REINSERT 1)) ∧ (u.removing = false → exec (.cdetNFall us) s = .next u)) ∧
  (∀ (s u : State) (vin us t : Nat), u = s.at us → u.get RMV_STAT.PHASE = 5 → u.lin.cdetLowUs = some t →
    (t + 100000 ≤ us → vin + 100000 ≤ us → exec (.rearm vin us) s =
      .next ((u.set RMV_STAT.PHASE 6).setLin { u.lin with isoHigh := true, en := false, boost := false, rearmUs := some us })) ∧
    (us < t + 100000 ∨ us < vin + 100000 → exec (.rearm vin us) s = .next u)) ∧
  (∀ (s u : State) (cs : List Nat) (os : List Bool) (us : Nat), u = s.at us → u.get PWR_STATE.STATE ≠ 3 ∨ us < u.pwr.visitUs + 1000000 * u.pwr.tackS →
    exec (.tackVisit cs os us) s = .next u) ∧
  (∀ (s u v w x y : State) (cs : List Nat) (os : List Bool) (us : Nat), u = s.at us → u.get PWR_STATE.STATE = 3 →
    u.pwr.visitUs + 1000000 * u.pwr.tackS ≤ us →
    v = (List.range 10).foldl (fun t ch => (t.set (PWR_ADC.CODE ch) (cs.getD ch 0)).windows ch (cs.getD ch 0 % 4096) us) u →
    w = ((List.range 8).foldl (fun t n => t.setFlag (PWR_ACMP.OUT n) (os.getD n false)) v).linMoves true → w.refreshDue = false →
    x = w.retain (cs.getD w.pwr.tackCh 0 % 4096) → y = State.meter { x with htg := { x.htg with tack := 0 } } 0 4 x.htg.tack →
    exec (.tackVisit cs os us) s =
      .next (State.count { y with pwr := { y.pwr with visitUs := y.pwr.visitUs + 1000000 * y.pwr.tackS } } PWR_VISITS.COUNT 1))

/-- Rests on R755, R765 to R767, R771 to R774, R777, R779, R782, R793, R794, R811: drains, switch-on, CHECK, rejoin, hangs, late replies and the writes of PWR_DREQ. A drain that ends with work left
is a fence in abort mode and a refusal in wait mode; a reply under another epoch is discarded and counted; a request while PWR_DRES.BUSY is 1 stores its fields and starts nothing (the model's choice: log entry 157). -/
def Obligations.DomainEvents : Prop :=
  (∀ (s : State) (d : Nat) (r : Drain), s.drainOf d = some r →
    (s.busyIn d = true → exec (.drainComplete d) s = .next s) ∧
    (s.busyIn d = false → r.who = .entry → exec (.drainComplete d) s = .next (s.entryDrained r.dom false).entryGo) ∧
    (s.busyIn d = false → r.who = .dreq → exec (.drainComplete d) s = .next (s.offAfterDrain r .drained))) ∧
  (∀ (s u : State) (d f us : Nat) (r : Drain), u = s.at us → u.drainOf d = some r →
    (us < r.endUs → exec (.drainWindowEnd d f us) s = .next u) ∧
    (r.endUs ≤ us → u.busyIn d = false → exec (.drainWindowEnd d f us) s = .next (u.drained r)) ∧
    (r.endUs ≤ us → u.busyIn d = true → u.pwr.entry = none → r.abort = true → exec (.drainWindowEnd d f us) s = .next (u.offAfterDrain r .abort)) ∧
    (r.endUs ≤ us → u.busyIn d = true → u.pwr.entry = none → r.abort = false → exec (.drainWindowEnd d f us) s =
      .next ((((((u.set (PWR_DSTAT.DRAINING r.dom) 0).count PWR_REFUSE.COUNT 1).set PWR_REFUSE.LAST f).cutOps r.dom (some .pwrRefused)
        .pwrRefused)).dropChange r.dom)) ∧
    (∀ e, r.endUs ≤ us → u.busyIn d = true → u.pwr.entry = some e → r.who = .entry → r.abort = false →
      exec (.drainWindowEnd d f us) s = .next (u.refuseEntry e .pwrRefused f (domainId f)))) ∧
  (∀ (s u : State) (d us : Nat) (w : OpBy), u = s.at us → u.pwr.holds.lookup d = some w →
    (d ≠ 50 → exec (.resetHoldEnd d us) s = .next (u.enterCheck d w)) ∧
    (d = 50 → exec (.resetHoldEnd d us) s = .next ((u.enterCheck d w).recordReset .t1 [causeT1]))) ∧
  (∀ (s : State) (d us : Nat), s.pwr.holds.lookup d = none → s.pwr.ramps.lookup d = none →
    exec (.resetHoldEnd d us) s = .next (s.at us) ∧ exec (.domainSwitchOnDone d) s = .next s) ∧
  (∀ (s : State) (d : Nat) (w : OpBy), s.pwr.ramps.lookup d = some w → exec (.domainSwitchOnDone d) s = .next (s.enterCheck d w)) ∧
  (∀ (s u : State) (d us : Nat), u = s.at us → u.dom d = 1 → (26 ≤ d ∧ d ≤ 32) ∨ (37 ≤ d ∧ d ≤ 50) →
    exec (.domainCheckDone d true us) s = .next (u.checkPass d) ∧ exec (.domainCheckDone d false us) s = .next (u.checkFail d)) ∧
  (∀ (s u : State) (d us : Nat) (ok : Bool), u = s.at us → u.dom d ≠ 1 → exec (.domainCheckDone d ok us) s = .next u) ∧
  (∀ (s : State) (d : Nat), (s.dom d = 2 → startsAtWork d = true ∨ d = 50 → exec (.domainRejoin d) s = .next (s.enterIn d)) ∧
    (s.dom d ≠ 2 → exec (.domainRejoin d) s = .next s)) ∧
  (∀ (s u v : State) (d us : Nat), u = s.at us → 1 ≤ d → d ≤ 50 →
    (u.dom d = 0 → exec (.fabricHang d us) s = .next u) ∧
    (u.dom d ≠ 0 → v = ((u.count PWR_HUNG.COUNT 1).set PWR_HUNG.DOMAIN d).notify "domain hung" [("domain", domainId d)] →
      (v.life.run = none → v.flag (PWR_DSTAT.RESETTABLE d) = true → exec (.fabricHang d us) s = .next (v.resetDomain d .card)) ∧
      (v.life.run = none → v.flag (PWR_DSTAT.RESETTABLE d) = false → exec (.fabricHang d us) s = .next (v.beginReset .warm causeHang)) ∧
      (∀ r, v.life.run = some r → exec (.fabricHang d us) s = .next (v.runFault d causeHang)))) ∧
  (∀ (s : State) (a b r e : Nat), (b ≠ a → exec (.fabricReply a b r e) s = .next (s.count PWR_LATE.COUNT 1)) ∧
    exec (.fabricReply a a 0 e) s = .next s ∧
    (r ≠ 0 → e ≠ s.get (PWR_DSTAT.EPOCH r) → exec (.fabricReply a a r e) s = .next (s.count PWR_LATE.COUNT 1)) ∧
    (e = s.get (PWR_DSTAT.EPOCH r) → exec (.fabricReply a a r e) s = .next s)) ∧
  (∀ (s : State) (d : Nat), (s.pwr.own.contains d = true → s.retryOk d = true → exec (.domainRetry d) s = .next (s.switchOn d .card)) ∧
    (s.pwr.own.contains d = false → exec (.domainRetry d) s = .next s)) ∧
  (∀ (s u : State) (op d us : Nat) (ab : Bool) (st : Nat → Bool → State), u = s.at us → u.flag PWR_DRES.BUSY = true → op = 0 ∨ op = 3 →
    st = (fun o m => ((u.set PWR_DREQ.OP o).setFlag PWR_DREQ.MODE m).set PWR_DREQ.DOMAIN d) →
    exec (.pwrDreqOn op d us) s = .next (st op false) ∧ exec (.pwrDreqOff d ab us) s = .next (st 1 ab) ∧
    exec (.pwrDreqReset d us) s = .next (st 2 false)) ∧
  (∀ (s u v w : State) (d us : Nat) (f : Nat → State), u = s.at us → u.flag PWR_DRES.BUSY = false → u.life.run = none →
    f = (fun op => (((((u.set PWR_DREQ.OP op).setFlag PWR_DREQ.MODE false).set PWR_DREQ.DOMAIN d).set PWR_DREQ.START 1).set PWR_DRES.DOMAIN
      (clamp 1 50 d)).set PWR_DRES.BUSY 1) →
    ((f 0).domainOn (clamp 1 50 d) .dreq = (v, none) → exec (.pwrDreqOn 0 d us) s = .next v) ∧
    (∀ st, (f 0).domainOn (clamp 1 50 d) .dreq = (v, some (.fail st)) → exec (.pwrDreqOn 0 d us) s =
      .next (((v.set PWR_DREQ.START 0).set PWR_DRES.BUSY 0).set PWR_DRES.STATUS st.code)) ∧
    (w = f 1 → w.domainOff (clamp 1 50 d) false (clamp 10 10000 (w.get PWR_DRAIN.US)) none .dreq = (v, none) →
      exec (.pwrDreqOff d false us) s = .next v) ∧
    ((f 2).domainReset (clamp 1 50 d) none .dreq = (v, none) → exec (.pwrDreqReset d us) s = .next v))

/-- Rests on R797, R802 to R805, R808, R811, R815, R817, R819 to R829, R838: CORECLK gating, levels, the regulator, throttling, the power states' entry and exit, wake sources, comparators, the ADC and the
retention log. A wake event ends an entry before its point of no return, and starts the exit of a state after it. -/
def Obligations.PowerEvents : Prop :=
  (∀ (s : State), (s.flag PWR_STATE.IDLE_ARM = true → s.asleep = false → s.pwr.entry = none → s.quiet = true →
      exec .coreclkGate s = .next { s with pwr := { s.pwr with gated := true } }) ∧
    (s.quiet = false → exec .coreclkGate s = .next s) ∧ exec .coreclkRestart s = .next { s with pwr := { s.pwr with gated := false } }) ∧
  (∀ (s u v : State) (us l : Nat), u = s.at us → u.pwr.levelTo = some l →
    (u.pauseOk = false → exec (.levelChangePause us) s = .next u) ∧
    (u.pauseOk = true → v = State.setLevel { u with pwr := { u.pwr with pauseUs := us } } l →
      exec (.levelChangePause us) s = .next ((v.finishFor .level (fun t => .ok t [] v.levelKv)).entryGo))) ∧
  (∀ (s u : State) (us : Nat), u = s.at us → (u.pwr.levelTo.isSome = true → u.pwr.regBad = false → exec (.regulatorTimeout us) s = .next u.regFault.entryGo) ∧
    (u.pwr.levelTo = none → exec (.regulatorTimeout us) s = .next u)) ∧
  (∀ (s : State) (st us : Nat), (s.flag PWR_WAKEEN.PMBUS = true → exec (.pmbusAlert st us) s =
      .next (((s.wakeEvent 8 0 us).pmbus [.read 0x79, .send 0x03]).notify "power pmbus alert" [("status", hex0x 4 st)])) ∧
    (s.flag PWR_WAKEEN.PMBUS = false → exec (.pmbusAlert st us) s = .next (((s.at us).pmbus [.read 0x79, .send 0x03]).notify "power pmbus alert" [("status", hex0x 4 st)]))) ∧
  (∀ (s u v : State) (t : Int) (us c : Nat), u = s.at us → c = u.get PWR_LEVEL.CUR →
    (2 ≤ c → u.pwr.entry = none → u.asleep = false → u.life.run = none →
      v = State.set { u with pwr := { u.pwr with fullLevel := if u.flag PWR_LEVEL.THROTTLED then u.pwr.fullLevel else c } } PWR_LEVEL.THROTTLED 1 →
      exec (.throttleStep t us) s = .next ((v.levelAsk (c - 1)).notify "power throttle" [("level", "PL" ++ dec (c - 1)), ("t", decInt t)])) ∧
    (c ≤ 1 → exec (.throttleStep t us) s = .next u)) ∧
  (∀ (s u : State) (us : Nat), u = s.at us →
    (u.flag PWR_LEVEL.THROTTLED = true → u.pwr.entry = none → u.asleep = false → exec (.throttleRelease us) s =
      .next ((u.set PWR_LEVEL.THROTTLED 0).levelAsk (if u.pwr.regBad then u.pwr.fullLevel else u.get PWR_LEVEL.CFG))) ∧
    (u.flag PWR_LEVEL.THROTTLED = false → exec (.throttleRelease us) s = .next u)) ∧
  (∀ (s u : State) (us endUs : Nat) (e : PEntry), u = s.at us → u.pwr.entry = some e →
    (u.get PWR_STATE.STEP = 4 → u.allDrained e = true → exec (.pointOfNoReturn us endUs) s = .next (u.goToSleep e endUs)) ∧
    (u.allDrained e = false → exec (.pointOfNoReturn us endUs) s = .next u)) ∧
  (∀ (s u : State) (us : Nat), u = s.at us →
    (u.asleep = true → u.pwr.wakes ≠ [] → u.pwr.enteredUs ≤ us → exec (.stateExitDone us) s = .next u.wakeUp) ∧
    (u.pwr.wakes = [] → exec (.stateExitDone us) s = .next u)) ∧
  (∀ (s : State) (us : Nat), (s.asleep = true → 0 < s.pwr.timerS → s.pwr.enteredUs + 1000000 * s.pwr.timerS ≤ us →
      exec (.wakeTimer us) s = .next (s.wakeEvent 7 0 us)) ∧ (s.pwr.timerS = 0 → exec (.wakeTimer us) s = .next (s.at us))) ∧
  (∀ (s u v : State) (us : Nat) (o : Bool), u = s.at us → (∀ n, 8 ≤ n → exec (.acmpCrossing n o us) s = .next u) ∧
    (∀ n, n < 8 → n ≠ 1 → n ≠ 2 → o ≠ u.flag (PWR_ACMP.POL n) → exec (.acmpCrossing n o us) s = .next (u.setFlag (PWR_ACMP.OUT n) o)) ∧
    (∀ n, n < 8 → n ≠ 0 → o = u.flag (PWR_ACMP.POL n) → v = (u.setFlag (PWR_ACMP.OUT n) o).set (PWR_ACMP.CROSS n) 1 →
      exec (.acmpCrossing n o us) s = .next (if v.flag (PWR_ACMP.WAKE n) then v.wakeEvent 5 n us else v))) ∧
  (∀ (s u : State) (ch c us : Nat), u = s.at us → (10 ≤ ch → exec (.adcSample ch c us) s = .next u) ∧
    (ch < 5 → exec (.adcSample ch c us) s = .next ((u.set (PWR_ADC.CODE ch) c).windows ch (c % 4096) us)) ∧
    (5 ≤ ch → u.get PWR_STATE.STATE = 3 → exec (.adcSample ch c us) s = .next u)) ∧
  (∀ (s : State), s.canonical = true → ∃ t : State, exec .pwrRetlogClr s = .next t ∧ t.get PWR_RETLOG.MAX = 0 ∧ t.get PWR_RETLOG.MIN = 0xFFF ∧
    t.pwr = s.pwr ∧ t.lin = s.lin) ∧
  (∀ (s u : State) (src d us : Nat), u = s.clkTo us →
    (∀ e, u.pwr.entry = some e → (s.wakeEvent src d us) =
      ((u.refuseEntry e .pwrRefused 0xFF "WAKE").count PWR_PSCNT.WAKE_ABORTS 1).recordWake src d e.target true false) ∧
    (u.pwr.entry = none → u.asleep = false → s.wakeEvent src d us = u) ∧
    (u.pwr.entry = none → u.asleep = true → (s.wakeEvent src d us).pwr.wakes = u.pwr.wakes ++ [{ src := src, detail := d, us := us }]))

/-- Rests on R843, R845, R847 to R849, R851 to R859, R888: what happens to the hops. Only a monitoring port locks; the card inserts itself when it monitors, may join, the token has come and both ports have
locked alike; a hop is negotiated by IDENT, attempts and REPORTs, is up when both ends judged every lane good, and fails for 1 s after its last mode. -/
def Obligations.HopEvents : Prop :=
  (∀ (s : State) (p r : Nat) (two : Bool), (s.hop p).phase = .monitor → p < 2 →
    exec (.seamMonitorLock p r two) s = .next (s.setHop p { s.hop p with locked := some (r, two) }) ∧
    exec (.seamMonitorLockLoss p) s = .next (s.setHop p { s.hop p with locked := none })) ∧
  (∀ (s : State) (p r : Nat) (two : Bool), (s.hop p).phase ≠ .monitor →
    exec (.seamMonitorLock p r two) s = .next s ∧ exec (.seamMonitorLockLoss p) s = .next s) ∧
  (∀ (s u : State) (us t : Nat) (m : Nat × Bool), u = s.at us →
    (u.monitoring = true → u.mayJoin = true → u.seam.tokenUs = some t → t ≤ us → us ≤ t + 5 → u.seam.leftUs = none →
      (us < u.pwr.pauseUs ∨ u.pwr.pauseUs + 12 ≤ us) → u.seam.east.locked = some m → u.seam.west.locked = some m →
      ∀ (f : State → Nat → State), f = (fun v p => (((v.setMode p m.1 m.2).seamOut p (.hop ((v.setMode p m.1 m.2).hopPayload p 0x24 0 0))).setPhase p .up)) →
        exec (.ringInsert us) s = .next (((f (f u.openPorts 0) 1).joinedNow us).twinGo)) ∧
    (u.monitoring = false ∨ u.mayJoin = false ∨ u.seam.tokenUs = none ∨ u.seam.east.locked ≠ u.seam.west.locked → exec (.ringInsert us) s = .next u)) ∧
  (∀ (s u : State) (us : Nat), u = s.at us →
    (u.monitoring = true → u.mayJoin = true → u.seam.east.locked = none ∨ u.seam.east.locked ≠ u.seam.west.locked →
      exec (.ringFormTimeout us) s = .next (((u.openPorts.negotiateHop 0).negotiateHop 1).joinedNow us)) ∧
    (u.monitoring = false ∨ u.mayJoin = false → exec (.ringFormTimeout us) s = .next u)) ∧
  (∀ (s : State) (p : Nat) (pl : Bytes) (ls : List LaneTrain), 2 ≤ p ∨ s.joined = false → exec (.hopJoinReceive p pl) s = .next s ∧
    exec (.identReceive p pl) s = .next s ∧ exec (.hopReportReceive p pl ls) s = .next s ∧ exec (.identSend p) s = .next s) ∧
  (∀ (s : State) (p : Nat) (pl : Bytes) (ls : List LaneTrain), p < 2 → s.joined = true → s.hearHop p pl = none →
    exec (.hopJoinReceive p pl) s = .next s.dropFrame ∧
    exec (.identReceive p pl) s = .next s.dropFrame ∧ exec (.hopReportReceive p pl ls) s = .next s.dropFrame) ∧
  (∀ (s v : State) (p : Nat) (pl : Bytes), p < 2 → s.joined = true → s.hearHop p pl = some v → exec (.hopJoinReceive p pl) s = .next v ∧
    ((v.hop p).phase = .ident → le pl 16 4 = v.get SYS_SERIAL.SERIAL → exec (.identReceive p pl) s = .next (v.setHop p { v.hop p with echoed := true })) ∧
    (le pl 16 4 ≠ v.get SYS_SERIAL.SERIAL → exec (.identReceive p pl) s = .next v)) ∧
  (∀ (s v w : State) (p g : Nat) (pl : Bytes) (ls : List LaneTrain), g = lanesGood ls → p < 2 → s.joined = true → s.hearHop p pl = some v → (v.hop p).phase = .attempt → le pl 11 1 = (v.hop p).k →
    w = v.seamOut p (.hop (v.hopPayload p 0x23 (v.hop p).k (g % 4))) →
    (∀ n, n = (if (v.hop p).two then 3 else 1) → (n &&& g = n ∧ n &&& le pl 12 1 = n →
      exec (.hopReportReceive p pl ls) s = .next ((w.hopUp p).seamOut p (.hop ((w.hopUp p).hopPayload p 0x21 0 0)))) ∧
    (n &&& g ≠ n ∨ n &&& le pl 12 1 ≠ n → exec (.hopReportReceive p pl ls) s = .next w))) ∧
  (∀ (s : State) (p : Nat), p < 2 → s.joined = true →
    ((s.hop p).phase = .ident → (s.hop p).echoed = true → exec (.identSend p) s = .next (s.startHopAttempt p 1 (s.firstMode p).1 (s.firstMode p).2)) ∧
    ((s.hop p).phase = .up ∨ ((s.hop p).phase = .ident ∧ (s.hop p).echoed = false) → exec (.identSend p) s = .next (s.seamOut p (.hop (s.hopPayload p 0x21 0 0))))) ∧
  (∀ (s : State) (p : Nat), p < 2 → (s.hop p).phase = .attempt →
    (∀ m, nextHopMode (s.hop p).k (s.hop p).rate (s.hop p).two = some m → exec (.hopAttemptEnd p) s = .next (s.startHopAttempt p ((s.hop p).k + 1) m.1 m.2)) ∧
    (nextHopMode (s.hop p).k (s.hop p).rate (s.hop p).two = none → exec (.hopAttemptEnd p) s = .next (s.setPhase p .failed))) ∧
  (∀ (s : State) (p : Nat), p < 2 → ((s.hop p).phase = .failed → exec (.hopRetry p) s = .next (s.negotiateHop p)) ∧
    ((s.hop p).phase ≠ .failed → exec (.hopRetry p) s = .next s) ∧ ((s.hop p).phase = .up → exec (.hopError p) s = .next (s.negotiateHop p)) ∧
    ((s.hop p).phase ≠ .up → exec (.hopError p) s = .next s)) ∧
  (∀ (s u : State) (p us : Nat), u = s.at us → p < 2 → u.joined = true →
    ((u.hop p).phase ≠ .up → exec (.hopDownLeave p us) s = .next ((State.leaveRing { u with seam := { u.seam with leftUs := some us } } 1).notify "ring left"
      [("reason", "hop"), ("port", if p = 0 then "E" else "W")])) ∧
    ((u.hop p).phase = .up → exec (.hopDownLeave p us) s = .next u))

/-- Rests on R815, R857 to R863, R896, R897: frames and hop acknowledgements act only on an inserted card's hop that is up; a frame that fails its checks is dropped; a good one is routed, and an MGT frame
for the card is a wake event. -/
def Obligations.RingFrames : Prop :=
  (∀ (s u : State) (p us : Nat) (rx : RxInfo) (f : RFrame), u = s.at us → (u.hop p).phase ≠ .up ∨ u.joined = false ∨ f.cls = 4 ∨ 2 ≤ p →
    exec (.ringFrameReceive p rx f us) s = .next u) ∧
  (∀ (s u v : State) (p us : Nat) (rx : RxInfo) (f : RFrame), u = s.at us → p < 2 → u.joined = true → (u.hop p).phase = .up → f.cls ≠ 0 → f.cls ≠ 4 →
    (u.ringJudge p rx f.payload.length = (v, false) → exec (.ringFrameReceive p rx f us) s = .next v) ∧
    (u.ringJudge p rx f.payload.length = (v, true) → (f.cls ≠ 2 → exec (.ringFrameReceive p rx f us) s = .next (v.routeFrame p f)) ∧
      (f.cls = 2 → f.dst = (v.routeFrame p f).ownSlot → exec (.ringFrameReceive p rx f us) s = .next ((v.routeFrame p f).wakeEvent 4 p us)))) ∧
  (∀ (s : State) (p : Nat) (cs : List (Nat × Nat)), 2 ≤ p ∨ (s.hop p).phase ≠ .up → exec (.seamAckReceive p cs) s = .next s ∧
    exec (.seamRepReceive p cs) s = .next s ∧ exec (.seamGoBackTimeout p) s = .next s) ∧
  (∀ (s : State) (p : Nat) (cs : List (Nat × Nat)), p < 2 → (s.hop p).phase = .up →
    (ackTaken cs = none → exec (.seamAckReceive p cs) s = .next s ∧ exec (.seamRepReceive p cs) s = .next s) ∧
    (∀ e, ackTaken cs = some e → exec (.seamAckReceive p cs) s = .next (s.hopAcked p e) ∧ exec (.seamRepReceive p cs) s = .next (s.hopBack p e)) ∧
    ((s.hop p).unacked = [] → exec (.seamGoBackTimeout p) s = .next s) ∧
    (∀ i r, (s.hop p).unacked = i :: r → exec (.seamGoBackTimeout p) s = .next (s.hopBack p i.seq)))

/-- Rests on R846, R847, R860, R865 to R868, R878, R888 to R894, R918, R919, R1077, R1079, R1090, R1091: BEATs, the Mantle's election and succession, minutes the card closes itself, and a member's lines. -/
def Obligations.MantleEvents : Prop :=
  (∀ (s u : State) (us : Nat), u = s.at us → (u.joined = true → exec (.beatSend us) s = .next (u.sendBeat us false)) ∧
    (u.joined = false → exec (.beatSend us) s = .next u)) ∧
  (∀ (s u : State) (p us : Nat) (rx : RxInfo) (f : RFrame), u = s.at us → p < 2 → f.cls = 4 → 64 ≤ f.payload.length → le f.payload 0 1 = 1 → u.monitoring = true →
    (rx.crcOk = false → exec (.beatReceive p rx f us) s = .next u) ∧
    (rx.crcOk = true → f.src = u.ownSlot → exec (.beatReceive p rx f us) s = .next u.dupSlot) ∧
    (rx.crcOk = true → f.src ≠ u.ownSlot → p = 0 → exec (.beatReceive p rx f us) s = .next (u.hearBeat f.src us (Beat.of f.payload)))) ∧
  (∀ (s u : State) (p us : Nat) (rx : RxInfo) (f : RFrame), u = s.at us → (f.cls ≠ 4 ∨ (u.monitoring = false ∧ u.joined = false)) →
    exec (.beatReceive p rx f us) s = .next u) ∧
  (∀ (s u v : State) (us : Nat) (rx : RxInfo) (f : RFrame) (b : Beat), u = s.at us → f.cls = 4 → 64 ≤ f.payload.length → le f.payload 0 1 = 1 → b = Beat.of f.payload →
    u.monitoring = false → u.joined = true → (u.hop 0).phase = .up → u.ringJudge 0 rx f.payload.length = (v, true) →
    (f.src = v.ownSlot → b.serial = v.get SYS_SERIAL.SERIAL → exec (.beatReceive 0 rx f us) s = .next (v.ownBeatBack 0 us b)) ∧
    (f.src = v.ownSlot → b.serial ≠ v.get SYS_SERIAL.SERIAL → exec (.beatReceive 0 rx f us) s = .next v.dupSlot) ∧
    (∀ w, f.src ≠ v.ownSlot → v.freshFrame f = (w, false) → exec (.beatReceive 0 rx f us) s = .next w) ∧
    (∀ w, f.src ≠ v.ownSlot → v.freshFrame f = (w, true) → b.mantle = false → exec (.beatReceive 0 rx f us) s =
      .next ((w.hearBeat f.src us b).forward 0 { f with payload := f.payload.take 20 ++ leBytes 3 b.pass ++ f.payload.drop 23 }))) ∧
  (∀ (s u : State) (sl us : Nat), u = s.at us → (u.beatOf sl = none → exec (.beatSilence sl us) s = .next u) ∧
    (∀ r, u.beatOf sl = some r → r.counted = true ∨ us < r.us + 30000 → exec (.beatSilence sl us) s = .next u) ∧
    (∀ r v, u.beatOf sl = some r → r.counted = false → r.us + 30000 ≤ us → u.twin.pairing = none → u.seam.named = true →
      v = State.count { u with seam := { u.seam with beats := u.seam.beats.map (fun b => if b.src = sl then { b with counted := true } else b) } } SEAM_BEATMISS.COUNT 1 →
      v.seam.named = true → v.twin.pairing = none → exec (.beatSilence sl us) s = .next v)) ∧
  (∀ (s u : State) (us : Nat), u = s.at us →
    (u.joined = true → u.get SEAM_MANTLE.STATE = 0 → u.mantleSeen us = false → exec (.joinNoMantleTimeout us) s = .next u.elect) ∧
    (u.get SEAM_MANTLE.STATE ≠ 0 → exec (.joinNoMantleTimeout us) s = .next u) ∧
    (u.get SEAM_MANTLE.STATE = 1 → u.seam.mantleUs = none → exec (.standbyBeatWaitExpiry us) s = .next u.elect) ∧
    (∀ t, u.get SEAM_MANTLE.STATE = 1 → u.seam.mantleUs = some t → t + 50000 ≤ us → exec (.standbyBeatWaitExpiry us) s = .next u.elect) ∧
    (∀ t, u.seam.mantleUs = some t → us < t + 50000 → exec (.standbyBeatWaitExpiry us) s = .next u) ∧
    (u.get SEAM_MANTLE.STATE = 3 → u.highest us = true → exec (.mantleElectionTimer us) s = .next u.becomeMantle) ∧
    (u.highest us = false → exec (.mantleElectionTimer us) s = .next u) ∧
    (∀ t, u.get SEAM_MANTLE.STATE = 2 → u.seam.mantleUs = some t → t + 30000 ≤ us → exec (.mantleStandbyTakeover us) s =
      .next (u.becomeMantle.sendBeat us (decide (u.get SEAM_MINUTE.MINUTE < u.get HTG_MINUTE.MINUTE)))) ∧
    (u.get SEAM_MANTLE.STATE ≠ 2 → exec (.mantleStandbyTakeover us) s = .next u)) ∧
  (∀ (s u : State) (us m p : Nat), u = s.at us → m = u.get HTG_MINUTE.MINUTE →
    (p ∈ u.meteredPockets → ((u.htg.minute p).stamp = none ∧ 0 < m) ∨ (∃ x, (u.htg.minute p).stamp = some x ∧ x + 1 < m) → u.get SEAM_MINUTE.MINUTE < m → 1000 ≤ u.htg.phase → u.removing = false →
      exec (.localMinuteClose us) s = .next (u.closeAll m false)) ∧
    (m ≤ u.get SEAM_MINUTE.MINUTE ∨ u.htg.phase < 1000 ∨ u.removing = true → exec (.localMinuteClose us) s = .next u)) ∧
  (∀ (s u : State) (src q us : Nat) (la : Bool) (tx : String), u = s.at us →
    (∀ g x, u.twin.offer = some (g, x) → g.slot = src → u.twin.offerReq = some q → exec (.seamReplyReceive src q la tx us) s = .next (u.offerJudged g (dropCheck tx))) ∧
    (u.twin.offer = none → u.seam.relay.find? (fun r => r.slot == src && r.req == q) = none → exec (.seamReplyReceive src q la tx us) s = .next u)) ∧
  (∀ (s : State) (src : Nat) (tx : String), (s.get SEAM_MANTLE.STATE ≠ 4 → exec (.seamNoticeReceive src tx) s = .next s) ∧
    (s.get SEAM_MANTLE.STATE = 4 → exec (.seamNoticeReceive src tx) s = .next (s.notifyOn .collar
      (String.ofList (("member=" ++ slotId src ++ " " ++ String.ofList ((dropCheck tx).toList.drop 2)).toList.take 238)) [])))

/-- Rests on R872, R873, R875, R876, R882, R884, R886: the items a secondary receives. Only the item whose TSEQ is next is taken, in SHADOW or STANDBY, and none while a line item runs; an item that cannot
be applied is refused with NAK, and one that is applied moves SEAM_TSEQ on. -/
def Obligations.TwinItems : Prop :=
  (∀ (s : State) (q lba p h ik c a n us d r : Nat) (ig po : Bool) (tg by_ : Bytes) (cm : TwinCmd), s.takesItem q = false →
    exec (.twinData q lba p h ig po ik c tg by_) s = .next s ∧ exec (.twinDarn q lba p h ig po ik c tg by_) s = .next s ∧ exec (.twinTrim q lba p n) s = .next s ∧
    exec (.twinUnmap q lba p n) s = .next s ∧ exec (.twinCopy q lba p n d ig ik c) s = .next s ∧ exec (.twinRegionEnd q r p) s = .next s ∧
    ((s.at us).takesItem q = false → exec (.twinHold q a us) s = .next (s.at us) ∧ exec (.twinLine q cm us) s = .next (s.at us))) ∧
  (∀ (s : State) (q lba p h ik c : Nat) (ig po : Bool) (tg by_ : Bytes), s.takesItem q = true → s.pockets.lookup p = none →
    exec (.twinData q lba p h ig po ik c tg by_) s = .next ((s.cross p 2048).itemRefused q) ∧
    exec (.twinDarn q lba p h ig po ik c tg by_) s = .next ((s.cross p 2048).itemRefused q)) ∧
  (∀ (s t : State) (q lba p h ik c : Nat) (ig po : Bool) (tg by_ : Bytes), s.takesItem q = true → s.pockets.lookup p ≠ none →
    t = (s.meter p 7 2048).cross p 2048 →
    (∀ i, i = Instr.twinData q lba p h ig po ik c tg by_ ∨ i = Instr.twinDarn q lba p h ig po ik c tg by_ →
      (h = 1 → s.blockRoom p lba (!s.admits p 4096) = false → exec i s = .next (s.cross p 2048)) ∧
      (h = 0 → exec i s = .next (State.itemApplied { t with twin := { t.twin with half := some (padTo 2048 by_) } })) ∧
      (h = 1 → s.blockRoom p lba (!s.admits p 4096) = true → ig = false ∨ po = true → exec i s = .next ((State.storeMirrored { t with twin := { t.twin with half := none } } q p lba po
        ((t.twin.half.getD (List.replicate 2048 0)) ++ padTo 2048 by_) none).itemApplied)) ∧
      (h = 1 → s.blockRoom p lba (!s.admits p 4096) = true → ig = true → po = false → s.latch ik = none → exec i s = .next ((s.cross p 2048).itemRefused q)))) ∧
  (∀ (s h : State) (q lba p n r : Nat), s.takesItem q = true → h = s.cross p 2048 → exec (.twinRegionEnd q r p) s = .next h.itemApplied ∧
    (s.pockets.lookup p = none → exec (.twinTrim q lba p n) s = .next (h.itemRefused q) ∧ exec (.twinUnmap q lba p n) s = .next (h.itemRefused q)) ∧
    (∀ (v : State) (k : Nat) (i : Instr), s.pockets.lookup p ≠ none → i = .twinTrim q lba p n ∨ i = .twinUnmap q lba p n →
      (h.dropPrefetch p lba n).unmapFrom p lba n s.twin.itemDone (n / segBlocks + 2) = (v, k) →
      (k < n → exec i s = .next { v with twin := { v.twin with itemDone := k } }) ∧
      (n ≤ k → exec i s = .next (v.trimRecord p lba n).itemApplied))) ∧
  (∀ (s h : State) (q src p n d dk ik : Nat) (ig : Bool), s.takesItem q = true → h = s.cross p 2048 →
    (s.copyReady p src n d = false →
      exec (.twinCopy q src p n d ig dk ik) s = .next ((s.segsOf p src n ++ s.segsOf p d n).foldl State.needSeg h)) ∧
    (∀ t, s.copyReady p src n d = true → (h.dropPrefetch p d n).copyAll q p src d ig dk ik n = some t →
      exec (.twinCopy q src p n d ig dk ik) s = .next t.itemApplied) ∧
    (s.copyReady p src n d = true → (h.dropPrefetch p d n).copyAll q p src d ig dk ik n = none → exec (.twinCopy q src p n d ig dk ik) s = .next (h.itemRefused q))) ∧
  (∀ (s u : State) (q ms us : Nat), u = s.at us → u.takesItem q = true →
    exec (.twinHold q ms us) s = .next ((State.cross { u with twin := { u.twin with holdUntil := us + 1000 * clamp 1 5000 ms } } 0 2048).itemApplied)) ∧
  (∀ (s u : State) (us : Nat), u = s.at us → (u.twin.holdUntil ≤ us → exec (.holdExpiry us) s = .next { u with twin := { u.twin with holdUntil := 0 } }) ∧
    (us < u.twin.holdUntil → exec (.holdExpiry us) s = .next u)) ∧
  (∀ (s u v : State) (q us : Nat) (cm : TwinCmd), u = s.at us → u.takesItem q = true → v = u.pairAnswered →
    (v.locked = true → exec (.twinLine q cm us) s = .next v) ∧
    (∀ w d kv, v.locked = false → (v.cross 0 2048).doLine cm = (w, .ok d kv) → exec (.twinLine q cm us) s =
      .next (w.confRecord.itemApplied.lineAfter cm)) ∧
    (∀ w st, v.locked = false → (v.cross 0 2048).doLine cm = (w, .fail st) → exec (.twinLine q cm us) s = .next (w.itemRefused q)) ∧
    (∀ w x, v.locked = false → (v.cross 0 2048).doLine cm = (w, .wait x) → exec (.twinLine q cm us) s =
      .next { w with twin := { w.twin with rxNext := q + 1, fresh := false, lineAwait := some (q, x) } }))

/-- Rests on R873 to R876, R878 to R886, R901, R902, R1076, R1079, R1081, R1090, R1109, R1111: the confirmations a primary receives, the loss of its mirror, takeover, darning, and the timers of offers, swaps
and relays. -/
def Obligations.TwinEvents : Prop :=
  (∀ (s u : State) (n us : Nat), u = s.at us → (u.mirrors = true → exec (.twinAck n us) s = .next (u.twinAcked n).twinGo) ∧
    (u.mirrors = false → exec (.twinAck n us) s = .next u)) ∧
  (∀ (s : State) (q : Nat), s.mirrors = true → (s.twin.unconf.any (fun i => i.tseq == q)) = true →
    (s.twin.refused = some q → exec (.twinNak q) s = .next s.toLost) ∧
    (s.twin.refused ≠ some q → exec (.twinNak q) s = .next (State.twinBack { s with twin := { s.twin with refused := some q } }))) ∧
  (∀ (s : State) (q : Nat), s.mirrors = false ∨ s.twin.unconf = [] → exec (.twinNak q) s = .next s) ∧
  (∀ (s : State), (s.mirrors = true → exec .twinConfirmTimeout s = .next s.twinBack) ∧ (s.mirrors = false → exec .twinConfirmTimeout s = .next s)) ∧
  (∀ (s u : State) (us : Nat), u = s.at us → (u.mirrors = true → u.twin.unconf ≠ [] → exec (.twinLostTimeout us) s = .next u.toLost) ∧
    (u.mirrors = false ∨ u.twin.unconf = [] → exec (.twinLostTimeout us) s = .next u)) ∧
  (∀ (s u : State) (us : Nat), u = s.at us →
    (u.twinState = 6 → u.twin.fromStandby = true → u.primarySilent us = true → u.twin.holdUntil ≤ us → u.rosterLacks = true →
      exec (.takeoverAuto us) s = .next u.takeover) ∧
    (u.twinState ≠ 6 ∨ u.twin.fromStandby = false ∨ us < u.twin.holdUntil ∨ u.rosterLacks = false → exec (.takeoverAuto us) s = .next u)) ∧
  (∀ (s : State) (reads : List (Nat × List (List Nat))) (unc : List Nat),
    (s.twinState ≠ 1 ∨ 64 ≤ s.twin.inCopy.length → exec (.darnRegion reads unc) s = .next s) ∧
    (s.twinState = 1 → s.twin.inCopy.length < 64 → lowestRegion s.twin.marked = none → exec (.darnRegion reads unc) s = .next s.darnEnds) ∧
    (∀ p r away, s.twinState = 1 → s.twin.inCopy.length < 64 → lowestRegion s.twin.marked = some (p, r) →
      away = (s.segsOf p (256 * r) 256).filter s.segAbsent →
      (away ≠ [] → exec (.darnRegion reads unc) s = .next (away.foldl State.needSeg s)) ∧
      (away = [] → (s.regionBlocks p r).all (s.blockReadable p) = true →
        exec (.darnRegion reads unc) s = .next (s.darnRegion p r reads unc).settle) ∧
      (away = [] → (s.regionBlocks p r).all (s.blockReadable p) = false → exec (.darnRegion reads unc) s = .next s))) ∧
  (∀ (s u : State) (d us : Nat) (cl sv : Bool), u = s.at us →
    (u.twinState ≠ 3 → u.twinState ≠ 7 → ∀ f, exec (.twinPairItem d cl sv f us) s = .next u) ∧
    (u.twinState = 3 ∨ u.twinState = 7 → exec (.twinPairItem d cl sv true us) s = .next (u.beginDarning 0 false) ∧
      exec (.twinPairItem d cl sv false us) s = .next (u.beginDarning (d + 1) (cl && !sv && decide (u.twin.confirmed ≤ d + 1))))) ∧
  (∀ (s u : State) (us : Nat), u = s.at us → exec (.twinOfferSend us) s = .next u.sendOffer ∧ (u.twin.offer = none → exec (.twinPairLapse us) s = .next u) ∧
    (∀ g a, u.twin.offer = some (g, a) → (a + 60000000 ≤ us → exec (.twinPairLapse us) s = .next u.lapsePair) ∧
      (us < a + 60000000 → exec (.twinPairLapse us) s = .next u))) ∧
  (∀ (s u : State) (us : Nat), u = s.at us → (u.twin.swapUs = none → exec (.twinSwapTimeout us) s = .next u) ∧
    (∀ a, u.twin.swapUs = some a → us < a + 1000000 ∨ (u.twin.swapSeq.isSome = true ∧ u.mirroring = true) → exec (.twinSwapTimeout us) s = .next u) ∧
    (∀ a, u.twin.swapUs = some a → a + 1000000 ≤ us → u.twin.swapSeq = none ∨ u.mirroring = false →
      exec (.twinSwapTimeout us) s = .next (State.finishFor { u with twin := { u.twin with swapUs := none, swapSeq := none } } .swap (fun t => .er t .timeout)))) ∧
  (∀ (s u : State) (us : Nat), u = s.at us →
    ((∀ r ∈ u.seam.relay, us < r.us + 1200000) → exec (.mantleRelayTimeout us) s = .next u) ∧
    ((∀ r ∈ u.seam.relay, r.us + 1200000 ≤ us) → exec (.mantleRelayTimeout us) s = .next
      (u.seam.relay.foldl (fun t r => t.finishFor (.relay r.req) (fun g => .er g .timeout)) { u with seam := { u.seam with relay := [] } })))

/-- Rests on R906 to R914, R916, R925, R929 to R932, R938, R941: samples, buckets and the Hangtag's selection registers. A sample's energy goes to the meters, or to the TACK accumulator in TACK; a removal
adds nothing; only the active Mantle and the standby keep the buckets they hear, and only the active Mantle acknowledges them. -/
def Obligations.HangtagEvents : Prop :=
  (∀ (s v : State) (cv ci us : Nat) (b : List (Nat × Nat)), v = ((s.at us).minuteRuns).set HTG_LASTE.NJ ((cv % 4096) * (ci % 4096) * 32400000 / 2 ^ 24) →
    (v.removing = true → exec (.htgSample cv ci b us) s = .next { v with htg := { v.htg with cross := [] } }) ∧
    (v.removing = false → v.get PWR_STATE.STATE = 3 → exec (.htgSample cv ci b us) s = .next (State.countSample { v with
      htg := { v.htg with tack := v.htg.tack + (cv % 4096) * (ci % 4096) * 32400000 / 2 ^ 24, cross := [] } })) ∧
    (∀ w, v.removing = false → v.get PWR_STATE.STATE ≠ 3 → w = v.shareEnergy b ((cv % 4096) * (ci % 4096) * 32400000 / 2 ^ 24) → w.meteredPockets = [0] →
      exec (.htgSample cv ci b us) s = .next (State.countSample { ((w.meter 0 3 0).meter 0 6 0) with htg := { ((w.meter 0 3 0).meter 0 6 0).htg with cross := [] } })) ∧
    (v.removing = false → ∃ t : State, exec (.htgSample cv ci b us) s = .next t ∧ t.htg.cross = [])) ∧
  (∀ (s u : State) (us : Nat), u = s.at us →
    (u.joined = false → exec (.bucketBroadcast us) s = .next u ∧ exec (.bucketRepeat us) s = .next u) ∧
    (u.joined = true → exec (.bucketBroadcast us) s = .next (u.broadcast us (fun b => b.state == 1)) ∧
      exec (.bucketRepeat us) s = .next (u.broadcast us (fun b => b.state == 2 && decide (b.sentUs + 2000000 ≤ us))))) ∧
  (∀ (s : State) (src : Nat) (b : Bytes), (b.length ≠ 128 → exec (.htgBucketReceive src b) s = .next s) ∧
    (s.get SEAM_MANTLE.STATE ≠ 4 → s.get SEAM_MANTLE.STATE ≠ 2 → exec (.htgBucketReceive src b) s = .next s) ∧
    (b.length = 128 → s.get SEAM_MANTLE.STATE = 2 → exec (.htgBucketReceive src b) s = .next (s.shelve b)) ∧
    (b.length = 128 → s.get SEAM_MANTLE.STATE = 4 → exec (.htgBucketReceive src b) s = .next
      ((s.shelve b).ringSend 3 2 src ((b.drop 1).take 1 ++ List.replicate 3 0 ++ (b.drop 12).take 4 ++ (b.drop 4).take 4) []))) ∧
  (∀ (s : State) (p g m : Nat), exec (.htgBucketAckReceive p g m) s = .next (s.mapBuckets (fun b =>
    if le b.bytes 1 1 = p ∧ le b.bytes 12 4 = g ∧ le b.bytes 4 4 = m then { b with state := 3 } else b))) ∧
  (∀ (s : State) (c m p : Nat), (c < 2 → exec (.htgPselWrite c m p) s = .next (s.pselWrite c m p) ∧ exec (.htgBselWrite c m p) s = .next (s.bselWrite c m p)) ∧
    (2 ≤ c → exec (.htgPselWrite c m p) s = .next s ∧ exec (.htgBselWrite c m p) s = .next s))

/-- Rests on R942 to R946, R948 to R952, R956 to R961, R968, R969: lifecycle programming, swatch runs and JTAG instructions. A transition that verifies ends in a COLD reset; one whose copy fails twice
forms the state at once; a run before its bound cannot time out and after it cannot pass; a SCRAP card answers JTAG with nothing. -/
def Obligations.LifeEvents : Prop :=
  (∀ (s v : State) (f : Option (Nat × Nat)), (s.get LCS_STATE.STATE ≠ 0 → exec (.jtagMakeTransition f) s = .next s) ∧
    (s.get LCS_STATE.STATE = 0 → v = { s with life := { s.life with copies := programmed s.life.copies 1 f } } →
      (f ≠ none → exec (.jtagMakeTransition f) s = .next v.formLife) ∧ (f = none → v.ready = false → exec (.jtagMakeTransition f) s = .next v) ∧
      (f = none → v.ready = true → exec (.jtagMakeTransition f) s = .next (v.beginReset .cold causeLife)))) ∧
  (∀ (s : State) (f : Option (Nat × Nat)), s.life.trans = none → exec (.lifecycleProgramDone f) s = .next s) ∧
  (∀ (s v : State) (f : Option (Nat × Nat)) (t : LifeTrans), s.life.trans = some t → t.byT0 = false →
    v = { s with life := { s.life with copies := programmed s.life.copies t.bits f, trans := none } } →
    (f ≠ none → exec (.lifecycleProgramDone f) s = .next (v.finishFor .life (fun g => .er g .timeout)).formLife) ∧
    (f = none → exec (.lifecycleProgramDone f) s = .next (((v.finishFor .life (fun g => .ok g [] [("state", lifeLower t.target)])).notify "life"
      [("state", lifeName t.target)]).beginReset .cold causeLife))) ∧
  (∀ (s : State) (k tg : Nat), exec (.lcsCtlStart k tg false) s = .next s ∧
    (k ≠ 0x5A → exec (.lcsCtlStart k tg true) s = .next (s.set LCS_CTL.TARGET tg)) ∧
    (∀ v, v = s.set LCS_CTL.TARGET tg → v.life.trans = none → v.locked = false →
      (∀ st, v.lifeRefusal (tg % 8) = some st → exec (.lcsCtlStart 0x5A tg true) s = .next (v.set LCS_RESULT.STATUS st.code)) ∧
      (v.lifeRefusal (tg % 8) = none → exec (.lcsCtlStart 0x5A tg true) s =
        .next ((State.set { v with col := { v.col with t0Lock := true } } LCS_CTL.START 1).beginLife (tg % 8) true)))) ∧
  (∀ (s u : State) (w d us : Nat), u = s.at us →
    (∀ v, v = (u.set BIST_CTL.SWATCH w).set BIST_CTL.DOMAIN d → exec (.bistCtlStart w d false us) s = .next v ∧
      (u.life.run.isSome = true → exec (.bistCtlStart w d true us) s = .next v) ∧
      (u.life.run = none → v.locked = true → exec (.bistCtlStart w d true us) s = .next (v.runRefused .wrongState))) ∧
    (∀ v, u.life.run = none → v = (u.set BIST_CTL.SWATCH w).set BIST_CTL.DOMAIN d → v.locked = false →
      (∀ st, v.runRefusal (clamp 1 40 w) (min 50 d) = some st → exec (.bistCtlStart w d true us) s = .next (v.runRefused st)) ∧
      (v.runRefusal (clamp 1 40 w) (min 50 d) = none → exec (.bistCtlStart w d true us) s =
        .next ((State.set { v with col := { v.col with t0Lock := true } } BIST_CTL.START 1).beginRun (clamp 1 40 w) (min 50 d) none false)))) ∧
  (∀ (s u : State) (x us : Nat) (ok : Bool), u = s.at us → (u.life.run = none → exec (.bistRunDone ok x us) s = .next u ∧ exec (.bistRunTimeout x us) s = .next u) ∧
    (∀ r, u.life.run = some r → us < r.startUs + u.runBound r.swatch r.dom → exec (.bistRunDone true x us) s = .next (u.endRun r 1 x us) ∧
      exec (.bistRunDone false x us) s = .next (u.endRun r 2 x us) ∧ exec (.bistRunTimeout x us) s = .next u) ∧
    (∀ r, u.life.run = some r → r.startUs + u.runBound r.swatch r.dom < us → exec (.bistRunDone ok x us) s = .next u ∧
      exec (.bistRunTimeout x us) s = .next (u.endRun r 3 x us))) ∧
  (∀ (s : State) (i : JtagInstr) (f : JtagInstr → State), f = (fun j => { s with life := { s.life with tapIn := i, tap := j } }) →
    (s.get LCS_STATE.STATE = 4 → exec (.jtagInstruction i) s = .next (f .closed)) ∧
    (s.get LCS_STATE.STATE ≠ 4 → i = .idcode ∨ i = .bypass → exec (.jtagInstruction i) s = .next (f i)) ∧
    (s.get LCS_STATE.STATE = 2 → (∃ d, i = .scan d) ∨ i = .internal → exec (.jtagInstruction i) s = .next (f .bypass)) ∧
    (s.get LCS_STATE.STATE = 3 → i = .scan 37 → exec (.jtagInstruction i) s = .next (f .bypass)) ∧
    (s.get LCS_STATE.STATE = 3 → ∀ d, d ≠ 37 → i = .scan d → exec (.jtagInstruction i) s = .next (f i)) ∧
    (s.get LCS_STATE.STATE ≤ 1 → i = .internal → exec (.jtagInstruction i) s = .next (f i)))

/-- Rests on R20 to R22: what a write and a read do to each field of a register, for every register of the card. RW takes the written bits; W1C clears and W1S sets the bits written as 1; RO, WO and RC
ignore the write; every other register keeps its word. A read changes RC fields alone, to their reset values. -/
def Obligations.FieldAccessTypes : Prop :=
  (∀ (s t : State) (core a : Nat) (w : BitVec 32) (f : FSpec) (x : Fld), s.canonical = true → f ∈ fieldsAt a → x = f.fld a → t = s.plainWrite core a w →
    (f.acc = .rw → x.of (t.word (keyOf core a)) = x.of w) ∧
    (f.acc = .w1c → x.of (t.word (keyOf core a)) = x.of (s.word (keyOf core a)) &&& (2 ^ f.width - 1 - x.of w)) ∧
    (f.acc = .w1s → x.of (t.word (keyOf core a)) = x.of (s.word (keyOf core a)) ||| x.of w) ∧
    (f.acc = .ro ∨ f.acc = .wo ∨ f.acc = .rc → x.of (t.word (keyOf core a)) = x.of (s.word (keyOf core a)))) ∧
  (∀ (s : State) (core a k : Nat) (w : BitVec 32), s.canonical = true → k ≠ keyOf core a →
    (s.plainWrite core a w).word k = s.word k ∧ (s.readClear core a).word k = s.word k) ∧
  (∀ (s t : State) (core a : Nat) (f : FSpec) (x : Fld), s.canonical = true → f ∈ fieldsAt a → x = f.fld a → t = s.readClear core a →
    (f.acc = .rc → x.of (t.word (keyOf core a)) = x.of (resetWord a)) ∧ (f.acc ≠ .rc → x.of (t.word (keyOf core a)) = x.of (s.word (keyOf core a)))) ∧
  (∀ (s : State) (core a : Nat), (∀ f ∈ fieldsAt a, f.acc ≠ .rc) → s.readClear core a = s) ∧
  (∀ (s u : State) (c a ep us : Nat), u = s.at us → c < 2 → u.domIn (49 + c) = true → u.coreRefused c false 0 a = false → servedShape a 4 = true →
    u.regDark a = false → u.staleFor a ep = false →
    ∃ t : State, exec (.registerReadClear c a 4 false ep us) s = .next t ∧ t.regs = (u.readClear c a).regs ∧ t.access.readData = (u.readWord c a).toNat)

/-- Rests on R657, R658, R663, R667, R770, R1118 to R1121: a core's load or store. Nothing happens where the core does not run; the MPU turns it away; an access that register space does not serve, or whose
domain is dark, acts on no register, and a load then returns 0; what is served is a write of the register, or a read with its RC fields cleared. -/
def Obligations.RegisterAccess : Prop :=
  (∀ (s u : State) (c a b ep us : Nat) (p1 : Bool) (w : BitVec 32) (ms : List Nat), u = s.at us → 2 ≤ c ∨ (p1 = true ∧ c = 0) ∨ u.domIn (49 + c) = false →
    exec (.registerWrite c a b p1 ep w none ms us) s = .next u ∧ exec (.registerReadClear c a b p1 ep us) s = .next u) ∧
  (∀ (s u : State) (c a b ep us : Nat) (p1 : Bool) (w : BitVec 32) (ms : List Nat), u = s.at us → c < 2 → (p1 = false ∨ c = 1) → u.domIn (49 + c) = true →
    (u.coreRefused c p1 1 a = true → exec (.registerWrite c a b p1 ep w none ms us) s = .next (u.mpuFault c p1 1 a)) ∧
    (u.coreRefused c p1 0 a = true → exec (.registerReadClear c a b p1 ep us) s = .next (u.mpuFault c p1 0 a)) ∧
    (u.coreRefused c p1 1 a = false → (inRegSpace a = false → exec (.registerWrite c a b p1 ep w none ms us) s = .next (u.areaStore c p1 a (leBytes (min 4 b) w.toNat))) ∧
      (inRegSpace a = true → b ≠ 4 ∨ a % 4 ≠ 0 → exec (.registerWrite c a b p1 ep w none ms us) s = .next u) ∧
      (servedShape a b = true → u.regDark a = true → exec (.registerWrite c a b p1 ep w none ms us) s = .next (u.busError a)) ∧
      (servedShape a b = true → u.regDark a = false → u.staleFor a ep = true → exec (.registerWrite c a b p1 ep w none ms us) s =
        .next u.staleAnswer) ∧
      (servedShape a b = true → u.regDark a = false → u.staleFor a ep = false → exec (.registerWrite c a b p1 ep w none ms us) s = .next (u.regWrite c a p1 w ms us))) ∧
    (u.coreRefused c p1 0 a = false → (inRegSpace a = false → exec (.registerReadClear c a b p1 ep us) s = .next (u.areaLoad c p1 a b)) ∧
      (inRegSpace a = true → b ≠ 4 ∨ a % 4 ≠ 0 → exec (.registerReadClear c a b p1 ep us) s = .next (u.took 0)) ∧
      (servedShape a b = true → u.regDark a = true → exec (.registerReadClear c a b p1 ep us) s = .next ((u.busError a).took 0)) ∧
      (servedShape a b = true → u.regDark a = false → u.staleFor a ep = true → exec (.registerReadClear c a b p1 ep us) s =
        .next u.staleAnswer) ∧
      (servedShape a b = true → u.regDark a = false → u.staleFor a ep = false → exec (.registerReadClear c a b p1 ep us) s = .next ((u.readClear c a).took (u.readWord c a).toNat)))) ∧
  (∀ (s : State) (c a us : Nat) (p1 : Bool) (w : BitVec 32) (ms : List Nat), (p1 = true → ignoresP1 a = true → s.regWrite c a p1 w ms us = s) ∧
    (a / 0x10000 = 0x4004 ∨ a / 0x10000 = 0x4006 ∨ a / 0x10000 = 0x4007 → p1 = false → a ≠ SLV_CTL.addr → s.regWrite c a p1 w ms us = s.plainWrite c a w))
end

