-- ==== Sys2Proof/Laws/Cells.lean ====
section
/-!
SUPPORT. Sys2Proof/Laws/Cells.lean: the laws of the cores' SRAM: the canonical form through every way it changes, a read after a write, and writes elsewhere.
-/
namespace Sys2Proof.Machine

theorem cellsWfFrom_cons {lo b : Nat} {w : Byte} {r : List Host.Cell} :
    cellsWfFrom lo ((b, w) :: r) = true ↔ lo ≤ b ∧ w ≠ 0 ∧ cellsWfFrom (b + 1) r = true := by
  simp only [cellsWfFrom, Bool.and_eq_true, decide_eq_true_eq, and_assoc]

theorem cellsWfFrom_mono {lo hi : Nat} (h : lo ≤ hi) : ∀ {m : List Host.Cell}, cellsWfFrom hi m = true → cellsWfFrom lo m = true
  | [], _ => rfl
  | (_, _) :: _, hw => by
    rw [cellsWfFrom_cons] at hw ⊢
    exact ⟨by omega, hw.2⟩

/-- A byte stored keeps the canonical form. -/
theorem putCell_wf (a : Nat) (v : Byte) : ∀ (lo : Nat) (m : List Host.Cell), lo ≤ a → cellsWfFrom lo m = true → cellsWfFrom lo (putCell m a v) = true
  | lo, [], h, _ => by
    unfold putCell
    split
    · rfl
    · exact cellsWfFrom_cons.2 ⟨h, ‹_›, rfl⟩
  | lo, (b, w) :: r, h, hw => by
    obtain ⟨h1, h2, h3⟩ := cellsWfFrom_cons.1 hw
    unfold putCell
    split
    · split
      · exact cellsWfFrom_mono (by omega) h3
      · rename_i hb hv; subst hb; exact cellsWfFrom_cons.2 ⟨h, hv, h3⟩
    · split
      · split
        · exact hw
        · exact cellsWfFrom_cons.2 ⟨h, ‹_›, cellsWfFrom_cons.2 ⟨by omega, h2, h3⟩⟩
      · exact cellsWfFrom_cons.2 ⟨h1, h2, putCell_wf a v (b + 1) r (by omega) h3⟩

/-- Bytes stored one after the other keep the canonical form. -/
theorem putCells_wf : ∀ (bs : Bytes) (m : List Host.Cell) (a : Nat), cellsWf m = true → cellsWf (putCells m a bs) = true
  | [], _, _, h => h
  | v :: r, m, a, h => putCells_wf r (putCell m a v) (a + 1) (putCell_wf a v 0 m (Nat.zero_le _) h)

/-- Bytes that a reset takes away leave the canonical form. -/
theorem filterCells_wf (p : Host.Cell → Bool) : ∀ (lo : Nat) (m : List Host.Cell), cellsWfFrom lo m = true → cellsWfFrom lo (m.filter p) = true
  | _, [], _ => rfl
  | lo, (b, w) :: r, hw => by
    obtain ⟨h1, h2, h3⟩ := cellsWfFrom_cons.1 hw
    have ih := filterCells_wf p (b + 1) r h3
    rw [List.filter_cons]
    split
    · exact cellsWfFrom_cons.2 ⟨h1, h2, ih⟩
    · exact cellsWfFrom_mono (by omega) ih

/-- Two canonical lists, the second of which begins above the first, are one. -/
theorem appendCells_wf {n : List Host.Cell} {hi : Nat} (hn : cellsWfFrom hi n = true) : ∀ (lo : Nat) (m : List Host.Cell), lo ≤ hi → cellsWfFrom lo m = true →
    (∀ c ∈ m, c.1 < hi) → cellsWfFrom lo (m ++ n) = true
  | _, [], hl, _, _ => cellsWfFrom_mono hl hn
  | _, (b, _) :: r, _, hw, hb => by
    obtain ⟨h1, h2, h3⟩ := cellsWfFrom_cons.1 hw
    have h4 : b < hi := hb (b, _) (List.mem_cons_self ..)
    exact cellsWfFrom_cons.2 ⟨h1, h2, appendCells_wf hn (b + 1) r (by omega) h3 (fun c hc => hb c (List.mem_cons_of_mem _ hc))⟩

/-- Bytes with their addresses, the zero bytes left out, have the canonical form. -/
theorem imageCells_wf (base : Nat) : ∀ (img : Bytes) (k : Nat),
    cellsWfFrom (base + k) (((((List.range' k img.length).zip img).filter (fun x => x.2 != 0)).map (fun x => (base + x.1, x.2)))) = true
  | [], _ => rfl
  | v :: r, k => by
    have ih := imageCells_wf base r (k + 1)
    simp only [List.length_cons, List.range'_succ, List.zip_cons_cons, List.filter_cons]
    split
    · rename_i hv
      exact cellsWfFrom_cons.2 ⟨Nat.le_refl _, by simpa using hv, by simpa [Nat.add_assoc] using ih⟩
    · exact cellsWfFrom_mono (by omega) ih

/-- An extension's load keeps the canonical form. -/
theorem loadExt_cellsWf (s : State) (img : Bytes) (h : cellsWf s.access.sram = true) : cellsWf (s.loadExt img).access.sram = true := by
  have hi := imageCells_wf 0x11020000 img 0
  rw [← List.range_eq_range'] at hi
  have above : ∀ (lo : Nat) (m : List Host.Cell), cellsWfFrom lo m = true →
      cellsWfFrom (0x11020000 + img.length) (m.filter (fun c => decide (0x11020000 + img.length ≤ c.1))) = true := by
    intro lo m
    induction m generalizing lo with
    | nil => intro _; rfl
    | cons c r ih =>
      obtain ⟨b, w⟩ := c
      intro hw
      obtain ⟨_, h2, h3⟩ := cellsWfFrom_cons.1 hw
      rw [List.filter_cons]
      split
      · rename_i hb
        exact cellsWfFrom_cons.2 ⟨by simpa using hb, h2, filterCells_wf _ _ _ h3⟩
      · exact ih (b + 1) h3
  have mid := appendCells_wf (above 0 _ h) _ _ (by omega) hi (by
    intro c hc
    simp only [List.mem_map, List.mem_filter] at hc
    obtain ⟨x, ⟨hx, -⟩, rfl⟩ := hc
    have := List.mem_range.1 (List.of_mem_zip hx).1
    show 0x11020000 + x.1 < _
    omega)
  show cellsWfFrom 0 ((_ ++ _) ++ _) = true
  rw [List.append_assoc]
  refine appendCells_wf mid 0 _ (Nat.zero_le _) (filterCells_wf _ _ _ h) ?_
  intro c hc
  simpa using (List.mem_filter.1 hc).2

/-- The cores' SRAM after reset has the canonical form. -/
theorem reset_cellsWf : cellsWf State.reset.access.sram = true := rfl

theorem cellAt_cons_self (a : Nat) (v : Byte) (r : List Host.Cell) : cellAt ((a, v) :: r) a = v := by simp [cellAt]

theorem cellAt_cons_other {a b : Nat} (h : a ≠ b) (v : Byte) (r : List Host.Cell) : cellAt ((b, v) :: r) a = cellAt r a := by
  have : (a == b) = false := by simpa using h
  simp [cellAt, List.lookup, this]

/-- What stands below the first address of a canonical list reads as zero. -/
theorem cellAt_below {a : Nat} : ∀ {lo : Nat} {m : List Host.Cell}, a < lo → cellsWfFrom lo m = true → cellAt m a = 0
  | _, [], _, _ => rfl
  | _, (b, _) :: r, h, hw => by
    obtain ⟨h1, -, h3⟩ := cellsWfFrom_cons.1 hw
    rw [cellAt_cons_other (by omega)]
    exact cellAt_below (by omega) h3

/-- A byte stored reads back. -/
theorem cellAt_putCell_self (a : Nat) (v : Byte) : ∀ (lo : Nat) (m : List Host.Cell), cellsWfFrom lo m = true → cellAt (putCell m a v) a = v
  | _, [], _ => by
    unfold putCell
    split
    · rename_i h; rw [h]; rfl
    · exact cellAt_cons_self ..
  | _, (b, _) :: r, hw => by
    obtain ⟨-, h2, h3⟩ := cellsWfFrom_cons.1 hw
    unfold putCell
    split
    · split
      · rename_i hb hv; rw [hv]; exact cellAt_below (by omega) h3
      · exact cellAt_cons_self ..
    · split
      · split
        · rename_i hv; rw [hv]
          exact cellAt_below (lo := b) (by omega) (cellsWfFrom_cons.2 ⟨Nat.le_refl _, h2, h3⟩)
        · exact cellAt_cons_self ..
      · rw [cellAt_cons_other (by omega)]
        exact cellAt_putCell_self a v (b + 1) r h3

/-- Every other byte stays. -/
theorem cellAt_putCell_other {a c : Nat} (v : Byte) (h : c ≠ a) : ∀ m : List Host.Cell, cellAt (putCell m a v) c = cellAt m c
  | [] => by
    unfold putCell
    split
    · rfl
    · exact cellAt_cons_other h ..
  | (b, w) :: r => by
    unfold putCell
    split
    · rename_i hb; subst hb
      split
      · exact (cellAt_cons_other h ..).symm
      · rw [cellAt_cons_other h, cellAt_cons_other h]
    · split
      · split
        · rfl
        · exact cellAt_cons_other h ..
      · by_cases hcb : c = b
        · subst hcb; rw [cellAt_cons_self, cellAt_cons_self]
        · rw [cellAt_cons_other hcb, cellAt_cons_other hcb]
          exact cellAt_putCell_other v h r

end Sys2Proof.Machine
end

