-- ==== Sys2Proof/Laws/Regs.lean ====
section
/-!
SUPPORT. Sys2Proof/Laws/Regs.lean: the laws of the register file: a read after a write, writes elsewhere, and the canonical form.
-/
namespace Sys2Proof.Machine
open Sys2Proof

/-! ### The canonical form -/

theorem RegFile.wfFrom_mono {lo hi : Nat} (h : lo ≤ hi) : ∀ f : RegFile, RegFile.wfFrom hi f = true → RegFile.wfFrom lo f = true
  | [], _ => rfl
  | (a, w) :: r, hf => by
    simp only [RegFile.wfFrom, Bool.and_eq_true, decide_eq_true_eq] at hf ⊢
    exact ⟨⟨by omega, hf.1.2⟩, hf.2⟩

theorem RegFile.put_wfFrom (k : Nat) (v : BitVec 32) :
    ∀ (f : RegFile) (lo : Nat), lo ≤ k → RegFile.wfFrom lo f = true → RegFile.wfFrom lo (f.put k v) = true
  | [], lo, hlo, _ => by
    by_cases hv : v = keyReset k <;> simp [RegFile.put, RegFile.wfFrom, hv, hlo]
  | (a, w) :: r, lo, hlo, hf => by
    simp only [RegFile.wfFrom, Bool.and_eq_true, decide_eq_true_eq] at hf
    obtain ⟨⟨hla, hw⟩, hr⟩ := hf
    unfold RegFile.put
    by_cases hak : a = k
    · subst hak
      by_cases hv : v = keyReset a
      · simpa [hv] using RegFile.wfFrom_mono (by omega) r hr
      · simpa [hv, RegFile.wfFrom, hla] using hr
    · by_cases hk : k < a
      · by_cases hv : v = keyReset k
        · simp [hak, hk, hv, RegFile.wfFrom, hla, hw, hr]
        · simp [hak, hk, hv, RegFile.wfFrom, hlo, hw, hr]
      · have := RegFile.put_wfFrom k v r (a + 1) (by omega) hr
        simp [hak, hk, RegFile.wfFrom, hla, hw, this]

/-- A write keeps the canonical form. -/
theorem RegFile.put_wf (f : RegFile) (k : Nat) (v : BitVec 32) (h : f.wf = true) : (f.put k v).wf = true :=
  RegFile.put_wfFrom k v f 0 (Nat.zero_le k) h

theorem RegFile.filter_wfFrom (p : Nat × BitVec 32 → Bool) :
    ∀ (f : RegFile) (lo : Nat), RegFile.wfFrom lo f = true → RegFile.wfFrom lo (List.filter p f) = true
  | [], _, _ => rfl
  | (a, w) :: r, lo, hf => by
    simp only [RegFile.wfFrom, Bool.and_eq_true, decide_eq_true_eq] at hf
    have ih := RegFile.filter_wfFrom p r (a + 1) hf.2
    by_cases hp : p (a, w) = true
    · simp [List.filter, hp, RegFile.wfFrom, hf.1.1, hf.1.2, ih]
    · simp only [List.filter, hp]
      exact RegFile.wfFrom_mono (by omega) _ ih

/-- A reset of domains keeps the canonical form. -/
theorem RegFile.clear_wf (f : RegFile) (c k : Nat → Bool) (h : f.wf = true) : (f.clear c k).wf = true :=
  RegFile.filter_wfFrom _ f 0 h

/-! ### Read after write -/

theorem RegFile.find_below {lo k : Nat} (hk : k < lo) : ∀ f : RegFile, RegFile.wfFrom lo f = true → f.find k = keyReset k
  | [], _ => rfl
  | (a, w) :: r, hf => by
    simp only [RegFile.wfFrom, Bool.and_eq_true, decide_eq_true_eq] at hf
    have : ¬ a = k := by omega
    have h2 : k < a := by omega
    simp [RegFile.find, this, h2]

theorem RegFile.find_put_sameFrom (k : Nat) (v : BitVec 32) :
    ∀ (f : RegFile) (lo : Nat), RegFile.wfFrom lo f = true → (f.put k v).find k = v
  | [], _, _ => by
    by_cases hv : v = keyReset k <;> simp [RegFile.put, RegFile.find, hv]
  | (a, w) :: r, lo, hf => by
    simp only [RegFile.wfFrom, Bool.and_eq_true, decide_eq_true_eq] at hf
    unfold RegFile.put
    by_cases hak : a = k
    · subst hak
      by_cases hv : v = keyReset a
      · simpa [hv] using RegFile.find_below (Nat.lt_succ_self a) r hf.2
      · simp [hv, RegFile.find]
    · by_cases hk : k < a
      · by_cases hv : v = keyReset k
        · simp [hak, hk, hv, RegFile.find]
        · simp [hak, hk, hv, RegFile.find]
      · simpa [hak, hk, RegFile.find] using RegFile.find_put_sameFrom k v r (a + 1) hf.2

/-- A read after a write of the same address gives the value written. -/
theorem RegFile.find_put_same (f : RegFile) (k : Nat) (v : BitVec 32) (h : f.wf = true) : (f.put k v).find k = v :=
  RegFile.find_put_sameFrom k v f 0 h

theorem RegFile.find_put_otherFrom (k j : Nat) (hjk : j ≠ k) (v : BitVec 32) :
    ∀ (f : RegFile) (lo : Nat), RegFile.wfFrom lo f = true → (f.put k v).find j = f.find j
  | [], _, _ => by
    by_cases hv : v = keyReset k
    · simp [RegFile.put, RegFile.find, hv]
    · by_cases hlt : j < k <;> simp [RegFile.put, RegFile.find, hv, hjk.symm, hlt]
  | (a, w) :: r, lo, hf => by
    simp only [RegFile.wfFrom, Bool.and_eq_true, decide_eq_true_eq] at hf
    unfold RegFile.put
    by_cases hak : a = k
    · subst hak
      by_cases hv : v = keyReset a
      · by_cases hlt : j < a
        · simpa [hv, RegFile.find, hjk.symm, hlt] using RegFile.find_below (Nat.lt_succ_of_lt hlt) r hf.2
        · simp [hv, RegFile.find, hjk.symm, hlt]
      · simp [hv, RegFile.find, hjk.symm]
    · by_cases hk : k < a
      · by_cases hv : v = keyReset k
        · simp [hak, hk, hv]
        · by_cases hlt : j < k
          · have h1 : ¬ a = j := by omega
            have h2 : j < a := by omega
            simp [hak, hk, hv, RegFile.find, hjk.symm, hlt, h1, h2]
          · simp [hak, hk, hv, RegFile.find, hjk.symm, hlt]
      · by_cases haj : a = j
        · rw [if_neg hak, if_neg hk]
          simp [RegFile.find, haj]
        · by_cases hlt : j < a
          · simp [hak, hk, RegFile.find, haj, hlt]
          · simpa [hak, hk, RegFile.find, haj, hlt] using RegFile.find_put_otherFrom k j hjk v r (a + 1) hf.2

/-- A write leaves every other address as it was. -/
theorem RegFile.find_put_other (f : RegFile) (k j : Nat) (v : BitVec 32) (hjk : j ≠ k) (h : f.wf = true) :
    (f.put k v).find j = f.find j :=
  RegFile.find_put_otherFrom k j hjk v f 0 h

/-! ### Fields of a word -/

theorem Fld.testBit_of (f : Fld) (w : BitVec 32) (i : Nat) :
    (f.of w).testBit i = (decide (i < f.width) && w.getLsbD (f.lsb + i)) := by
  simp [Fld.of, Nat.testBit_mod_two_pow, Nat.testBit_shiftRight, BitVec.testBit_toNat]

theorem Fld.getLsbD_mask (f : Fld) (i : Nat) :
    f.mask.getLsbD i = (decide (i < 32) && decide (f.lsb ≤ i) && decide (i - f.lsb < f.width)) := by
  simp only [Fld.mask, BitVec.getLsbD_shiftLeft, BitVec.getLsbD_ofNat, Nat.testBit_two_pow_sub_one]
  by_cases h1 : i < 32 <;> by_cases h2 : f.lsb ≤ i <;> simp [h1, h2]
  have h3 : ¬ i < f.lsb := by omega
  have h4 : i - f.lsb < 32 := by omega
  simp [h3, h4]

theorem Fld.getLsbD_into (f : Fld) (w : BitVec 32) (v i : Nat) (hi : i < 32) :
    (f.into w v).getLsbD i =
      (if f.lsb ≤ i ∧ i - f.lsb < f.width then v.testBit (i - f.lsb) else w.getLsbD i) := by
  have hs : i - f.lsb < 32 := by omega
  simp only [Fld.into, BitVec.getLsbD_or, BitVec.getLsbD_and, BitVec.getLsbD_not, Fld.getLsbD_mask, BitVec.getLsbD_shiftLeft,
    BitVec.getLsbD_ofNat, hi, hs, decide_true, Bool.true_and]
  by_cases h1 : f.lsb ≤ i
  · have h3 : ¬ i < f.lsb := by omega
    by_cases h2 : i - f.lsb < f.width <;> simp [h1, h2, h3]
  · have h3 : i < f.lsb := by omega
    simp [h1, h3]

/-- A field reads back what was written into it, cut to its width. -/
theorem Fld.of_into_same (f : Fld) (w : BitVec 32) (v : Nat) (hf : f.lsb + f.width ≤ 32) : f.of (f.into w v) = v % 2 ^ f.width := by
  apply Nat.eq_of_testBit_eq
  intro i
  rw [Fld.testBit_of, Nat.testBit_mod_two_pow]
  by_cases hi : i < f.width
  · rw [Fld.getLsbD_into f w v (f.lsb + i) (by omega)]
    simp [hi]
  · simp [hi]

/-- A field keeps its value when a field that shares no bit with it is written. -/
theorem Fld.of_into_other (f g : Fld) (w : BitVec 32) (v : Nat) (h : f.lsb + f.width ≤ g.lsb ∨ g.lsb + g.width ≤ f.lsb)
    (hf : f.lsb + f.width ≤ 32) : f.of (g.into w v) = f.of w := by
  apply Nat.eq_of_testBit_eq
  intro i
  rw [Fld.testBit_of, Fld.testBit_of]
  by_cases hi : i < f.width
  · rw [Fld.getLsbD_into g w v (f.lsb + i) (by omega)]
    have : ¬ (g.lsb ≤ f.lsb + i ∧ f.lsb + i - g.lsb < g.width) := by omega
    simp [this]
  · simp [hi]

/-! ### Registers of a state -/

theorem State.word_setWord_same (s : State) (a : Nat) (v : BitVec 32) (h : s.regs.wf = true) : (s.setWord a v).word a = v :=
  RegFile.find_put_same s.regs a v h

theorem State.word_setWord_other (s : State) (a b : Nat) (v : BitVec 32) (hab : b ≠ a) (h : s.regs.wf = true) :
    (s.setWord a v).word b = s.word b :=
  RegFile.find_put_other s.regs a b v hab h

/-- A register elsewhere keeps its word when a field is written. -/
theorem State.word_set_other (s : State) (f : Fld) (v b : Nat) (hb : b ≠ f.addr) (h : s.regs.wf = true) :
    (s.set f v).word b = s.word b :=
  State.word_setWord_other s f.addr b _ hb h

/-- A field reads back what hardware wrote into it. -/
theorem State.get_set_same (s : State) (f : Fld) (v : Nat) (hf : f.lsb + f.width ≤ 32) (h : s.regs.wf = true) :
    (s.set f v).get f = v % 2 ^ f.width := by
  unfold State.get State.set
  rw [State.word_setWord_same s f.addr _ h, Fld.of_into_same f _ v hf]

/-- A field of another register, or one that shares no bit, keeps its value. -/
theorem State.get_set_other (s : State) (f g : Fld) (v : Nat)
    (h : f.addr ≠ g.addr ∨ f.lsb + f.width ≤ g.lsb ∨ g.lsb + g.width ≤ f.lsb) (hf : f.lsb + f.width ≤ 32) (hw : s.regs.wf = true) :
    (s.set g v).get f = s.get f := by
  unfold State.get State.set
  by_cases ha : f.addr = g.addr
  · rw [ha, State.word_setWord_same s g.addr _ hw]
    exact Fld.of_into_other f g _ v (h.resolve_left (fun hn => hn ha)) hf
  · rw [State.word_setWord_other s g.addr f.addr _ ha hw]

theorem State.setWord_wf (s : State) (a : Nat) (v : BitVec 32) (h : s.regs.wf = true) : (s.setWord a v).regs.wf = true :=
  RegFile.put_wf s.regs a v h

theorem State.set_wf (s : State) (f : Fld) (v : Nat) (h : s.regs.wf = true) : (s.set f v).regs.wf = true :=
  State.setWord_wf s f.addr _ h

end Sys2Proof.Machine
end

