-- ==== Sys2Proof/Laws/Held1.lean ====
section
/-!
SUPPORT. Sys2Proof/Laws/Held1.lean: the canonical form of the register file, and the waiting commands, through every function that gives a state. `Held pq r p`
says that the register file `r` is canonical and that the waiting commands `p` are `pq`; `f_held` says that `f` keeps it, and `held_execX` that
the meaning `execX` does. A proof cites these and unfolds nothing.
-/
namespace Sys2Proof.Machine
open Sys2Proof

/-- The register file is canonical and the waiting commands are `pq`. -/
def Held (pq : List Instr) (r : RegFile) (p : List Instr) : Prop := r.wf = true ∧ p = pq
variable {pq : List Instr}
theorem Held.clear {r : RegFile} {p : List Instr} (c k : Nat → Bool) (h : Held pq r p) : Held pq (r.clear c k) p := ⟨RegFile.clear_wf r c k h.1, h.2⟩
theorem Held.nil {r : RegFile} {p : List Instr} (h : Held pq r p) : Held pq [] p := ⟨rfl, h.2⟩
theorem Held.mix {r1 r2 : RegFile} {p1 p2 : List Instr} (h1 : Held pq r1 p1) (h2 : Held pq r2 p2) : Held pq r1 p2 := ⟨h1.1, h2.2⟩
theorem State.setWord_held (s : State) (a : Nat) (w : BitVec 32) (h : Held pq s.regs s.pending) : Held pq (s.setWord a w).regs (s.setWord a w).pending :=
  ⟨State.setWord_wf s a w h.1, h.2⟩
theorem State.set_held (s : State) (f : Fld) (v : Nat) (h : Held pq s.regs s.pending) : Held pq (s.set f v).regs (s.set f v).pending :=
  ⟨State.set_wf s f v h.1, h.2⟩
theorem foldl_held {α : Type} (f : State → α → State) (h : ∀ t a, Held pq t.regs t.pending → Held pq (f t a).regs (f t a).pending) (l : List α) (s : State)
    (hs : Held pq s.regs s.pending) : Held pq (l.foldl f s).regs (l.foldl f s).pending := by
  induction l generalizing s with
  | nil => exact hs
  | cons a l ih => exact ih (f s a) (h s a hs)
theorem foldl_fst_held {α β : Type} (f : State × β → α → State × β) (h : ∀ t a, Held pq t.1.regs t.1.pending → Held pq (f t a).1.regs (f t a).1.pending) (l : List α)
    (s : State × β) (hs : Held pq s.1.regs s.1.pending) : Held pq (l.foldl f s).1.regs (l.foldl f s).1.pending := by
  induction l generalizing s with
  | nil => exact hs
  | cons a l ih => exact ih (f s a) (h s a hs)
theorem fst_held {β : Type} {p : State × β} {a : State} {b : β} (e : p = (a, b)) (h : Held pq p.1.regs p.1.pending) : Held pq a.regs a.pending := by
  subst e; exact h
/-- The state that an outcome leaves: its next state, and none otherwise. -/
structure Keeps pq (o : Host.Outcome State Fault Refusal) : Prop where
  wf : ∀ t, o = .next t → Held pq t.regs t.pending
theorem keeps_next {t : State} (h : Held pq t.regs t.pending) : Keeps pq (.next t) := by
  constructor; intro u hu; cases hu; exact h
theorem ite_held {c : Prop} {h : Decidable c} {a b : State} (ha : Held pq a.regs a.pending) (hb : Held pq b.regs b.pending) :
    Held pq (if c then a else b).regs (if c then a else b).pending := by
  split
  · exact ha
  · exact hb
theorem ite_fst_held {β : Type} {c : Prop} {h : Decidable c} {a b : State × β} (ha : Held pq a.1.regs a.1.pending) (hb : Held pq b.1.regs b.1.pending) :
    Held pq (if c then a else b).1.regs (if c then a else b).1.pending := by
  split
  · exact ha
  · exact hb
theorem ite_keeps {c : Prop} {h : Decidable c} {a b : Host.Outcome State Fault Refusal} (ha : Keeps pq a) (hb : Keeps pq b) :
    Keeps pq (if c then a else b) := by
  split
  · exact ha
  · exact hb
theorem some_held {o : Option State} {t : State} (h : ∀ u, o = some u → Held pq u.regs u.pending) (e : o = some t) : Held pq t.regs t.pending := h t e
theorem Held.lost {s : State} (h : Held pq s.regs s.pending) (hl : Held pq s.lostCore.regs s.lostCore.pending) :
    Held pq s.regs s.lostCore.pending := Held.mix h hl
theorem getD_held {o : Option State} {s : State} (h : ∀ u, o = some u → Held pq u.regs u.pending) (hs : Held pq s.regs s.pending) :
    Held pq (o.getD s).regs (o.getD s).pending := by
  cases o with
  | none => exact hs
  | some u => exact h u rfl
theorem map_held {α : Type} {f : α → State} {o : Option α} (h : ∀ a, Held pq (f a).regs (f a).pending) :
    ∀ u, o.map f = some u → Held pq u.regs u.pending := by
  intro u hu
  cases o with
  | none => cases hu
  | some a => cases hu; exact h a
theorem bind_held {o : Option State} {f : State → Option State} (ho : ∀ u, o = some u → Held pq u.regs u.pending)
    (hf : ∀ t, Held pq t.regs t.pending → ∀ u, f t = some u → Held pq u.regs u.pending) : ∀ u, o.bind f = some u → Held pq u.regs u.pending := by
  intro u hu
  cases o with
  | none => cases hu
  | some a => exact hf a (ho a rfl) u hu
theorem ite_opt_held {c : Prop} {h : Decidable c} {a b : Option State} (ha : ∀ u, a = some u → Held pq u.regs u.pending)
    (hb : ∀ u, b = some u → Held pq u.regs u.pending) : ∀ u, (if c then a else b) = some u → Held pq u.regs u.pending := by
  split
  · exact ha
  · exact hb
theorem some_fst_held {β : Type} {o : Option (State × β)} {t : State} {b : β} (h : ∀ u, o = some u → Held pq u.1.regs u.1.pending)
    (e : o = some (t, b)) : Held pq t.regs t.pending := h (t, b) e
theorem State.clkTo_held (s : State) (us : Nat) (hw0 : Held pq s.regs s.pending) : Held pq (State.clkTo s us).regs (State.clkTo s us).pending := by
  unfold State.clkTo
  exact hw0
theorem State.count_held (s : State) (f : Fld) (n : Nat) (hw0 : Held pq s.regs s.pending) : Held pq (State.count s f n).regs (State.count s f n).pending := by
  unfold State.count
  repeat' first
    | with_reducible assumption | with_reducible refine State.set_held _ _ _ ?_
theorem State.setOn_held (s : State) (core : Nat) (f : Fld) (v : Nat) (hw0 : Held pq s.regs s.pending) : Held pq (State.setOn s core f v).regs (State.setOn s core f v).pending := by
  unfold State.setOn
  repeat' first
    | with_reducible assumption | with_reducible refine State.setWord_held _ _ _ ?_
theorem State.setFlag_held (s : State) (f : Fld) (b : Bool) (hw0 : Held pq s.regs s.pending) : Held pq (State.setFlag s f b).regs (State.setFlag s f b).pending := by
  unfold State.setFlag
  repeat' first
    | with_reducible assumption | with_reducible refine State.set_held _ _ _ ?_
theorem State.keep_held (s : State) (f : Fld) (v : Nat) (hw0 : Held pq s.regs s.pending) : Held pq (State.keep s f v).regs (State.keep s f v).pending := by
  unfold State.keep
  repeat' first
    | with_reducible assumption | with_reducible refine State.set_held _ _ _ ?_
theorem State.cross_held (s : State) (p : Nat) (n : Nat) (hw0 : Held pq s.regs s.pending) : Held pq (State.cross s p n).regs (State.cross s p n).pending := by
  unfold State.cross
  exact hw0
theorem State.useFree_held (s : State) (hw0 : Held pq s.regs s.pending) : Held pq (State.useFree s).regs (State.useFree s).pending := by
  unfold State.useFree
  exact hw0
theorem State.setSat_held (s : State) (f : Fld) (v : Nat) (hw0 : Held pq s.regs s.pending) : Held pq (State.setSat s f v).regs (State.setSat s f v).pending := by
  unfold State.setSat
  repeat' first
    | with_reducible assumption | with_reducible refine State.set_held _ _ _ ?_
theorem State.seamOut_held (s : State) (p : Nat) (o : SeamOut) (hw0 : Held pq s.regs s.pending) : Held pq (State.seamOut s p o).regs (State.seamOut s p o).pending := by
  unfold State.seamOut
  exact hw0
theorem State.setHop_held (s : State) (p : Nat) (h : Hop) (hw0 : Held pq s.regs s.pending) : Held pq (State.setHop s p h).regs (State.setHop s p h).pending := by
  unfold State.setHop
  repeat' first
    | with_reducible assumption | with_reducible refine fst_held (by assumption) ?_ | with_reducible refine ite_held ?_ ?_
theorem State.pumpHop_held (s : State) (p : Nat) (fuelN : Nat) (hw0 : Held pq s.regs s.pending) : Held pq (State.pumpHop s p fuelN).regs (State.pumpHop s p fuelN).pending := by
  induction fuelN generalizing s p with
  | zero =>
    unfold State.pumpHop
    exact hw0
  | succ n ih =>
    unfold State.pumpHop
    repeat' first
      | with_reducible assumption | with_reducible refine State.seamOut_held _ _ _ ?_ | with_reducible refine State.setHop_held _ _ _ ?_
      | with_reducible refine ih _ _ ?_ | with_reducible refine fst_held (by assumption) ?_ | with_reducible refine ite_held ?_ ?_
      | with_reducible refine ite_fst_held ?_ ?_ | split
theorem State.ringPut_held (s : State) (p : Nat) (fwd : Bool) (f : RFrame) (hw0 : Held pq s.regs s.pending) : Held pq (State.ringPut s p fwd f).regs (State.ringPut s p fwd f).pending := by
  unfold State.ringPut
  repeat' first
    | with_reducible assumption | with_reducible refine State.pumpHop_held _ _ _ ?_ | with_reducible refine State.setHop_held _ _ _ ?_
theorem State.ringOwn_held (s : State) (p : Nat) (cls : Nat) (sub : Nat) (dst : Nat) (rseq : Nat) (area : Bytes) (payload : Bytes) (hw0 : Held pq s.regs s.pending) : Held pq (State.ringOwn s p cls sub dst rseq area payload).regs (State.ringOwn s p cls sub dst rseq area payload).pending := by
  unfold State.ringOwn
  repeat' first
    | with_reducible assumption | with_reducible refine State.ringPut_held _ _ _ _ ?_
theorem State.twinPump_held (s : State) (fuelN : Nat) (hw0 : Held pq s.regs s.pending) : Held pq (State.twinPump s fuelN).regs (State.twinPump s fuelN).pending := by
  induction fuelN generalizing s with
  | zero =>
    unfold State.twinPump
    exact hw0
  | succ n ih =>
    unfold State.twinPump
    repeat' first
      | with_reducible assumption | with_reducible refine State.cross_held _ _ _ ?_ | with_reducible refine State.ringOwn_held _ _ _ _ _ _ _ _ ?_
      | with_reducible refine ih _ ?_ | with_reducible refine fst_held (by assumption) ?_ | with_reducible refine ite_held ?_ ?_
      | with_reducible refine ite_fst_held ?_ ?_ | split
theorem State.twinGo_held (s : State) (hw0 : Held pq s.regs s.pending) : Held pq (State.twinGo s).regs (State.twinGo s).pending := by
  unfold State.twinGo
  repeat' first
    | with_reducible assumption | with_reducible refine State.twinPump_held _ _ ?_
theorem State.mirror_held (s : State) (w : TwinWhat) (hw0 : Held pq s.regs s.pending) : Held pq (State.mirror s w).regs (State.mirror s w).pending := by
  unfold State.mirror
  repeat' first
    | with_reducible assumption | with_reducible refine State.twinGo_held _ ?_ | with_reducible refine fst_held (by assumption) ?_
    | with_reducible refine ite_held ?_ ?_
theorem State.setPhase_held (s : State) (p : Nat) (ph : HopPhase) (hw0 : Held pq s.regs s.pending) : Held pq (State.setPhase s p ph).regs (State.setPhase s p ph).pending := by
  unfold State.setPhase
  repeat' first
    | with_reducible assumption | with_reducible refine State.set_held _ _ _ ?_ | with_reducible refine State.setHop_held _ _ _ ?_
theorem State.takeRseq_held (s : State) (cls : Nat) (hw0 : Held pq s.regs s.pending) : Held pq (State.takeRseq s cls).1.regs (State.takeRseq s cls).1.pending := by
  unfold State.takeRseq
  exact hw0
theorem State.ringSend_held (s : State) (cls : Nat) (sub : Nat) (dst : Nat) (area : Bytes) (payload : Bytes) (hw0 : Held pq s.regs s.pending) : Held pq (State.ringSend s cls sub dst area payload).regs (State.ringSend s cls sub dst area payload).pending := by
  unfold State.ringSend
  repeat' first
    | with_reducible assumption | with_reducible refine State.ringOwn_held _ _ _ _ _ _ _ _ ?_ | with_reducible refine State.takeRseq_held _ _ ?_
    | with_reducible refine fst_held (by assumption) ?_ | with_reducible refine ite_held ?_ ?_
theorem State.twinReply_held (s : State) (w : TwinWhat) (hw0 : Held pq s.regs s.pending) : Held pq (State.twinReply s w).regs (State.twinReply s w).pending := by
  unfold State.twinReply
  repeat' first
    | with_reducible assumption | with_reducible refine State.ringSend_held _ _ _ _ _ _ ?_
theorem State.showTwin_held (s : State) (st : Nat) (hw0 : Held pq s.regs s.pending) : Held pq (State.showTwin s st).regs (State.showTwin s st).pending := by
  unfold State.showTwin
  repeat' first
    | with_reducible assumption | with_reducible refine State.set_held _ _ _ ?_ | with_reducible refine State.setFlag_held _ _ _ ?_
    | with_reducible refine fst_held (by assumption) ?_ | split | dsimp only
theorem State.mirrorLine_held (s : State) (l : String) (hw0 : Held pq s.regs s.pending) : Held pq (State.mirrorLine s l).regs (State.mirrorLine s l).pending := by
  unfold State.mirrorLine
  repeat' first
    | with_reducible assumption | with_reducible refine State.mirror_held _ _ ?_
theorem State.unlock_held (s : State) (p : Path) (hw0 : Held pq s.regs s.pending) : Held pq (State.unlock s p).regs (State.unlock s p).pending := by
  unfold State.unlock
  repeat' first
    | with_reducible assumption | with_reducible refine fst_held (by assumption) ?_ | with_reducible refine ite_held ?_ ?_
theorem State.seamLine_held (s : State) (slot : Nat) (l : CardLine) (hw0 : Held pq s.regs s.pending) : Held pq (State.seamLine s slot l).regs (State.seamLine s slot l).pending := by
  unfold State.seamLine
  repeat' first
    | with_reducible assumption | with_reducible refine State.ringSend_held _ _ _ _ _ _ ?_ | with_reducible refine foldl_held _ ?_ _ _ ?_
    | with_reducible refine foldl_fst_held _ ?_ _ _ ?_ | with_reducible refine fst_held (by assumption) ?_ | with_reducible refine ite_held ?_ ?_
    | with_reducible refine ite_fst_held ?_ ?_ | split | dsimp only | intro _ _ _ _ | intro _ _ _
theorem State.mute_held (s : State) (p : Path) (hw0 : Held pq s.regs s.pending) : Held pq (State.mute s p).regs (State.mute s p).pending := by
  unfold State.mute
  repeat' first
    | with_reducible assumption | with_reducible refine fst_held (by assumption) ?_ | split
theorem State.setSession_held (s : State) (p : Path) (x : Session) (hw0 : Held pq s.regs s.pending) : Held pq (State.setSession s p x).regs (State.setSession s p x).pending := by
  unfold State.setSession
  repeat' first
    | with_reducible assumption | with_reducible refine fst_held (by assumption) ?_ | split
theorem State.notify_held (s : State) (ev : String) (kv : List KV) (hw0 : Held pq s.regs s.pending) : Held pq (State.notify s ev kv).regs (State.notify s ev kv).pending := by
  unfold State.notify
  repeat' first
    | with_reducible assumption | with_reducible refine State.setSession_held _ _ _ ?_ | with_reducible refine foldl_held _ ?_ _ _ ?_
    | with_reducible refine foldl_fst_held _ ?_ _ _ ?_ | with_reducible refine fst_held (by assumption) ?_ | split | dsimp only | intro _ _ _ _
    | intro _ _ _
theorem State.send_held (s : State) (p : Path) (l : CardLine) (hw0 : Held pq s.regs s.pending) : Held pq (State.send s p l).regs (State.send s p l).pending := by
  unfold State.send
  repeat' first
    | with_reducible assumption | with_reducible refine State.seamLine_held _ _ _ ?_ | with_reducible refine fst_held (by assumption) ?_
    | with_reducible refine ite_held ?_ ?_ | with_reducible refine ite_fst_held ?_ ?_ | split
theorem State.endJob_held (s : State) (n : Nat) (st : Status) (hw0 : Held pq s.regs s.pending) : Held pq (State.endJob s n st).regs (State.endJob s n st).pending := by
  unfold State.endJob
  repeat' first
    | with_reducible assumption | with_reducible refine State.notify_held _ _ _ ?_ | with_reducible refine State.unlock_held _ _ ?_
    | with_reducible refine fst_held (by assumption) ?_ | split
theorem State.endJobOf_held (s : State) (what : String) (st : Status) (hw0 : Held pq s.regs s.pending) : Held pq (State.endJobOf s what st).regs (State.endJobOf s what st).pending := by
  unfold State.endJobOf
  repeat' first
    | with_reducible assumption | with_reducible refine State.endJob_held _ _ _ ?_ | with_reducible refine fst_held (by assumption) ?_ | split
theorem State.ctsApply_held (s : State) (hw0 : Held pq s.regs s.pending) : Held pq (State.ctsApply s).regs (State.ctsApply s).pending := by
  unfold State.ctsApply
  repeat' first
    | with_reducible assumption | with_reducible refine State.setFlag_held _ _ _ ?_ | with_reducible refine fst_held (by assumption) ?_
    | with_reducible refine ite_held ?_ ?_ | with_reducible refine ite_fst_held ?_ ?_ | split
theorem State.ctsRelease_held (s : State) (hw0 : Held pq s.regs s.pending) : Held pq (State.ctsRelease s).regs (State.ctsRelease s).pending := by
  unfold State.ctsRelease
  repeat' first
    | with_reducible assumption | with_reducible refine State.ctsApply_held _ ?_ | with_reducible refine fst_held (by assumption) ?_
    | with_reducible refine ite_held ?_ ?_
theorem State.unmute_held (s : State) (w : AwaitFor) (hw0 : Held pq s.regs s.pending) : Held pq (State.unmute s w).regs (State.unmute s w).pending := by
  unfold State.unmute
  repeat' first
    | with_reducible assumption | with_reducible refine State.unlock_held _ _ ?_ | with_reducible refine foldl_held _ ?_ _ _ ?_
    | with_reducible refine foldl_fst_held _ ?_ _ _ ?_ | with_reducible refine fst_held (by assumption) ?_ | split | dsimp only | intro _ _ _ _
    | intro _ _ _
theorem State.prompt_held (s : State) (p : Path) (hw0 : Held pq s.regs s.pending) : Held pq (State.prompt s p).regs (State.prompt s p).pending := by
  unfold State.prompt
  repeat' first
    | with_reducible assumption | with_reducible refine State.ctsApply_held _ ?_ | with_reducible refine State.send_held _ _ _ ?_
    | with_reducible refine fst_held (by assumption) ?_ | with_reducible refine ite_held ?_ ?_
theorem State.reply_held (s : State) (p : Path) (r : Reply) (hw0 : Held pq s.regs s.pending) : Held pq (State.reply s p r).regs (State.reply s p r).pending := by
  unfold State.reply
  repeat' first
    | with_reducible assumption | with_reducible refine State.prompt_held _ _ ?_ | with_reducible refine State.send_held _ _ _ ?_
    | with_reducible refine State.setSession_held _ _ _ ?_
theorem State.cutOutput_held (s : State) (left : Nat) (hw0 : Held pq s.regs s.pending) : Held pq (State.cutOutput s left).regs (State.cutOutput s left).pending := by
  unfold State.cutOutput
  repeat' first
    | with_reducible assumption | with_reducible refine fst_held (by assumption) ?_ | with_reducible refine ite_held ?_ ?_
theorem State.startJob_held (s : State) (p : Path) (what : String) (w : optParam (Option AwaitFor) none) (hw0 : Held pq s.regs s.pending) : Held pq (State.startJob s p what w).regs (State.startJob s p what w).pending := by
  unfold State.startJob
  exact hw0
theorem State.notifyOn_held (s : State) (p : Path) (ev : String) (kv : List KV) (hw0 : Held pq s.regs s.pending) : Held pq (State.notifyOn s p ev kv).regs (State.notifyOn s p ev kv).pending := by
  unfold State.notifyOn
  repeat' first
    | with_reducible assumption | with_reducible refine State.setSession_held _ _ _ ?_
theorem State.endSession_held (s : State) (p : Path) (x : Session) (hw0 : Held pq s.regs s.pending) : Held pq (State.endSession s p x).regs (State.endSession s p x).pending := by
  unfold State.endSession
  repeat' first
    | with_reducible assumption | with_reducible refine State.setSession_held _ _ _ ?_
theorem State.accepted_held (s : State) (p : Path) (hw0 : Held pq s.regs s.pending) : Held pq (State.accepted s p).regs (State.accepted s p).pending := by
  unfold State.accepted
  exact hw0
theorem State.pmbus_held (s : State) (l : List PmbOp) (hw0 : Held pq s.regs s.pending) : Held pq (State.pmbus s l).regs (State.pmbus s l).pending := by
  unfold State.pmbus
  exact hw0
theorem State.vcoreTo_held (s : State) (l : Nat) (hw0 : Held pq s.regs s.pending) : Held pq (State.vcoreTo s l).regs (State.vcoreTo s l).pending := by
  unfold State.vcoreTo
  repeat' first
    | with_reducible assumption | with_reducible refine State.pmbus_held _ _ ?_ | with_reducible refine fst_held (by assumption) ?_
    | with_reducible refine ite_held ?_ ?_
theorem State.levelAsk_held (s : State) (l : Nat) (hw0 : Held pq s.regs s.pending) : Held pq (State.levelAsk s l).regs (State.levelAsk s l).pending := by
  unfold State.levelAsk
  repeat' first
    | with_reducible assumption | with_reducible refine State.vcoreTo_held _ _ ?_ | with_reducible refine fst_held (by assumption) ?_
    | with_reducible refine ite_held ?_ ?_
theorem State.undoEntry_held (s : State) (e : PEntry) (hw0 : Held pq s.regs s.pending) : Held pq (State.undoEntry s e).regs (State.undoEntry s e).pending := by
  unfold State.undoEntry
  repeat' first
    | with_reducible assumption | with_reducible refine State.set_held _ _ _ ?_ | with_reducible refine State.levelAsk_held _ _ ?_
    | with_reducible refine State.setFlag_held _ _ _ ?_ | with_reducible refine foldl_held _ ?_ _ _ ?_
    | with_reducible refine foldl_fst_held _ ?_ _ _ ?_ | with_reducible refine fst_held (by assumption) ?_ | split | dsimp only | intro _ _ _ _
    | intro _ _ _
theorem State.refuseEntry_held (s : State) (e : PEntry) (st : Status) (last : Nat) (name : String) (hw0 : Held pq s.regs s.pending) : Held pq (State.refuseEntry s e st last name).regs (State.refuseEntry s e st last name).pending := by
  unfold State.refuseEntry
  repeat' first
    | with_reducible assumption | with_reducible refine State.set_held _ _ _ ?_ | with_reducible refine State.count_held _ _ _ ?_
    | with_reducible refine State.notify_held _ _ _ ?_ | with_reducible refine State.undoEntry_held _ _ ?_
theorem State.recordWake_held (s : State) (src : Nat) (detail : Nat) (frm : Nat) (abort : Bool) (late : Bool) (hw0 : Held pq s.regs s.pending) : Held pq (State.recordWake s src detail frm abort late).regs (State.recordWake s src detail frm abort late).pending := by
  unfold State.recordWake
  repeat' first
    | with_reducible assumption | with_reducible refine State.set_held _ _ _ ?_ | with_reducible refine State.setFlag_held _ _ _ ?_
theorem State.wakeEvent_held (s : State) (src : Nat) (detail : Nat) (us : Nat) (hw0 : Held pq s.regs s.pending) : Held pq (State.wakeEvent s src detail us).regs (State.wakeEvent s src detail us).pending := by
  unfold State.wakeEvent
  repeat' first
    | with_reducible assumption | with_reducible refine State.clkTo_held _ _ ?_ | with_reducible refine State.count_held _ _ _ ?_
    | with_reducible refine State.recordWake_held _ _ _ _ _ _ ?_ | with_reducible refine State.refuseEntry_held _ _ _ _ _ ?_
    | with_reducible refine fst_held (by assumption) ?_ | with_reducible refine ite_held ?_ ?_ | with_reducible refine ite_fst_held ?_ ?_ | split
    | dsimp only
theorem State.wakeLine_held (s : State) (p : Path) (rx : FrameRx) (hw0 : Held pq s.regs s.pending) : Held pq (State.wakeLine s p rx).regs (State.wakeLine s p rx).pending := by
  unfold State.wakeLine
  repeat' first
    | with_reducible assumption | with_reducible refine State.wakeEvent_held _ _ _ _ ?_ | with_reducible refine fst_held (by assumption) ?_
    | with_reducible refine ite_held ?_ ?_ | with_reducible refine ite_fst_held ?_ ?_ | split
theorem State.romRegions_held (s : State) (core : Nat) (hw0 : Held pq s.regs s.pending) : Held pq (State.romRegions s core).regs (State.romRegions s core).pending := by
  unfold State.romRegions
  repeat' first
    | with_reducible assumption | with_reducible refine State.set_held _ _ _ ?_ | with_reducible refine State.setWord_held _ _ _ ?_
    | with_reducible refine foldl_held _ ?_ _ _ ?_ | with_reducible refine foldl_fst_held _ ?_ _ _ ?_
    | with_reducible refine fst_held (by assumption) ?_ | split | dsimp only | intro _ _ _ _ | intro _ _ _
theorem State.setLogOf_held (s : State) (b : Bool) (l : List LogBlk) (hw0 : Held pq s.regs s.pending) : Held pq (State.setLogOf s b l).regs (State.setLogOf s b l).pending := by
  unfold State.setLogOf
  exact hw0
theorem State.logWrite_held (s : State) (b : Bool) (r : LogRec) (hw0 : Held pq s.regs s.pending) : Held pq (State.logWrite s b r).regs (State.logWrite s b r).pending := by
  unfold State.logWrite
  repeat' first
    | with_reducible assumption | with_reducible refine State.setLogOf_held _ _ _ ?_ | with_reducible refine fst_held (by assumption) ?_
    | with_reducible refine ite_held ?_ ?_
theorem State.logBoth_held (s : State) (body : BootBody) (hw0 : Held pq s.regs s.pending) : Held pq (State.logBoth s body).regs (State.logBoth s body).pending := by
  unfold State.logBoth
  repeat' first
    | with_reducible assumption | with_reducible refine State.logWrite_held _ _ _ ?_
theorem State.countErase_held (s : State) (ch : Nat) (g : Nat) (i : Nat) (hw0 : Held pq s.regs s.pending) : Held pq (State.countErase s ch g i).regs (State.countErase s ch g i).pending := by
  unfold State.countErase
  exact hw0
theorem State.tidyLog_held (s : State) (b : Bool) (hw0 : Held pq s.regs s.pending) : Held pq (State.tidyLog s b).regs (State.tidyLog s b).pending := by
  unfold State.tidyLog
  repeat' first
    | with_reducible assumption | with_reducible refine State.countErase_held _ _ _ _ ?_ | with_reducible refine State.logBoth_held _ _ ?_
    | with_reducible refine State.setLogOf_held _ _ _ ?_ | with_reducible refine foldl_held _ ?_ _ _ ?_
    | with_reducible refine foldl_fst_held _ ?_ _ _ ?_ | with_reducible refine fst_held (by assumption) ?_ | with_reducible refine ite_held ?_ ?_
    | with_reducible refine ite_fst_held ?_ ?_ | split | dsimp only | intro _ _ _ _ | intro _ _ _
theorem State.bootRecord_held (s : State) (body : BootBody) (hw0 : Held pq s.regs s.pending) : Held pq (State.bootRecord s body).regs (State.bootRecord s body).pending := by
  unfold State.bootRecord
  repeat' first
    | with_reducible assumption | with_reducible refine State.logBoth_held _ _ ?_ | with_reducible refine State.notify_held _ _ _ ?_
    | with_reducible refine State.tidyLog_held _ _ ?_ | with_reducible refine fst_held (by assumption) ?_ | with_reducible refine ite_held ?_ ?_
theorem State.confRecord_held (s : State) (hw0 : Held pq s.regs s.pending) : Held pq (State.confRecord s).regs (State.confRecord s).pending := by
  unfold State.confRecord
  repeat' first
    | with_reducible assumption | with_reducible refine State.bootRecord_held _ _ ?_ | with_reducible refine fst_held (by assumption) ?_
    | with_reducible refine map_held ?_ | with_reducible refine bind_held ?_ ?_ | with_reducible refine some_held ?_ (by assumption)
    | with_reducible refine ite_held ?_ ?_
theorem State.modeRecord_held (s : State) (hw0 : Held pq s.regs s.pending) : Held pq (State.modeRecord s).regs (State.modeRecord s).pending := by
  unfold State.modeRecord
  repeat' first
    | with_reducible assumption | with_reducible refine State.bootRecord_held _ _ ?_ | with_reducible refine fst_held (by assumption) ?_
    | with_reducible refine map_held ?_ | with_reducible refine bind_held ?_ ?_ | with_reducible refine some_held ?_ (by assumption)
    | with_reducible refine ite_held ?_ ?_
theorem State.recordAgain_held (s : State) (body : BootBody) (hw0 : Held pq s.regs s.pending) : Held pq (State.recordAgain s body).regs (State.recordAgain s body).pending := by
  unfold State.recordAgain
  repeat' first
    | with_reducible assumption | with_reducible refine State.bootRecord_held _ _ ?_ | with_reducible refine fst_held (by assumption) ?_
    | with_reducible refine map_held ?_ | with_reducible refine bind_held ?_ ?_ | with_reducible refine some_held ?_ (by assumption)
    | with_reducible refine ite_held ?_ ?_
theorem State.recordsOwed_held (s : State) (hw0 : Held pq s.regs s.pending) : Held pq (State.recordsOwed s).regs (State.recordsOwed s).pending := by
  unfold State.recordsOwed
  repeat' first
    | with_reducible assumption | with_reducible refine State.confRecord_held _ ?_ | with_reducible refine State.modeRecord_held _ ?_
    | with_reducible refine State.recordAgain_held _ _ ?_ | with_reducible refine fst_held (by assumption) ?_ | with_reducible refine ite_held ?_ ?_
    | with_reducible refine ite_fst_held ?_ ?_ | split | dsimp only
theorem State.setDom_held (s : State) (d : Nat) (st : Nat) (hw0 : Held pq s.regs s.pending) : Held pq (State.setDom s d st).regs (State.setDom s d st).pending := by
  unfold State.setDom
  repeat' first
    | with_reducible assumption | with_reducible refine State.set_held _ _ _ ?_ | with_reducible refine fst_held (by assumption) ?_
    | with_reducible refine ite_held ?_ ?_
theorem State.twinAck_held (s : State) (hw0 : Held pq s.regs s.pending) : Held pq (State.twinAck s).regs (State.twinAck s).pending := by
  unfold State.twinAck
  repeat' first
    | with_reducible assumption | with_reducible refine State.twinReply_held _ _ ?_ | with_reducible refine fst_held (by assumption) ?_
    | with_reducible refine ite_held ?_ ?_
theorem State.enterIn_held (s : State) (d : Nat) (hw0 : Held pq s.regs s.pending) : Held pq (State.enterIn s d).regs (State.enterIn s d).pending := by
  unfold State.enterIn
  repeat' first
    | with_reducible assumption | with_reducible refine State.set_held _ _ _ ?_ | with_reducible refine State.recordsOwed_held _ ?_
    | with_reducible refine State.setDom_held _ _ _ ?_ | with_reducible refine fst_held (by assumption) ?_ | with_reducible refine ite_held ?_ ?_
theorem State.turnAway_held (s : State) (ln : Ln) (fuelN : Result) (hw0 : Held pq s.regs s.pending) : Held pq (State.turnAway s ln fuelN).regs (State.turnAway s ln fuelN).pending := by
  unfold State.turnAway
  repeat' first
    | with_reducible assumption | with_reducible refine State.reply_held _ _ _ ?_ | with_reducible refine fst_held (by assumption) ?_ | split
theorem State.tapGate_held (s : State) (hw0 : Held pq s.regs s.pending) : Held pq (State.tapGate s).regs (State.tapGate s).pending := by
  unfold State.tapGate
  exact hw0
theorem State.longWork_held (s : State) (hw0 : Held pq s.regs s.pending) : Held pq (State.longWork s).regs (State.longWork s).pending := by
  unfold State.longWork
  repeat' first
    | with_reducible assumption | with_reducible refine State.reply_held _ _ _ ?_ | with_reducible refine State.startJob_held _ _ _ _ ?_
    | with_reducible refine foldl_held _ ?_ _ _ ?_ | with_reducible refine foldl_fst_held _ ?_ _ _ ?_
    | with_reducible refine fst_held (by assumption) ?_ | with_reducible refine ite_held ?_ ?_ | with_reducible refine ite_fst_held ?_ ?_ | split
    | dsimp only | intro _ _ _ _ | intro _ _ _
theorem State.at_held (s : State) (us : Nat) (hw0 : Held pq s.regs s.pending) : Held pq (State.at s us).regs (State.at s us).pending := by
  unfold State.at
  repeat' first
    | with_reducible assumption | with_reducible refine State.clkTo_held _ _ ?_ | with_reducible refine State.longWork_held _ ?_
theorem State.codeSeen_held (s : State) (set : List Nat) (ok : List Nat) (hw0 : Held pq s.regs s.pending) : Held pq (State.codeSeen s set ok).1.regs (State.codeSeen s set ok).1.pending := by
  unfold State.codeSeen
  repeat' first
    | with_reducible assumption | with_reducible refine State.count_held _ _ _ ?_ | with_reducible refine foldl_held _ ?_ _ _ ?_
    | with_reducible refine foldl_fst_held _ ?_ _ _ ?_ | with_reducible refine fst_held (by assumption) ?_ | with_reducible refine ite_held ?_ ?_
    | with_reducible refine ite_fst_held ?_ ?_ | split | dsimp only | intro _ _ _ _ | intro _ _ _
theorem State.charErrs_held (s : State) (covered : Bool) (ls : List Nat) (hw0 : Held pq s.regs s.pending) : Held pq (State.charErrs s covered ls).1.regs (State.charErrs s covered ls).1.pending := by
  unfold State.charErrs
  repeat' first
    | with_reducible assumption | with_reducible refine State.count_held _ _ _ ?_ | with_reducible refine foldl_held _ ?_ _ _ ?_
    | with_reducible refine foldl_fst_held _ ?_ _ _ ?_ | with_reducible refine fst_held (by assumption) ?_ | with_reducible refine ite_held ?_ ?_
    | with_reducible refine ite_fst_held ?_ ?_ | split | dsimp only | intro _ _ _ _ | intro _ _ _
theorem State.allErrs_held (s : State) (covered : Bool) (fuelN : List (List Nat)) (hw0 : Held pq s.regs s.pending) : Held pq (State.allErrs s covered fuelN).1.regs (State.allErrs s covered fuelN).1.pending := by
  induction fuelN generalizing s covered with
  | nil =>
    unfold State.allErrs
    exact hw0
  | cons x xs ih =>
    unfold State.allErrs
    repeat' first
      | with_reducible assumption | with_reducible refine State.charErrs_held _ _ _ ?_ | with_reducible refine ih _ _ ?_
theorem State.frameWhole_held (s : State) (rx : SlvRx) (len : Nat) (hw0 : Held pq s.regs s.pending) : Held pq (State.frameWhole s rx len).1.regs (State.frameWhole s rx len).1.pending := by
  unfold State.frameWhole
  repeat' first
    | with_reducible assumption | with_reducible refine State.allErrs_held _ _ _ ?_ | with_reducible refine State.codeSeen_held _ _ _ ?_
    | with_reducible refine State.count_held _ _ _ ?_ | with_reducible refine fst_held (by assumption) ?_ | with_reducible refine ite_held ?_ ?_
    | with_reducible refine ite_fst_held ?_ ?_
theorem State.judge_held (s : State) (rx : SlvRx) (len : Nat) (hw0 : Held pq s.regs s.pending) : Held pq (State.judge s rx len).1.regs (State.judge s rx len).1.pending := by
  unfold State.judge
  repeat' first
    | with_reducible assumption | with_reducible refine State.set_held _ _ _ ?_ | with_reducible refine State.count_held _ _ _ ?_
    | with_reducible refine State.frameWhole_held _ _ _ ?_ | with_reducible refine fst_held (by assumption) ?_
    | with_reducible refine ite_held ?_ ?_ | with_reducible refine ite_fst_held ?_ ?_ | split | dsimp only
theorem State.frameJudge_held (s : State) (fuelN : FrameRx) (hw0 : Held pq s.regs s.pending) : Held pq (State.frameJudge s fuelN).1.regs (State.frameJudge s fuelN).1.pending := by
  unfold State.frameJudge
  repeat' first
    | with_reducible assumption | with_reducible refine State.set_held _ _ _ ?_ | with_reducible refine State.judge_held _ _ _ ?_
    | with_reducible refine fst_held (by assumption) ?_ | split
theorem State.heard_held (s : State) (p : Path) (rx : FrameRx) (hw0 : Held pq s.regs s.pending) : Held pq (State.heard s p rx).regs (State.heard s p rx).pending := by
  unfold State.heard
  repeat' first
    | with_reducible assumption | with_reducible refine State.frameJudge_held _ _ ?_ | with_reducible refine fst_held (by assumption) ?_
    | with_reducible refine ite_held ?_ ?_ | with_reducible refine ite_fst_held ?_ ?_ | split
theorem State.keepLine_held (s : State) (w : Waited) (rx : FrameRx) (hw0 : Held pq s.regs s.pending) : Held pq (State.keepLine s w rx).regs (State.keepLine s w rx).pending := by
  unfold State.keepLine
  repeat' first
    | with_reducible assumption | with_reducible refine State.heard_held _ _ _ ?_ | with_reducible refine fst_held (by assumption) ?_
    | with_reducible refine ite_held ?_ ?_
theorem State.missed_held (s : State) (c : Say) (ln : Ln) (hw0 : Held pq s.regs s.pending) : Held pq (State.missed s c ln).regs (State.missed s c ln).pending := by
  unfold State.missed
  repeat' first
    | with_reducible assumption | with_reducible refine State.heard_held _ _ _ ?_ | with_reducible refine State.keepLine_held _ _ _ ?_
    | with_reducible refine fst_held (by assumption) ?_ | with_reducible refine ite_held ?_ ?_
theorem State.settled_held (s : State) (f : Form) (p : Path) (hw0 : Held pq s.regs s.pending) : Held pq (State.settled s f p).regs (State.settled s f p).pending := by
  unfold State.settled
  repeat' first
    | with_reducible assumption | with_reducible refine State.accepted_held _ _ ?_ | with_reducible refine fst_held (by assumption) ?_
    | with_reducible refine ite_held ?_ ?_
theorem State.recorded_held (s : State) (f : Form) (hw0 : Held pq s.regs s.pending) : Held pq (State.recorded s f).regs (State.recorded s f).pending := by
  unfold State.recorded
  repeat' first
    | with_reducible assumption | with_reducible refine State.confRecord_held _ ?_ | with_reducible refine fst_held (by assumption) ?_
    | with_reducible refine ite_held ?_ ?_
theorem State.answer_held (s : State) (ln : Ln) (f : Form) (fuelN : Result) (hw0 : Held pq s.regs s.pending) : Held pq (State.answer s ln f fuelN).regs (State.answer s ln f fuelN).pending := by
  unfold State.answer
  repeat' first
    | with_reducible assumption | with_reducible refine State.recorded_held _ _ ?_ | with_reducible refine State.reply_held _ _ _ ?_
    | with_reducible refine State.setSession_held _ _ _ ?_ | with_reducible refine State.settled_held _ _ _ ?_
    | with_reducible refine State.startJob_held _ _ _ _ ?_ | with_reducible refine fst_held (by assumption) ?_
    | with_reducible refine ite_held ?_ ?_ | with_reducible refine ite_fst_held ?_ ?_ | split
theorem State.runLine_held (s : State) (c : Say) (ln : Ln) (f : Form) (early : Bool) (body : State → State × Result) (hw0 : Held pq s.regs s.pending) (hf5 : ∀ x0, Held pq x0.regs x0.pending → Held pq (body x0).1.regs (body x0).1.pending) : Held pq (State.runLine s c ln f early body).regs (State.runLine s c ln f early body).pending := by
  unfold State.runLine
  repeat' first
    | with_reducible assumption | with_reducible refine State.answer_held _ _ _ _ ?_ | with_reducible refine State.heard_held _ _ _ ?_
    | with_reducible refine State.missed_held _ _ _ ?_ | with_reducible refine State.turnAway_held _ _ _ ?_
    | with_reducible refine State.wakeLine_held _ _ _ ?_ | with_reducible refine hf5 _ ?_ | with_reducible refine fst_held (by assumption) ?_
    | with_reducible refine ite_held ?_ ?_ | with_reducible refine ite_fst_held ?_ ?_ | split | dsimp only
theorem State.rp_held (s : State) (p : Path) (w : RpReason) (hw0 : Held pq s.regs s.pending) : Held pq (State.rp s p w).regs (State.rp s p w).pending := by
  unfold State.rp
  repeat' first
    | with_reducible assumption | with_reducible refine State.prompt_held _ _ ?_ | with_reducible refine State.send_held _ _ _ ?_
theorem State.lineItemEnds_held (s : State) (w : AwaitFor) (r : Option String → Reply) (hw0 : Held pq s.regs s.pending) : Held pq (State.lineItemEnds s w r).regs (State.lineItemEnds s w r).pending := by
  unfold State.lineItemEnds
  repeat' first
    | with_reducible assumption | with_reducible refine State.twinAck_held _ ?_ | with_reducible refine State.twinReply_held _ _ ?_
    | with_reducible refine fst_held (by assumption) ?_ | with_reducible refine ite_held ?_ ?_ | with_reducible refine ite_fst_held ?_ ?_ | split
theorem State.finish_held (s : State) (p : Path) (r : Option String → Reply) (hw0 : Held pq s.regs s.pending) : Held pq (State.finish s p r).regs (State.finish s p r).pending := by
  unfold State.finish
  repeat' first
    | with_reducible assumption | with_reducible refine State.accepted_held _ _ ?_ | with_reducible refine State.confRecord_held _ ?_
    | with_reducible refine State.reply_held _ _ _ ?_ | with_reducible refine State.unlock_held _ _ ?_
    | with_reducible refine fst_held (by assumption) ?_ | with_reducible refine ite_held ?_ ?_ | with_reducible refine ite_fst_held ?_ ?_ | split
theorem State.finishFor_held (s : State) (w : AwaitFor) (r : Option String → Reply) (hw0 : Held pq s.regs s.pending) : Held pq (State.finishFor s w r).regs (State.finishFor s w r).pending := by
  unfold State.finishFor
  repeat' first
    | with_reducible assumption | with_reducible refine State.confRecord_held _ ?_ | with_reducible refine State.endJob_held _ _ _ ?_
    | with_reducible refine State.finish_held _ _ _ ?_ | with_reducible refine State.lineItemEnds_held _ _ _ ?_
    | with_reducible refine State.unmute_held _ _ ?_ | with_reducible refine fst_held (by assumption) ?_ | split | dsimp only
theorem State.dropImage_held (s : State) (p : Path) (hw0 : Held pq s.regs s.pending) : Held pq (State.dropImage s p).regs (State.dropImage s p).pending := by
  unfold State.dropImage
  repeat' first
    | with_reducible assumption | with_reducible refine fst_held (by assumption) ?_ | with_reducible refine ite_held ?_ ?_
    | with_reducible refine ite_fst_held ?_ ?_ | split
theorem State.sendNotices_held (s : State) (p : Path) (hw0 : Held pq s.regs s.pending) : Held pq (State.sendNotices s p).regs (State.sendNotices s p).pending := by
  unfold State.sendNotices
  repeat' first
    | with_reducible assumption | with_reducible refine State.prompt_held _ _ ?_ | with_reducible refine State.send_held _ _ _ ?_
    | with_reducible refine State.setSession_held _ _ _ ?_ | with_reducible refine foldl_held _ ?_ _ _ ?_
    | with_reducible refine foldl_fst_held _ ?_ _ _ ?_ | with_reducible refine fst_held (by assumption) ?_ | with_reducible refine ite_held ?_ ?_
    | with_reducible refine ite_fst_held ?_ ?_ | split | dsimp only | intro _ _ _ _ | intro _ _ _
theorem State.lanesIn_held (s : State) (hw0 : Held pq s.regs s.pending) : Held pq (State.lanesIn s).regs (State.lanesIn s).pending := by
  unfold State.lanesIn
  repeat' first
    | with_reducible assumption | with_reducible refine State.set_held _ _ _ ?_ | with_reducible refine State.enterIn_held _ _ ?_
    | with_reducible refine foldl_held _ ?_ _ _ ?_ | with_reducible refine foldl_fst_held _ ?_ _ _ ?_
    | with_reducible refine fst_held (by assumption) ?_ | with_reducible refine ite_held ?_ ?_ | with_reducible refine ite_fst_held ?_ ?_ | split
    | dsimp only | intro _ _ _ _ | intro _ _ _
theorem State.sleeveOn_held (s : State) (hw0 : Held pq s.regs s.pending) : Held pq (State.sleeveOn s).regs (State.sleeveOn s).pending := by
  unfold State.sleeveOn
  repeat' first
    | with_reducible assumption | with_reducible refine State.set_held _ _ _ ?_ | with_reducible refine State.enterIn_held _ _ ?_
    | with_reducible refine foldl_held _ ?_ _ _ ?_ | with_reducible refine foldl_fst_held _ ?_ _ _ ?_
    | with_reducible refine fst_held (by assumption) ?_ | with_reducible refine ite_held ?_ ?_ | with_reducible refine ite_fst_held ?_ ?_ | split
    | dsimp only | intro _ _ _ _ | intro _ _ _
theorem State.fence_held (s : State) (d : Nat) (hw0 : Held pq s.regs s.pending) : Held pq (State.fence s d).regs (State.fence s d).pending := by
  unfold State.fence
  repeat' first
    | with_reducible assumption | with_reducible refine State.set_held _ _ _ ?_ | with_reducible refine State.count_held _ _ _ ?_
    | with_reducible refine State.setFlag_held _ _ _ ?_
theorem State.setLanes_held (s : State) (rate : Nat) (lanes : Nat) (hw0 : Held pq s.regs s.pending) : Held pq (State.setLanes s rate lanes).regs (State.setLanes s rate lanes).pending := by
  unfold State.setLanes
  repeat' first
    | with_reducible assumption | with_reducible refine State.set_held _ _ _ ?_ | with_reducible refine State.fence_held _ _ ?_
    | with_reducible refine foldl_held _ ?_ _ _ ?_ | with_reducible refine foldl_fst_held _ ?_ _ _ ?_
    | with_reducible refine fst_held (by assumption) ?_ | with_reducible refine ite_held ?_ ?_ | with_reducible refine ite_fst_held ?_ ?_ | split
    | dsimp only | intro _ _ _ _ | intro _ _ _
theorem State.slvSend_held (s : State) (o : List SlvOut) (hw0 : Held pq s.regs s.pending) : Held pq (State.slvSend s o).regs (State.slvSend s o).pending := by
  unfold State.slvSend
  exact hw0
theorem State.sendGrt_held (s : State) (hw0 : Held pq s.regs s.pending) : Held pq (State.sendGrt s).regs (State.sendGrt s).pending := by
  unfold State.sendGrt
  repeat' first
    | with_reducible assumption | with_reducible refine State.slvSend_held _ _ ?_ | with_reducible refine fst_held (by assumption) ?_
    | with_reducible refine ite_held ?_ ?_
theorem State.negotiate_held (s : State) (reason : Nat) (hw0 : Held pq s.regs s.pending) : Held pq (State.negotiate s reason).regs (State.negotiate s reason).pending := by
  unfold State.negotiate
  repeat' first
    | with_reducible assumption | with_reducible refine State.set_held _ _ _ ?_ | with_reducible refine State.sendGrt_held _ ?_
    | with_reducible refine State.setLanes_held _ _ _ ?_ | with_reducible refine State.sleeveOn_held _ ?_
theorem State.attemptFailed_held (s : State) (tellHost : Bool) (hw0 : Held pq s.regs s.pending) : Held pq (State.attemptFailed s tellHost).regs (State.attemptFailed s tellHost).pending := by
  unfold State.attemptFailed
  repeat' first
    | with_reducible assumption | with_reducible refine State.notify_held _ _ _ ?_ | with_reducible refine State.slvSend_held _ _ ?_
    | with_reducible refine fst_held (by assumption) ?_ | with_reducible refine ite_held ?_ ?_ | with_reducible refine ite_fst_held ?_ ?_ | split
theorem State.fenceOff_held (s : State) (d : Nat) (hw0 : Held pq s.regs s.pending) : Held pq (State.fenceOff s d).regs (State.fenceOff s d).pending := by
  unfold State.fenceOff
  repeat' first
    | with_reducible assumption | with_reducible refine State.fence_held _ _ ?_ | with_reducible refine State.setDom_held _ _ _ ?_
theorem State.sleeveOff_held (s : State) (hw0 : Held pq s.regs s.pending) : Held pq (State.sleeveOff s).regs (State.sleeveOff s).pending := by
  unfold State.sleeveOff
  repeat' first
    | with_reducible assumption | with_reducible refine State.set_held _ _ _ ?_ | with_reducible refine State.fenceOff_held _ _ ?_
    | with_reducible refine foldl_held _ ?_ _ _ ?_ | with_reducible refine foldl_fst_held _ ?_ _ _ ?_
    | with_reducible refine fst_held (by assumption) ?_ | split | dsimp only | intro _ _ _ _ | intro _ _ _
theorem State.clockStopped_held (s : State) (hw0 : Held pq s.regs s.pending) : Held pq (State.clockStopped s).regs (State.clockStopped s).pending := by
  unfold State.clockStopped
  repeat' first
    | with_reducible assumption | with_reducible refine State.set_held _ _ _ ?_ | with_reducible refine State.sleeveOff_held _ ?_
theorem State.acked_held (s : State) (e : Nat) (hw0 : Held pq s.regs s.pending) : Held pq (State.acked s e).regs (State.acked s e).pending := by
  unfold State.acked
  repeat' first
    | with_reducible assumption | with_reducible refine State.set_held _ _ _ ?_
theorem State.startAttempt_held (s : State) (hw0 : Held pq s.regs s.pending) : Held pq (State.startAttempt s).regs (State.startAttempt s).pending := by
  unfold State.startAttempt
  repeat' first
    | with_reducible assumption | with_reducible refine State.setLanes_held _ _ _ ?_ | with_reducible refine State.slvSend_held _ _ ?_
theorem State.retrain_held (s : State) (reason : Nat) (hw0 : Held pq s.regs s.pending) : Held pq (State.retrain s reason).regs (State.retrain s reason).pending := by
  unfold State.retrain
  repeat' first
    | with_reducible assumption | with_reducible refine fst_held (by assumption) ?_ | split
theorem State.laneRetrain_held (s : State) (hw0 : Held pq s.regs s.pending) : Held pq (State.laneRetrain s).regs (State.laneRetrain s).pending := by
  unfold State.laneRetrain
  repeat' first
    | with_reducible assumption | with_reducible refine State.retrain_held _ _ ?_ | with_reducible refine fst_held (by assumption) ?_
    | with_reducible refine ite_held ?_ ?_
theorem State.resume_held (s : State) (hw0 : Held pq s.regs s.pending) : Held pq (State.resume s).regs (State.resume s).pending := by
  unfold State.resume
  repeat' first
    | with_reducible assumption | with_reducible refine State.set_held _ _ _ ?_ | with_reducible refine State.laneRetrain_held _ ?_
    | with_reducible refine State.sleeveOn_held _ ?_ | with_reducible refine fst_held (by assumption) ?_ | with_reducible refine ite_held ?_ ?_
theorem State.goBackTo_held (s : State) (n : Nat) (hw0 : Held pq s.regs s.pending) : Held pq (State.goBackTo s n).regs (State.goBackTo s n).pending := by
  unfold State.goBackTo
  repeat' first
    | with_reducible assumption | with_reducible refine fst_held (by assumption) ?_ | with_reducible refine ite_held ?_ ?_
theorem State.linkDown_held (s : State) (hw0 : Held pq s.regs s.pending) : Held pq (State.linkDown s).regs (State.linkDown s).pending := by
  unfold State.linkDown
  repeat' first
    | with_reducible assumption | with_reducible refine State.notify_held _ _ _ ?_ | with_reducible refine State.slvSend_held _ _ ?_
theorem State.laneOut_held (s : State) (k : Nat) (own : Bool) (hw0 : Held pq s.regs s.pending) : Held pq (State.laneOut s k own).regs (State.laneOut s k own).pending := by
  unfold State.laneOut
  repeat' first
    | with_reducible assumption | with_reducible refine State.fenceOff_held _ _ ?_ | with_reducible refine State.linkDown_held _ ?_
    | with_reducible refine State.retrain_held _ _ ?_ | with_reducible refine fst_held (by assumption) ?_ | with_reducible refine ite_held ?_ ?_
theorem State.forceMode_held (s : State) (hw0 : Held pq s.regs s.pending) : Held pq (State.forceMode s).regs (State.forceMode s).pending := by
  unfold State.forceMode
  repeat' first
    | with_reducible assumption | with_reducible refine State.set_held _ _ _ ?_ | with_reducible refine State.setFlag_held _ _ _ ?_
theorem State.meter_held (s : State) (p : Nat) (k : Nat) (x : Nat) (hw0 : Held pq s.regs s.pending) : Held pq (State.meter s p k x).regs (State.meter s p k x).pending := by
  unfold State.meter
  repeat' first
    | with_reducible assumption | with_reducible refine State.count_held _ _ _ ?_ | with_reducible refine fst_held (by assumption) ?_
    | with_reducible refine ite_held ?_ ?_
theorem State.pushBucket_held (s : State) (p : Nat) (minute : Nat) (b : Bucket) (hw0 : Held pq s.regs s.pending) : Held pq (State.pushBucket s p minute b).regs (State.pushBucket s p minute b).pending := by
  unfold State.pushBucket
  repeat' first
    | with_reducible assumption | with_reducible refine State.count_held _ _ _ ?_ | with_reducible refine State.notify_held _ _ _ ?_
    | with_reducible refine fst_held (by assumption) ?_ | with_reducible refine ite_held ?_ ?_ | with_reducible refine ite_fst_held ?_ ?_ | split
    | dsimp only
theorem State.closeMinute_held (s : State) (p : Nat) (stamp : Nat) (f : BucketFlags) (hw0 : Held pq s.regs s.pending) : Held pq (State.closeMinute s p stamp f).regs (State.closeMinute s p stamp f).pending := by
  unfold State.closeMinute
  repeat' first
    | with_reducible assumption | with_reducible refine State.pushBucket_held _ _ _ _ ?_
theorem State.closeFinal_held (s : State) (p : Nat) (hw0 : Held pq s.regs s.pending) : Held pq (State.closeFinal s p).regs (State.closeFinal s p).pending := by
  unfold State.closeFinal
  repeat' first
    | with_reducible assumption | with_reducible refine State.closeMinute_held _ _ _ _ ?_ | with_reducible refine State.setFlag_held _ _ _ ?_
theorem State.tackJoins_held (s : State) (hw0 : Held pq s.regs s.pending) : Held pq (State.tackJoins s).regs (State.tackJoins s).pending := by
  unfold State.tackJoins
  repeat' first
    | with_reducible assumption | with_reducible refine State.meter_held _ _ _ _ ?_
theorem State.closeRemoval_held (s : State) (hw0 : Held pq s.regs s.pending) : Held pq (State.closeRemoval s).regs (State.closeRemoval s).pending := by
  unfold State.closeRemoval
  repeat' first
    | with_reducible assumption | with_reducible refine State.set_held _ _ _ ?_ | with_reducible refine State.closeMinute_held _ _ _ _ ?_
    | with_reducible refine State.setFlag_held _ _ _ ?_ | with_reducible refine State.tackJoins_held _ ?_
    | with_reducible refine foldl_held _ ?_ _ _ ?_ | with_reducible refine foldl_fst_held _ ?_ _ _ ?_
    | with_reducible refine fst_held (by assumption) ?_ | split | dsimp only | intro _ _ _ _ | intro _ _ _
theorem State.closeAll_held (s : State) (m : Nat) (byTick : Bool) (hw0 : Held pq s.regs s.pending) : Held pq (State.closeAll s m byTick).regs (State.closeAll s m byTick).pending := by
  unfold State.closeAll
  repeat' first
    | with_reducible assumption | with_reducible refine State.set_held _ _ _ ?_ | with_reducible refine State.closeMinute_held _ _ _ _ ?_
    | with_reducible refine State.setFlag_held _ _ _ ?_ | with_reducible refine State.tackJoins_held _ ?_
    | with_reducible refine foldl_held _ ?_ _ _ ?_ | with_reducible refine foldl_fst_held _ ?_ _ _ ?_
    | with_reducible refine fst_held (by assumption) ?_ | with_reducible refine ite_held ?_ ?_ | with_reducible refine ite_fst_held ?_ ?_ | split
    | dsimp only | intro _ _ _ _ | intro _ _ _
theorem State.setBolt_held (s : State) (b : Bolt) (hw0 : Held pq s.regs s.pending) : Held pq (State.setBolt s b).regs (State.setBolt s b).pending := by
  unfold State.setBolt
  exact hw0
theorem State.beginCkpt_held (s : State) (clean : Bool) (own : Bool) (hw0 : Held pq s.regs s.pending) : Held pq (State.beginCkpt s clean own).regs (State.beginCkpt s clean own).pending := by
  unfold State.beginCkpt
  exact hw0
theorem State.startCkpt_held (s : State) (hw0 : Held pq s.regs s.pending) : Held pq (State.startCkpt s).regs (State.startCkpt s).pending := by
  unfold State.startCkpt
  repeat' first
    | with_reducible assumption | with_reducible refine State.beginCkpt_held _ _ _ ?_ | with_reducible refine fst_held (by assumption) ?_
    | with_reducible refine ite_held ?_ ?_
theorem State.boltFull_held (s : State) (b : Bolt) (hw0 : Held pq s.regs s.pending) : Held pq (State.boltFull s b).regs (State.boltFull s b).pending := by
  unfold State.boltFull
  repeat' first
    | with_reducible assumption | with_reducible refine State.setBolt_held _ _ ?_ | with_reducible refine State.startCkpt_held _ ?_
    | with_reducible refine fst_held (by assumption) ?_ | with_reducible refine ite_held ?_ ?_
theorem State.encodePage_held (s : State) (ppa : Nat) (hw0 : Held pq s.regs s.pending) : Held pq (State.encodePage s ppa).regs (State.encodePage s ppa).pending := by
  unfold State.encodePage
  repeat' first
    | with_reducible assumption | with_reducible refine State.set_held _ _ _ ?_ | with_reducible refine fst_held (by assumption) ?_
    | with_reducible refine ite_held ?_ ?_
theorem State.putMapPage_held (s : State) (g : Nat) (i : Nat) (page : Page) (hw0 : Held pq s.regs s.pending) : Held pq (State.putMapPage s g i page).regs (State.putMapPage s g i page).pending := by
  unfold State.putMapPage
  repeat' first
    | with_reducible assumption | with_reducible refine State.boltFull_held _ _ ?_ | with_reducible refine State.cross_held _ _ _ ?_
    | with_reducible refine State.encodePage_held _ _ ?_ | with_reducible refine State.setBolt_held _ _ ?_
    | with_reducible refine fst_held (by assumption) ?_ | with_reducible refine ite_held ?_ ?_ | with_reducible refine ite_fst_held ?_ ?_ | split
theorem State.setSeg_held (s : State) (e : Nat) (g : Seg) (hw0 : Held pq s.regs s.pending) : Held pq (State.setSeg s e g).regs (State.setSeg s e g).pending := by
  unfold State.setSeg
  exact hw0
theorem State.touchSeg_held (s : State) (e : Nat) (hw0 : Held pq s.regs s.pending) : Held pq (State.touchSeg s e).regs (State.touchSeg s e).pending := by
  unfold State.touchSeg
  repeat' first
    | with_reducible assumption | with_reducible refine fst_held (by assumption) ?_ | with_reducible refine ite_held ?_ ?_
theorem State.needSeg_held (s : State) (e : Nat) (hw0 : Held pq s.regs s.pending) : Held pq (State.needSeg s e).regs (State.needSeg s e).pending := by
  unfold State.needSeg
  repeat' first
    | with_reducible assumption | with_reducible refine State.setSeg_held _ _ _ ?_ | with_reducible refine State.touchSeg_held _ _ ?_
    | with_reducible refine fst_held (by assumption) ?_ | with_reducible refine ite_held ?_ ?_ | with_reducible refine ite_fst_held ?_ ?_ | split
theorem State.leftBolt_held (s : State) (g : Nat) (i : Nat) (hw0 : Held pq s.regs s.pending) : Held pq (State.leftBolt s g i).regs (State.leftBolt s g i).pending := by
  unfold State.leftBolt
  repeat' first
    | with_reducible assumption | with_reducible refine State.setBolt_held _ _ ?_ | with_reducible refine fst_held (by assumption) ?_ | split
theorem State.leftSlot_held (s : State) (slot : Nat) (hw0 : Held pq s.regs s.pending) : Held pq (State.leftSlot s slot).regs (State.leftSlot s slot).pending := by
  unfold State.leftSlot
  repeat' first
    | with_reducible assumption | with_reducible refine State.leftBolt_held _ _ _ ?_ | with_reducible refine fst_held (by assumption) ?_ | split
theorem State.alignQuartet_held (s : State) (g : Nat) (i : Nat) (fuelN : Nat) (hw0 : Held pq s.regs s.pending) : Held pq (State.alignQuartet s g i fuelN).regs (State.alignQuartet s g i fuelN).pending := by
  induction fuelN generalizing s g i with
  | zero =>
    unfold State.alignQuartet
    exact hw0
  | succ n ih =>
    unfold State.alignQuartet
    repeat' first
      | with_reducible assumption | with_reducible refine State.putMapPage_held _ _ _ _ ?_ | with_reducible refine ih _ _ _ ?_
      | with_reducible refine fst_held (by assumption) ?_ | with_reducible refine ite_held ?_ ?_ | with_reducible refine ite_fst_held ?_ ?_ | split
theorem State.dirtyIndex_held (s : State) (n : Nat) (hw0 : Held pq s.regs s.pending) : Held pq (State.dirtyIndex s n).regs (State.dirtyIndex s n).pending := by
  unfold State.dirtyIndex
  repeat' first
    | with_reducible assumption | with_reducible refine fst_held (by assumption) ?_ | with_reducible refine ite_held ?_ ?_
theorem State.putRow_held (s : State) (b : Bolt) (entry : Nat) (p : Nat) (n : Nat) (g : Seg) (hw0 : Held pq s.regs s.pending) : Held pq (State.putRow s b entry p n g).regs (State.putRow s b entry p n g).pending := by
  unfold State.putRow
  repeat' first
    | with_reducible assumption | with_reducible refine State.dirtyIndex_held _ _ ?_ | with_reducible refine State.leftSlot_held _ _ ?_
    | with_reducible refine State.putMapPage_held _ _ _ _ ?_ | with_reducible refine State.setSeg_held _ _ _ ?_
    | with_reducible refine foldl_held _ ?_ _ _ ?_ | with_reducible refine foldl_fst_held _ ?_ _ _ ?_
    | with_reducible refine fst_held (by assumption) ?_ | with_reducible refine map_held ?_ | with_reducible refine bind_held ?_ ?_
    | with_reducible refine some_held ?_ (by assumption) | split | dsimp only | intro _ _ _ _ | intro _ _ _
theorem State.putSeg_held (s : State) (entry : Nat) (hw0 : Held pq s.regs s.pending) : Held pq (State.putSeg s entry).1.regs (State.putSeg s entry).1.pending := by
  unfold State.putSeg
  repeat' first
    | with_reducible assumption | with_reducible refine State.alignQuartet_held _ _ _ _ ?_ | with_reducible refine State.putRow_held _ _ _ _ _ _ ?_
    | with_reducible refine fst_held (by assumption) ?_ | with_reducible refine ite_held ?_ ?_ | with_reducible refine ite_fst_held ?_ ?_ | split
    | dsimp only
theorem State.evictOne_held (s : State) (fuelN : List Nat) (hw0 : Held pq s.regs s.pending) : Held pq (State.evictOne s fuelN).regs (State.evictOne s fuelN).pending := by
  induction fuelN generalizing s with
  | nil =>
    unfold State.evictOne
    exact hw0
  | cons x xs ih =>
    unfold State.evictOne
    repeat' first
      | with_reducible assumption | with_reducible refine State.putSeg_held _ _ ?_ | with_reducible refine State.setSeg_held _ _ _ ?_
      | with_reducible refine ih _ ?_ | with_reducible refine fst_held (by assumption) ?_ | with_reducible refine ite_held ?_ ?_
      | with_reducible refine ite_fst_held ?_ ?_ | split
theorem State.evictSegs_held (s : State) (hw0 : Held pq s.regs s.pending) : Held pq (State.evictSegs s).regs (State.evictSegs s).pending := by
  unfold State.evictSegs
  repeat' first
    | with_reducible assumption | with_reducible refine State.evictOne_held _ _ ?_ | with_reducible refine fst_held (by assumption) ?_
    | with_reducible refine ite_held ?_ ?_
theorem State.retire_held (s : State) (ch : Nat) (g : Nat) (i : Nat) (hw0 : Held pq s.regs s.pending) : Held pq (State.retire s ch g i).regs (State.retire s ch g i).pending := by
  unfold State.retire
  repeat' first
    | with_reducible assumption | with_reducible refine State.modeRecord_held _ ?_ | with_reducible refine State.setSat_held _ _ _ ?_
    | with_reducible refine fst_held (by assumption) ?_ | with_reducible refine ite_held ?_ ?_
theorem State.tidyReloc_held (s : State) (p : Nat) (st : Nat) (hw0 : Held pq s.regs s.pending) : Held pq (State.tidyReloc s p st).regs (State.tidyReloc s p st).pending := by
  unfold State.tidyReloc
  exact hw0
theorem State.showCapacity_held (s : State) (hw0 : Held pq s.regs s.pending) : Held pq (State.showCapacity s).regs (State.showCapacity s).pending := by
  unfold State.showCapacity
  repeat' first
    | with_reducible assumption | with_reducible refine State.set_held _ _ _ ?_
theorem State.addProg_held (s : State) (p : Prog) (hw0 : Held pq s.regs s.pending) : Held pq (State.addProg s p).regs (State.addProg s p).pending := by
  unfold State.addProg
  repeat' first
    | with_reducible assumption | with_reducible refine State.cross_held _ _ _ ?_ | with_reducible refine State.encodePage_held _ _ ?_
theorem State.queueReloc_held (s : State) (p : Nat) (st : Nat) (poison : List Nat) (hw0 : Held pq s.regs s.pending) : Held pq (State.queueReloc s p st poison).regs (State.queueReloc s p st poison).pending := by
  unfold State.queueReloc
  repeat' first
    | with_reducible assumption | with_reducible refine fst_held (by assumption) ?_ | with_reducible refine ite_held ?_ ?_
theorem State.copyAgain_held (s : State) (g : Prog) (hw0 : Held pq s.regs s.pending) : Held pq (State.copyAgain s g).regs (State.copyAgain s g).pending := by
  unfold State.copyAgain
  repeat' first
    | with_reducible assumption | with_reducible refine State.queueReloc_held _ _ _ _ ?_ | with_reducible refine State.tidyReloc_held _ _ _ ?_
    | with_reducible refine fst_held (by assumption) ?_ | with_reducible refine ite_held ?_ ?_ | with_reducible refine ite_fst_held ?_ ?_ | split
    | dsimp only
theorem State.erasePages_held (s : State) (g : Nat) (i : Nat) (hw0 : Held pq s.regs s.pending) : Held pq (State.erasePages s g i).regs (State.erasePages s g i).pending := by
  unfold State.erasePages
  exact hw0
theorem State.closeBoltsOf_held (s : State) (q : Nat) (hw0 : Held pq s.regs s.pending) : Held pq (State.closeBoltsOf s q).regs (State.closeBoltsOf s q).pending := by
  unfold State.closeBoltsOf
  repeat' first
    | with_reducible assumption | with_reducible refine State.boltFull_held _ _ ?_ | with_reducible refine State.copyAgain_held _ _ ?_
    | with_reducible refine foldl_held _ ?_ _ _ ?_ | with_reducible refine foldl_fst_held _ ?_ _ _ ?_
    | with_reducible refine fst_held (by assumption) ?_ | split | dsimp only | intro _ _ _ _ | intro _ _ _
theorem State.changeSeg_held (s : State) (p : Nat) (st : Nat) (wseq : Nat) (hw0 : Held pq s.regs s.pending) : Held pq (State.changeSeg s p st wseq).regs (State.changeSeg s p st wseq).pending := by
  unfold State.changeSeg
  repeat' first
    | with_reducible assumption | with_reducible refine State.evictSegs_held _ ?_ | with_reducible refine State.setSeg_held _ _ _ ?_
    | with_reducible refine State.touchSeg_held _ _ ?_ | with_reducible refine fst_held (by assumption) ?_ | with_reducible refine ite_held ?_ ?_
theorem State.setTNext_held (s : State) (g : Nat) (hw0 : Held pq s.regs s.pending) : Held pq (State.setTNext s g).regs (State.setTNext s g).pending := by
  unfold State.setTNext
  repeat' first
    | with_reducible assumption | with_reducible refine State.set_held _ _ _ ?_
theorem State.addParity_held (s : State) (b : Bolt) (w : Nat) (hw0 : Held pq s.regs s.pending) : Held pq (State.addParity s b w).regs (State.addParity s b w).pending := by
  unfold State.addParity
  repeat' first
    | with_reducible assumption | with_reducible refine State.addProg_held _ _ ?_
theorem State.place_held (s : State) (b : Bolt) (kind : ProgKind) (page : Page) (hw0 : Held pq s.regs s.pending) : Held pq (State.place s b kind page).regs (State.place s b kind page).pending := by
  unfold State.place
  repeat' first
    | with_reducible assumption | with_reducible refine State.addParity_held _ _ _ ?_ | with_reducible refine State.addProg_held _ _ ?_
    | with_reducible refine State.setBolt_held _ _ ?_ | with_reducible refine fst_held (by assumption) ?_ | with_reducible refine ite_held ?_ ?_
theorem State.padRow_held (s : State) (g : Nat) (i : Nat) (fuelN : Nat) (hw0 : Held pq s.regs s.pending) : Held pq (State.padRow s g i fuelN).regs (State.padRow s g i fuelN).pending := by
  induction fuelN generalizing s g i with
  | zero =>
    unfold State.padRow
    exact hw0
  | succ n ih =>
    unfold State.padRow
    repeat' first
      | with_reducible assumption | with_reducible refine State.place_held _ _ _ _ ?_ | with_reducible refine ih _ _ _ ?_
      | with_reducible refine fst_held (by assumption) ?_ | with_reducible refine ite_held ?_ ?_ | with_reducible refine ite_fst_held ?_ ?_ | split
theorem State.learn_held (s : State) (ppa : Nat) (j : Nat) (errs : List Nat) (hw0 : Held pq s.regs s.pending) : Held pq (State.learn s ppa j errs).regs (State.learn s ppa j errs).pending := by
  unfold State.learn
  repeat' first
    | with_reducible assumption | with_reducible refine State.setBolt_held _ _ ?_ | with_reducible refine fst_held (by assumption) ?_
    | with_reducible refine ite_held ?_ ?_ | with_reducible refine ite_fst_held ?_ ?_ | split
theorem State.padLines_held (s : State) (g : Nat) (i : Nat) (fuelN : Nat) (hw0 : Held pq s.regs s.pending) : Held pq (State.padLines s g i fuelN).regs (State.padLines s g i fuelN).pending := by
  induction fuelN generalizing s g i with
  | zero =>
    unfold State.padLines
    exact hw0
  | succ n ih =>
    unfold State.padLines
    repeat' first
      | with_reducible assumption | with_reducible refine State.place_held _ _ _ _ ?_ | with_reducible refine ih _ _ _ ?_
      | with_reducible refine fst_held (by assumption) ?_ | with_reducible refine ite_held ?_ ?_ | with_reducible refine ite_fst_held ?_ ?_ | split
theorem State.setEntry_held (s : State) (p : Nat) (st : Nat) (e : Nat) (hw0 : Held pq s.regs s.pending) : Held pq (State.setEntry s p st e).regs (State.setEntry s p st e).pending := by
  unfold State.setEntry
  exact hw0
theorem State.setEntries_held (s : State) (es : List CacheEntry) (hw0 : Held pq s.regs s.pending) : Held pq (State.setEntries s es).regs (State.setEntries s es).pending := by
  unfold State.setEntries
  exact hw0
theorem State.markRange_held (s : State) (p : Nat) (lba : Nat) (n : Nat) (hw0 : Held pq s.regs s.pending) : Held pq (State.markRange s p lba n).regs (State.markRange s p lba n).pending := by
  unfold State.markRange
  repeat' first
    | with_reducible assumption | with_reducible refine foldl_held _ ?_ _ _ ?_ | with_reducible refine foldl_fst_held _ ?_ _ _ ?_
    | with_reducible refine fst_held (by assumption) ?_ | with_reducible refine ite_held ?_ ?_
theorem State.sendDeltas_held (s : State) (hw0 : Held pq s.regs s.pending) : Held pq (State.sendDeltas s).regs (State.sendDeltas s).pending := by
  unfold State.sendDeltas
  repeat' first
    | with_reducible assumption | with_reducible refine State.padLines_held _ _ _ _ ?_ | with_reducible refine State.place_held _ _ _ _ ?_
    | with_reducible refine fst_held (by assumption) ?_ | with_reducible refine ite_held ?_ ?_ | with_reducible refine ite_fst_held ?_ ?_ | split
theorem State.trimRecord_held (s : State) (p : Nat) (lba : Nat) (n : Nat) (hw0 : Held pq s.regs s.pending) : Held pq (State.trimRecord s p lba n).regs (State.trimRecord s p lba n).pending := by
  unfold State.trimRecord
  repeat' first
    | with_reducible assumption | with_reducible refine State.sendDeltas_held _ ?_ | with_reducible refine fst_held (by assumption) ?_
    | with_reducible refine ite_held ?_ ?_
theorem State.setExec_held (s : State) (x : Exec) (hw0 : Held pq s.regs s.pending) : Held pq (State.setExec s x).regs (State.setExec s x).pending := by
  unfold State.setExec
  exact hw0
theorem State.trimDone_held (s : State) (x : Exec) (n : Nat) (hw0 : Held pq s.regs s.pending) : Held pq (State.trimDone s x n).regs (State.trimDone s x n).pending := by
  unfold State.trimDone
  repeat' first
    | with_reducible assumption | with_reducible refine State.markRange_held _ _ _ _ ?_ | with_reducible refine State.mirror_held _ _ ?_
    | with_reducible refine State.setExec_held _ _ ?_ | with_reducible refine State.trimRecord_held _ _ _ _ ?_
theorem State.dropEntries_held (s : State) (p : CacheEntry → Bool) (hw0 : Held pq s.regs s.pending) : Held pq (State.dropEntries s p).regs (State.dropEntries s p).pending := by
  unfold State.dropEntries
  repeat' first
    | with_reducible assumption | with_reducible refine State.count_held _ _ _ ?_ | with_reducible refine State.setEntries_held _ _ ?_
theorem State.flushMode_held (s : State) (hw0 : Held pq s.regs s.pending) : Held pq (State.flushMode s).regs (State.flushMode s).pending := by
  unfold State.flushMode
  exact hw0
theorem State.dropBlocks_held (s : State) (p : Nat) (lba : Nat) (n : Nat) (hw0 : Held pq s.regs s.pending) : Held pq (State.dropBlocks s p lba n).regs (State.dropBlocks s p lba n).pending := by
  unfold State.dropBlocks
  repeat' first
    | with_reducible assumption | with_reducible refine State.dropEntries_held _ _ ?_ | with_reducible refine State.flushMode_held _ ?_
theorem State.unmapBlocks_held (s : State) (p : Nat) (lba : Nat) (n : Nat) (hw0 : Held pq s.regs s.pending) : Held pq (State.unmapBlocks s p lba n).regs (State.unmapBlocks s p lba n).pending := by
  unfold State.unmapBlocks
  repeat' first
    | with_reducible assumption | with_reducible refine State.changeSeg_held _ _ _ _ ?_ | with_reducible refine State.dropBlocks_held _ _ _ _ ?_
    | with_reducible refine State.setEntry_held _ _ _ _ ?_ | with_reducible refine foldl_held _ ?_ _ _ ?_
    | with_reducible refine foldl_fst_held _ ?_ _ _ ?_ | with_reducible refine fst_held (by assumption) ?_ | split | dsimp only | intro _ _ _ _
    | intro _ _ _
theorem State.trimReady_held (s : State) (id : Nat) (fuelN : Nat) (hw0 : Held pq s.regs s.pending) : Held pq (State.trimReady s id fuelN).regs (State.trimReady s id fuelN).pending := by
  induction fuelN generalizing s id with
  | zero =>
    unfold State.trimReady
    exact hw0
  | succ n ih =>
    unfold State.trimReady
    repeat' first
      | with_reducible assumption | with_reducible refine State.needSeg_held _ _ ?_ | with_reducible refine State.setExec_held _ _ ?_
      | with_reducible refine State.trimDone_held _ _ _ ?_ | with_reducible refine State.unmapBlocks_held _ _ _ _ ?_
      | with_reducible refine ih _ _ ?_ | with_reducible refine fst_held (by assumption) ?_ | with_reducible refine ite_held ?_ ?_
      | with_reducible refine ite_fst_held ?_ ?_ | split | dsimp only
theorem State.trimRange_held (s : State) (p : Nat) (lba : Nat) (n : Nat) (hw0 : Held pq s.regs s.pending) : Held pq (State.trimRange s p lba n).regs (State.trimRange s p lba n).pending := by
  unfold State.trimRange
  repeat' first
    | with_reducible assumption | with_reducible refine State.trimRecord_held _ _ _ _ ?_ | with_reducible refine State.unmapBlocks_held _ _ _ _ ?_
theorem State.fillMirror_held (s : State) (base : Nat) (i : Nat) (data : Bytes) (check : Option Check) (hw0 : Held pq s.regs s.pending) : Held pq (State.fillMirror s base i data check).regs (State.fillMirror s base i data check).pending := by
  unfold State.fillMirror
  repeat' first
    | with_reducible assumption | with_reducible refine State.twinGo_held _ ?_
theorem State.setTseq_held (s : State) (id : Nat) (n : Nat) (hw0 : Held pq s.regs s.pending) : Held pq (State.setTseq s id n).regs (State.setTseq s id n).pending := by
  unfold State.setTseq
  exact hw0
theorem State.mirrorWrite_held (s : State) (p : Nat) (lba : Nat) (n : Nat) (integ : Bool) (ikey : Nat) (nonce : Nat) (hw0 : Held pq s.regs s.pending) : Held pq (State.mirrorWrite s p lba n integ ikey nonce).regs (State.mirrorWrite s p lba n integ ikey nonce).pending := by
  unfold State.mirrorWrite
  repeat' first
    | with_reducible assumption | with_reducible refine State.mirror_held _ _ ?_ | with_reducible refine foldl_held _ ?_ _ _ ?_
    | with_reducible refine foldl_fst_held _ ?_ _ _ ?_ | with_reducible refine fst_held (by assumption) ?_ | with_reducible refine ite_held ?_ ?_
    | with_reducible refine ite_fst_held ?_ ?_ | split | dsimp only | intro _ _ _ _ | intro _ _ _
theorem State.mirrorBlk_held (s0 : State) (x : Exec) (i : Nat) (b : Blk) (hw0 : Held pq s0.regs s0.pending) : Held pq (State.mirrorBlk s0 x i b).regs (State.mirrorBlk s0 x i b).pending := by
  unfold State.mirrorBlk
  repeat' first
    | with_reducible assumption | with_reducible refine State.fillMirror_held _ _ _ _ _ ?_ | with_reducible refine State.markRange_held _ _ _ _ ?_
    | with_reducible refine State.mirror_held _ _ ?_ | with_reducible refine State.mirrorWrite_held _ _ _ _ _ _ _ ?_
    | with_reducible refine State.setTseq_held _ _ _ ?_ | with_reducible refine fst_held (by assumption) ?_ | with_reducible refine ite_held ?_ ?_
    | with_reducible refine ite_fst_held ?_ ?_ | split
theorem State.dropEntry_held (s : State) (v : CacheEntry) (hw0 : Held pq s.regs s.pending) : Held pq (State.dropEntry s v).regs (State.dropEntry s v).pending := by
  unfold State.dropEntry
  repeat' first
    | with_reducible assumption | with_reducible refine State.dropEntries_held _ _ ?_
theorem State.makeRoom_held (s : State) (p : Nat) (hw0 : Held pq s.regs s.pending) : ∀ u, (State.makeRoom s p) = some u → Held pq u.regs u.pending := by
  unfold State.makeRoom
  repeat' first
    | with_reducible assumption | with_reducible refine State.dropEntry_held _ _ ?_ | with_reducible refine fst_held (by assumption) ?_
    | with_reducible refine map_held ?_ | with_reducible refine bind_held ?_ ?_ | with_reducible refine some_held ?_ (by assumption)
    | with_reducible refine ite_opt_held ?_ ?_ | with_reducible refine ite_held ?_ ?_ | with_reducible refine ite_fst_held ?_ ?_
    | (intro hu; cases hu; done) | (intro _ hu; cases hu) | split | dsimp only | intro _ _ _ _ | intro _ _ _ | intro _ _ | intro _
theorem State.writeBlock_held (s : State) (p : Nat) (lba : Nat) (through : Bool) (data : Bytes) (check : Option Check) (owner : Nat) (hw0 : Held pq s.regs s.pending) : Held pq (State.writeBlock s p lba through data check owner).regs (State.writeBlock s p lba through data check owner).pending := by
  unfold State.writeBlock
  repeat' first
    | with_reducible assumption | with_reducible refine State.dropEntries_held _ _ ?_
    | with_reducible refine some_held (State.makeRoom_held _ _ ?_) (by assumption) | with_reducible refine State.setEntries_held _ _ ?_
    | with_reducible refine fst_held (by assumption) ?_ | with_reducible refine State.makeRoom_held _ _ ?_
    | with_reducible refine ite_opt_held ?_ ?_ | with_reducible refine ite_held ?_ ?_ | with_reducible refine ite_fst_held ?_ ?_ | split
    | dsimp only
theorem State.writeHeld_held (s : State) (x : Exec) (i : Nat) (b : Blk) (hw0 : Held pq s.regs s.pending) : ∀ u, (State.writeHeld s x i b) = some u → Held pq u.regs u.pending := by
  unfold State.writeHeld
  repeat' first
    | with_reducible assumption | with_reducible refine State.mirrorBlk_held _ _ _ _ ?_ | with_reducible refine State.setExec_held _ _ ?_
    | with_reducible refine State.trimRange_held _ _ _ _ ?_ | with_reducible refine State.writeBlock_held _ _ _ _ _ _ _ ?_
    | with_reducible refine fst_held (by assumption) ?_ | with_reducible refine ite_opt_held ?_ ?_ | with_reducible refine ite_held ?_ ?_
    | with_reducible refine ite_fst_held ?_ ?_ | (intro hu; cases hu; done) | (intro _ hu; cases hu)
theorem State.writeReady_held (s : State) (id : Nat) (fuelN : Nat) (hw0 : Held pq s.regs s.pending) : Held pq (State.writeReady s id fuelN).regs (State.writeReady s id fuelN).pending := by
  induction fuelN generalizing s id with
  | zero =>
    unfold State.writeReady
    exact hw0
  | succ n ih =>
    unfold State.writeReady
    repeat' first
      | with_reducible assumption | with_reducible refine State.needSeg_held _ _ ?_
      | with_reducible refine some_held (State.writeHeld_held _ _ _ _ ?_) (by assumption) | with_reducible refine ih _ _ ?_
      | with_reducible refine fst_held (by assumption) ?_ | with_reducible refine State.writeHeld_held _ _ _ _ ?_
      | with_reducible refine ite_opt_held ?_ ?_ | with_reducible refine ite_held ?_ ?_ | with_reducible refine ite_fst_held ?_ ?_ | split
      | dsimp only
theorem State.trimCut_held (s : State) (x : Exec) (hw0 : Held pq s.regs s.pending) : Held pq (State.trimCut s x).regs (State.trimCut s x).pending := by
  unfold State.trimCut
  repeat' first
    | with_reducible assumption | with_reducible refine State.trimDone_held _ _ _ ?_ | with_reducible refine fst_held (by assumption) ?_
    | with_reducible refine ite_held ?_ ?_
theorem State.setQueue_held (s : State) (q : Nat) (k : QueuePair) (hw0 : Held pq s.regs s.pending) : Held pq (State.setQueue s q k).regs (State.setQueue s q k).pending := by
  unfold State.setQueue
  exact hw0
theorem State.postCpl_held (s : State) (q : Nat) (c : Completion) (hw0 : Held pq s.regs s.pending) : Held pq (State.postCpl s q c).regs (State.postCpl s q c).pending := by
  unfold State.postCpl
  repeat' first
    | with_reducible assumption | with_reducible refine State.setQueue_held _ _ _ ?_ | with_reducible refine fst_held (by assumption) ?_ | split
    | dsimp only
theorem State.postWaiting_held (s : State) (q : Nat) (c : Cmd) (st : Status) (hw0 : Held pq s.regs s.pending) : Held pq (State.postWaiting s q c st).regs (State.postWaiting s q c st).pending := by
  unfold State.postWaiting
  repeat' first
    | with_reducible assumption | with_reducible refine State.postCpl_held _ _ _ ?_
theorem State.dropWaiting_held (s : State) (hw0 : Held pq s.regs s.pending) : Held pq (State.dropWaiting s).regs (State.dropWaiting s).pending := by
  unfold State.dropWaiting
  repeat' first
    | with_reducible assumption | with_reducible refine State.postWaiting_held _ _ _ _ ?_ | with_reducible refine State.setQueue_held _ _ _ ?_
    | with_reducible refine foldl_held _ ?_ _ _ ?_ | with_reducible refine foldl_fst_held _ ?_ _ _ ?_
    | with_reducible refine fst_held (by assumption) ?_ | split | dsimp only | intro _ _ _ _ | intro _ _ _
theorem State.swapDone_held (s : State) (n : Nat) (hw0 : Held pq s.regs s.pending) : Held pq (State.swapDone s n).regs (State.swapDone s n).pending := by
  unfold State.swapDone
  repeat' first
    | with_reducible assumption | with_reducible refine State.confRecord_held _ ?_ | with_reducible refine State.finishFor_held _ _ _ ?_
    | with_reducible refine State.notify_held _ _ _ ?_ | with_reducible refine State.showTwin_held _ _ ?_
    | with_reducible refine fst_held (by assumption) ?_ | split
theorem State.swapGo_held (s : State) (hw0 : Held pq s.regs s.pending) : Held pq (State.swapGo s).regs (State.swapGo s).pending := by
  unfold State.swapGo
  repeat' first
    | with_reducible assumption | with_reducible refine State.dropWaiting_held _ ?_ | with_reducible refine State.mirrorLine_held _ _ ?_
    | with_reducible refine State.swapDone_held _ _ ?_ | with_reducible refine fst_held (by assumption) ?_ | with_reducible refine ite_held ?_ ?_
    | with_reducible refine ite_fst_held ?_ ?_ | split | dsimp only
theorem State.setPocket_held (s : State) (p : Nat) (k : Pocket) (hw0 : Held pq s.regs s.pending) : Held pq (State.setPocket s p k).regs (State.setPocket s p k).pending := by
  unfold State.setPocket
  exact hw0
theorem State.recordAll_held (s : State) (p : Nat) (size : Nat) (hw0 : Held pq s.regs s.pending) : Held pq (State.recordAll s p size).regs (State.recordAll s p size).pending := by
  unfold State.recordAll
  repeat' first
    | with_reducible assumption | with_reducible refine State.trimRecord_held _ _ _ _ ?_ | with_reducible refine foldl_held _ ?_ _ _ ?_
    | with_reducible refine foldl_fst_held _ ?_ _ _ ?_ | with_reducible refine fst_held (by assumption) ?_ | split | dsimp only | intro _ _ _ _
    | intro _ _ _
theorem State.unmapAll_held (s : State) (p : Nat) (size : Nat) (hw0 : Held pq s.regs s.pending) : Held pq (State.unmapAll s p size).regs (State.unmapAll s p size).pending := by
  unfold State.unmapAll
  repeat' first
    | with_reducible assumption | with_reducible refine State.dirtyIndex_held _ _ ?_ | with_reducible refine State.dropBlocks_held _ _ _ _ ?_
    | with_reducible refine State.leftSlot_held _ _ ?_ | with_reducible refine foldl_held _ ?_ _ _ ?_
    | with_reducible refine foldl_fst_held _ ?_ _ _ ?_ | with_reducible refine fst_held (by assumption) ?_ | with_reducible refine map_held ?_
    | with_reducible refine bind_held ?_ ?_ | with_reducible refine some_held ?_ (by assumption) | split | dsimp only | intro _ _ _ _ | intro _ _ _
theorem State.forgetStreams_held (s : State) (p : Nat) (hw0 : Held pq s.regs s.pending) : Held pq (State.forgetStreams s p).regs (State.forgetStreams s p).pending := by
  unfold State.forgetStreams
  exact hw0
theorem State.deletionUnmap_held (s : State) (p : Nat) (hw0 : Held pq s.regs s.pending) : Held pq (State.deletionUnmap s p).regs (State.deletionUnmap s p).pending := by
  unfold State.deletionUnmap
  repeat' first
    | with_reducible assumption | with_reducible refine State.forgetStreams_held _ _ ?_ | with_reducible refine State.recordAll_held _ _ _ ?_
    | with_reducible refine State.sendDeltas_held _ ?_ | with_reducible refine State.setPocket_held _ _ _ ?_
    | with_reducible refine State.unmapAll_held _ _ _ ?_ | with_reducible refine fst_held (by assumption) ?_ | with_reducible refine ite_held ?_ ?_
    | with_reducible refine ite_fst_held ?_ ?_ | split
theorem State.unpost_held (s : State) (x : Exec) (i : Nat) (hw0 : Held pq s.regs s.pending) : Held pq (State.unpost s x i).regs (State.unpost s x i).pending := by
  unfold State.unpost
  exact hw0
theorem State.dropUnconfirmed_held (s : State) (x : Exec) (hw0 : Held pq s.regs s.pending) : Held pq (State.dropUnconfirmed s x).regs (State.dropUnconfirmed s x).pending := by
  unfold State.dropUnconfirmed
  repeat' first
    | with_reducible assumption | with_reducible refine State.unpost_held _ _ _ ?_ | with_reducible refine foldl_held _ ?_ _ _ ?_
    | with_reducible refine foldl_fst_held _ ?_ _ _ ?_ | with_reducible refine fst_held (by assumption) ?_ | with_reducible refine ite_held ?_ ?_
    | with_reducible refine ite_fst_held ?_ ?_ | split | dsimp only | intro _ _ _ _ | intro _ _ _
theorem State.dropExec_held (s : State) (id : Nat) (hw0 : Held pq s.regs s.pending) : Held pq (State.dropExec s id).regs (State.dropExec s id).pending := by
  unfold State.dropExec
  exact hw0
theorem State.cutMirror_held (s : State) (x : Exec) (hw0 : Held pq s.regs s.pending) : Held pq (State.cutMirror s x).regs (State.cutMirror s x).pending := by
  unfold State.cutMirror
  repeat' first
    | with_reducible assumption | with_reducible refine State.twinGo_held _ ?_ | with_reducible refine fst_held (by assumption) ?_
    | with_reducible refine map_held ?_ | with_reducible refine bind_held ?_ ?_ | with_reducible refine some_held ?_ (by assumption)
    | with_reducible refine ite_held ?_ ?_ | with_reducible refine ite_fst_held ?_ ?_ | split
theorem State.finishExec_held (s0 : State) (x : Exec) (st : Status) (done : Nat) (hw0 : Held pq s0.regs s0.pending) : Held pq (State.finishExec s0 x st done).regs (State.finishExec s0 x st done).pending := by
  unfold State.finishExec
  repeat' first
    | with_reducible assumption | with_reducible refine State.cutMirror_held _ _ ?_ | with_reducible refine State.deletionUnmap_held _ _ ?_
    | with_reducible refine State.dropExec_held _ _ ?_ | with_reducible refine State.dropUnconfirmed_held _ _ ?_
    | with_reducible refine State.postCpl_held _ _ _ ?_ | with_reducible refine State.swapGo_held _ ?_
    | with_reducible refine State.trimCut_held _ _ ?_
theorem State.settleOne_held (s : State) (x : Exec) (hw0 : Held pq s.regs s.pending) : Held pq (State.settleOne s x).regs (State.settleOne s x).pending := by
  unfold State.settleOne
  repeat' first
    | with_reducible assumption | with_reducible refine State.finishExec_held _ _ _ _ ?_ | with_reducible refine State.sendDeltas_held _ ?_
    | with_reducible refine fst_held (by assumption) ?_ | with_reducible refine ite_held ?_ ?_ | with_reducible refine ite_fst_held ?_ ?_ | split
    | dsimp only
theorem State.settleId_held (s : State) (id : Nat) (n : Nat) (hw0 : Held pq s.regs s.pending) : Held pq (State.settleId s id n).regs (State.settleId s id n).pending := by
  unfold State.settleId
  repeat' first
    | with_reducible assumption | with_reducible refine State.settleOne_held _ _ ?_ | with_reducible refine State.trimReady_held _ _ _ ?_
    | with_reducible refine State.writeReady_held _ _ _ ?_ | with_reducible refine fst_held (by assumption) ?_
    | with_reducible refine ite_held ?_ ?_ | with_reducible refine ite_fst_held ?_ ?_ | split | dsimp only
theorem State.settleAll_held (s : State) (hw0 : Held pq s.regs s.pending) : Held pq (State.settleAll s).regs (State.settleAll s).pending := by
  unfold State.settleAll
  repeat' first
    | with_reducible assumption | with_reducible refine State.settleId_held _ _ _ ?_ | with_reducible refine foldl_held _ ?_ _ _ ?_
    | with_reducible refine foldl_fst_held _ ?_ _ _ ?_ | with_reducible refine fst_held (by assumption) ?_ | split | dsimp only | intro _ _ _ _
    | intro _ _ _
theorem State.dropPrefetch_held (s : State) (p : Nat) (lba : Nat) (n : Nat) (hw0 : Held pq s.regs s.pending) : Held pq (State.dropPrefetch s p lba n).regs (State.dropPrefetch s p lba n).pending := by
  unfold State.dropPrefetch
  repeat' first
    | with_reducible assumption | with_reducible refine State.dropEntries_held _ _ ?_
theorem State.touch_held (s : State) (p : Nat) (lba : Nat) (hw0 : Held pq s.regs s.pending) : Held pq (State.touch s p lba).regs (State.touch s p lba).pending := by
  unfold State.touch
  repeat' first
    | with_reducible assumption | with_reducible refine State.count_held _ _ _ ?_ | with_reducible refine fst_held (by assumption) ?_
    | with_reducible refine ite_held ?_ ?_
theorem State.unseat_held (s : State) (hw0 : Held pq s.regs s.pending) : Held pq (State.unseat s).regs (State.unseat s).pending := by
  unfold State.unseat
  exact hw0
theorem State.startBlock_held (s : State) (p : Nat) (lba : Nat) (b : Blk) (hw0 : Held pq s.regs s.pending) : Held pq (State.startBlock s p lba b).regs (State.startBlock s p lba b).pending := by
  unfold State.startBlock
  repeat' first
    | with_reducible assumption | with_reducible refine State.cross_held _ _ _ ?_ | with_reducible refine State.needSeg_held _ _ ?_
    | with_reducible refine State.touch_held _ _ _ ?_ | with_reducible refine State.touchSeg_held _ _ ?_
    | with_reducible refine fst_held (by assumption) ?_ | with_reducible refine ite_held ?_ ?_ | with_reducible refine ite_fst_held ?_ ?_ | split
theorem State.awaitEntries_held (s : State) (id : Nat) (sel : CacheEntry → Bool) (hw0 : Held pq s.regs s.pending) : Held pq (State.awaitEntries s id sel).regs (State.awaitEntries s id sel).pending := by
  unfold State.awaitEntries
  repeat' first
    | with_reducible assumption | with_reducible refine State.setEntries_held _ _ ?_
theorem State.awaitProgram_held (s : State) (id : Nat) (p : Nat) (lbas : List Nat) (hw0 : Held pq s.regs s.pending) : Held pq (State.awaitProgram s id p lbas).regs (State.awaitProgram s id p lbas).pending := by
  unfold State.awaitProgram
  repeat' first
    | with_reducible assumption | with_reducible refine State.awaitEntries_held _ _ _ ?_
theorem State.postBlock_held (s : State) (x : Exec) (i : Nat) (plain : Bytes) (hw0 : Held pq s.regs s.pending) : Held pq (State.postBlock s x i plain).regs (State.postBlock s x i plain).pending := by
  unfold State.postBlock
  exact hw0
theorem State.onGood_held (s : State) (x : Exec) (i : Nat) (b : Blk) (hw0 : Held pq s.regs s.pending) : Held pq (State.onGood s x i b).1.regs (State.onGood s x i b).1.pending := by
  unfold State.onGood
  repeat' first
    | with_reducible assumption | with_reducible refine State.postBlock_held _ _ _ _ ?_ | with_reducible refine fst_held (by assumption) ?_
    | with_reducible refine ite_held ?_ ?_ | with_reducible refine ite_fst_held ?_ ?_ | split
theorem State.advanceBlk_held (s : State) (id : Nat) (i : Nat) (hw0 : Held pq s.regs s.pending) : Held pq (State.advanceBlk s id i).regs (State.advanceBlk s id i).pending := by
  unfold State.advanceBlk
  repeat' first
    | with_reducible assumption | with_reducible refine State.onGood_held _ _ _ _ ?_ | with_reducible refine State.setExec_held _ _ ?_
    | with_reducible refine fst_held (by assumption) ?_ | with_reducible refine ite_held ?_ ?_ | with_reducible refine ite_fst_held ?_ ?_ | split
theorem State.startRoom_held (s : State) (x : Exec) (i : Nat) (p : Spot) (hw0 : Held pq s.regs s.pending) : Held pq (State.startRoom s x i p).regs (State.startRoom s x i p).pending := by
  unfold State.startRoom
  repeat' first
    | with_reducible assumption | with_reducible refine State.advanceBlk_held _ _ _ ?_ | with_reducible refine State.awaitProgram_held _ _ _ _ ?_
    | with_reducible refine State.setExec_held _ _ ?_ | with_reducible refine State.startBlock_held _ _ _ _ ?_
theorem State.seatBlk_held (s : State) (id : Nat) (i : Nat) (hw0 : Held pq s.regs s.pending) : Held pq (State.seatBlk s id i).regs (State.seatBlk s id i).pending := by
  unfold State.seatBlk
  repeat' first
    | with_reducible assumption | with_reducible refine State.setExec_held _ _ ?_ | with_reducible refine State.startRoom_held _ _ _ _ ?_
    | with_reducible refine fst_held (by assumption) ?_ | with_reducible refine ite_held ?_ ?_ | with_reducible refine ite_fst_held ?_ ?_ | split
theorem State.unpick_held (s : State) (x : Exec) (i : Nat) (st : Status) (hw0 : Held pq s.regs s.pending) : Held pq (State.unpick s x i st).regs (State.unpick s x i st).pending := by
  unfold State.unpick
  repeat' first
    | with_reducible assumption | with_reducible refine State.count_held _ _ _ ?_ | with_reducible refine fst_held (by assumption) ?_
    | with_reducible refine ite_held ?_ ?_
theorem State.prefetchRoom_held (s : State) (p : Nat) (hw0 : Held pq s.regs s.pending) : ∀ u, (State.prefetchRoom s p) = some u → Held pq u.regs u.pending := by
  unfold State.prefetchRoom
  repeat' first
    | with_reducible assumption | with_reducible refine State.dropEntry_held _ _ ?_ | with_reducible refine fst_held (by assumption) ?_
    | with_reducible refine map_held ?_ | with_reducible refine bind_held ?_ ?_ | with_reducible refine some_held ?_ (by assumption)
    | with_reducible refine ite_opt_held ?_ ?_ | with_reducible refine ite_held ?_ ?_ | with_reducible refine ite_fst_held ?_ ?_
    | (intro hu; cases hu; done) | (intro _ hu; cases hu) | split | dsimp only | intro _ _ _ _ | intro _ _ _ | intro _ _ | intro _
theorem State.cleanRoom_held (s : State) (p : Nat) (hw0 : Held pq s.regs s.pending) : ∀ u, (State.cleanRoom s p) = some u → Held pq u.regs u.pending := by
  unfold State.cleanRoom
  repeat' first
    | with_reducible assumption | with_reducible refine State.dropEntry_held _ _ ?_ | with_reducible refine fst_held (by assumption) ?_
    | with_reducible refine map_held ?_ | with_reducible refine bind_held ?_ ?_ | with_reducible refine some_held ?_ (by assumption)
    | with_reducible refine ite_opt_held ?_ ?_ | with_reducible refine ite_held ?_ ?_ | with_reducible refine ite_fst_held ?_ ?_
    | (intro hu; cases hu; done) | (intro _ hu; cases hu) | split | dsimp only | intro _ _ _ _ | intro _ _ _ | intro _ _ | intro _
theorem State.fill_held (s : State) (p : Nat) (lba : Nat) (k : LineKind) (data : Bytes) (check : Option Check) (hw0 : Held pq s.regs s.pending) : Held pq (State.fill s p lba k data check).regs (State.fill s p lba k data check).pending := by
  unfold State.fill
  repeat' first
    | with_reducible assumption | with_reducible refine some_held (State.cleanRoom_held _ _ ?_) (by assumption)
    | with_reducible refine some_held (State.makeRoom_held _ _ ?_) (by assumption)
    | with_reducible refine some_held (State.prefetchRoom_held _ _ ?_) (by assumption) | with_reducible refine fst_held (by assumption) ?_
    | with_reducible refine map_held ?_ | with_reducible refine bind_held ?_ ?_ | with_reducible refine some_held ?_ (by assumption)
    | with_reducible refine State.cleanRoom_held _ _ ?_ | with_reducible refine State.makeRoom_held _ _ ?_
    | with_reducible refine State.prefetchRoom_held _ _ ?_ | with_reducible refine ite_opt_held ?_ ?_ | with_reducible refine ite_held ?_ ?_
    | with_reducible refine ite_fst_held ?_ ?_ | split | dsimp only | intro _ _ _ _
theorem State.settle_held (s : State) (hw0 : Held pq s.regs s.pending) : Held pq (State.settle s).regs (State.settle s).pending := by
  unfold State.settle
  repeat' first
    | with_reducible assumption | with_reducible refine State.seatBlk_held _ _ _ ?_ | with_reducible refine State.settleAll_held _ ?_
    | with_reducible refine State.unseat_held _ ?_ | with_reducible refine foldl_held _ ?_ _ _ ?_ | with_reducible refine foldl_fst_held _ ?_ _ _ ?_
    | with_reducible refine fst_held (by assumption) ?_ | with_reducible refine ite_held ?_ ?_ | with_reducible refine ite_fst_held ?_ ?_ | split
    | dsimp only | intro _ _ _ _ | intro _ _ _
theorem State.abortExec_held (s : State) (x : Exec) (st : Status) (hw0 : Held pq s.regs s.pending) : Held pq (State.abortExec s x st).regs (State.abortExec s x st).pending := by
  unfold State.abortExec
  repeat' first
    | with_reducible assumption | with_reducible refine State.finishExec_held _ _ _ _ ?_
theorem State.stopPrefetch_held (s : State) (p : Nat) (hw0 : Held pq s.regs s.pending) : Held pq (State.stopPrefetch s p).regs (State.stopPrefetch s p).pending := by
  unfold State.stopPrefetch
  repeat' first
    | with_reducible assumption | with_reducible refine State.dropEntries_held _ _ ?_
theorem State.nextUpdate_held (s : State) (hw0 : Held pq s.regs s.pending) : Held pq (State.nextUpdate s).regs (State.nextUpdate s).pending := by
  unfold State.nextUpdate
  repeat' first
    | with_reducible assumption | with_reducible refine fst_held (by assumption) ?_ | with_reducible refine ite_held ?_ ?_
    | with_reducible refine ite_fst_held ?_ ?_ | split
theorem State.eraseJournal_held (s : State) (copy : Nat) (pages : Nat) (hw0 : Held pq s.regs s.pending) : Held pq (State.eraseJournal s copy pages).regs (State.eraseJournal s copy pages).pending := by
  unfold State.eraseJournal
  repeat' first
    | with_reducible assumption | with_reducible refine State.countErase_held _ _ _ _ ?_
theorem State.startUpdate_held (s : State) (u : KeyUpdate) (hw0 : Held pq s.regs s.pending) : Held pq (State.startUpdate s u).regs (State.startUpdate s u).pending := by
  unfold State.startUpdate
  repeat' first
    | with_reducible assumption | with_reducible refine State.nextUpdate_held _ ?_
theorem State.drainEnds_held (s : State) (slot : Nat) (hw0 : Held pq s.regs s.pending) : Held pq (State.drainEnds s slot).regs (State.drainEnds s slot).pending := by
  unfold State.drainEnds
  repeat' first
    | with_reducible assumption | with_reducible refine State.startUpdate_held _ _ ?_
theorem State.keyNote_held (s : State) (ev : String) (slot : Nat) (hw0 : Held pq s.regs s.pending) : Held pq (State.keyNote s ev slot).regs (State.keyNote s ev slot).pending := by
  unfold State.keyNote
  repeat' first
    | with_reducible assumption | with_reducible refine State.notify_held _ _ _ ?_
theorem State.retireSlot_held (s : State) (code : Nat) (hw0 : Held pq s.regs s.pending) : Held pq (State.retireSlot s code).regs (State.retireSlot s code).pending := by
  unfold State.retireSlot
  repeat' first
    | with_reducible assumption | with_reducible refine fst_held (by assumption) ?_ | with_reducible refine ite_held ?_ ?_
theorem State.updateFails_held (s : State) (u : KeyUpdate) (paged : Bool) (hw0 : Held pq s.regs s.pending) : Held pq (State.updateFails s u paged).regs (State.updateFails s u paged).pending := by
  unfold State.updateFails
  repeat' first
    | with_reducible assumption | with_reducible refine State.finishFor_held _ _ _ ?_ | with_reducible refine State.keyNote_held _ _ _ ?_
    | with_reducible refine State.retireSlot_held _ _ ?_ | with_reducible refine fst_held (by assumption) ?_ | with_reducible refine ite_held ?_ ?_
    | with_reducible refine ite_fst_held ?_ ?_ | split
theorem State.deletionDone_held (s : State) (p : Nat) (hw0 : Held pq s.regs s.pending) : Held pq (State.deletionDone s p).regs (State.deletionDone s p).pending := by
  unfold State.deletionDone
  repeat' first
    | with_reducible assumption | with_reducible refine State.finishFor_held _ _ _ ?_
theorem State.deletionStep_held (s : State) (p : Nat) (hw0 : Held pq s.regs s.pending) : Held pq (State.deletionStep s p).regs (State.deletionStep s p).pending := by
  unfold State.deletionStep
  repeat' first
    | with_reducible assumption | with_reducible refine State.deletionDone_held _ _ ?_ | with_reducible refine State.retireSlot_held _ _ ?_
    | with_reducible refine State.setPocket_held _ _ _ ?_ | with_reducible refine foldl_held _ ?_ _ _ ?_
    | with_reducible refine foldl_fst_held _ ?_ _ _ ?_ | with_reducible refine fst_held (by assumption) ?_ | with_reducible refine ite_held ?_ ?_
    | with_reducible refine ite_fst_held ?_ ?_ | split | dsimp only | intro _ _ _ _ | intro _ _ _
theorem State.deletionsGo_held (s : State) (hw0 : Held pq s.regs s.pending) : Held pq (State.deletionsGo s).regs (State.deletionsGo s).pending := by
  unfold State.deletionsGo
  repeat' first
    | with_reducible assumption | with_reducible refine State.deletionStep_held _ _ ?_ | with_reducible refine foldl_held _ ?_ _ _ ?_
    | with_reducible refine foldl_fst_held _ ?_ _ _ ?_ | with_reducible refine fst_held (by assumption) ?_ | split | dsimp only | intro _ _ _ _
    | intro _ _ _

end Sys2Proof.Machine
end

