-- ==== Sys2Proof/Laws/Held2.lean ====
section
/-!
SUPPORT. Sys2Proof/Laws/Held2.lean: the canonical form of the register file and the waiting commands, continued from
Held1.lean.
-/
namespace Sys2Proof.Machine
open Sys2Proof

variable {pq : List Instr}
theorem State.setArb_held (s : State) (cl : Nat) (ptr : Nat) (visiting : Bool) (hw0 : Held pq s.regs s.pending) : Held pq (State.setArb s cl ptr visiting).regs (State.setArb s cl ptr visiting).pending := by
  unfold State.setArb
  exact hw0
theorem State.leaveVisit_held (s : State) (cl : Nat) (p : Nat) (hw0 : Held pq s.regs s.pending) : Held pq (State.leaveVisit s cl p).regs (State.leaveVisit s cl p).pending := by
  unfold State.leaveVisit
  repeat' first
    | with_reducible assumption | with_reducible refine State.setArb_held _ _ _ _ ?_ | with_reducible refine State.setPocket_held _ _ _ ?_
    | with_reducible refine fst_held (by assumption) ?_ | with_reducible refine ite_held ?_ ?_ | with_reducible refine ite_fst_held ?_ ?_ | split
theorem State.drr_held (s : State) (es : List (Nat × QueuePair)) (cl : Nat) (fuelN : Nat) (hw0 : Held pq s.regs s.pending) : ∀ u, (State.drr s es cl fuelN) = some u → Held pq u.1.regs u.1.pending := by
  induction fuelN generalizing s es cl with
  | zero =>
    unfold State.drr
    repeat' first
      | with_reducible assumption | with_reducible refine State.leaveVisit_held _ _ _ ?_ | with_reducible refine State.setArb_held _ _ _ _ ?_
      | with_reducible refine State.setPocket_held _ _ _ ?_ | with_reducible refine ih _ _ _ ?_
      | with_reducible refine some_fst_held (ih _ _ _ ?_) (by assumption) | with_reducible refine fst_held (by assumption) ?_
      | with_reducible refine ite_held ?_ ?_ | with_reducible refine ite_fst_held ?_ ?_ | (intro hu; cases hu; done) | (intro _ hu; cases hu)
  | succ n ih =>
    unfold State.drr
    repeat' first
      | with_reducible assumption | with_reducible refine State.leaveVisit_held _ _ _ ?_ | with_reducible refine State.setArb_held _ _ _ _ ?_
      | with_reducible refine State.setPocket_held _ _ _ ?_ | with_reducible refine ih _ _ _ ?_
      | with_reducible refine some_fst_held (ih _ _ _ ?_) (by assumption) | with_reducible refine fst_held (by assumption) ?_
      | with_reducible refine ite_held ?_ ?_ | with_reducible refine ite_fst_held ?_ ?_ | (intro hu; cases hu; done) | (intro _ hu; cases hu)
      | split | dsimp only
theorem State.startTrim_held (s : State) (x : Exec) (fuelN : QueuePair) (hw0 : Held pq s.regs s.pending) : Held pq (State.startTrim s x fuelN).regs (State.startTrim s x fuelN).pending := by
  unfold State.startTrim
  repeat' first
    | with_reducible assumption | with_reducible refine State.dropPrefetch_held _ _ _ _ ?_ | with_reducible refine State.setExec_held _ _ ?_
theorem State.admitWrite_held (s : State) (x : Exec) (hw0 : Held pq s.regs s.pending) : Held pq (State.admitWrite s x).1.regs (State.admitWrite s x).1.pending := by
  unfold State.admitWrite
  repeat' first
    | with_reducible assumption | with_reducible refine State.count_held _ _ _ ?_ | with_reducible refine fst_held (by assumption) ?_
    | with_reducible refine ite_held ?_ ?_ | with_reducible refine ite_fst_held ?_ ?_
theorem State.newExec_held (s : State) (q : Nat) (p : Nat) (c : Cmd) (k : QueuePair) (hw0 : Held pq s.regs s.pending) : Held pq (State.newExec s q p c k).1.regs (State.newExec s q p c k).1.pending := by
  unfold State.newExec
  exact hw0
theorem State.refuse_held (s : State) (q : Nat) (cmd : Cmd) (st : Status) (hw0 : Held pq s.regs s.pending) : Held pq (State.refuse s q cmd st).regs (State.refuse s q cmd st).pending := by
  unfold State.refuse
  repeat' first
    | with_reducible assumption | with_reducible refine State.count_held _ _ _ ?_ | with_reducible refine State.notify_held _ _ _ ?_
    | with_reducible refine fst_held (by assumption) ?_ | with_reducible refine ite_held ?_ ?_
theorem State.takeEntry_held (s : State) (q : Nat) (c : Cmd) (e : Bytes) (badFrame : Bool) (hw0 : Held pq s.regs s.pending) : Held pq (State.takeEntry s q c e badFrame).regs (State.takeEntry s q c e badFrame).pending := by
  unfold State.takeEntry
  repeat' first
    | with_reducible assumption | with_reducible refine State.count_held _ _ _ ?_ | with_reducible refine State.postCpl_held _ _ _ ?_
    | with_reducible refine State.refuse_held _ _ _ _ ?_ | with_reducible refine State.setQueue_held _ _ _ ?_
    | with_reducible refine fst_held (by assumption) ?_ | with_reducible refine ite_held ?_ ?_ | with_reducible refine ite_fst_held ?_ ?_ | split
theorem State.acceptEntry_held (s : State) (q : Nat) (e : Bytes) (badFrame : Bool) (hw0 : Held pq s.regs s.pending) : Held pq (State.acceptEntry s q e badFrame).regs (State.acceptEntry s q e badFrame).pending := by
  unfold State.acceptEntry
  repeat' first
    | with_reducible assumption | with_reducible refine State.takeEntry_held _ _ _ _ _ ?_
theorem State.select_held (s : State) (hw0 : Held pq s.regs s.pending) : ∀ u, (State.select s) = some u → Held pq u.1.regs u.1.pending := by
  unfold State.select
  repeat' first
    | with_reducible assumption | with_reducible refine some_fst_held (State.drr_held _ _ _ _ ?_) (by assumption)
    | with_reducible refine State.drr_held _ _ _ _ ?_ | with_reducible refine State.setQueue_held _ _ _ ?_
    | with_reducible refine fst_held (by assumption) ?_ | with_reducible refine ite_held ?_ ?_ | with_reducible refine ite_fst_held ?_ ?_
    | (intro hu; cases hu; done) | (intro _ hu; cases hu) | split | dsimp only
theorem State.sealReady_held (s : State) (x : Exec) (hw0 : Held pq s.regs s.pending) : Held pq (State.sealReady s x).regs (State.sealReady s x).pending := by
  unfold State.sealReady
  repeat' first
    | with_reducible assumption | with_reducible refine State.cross_held _ _ _ ?_ | with_reducible refine State.finishExec_held _ _ _ _ ?_
    | with_reducible refine fst_held (by assumption) ?_ | with_reducible refine ite_held ?_ ?_
theorem State.advanceAll_held (s : State) (id : Nat) (n : Nat) (hw0 : Held pq s.regs s.pending) : Held pq (State.advanceAll s id n).regs (State.advanceAll s id n).pending := by
  unfold State.advanceAll
  repeat' first
    | with_reducible assumption | with_reducible refine State.advanceBlk_held _ _ _ ?_ | with_reducible refine foldl_held _ ?_ _ _ ?_
    | with_reducible refine foldl_fst_held _ ?_ _ _ ?_ | with_reducible refine fst_held (by assumption) ?_ | split | dsimp only | intro _ _ _ _
    | intro _ _ _
theorem State.startCopy_held (s : State) (x : Exec) (fuelN : QueuePair) (hw0 : Held pq s.regs s.pending) : Held pq (State.startCopy s x fuelN).regs (State.startCopy s x fuelN).pending := by
  unfold State.startCopy
  repeat' first
    | with_reducible assumption | with_reducible refine State.admitWrite_held _ _ ?_ | with_reducible refine State.advanceAll_held _ _ _ ?_
    | with_reducible refine State.dropPrefetch_held _ _ _ _ ?_ | with_reducible refine State.markRange_held _ _ _ _ ?_
    | with_reducible refine State.mirror_held _ _ ?_ | with_reducible refine State.setExec_held _ _ ?_
    | with_reducible refine State.startBlock_held _ _ _ _ ?_ | with_reducible refine foldl_held _ ?_ _ _ ?_
    | with_reducible refine foldl_fst_held _ ?_ _ _ ?_ | with_reducible refine fst_held (by assumption) ?_ | split | dsimp only | intro _ _ _ _
    | intro _ _ _
theorem State.endVisits_held (s : State) (hw0 : Held pq s.regs s.pending) : Held pq (State.endVisits s).regs (State.endVisits s).pending := by
  unfold State.endVisits
  repeat' first
    | with_reducible assumption | with_reducible refine State.leaveVisit_held _ _ _ ?_ | with_reducible refine foldl_held _ ?_ _ _ ?_
    | with_reducible refine foldl_fst_held _ ?_ _ _ ?_ | with_reducible refine fst_held (by assumption) ?_ | with_reducible refine ite_held ?_ ?_
    | with_reducible refine ite_fst_held ?_ ?_ | split | dsimp only | intro _ _ _ _ | intro _ _ _
theorem State.startSeal_held (s : State) (x : Exec) (fuelN : QueuePair) (hw0 : Held pq s.regs s.pending) : Held pq (State.startSeal s x fuelN).regs (State.startSeal s x fuelN).pending := by
  unfold State.startSeal
  repeat' first
    | with_reducible assumption | with_reducible refine State.sealReady_held _ _ ?_
theorem State.startFlush_held (s : State) (x : Exec) (fuelN : QueuePair) (hw0 : Held pq s.regs s.pending) : Held pq (State.startFlush s x fuelN).regs (State.startFlush s x fuelN).pending := by
  unfold State.startFlush
  repeat' first
    | with_reducible assumption | with_reducible refine State.awaitEntries_held _ _ _ ?_ | with_reducible refine State.sendDeltas_held _ ?_
    | with_reducible refine State.setExec_held _ _ ?_ | with_reducible refine foldl_held _ ?_ _ _ ?_
    | with_reducible refine foldl_fst_held _ ?_ _ _ ?_ | with_reducible refine fst_held (by assumption) ?_ | with_reducible refine ite_held ?_ ?_
theorem State.detect_held (s : State) (p lba n : Nat) (hw0 : Held pq s.regs s.pending) :
    Held pq (State.detect s p lba n).regs (State.detect s p lba n).pending := by
  unfold State.detect
  refine ite_held hw0 ?_
  extract_lets
  split
  · exact hw0
  · exact hw0
theorem State.startRead_held (s : State) (x : Exec) (fuelN : QueuePair) (hw0 : Held pq s.regs s.pending) : Held pq (State.startRead s x fuelN).regs (State.startRead s x fuelN).pending := by
  unfold State.startRead
  repeat' first
    | with_reducible assumption | with_reducible refine State.advanceAll_held _ _ _ ?_ | with_reducible refine State.awaitProgram_held _ _ _ _ ?_
    | with_reducible refine State.detect_held _ _ _ _ ?_ | with_reducible refine State.setExec_held _ _ ?_
    | with_reducible refine State.startBlock_held _ _ _ _ ?_ | with_reducible refine foldl_held _ ?_ _ _ ?_
    | with_reducible refine foldl_fst_held _ ?_ _ _ ?_ | with_reducible refine fst_held (by assumption) ?_ | with_reducible refine ite_held ?_ ?_
    | with_reducible refine ite_fst_held ?_ ?_ | split | dsimp only | intro _ _ _ _ | intro _ _ _
theorem State.startWrite_held (s : State) (x : Exec) (fuelN : QueuePair) (hw0 : Held pq s.regs s.pending) : Held pq (State.startWrite s x fuelN).regs (State.startWrite s x fuelN).pending := by
  unfold State.startWrite
  repeat' first
    | with_reducible assumption | with_reducible refine State.admitWrite_held _ _ ?_ | with_reducible refine State.dropPrefetch_held _ _ _ _ ?_
    | with_reducible refine State.finishExec_held _ _ _ _ ?_ | with_reducible refine State.markRange_held _ _ _ _ ?_
    | with_reducible refine State.mirrorWrite_held _ _ _ _ _ _ _ ?_ | with_reducible refine State.setExec_held _ _ ?_
    | with_reducible refine fst_held (by assumption) ?_ | with_reducible refine ite_held ?_ ?_
theorem State.dispatch_held (s : State) (op : Nat) (bulk : Nat → Cmd → State → Bool) (start : State → Exec → QueuePair → State) (hw0 : Held pq s.regs s.pending) (hf3 : ∀ x0 x1 x2, Held pq x0.regs x0.pending → Held pq (start x0 x1 x2).regs (start x0 x1 x2).pending) : Held pq (State.dispatch s op bulk start).regs (State.dispatch s op bulk start).pending := by
  unfold State.dispatch
  repeat' first
    | with_reducible assumption | with_reducible refine State.count_held _ _ _ ?_ | with_reducible refine State.endVisits_held _ ?_
    | with_reducible refine State.newExec_held _ _ _ _ _ ?_ | with_reducible refine State.postWaiting_held _ _ _ _ ?_
    | with_reducible refine some_fst_held (State.select_held _ ?_) (by assumption) | with_reducible refine State.setQueue_held _ _ _ ?_
    | with_reducible refine State.settle_held _ ?_ | with_reducible refine hf3 _ _ _ ?_ | with_reducible refine fst_held (by assumption) ?_
    | with_reducible refine ite_held ?_ ?_ | with_reducible refine ite_fst_held ?_ ?_ | split
theorem State.tell_held (s : State) (words : List String) (kv : List KV) (hw0 : Held pq s.regs s.pending) : Held pq (State.tell s words kv).regs (State.tell s words kv).pending := by
  unfold State.tell
  repeat' first
    | with_reducible assumption | with_reducible refine State.mirrorLine_held _ _ ?_ | with_reducible refine fst_held (by assumption) ?_
    | with_reducible refine ite_held ?_ ?_
theorem State.tellKey_held (s : State) (slot : Nat) (hw0 : Held pq s.regs s.pending) : Held pq (State.tellKey s slot).regs (State.tellKey s slot).pending := by
  unfold State.tellKey
  repeat' first
    | with_reducible assumption | with_reducible refine State.mirrorLine_held _ _ ?_ | with_reducible refine State.tell_held _ _ _ ?_
    | with_reducible refine foldl_held _ ?_ _ _ ?_ | with_reducible refine foldl_fst_held _ ?_ _ _ ?_
    | with_reducible refine fst_held (by assumption) ?_ | with_reducible refine ite_held ?_ ?_ | with_reducible refine ite_fst_held ?_ ?_ | split
    | dsimp only | intro _ _ _ _ | intro _ _ _
theorem State.drainQueue_held (s : State) (q : Nat) (k : QueuePair) (hw0 : Held pq s.regs s.pending) : Held pq (State.drainQueue s q k).regs (State.drainQueue s q k).pending := by
  unfold State.drainQueue
  repeat' first
    | with_reducible assumption | with_reducible refine State.postWaiting_held _ _ _ _ ?_ | with_reducible refine State.setQueue_held _ _ _ ?_
    | with_reducible refine foldl_held _ ?_ _ _ ?_ | with_reducible refine foldl_fst_held _ ?_ _ _ ?_
    | with_reducible refine fst_held (by assumption) ?_ | split | dsimp only | intro _ _ _ _ | intro _ _ _
theorem State.alterQueue_held (s : State) (q : Nat) (a : QueueAttrs) (hw0 : Held pq s.regs s.pending) : Held pq (State.alterQueue s q a).1.regs (State.alterQueue s q a).1.pending := by
  unfold State.alterQueue
  repeat' first
    | with_reducible assumption | with_reducible refine State.setQueue_held _ _ _ ?_ | with_reducible refine State.tell_held _ _ _ ?_
    | with_reducible refine fst_held (by assumption) ?_ | with_reducible refine ite_held ?_ ?_ | with_reducible refine ite_fst_held ?_ ?_ | split
theorem State.clearLostFlags_held (s : State) (slot : Option Nat) (hw0 : Held pq s.regs s.pending) : Held pq (State.clearLostFlags s slot).1.regs (State.clearLostFlags s slot).1.pending := by
  unfold State.clearLostFlags
  repeat' first
    | with_reducible assumption | with_reducible refine State.startUpdate_held _ _ ?_ | with_reducible refine fst_held (by assumption) ?_
    | with_reducible refine ite_held ?_ ?_ | with_reducible refine ite_fst_held ?_ ?_ | split | dsimp only
theorem State.deleteQueue_held (s : State) (q : Nat) (hw0 : Held pq s.regs s.pending) : Held pq (State.deleteQueue s q).1.regs (State.deleteQueue s q).1.pending := by
  unfold State.deleteQueue
  repeat' first
    | with_reducible assumption | with_reducible refine State.drainQueue_held _ _ _ ?_ | with_reducible refine State.tell_held _ _ _ ?_
    | with_reducible refine fst_held (by assumption) ?_ | with_reducible refine ite_held ?_ ?_ | with_reducible refine ite_fst_held ?_ ?_ | split
theorem State.loadSlot_held (s : State) (slot : Nat) (kind : Nat) (own : Nat) (m : Bytes) (kv : List KV) (data : List (List KV)) (hw0 : Held pq s.regs s.pending) : Held pq (State.loadSlot s slot kind own m kv data).regs (State.loadSlot s slot kind own m kv data).pending := by
  unfold State.loadSlot
  repeat' first
    | with_reducible assumption | with_reducible refine State.startUpdate_held _ _ ?_
theorem State.genKey_held (s : State) (slot : Nat) (kind : Nat) (wrap : Nat) (owner : Option Nat) (hw0 : Held pq s.regs s.pending) : Held pq (State.genKey s slot kind wrap owner).1.regs (State.genKey s slot kind wrap owner).1.pending := by
  unfold State.genKey
  repeat' first
    | with_reducible assumption | with_reducible refine State.loadSlot_held _ _ _ _ _ _ _ ?_ | with_reducible refine State.useFree_held _ ?_
    | with_reducible refine fst_held (by assumption) ?_ | with_reducible refine ite_held ?_ ?_ | with_reducible refine ite_fst_held ?_ ?_ | split
theorem State.tellChange_held (s : State) (p : Nat) (hw0 : Held pq s.regs s.pending) : Held pq (State.tellChange s p).regs (State.tellChange s p).pending := by
  unfold State.tellChange
  repeat' first
    | with_reducible assumption | with_reducible refine State.tell_held _ _ _ ?_ | with_reducible refine fst_held (by assumption) ?_ | split
theorem State.setBase_held (s : State) (p : Nat) (a : Nat) (hw0 : Held pq s.regs s.pending) : Held pq (State.setBase s p a).regs (State.setBase s p a).pending := by
  unfold State.setBase
  repeat' first
    | with_reducible assumption | with_reducible refine State.set_held _ _ _ ?_
theorem State.moveIndex_held (s : State) (p : Nat) (a : Nat) (b : Nat) (n : Nat) (hw0 : Held pq s.regs s.pending) : Held pq (State.moveIndex s p a b n).regs (State.moveIndex s p a b n).pending := by
  unfold State.moveIndex
  repeat' first
    | with_reducible assumption | with_reducible refine State.setBase_held _ _ _ ?_
theorem State.changePocket_held (s : State) (p : Nat) (k : Pocket) (c : PocketChange) (hw0 : Held pq s.regs s.pending) : ∀ u, (State.changePocket s p k c) = some u → Held pq u.regs u.pending := by
  unfold State.changePocket
  repeat' first
    | with_reducible assumption | with_reducible refine State.moveIndex_held _ _ _ _ _ ?_ | with_reducible refine State.setPocket_held _ _ _ ?_
    | with_reducible refine fst_held (by assumption) ?_ | with_reducible refine map_held ?_ | with_reducible refine bind_held ?_ ?_
    | with_reducible refine some_held ?_ (by assumption) | with_reducible refine ite_opt_held ?_ ?_ | with_reducible refine ite_held ?_ ?_
    | with_reducible refine ite_fst_held ?_ ?_ | (intro hu; cases hu; done) | (intro _ hu; cases hu) | split | dsimp only | intro _ _ _ _
    | intro _ _ _ | intro _ _ | intro _
theorem State.trimClean_held (s : State) (p : Nat) (mx : Nat) (fuelN : Nat) (hw0 : Held pq s.regs s.pending) : Held pq (State.trimClean s p mx fuelN).regs (State.trimClean s p mx fuelN).pending := by
  induction fuelN generalizing s p mx with
  | zero =>
    unfold State.trimClean
    exact hw0
  | succ n ih =>
    unfold State.trimClean
    repeat' first
      | with_reducible assumption | with_reducible refine State.dropEntry_held _ _ ?_ | with_reducible refine ih _ _ _ ?_
      | with_reducible refine fst_held (by assumption) ?_ | with_reducible refine ite_held ?_ ?_ | with_reducible refine ite_fst_held ?_ ?_ | split
theorem State.createQueue_held (s : State) (q : Nat) (p : Nat) (a : QueueAttrs) (hw0 : Held pq s.regs s.pending) : Held pq (State.createQueue s q p a).1.regs (State.createQueue s q p a).1.pending := by
  unfold State.createQueue
  repeat' first
    | with_reducible assumption | with_reducible refine State.tell_held _ _ _ ?_ | with_reducible refine fst_held (by assumption) ?_
    | with_reducible refine ite_held ?_ ?_ | with_reducible refine ite_fst_held ?_ ?_ | split
theorem State.turnPocket_held (s : State) (p : Nat) (frm : PocketState) (dst : PocketState) (word : String) (hw0 : Held pq s.regs s.pending) : Held pq (State.turnPocket s p frm dst word).1.regs (State.turnPocket s p frm dst word).1.pending := by
  unfold State.turnPocket
  repeat' first
    | with_reducible assumption | with_reducible refine State.setPocket_held _ _ _ ?_ | with_reducible refine State.stopPrefetch_held _ _ ?_
    | with_reducible refine State.tell_held _ _ _ ?_ | with_reducible refine fst_held (by assumption) ?_ | with_reducible refine ite_held ?_ ?_
    | with_reducible refine ite_fst_held ?_ ?_ | split
theorem State.alterPocket_held (s : State) (p : Nat) (a : PocketAttrs) (hw0 : Held pq s.regs s.pending) : Held pq (State.alterPocket s p a).1.regs (State.alterPocket s p a).1.pending := by
  unfold State.alterPocket
  repeat' first
    | with_reducible assumption | with_reducible refine some_held (State.changePocket_held _ _ _ _ ?_) (by assumption)
    | with_reducible refine State.setPocket_held _ _ _ ?_ | with_reducible refine State.tell_held _ _ _ ?_
    | with_reducible refine fst_held (by assumption) ?_ | with_reducible refine State.changePocket_held _ _ _ _ ?_
    | with_reducible refine ite_opt_held ?_ ?_ | with_reducible refine ite_held ?_ ?_ | with_reducible refine ite_fst_held ?_ ?_ | split
theorem State.createPocket_held (s : State) (p : Nat) (a : PocketAttrs) (hw0 : Held pq s.regs s.pending) : Held pq (State.createPocket s p a).1.regs (State.createPocket s p a).1.pending := by
  unfold State.createPocket
  repeat' first
    | with_reducible assumption | with_reducible refine State.setBase_held _ _ _ ?_ | with_reducible refine State.tell_held _ _ _ ?_
    | with_reducible refine fst_held (by assumption) ?_ | with_reducible refine ite_held ?_ ?_ | with_reducible refine ite_fst_held ?_ ?_ | split
theorem State.unmarkPocket_held (s : State) (p : Nat) (hw0 : Held pq s.regs s.pending) : Held pq (State.unmarkPocket s p).regs (State.unmarkPocket s p).pending := by
  unfold State.unmarkPocket
  exact hw0
theorem State.deletePocket_held (s : State) (p : Nat) (hw0 : Held pq s.regs s.pending) : Held pq (State.deletePocket s p).1.regs (State.deletePocket s p).1.pending := by
  unfold State.deletePocket
  repeat' first
    | with_reducible assumption | with_reducible refine State.deletionUnmap_held _ _ ?_ | with_reducible refine State.deletionsGo_held _ ?_
    | with_reducible refine State.drainQueue_held _ _ _ ?_ | with_reducible refine State.setPocket_held _ _ _ ?_
    | with_reducible refine State.stopPrefetch_held _ _ ?_ | with_reducible refine State.tell_held _ _ _ ?_
    | with_reducible refine State.unmarkPocket_held _ _ ?_ | with_reducible refine foldl_held _ ?_ _ _ ?_
    | with_reducible refine foldl_fst_held _ ?_ _ _ ?_ | with_reducible refine fst_held (by assumption) ?_ | with_reducible refine ite_held ?_ ?_
    | with_reducible refine ite_fst_held ?_ ?_ | split | dsimp only | intro _ _ _ _ | intro _ _ _
theorem State.loadPlain_held (s : State) (blob : Bytes) (slot : Nat) (kind : Nat) (owner : Option Nat) (hw0 : Held pq s.regs s.pending) : Held pq (State.loadPlain s blob slot kind owner).1.regs (State.loadPlain s blob slot kind owner).1.pending := by
  unfold State.loadPlain
  repeat' first
    | with_reducible assumption | with_reducible refine State.loadSlot_held _ _ _ _ _ _ _ ?_ | with_reducible refine fst_held (by assumption) ?_
    | with_reducible refine ite_held ?_ ?_ | with_reducible refine ite_fst_held ?_ ?_ | split
theorem State.setShare_held (s : State) (p : Nat) (a : ShareAttrs) (hw0 : Held pq s.regs s.pending) : Held pq (State.setShare s p a).1.regs (State.setShare s p a).1.pending := by
  unfold State.setShare
  repeat' first
    | with_reducible assumption | with_reducible refine State.setPocket_held _ _ _ ?_ | with_reducible refine State.tell_held _ _ _ ?_
    | with_reducible refine State.trimClean_held _ _ _ _ ?_ | with_reducible refine fst_held (by assumption) ?_
    | with_reducible refine ite_held ?_ ?_ | with_reducible refine ite_fst_held ?_ ?_ | split
theorem State.tellUpdate_held (s : State) (u : KeyUpdate) (hw0 : Held pq s.regs s.pending) : Held pq (State.tellUpdate s u).regs (State.tellUpdate s u).pending := by
  unfold State.tellUpdate
  repeat' first
    | with_reducible assumption | with_reducible refine State.tell_held _ _ _ ?_ | with_reducible refine State.tellKey_held _ _ ?_
    | with_reducible refine fst_held (by assumption) ?_ | with_reducible refine ite_held ?_ ?_ | with_reducible refine ite_fst_held ?_ ?_ | split
theorem State.loadWrapped_held (s : State) (blob : Bytes) (slot : Nat) (kind : Nat) (wrap : Nat) (owner : Option Nat) (hw0 : Held pq s.regs s.pending) : Held pq (State.loadWrapped s blob slot kind wrap owner).1.regs (State.loadWrapped s blob slot kind wrap owner).1.pending := by
  unfold State.loadWrapped
  repeat' first
    | with_reducible assumption | with_reducible refine State.count_held _ _ _ ?_ | with_reducible refine State.loadSlot_held _ _ _ _ _ _ _ ?_
    | with_reducible refine fst_held (by assumption) ?_ | with_reducible refine ite_held ?_ ?_ | with_reducible refine ite_fst_held ?_ ?_ | split
theorem State.eraseKey_held (s : State) (slot : Nat) (hw0 : Held pq s.regs s.pending) : Held pq (State.eraseKey s slot).1.regs (State.eraseKey s slot).1.pending := by
  unfold State.eraseKey
  repeat' first
    | with_reducible assumption | with_reducible refine State.retireSlot_held _ _ ?_ | with_reducible refine fst_held (by assumption) ?_
    | with_reducible refine ite_held ?_ ?_ | with_reducible refine ite_fst_held ?_ ?_ | split
theorem State.dropItems_held (s : State) (tag : Nat) (queue : Nat) (hw0 : Held pq s.regs s.pending) : Held pq (State.dropItems s tag queue).regs (State.dropItems s tag queue).pending := by
  unfold State.dropItems
  exact hw0
theorem State.cutTransfers_held (s : State) (back : List Completion) (hw0 : Held pq s.regs s.pending) : Held pq (State.cutTransfers s back).regs (State.cutTransfers s back).pending := by
  unfold State.cutTransfers
  repeat' first
    | with_reducible assumption | with_reducible refine State.dropItems_held _ _ _ ?_ | with_reducible refine State.finishExec_held _ _ _ _ ?_
    | with_reducible refine State.postWaiting_held _ _ _ _ ?_ | with_reducible refine State.setQueue_held _ _ _ ?_
    | with_reducible refine foldl_held _ ?_ _ _ ?_ | with_reducible refine foldl_fst_held _ ?_ _ _ ?_
    | with_reducible refine fst_held (by assumption) ?_ | with_reducible refine ite_held ?_ ?_ | with_reducible refine ite_fst_held ?_ ?_ | split
    | dsimp only | intro _ _ _ _ | intro _ _ _
theorem State.resetLink_held (s : State) (d : Nat) (hw0 : Held pq s.regs s.pending) : Held pq (State.resetLink s d).regs (State.resetLink s d).pending := by
  unfold State.resetLink
  repeat' first
    | with_reducible assumption | with_reducible refine State.set_held _ _ _ ?_ | with_reducible refine State.fence_held _ _ ?_
    | with_reducible refine fst_held (by assumption) ?_ | with_reducible refine ite_held ?_ ?_
theorem State.sleeveReset_held (s : State) (hw0 : Held pq s.regs s.pending) : Held pq (State.sleeveReset s).regs (State.sleeveReset s).pending := by
  unfold State.sleeveReset
  repeat' first
    | with_reducible assumption | with_reducible refine State.setWord_held _ _ _ ?_ | with_reducible refine State.cutTransfers_held _ _ ?_
    | with_reducible refine State.dropImage_held _ _ ?_ | with_reducible refine State.endSession_held _ _ _ ?_
    | with_reducible refine State.mute_held _ _ ?_ | with_reducible refine State.resetLink_held _ _ ?_
    | with_reducible refine State.sleeveOn_held _ ?_ | with_reducible refine foldl_held _ ?_ _ _ ?_
    | with_reducible refine foldl_fst_held _ ?_ _ _ ?_ | with_reducible refine fst_held (by assumption) ?_ | split | dsimp only | intro _ _ _ _
    | intro _ _ _
theorem State.freeQueue_held (s : State) (q : Nat) (hw0 : Held pq s.regs s.pending) : Held pq (State.freeQueue s q).regs (State.freeQueue s q).pending := by
  unfold State.freeQueue
  exact hw0
theorem held_execQueueFree (queue : Nat) (s : State) (hw1 : Held pq s.regs s.pending) : Keeps pq (execQueueFree queue s) := by
  unfold execQueueFree
  repeat' first
    | with_reducible assumption | with_reducible refine keeps_next ?_ | with_reducible refine State.confRecord_held _ ?_
    | with_reducible refine State.freeQueue_held _ _ ?_ | with_reducible refine State.notify_held _ _ _ ?_
    | with_reducible refine fst_held (by assumption) ?_ | with_reducible refine ite_held ?_ ?_ | with_reducible refine ite_fst_held ?_ ?_
    | with_reducible refine ite_keeps ?_ ?_ | split
theorem State.retrainTurn_held (s : State) (r : Nat) (hw0 : Held pq s.regs s.pending) : Held pq (State.retrainTurn s r).regs (State.retrainTurn s r).pending := by
  unfold State.retrainTurn
  repeat' first
    | with_reducible assumption | with_reducible refine State.set_held _ _ _ ?_ | with_reducible refine State.count_held _ _ _ ?_
    | with_reducible refine State.slvSend_held _ _ ?_ | with_reducible refine ite_held ?_ ?_
theorem held_execTrim (us : Nat) (s : State) (hw1 : Held pq s.regs s.pending) : Keeps pq (execTrim us s) := by
  unfold execTrim
  repeat' first
    | with_reducible assumption | with_reducible refine keeps_next ?_ | with_reducible refine State.at_held _ _ ?_
    | with_reducible refine State.dispatch_held _ _ _ _ ?_ ?_ | with_reducible refine State.startTrim_held _ _ _ ?_
    | with_reducible refine fst_held (by assumption) ?_ | split | dsimp only | intro _ _ _ _
theorem State.place1_held (s : State) (c : Completion) (hw0 : Held pq s.regs s.pending) : Held pq (State.place1 s c).regs (State.place1 s c).pending := by
  unfold State.place1
  repeat' first
    | with_reducible assumption | with_reducible refine State.meter_held _ _ _ _ ?_ | with_reducible refine State.setQueue_held _ _ _ ?_
    | with_reducible refine fst_held (by assumption) ?_ | with_reducible refine ite_held ?_ ?_ | with_reducible refine ite_fst_held ?_ ?_ | split
theorem State.execData_held (s : State) (x : Exec) (offset : Nat) (bs : Bytes) (hw0 : Held pq s.regs s.pending) : Held pq (State.execData s x offset bs).regs (State.execData s x offset bs).pending := by
  unfold State.execData
  repeat' first
    | with_reducible assumption | with_reducible refine State.finishExec_held _ _ _ _ ?_ | with_reducible refine State.sealReady_held _ _ ?_
    | with_reducible refine State.setExec_held _ _ ?_ | with_reducible refine fst_held (by assumption) ?_ | with_reducible refine ite_held ?_ ?_
theorem State.datFrame_held (s : State) (rx : SlvRx) (type : Nat) (tag : Nat) (queue : Nat) (offset : Nat) (payload : Bytes) (hw0 : Held pq s.regs s.pending) : Held pq (State.datFrame s rx type tag queue offset payload).regs (State.datFrame s rx type tag queue offset payload).pending := by
  unfold State.datFrame
  repeat' first
    | with_reducible assumption | with_reducible refine State.count_held _ _ _ ?_ | with_reducible refine State.cross_held _ _ _ ?_
    | with_reducible refine State.execData_held _ _ _ _ ?_ | with_reducible refine State.judge_held _ _ _ ?_
    | with_reducible refine State.resume_held _ ?_ | with_reducible refine State.setQueue_held _ _ _ ?_
    | with_reducible refine State.settle_held _ ?_ | with_reducible refine fst_held (by assumption) ?_ | with_reducible refine ite_held ?_ ?_
    | with_reducible refine ite_fst_held ?_ ?_ | split
theorem held_execRead (us : Nat) (s : State) (hw1 : Held pq s.regs s.pending) : Keeps pq (execRead us s) := by
  unfold execRead
  repeat' first
    | with_reducible assumption | with_reducible refine keeps_next ?_ | with_reducible refine State.at_held _ _ ?_
    | with_reducible refine State.dispatch_held _ _ _ _ ?_ ?_ | with_reducible refine State.startRead_held _ _ _ ?_
    | with_reducible refine fst_held (by assumption) ?_ | split | dsimp only | intro _ _ _ _
theorem held_execBasteCplDeadline (queue : Nat) (tag : Nat) (us : Nat) (s : State) (hw3 : Held pq s.regs s.pending) : Keeps pq (execBasteCplDeadline queue tag us s) := by
  unfold execBasteCplDeadline
  repeat' first
    | with_reducible assumption | with_reducible refine keeps_next ?_ | with_reducible refine State.at_held _ _ ?_
    | with_reducible refine State.setExec_held _ _ ?_ | with_reducible refine State.settle_held _ ?_
    | with_reducible refine fst_held (by assumption) ?_ | with_reducible refine ite_held ?_ ?_ | with_reducible refine ite_fst_held ?_ ?_
    | with_reducible refine ite_keeps ?_ ?_ | split
theorem held_execFlush (us : Nat) (s : State) (hw1 : Held pq s.regs s.pending) : Keeps pq (execFlush us s) := by
  unfold execFlush
  repeat' first
    | with_reducible assumption | with_reducible refine keeps_next ?_ | with_reducible refine State.at_held _ _ ?_
    | with_reducible refine State.dispatch_held _ _ _ _ ?_ ?_ | with_reducible refine State.startFlush_held _ _ _ ?_
    | with_reducible refine fst_held (by assumption) ?_ | split | dsimp only | intro _ _ _ _
theorem State.freePocket_held (s : State) (p : Nat) (hw0 : Held pq s.regs s.pending) : Held pq (State.freePocket s p).regs (State.freePocket s p).pending := by
  unfold State.freePocket
  exact hw0
theorem State.greet_held (s : State) (hw0 : Held pq s.regs s.pending) : Held pq (State.greet s).regs (State.greet s).pending := by
  unfold State.greet
  repeat' first
    | with_reducible assumption | with_reducible refine State.negotiate_held _ _ ?_ | with_reducible refine fst_held (by assumption) ?_
    | with_reducible refine ite_held ?_ ?_
theorem State.placeAll_held (s : State) (placed : List Completion) (per : Nat) (hw0 : Held pq s.regs s.pending) : Held pq (State.placeAll s placed per).regs (State.placeAll s placed per).pending := by
  unfold State.placeAll
  repeat' first
    | with_reducible assumption | with_reducible refine State.place1_held _ _ ?_ | with_reducible refine foldl_held _ ?_ _ _ ?_
    | with_reducible refine foldl_fst_held _ ?_ _ _ ?_ | with_reducible refine fst_held (by assumption) ?_ | split | dsimp only | intro _ _ _ _
    | intro _ _ _
theorem State.cmdFrame_held (s : State) (rx : SlvRx) (queue : Nat) (payload : Bytes) (us : Nat) (hw0 : Held pq s.regs s.pending) : Held pq (State.cmdFrame s rx queue payload us).regs (State.cmdFrame s rx queue payload us).pending := by
  unfold State.cmdFrame
  repeat' first
    | with_reducible assumption | with_reducible refine State.acceptEntry_held _ _ _ _ ?_ | with_reducible refine State.at_held _ _ ?_
    | with_reducible refine State.judge_held _ _ _ ?_ | with_reducible refine State.resume_held _ ?_ | with_reducible refine foldl_held _ ?_ _ _ ?_
    | with_reducible refine foldl_fst_held _ ?_ _ _ ?_ | with_reducible refine fst_held (by assumption) ?_ | with_reducible refine ite_held ?_ ?_
    | with_reducible refine ite_fst_held ?_ ?_ | split | dsimp only | intro _ _ _ _ | intro _ _ _
theorem State.freeIndex_held (s : State) (p : Nat) (size : Nat) (hw0 : Held pq s.regs s.pending) : Held pq (State.freeIndex s p size).regs (State.freeIndex s p size).pending := by
  unfold State.freeIndex
  repeat' first
    | with_reducible assumption | with_reducible refine State.set_held _ _ _ ?_
theorem held_execSeal (us : Nat) (s : State) (hw1 : Held pq s.regs s.pending) : Keeps pq (execSeal us s) := by
  unfold execSeal
  repeat' first
    | with_reducible assumption | with_reducible refine keeps_next ?_ | with_reducible refine State.at_held _ _ ?_
    | with_reducible refine State.dispatch_held _ _ _ _ ?_ ?_ | with_reducible refine State.startSeal_held _ _ _ ?_
    | with_reducible refine fst_held (by assumption) ?_ | split | dsimp only | intro _ _ _ _
theorem State.noteSent_held (s : State) (fuelN : TxItem) (hw0 : Held pq s.regs s.pending) : Held pq (State.noteSent s fuelN).regs (State.noteSent s fuelN).pending := by
  unfold State.noteSent
  repeat' first
    | with_reducible assumption | with_reducible refine State.count_held _ _ _ ?_ | with_reducible refine State.cross_held _ _ _ ?_
    | with_reducible refine State.setExec_held _ _ ?_ | with_reducible refine fst_held (by assumption) ?_ | with_reducible refine ite_held ?_ ?_
    | with_reducible refine ite_fst_held ?_ ?_ | split | dsimp only
theorem held_execWrite (us : Nat) (s : State) (hw1 : Held pq s.regs s.pending) : Keeps pq (execWrite us s) := by
  unfold execWrite
  repeat' first
    | with_reducible assumption | with_reducible refine keeps_next ?_ | with_reducible refine State.at_held _ _ ?_
    | with_reducible refine State.dispatch_held _ _ _ _ ?_ ?_ | with_reducible refine State.startWrite_held _ _ _ ?_
    | with_reducible refine fst_held (by assumption) ?_ | split | dsimp only | intro _ _ _ _
theorem held_execVerify (us : Nat) (s : State) (hw1 : Held pq s.regs s.pending) : Keeps pq (execVerify us s) := by
  unfold execVerify
  repeat' first
    | with_reducible assumption | with_reducible refine keeps_next ?_ | with_reducible refine State.at_held _ _ ?_
    | with_reducible refine State.dispatch_held _ _ _ _ ?_ ?_ | with_reducible refine State.startRead_held _ _ _ ?_
    | with_reducible refine fst_held (by assumption) ?_ | split | dsimp only | intro _ _ _ _
theorem held_execPocketSizeReduceApply (pocket : Nat) (s : State) (hw1 : Held pq s.regs s.pending) : Keeps pq (execPocketSizeReduceApply pocket s) := by
  unfold execPocketSizeReduceApply
  repeat' first
    | with_reducible assumption | with_reducible refine keeps_next ?_
    | with_reducible refine some_held (State.changePocket_held _ _ _ _ ?_) (by assumption) | with_reducible refine State.finishFor_held _ _ _ ?_
    | with_reducible refine State.setPocket_held _ _ _ ?_ | with_reducible refine State.tellChange_held _ _ ?_
    | with_reducible refine fst_held (by assumption) ?_ | with_reducible refine getD_held ?_ ?_
    | with_reducible refine State.changePocket_held _ _ _ _ ?_ | with_reducible refine ite_opt_held ?_ ?_ | with_reducible refine ite_held ?_ ?_
    | with_reducible refine ite_fst_held ?_ ?_ | with_reducible refine ite_keeps ?_ ?_ | split
theorem held_execCopy (us : Nat) (s : State) (hw1 : Held pq s.regs s.pending) : Keeps pq (execCopy us s) := by
  unfold execCopy
  repeat' first
    | with_reducible assumption | with_reducible refine keeps_next ?_ | with_reducible refine State.at_held _ _ ?_
    | with_reducible refine State.dispatch_held _ _ _ _ ?_ ?_ | with_reducible refine State.startCopy_held _ _ _ ?_
    | with_reducible refine fst_held (by assumption) ?_ | split | dsimp only | intro _ _ _ _
theorem State.sendTurn_held (s : State) (plan : TurnPlan) (hw0 : Held pq s.regs s.pending) : Held pq (State.sendTurn s plan).regs (State.sendTurn s plan).pending := by
  unfold State.sendTurn
  repeat' first
    | with_reducible assumption | with_reducible refine State.set_held _ _ _ ?_ | with_reducible refine State.count_held _ _ _ ?_
    | with_reducible refine State.noteSent_held _ _ ?_ | with_reducible refine State.slvSend_held _ _ ?_
    | with_reducible refine foldl_held _ ?_ _ _ ?_ | with_reducible refine foldl_fst_held _ ?_ _ _ ?_
    | with_reducible refine fst_held (by assumption) ?_ | with_reducible refine ite_held ?_ ?_ | with_reducible refine ite_fst_held ?_ ?_ | split
    | dsimp only | intro _ _ _ _ | intro _ _ _
theorem held_execCardTurnStart (fit : Nat) (us : Nat) (s : State) (hw2 : Held pq s.regs s.pending) : Keeps pq (execCardTurnStart fit us s) := by
  unfold execCardTurnStart
  repeat' first
    | with_reducible assumption | with_reducible refine keeps_next ?_ | with_reducible refine State.at_held _ _ ?_
    | with_reducible refine State.placeAll_held _ _ _ ?_ | with_reducible refine State.retrainTurn_held _ _ ?_
    | with_reducible refine State.sendTurn_held _ _ ?_ | with_reducible refine State.settle_held _ ?_
    | with_reducible refine fst_held (by assumption) ?_ | with_reducible refine ite_held ?_ ?_ | with_reducible refine ite_fst_held ?_ ?_
    | with_reducible refine ite_keeps ?_ ?_ | split | dsimp only
theorem held_execPocketDeleteFinish (pocket : Nat) (s : State) (hw1 : Held pq s.regs s.pending) : Keeps pq (execPocketDeleteFinish pocket s) := by
  unfold execPocketDeleteFinish
  repeat' first
    | with_reducible assumption | with_reducible refine keeps_next ?_ | with_reducible refine State.closeFinal_held _ _ ?_
    | with_reducible refine State.confRecord_held _ ?_ | with_reducible refine State.freeIndex_held _ _ _ ?_
    | with_reducible refine State.freePocket_held _ _ ?_ | with_reducible refine State.freeQueue_held _ _ ?_
    | with_reducible refine State.notify_held _ _ _ ?_ | with_reducible refine foldl_held _ ?_ _ _ ?_
    | with_reducible refine foldl_fst_held _ ?_ _ _ ?_ | with_reducible refine fst_held (by assumption) ?_ | with_reducible refine ite_held ?_ ?_
    | with_reducible refine ite_fst_held ?_ ?_ | with_reducible refine ite_keeps ?_ ?_ | split | dsimp only | intro _ _ _ _ | intro _ _ _
theorem State.onBlk_held (s : State) (id : Nat) (i : Nat) (f : State → Exec → Blk → State × Blk) (hw0 : Held pq s.regs s.pending) (hf3 : ∀ x0 x1 x2, Held pq x0.regs x0.pending → Held pq (f x0 x1 x2).1.regs (f x0 x1 x2).1.pending) : Held pq (State.onBlk s id i f).regs (State.onBlk s id i f).pending := by
  unfold State.onBlk
  repeat' first
    | with_reducible assumption | with_reducible refine State.advanceBlk_held _ _ _ ?_ | with_reducible refine State.setExec_held _ _ ?_
    | with_reducible refine hf3 _ _ _ ?_ | with_reducible refine fst_held (by assumption) ?_ | split
theorem State.giveUp_held (s : State) (ppa : Nat) (j : Nat) (st : Status) (hw0 : Held pq s.regs s.pending) : Held pq (State.giveUp s ppa j st).regs (State.giveUp s ppa j st).pending := by
  unfold State.giveUp
  repeat' first
    | with_reducible assumption | with_reducible refine State.onBlk_held _ _ _ _ ?_ ?_ | with_reducible refine foldl_held _ ?_ _ _ ?_
    | with_reducible refine foldl_fst_held _ ?_ _ _ ?_ | with_reducible refine fst_held (by assumption) ?_ | split | dsimp only | intro _ _ _ _
    | intro _ _ _
theorem State.loseBlock_held (s : State) (ppa : Nat) (j : Nat) (hw0 : Held pq s.regs s.pending) : Held pq (State.loseBlock s ppa j).regs (State.loseBlock s ppa j).pending := by
  unfold State.loseBlock
  repeat' first
    | with_reducible assumption | with_reducible refine State.count_held _ _ _ ?_ | with_reducible refine State.giveUp_held _ _ _ _ ?_
    | with_reducible refine State.notify_held _ _ _ ?_ | with_reducible refine State.queueReloc_held _ _ _ _ ?_
    | with_reducible refine fst_held (by assumption) ?_ | split | dsimp only
theorem State.setRecov_held (s : State) (rs : List Recovery) (hw0 : Held pq s.regs s.pending) : Held pq (State.setRecov s rs).regs (State.setRecov s rs).pending := by
  unfold State.setRecov
  exact hw0
theorem State.failRecovery_held (s : State) (r : Recovery) (hw0 : Held pq s.regs s.pending) : Held pq (State.failRecovery s r).regs (State.failRecovery s r).pending := by
  unfold State.failRecovery
  repeat' first
    | with_reducible assumption | with_reducible refine State.loseBlock_held _ _ _ ?_ | with_reducible refine State.setRecov_held _ _ ?_
    | with_reducible refine foldl_held _ ?_ _ _ ?_ | with_reducible refine foldl_fst_held _ ?_ _ _ ?_
    | with_reducible refine fst_held (by assumption) ?_ | split | dsimp only | intro _ _ _ _ | intro _ _ _
theorem State.countLap_held (s : State) (ppa : Nat) (j : Nat) (res : Decode) (hw0 : Held pq s.regs s.pending) : Held pq (State.countLap s ppa j res).regs (State.countLap s ppa j res).pending := by
  unfold State.countLap
  repeat' first
    | with_reducible assumption | with_reducible refine fst_held (by assumption) ?_ | split
theorem State.segHeld_held (s : State) (e : Nat) (hw0 : Held pq s.regs s.pending) : Held pq (State.segHeld s e).regs (State.segHeld s e).pending := by
  unfold State.segHeld
  repeat' first
    | with_reducible assumption | with_reducible refine State.evictSegs_held _ ?_ | with_reducible refine State.setSeg_held _ _ _ ?_
    | with_reducible refine State.touchSeg_held _ _ ?_ | with_reducible refine fst_held (by assumption) ?_ | with_reducible refine ite_held ?_ ?_
    | with_reducible refine ite_fst_held ?_ ?_ | split
theorem State.lookupsEnd_held (s : State) (e : Nat) (hw0 : Held pq s.regs s.pending) : Held pq (State.lookupsEnd s e).regs (State.lookupsEnd s e).pending := by
  unfold State.lookupsEnd
  repeat' first
    | with_reducible assumption | with_reducible refine State.finish_held _ _ _ ?_ | with_reducible refine foldl_held _ ?_ _ _ ?_
    | with_reducible refine foldl_fst_held _ ?_ _ _ ?_ | with_reducible refine fst_held (by assumption) ?_ | with_reducible refine ite_held ?_ ?_
    | with_reducible refine ite_fst_held ?_ ?_ | split | dsimp only | intro _ _ _ _ | intro _ _ _
theorem State.readOn_held (s : State) (x : Exec) (i : Nat) (b : Blk) (hw0 : Held pq s.regs s.pending) : Held pq (State.readOn s x i b).1.regs (State.readOn s x i b).1.pending := by
  unfold State.readOn
  repeat' first
    | with_reducible assumption | with_reducible refine State.startBlock_held _ _ _ _ ?_
theorem State.releaseFua_held (s : State) (hw0 : Held pq s.regs s.pending) : Held pq (State.releaseFua s).regs (State.releaseFua s).pending := by
  unfold State.releaseFua
  repeat' first
    | with_reducible assumption | with_reducible refine State.onBlk_held _ _ _ _ ?_ ?_ | with_reducible refine State.readOn_held _ _ _ _ ?_
    | with_reducible refine foldl_held _ ?_ _ _ ?_ | with_reducible refine foldl_fst_held _ ?_ _ _ ?_
    | with_reducible refine fst_held (by assumption) ?_ | with_reducible refine ite_held ?_ ?_ | with_reducible refine ite_fst_held ?_ ?_ | split
    | dsimp only | intro _ _ _ _ | intro _ _ _
theorem State.relaxFor_held (s : State) (fills : List Nat) (sel : Exec → Bool) (hw0 : Held pq s.regs s.pending) : Held pq (State.relaxFor s fills sel).regs (State.relaxFor s fills sel).pending := by
  unfold State.relaxFor
  exact hw0
theorem State.entriesSet_held (s : State) (p : Nat) (fills : List Nat) (hw0 : Held pq s.regs s.pending) : Held pq (State.entriesSet s p fills).regs (State.entriesSet s p fills).pending := by
  unfold State.entriesSet
  repeat' first
    | with_reducible assumption | with_reducible refine State.dropEntry_held _ _ ?_ | with_reducible refine State.relaxFor_held _ _ _ ?_
    | with_reducible refine foldl_held _ ?_ _ _ ?_ | with_reducible refine foldl_fst_held _ ?_ _ _ ?_
    | with_reducible refine fst_held (by assumption) ?_ | with_reducible refine ite_held ?_ ?_ | with_reducible refine ite_fst_held ?_ ?_ | split
    | dsimp only | intro _ _ _ _ | intro _ _ _
theorem State.commitStitch_held (s : State) (g : Prog) (p : Nat) (st : Nat) (valid : Nat) (old : Nat) (host : Bool) (fills : List Nat) (hw0 : Held pq s.regs s.pending) : Held pq (State.commitStitch s g p st valid old host fills).regs (State.commitStitch s g p st valid old host fills).pending := by
  unfold State.commitStitch
  repeat' first
    | with_reducible assumption | with_reducible refine State.changeSeg_held _ _ _ _ ?_ | with_reducible refine State.copyAgain_held _ _ ?_
    | with_reducible refine State.entriesSet_held _ _ _ ?_ | with_reducible refine State.leftBolt_held _ _ _ ?_
    | with_reducible refine State.releaseFua_held _ ?_ | with_reducible refine State.setEntry_held _ _ _ _ ?_
    | with_reducible refine State.tidyReloc_held _ _ _ ?_ | with_reducible refine fst_held (by assumption) ?_ | with_reducible refine ite_held ?_ ?_
theorem State.commitOrHold_held (s : State) (g : Prog) (hw0 : Held pq s.regs s.pending) : Held pq (State.commitOrHold s g).regs (State.commitOrHold s g).pending := by
  unfold State.commitOrHold
  repeat' first
    | with_reducible assumption | with_reducible refine State.commitStitch_held _ _ _ _ _ _ _ _ ?_ | with_reducible refine State.needSeg_held _ _ ?_
    | with_reducible refine fst_held (by assumption) ?_ | with_reducible refine ite_held ?_ ?_ | with_reducible refine ite_fst_held ?_ ?_ | split
theorem State.runHeld_held (s : State) (hw0 : Held pq s.regs s.pending) : Held pq (State.runHeld s).regs (State.runHeld s).pending := by
  unfold State.runHeld
  repeat' first
    | with_reducible assumption | with_reducible refine State.commitOrHold_held _ _ ?_ | with_reducible refine foldl_held _ ?_ _ _ ?_
    | with_reducible refine foldl_fst_held _ ?_ _ _ ?_ | with_reducible refine fst_held (by assumption) ?_ | split | dsimp only | intro _ _ _ _
    | intro _ _ _
theorem State.withdraw_held (s : State) (x : Exec) (i : Nat) (b : Blk) (st : Status) (hw0 : Held pq s.regs s.pending) : Held pq (State.withdraw s x i b st).1.regs (State.withdraw s x i b st).1.pending := by
  unfold State.withdraw
  repeat' first
    | with_reducible assumption | with_reducible refine State.unpick_held _ _ _ _ ?_ | with_reducible refine State.unpost_held _ _ _ ?_
    | with_reducible refine fst_held (by assumption) ?_ | with_reducible refine ite_held ?_ ?_ | with_reducible refine ite_fst_held ?_ ?_
theorem State.loseBlk_held (s : State) (x : Exec) (i : Nat) (b : Blk) (mark : Status) (st : Status) (hw0 : Held pq s.regs s.pending) : Held pq (State.loseBlk s x i b mark st).1.regs (State.loseBlk s x i b mark st).1.pending := by
  unfold State.loseBlk
  repeat' first
    | with_reducible assumption | with_reducible refine State.withdraw_held _ _ _ _ _ ?_
theorem State.segBlk_held (s : State) (e : Nat) (id : Nat) (i : Nat) (hw0 : Held pq s.regs s.pending) : Held pq (State.segBlk s e id i).regs (State.segBlk s e id i).pending := by
  unfold State.segBlk
  repeat' first
    | with_reducible assumption | with_reducible refine State.loseBlk_held _ _ _ _ _ _ ?_ | with_reducible refine State.onBlk_held _ _ _ _ ?_ ?_
    | with_reducible refine State.readOn_held _ _ _ _ ?_ | with_reducible refine fst_held (by assumption) ?_ | with_reducible refine ite_held ?_ ?_
    | with_reducible refine ite_fst_held ?_ ?_ | split | dsimp only | intro _ _ _ _
theorem State.segArrives_held (s : State) (e : Nat) (hw0 : Held pq s.regs s.pending) : Held pq (State.segArrives s e).regs (State.segArrives s e).pending := by
  unfold State.segArrives
  repeat' first
    | with_reducible assumption | with_reducible refine State.lookupsEnd_held _ _ ?_ | with_reducible refine State.runHeld_held _ ?_
    | with_reducible refine State.segBlk_held _ _ _ _ ?_ | with_reducible refine State.segHeld_held _ _ ?_
    | with_reducible refine State.settle_held _ ?_ | with_reducible refine foldl_held _ ?_ _ _ ?_ | with_reducible refine foldl_fst_held _ ?_ _ _ ?_
    | with_reducible refine fst_held (by assumption) ?_ | with_reducible refine ite_held ?_ ?_ | with_reducible refine ite_fst_held ?_ ?_ | split
    | dsimp only | intro _ _ _ _ | intro _ _ _
theorem held_execMapSegmentReadDone (entry : Nat) (s : State) (hw1 : Held pq s.regs s.pending) : Keeps pq (execMapSegmentReadDone entry s) := by
  unfold execMapSegmentReadDone
  repeat' first
    | with_reducible assumption | with_reducible refine keeps_next ?_ | with_reducible refine State.cross_held _ _ _ ?_
    | with_reducible refine State.segArrives_held _ _ ?_ | with_reducible refine fst_held (by assumption) ?_ | with_reducible refine ite_held ?_ ?_
    | with_reducible refine ite_fst_held ?_ ?_ | with_reducible refine ite_keeps ?_ ?_ | split
theorem State.copyStitch_held (s : State) (b : Bolt) (p : Nat) (st : Nat) (poison : List Nat) (hw0 : Held pq s.regs s.pending) : Held pq (State.copyStitch s b p st poison).regs (State.copyStitch s b p st poison).pending := by
  unfold State.copyStitch
  repeat' first
    | with_reducible assumption | with_reducible refine State.cross_held _ _ _ ?_ | with_reducible refine State.place_held _ _ _ _ ?_
    | with_reducible refine fst_held (by assumption) ?_ | split | dsimp only
theorem State.gcCopy_held (s : State) (fuelN : Nat) (hw0 : Held pq s.regs s.pending) : Held pq (State.gcCopy s fuelN).regs (State.gcCopy s fuelN).pending := by
  induction fuelN generalizing s with
  | zero =>
    unfold State.gcCopy
    exact hw0
  | succ n ih =>
    unfold State.gcCopy
    repeat' first
      | with_reducible assumption | with_reducible refine State.copyStitch_held _ _ _ _ _ ?_ | with_reducible refine State.count_held _ _ _ ?_
      | with_reducible refine ih _ ?_ | with_reducible refine fst_held (by assumption) ?_ | with_reducible refine ite_held ?_ ?_
      | with_reducible refine ite_fst_held ?_ ?_ | split
theorem State.gcRun_held (s : State) (hw0 : Held pq s.regs s.pending) : Held pq (State.gcRun s).regs (State.gcRun s).pending := by
  unfold State.gcRun
  repeat' first
    | with_reducible assumption | with_reducible refine State.gcCopy_held _ _ ?_
theorem State.takeVictim_held (s : State) (b : Bolt) (hw0 : Held pq s.regs s.pending) : Held pq (State.takeVictim s b).regs (State.takeVictim s b).pending := by
  unfold State.takeVictim
  repeat' first
    | with_reducible assumption | with_reducible refine State.dirtyIndex_held _ _ ?_ | with_reducible refine State.gcRun_held _ ?_
    | with_reducible refine State.retire_held _ _ _ _ ?_ | with_reducible refine State.setBolt_held _ _ ?_
    | with_reducible refine foldl_held _ ?_ _ _ ?_ | with_reducible refine foldl_fst_held _ ?_ _ _ ?_
    | with_reducible refine fst_held (by assumption) ?_ | with_reducible refine ite_held ?_ ?_ | with_reducible refine ite_fst_held ?_ ?_ | split
    | dsimp only | intro _ _ _ _ | intro _ _ _
theorem held_execWearLevelStart (group : Nat) (s : State) (hw1 : Held pq s.regs s.pending) : Keeps pq (execWearLevelStart group s) := by
  unfold execWearLevelStart
  repeat' first
    | with_reducible assumption | with_reducible refine keeps_next ?_ | with_reducible refine State.takeVictim_held _ _ ?_
    | with_reducible refine foldl_held _ ?_ _ _ ?_ | with_reducible refine foldl_fst_held _ ?_ _ _ ?_
    | with_reducible refine fst_held (by assumption) ?_ | with_reducible refine ite_held ?_ ?_ | with_reducible refine ite_fst_held ?_ ?_
    | with_reducible refine ite_keeps ?_ ?_ | split
theorem State.stepLevels_held (s : State) (ppa : Nat) (k : Nat) (hw0 : Held pq s.regs s.pending) : Held pq (State.stepLevels s ppa k).regs (State.stepLevels s ppa k).pending := by
  unfold State.stepLevels
  exact hw0
theorem State.gotCodeword_held (s : State) (x : Exec) (i : Nat) (b : Blk) (w : Bytes) (hw0 : Held pq s.regs s.pending) : Held pq (State.gotCodeword s x i b w).1.regs (State.gotCodeword s x i b w).1.pending := by
  unfold State.gotCodeword
  repeat' first
    | with_reducible assumption | with_reducible refine State.fill_held _ _ _ _ _ _ ?_ | with_reducible refine State.loseBlk_held _ _ _ _ _ _ ?_
    | with_reducible refine fst_held (by assumption) ?_ | with_reducible refine ite_held ?_ ?_ | with_reducible refine ite_fst_held ?_ ?_
theorem State.deliver_held (s : State) (ppa : Nat) (j : Nat) (w : Bytes) (hw0 : Held pq s.regs s.pending) : Held pq (State.deliver s ppa j w).regs (State.deliver s ppa j w).pending := by
  unfold State.deliver
  repeat' first
    | with_reducible assumption | with_reducible refine State.gotCodeword_held _ _ _ _ _ ?_ | with_reducible refine State.onBlk_held _ _ _ _ ?_ ?_
    | with_reducible refine foldl_held _ ?_ _ _ ?_ | with_reducible refine foldl_fst_held _ ?_ _ _ ?_
    | with_reducible refine fst_held (by assumption) ?_ | split | dsimp only | intro _ _ _ _ | intro _ _ _
theorem State.refreshPage_held (s : State) (ppa : Nat) (hw0 : Held pq s.regs s.pending) : Held pq (State.refreshPage s ppa).regs (State.refreshPage s ppa).pending := by
  unfold State.refreshPage
  repeat' first
    | with_reducible assumption | with_reducible refine State.queueReloc_held _ _ _ _ ?_ | with_reducible refine fst_held (by assumption) ?_ | split
theorem State.retryRight_held (s : State) (ppa : Nat) (k : Nat) (hw0 : Held pq s.regs s.pending) : Held pq (State.retryRight s ppa k).regs (State.retryRight s ppa k).pending := by
  unfold State.retryRight
  repeat' first
    | with_reducible assumption | with_reducible refine State.count_held _ _ _ ?_ | with_reducible refine State.refreshPage_held _ _ ?_
theorem State.retryOne_held (s : State) (ppa : Nat) (jr : Nat × Decode) (hw0 : Held pq s.regs s.pending) : Held pq (State.retryOne s ppa jr).1.regs (State.retryOne s ppa jr).1.pending := by
  unfold State.retryOne
  repeat' first
    | with_reducible assumption | with_reducible refine State.deliver_held _ _ _ _ ?_ | with_reducible refine State.retryRight_held _ _ _ ?_
    | with_reducible refine fst_held (by assumption) ?_ | split
theorem State.crossAgain_held (s : State) (ppa : Nat) (j : Nat) (hw0 : Held pq s.regs s.pending) : Held pq (State.crossAgain s ppa j).regs (State.crossAgain s ppa j).pending := by
  unfold State.crossAgain
  repeat' first
    | with_reducible assumption | with_reducible refine State.cross_held _ _ _ ?_
theorem State.retryAll_held (s : State) (ppa : Nat) (fuelN : List (Nat × Decode)) (hw0 : Held pq s.regs s.pending) : Held pq (State.retryAll s ppa fuelN).1.regs (State.retryAll s ppa fuelN).1.pending := by
  induction fuelN generalizing s ppa with
  | nil =>
    unfold State.retryAll
    exact hw0
  | cons x xs ih =>
    unfold State.retryAll
    repeat' first
      | with_reducible assumption | with_reducible refine State.crossAgain_held _ _ _ ?_ | with_reducible refine State.retryOne_held _ _ _ ?_
      | with_reducible refine ih _ _ ?_
theorem State.nextStep_held (s : State) (r : Recovery) (hw0 : Held pq s.regs s.pending) : Held pq (State.nextStep s r).regs (State.nextStep s r).pending := by
  unfold State.nextStep
  repeat' first
    | with_reducible assumption | with_reducible refine State.failRecovery_held _ _ ?_ | with_reducible refine State.setRecov_held _ _ ?_
    | with_reducible refine fst_held (by assumption) ?_ | with_reducible refine ite_held ?_ ?_
theorem held_execRetryStepDone (ppa : Nat) (errs : List (Nat × List Nat)) (us : Nat) (s : State) (hw3 : Held pq s.regs s.pending) : Keeps pq (execRetryStepDone ppa errs us s) := by
  unfold execRetryStepDone
  repeat' first
    | with_reducible assumption | with_reducible refine keeps_next ?_ | with_reducible refine State.at_held _ _ ?_
    | with_reducible refine State.nextStep_held _ _ ?_ | with_reducible refine State.retryAll_held _ _ _ ?_
    | with_reducible refine State.settle_held _ ?_ | with_reducible refine State.stepLevels_held _ _ _ ?_
    | with_reducible refine fst_held (by assumption) ?_ | with_reducible refine ite_held ?_ ?_ | with_reducible refine ite_fst_held ?_ ?_
    | with_reducible refine ite_keeps ?_ ?_ | split | dsimp only
theorem State.startRecovery_held (s : State) (ppa : Nat) (j : Nat) (us : Nat) (hw0 : Held pq s.regs s.pending) : Held pq (State.startRecovery s ppa j us).regs (State.startRecovery s ppa j us).pending := by
  unfold State.startRecovery
  repeat' first
    | with_reducible assumption | with_reducible refine fst_held (by assumption) ?_ | with_reducible refine ite_held ?_ ?_
    | with_reducible refine ite_fst_held ?_ ?_ | split
theorem State.gcMode_held (s : State) (hw0 : Held pq s.regs s.pending) : Held pq (State.gcMode s).regs (State.gcMode s).pending := by
  unfold State.gcMode
  repeat' first
    | with_reducible assumption | with_reducible refine State.set_held _ _ _ ?_
theorem State.boltErased_held (s : State) (b : Bolt) (hw0 : Held pq s.regs s.pending) : Held pq (State.boltErased s b).regs (State.boltErased s b).pending := by
  unfold State.boltErased
  repeat' first
    | with_reducible assumption | with_reducible refine State.enterIn_held _ _ ?_ | with_reducible refine State.gcMode_held _ ?_
    | with_reducible refine State.gcRun_held _ ?_ | with_reducible refine State.notify_held _ _ _ ?_
    | with_reducible refine State.sendDeltas_held _ ?_ | with_reducible refine State.setBolt_held _ _ ?_
    | with_reducible refine State.setTNext_held _ _ ?_ | with_reducible refine foldl_held _ ?_ _ _ ?_
    | with_reducible refine foldl_fst_held _ ?_ _ _ ?_ | with_reducible refine fst_held (by assumption) ?_ | with_reducible refine ite_held ?_ ?_
    | with_reducible refine ite_fst_held ?_ ?_ | split | dsimp only | intro _ _ _ _ | intro _ _ _
theorem State.rowEnds_held (s : State) (b : Bolt) (hw0 : Held pq s.regs s.pending) : Held pq (State.rowEnds s b).regs (State.rowEnds s b).pending := by
  unfold State.rowEnds
  repeat' first
    | with_reducible assumption | with_reducible refine State.boltFull_held _ _ ?_ | with_reducible refine State.setBolt_held _ _ ?_
    | with_reducible refine fst_held (by assumption) ?_ | with_reducible refine ite_held ?_ ?_
theorem State.closeRow_held (s : State) (g : Prog) (hw0 : Held pq s.regs s.pending) : Held pq (State.closeRow s g).regs (State.closeRow s g).pending := by
  unfold State.closeRow
  repeat' first
    | with_reducible assumption | with_reducible refine State.rowEnds_held _ _ ?_ | with_reducible refine fst_held (by assumption) ?_ | split
theorem State.commitProg_held (s : State) (g : Prog) (hw0 : Held pq s.regs s.pending) : Held pq (State.commitProg s g).regs (State.commitProg s g).pending := by
  unfold State.commitProg
  repeat' first
    | with_reducible assumption | with_reducible refine State.commitOrHold_held _ _ ?_ | with_reducible refine State.deletionsGo_held _ ?_
    | with_reducible refine State.meter_held _ _ _ _ ?_ | with_reducible refine State.relaxFor_held _ _ _ ?_
    | with_reducible refine fst_held (by assumption) ?_ | with_reducible refine ite_held ?_ ?_ | with_reducible refine ite_fst_held ?_ ?_ | split
theorem State.progOk_held (s : State) (g : Prog) (hw0 : Held pq s.regs s.pending) : Held pq (State.progOk s g).regs (State.progOk s g).pending := by
  unfold State.progOk
  repeat' first
    | with_reducible assumption | with_reducible refine State.closeRow_held _ _ ?_ | with_reducible refine State.commitProg_held _ _ ?_
    | with_reducible refine fst_held (by assumption) ?_ | split
theorem held_execRelocation (s : State) (hw0 : Held pq s.regs s.pending) : Keeps pq (execRelocation s) := by
  unfold execRelocation
  repeat' first
    | with_reducible assumption | with_reducible refine keeps_next ?_ | with_reducible refine State.copyStitch_held _ _ _ _ _ ?_
    | with_reducible refine State.tidyReloc_held _ _ _ ?_ | with_reducible refine fst_held (by assumption) ?_ | with_reducible refine ite_held ?_ ?_
    | with_reducible refine ite_fst_held ?_ ?_ | with_reducible refine ite_keeps ?_ ?_ | split
theorem State.progBad_held (s : State) (g : Prog) (hw0 : Held pq s.regs s.pending) : Held pq (State.progBad s g).regs (State.progBad s g).pending := by
  unfold State.progBad
  repeat' first
    | with_reducible assumption | with_reducible refine State.copyAgain_held _ _ ?_ | with_reducible refine State.count_held _ _ _ ?_
    | with_reducible refine State.rowEnds_held _ _ ?_ | with_reducible refine State.setBolt_held _ _ ?_
    | with_reducible refine State.setEntries_held _ _ ?_ | with_reducible refine fst_held (by assumption) ?_ | split | dsimp only
theorem held_execCheckpointTimer (us : Nat) (s : State) (hw1 : Held pq s.regs s.pending) : Keeps pq (execCheckpointTimer us s) := by
  unfold execCheckpointTimer
  repeat' first
    | with_reducible assumption | with_reducible refine keeps_next ?_ | with_reducible refine State.at_held _ _ ?_
    | with_reducible refine State.startCkpt_held _ ?_ | with_reducible refine fst_held (by assumption) ?_ | with_reducible refine ite_held ?_ ?_
    | with_reducible refine ite_fst_held ?_ ?_ | with_reducible refine ite_keeps ?_ ?_
theorem State.ckptWrite_held (s : State) (r : Ckpt) (hw0 : Held pq s.regs s.pending) : Held pq (State.ckptWrite s r).regs (State.ckptWrite s r).pending := by
  unfold State.ckptWrite
  repeat' first
    | with_reducible assumption | with_reducible refine State.bootRecord_held _ _ ?_
theorem State.unclean_held (s : State) (hw0 : Held pq s.regs s.pending) : Held pq (State.unclean s).regs (State.unclean s).pending := by
  unfold State.unclean
  repeat' first
    | with_reducible assumption | with_reducible refine State.ckptWrite_held _ _ ?_ | with_reducible refine fst_held (by assumption) ?_
    | with_reducible refine ite_held ?_ ?_ | with_reducible refine ite_fst_held ?_ ?_ | split
theorem held_execMoverFlush (pocket : Nat) (stitch : Nat) (group : Nat) (idx : Nat) (unc : List Nat) (pad : Bool) (s : State) (hw6 : Held pq s.regs s.pending) : Keeps pq (execMoverFlush pocket stitch group idx unc pad s) := by
  unfold execMoverFlush
  repeat' first
    | with_reducible assumption | with_reducible refine keeps_next ?_ | with_reducible refine State.cross_held _ _ _ ?_
    | with_reducible refine State.needSeg_held _ _ ?_ | with_reducible refine State.padLines_held _ _ _ _ ?_
    | with_reducible refine State.place_held _ _ _ _ ?_ | with_reducible refine State.setEntries_held _ _ ?_
    | with_reducible refine State.unclean_held _ ?_ | with_reducible refine fst_held (by assumption) ?_ | with_reducible refine ite_held ?_ ?_
    | with_reducible refine ite_fst_held ?_ ?_ | with_reducible refine ite_keeps ?_ ?_ | split
theorem State.eraseAll_held (s : State) (hw0 : Held pq s.regs s.pending) : Held pq (State.eraseAll s).regs (State.eraseAll s).pending := by
  unfold State.eraseAll
  repeat' first
    | with_reducible assumption | with_reducible refine State.countErase_held _ _ _ _ ?_ | with_reducible refine State.retire_held _ _ _ _ ?_
    | with_reducible refine foldl_held _ ?_ _ _ ?_ | with_reducible refine foldl_fst_held _ ?_ _ _ ?_
    | with_reducible refine fst_held (by assumption) ?_ | split | dsimp only | intro _ _ _ _ | intro _ _ _
theorem State.countCorrected_held (s : State) (ppa : Nat) (j : Nat) (res : Decode) (hw0 : Held pq s.regs s.pending) : Held pq (State.countCorrected s ppa j res).regs (State.countCorrected s ppa j res).pending := by
  unfold State.countCorrected
  repeat' first
    | with_reducible assumption | with_reducible refine State.count_held _ _ _ ?_ | with_reducible refine State.refreshPage_held _ _ ?_
    | with_reducible refine fst_held (by assumption) ?_ | with_reducible refine ite_held ?_ ?_ | with_reducible refine ite_fst_held ?_ ?_ | split
    | dsimp only
theorem State.hearDecode_held (s : State) (ppa : Nat) (j : Nat) (us : Nat) (res : Decode) (id : Nat) (i : Nat) (hw0 : Held pq s.regs s.pending) : Held pq (State.hearDecode s ppa j us res id i).regs (State.hearDecode s ppa j us res id i).pending := by
  unfold State.hearDecode
  repeat' first
    | with_reducible assumption | with_reducible refine State.gotCodeword_held _ _ _ _ _ ?_ | with_reducible refine State.onBlk_held _ _ _ _ ?_ ?_
    | with_reducible refine State.startRecovery_held _ _ _ _ ?_ | with_reducible refine State.withdraw_held _ _ _ _ _ ?_
    | with_reducible refine fst_held (by assumption) ?_ | split | dsimp only | intro _ _ _ _
theorem State.showRate_held (s : State) (g : Nat) (n : Nat) (hw0 : Held pq s.regs s.pending) : Held pq (State.showRate s g n).regs (State.showRate s g n).pending := by
  unfold State.showRate
  repeat' first
    | with_reducible assumption | with_reducible refine State.setSat_held _ _ _ ?_ | with_reducible refine State.setTNext_held _ _ ?_
theorem State.lapEnds_held (s : State) (hw0 : Held pq s.regs s.pending) : Held pq (State.lapEnds s).regs (State.lapEnds s).pending := by
  unfold State.lapEnds
  repeat' first
    | with_reducible assumption | with_reducible refine State.modeRecord_held _ ?_ | with_reducible refine State.setSat_held _ _ _ ?_
    | with_reducible refine State.showRate_held _ _ _ ?_ | with_reducible refine foldl_held _ ?_ _ _ ?_
    | with_reducible refine foldl_fst_held _ ?_ _ _ ?_ | with_reducible refine fst_held (by assumption) ?_ | with_reducible refine map_held ?_
    | with_reducible refine bind_held ?_ ?_ | with_reducible refine some_held ?_ (by assumption) | split | dsimp only | intro _ _ _ _ | intro _ _ _
theorem State.patrolHears_held (s : State) (ppa : Nat) (j : Nat) (us : Nat) (res : Decode) (hw0 : Held pq s.regs s.pending) : Held pq (State.patrolHears s ppa j us res).regs (State.patrolHears s ppa j us res).pending := by
  unfold State.patrolHears
  repeat' first
    | with_reducible assumption | with_reducible refine State.cross_held _ _ _ ?_ | with_reducible refine State.lapEnds_held _ ?_
    | with_reducible refine State.startRecovery_held _ _ _ _ ?_ | with_reducible refine fst_held (by assumption) ?_
    | with_reducible refine ite_held ?_ ?_
theorem held_execCodewordDecode (ppa : Nat) (j : Nat) (errs : List Nat) (us : Nat) (s : State) (hw4 : Held pq s.regs s.pending) : Keeps pq (execCodewordDecode ppa j errs us s) := by
  unfold execCodewordDecode
  repeat' first
    | with_reducible assumption | with_reducible refine keeps_next ?_ | with_reducible refine State.at_held _ _ ?_
    | with_reducible refine State.countCorrected_held _ _ _ _ ?_ | with_reducible refine State.countLap_held _ _ _ _ ?_
    | with_reducible refine State.hearDecode_held _ _ _ _ _ _ _ ?_ | with_reducible refine State.learn_held _ _ _ _ ?_
    | with_reducible refine State.patrolHears_held _ _ _ _ _ ?_ | with_reducible refine State.settle_held _ ?_
    | with_reducible refine foldl_held _ ?_ _ _ ?_ | with_reducible refine foldl_fst_held _ ?_ _ _ ?_
    | with_reducible refine fst_held (by assumption) ?_ | with_reducible refine ite_held ?_ ?_ | with_reducible refine ite_fst_held ?_ ?_
    | with_reducible refine ite_keeps ?_ ?_ | split | dsimp only | intro _ _ _ _ | intro _ _ _
theorem held_execRecoveryTimeout (ppa : Nat) (us : Nat) (s : State) (hw2 : Held pq s.regs s.pending) : Keeps pq (execRecoveryTimeout ppa us s) := by
  unfold execRecoveryTimeout
  repeat' first
    | with_reducible assumption | with_reducible refine keeps_next ?_ | with_reducible refine State.at_held _ _ ?_
    | with_reducible refine State.failRecovery_held _ _ ?_ | with_reducible refine State.settle_held _ ?_
    | with_reducible refine fst_held (by assumption) ?_ | with_reducible refine ite_held ?_ ?_ | with_reducible refine ite_fst_held ?_ ?_
    | with_reducible refine ite_keeps ?_ ?_ | split | dsimp only
theorem State.readTries_held (s : State) (ppa : Nat) (j : Nat) (tries : List (List Nat)) (k : Nat) (fuelN : Nat) (hw0 : Held pq s.regs s.pending) : Held pq (State.readTries s ppa j tries k fuelN).1.regs (State.readTries s ppa j tries k fuelN).1.pending := by
  induction fuelN generalizing s ppa j tries k with
  | zero =>
    unfold State.readTries
    exact hw0
  | succ n ih =>
    unfold State.readTries
    repeat' first
      | with_reducible assumption | with_reducible refine State.countCorrected_held _ _ _ _ ?_
      | with_reducible refine State.crossAgain_held _ _ _ ?_ | with_reducible refine State.learn_held _ _ _ _ ?_
      | with_reducible refine State.retryRight_held _ _ _ ?_ | with_reducible refine State.stepLevels_held _ _ _ ?_
      | with_reducible refine ih _ _ _ _ _ ?_ | with_reducible refine fst_held (by assumption) ?_ | with_reducible refine ite_held ?_ ?_
      | with_reducible refine ite_fst_held ?_ ?_ | split | dsimp only
theorem State.readPage_held (s : State) (ppa : Nat) (tries : List (List (List Nat))) (hw0 : Held pq s.regs s.pending) : Held pq (State.readPage s ppa tries).1.regs (State.readPage s ppa tries).1.pending := by
  unfold State.readPage
  repeat' first
    | with_reducible assumption | with_reducible refine State.readTries_held _ _ _ _ _ _ ?_ | with_reducible refine foldl_held _ ?_ _ _ ?_
    | with_reducible refine foldl_fst_held _ ?_ _ _ ?_ | with_reducible refine fst_held (by assumption) ?_ | split | dsimp only | intro _ _ _ _
    | intro _ _ _
theorem State.readRow_held (s : State) (ppa : Nat) (reads : List (Nat × List (List (List Nat)))) (fuelN : List Nat) (hw0 : Held pq s.regs s.pending) : Held pq (State.readRow s ppa reads fuelN).1.regs (State.readRow s ppa reads fuelN).1.pending := by
  induction fuelN generalizing s ppa reads with
  | nil =>
    unfold State.readRow
    exact hw0
  | cons x xs ih =>
    unfold State.readRow
    repeat' first
      | with_reducible assumption | with_reducible refine State.readPage_held _ _ _ ?_ | with_reducible refine ih _ _ _ ?_
theorem State.dropRates_held (s : State) (hw0 : Held pq s.regs s.pending) : Held pq (State.dropRates s).regs (State.dropRates s).pending := by
  unfold State.dropRates
  repeat' first
    | with_reducible assumption | with_reducible refine State.showRate_held _ _ _ ?_ | with_reducible refine foldl_held _ ?_ _ _ ?_
    | with_reducible refine foldl_fst_held _ ?_ _ _ ?_ | with_reducible refine fst_held (by assumption) ?_ | split | dsimp only | intro _ _ _ _
    | intro _ _ _
theorem State.writeIndexPage_held (s : State) (n : Nat) (hw0 : Held pq s.regs s.pending) : Held pq (State.writeIndexPage s n).regs (State.writeIndexPage s n).pending := by
  unfold State.writeIndexPage
  repeat' first
    | with_reducible assumption | with_reducible refine State.leftBolt_held _ _ _ ?_ | with_reducible refine State.putMapPage_held _ _ _ _ ?_
    | with_reducible refine fst_held (by assumption) ?_ | split
theorem State.writeIndex_held (s : State) (hw0 : Held pq s.regs s.pending) : Held pq (State.writeIndex s).regs (State.writeIndex s).pending := by
  unfold State.writeIndex
  repeat' first
    | with_reducible assumption | with_reducible refine State.writeIndexPage_held _ _ ?_ | with_reducible refine foldl_held _ ?_ _ _ ?_
    | with_reducible refine foldl_fst_held _ ?_ _ _ ?_ | with_reducible refine fst_held (by assumption) ?_ | split | dsimp only | intro _ _ _ _
    | intro _ _ _
theorem State.ckptRecord_held (s : State) (c : CkptRun) (hw0 : Held pq s.regs s.pending) : Held pq (State.ckptRecord s c).regs (State.ckptRecord s c).pending := by
  unfold State.ckptRecord
  repeat' first
    | with_reducible assumption | with_reducible refine State.beginCkpt_held _ _ _ ?_ | with_reducible refine State.ckptWrite_held _ _ ?_
    | with_reducible refine State.deletionsGo_held _ ?_ | with_reducible refine fst_held (by assumption) ?_ | with_reducible refine ite_held ?_ ?_
theorem State.ckptEnds_held (s : State) (hw0 : Held pq s.regs s.pending) : Held pq (State.ckptEnds s).1.regs (State.ckptEnds s).1.pending := by
  unfold State.ckptEnds
  repeat' first
    | with_reducible assumption | with_reducible refine State.ckptRecord_held _ _ ?_ | with_reducible refine State.finishFor_held _ _ _ ?_
    | with_reducible refine State.settle_held _ ?_ | with_reducible refine State.writeIndex_held _ ?_
    | with_reducible refine fst_held (by assumption) ?_ | with_reducible refine ite_held ?_ ?_ | with_reducible refine ite_fst_held ?_ ?_ | split
theorem State.writeSeg_held (s : State) (entry : Nat) (hw0 : Held pq s.regs s.pending) : Held pq (State.writeSeg s entry).regs (State.writeSeg s entry).pending := by
  unfold State.writeSeg
  repeat' first
    | with_reducible assumption | with_reducible refine State.putSeg_held _ _ ?_ | with_reducible refine State.runHeld_held _ ?_
    | with_reducible refine State.settle_held _ ?_ | with_reducible refine fst_held (by assumption) ?_ | with_reducible refine ite_held ?_ ?_
    | with_reducible refine ite_fst_held ?_ ?_ | split
theorem State.ckptWhole_held (s : State) (hw0 : Held pq s.regs s.pending) : Held pq (State.ckptWhole s).1.regs (State.ckptWhole s).1.pending := by
  unfold State.ckptWhole
  repeat' first
    | with_reducible assumption | with_reducible refine State.ckptEnds_held _ ?_ | with_reducible refine State.writeSeg_held _ _ ?_
    | with_reducible refine foldl_held _ ?_ _ _ ?_ | with_reducible refine foldl_fst_held _ ?_ _ _ ?_
    | with_reducible refine fst_held (by assumption) ?_ | split | dsimp only | intro _ _ _ _ | intro _ _ _
theorem State.cleanCheckpoint_held (s : State) (hw0 : Held pq s.regs s.pending) : Held pq (State.cleanCheckpoint s).1.regs (State.cleanCheckpoint s).1.pending := by
  unfold State.cleanCheckpoint
  repeat' first
    | with_reducible assumption | with_reducible refine State.beginCkpt_held _ _ _ ?_ | with_reducible refine State.ckptWhole_held _ ?_
    | with_reducible refine fst_held (by assumption) ?_ | with_reducible refine ite_held ?_ ?_ | with_reducible refine ite_fst_held ?_ ?_ | split
theorem State.formatAll_held (s : State) (hw0 : Held pq s.regs s.pending) : Held pq (State.formatAll s).regs (State.formatAll s).pending := by
  unfold State.formatAll
  repeat' first
    | with_reducible assumption | with_reducible refine State.set_held _ _ _ ?_ | with_reducible refine State.cleanCheckpoint_held _ ?_
    | with_reducible refine State.confRecord_held _ ?_ | with_reducible refine State.dropRates_held _ ?_
    | with_reducible refine State.eraseAll_held _ ?_ | with_reducible refine State.gcMode_held _ ?_ | with_reducible refine State.keep_held _ _ _ ?_
    | with_reducible refine State.showCapacity_held _ ?_
theorem held_execGcStart (s : State) (hw0 : Held pq s.regs s.pending) : Keeps pq (execGcStart s) := by
  unfold execGcStart
  repeat' first
    | with_reducible assumption | with_reducible refine keeps_next ?_ | with_reducible refine State.set_held _ _ _ ?_
    | with_reducible refine State.gcMode_held _ ?_ | with_reducible refine State.notify_held _ _ _ ?_
    | with_reducible refine State.takeVictim_held _ _ ?_ | with_reducible refine fst_held (by assumption) ?_ | with_reducible refine ite_held ?_ ?_
    | with_reducible refine ite_fst_held ?_ ?_ | with_reducible refine ite_keeps ?_ ?_ | split
theorem State.redoParity_held (s : State) (g : Nat) (i : Nat) (hw0 : Held pq s.regs s.pending) : Held pq (State.redoParity s g i).regs (State.redoParity s g i).pending := by
  unfold State.redoParity
  repeat' first
    | with_reducible assumption | with_reducible refine fst_held (by assumption) ?_ | with_reducible refine ite_held ?_ ?_
    | with_reducible refine ite_fst_held ?_ ?_ | split
theorem State.stitchProgrammed_held (s : State) (ppa : Nat) (ok : Bool) (hw0 : Held pq s.regs s.pending) : Held pq (State.stitchProgrammed s ppa ok).regs (State.stitchProgrammed s ppa ok).pending := by
  unfold State.stitchProgrammed
  repeat' first
    | with_reducible assumption | with_reducible refine State.flushMode_held _ ?_ | with_reducible refine State.gcRun_held _ ?_
    | with_reducible refine State.padRow_held _ _ _ _ ?_ | with_reducible refine State.progBad_held _ _ ?_
    | with_reducible refine State.progOk_held _ _ ?_ | with_reducible refine State.redoParity_held _ _ _ ?_
    | with_reducible refine State.settle_held _ ?_ | with_reducible refine foldl_held _ ?_ _ _ ?_ | with_reducible refine foldl_fst_held _ ?_ _ _ ?_
    | with_reducible refine fst_held (by assumption) ?_ | with_reducible refine ite_held ?_ ?_ | with_reducible refine ite_fst_held ?_ ?_ | split
    | dsimp only | intro _ _ _ _ | intro _ _ _
theorem State.checkpointEnds_held (s : State) (us : Nat) (hw0 : Held pq s.regs s.pending) : Held pq (State.checkpointEnds s us).regs (State.checkpointEnds s us).pending := by
  unfold State.checkpointEnds
  repeat' first
    | with_reducible assumption | with_reducible refine State.at_held _ _ ?_ | with_reducible refine State.ckptEnds_held _ ?_
theorem State.rebuildEnds_held (s : State) (r : Recovery) (pg : Page) (hw0 : Held pq s.regs s.pending) : Held pq (State.rebuildEnds s r pg).regs (State.rebuildEnds s r pg).pending := by
  unfold State.rebuildEnds
  repeat' first
    | with_reducible assumption | with_reducible refine State.count_held _ _ _ ?_ | with_reducible refine State.deliver_held _ _ _ _ ?_
    | with_reducible refine State.loseBlock_held _ _ _ ?_ | with_reducible refine State.refreshPage_held _ _ ?_
    | with_reducible refine State.setRecov_held _ _ ?_ | with_reducible refine foldl_held _ ?_ _ _ ?_
    | with_reducible refine foldl_fst_held _ ?_ _ _ ?_ | with_reducible refine fst_held (by assumption) ?_ | with_reducible refine ite_held ?_ ?_
    | with_reducible refine ite_fst_held ?_ ?_ | split | dsimp only | intro _ _ _ _ | intro _ _ _
theorem held_execRebuildDone (ppa : Nat) (reads : List (Nat × List (List (List Nat)))) (us : Nat) (s : State) (hw3 : Held pq s.regs s.pending) : Keeps pq (execRebuildDone ppa reads us s) := by
  unfold execRebuildDone
  repeat' first
    | with_reducible assumption | with_reducible refine keeps_next ?_ | with_reducible refine State.at_held _ _ ?_
    | with_reducible refine State.failRecovery_held _ _ ?_ | with_reducible refine State.giveUp_held _ _ _ _ ?_
    | with_reducible refine State.readRow_held _ _ _ _ ?_ | with_reducible refine State.rebuildEnds_held _ _ _ ?_
    | with_reducible refine State.setRecov_held _ _ ?_ | with_reducible refine State.settle_held _ ?_ | with_reducible refine foldl_held _ ?_ _ _ ?_
    | with_reducible refine foldl_fst_held _ ?_ _ _ ?_ | with_reducible refine fst_held (by assumption) ?_ | with_reducible refine ite_held ?_ ?_
    | with_reducible refine ite_fst_held ?_ ?_ | with_reducible refine ite_keeps ?_ ?_ | split | dsimp only | intro _ _ _ _ | intro _ _ _
theorem held_execPatrolSlow (us : Nat) (s : State) (hw1 : Held pq s.regs s.pending) : Keeps pq (execPatrolSlow us s) := by
  unfold execPatrolSlow
  repeat' first
    | with_reducible assumption | with_reducible refine keeps_next ?_ | with_reducible refine State.at_held _ _ ?_
    | with_reducible refine State.notify_held _ _ _ ?_ | with_reducible refine fst_held (by assumption) ?_ | with_reducible refine ite_held ?_ ?_
    | with_reducible refine ite_fst_held ?_ ?_ | with_reducible refine ite_keeps ?_ ?_
theorem State.readonlyExit_held (s : State) (hw0 : Held pq s.regs s.pending) : Held pq (State.readonlyExit s).regs (State.readonlyExit s).pending := by
  unfold State.readonlyExit
  repeat' first
    | with_reducible assumption | with_reducible refine State.set_held _ _ _ ?_ | with_reducible refine fst_held (by assumption) ?_
    | with_reducible refine ite_held ?_ ?_
theorem held_execBoltRelease (group : Nat) (idx : Nat) (s : State) (hw2 : Held pq s.regs s.pending) : Keeps pq (execBoltRelease group idx s) := by
  unfold execBoltRelease
  repeat' first
    | with_reducible assumption | with_reducible refine keeps_next ?_ | with_reducible refine State.gcMode_held _ ?_
    | with_reducible refine State.readonlyExit_held _ ?_ | with_reducible refine fst_held (by assumption) ?_ | with_reducible refine ite_held ?_ ?_
    | with_reducible refine ite_fst_held ?_ ?_ | with_reducible refine ite_keeps ?_ ?_ | split
theorem held_execBlockEraseDone (group : Nat) (idx : Nat) (ch : Nat) (ok : Bool) (s : State) (hw4 : Held pq s.regs s.pending) : Keeps pq (execBlockEraseDone group idx ch ok s) := by
  unfold execBlockEraseDone
  repeat' first
    | with_reducible assumption | with_reducible refine keeps_next ?_ | with_reducible refine State.boltErased_held _ _ ?_
    | with_reducible refine State.count_held _ _ _ ?_ | with_reducible refine State.countErase_held _ _ _ _ ?_
    | with_reducible refine State.retire_held _ _ _ _ ?_ | with_reducible refine State.setBolt_held _ _ ?_
    | with_reducible refine fst_held (by assumption) ?_ | with_reducible refine ite_held ?_ ?_ | with_reducible refine ite_fst_held ?_ ?_
    | with_reducible refine ite_keeps ?_ ?_ | split
theorem held_execFlashPatrolRead (us : Nat) (s : State) (hw1 : Held pq s.regs s.pending) : Keeps pq (execFlashPatrolRead us s) := by
  unfold execFlashPatrolRead
  repeat' first
    | with_reducible assumption | with_reducible refine keeps_next ?_ | with_reducible refine State.at_held _ _ ?_
    | with_reducible refine State.lapEnds_held _ ?_ | with_reducible refine fst_held (by assumption) ?_ | with_reducible refine ite_held ?_ ?_
    | with_reducible refine ite_fst_held ?_ ?_ | with_reducible refine ite_keeps ?_ ?_ | split
theorem held_execBoltOpen (group : Nat) (idx : Nat) (use : Nat) (s : State) (hw3 : Held pq s.regs s.pending) : Keeps pq (execBoltOpen group idx use s) := by
  unfold execBoltOpen
  repeat' first
    | with_reducible assumption | with_reducible refine keeps_next ?_ | with_reducible refine State.erasePages_held _ _ _ ?_
    | with_reducible refine fst_held (by assumption) ?_ | with_reducible refine ite_held ?_ ?_ | with_reducible refine ite_fst_held ?_ ?_
    | with_reducible refine ite_keeps ?_ ?_
theorem held_execFlashFormatDone (us : Nat) (s : State) (hw1 : Held pq s.regs s.pending) : Keeps pq (execFlashFormatDone us s) := by
  unfold execFlashFormatDone
  repeat' first
    | with_reducible assumption | with_reducible refine keeps_next ?_ | with_reducible refine State.at_held _ _ ?_
    | with_reducible refine State.endJobOf_held _ _ _ ?_ | with_reducible refine State.formatAll_held _ ?_
    | with_reducible refine fst_held (by assumption) ?_ | with_reducible refine ite_held ?_ ?_ | with_reducible refine ite_fst_held ?_ ?_
    | with_reducible refine ite_keeps ?_ ?_
theorem held_execMapSegmentWriteDone (entry : Nat) (fit : Nat) (s : State) (hw2 : Held pq s.regs s.pending) : Keeps pq (execMapSegmentWriteDone entry fit s) := by
  unfold execMapSegmentWriteDone
  repeat' first
    | with_reducible assumption | with_reducible refine keeps_next ?_ | with_reducible refine State.writeSeg_held _ _ ?_
theorem held_execBulkBlockStart (core : Nat) (raw : Bytes) (s : State) (hw2 : Held pq s.regs s.pending) : Keeps pq (execBulkBlockStart core raw s) := by
  unfold execBulkBlockStart
  repeat' first
    | with_reducible assumption | with_reducible refine keeps_next ?_ | with_reducible refine State.setExec_held _ _ ?_
    | with_reducible refine fst_held (by assumption) ?_ | with_reducible refine ite_held ?_ ?_ | with_reducible refine ite_fst_held ?_ ?_
    | with_reducible refine ite_keeps ?_ ?_ | split
theorem State.rbOutput_held (s : State) (core : Nat) (b : Bytes) (hw0 : Held pq s.regs s.pending) : Held pq (State.rbOutput s core b).regs (State.rbOutput s core b).pending := by
  unfold State.rbOutput
  repeat' first
    | with_reducible assumption | with_reducible refine State.setOn_held _ _ _ _ ?_ | with_reducible refine foldl_held _ ?_ _ _ ?_
    | with_reducible refine foldl_fst_held _ ?_ _ _ ?_ | with_reducible refine fst_held (by assumption) ?_ | split | dsimp only | intro _ _ _ _
    | intro _ _ _
theorem State.rawBlock_held (s : State) (core : Nat) (p1 : Bool) (dec : Bool) (slot : Nat) (hw0 : Held pq s.regs s.pending) : Held pq (State.rawBlock s core p1 dec slot).regs (State.rawBlock s core p1 dec slot).pending := by
  unfold State.rawBlock
  repeat' first
    | with_reducible assumption | with_reducible refine State.rbOutput_held _ _ _ ?_ | with_reducible refine State.setOn_held _ _ _ _ ?_
    | with_reducible refine fst_held (by assumption) ?_ | with_reducible refine ite_held ?_ ?_ | with_reducible refine ite_fst_held ?_ ?_ | split
    | dsimp only
theorem held_execKeyRbEncrypt (core : Nat) (p1 : Bool) (slot : Nat) (s : State) (hw3 : Held pq s.regs s.pending) : Keeps pq (execKeyRbEncrypt core p1 slot s) := by
  unfold execKeyRbEncrypt
  repeat' first
    | with_reducible assumption | with_reducible refine keeps_next ?_ | with_reducible refine State.rawBlock_held _ _ _ _ _ ?_
    | with_reducible refine fst_held (by assumption) ?_ | with_reducible refine ite_held ?_ ?_ | with_reducible refine ite_fst_held ?_ ?_
    | with_reducible refine ite_keeps ?_ ?_
theorem held_execJournalBlockErase (us : Nat) (s : State) (hw1 : Held pq s.regs s.pending) : Keeps pq (execJournalBlockErase us s) := by
  unfold execJournalBlockErase
  repeat' first
    | with_reducible assumption | with_reducible refine keeps_next ?_ | with_reducible refine State.at_held _ _ ?_
    | with_reducible refine State.eraseJournal_held _ _ _ ?_ | with_reducible refine State.nextUpdate_held _ ?_
    | with_reducible refine fst_held (by assumption) ?_ | with_reducible refine ite_held ?_ ?_ | with_reducible refine ite_fst_held ?_ ?_
    | with_reducible refine ite_keeps ?_ ?_
theorem held_execNonceReserve (s : State) (hw0 : Held pq s.regs s.pending) : Keeps pq (execNonceReserve s) := by
  unfold execNonceReserve
  repeat' first
    | with_reducible assumption | with_reducible refine keeps_next ?_ | with_reducible refine fst_held (by assumption) ?_
    | with_reducible refine ite_held ?_ ?_ | with_reducible refine ite_fst_held ?_ ?_ | with_reducible refine ite_keeps ?_ ?_
theorem State.encrypted_held (s : State) (x : Exec) (i : Nat) (b : Blk) (hw0 : Held pq s.regs s.pending) : Held pq (State.encrypted s x i b).regs (State.encrypted s x i b).pending := by
  unfold State.encrypted
  repeat' first
    | with_reducible assumption | with_reducible refine State.count_held _ _ _ ?_ | with_reducible refine State.cross_held _ _ _ ?_
    | with_reducible refine State.setExec_held _ _ ?_
theorem State.gmacReply_held (s : State) (slot : Nat) (msg : Bytes) (hw0 : Held pq s.regs s.pending) : Held pq (State.gmacReply s slot msg).1.regs (State.gmacReply s slot msg).1.pending := by
  unfold State.gmacReply
  exact hw0
theorem State.cipherGmac_held (s : State) (slot : Nat) (msg : Bytes) (hw0 : Held pq s.regs s.pending) : Held pq (State.cipherGmac s slot msg).1.regs (State.cipherGmac s slot msg).1.pending := by
  unfold State.cipherGmac
  repeat' first
    | with_reducible assumption | with_reducible refine State.gmacReply_held _ _ _ ?_ | with_reducible refine fst_held (by assumption) ?_
    | with_reducible refine ite_held ?_ ?_ | with_reducible refine ite_fst_held ?_ ?_ | split
theorem held_execKeyRbDecrypt (core : Nat) (p1 : Bool) (slot : Nat) (s : State) (hw3 : Held pq s.regs s.pending) : Keeps pq (execKeyRbDecrypt core p1 slot s) := by
  unfold execKeyRbDecrypt
  repeat' first
    | with_reducible assumption | with_reducible refine keeps_next ?_ | with_reducible refine State.rawBlock_held _ _ _ _ _ ?_
    | with_reducible refine fst_held (by assumption) ?_ | with_reducible refine ite_held ?_ ?_ | with_reducible refine ite_fst_held ?_ ?_
    | with_reducible refine ite_keeps ?_ ?_
theorem State.decrypted_held (s : State) (x : Exec) (i : Nat) (b : Blk) (hw0 : Held pq s.regs s.pending) : Held pq (State.decrypted s x i b).regs (State.decrypted s x i b).pending := by
  unfold State.decrypted
  repeat' first
    | with_reducible assumption | with_reducible refine State.count_held _ _ _ ?_ | with_reducible refine State.cross_held _ _ _ ?_
    | with_reducible refine State.postBlock_held _ _ _ _ ?_ | with_reducible refine State.setExec_held _ _ ?_
    | with_reducible refine fst_held (by assumption) ?_ | with_reducible refine ite_held ?_ ?_
theorem held_execBulkBlockDone (core : Nat) (s : State) (hw1 : Held pq s.regs s.pending) : Keeps pq (execBulkBlockDone core s) := by
  unfold execBulkBlockDone
  repeat' first
    | with_reducible assumption | with_reducible refine keeps_next ?_ | with_reducible refine State.advanceBlk_held _ _ _ ?_
    | with_reducible refine State.decrypted_held _ _ _ _ ?_ | with_reducible refine State.encrypted_held _ _ _ _ ?_
    | with_reducible refine State.flushMode_held _ ?_ | with_reducible refine State.setExec_held _ _ ?_
    | with_reducible refine State.settle_held _ ?_ | with_reducible refine fst_held (by assumption) ?_ | with_reducible refine ite_held ?_ ?_
    | with_reducible refine ite_fst_held ?_ ?_ | with_reducible refine ite_keeps ?_ ?_ | split | dsimp only
theorem held_execKeyDrainEnd (slot : Nat) (s : State) (hw1 : Held pq s.regs s.pending) : Keeps pq (execKeyDrainEnd slot s) := by
  unfold execKeyDrainEnd
  repeat' first
    | with_reducible assumption | with_reducible refine keeps_next ?_ | with_reducible refine State.drainEnds_held _ _ ?_
    | with_reducible refine fst_held (by assumption) ?_ | with_reducible refine ite_held ?_ ?_ | with_reducible refine ite_fst_held ?_ ?_
    | with_reducible refine ite_keeps ?_ ?_
theorem held_execPrefetchFill (pocket : Nat) (lba : Nat) (errs : List Nat) (s : State) (hw3 : Held pq s.regs s.pending) : Keeps pq (execPrefetchFill pocket lba errs s) := by
  unfold execPrefetchFill
  repeat' first
    | with_reducible assumption | with_reducible refine keeps_next ?_ | with_reducible refine State.count_held _ _ _ ?_
    | with_reducible refine State.countCorrected_held _ _ _ _ ?_ | with_reducible refine State.countLap_held _ _ _ _ ?_
    | with_reducible refine State.cross_held _ _ _ ?_ | with_reducible refine State.fill_held _ _ _ _ _ _ ?_
    | with_reducible refine State.learn_held _ _ _ _ ?_ | with_reducible refine fst_held (by assumption) ?_ | with_reducible refine ite_held ?_ ?_
    | with_reducible refine ite_fst_held ?_ ?_ | with_reducible refine ite_keeps ?_ ?_ | split | dsimp only
theorem held_execGmacVerify (queue : Nat) (tag : Nat) (blk : Nat) (s : State) (hw3 : Held pq s.regs s.pending) : Keeps pq (execGmacVerify queue tag blk s) := by
  unfold execGmacVerify
  repeat' first
    | with_reducible assumption | with_reducible refine keeps_next ?_ | with_reducible refine State.advanceBlk_held _ _ _ ?_
    | with_reducible refine State.awaitProgram_held _ _ _ _ ?_ | with_reducible refine State.count_held _ _ _ ?_
    | with_reducible refine State.setExec_held _ _ ?_ | with_reducible refine State.settle_held _ ?_
    | with_reducible refine State.startBlock_held _ _ _ _ ?_ | with_reducible refine State.withdraw_held _ _ _ _ _ ?_
    | with_reducible refine fst_held (by assumption) ?_ | with_reducible refine ite_held ?_ ?_ | with_reducible refine ite_fst_held ?_ ?_
    | with_reducible refine ite_keeps ?_ ?_ | split

end Sys2Proof.Machine
end

