-- ==== Sys2Proof/Laws/Held3.lean ====
section
/-!
SUPPORT. Sys2Proof/Laws/Held3.lean: the canonical form of the register file and the waiting commands, continued from
Held2.lean.
-/
namespace Sys2Proof.Machine
open Sys2Proof

variable {pq : List Instr}
theorem State.gmacsGo_held (s : State) (hw0 : Held pq s.regs s.pending) : Held pq (State.gmacsGo s).regs (State.gmacsGo s).pending := by
  unfold State.gmacsGo
  repeat' first
    | with_reducible assumption | with_reducible refine State.finish_held _ _ _ ?_ | with_reducible refine State.gmacReply_held _ _ _ ?_
    | with_reducible refine foldl_held _ ?_ _ _ ?_ | with_reducible refine foldl_fst_held _ ?_ _ _ ?_
    | with_reducible refine fst_held (by assumption) ?_ | split | dsimp only | intro _ _ _ _ | intro _ _ _
theorem held_execNonceReserveDone (ok : Bool) (s : State) (hw1 : Held pq s.regs s.pending) : Keeps pq (execNonceReserveDone ok s) := by
  unfold execNonceReserveDone
  repeat' first
    | with_reducible assumption | with_reducible refine keeps_next ?_ | with_reducible refine State.gmacsGo_held _ ?_
    | with_reducible refine fst_held (by assumption) ?_ | with_reducible refine ite_held ?_ ?_ | with_reducible refine ite_fst_held ?_ ?_
    | with_reducible refine ite_keeps ?_ ?_
theorem held_execJournalCommit (us : Nat) (s : State) (hw1 : Held pq s.regs s.pending) : Keeps pq (execJournalCommit us s) := by
  unfold execJournalCommit
  repeat' first
    | with_reducible assumption | with_reducible refine keeps_next ?_ | with_reducible refine State.set_held _ _ _ ?_
    | with_reducible refine State.at_held _ _ ?_ | with_reducible refine State.deletionsGo_held _ ?_
    | with_reducible refine State.finishFor_held _ _ _ ?_ | with_reducible refine State.nextUpdate_held _ ?_
    | with_reducible refine State.tellUpdate_held _ _ ?_ | with_reducible refine fst_held (by assumption) ?_ | with_reducible refine ite_held ?_ ?_
    | with_reducible refine ite_fst_held ?_ ?_ | with_reducible refine ite_keeps ?_ ?_ | split | dsimp only
theorem held_execJournalTimeout (paged : Bool) (us : Nat) (s : State) (hw2 : Held pq s.regs s.pending) : Keeps pq (execJournalTimeout paged us s) := by
  unfold execJournalTimeout
  repeat' first
    | with_reducible assumption | with_reducible refine keeps_next ?_ | with_reducible refine State.at_held _ _ ?_
    | with_reducible refine State.deletionsGo_held _ ?_ | with_reducible refine State.nextUpdate_held _ ?_
    | with_reducible refine State.updateFails_held _ _ _ ?_ | with_reducible refine fst_held (by assumption) ?_
    | with_reducible refine ite_held ?_ ?_ | with_reducible refine ite_fst_held ?_ ?_ | with_reducible refine ite_keeps ?_ ?_ | split | dsimp only
theorem held_execKeyDrainTimeout (slot : Nat) (us : Nat) (s : State) (hw2 : Held pq s.regs s.pending) : Keeps pq (execKeyDrainTimeout slot us s) := by
  unfold execKeyDrainTimeout
  repeat' first
    | with_reducible assumption | with_reducible refine keeps_next ?_ | with_reducible refine State.abortExec_held _ _ _ ?_
    | with_reducible refine State.at_held _ _ ?_ | with_reducible refine State.deletionsGo_held _ ?_
    | with_reducible refine State.drainEnds_held _ _ ?_ | with_reducible refine foldl_held _ ?_ _ _ ?_
    | with_reducible refine foldl_fst_held _ ?_ _ _ ?_ | with_reducible refine fst_held (by assumption) ?_ | with_reducible refine ite_held ?_ ?_
    | with_reducible refine ite_fst_held ?_ ?_ | with_reducible refine ite_keeps ?_ ?_ | split | dsimp only | intro _ _ _ _ | intro _ _ _
theorem State.countHop_held (s : State) (p : Nat) (hw0 : Held pq s.regs s.pending) : Held pq (State.countHop s p).regs (State.countHop s p).pending := by
  unfold State.countHop
  repeat' first
    | with_reducible assumption | with_reducible refine State.count_held _ _ _ ?_
theorem State.resetHop_held (s : State) (p : Nat) (hw0 : Held pq s.regs s.pending) : Held pq (State.resetHop s p).regs (State.resetHop s p).pending := by
  unfold State.resetHop
  repeat' first
    | with_reducible assumption | with_reducible refine State.countHop_held _ _ ?_ | with_reducible refine State.pumpHop_held _ _ _ ?_
    | with_reducible refine State.setHop_held _ _ _ ?_
theorem State.hearHop_held (s : State) (p : Nat) (b : Bytes) (hw0 : Held pq s.regs s.pending) : ∀ u, (State.hearHop s p b) = some u → Held pq u.regs u.pending := by
  unfold State.hearHop
  repeat' first
    | with_reducible assumption | with_reducible refine State.set_held _ _ _ ?_ | with_reducible refine State.resetHop_held _ _ ?_
    | with_reducible refine State.setHop_held _ _ _ ?_ | with_reducible refine fst_held (by assumption) ?_
    | with_reducible refine ite_opt_held ?_ ?_ | with_reducible refine ite_held ?_ ?_ | with_reducible refine ite_fst_held ?_ ?_
    | (intro hu; cases hu; done) | (intro _ hu; cases hu)
theorem State.dropFrame_held (s : State) (hw0 : Held pq s.regs s.pending) : Held pq (State.dropFrame s).regs (State.dropFrame s).pending := by
  unfold State.dropFrame
  repeat' first
    | with_reducible assumption | with_reducible refine State.count_held _ _ _ ?_
theorem State.closePort_held (s : State) (ph : HopPhase) (p : Nat) (hw0 : Held pq s.regs s.pending) : Held pq (State.closePort s ph p).regs (State.closePort s ph p).pending := by
  unfold State.closePort
  repeat' first
    | with_reducible assumption | with_reducible refine State.set_held _ _ _ ?_ | with_reducible refine State.setHop_held _ _ _ ?_
    | with_reducible refine State.setPhase_held _ _ _ ?_
theorem State.noMantle_held (s : State) (hw0 : Held pq s.regs s.pending) : Held pq (State.noMantle s).regs (State.noMantle s).pending := by
  unfold State.noMantle
  repeat' first
    | with_reducible assumption | with_reducible refine State.set_held _ _ _ ?_
theorem State.lapsePair_held (s : State) (hw0 : Held pq s.regs s.pending) : Held pq (State.lapsePair s).regs (State.lapsePair s).pending := by
  unfold State.lapsePair
  repeat' first
    | with_reducible assumption | with_reducible refine State.finishFor_held _ _ _ ?_ | with_reducible refine State.notify_held _ _ _ ?_
    | with_reducible refine fst_held (by assumption) ?_ | split
theorem State.leaveRing_held (s : State) (ring : Nat) (hw0 : Held pq s.regs s.pending) : Held pq (State.leaveRing s ring).regs (State.leaveRing s ring).pending := by
  unfold State.leaveRing
  repeat' first
    | with_reducible assumption | with_reducible refine State.set_held _ _ _ ?_ | with_reducible refine State.closePort_held _ _ _ ?_
    | with_reducible refine State.lapsePair_held _ ?_ | with_reducible refine State.noMantle_held _ ?_
theorem State.forward_held (s : State) (p : Nat) (f : RFrame) (hw0 : Held pq s.regs s.pending) : Held pq (State.forward s p f).regs (State.forward s p f).pending := by
  unfold State.forward
  repeat' first
    | with_reducible assumption | with_reducible refine State.dropFrame_held _ ?_ | with_reducible refine State.ringPut_held _ _ _ _ ?_
    | with_reducible refine fst_held (by assumption) ?_ | with_reducible refine ite_held ?_ ?_
theorem State.setRoster_held (s : State) (m : Nat) (hw0 : Held pq s.regs s.pending) : Held pq (State.setRoster s m).regs (State.setRoster s m).pending := by
  unfold State.setRoster
  repeat' first
    | with_reducible assumption | with_reducible refine State.set_held _ _ _ ?_ | with_reducible refine State.lapsePair_held _ ?_
    | with_reducible refine fst_held (by assumption) ?_ | with_reducible refine ite_held ?_ ?_ | with_reducible refine ite_fst_held ?_ ?_ | split
    | dsimp only
theorem State.openPorts_held (s : State) (hw0 : Held pq s.regs s.pending) : Held pq (State.openPorts s).regs (State.openPorts s).pending := by
  unfold State.openPorts
  repeat' first
    | with_reducible assumption | with_reducible refine State.set_held _ _ _ ?_
theorem State.setMode_held (s : State) (p : Nat) (rate : Nat) (two : Bool) (hw0 : Held pq s.regs s.pending) : Held pq (State.setMode s p rate two).regs (State.setMode s p rate two).pending := by
  unfold State.setMode
  repeat' first
    | with_reducible assumption | with_reducible refine State.set_held _ _ _ ?_ | with_reducible refine State.setFlag_held _ _ _ ?_
    | with_reducible refine State.setHop_held _ _ _ ?_
theorem State.negotiateHop_held (s : State) (p : Nat) (hw0 : Held pq s.regs s.pending) : Held pq (State.negotiateHop s p).regs (State.negotiateHop s p).pending := by
  unfold State.negotiateHop
  repeat' first
    | with_reducible assumption | with_reducible refine State.countHop_held _ _ ?_ | with_reducible refine State.setHop_held _ _ _ ?_
    | with_reducible refine State.setMode_held _ _ _ _ ?_ | with_reducible refine State.setPhase_held _ _ _ ?_
theorem State.sendBeat_held (s : State) (us : Nat) (forceTick : Bool) (hw0 : Held pq s.regs s.pending) : Held pq (State.sendBeat s us forceTick).regs (State.sendBeat s us forceTick).pending := by
  unfold State.sendBeat
  repeat' first
    | with_reducible assumption | with_reducible refine State.set_held _ _ _ ?_ | with_reducible refine State.closeAll_held _ _ _ ?_
    | with_reducible refine State.ringSend_held _ _ _ _ _ _ ?_ | with_reducible refine fst_held (by assumption) ?_
    | with_reducible refine ite_held ?_ ?_
theorem State.deliverFrame_held (s : State) (p : Nat) (f : RFrame) (hw0 : Held pq s.regs s.pending) : Held pq (State.deliverFrame s p f).regs (State.deliverFrame s p f).pending := by
  unfold State.deliverFrame
  repeat' first
    | with_reducible assumption | with_reducible refine State.dropFrame_held _ ?_ | with_reducible refine fst_held (by assumption) ?_
    | with_reducible refine ite_held ?_ ?_
theorem State.seamCheck_held (s : State) (hw0 : Held pq s.regs s.pending) : Held pq (State.seamCheck s).regs (State.seamCheck s).pending := by
  unfold State.seamCheck
  repeat' first
    | with_reducible assumption | with_reducible refine State.leaveRing_held _ _ ?_ | with_reducible refine fst_held (by assumption) ?_
    | with_reducible refine ite_held ?_ ?_
theorem State.hopAcked_held (s : State) (p : Nat) (e : Nat) (hw0 : Held pq s.regs s.pending) : Held pq (State.hopAcked s p e).regs (State.hopAcked s p e).pending := by
  unfold State.hopAcked
  repeat' first
    | with_reducible assumption | with_reducible refine State.pumpHop_held _ _ _ ?_ | with_reducible refine State.setHop_held _ _ _ ?_
    | with_reducible refine State.twinGo_held _ ?_ | with_reducible refine fst_held (by assumption) ?_ | with_reducible refine ite_held ?_ ?_
theorem State.hopBack_held (s : State) (p : Nat) (e : Nat) (hw0 : Held pq s.regs s.pending) : Held pq (State.hopBack s p e).regs (State.hopBack s p e).pending := by
  unfold State.hopBack
  repeat' first
    | with_reducible assumption | with_reducible refine State.negotiateHop_held _ _ ?_ | with_reducible refine State.pumpHop_held _ _ _ ?_
    | with_reducible refine State.seamOut_held _ _ _ ?_ | with_reducible refine State.setHop_held _ _ _ ?_
    | with_reducible refine foldl_held _ ?_ _ _ ?_ | with_reducible refine foldl_fst_held _ ?_ _ _ ?_
    | with_reducible refine fst_held (by assumption) ?_ | with_reducible refine ite_held ?_ ?_ | with_reducible refine ite_fst_held ?_ ?_ | split
    | dsimp only | intro _ _ _ _ | intro _ _ _
theorem State.dupSlot_held (s : State) (hw0 : Held pq s.regs s.pending) : Held pq (State.dupSlot s).regs (State.dupSlot s).pending := by
  unfold State.dupSlot
  repeat' first
    | with_reducible assumption | with_reducible refine State.set_held _ _ _ ?_ | with_reducible refine State.leaveRing_held _ _ ?_
    | with_reducible refine State.notify_held _ _ _ ?_ | with_reducible refine fst_held (by assumption) ?_ | with_reducible refine ite_held ?_ ?_
theorem State.ringJudge_held (s : State) (p : Nat) (rx : RxInfo) (len : Nat) (hw0 : Held pq s.regs s.pending) : Held pq (State.ringJudge s p rx len).1.regs (State.ringJudge s p rx len).1.pending := by
  unfold State.ringJudge
  repeat' first
    | with_reducible assumption | with_reducible refine State.count_held _ _ _ ?_ | with_reducible refine State.seamOut_held _ _ _ ?_
    | with_reducible refine State.setHop_held _ _ _ ?_ | with_reducible refine fst_held (by assumption) ?_ | with_reducible refine ite_held ?_ ?_
    | with_reducible refine ite_fst_held ?_ ?_
theorem State.noteBeat_held (s : State) (src : Nat) (us : Nat) (b : Beat) (hw0 : Held pq s.regs s.pending) : Held pq (State.noteBeat s src us b).regs (State.noteBeat s src us b).pending := by
  unfold State.noteBeat
  exact hw0
theorem State.portsIn_held (s : State) (hw0 : Held pq s.regs s.pending) : Held pq (State.portsIn s).regs (State.portsIn s).pending := by
  unfold State.portsIn
  repeat' first
    | with_reducible assumption | with_reducible refine State.enterIn_held _ _ ?_ | with_reducible refine foldl_held _ ?_ _ _ ?_
    | with_reducible refine foldl_fst_held _ ?_ _ _ ?_ | with_reducible refine fst_held (by assumption) ?_ | with_reducible refine ite_held ?_ ?_
    | with_reducible refine ite_fst_held ?_ ?_ | split | dsimp only | intro _ _ _ _ | intro _ _ _
theorem State.mantleState_held (s : State) (st : Nat) (hw0 : Held pq s.regs s.pending) : Held pq (State.mantleState s st).regs (State.mantleState s st).pending := by
  unfold State.mantleState
  repeat' first
    | with_reducible assumption | with_reducible refine State.set_held _ _ _ ?_
theorem State.memberOrStandby_held (s : State) (hw0 : Held pq s.regs s.pending) : Held pq (State.memberOrStandby s).regs (State.memberOrStandby s).pending := by
  unfold State.memberOrStandby
  repeat' first
    | with_reducible assumption | with_reducible refine State.mantleState_held _ _ ?_
theorem State.startHopAttempt_held (s : State) (p : Nat) (k : Nat) (rate : Nat) (two : Bool) (hw0 : Held pq s.regs s.pending) : Held pq (State.startHopAttempt s p k rate two).regs (State.startHopAttempt s p k rate two).pending := by
  unfold State.startHopAttempt
  repeat' first
    | with_reducible assumption | with_reducible refine State.seamOut_held _ _ _ ?_ | with_reducible refine State.setHop_held _ _ _ ?_
    | with_reducible refine State.setMode_held _ _ _ _ ?_ | with_reducible refine State.setPhase_held _ _ _ ?_
theorem State.freshFrame_held (s : State) (f : RFrame) (hw0 : Held pq s.regs s.pending) : Held pq (State.freshFrame s f).1.regs (State.freshFrame s f).1.pending := by
  unfold State.freshFrame
  repeat' first
    | with_reducible assumption | with_reducible refine State.count_held _ _ _ ?_ | with_reducible refine fst_held (by assumption) ?_
    | with_reducible refine ite_held ?_ ?_ | with_reducible refine ite_fst_held ?_ ?_ | split
theorem State.routeFrame_held (s : State) (p : Nat) (f : RFrame) (hw0 : Held pq s.regs s.pending) : Held pq (State.routeFrame s p f).regs (State.routeFrame s p f).pending := by
  unfold State.routeFrame
  repeat' first
    | with_reducible assumption | with_reducible refine State.deliverFrame_held _ _ _ ?_ | with_reducible refine State.dropFrame_held _ ?_
    | with_reducible refine State.forward_held _ _ _ ?_ | with_reducible refine State.freshFrame_held _ _ ?_
    | with_reducible refine fst_held (by assumption) ?_ | with_reducible refine ite_held ?_ ?_
theorem State.hopUp_held (s : State) (p : Nat) (hw0 : Held pq s.regs s.pending) : Held pq (State.hopUp s p).regs (State.hopUp s p).pending := by
  unfold State.hopUp
  repeat' first
    | with_reducible assumption | with_reducible refine State.pumpHop_held _ _ _ ?_ | with_reducible refine State.setPhase_held _ _ _ ?_
    | with_reducible refine State.twinGo_held _ ?_
theorem State.takeOffice_held (s : State) (slot : Nat) (hw0 : Held pq s.regs s.pending) : Held pq (State.takeOffice s slot).regs (State.takeOffice s slot).pending := by
  unfold State.takeOffice
  repeat' first
    | with_reducible assumption | with_reducible refine State.set_held _ _ _ ?_ | with_reducible refine State.noMantle_held _ ?_
    | with_reducible refine fst_held (by assumption) ?_ | with_reducible refine ite_held ?_ ?_
theorem State.becomeMantle_held (s : State) (hw0 : Held pq s.regs s.pending) : Held pq (State.becomeMantle s).regs (State.becomeMantle s).pending := by
  unfold State.becomeMantle
  repeat' first
    | with_reducible assumption | with_reducible refine State.mantleState_held _ _ ?_ | with_reducible refine State.takeOffice_held _ _ ?_
theorem State.joinedNow_held (s : State) (us : Nat) (hw0 : Held pq s.regs s.pending) : Held pq (State.joinedNow s us).regs (State.joinedNow s us).pending := by
  unfold State.joinedNow
  repeat' first
    | with_reducible assumption | with_reducible refine State.mantleState_held _ _ ?_ | with_reducible refine State.memberOrStandby_held _ ?_
    | with_reducible refine fst_held (by assumption) ?_ | with_reducible refine ite_held ?_ ?_
theorem State.mantleBeat_held (s : State) (src : Nat) (us : Nat) (b : Beat) (hw0 : Held pq s.regs s.pending) : Held pq (State.mantleBeat s src us b).regs (State.mantleBeat s src us b).pending := by
  unfold State.mantleBeat
  repeat' first
    | with_reducible assumption | with_reducible refine State.set_held _ _ _ ?_ | with_reducible refine State.closeAll_held _ _ _ ?_
    | with_reducible refine State.memberOrStandby_held _ ?_ | with_reducible refine State.setRoster_held _ _ ?_
    | with_reducible refine State.takeOffice_held _ _ ?_ | with_reducible refine fst_held (by assumption) ?_ | with_reducible refine ite_held ?_ ?_
theorem State.markAll_held (s : State) (hw0 : Held pq s.regs s.pending) : Held pq (State.markAll s).regs (State.markAll s).pending := by
  unfold State.markAll
  exact hw0
theorem State.twinBack_held (s : State) (hw0 : Held pq s.regs s.pending) : Held pq (State.twinBack s).regs (State.twinBack s).pending := by
  unfold State.twinBack
  repeat' first
    | with_reducible assumption | with_reducible refine State.twinGo_held _ ?_ | with_reducible refine fst_held (by assumption) ?_ | split
theorem State.darnEnds_held (s : State) (hw0 : Held pq s.regs s.pending) : Held pq (State.darnEnds s).regs (State.darnEnds s).pending := by
  unfold State.darnEnds
  repeat' first
    | with_reducible assumption | with_reducible refine State.mirrorLine_held _ _ ?_ | with_reducible refine State.notify_held _ _ _ ?_
    | with_reducible refine State.showTwin_held _ _ ?_ | with_reducible refine fst_held (by assumption) ?_ | with_reducible refine ite_held ?_ ?_
theorem State.regionDone_held (s : State) (p : Nat) (r : Nat) (hw0 : Held pq s.regs s.pending) : Held pq (State.regionDone s p r).regs (State.regionDone s p r).pending := by
  unfold State.regionDone
  repeat' first
    | with_reducible assumption | with_reducible refine State.count_held _ _ _ ?_ | with_reducible refine fst_held (by assumption) ?_
    | with_reducible refine ite_held ?_ ?_ | with_reducible refine ite_fst_held ?_ ?_ | split
theorem State.itemConfirmed_held (s : State) (i : TwinItem) (hw0 : Held pq s.regs s.pending) : Held pq (State.itemConfirmed s i).regs (State.itemConfirmed s i).pending := by
  unfold State.itemConfirmed
  repeat' first
    | with_reducible assumption | with_reducible refine State.meter_held _ _ _ _ ?_ | with_reducible refine State.regionDone_held _ _ _ ?_
    | with_reducible refine fst_held (by assumption) ?_ | split
theorem State.storeMirrored_held (s : State) (tseq : Nat) (p : Nat) (lba : Nat) (poison : Bool) (data : Bytes) (check : Option Check) (hw0 : Held pq s.regs s.pending) : Held pq (State.storeMirrored s tseq p lba poison data check).regs (State.storeMirrored s tseq p lba poison data check).pending := by
  unfold State.storeMirrored
  repeat' first
    | with_reducible assumption | with_reducible refine State.flushMode_held _ ?_ | with_reducible refine State.setEntries_held _ _ ?_
    | with_reducible refine State.writeBlock_held _ _ _ _ _ _ _ ?_
theorem State.darnRead_held (s : State) (p : Nat) (lba : Nat) (tries : List (List Nat)) (unc : Bool) (hw0 : Held pq s.regs s.pending) : Held pq (State.darnRead s p lba tries unc).1.regs (State.darnRead s p lba tries unc).1.pending := by
  unfold State.darnRead
  repeat' first
    | with_reducible assumption | with_reducible refine State.count_held _ _ _ ?_ | with_reducible refine State.loseBlock_held _ _ _ ?_
    | with_reducible refine State.readRow_held _ _ _ _ ?_ | with_reducible refine State.readTries_held _ _ _ _ _ _ ?_
    | with_reducible refine State.refreshPage_held _ _ ?_ | with_reducible refine fst_held (by assumption) ?_ | with_reducible refine ite_held ?_ ?_
    | with_reducible refine ite_fst_held ?_ ?_ | split | dsimp only
theorem State.darnHeld_held (s : State) (p : Nat) (lba : Nat) (tries : List (List Nat)) (unc : Bool) (hw0 : Held pq s.regs s.pending) : Held pq (State.darnHeld s p lba tries unc).1.regs (State.darnHeld s p lba tries unc).1.pending := by
  unfold State.darnHeld
  repeat' first
    | with_reducible assumption | with_reducible refine State.darnRead_held _ _ _ _ _ ?_ | with_reducible refine fst_held (by assumption) ?_
    | with_reducible refine map_held ?_ | with_reducible refine bind_held ?_ ?_ | with_reducible refine some_held ?_ (by assumption)
    | with_reducible refine ite_held ?_ ?_ | with_reducible refine ite_fst_held ?_ ?_ | split
theorem State.darnBlocks_held (s : State) (p : Nat) (reads : List (Nat × List (List Nat))) (unc : List Nat) (fuelN : List Nat) (hw0 : Held pq s.regs s.pending) : Held pq (State.darnBlocks s p reads unc fuelN).1.regs (State.darnBlocks s p reads unc fuelN).1.pending := by
  induction fuelN generalizing s p reads unc with
  | nil =>
    unfold State.darnBlocks
    exact hw0
  | cons x xs ih =>
    unfold State.darnBlocks
    repeat' first
      | with_reducible assumption | with_reducible refine State.darnHeld_held _ _ _ _ _ ?_ | with_reducible refine ih _ _ _ _ ?_
theorem State.darnRegion_held (s0 : State) (p : Nat) (r : Nat) (reads : List (Nat × List (List Nat))) (unc : List Nat) (hw0 : Held pq s0.regs s0.pending) : Held pq (State.darnRegion s0 p r reads unc).regs (State.darnRegion s0 p r reads unc).pending := by
  unfold State.darnRegion
  repeat' first
    | with_reducible assumption | with_reducible refine State.count_held _ _ _ ?_ | with_reducible refine State.darnBlocks_held _ _ _ _ _ ?_
    | with_reducible refine State.twinGo_held _ ?_
theorem State.sendPair_held (s : State) (hw0 : Held pq s.regs s.pending) : Held pq (State.sendPair s).regs (State.sendPair s).pending := by
  unfold State.sendPair
  repeat' first
    | with_reducible assumption | with_reducible refine State.twinReply_held _ _ ?_
theorem State.itemRefused_held (s : State) (tseq : Nat) (hw0 : Held pq s.regs s.pending) : Held pq (State.itemRefused s tseq).regs (State.itemRefused s tseq).pending := by
  unfold State.itemRefused
  repeat' first
    | with_reducible assumption | with_reducible refine State.twinReply_held _ _ ?_
theorem State.itemHeard_held (s : State) (p : Nat) (hw0 : Held pq s.regs s.pending) : Held pq (State.itemHeard s p).regs (State.itemHeard s p).pending := by
  unfold State.itemHeard
  repeat' first
    | with_reducible assumption | with_reducible refine State.cross_held _ _ _ ?_
theorem State.pairAnswered_held (s : State) (hw0 : Held pq s.regs s.pending) : Held pq (State.pairAnswered s).regs (State.pairAnswered s).pending := by
  unfold State.pairAnswered
  repeat' first
    | with_reducible assumption | with_reducible refine State.finishFor_held _ _ _ ?_ | with_reducible refine fst_held (by assumption) ?_ | split
theorem State.itemApplied_held (s : State) (hw0 : Held pq s.regs s.pending) : Held pq (State.itemApplied s).regs (State.itemApplied s).pending := by
  unfold State.itemApplied
  repeat' first
    | with_reducible assumption | with_reducible refine State.pairAnswered_held _ ?_ | with_reducible refine State.twinAck_held _ ?_
theorem State.applyData_held (s : State) (tseq : Nat) (lba : Nat) (p : Nat) (half : Nat) (integ : Bool) (poison : Bool) (ikey : Nat) (count : Nat) (tag : Bytes) (bytes : Bytes) (hw0 : Held pq s.regs s.pending) : Held pq (State.applyData s tseq lba p half integ poison ikey count tag bytes).regs (State.applyData s tseq lba p half integ poison ikey count tag bytes).pending := by
  unfold State.applyData
  repeat' first
    | with_reducible assumption | with_reducible refine State.itemApplied_held _ ?_ | with_reducible refine State.itemHeard_held _ _ ?_
    | with_reducible refine State.itemRefused_held _ _ ?_ | with_reducible refine State.meter_held _ _ _ _ ?_
    | with_reducible refine State.storeMirrored_held _ _ _ _ _ _ _ ?_ | with_reducible refine fst_held (by assumption) ?_
    | with_reducible refine ite_held ?_ ?_ | with_reducible refine ite_fst_held ?_ ?_ | split
theorem State.copyMirrored_held (s : State) (tseq : Nat) (p : Nat) (src : Nat) (dst : Nat) (integ : Bool) (dkey : Nat) (ikey : Nat) (hw0 : Held pq s.regs s.pending) : ∀ u, (State.copyMirrored s tseq p src dst integ dkey ikey) = some u → Held pq u.regs u.pending := by
  unfold State.copyMirrored
  repeat' first
    | with_reducible assumption | with_reducible refine State.storeMirrored_held _ _ _ _ _ _ _ ?_
    | with_reducible refine State.trimRange_held _ _ _ _ ?_ | with_reducible refine fst_held (by assumption) ?_
    | with_reducible refine ite_opt_held ?_ ?_ | with_reducible refine ite_held ?_ ?_ | with_reducible refine ite_fst_held ?_ ?_
    | (intro hu; cases hu; done) | (intro _ hu; cases hu) | split
theorem State.copyAll_held (s : State) (tseq : Nat) (p : Nat) (src : Nat) (dst : Nat) (integ : Bool) (dkey : Nat) (ikey : Nat) (fuelN : Nat) (hw0 : Held pq s.regs s.pending) : ∀ u, (State.copyAll s tseq p src dst integ dkey ikey fuelN) = some u → Held pq u.regs u.pending := by
  induction fuelN generalizing s tseq p src dst integ dkey ikey with
  | zero =>
    unfold State.copyAll
    repeat' first
      | with_reducible assumption | with_reducible refine some_held (State.copyMirrored_held _ _ _ _ _ _ _ _ ?_) (by assumption)
      | with_reducible refine State.copyMirrored_held _ _ _ _ _ _ _ _ ?_ | with_reducible refine ih _ _ _ _ _ _ _ _ ?_
      | with_reducible refine some_held (ih _ _ _ _ _ _ _ _ ?_) (by assumption) | with_reducible refine fst_held (by assumption) ?_
      | (intro hu; cases hu; done) | (intro _ hu; cases hu)
  | succ n ih =>
    unfold State.copyAll
    repeat' first
      | with_reducible assumption | with_reducible refine some_held (State.copyMirrored_held _ _ _ _ _ _ _ _ ?_) (by assumption)
      | with_reducible refine State.copyMirrored_held _ _ _ _ _ _ _ _ ?_ | with_reducible refine ih _ _ _ _ _ _ _ _ ?_
      | with_reducible refine some_held (ih _ _ _ _ _ _ _ _ ?_) (by assumption) | with_reducible refine fst_held (by assumption) ?_
      | (intro hu; cases hu; done) | (intro _ hu; cases hu) | split
theorem State.applyCopy_held (s : State) (tseq : Nat) (src : Nat) (p : Nat) (n : Nat) (dst : Nat) (integ : Bool) (dkey : Nat) (ikey : Nat) (hw0 : Held pq s.regs s.pending) : Held pq (State.applyCopy s tseq src p n dst integ dkey ikey).regs (State.applyCopy s tseq src p n dst integ dkey ikey).pending := by
  unfold State.applyCopy
  repeat' first
    | with_reducible assumption | with_reducible refine some_held (State.copyAll_held _ _ _ _ _ _ _ _ _ ?_) (by assumption)
    | with_reducible refine State.dropPrefetch_held _ _ _ _ ?_ | with_reducible refine State.itemApplied_held _ ?_
    | with_reducible refine State.itemHeard_held _ _ ?_ | with_reducible refine State.itemRefused_held _ _ ?_
    | with_reducible refine State.needSeg_held _ _ ?_ | with_reducible refine foldl_held _ ?_ _ _ ?_
    | with_reducible refine foldl_fst_held _ ?_ _ _ ?_ | with_reducible refine fst_held (by assumption) ?_
    | with_reducible refine State.copyAll_held _ _ _ _ _ _ _ _ _ ?_ | with_reducible refine ite_opt_held ?_ ?_
    | with_reducible refine ite_held ?_ ?_ | with_reducible refine ite_fst_held ?_ ?_ | split | dsimp only | intro _ _ _ _ | intro _ _ _
theorem State.becomeSecondary_held (s : State) (hw0 : Held pq s.regs s.pending) : Held pq (State.becomeSecondary s).regs (State.becomeSecondary s).pending := by
  unfold State.becomeSecondary
  repeat' first
    | with_reducible assumption | with_reducible refine State.confRecord_held _ ?_ | with_reducible refine State.showTwin_held _ _ ?_
    | with_reducible refine fst_held (by assumption) ?_ | split
theorem State.unmapFrom_held (s : State) (p : Nat) (lba : Nat) (n : Nat) (k : Nat) (fuelN : Nat) (hw0 : Held pq s.regs s.pending) : Held pq (State.unmapFrom s p lba n k fuelN).1.regs (State.unmapFrom s p lba n k fuelN).1.pending := by
  induction fuelN generalizing s p lba n k with
  | zero =>
    unfold State.unmapFrom
    exact hw0
  | succ n ih =>
    unfold State.unmapFrom
    repeat' first
      | with_reducible assumption | with_reducible refine State.needSeg_held _ _ ?_ | with_reducible refine State.unmapBlocks_held _ _ _ _ ?_
      | with_reducible refine ih _ _ _ _ _ ?_ | with_reducible refine fst_held (by assumption) ?_ | with_reducible refine ite_held ?_ ?_
      | with_reducible refine ite_fst_held ?_ ?_
theorem State.applyUnmap_held (s : State) (tseq : Nat) (lba : Nat) (p : Nat) (n : Nat) (hw0 : Held pq s.regs s.pending) : Held pq (State.applyUnmap s tseq lba p n).regs (State.applyUnmap s tseq lba p n).pending := by
  unfold State.applyUnmap
  repeat' first
    | with_reducible assumption | with_reducible refine State.dropPrefetch_held _ _ _ _ ?_ | with_reducible refine State.itemApplied_held _ ?_
    | with_reducible refine State.itemHeard_held _ _ ?_ | with_reducible refine State.itemRefused_held _ _ ?_
    | with_reducible refine State.trimRecord_held _ _ _ _ ?_ | with_reducible refine State.unmapFrom_held _ _ _ _ _ _ ?_
    | with_reducible refine fst_held (by assumption) ?_ | with_reducible refine ite_held ?_ ?_
theorem State.leaveTwin_held (s : State) (hw0 : Held pq s.regs s.pending) : Held pq (State.leaveTwin s).regs (State.leaveTwin s).pending := by
  unfold State.leaveTwin
  repeat' first
    | with_reducible assumption | with_reducible refine State.confRecord_held _ ?_ | with_reducible refine State.showTwin_held _ _ ?_
theorem State.unpaired_held (s : State) (hw0 : Held pq s.regs s.pending) : Held pq (State.unpaired s).regs (State.unpaired s).pending := by
  unfold State.unpaired
  repeat' first
    | with_reducible assumption | with_reducible refine State.finishFor_held _ _ _ ?_ | with_reducible refine State.leaveTwin_held _ ?_
    | with_reducible refine State.settle_held _ ?_
theorem State.toLost_held (s : State) (hw0 : Held pq s.regs s.pending) : Held pq (State.toLost s).regs (State.toLost s).pending := by
  unfold State.toLost
  repeat' first
    | with_reducible assumption | with_reducible refine State.markRange_held _ _ _ _ ?_ | with_reducible refine State.notify_held _ _ _ ?_
    | with_reducible refine State.settle_held _ ?_ | with_reducible refine State.showTwin_held _ _ ?_
    | with_reducible refine State.unpaired_held _ ?_ | with_reducible refine foldl_held _ ?_ _ _ ?_
    | with_reducible refine foldl_fst_held _ ?_ _ _ ?_ | with_reducible refine fst_held (by assumption) ?_ | with_reducible refine ite_held ?_ ?_
    | with_reducible refine ite_fst_held ?_ ?_ | split | dsimp only | intro _ _ _ _ | intro _ _ _
theorem State.partnerSilent_held (s : State) (hw0 : Held pq s.regs s.pending) : Held pq (State.partnerSilent s).regs (State.partnerSilent s).pending := by
  unfold State.partnerSilent
  repeat' first
    | with_reducible assumption | with_reducible refine State.showTwin_held _ _ ?_ | with_reducible refine State.toLost_held _ ?_
    | with_reducible refine fst_held (by assumption) ?_ | with_reducible refine ite_held ?_ ?_
theorem State.takeover_held (s : State) (hw0 : Held pq s.regs s.pending) : Held pq (State.takeover s).regs (State.takeover s).pending := by
  unfold State.takeover
  repeat' first
    | with_reducible assumption | with_reducible refine State.confRecord_held _ ?_ | with_reducible refine State.markAll_held _ ?_
    | with_reducible refine State.notify_held _ _ _ ?_ | with_reducible refine State.showTwin_held _ _ ?_
    | with_reducible refine fst_held (by assumption) ?_ | split
theorem State.sendHold_held (s : State) (ms : Nat) (hw0 : Held pq s.regs s.pending) : Held pq (State.sendHold s ms).regs (State.sendHold s ms).pending := by
  unfold State.sendHold
  repeat' first
    | with_reducible assumption | with_reducible refine State.mirror_held _ _ ?_
theorem State.twinAcked_held (s : State) (n : Nat) (hw0 : Held pq s.regs s.pending) : Held pq (State.twinAcked s n).regs (State.twinAcked s n).pending := by
  unfold State.twinAcked
  repeat' first
    | with_reducible assumption | with_reducible refine State.darnEnds_held _ ?_ | with_reducible refine State.itemConfirmed_held _ _ ?_
    | with_reducible refine State.settle_held _ ?_ | with_reducible refine State.swapGo_held _ ?_ | with_reducible refine State.unpaired_held _ ?_
    | with_reducible refine foldl_held _ ?_ _ _ ?_ | with_reducible refine foldl_fst_held _ ?_ _ _ ?_
    | with_reducible refine fst_held (by assumption) ?_ | with_reducible refine ite_held ?_ ?_ | with_reducible refine ite_fst_held ?_ ?_ | split
    | dsimp only | intro _ _ _ _ | intro _ _ _
theorem State.partnerBeat_held (s : State) (tstate : Nat) (hw0 : Held pq s.regs s.pending) : Held pq (State.partnerBeat s tstate).regs (State.partnerBeat s tstate).pending := by
  unfold State.partnerBeat
  repeat' first
    | with_reducible assumption | with_reducible refine State.becomeSecondary_held _ ?_ | with_reducible refine State.markAll_held _ ?_
    | with_reducible refine State.sendPair_held _ ?_ | with_reducible refine State.showTwin_held _ _ ?_
    | with_reducible refine fst_held (by assumption) ?_ | with_reducible refine ite_held ?_ ?_
theorem State.dropChange_held (s : State) (d : Nat) (hw0 : Held pq s.regs s.pending) : Held pq (State.dropChange s d).regs (State.dropChange s d).pending := by
  unfold State.dropChange
  exact hw0
theorem State.sramWrite_held (s : State) (d : Nat) (a : Option Nat) (hw0 : Held pq s.regs s.pending) : Held pq (State.sramWrite s d a).regs (State.sramWrite s d a).pending := by
  unfold State.sramWrite
  repeat' first
    | with_reducible assumption | with_reducible refine State.set_held _ _ _ ?_ | with_reducible refine fst_held (by assumption) ?_
    | with_reducible refine ite_held ?_ ?_ | with_reducible refine ite_fst_held ?_ ?_ | split
theorem State.enterCheck_held (s : State) (d : Nat) (who : OpBy) (hw0 : Held pq s.regs s.pending) : Held pq (State.enterCheck s d who).regs (State.enterCheck s d who).pending := by
  unfold State.enterCheck
  repeat' first
    | with_reducible assumption | with_reducible refine State.set_held _ _ _ ?_ | with_reducible refine State.dropChange_held _ _ ?_
    | with_reducible refine State.setDom_held _ _ _ ?_ | with_reducible refine State.sramWrite_held _ _ _ ?_
    | with_reducible refine fst_held (by assumption) ?_ | with_reducible refine ite_held ?_ ?_
theorem State.endTransfer_held (s : State) (x : Exec) (how : Leave) (hw0 : Held pq s.regs s.pending) : Held pq (State.endTransfer s x how).regs (State.endTransfer s x how).pending := by
  unfold State.endTransfer
  repeat' first
    | with_reducible assumption | with_reducible refine State.abortExec_held _ _ _ ?_ | with_reducible refine State.count_held _ _ _ ?_
    | with_reducible refine fst_held (by assumption) ?_ | split
theorem State.endTransfers_held (s : State) (sel : Exec → Bool) (how : Leave) (hw0 : Held pq s.regs s.pending) : Held pq (State.endTransfers s sel how).regs (State.endTransfers s sel how).pending := by
  unfold State.endTransfers
  repeat' first
    | with_reducible assumption | with_reducible refine State.endTransfer_held _ _ _ ?_ | with_reducible refine foldl_held _ ?_ _ _ ?_
    | with_reducible refine foldl_fst_held _ ?_ _ _ ?_ | with_reducible refine fst_held (by assumption) ?_ | split | dsimp only | intro _ _ _ _
    | intro _ _ _
theorem State.loseFlash_held (s : State) (d : Nat) (how : Leave) (hw0 : Held pq s.regs s.pending) : Held pq (State.loseFlash s d how).regs (State.loseFlash s d how).pending := by
  unfold State.loseFlash
  repeat' first
    | with_reducible assumption | with_reducible refine State.closeBoltsOf_held _ _ ?_ | with_reducible refine State.endTransfers_held _ _ _ ?_
    | with_reducible refine State.notify_held _ _ _ ?_ | with_reducible refine foldl_held _ ?_ _ _ ?_
    | with_reducible refine foldl_fst_held _ ?_ _ _ ?_ | with_reducible refine fst_held (by assumption) ?_ | with_reducible refine ite_held ?_ ?_
    | with_reducible refine ite_fst_held ?_ ?_ | split | dsimp only | intro _ _ _ _ | intro _ _ _
theorem State.loseQuarter_held (s : State) (d : Nat) (how : Leave) (hw0 : Held pq s.regs s.pending) : Held pq (State.loseQuarter s d how).regs (State.loseQuarter s d how).pending := by
  unfold State.loseQuarter
  repeat' first
    | with_reducible assumption | with_reducible refine State.endTransfers_held _ _ _ ?_ | with_reducible refine State.postWaiting_held _ _ _ _ ?_
    | with_reducible refine State.setQueue_held _ _ _ ?_ | with_reducible refine foldl_held _ ?_ _ _ ?_
    | with_reducible refine foldl_fst_held _ ?_ _ _ ?_ | with_reducible refine fst_held (by assumption) ?_ | with_reducible refine ite_held ?_ ?_
    | with_reducible refine ite_fst_held ?_ ?_ | split | dsimp only | intro _ _ _ _ | intro _ _ _
theorem State.opEnds_held (s : State) (w : AwaitFor) (who : OpBy) (st : Option Status) (kv : List KV) (hw0 : Held pq s.regs s.pending) : Held pq (State.opEnds s w who st kv).regs (State.opEnds s w who st kv).pending := by
  unfold State.opEnds
  repeat' first
    | with_reducible assumption | with_reducible refine State.set_held _ _ _ ?_ | with_reducible refine State.finishFor_held _ _ _ ?_
    | with_reducible refine fst_held (by assumption) ?_ | split
theorem State.checkReply_held (s : State) (d : Nat) (who : OpBy) (st : Option Status) (hw0 : Held pq s.regs s.pending) : Held pq (State.checkReply s d who st).regs (State.checkReply s d who st).pending := by
  unfold State.checkReply
  repeat' first
    | with_reducible assumption | with_reducible refine State.opEnds_held _ _ _ _ _ ?_ | with_reducible refine fst_held (by assumption) ?_
    | with_reducible refine ite_held ?_ ?_
theorem State.cutOps_held (s : State) (d : Nat) (off : Option Status) (st : Status) (hw0 : Held pq s.regs s.pending) : Held pq (State.cutOps s d off st).regs (State.cutOps s d off st).pending := by
  unfold State.cutOps
  repeat' first
    | with_reducible assumption | with_reducible refine State.checkReply_held _ _ _ _ ?_ | with_reducible refine State.opEnds_held _ _ _ _ _ ?_
    | with_reducible refine foldl_held _ ?_ _ _ ?_ | with_reducible refine foldl_fst_held _ ?_ _ _ ?_
    | with_reducible refine fst_held (by assumption) ?_ | split | dsimp only | intro _ _ _ _ | intro _ _ _
theorem State.clearDomain_held (s : State) (d : Nat) (hw0 : Held pq s.regs s.pending) : Held pq (State.clearDomain s d).regs (State.clearDomain s d).pending := by
  unfold State.clearDomain
  repeat' first
    | with_reducible assumption | with_reducible refine Held.clear _ _ ?_
theorem State.offDone_held (s : State) (d : Nat) (who : OpBy) (hw0 : Held pq s.regs s.pending) : Held pq (State.offDone s d who).regs (State.offDone s d who).pending := by
  unfold State.offDone
  repeat' first
    | with_reducible assumption | with_reducible refine State.set_held _ _ _ ?_ | with_reducible refine State.cutOps_held _ _ _ _ ?_
    | with_reducible refine State.dropChange_held _ _ ?_ | with_reducible refine fst_held (by assumption) ?_ | with_reducible refine ite_held ?_ ?_
theorem State.failNotice_held (s : State) (d : Nat) (hw0 : Held pq s.regs s.pending) : Held pq (State.failNotice s d).regs (State.failNotice s d).pending := by
  unfold State.failNotice
  repeat' first
    | with_reducible assumption | with_reducible refine State.notify_held _ _ _ ?_ | with_reducible refine fst_held (by assumption) ?_
    | with_reducible refine ite_held ?_ ?_
theorem State.losePair_held (s : State) (d : Nat) (how : Leave) (hw0 : Held pq s.regs s.pending) : Held pq (State.losePair s d how).regs (State.losePair s d how).pending := by
  unfold State.losePair
  repeat' first
    | with_reducible assumption | with_reducible refine State.advanceAll_held _ _ _ ?_ | with_reducible refine State.count_held _ _ _ ?_
    | with_reducible refine State.endTransfer_held _ _ _ ?_ | with_reducible refine State.setExec_held _ _ ?_
    | with_reducible refine foldl_held _ ?_ _ _ ?_ | with_reducible refine foldl_fst_held _ ?_ _ _ ?_
    | with_reducible refine fst_held (by assumption) ?_ | with_reducible refine ite_held ?_ ?_ | with_reducible refine ite_fst_held ?_ ?_ | split
    | dsimp only | intro _ _ _ _ | intro _ _ _
theorem State.laneShadow_held (s : State) (k : Nat) (hw0 : Held pq s.regs s.pending) : Held pq (State.laneShadow s k).regs (State.laneShadow s k).pending := by
  unfold State.laneShadow
  repeat' first
    | with_reducible assumption | with_reducible refine State.negotiate_held _ _ ?_ | with_reducible refine State.retrain_held _ _ ?_
    | with_reducible refine fst_held (by assumption) ?_ | with_reducible refine ite_held ?_ ?_
theorem State.checkPass_held (s : State) (d : Nat) (hw0 : Held pq s.regs s.pending) : Held pq (State.checkPass s d).regs (State.checkPass s d).pending := by
  unfold State.checkPass
  repeat' first
    | with_reducible assumption | with_reducible refine State.checkReply_held _ _ _ _ ?_ | with_reducible refine State.dropChange_held _ _ ?_
    | with_reducible refine State.enterIn_held _ _ ?_ | with_reducible refine State.greet_held _ ?_
    | with_reducible refine State.laneShadow_held _ _ ?_ | with_reducible refine State.nextUpdate_held _ ?_
    | with_reducible refine State.romRegions_held _ _ ?_ | with_reducible refine State.seamCheck_held _ ?_
    | with_reducible refine State.setDom_held _ _ _ ?_ | with_reducible refine fst_held (by assumption) ?_ | with_reducible refine ite_held ?_ ?_
theorem State.checkFail_held (s : State) (d : Nat) (hw0 : Held pq s.regs s.pending) : Held pq (State.checkFail s d).regs (State.checkFail s d).pending := by
  unfold State.checkFail
  repeat' first
    | with_reducible assumption | with_reducible refine State.set_held _ _ _ ?_ | with_reducible refine State.checkReply_held _ _ _ _ ?_
    | with_reducible refine State.clearDomain_held _ _ ?_ | with_reducible refine State.count_held _ _ _ ?_
    | with_reducible refine State.dropChange_held _ _ ?_ | with_reducible refine State.failNotice_held _ _ ?_
    | with_reducible refine State.fenceOff_held _ _ ?_ | with_reducible refine State.notify_held _ _ _ ?_
    | with_reducible refine State.seamCheck_held _ ?_ | with_reducible refine fst_held (by assumption) ?_ | with_reducible refine ite_held ?_ ?_
theorem State.checkEnds_held (s : State) (d : Nat) (ok : Bool) (hw0 : Held pq s.regs s.pending) : Held pq (State.checkEnds s d ok).regs (State.checkEnds s d ok).pending := by
  unfold State.checkEnds
  repeat' first
    | with_reducible assumption | with_reducible refine State.checkFail_held _ _ ?_ | with_reducible refine State.checkPass_held _ _ ?_
    | with_reducible refine fst_held (by assumption) ?_ | with_reducible refine ite_held ?_ ?_
theorem State.loseWork_held (s : State) (d : Nat) (how : Leave) (hw0 : Held pq s.regs s.pending) : Held pq (State.loseWork s d how).regs (State.loseWork s d how).pending := by
  unfold State.loseWork
  repeat' first
    | with_reducible assumption | with_reducible refine State.endTransfers_held _ _ _ ?_ | with_reducible refine State.loseFlash_held _ _ _ ?_
    | with_reducible refine State.losePair_held _ _ _ ?_ | with_reducible refine State.loseQuarter_held _ _ _ ?_
    | with_reducible refine State.sleeveReset_held _ ?_ | with_reducible refine fst_held (by assumption) ?_ | with_reducible refine ite_held ?_ ?_
theorem State.takeOut_held (s : State) (d : Nat) (st : Nat) (how : Leave) (hw0 : Held pq s.regs s.pending) : Held pq (State.takeOut s d st how).regs (State.takeOut s d st how).pending := by
  unfold State.takeOut
  repeat' first
    | with_reducible assumption | with_reducible refine State.clearDomain_held _ _ ?_ | with_reducible refine State.fence_held _ _ ?_
    | with_reducible refine State.laneOut_held _ _ _ ?_ | with_reducible refine State.loseWork_held _ _ _ ?_
    | with_reducible refine State.seamCheck_held _ ?_ | with_reducible refine State.setDom_held _ _ _ ?_
    | with_reducible refine State.settle_held _ ?_ | with_reducible refine fst_held (by assumption) ?_ | with_reducible refine ite_held ?_ ?_
theorem State.resetDomain_held (s : State) (d : Nat) (who : OpBy) (hw0 : Held pq s.regs s.pending) : Held pq (State.resetDomain s d who).regs (State.resetDomain s d who).pending := by
  unfold State.resetDomain
  repeat' first
    | with_reducible assumption | with_reducible refine State.cutOps_held _ _ _ _ ?_ | with_reducible refine State.dropChange_held _ _ ?_
    | with_reducible refine State.offDone_held _ _ _ ?_ | with_reducible refine State.takeOut_held _ _ _ _ ?_
    | with_reducible refine fst_held (by assumption) ?_ | with_reducible refine ite_held ?_ ?_ | with_reducible refine ite_fst_held ?_ ?_ | split
theorem State.startDrain_held (s : State) (d : Nat) (abort : Bool) (endUs : Nat) (who : OpBy) (hw0 : Held pq s.regs s.pending) : Held pq (State.startDrain s d abort endUs who).regs (State.startDrain s d abort endUs who).pending := by
  unfold State.startDrain
  repeat' first
    | with_reducible assumption | with_reducible refine State.set_held _ _ _ ?_
theorem State.domainReset_held (s : State) (d : Nat) (path : Option Path) (who : OpBy) (hw0 : Held pq s.regs s.pending) : Held pq (State.domainReset s d path who).1.regs (State.domainReset s d path who).1.pending := by
  unfold State.domainReset
  repeat' first
    | with_reducible assumption | with_reducible refine State.resetDomain_held _ _ _ ?_ | with_reducible refine fst_held (by assumption) ?_
    | with_reducible refine ite_held ?_ ?_ | with_reducible refine ite_fst_held ?_ ?_
theorem State.switchOn_held (s : State) (d : Nat) (who : OpBy) (hw0 : Held pq s.regs s.pending) : Held pq (State.switchOn s d who).regs (State.switchOn s d who).pending := by
  unfold State.switchOn
  repeat' first
    | with_reducible assumption | with_reducible refine State.dropChange_held _ _ ?_
theorem State.domainOn_held (s : State) (d : Nat) (who : OpBy) (hw0 : Held pq s.regs s.pending) : Held pq (State.domainOn s d who).1.regs (State.domainOn s d who).1.pending := by
  unfold State.domainOn
  repeat' first
    | with_reducible assumption | with_reducible refine State.set_held _ _ _ ?_ | with_reducible refine State.switchOn_held _ _ _ ?_
    | with_reducible refine fst_held (by assumption) ?_ | with_reducible refine ite_held ?_ ?_ | with_reducible refine ite_fst_held ?_ ?_
theorem State.domainOff_held (s : State) (d : Nat) (abort : Bool) (window : Nat) (path : Option Path) (who : OpBy) (hw0 : Held pq s.regs s.pending) : Held pq (State.domainOff s d abort window path who).1.regs (State.domainOff s d abort window path who).1.pending := by
  unfold State.domainOff
  repeat' first
    | with_reducible assumption | with_reducible refine State.set_held _ _ _ ?_ | with_reducible refine State.cutOps_held _ _ _ _ ?_
    | with_reducible refine State.dropChange_held _ _ ?_ | with_reducible refine State.linkDown_held _ ?_
    | with_reducible refine State.sleeveReset_held _ ?_ | with_reducible refine State.startDrain_held _ _ _ _ _ ?_
    | with_reducible refine State.takeOut_held _ _ _ _ ?_ | with_reducible refine fst_held (by assumption) ?_ | with_reducible refine ite_held ?_ ?_
    | with_reducible refine ite_fst_held ?_ ?_
theorem State.offAfterDrain_held (s : State) (r : Drain) (how : Leave) (hw0 : Held pq s.regs s.pending) : Held pq (State.offAfterDrain s r how).regs (State.offAfterDrain s r how).pending := by
  unfold State.offAfterDrain
  repeat' first
    | with_reducible assumption | with_reducible refine State.offDone_held _ _ _ ?_ | with_reducible refine State.takeOut_held _ _ _ _ ?_
theorem State.readyLow_held (s : State) (hw0 : Held pq s.regs s.pending) : Held pq (State.readyLow s).regs (State.readyLow s).pending := by
  unfold State.readyLow
  repeat' first
    | with_reducible assumption | with_reducible refine State.set_held _ _ _ ?_ | with_reducible refine State.seamCheck_held _ ?_
theorem State.beginReset_held (s : State) (k : ResetKind) (cause : Nat) (hw0 : Held pq s.regs s.pending) : Held pq (State.beginReset s k cause).regs (State.beginReset s k cause).pending := by
  unfold State.beginReset
  repeat' first
    | with_reducible assumption | with_reducible refine State.readyLow_held _ ?_ | with_reducible refine fst_held (by assumption) ?_
    | with_reducible refine ite_held ?_ ?_ | with_reducible refine ite_fst_held ?_ ?_ | split
theorem State.faultReset_held (s : State) (d : Nat) (cause : Nat) (hw0 : Held pq s.regs s.pending) : Held pq (State.faultReset s d cause).regs (State.faultReset s d cause).pending := by
  unfold State.faultReset
  repeat' first
    | with_reducible assumption | with_reducible refine State.beginReset_held _ _ _ ?_ | with_reducible refine State.resetDomain_held _ _ _ ?_
    | with_reducible refine fst_held (by assumption) ?_ | with_reducible refine ite_held ?_ ?_
theorem State.commandReset_held (s : State) (k : ResetKind) (cause : Nat) (hw0 : Held pq s.regs s.pending) : Held pq (State.commandReset s k cause).regs (State.commandReset s k cause).pending := by
  unfold State.commandReset
  repeat' first
    | with_reducible assumption | with_reducible refine State.beginReset_held _ _ _ ?_ | with_reducible refine State.sendHold_held _ _ ?_
theorem State.recordReset_held (s : State) (k : ResetKind) (causes : List Nat) (hw0 : Held pq s.regs s.pending) : Held pq (State.recordReset s k causes).regs (State.recordReset s k causes).pending := by
  unfold State.recordReset
  repeat' first
    | with_reducible assumption | with_reducible refine State.set_held _ _ _ ?_ | with_reducible refine State.setWord_held _ _ _ ?_
theorem State.enterLimp_held (s : State) (cause : Nat) (unit : Nat) (hw0 : Held pq s.regs s.pending) : Held pq (State.enterLimp s cause unit).regs (State.enterLimp s cause unit).pending := by
  unfold State.enterLimp
  repeat' first
    | with_reducible assumption | with_reducible refine State.set_held _ _ _ ?_ | with_reducible refine State.notify_held _ _ _ ?_
    | with_reducible refine State.seamCheck_held _ ?_ | with_reducible refine State.tapGate_held _ ?_
    | with_reducible refine fst_held (by assumption) ?_ | with_reducible refine ite_held ?_ ?_
theorem State.restartT1_held (s : State) (who : OpBy) (hw0 : Held pq s.regs s.pending) : Held pq (State.restartT1 s who).regs (State.restartT1 s who).pending := by
  unfold State.restartT1
  repeat' first
    | with_reducible assumption | with_reducible refine State.resetDomain_held _ _ _ ?_ | with_reducible refine fst_held (by assumption) ?_
    | with_reducible refine ite_held ?_ ?_
theorem State.padOpen_held (s : State) (hw0 : Held pq s.regs s.pending) : Held pq (State.padOpen s).regs (State.padOpen s).pending := by
  unfold State.padOpen
  repeat' first
    | with_reducible assumption | with_reducible refine State.padLines_held _ _ _ _ ?_ | with_reducible refine foldl_held _ ?_ _ _ ?_
    | with_reducible refine foldl_fst_held _ ?_ _ _ ?_ | with_reducible refine fst_held (by assumption) ?_ | split | dsimp only | intro _ _ _ _
    | intro _ _ _
theorem State.cleanStop_held (s : State) (hw0 : Held pq s.regs s.pending) : Held pq (State.cleanStop s).1.regs (State.cleanStop s).1.pending := by
  unfold State.cleanStop
  repeat' first
    | with_reducible assumption | with_reducible refine State.cleanCheckpoint_held _ ?_ | with_reducible refine State.padOpen_held _ ?_
    | with_reducible refine State.sendDeltas_held _ ?_ | with_reducible refine fst_held (by assumption) ?_ | with_reducible refine ite_held ?_ ?_
    | with_reducible refine ite_fst_held ?_ ?_
theorem State.endWaiting_held (s : State) (st : Status) (hw0 : Held pq s.regs s.pending) : Held pq (State.endWaiting s st).regs (State.endWaiting s st).pending := by
  unfold State.endWaiting
  repeat' first
    | with_reducible assumption | with_reducible refine State.postWaiting_held _ _ _ _ ?_ | with_reducible refine State.setQueue_held _ _ _ ?_
    | with_reducible refine foldl_held _ ?_ _ _ ?_ | with_reducible refine foldl_fst_held _ ?_ _ _ ?_
    | with_reducible refine fst_held (by assumption) ?_ | split | dsimp only | intro _ _ _ _ | intro _ _ _
theorem State.drainSet_held (s : State) (e : PEntry) (hw0 : Held pq s.regs s.pending) : Held pq (State.drainSet s e).regs (State.drainSet s e).pending := by
  unfold State.drainSet
  repeat' first
    | with_reducible assumption | with_reducible refine State.startDrain_held _ _ _ _ _ ?_ | with_reducible refine foldl_held _ ?_ _ _ ?_
    | with_reducible refine foldl_fst_held _ ?_ _ _ ?_ | with_reducible refine fst_held (by assumption) ?_ | with_reducible refine ite_held ?_ ?_
    | with_reducible refine ite_fst_held ?_ ?_ | split | dsimp only | intro _ _ _ _ | intro _ _ _
theorem State.setEntryRec_held (s : State) (e : PEntry) (hw0 : Held pq s.regs s.pending) : Held pq (State.setEntryRec s e).regs (State.setEntryRec s e).pending := by
  unfold State.setEntryRec
  exact hw0
theorem State.entryMove_held (s : State) (hw0 : Held pq s.regs s.pending) : Held pq (State.entryMove s).regs (State.entryMove s).pending := by
  unfold State.entryMove
  repeat' first
    | with_reducible assumption | with_reducible refine State.set_held _ _ _ ?_ | with_reducible refine State.cleanStop_held _ ?_
    | with_reducible refine State.drainSet_held _ _ ?_ | with_reducible refine State.endWaiting_held _ _ ?_
    | with_reducible refine State.refuseEntry_held _ _ _ _ _ ?_ | with_reducible refine State.setEntryRec_held _ _ ?_
    | with_reducible refine fst_held (by assumption) ?_ | with_reducible refine ite_held ?_ ?_ | with_reducible refine ite_fst_held ?_ ?_ | split
theorem State.entryGo_held (s : State) (hw0 : Held pq s.regs s.pending) : Held pq (State.entryGo s).regs (State.entryGo s).pending := by
  unfold State.entryGo
  repeat' first
    | with_reducible assumption | with_reducible refine State.entryMove_held _ ?_
theorem State.wakeDomains_held (s : State) (hw0 : Held pq s.regs s.pending) : Held pq (State.wakeDomains s).regs (State.wakeDomains s).pending := by
  unfold State.wakeDomains
  repeat' first
    | with_reducible assumption | with_reducible refine State.enterIn_held _ _ ?_ | with_reducible refine State.seamCheck_held _ ?_
    | with_reducible refine State.switchOn_held _ _ _ ?_ | with_reducible refine foldl_held _ ?_ _ _ ?_
    | with_reducible refine foldl_fst_held _ ?_ _ _ ?_ | with_reducible refine fst_held (by assumption) ?_ | with_reducible refine ite_held ?_ ?_
    | with_reducible refine ite_fst_held ?_ ?_ | split | dsimp only | intro _ _ _ _ | intro _ _ _
theorem State.replyBurst_held (s : State) (hw0 : Held pq s.regs s.pending) : Held pq (State.replyBurst s).regs (State.replyBurst s).pending := by
  unfold State.replyBurst
  repeat' first
    | with_reducible assumption | with_reducible refine State.sleeveOn_held _ ?_ | with_reducible refine State.slvSend_held _ _ ?_
    | with_reducible refine fst_held (by assumption) ?_ | with_reducible refine ite_held ?_ ?_
theorem State.replayWake_held (s : State) (w : Wake) (hw0 : Held pq s.regs s.pending) : Held pq (State.replayWake s w).regs (State.replayWake s w).pending := by
  unfold State.replayWake
  repeat' first
    | with_reducible assumption | with_reducible refine State.greet_held _ ?_ | with_reducible refine State.replyBurst_held _ ?_
    | with_reducible refine fst_held (by assumption) ?_ | split
theorem State.sleeveRisen_held (s : State) (hw0 : Held pq s.regs s.pending) : Held pq (State.sleeveRisen s).regs (State.sleeveRisen s).pending := by
  unfold State.sleeveRisen
  repeat' first
    | with_reducible assumption | with_reducible refine State.recordReset_held _ _ _ ?_ | with_reducible refine fst_held (by assumption) ?_
    | with_reducible refine ite_held ?_ ?_
theorem State.sleeveFellAsleep_held (s : State) (hw0 : Held pq s.regs s.pending) : Held pq (State.sleeveFellAsleep s).regs (State.sleeveFellAsleep s).pending := by
  unfold State.sleeveFellAsleep
  repeat' first
    | with_reducible assumption | with_reducible refine State.sleeveReset_held _ ?_ | with_reducible refine State.sleeveRisen_held _ ?_
    | with_reducible refine fst_held (by assumption) ?_ | with_reducible refine ite_held ?_ ?_
theorem State.regFault_held (s : State) (hw0 : Held pq s.regs s.pending) : Held pq (State.regFault s).regs (State.regFault s).pending := by
  unfold State.regFault
  repeat' first
    | with_reducible assumption | with_reducible refine State.set_held _ _ _ ?_ | with_reducible refine State.finishFor_held _ _ _ ?_
    | with_reducible refine State.notify_held _ _ _ ?_
theorem State.loseSram_held (s : State) (d : Nat) (hw0 : Held pq s.regs s.pending) : Held pq (State.loseSram s d).regs (State.loseSram s d).pending := by
  unfold State.loseSram
  exact hw0
theorem State.sleepDomain_held (s : State) (e : PEntry) (d : Nat) (hw0 : Held pq s.regs s.pending) : Held pq (State.sleepDomain s e d).regs (State.sleepDomain s e d).pending := by
  unfold State.sleepDomain
  repeat' first
    | with_reducible assumption | with_reducible refine State.closeBoltsOf_held _ _ ?_ | with_reducible refine State.cutOps_held _ _ _ _ ?_
    | with_reducible refine State.dropChange_held _ _ ?_ | with_reducible refine State.fenceOff_held _ _ ?_
    | with_reducible refine State.loseSram_held _ _ ?_ | with_reducible refine State.loseWork_held _ _ _ ?_
    | with_reducible refine State.seamCheck_held _ ?_ | with_reducible refine fst_held (by assumption) ?_ | with_reducible refine ite_held ?_ ?_
theorem State.dramSleep_held (s : State) (off : Bool) (hw0 : Held pq s.regs s.pending) : Held pq (State.dramSleep s off).regs (State.dramSleep s off).pending := by
  unfold State.dramSleep
  repeat' first
    | with_reducible assumption | with_reducible refine State.dropEntries_held _ _ ?_ | with_reducible refine fst_held (by assumption) ?_
    | with_reducible refine ite_held ?_ ?_
theorem State.goToSleep_held (s : State) (e : PEntry) (endUs : Nat) (hw0 : Held pq s.regs s.pending) : Held pq (State.goToSleep s e endUs).regs (State.goToSleep s e endUs).pending := by
  unfold State.goToSleep
  repeat' first
    | with_reducible assumption | with_reducible refine State.set_held _ _ _ ?_ | with_reducible refine State.count_held _ _ _ ?_
    | with_reducible refine State.dramSleep_held _ _ ?_ | with_reducible refine State.sleepDomain_held _ _ _ ?_
    | with_reducible refine foldl_held _ ?_ _ _ ?_ | with_reducible refine foldl_fst_held _ ?_ _ _ ?_
    | with_reducible refine fst_held (by assumption) ?_ | with_reducible refine ite_held ?_ ?_ | with_reducible refine ite_fst_held ?_ ?_ | split
    | dsimp only | intro _ _ _ _ | intro _ _ _
theorem State.leaveDormant_held (s : State) (hw0 : Held pq s.regs s.pending) : Held pq (State.leaveDormant s).regs (State.leaveDormant s).pending := by
  unfold State.leaveDormant
  repeat' first
    | with_reducible assumption | with_reducible refine State.set_held _ _ _ ?_ | with_reducible refine foldl_held _ ?_ _ _ ?_
    | with_reducible refine foldl_fst_held _ ?_ _ _ ?_ | with_reducible refine fst_held (by assumption) ?_ | with_reducible refine ite_held ?_ ?_
    | with_reducible refine ite_fst_held ?_ ?_ | split | dsimp only | intro _ _ _ _ | intro _ _ _
theorem State.wakeUp_held (s : State) (hw0 : Held pq s.regs s.pending) : Held pq (State.wakeUp s).regs (State.wakeUp s).pending := by
  unfold State.wakeUp
  repeat' first
    | with_reducible assumption | with_reducible refine State.set_held _ _ _ ?_ | with_reducible refine State.leaveDormant_held _ ?_
    | with_reducible refine State.levelAsk_held _ _ ?_ | with_reducible refine State.notify_held _ _ _ ?_
    | with_reducible refine State.replayWake_held _ _ ?_ | with_reducible refine State.sleeveFellAsleep_held _ ?_
    | with_reducible refine State.wakeDomains_held _ ?_ | with_reducible refine foldl_held _ ?_ _ _ ?_
    | with_reducible refine foldl_fst_held _ ?_ _ _ ?_ | with_reducible refine fst_held (by assumption) ?_ | with_reducible refine ite_held ?_ ?_
    | with_reducible refine ite_fst_held ?_ ?_ | split | dsimp only | intro _ _ _ _ | intro _ _ _
theorem State.setLevel_held (s : State) (l : Nat) (hw0 : Held pq s.regs s.pending) : Held pq (State.setLevel s l).regs (State.setLevel s l).pending := by
  unfold State.setLevel
  repeat' first
    | with_reducible assumption | with_reducible refine State.set_held _ _ _ ?_ | with_reducible refine State.vcoreTo_held _ _ ?_
    | with_reducible refine fst_held (by assumption) ?_ | with_reducible refine ite_held ?_ ?_
theorem State.entryDrained_held (s : State) (d : Nat) (aborted : Bool) (hw0 : Held pq s.regs s.pending) : Held pq (State.entryDrained s d aborted).regs (State.entryDrained s d aborted).pending := by
  unfold State.entryDrained
  repeat' first
    | with_reducible assumption | with_reducible refine State.setEntryRec_held _ _ ?_ | with_reducible refine fst_held (by assumption) ?_
    | with_reducible refine ite_held ?_ ?_ | with_reducible refine ite_fst_held ?_ ?_ | split
theorem State.beginEntry_held (s : State) (target : Nat) (doms : List Nat) (window : Nat) (abort : Bool) (hw0 : Held pq s.regs s.pending) : Held pq (State.beginEntry s target doms window abort).regs (State.beginEntry s target doms window abort).pending := by
  unfold State.beginEntry
  repeat' first
    | with_reducible assumption | with_reducible refine State.set_held _ _ _ ?_ | with_reducible refine State.entryGo_held _ ?_
    | with_reducible refine State.levelAsk_held _ _ ?_ | with_reducible refine State.wakeEvent_held _ _ _ _ ?_
    | with_reducible refine fst_held (by assumption) ?_ | with_reducible refine ite_held ?_ ?_ | with_reducible refine ite_fst_held ?_ ?_ | split
    | dsimp only
theorem State.p1Restart_held (s : State) (hw0 : Held pq s.regs s.pending) : Held pq (State.p1Restart s).regs (State.p1Restart s).pending := by
  unfold State.p1Restart
  repeat' first
    | with_reducible assumption | with_reducible refine State.set_held _ _ _ ?_ | with_reducible refine State.notify_held _ _ _ ?_
    | with_reducible refine fst_held (by assumption) ?_ | with_reducible refine ite_held ?_ ?_
theorem State.ringLost_held (s : State) (q : Nat) (tag : Nat) (st : Status) (hw0 : Held pq s.regs s.pending) : Held pq (State.ringLost s q tag st).regs (State.ringLost s q tag st).pending := by
  unfold State.ringLost
  repeat' first
    | with_reducible assumption | with_reducible refine State.finishExec_held _ _ _ _ ?_ | with_reducible refine State.postWaiting_held _ _ _ _ ?_
    | with_reducible refine State.setQueue_held _ _ _ ?_ | with_reducible refine fst_held (by assumption) ?_ | split
theorem State.loseEntry_held (s : State) (e : CacheEntry) (hw0 : Held pq s.regs s.pending) : Held pq (State.loseEntry s e).regs (State.loseEntry s e).pending := by
  unfold State.loseEntry
  repeat' first
    | with_reducible assumption | with_reducible refine State.abortExec_held _ _ _ ?_ | with_reducible refine State.dropEntry_held _ _ ?_
    | with_reducible refine State.setEntries_held _ _ ?_ | with_reducible refine foldl_held _ ?_ _ _ ?_
    | with_reducible refine foldl_fst_held _ ?_ _ _ ?_ | with_reducible refine fst_held (by assumption) ?_ | with_reducible refine ite_held ?_ ?_
    | with_reducible refine ite_fst_held ?_ ?_ | split | dsimp only | intro _ _ _ _ | intro _ _ _
theorem State.entryLost_held (s : State) (p : Nat) (lba : Nat) (hw0 : Held pq s.regs s.pending) : Held pq (State.entryLost s p lba).regs (State.entryLost s p lba).pending := by
  unfold State.entryLost
  repeat' first
    | with_reducible assumption | with_reducible refine State.loseEntry_held _ _ ?_ | with_reducible refine fst_held (by assumption) ?_ | split
theorem State.rebuildSeg_held (s : State) (e : Nat) (hw0 : Held pq s.regs s.pending) : Held pq (State.rebuildSeg s e).regs (State.rebuildSeg s e).pending := by
  unfold State.rebuildSeg
  repeat' first
    | with_reducible assumption | with_reducible refine State.setSeg_held _ _ _ ?_ | with_reducible refine fst_held (by assumption) ?_ | split
theorem State.coreFault_held (s : State) (core : Nat) (p1 : Bool) (cause : Nat) (hw0 : Held pq s.regs s.pending) : Held pq (State.coreFault s core p1 cause).regs (State.coreFault s core p1 cause).pending := by
  unfold State.coreFault
  repeat' first
    | with_reducible assumption | with_reducible refine State.beginReset_held _ _ _ ?_ | with_reducible refine State.p1Restart_held _ ?_
    | with_reducible refine State.restartT1_held _ _ ?_ | with_reducible refine fst_held (by assumption) ?_ | with_reducible refine ite_held ?_ ?_
theorem State.accessLost_held (s : State) (o : Owner) (st : Status) (hw0 : Held pq s.regs s.pending) : Held pq (State.accessLost s o st).regs (State.accessLost s o st).pending := by
  unfold State.accessLost
  repeat' first
    | with_reducible assumption | with_reducible refine State.abortExec_held _ _ _ ?_ | with_reducible refine State.coreFault_held _ _ _ _ ?_
    | with_reducible refine State.entryLost_held _ _ _ ?_ | with_reducible refine State.rebuildSeg_held _ _ ?_
    | with_reducible refine State.ringLost_held _ _ _ _ ?_ | with_reducible refine fst_held (by assumption) ?_
    | with_reducible refine ite_held ?_ ?_ | with_reducible refine ite_fst_held ?_ ?_ | split
theorem State.colourNotice_held (s : State) (pocket : Nat) (port : Nat) (hw0 : Held pq s.regs s.pending) : Held pq (State.colourNotice s pocket port).regs (State.colourNotice s pocket port).pending := by
  unfold State.colourNotice
  repeat' first
    | with_reducible assumption | with_reducible refine State.notify_held _ _ _ ?_ | with_reducible refine fst_held (by assumption) ?_
    | with_reducible refine ite_held ?_ ?_ | with_reducible refine ite_fst_held ?_ ?_ | split
theorem State.logFault_held (s : State) (f : FaultRec) (hw0 : Held pq s.regs s.pending) : Held pq (State.logFault s f).regs (State.logFault s f).pending := by
  unfold State.logFault
  repeat' first
    | with_reducible assumption | with_reducible refine State.set_held _ _ _ ?_ | with_reducible refine State.count_held _ _ _ ?_
theorem State.colourFault_held (s : State) (source : Nat) (port : Nat) (colour : Nat) (tag : Nat) (addr : Nat) (wr : Bool) (store : Bool) (o : Owner) (hw0 : Held pq s.regs s.pending) : Held pq (State.colourFault s source port colour tag addr wr store o).regs (State.colourFault s source port colour tag addr wr store o).pending := by
  unfold State.colourFault
  repeat' first
    | with_reducible assumption | with_reducible refine State.accessLost_held _ _ _ ?_ | with_reducible refine State.colourNotice_held _ _ _ ?_
    | with_reducible refine State.logFault_held _ _ ?_ | with_reducible refine State.settle_held _ ?_
theorem State.showExt_held (s : State) (hw0 : Held pq s.regs s.pending) : Held pq (State.showExt s).regs (State.showExt s).pending := by
  unfold State.showExt
  repeat' first
    | with_reducible assumption | with_reducible refine State.set_held _ _ _ ?_ | with_reducible refine fst_held (by assumption) ?_ | split
theorem State.placeLost_held (s : State) (x : Spot) (own : Owner) (hw0 : Held pq s.regs s.pending) : Held pq (State.placeLost s x own).regs (State.placeLost s x own).pending := by
  unfold State.placeLost
  repeat' first
    | with_reducible assumption | with_reducible refine State.accessLost_held _ _ _ ?_ | with_reducible refine State.loseEntry_held _ _ ?_
    | with_reducible refine fst_held (by assumption) ?_ | split
theorem State.destroyed_held (s : State) (sw : Nat) (d : Nat) (hw0 : Held pq s.regs s.pending) : Held pq (State.destroyed s sw d).regs (State.destroyed s sw d).pending := by
  unfold State.destroyed
  repeat' first
    | with_reducible assumption | with_reducible refine State.useFree_held _ ?_ | with_reducible refine fst_held (by assumption) ?_
    | with_reducible refine ite_held ?_ ?_
theorem State.formLife_held (s : State) (hw0 : Held pq s.regs s.pending) : Held pq (State.formLife s).regs (State.formLife s).pending := by
  unfold State.formLife
  repeat' first
    | with_reducible assumption | with_reducible refine State.set_held _ _ _ ?_ | with_reducible refine State.tapGate_held _ ?_
theorem State.runRefused_held (s : State) (st : Status) (hw0 : Held pq s.regs s.pending) : Held pq (State.runRefused s st).regs (State.runRefused s st).pending := by
  unfold State.runRefused
  repeat' first
    | with_reducible assumption | with_reducible refine State.set_held _ _ _ ?_
theorem State.endRun_held (s : State) (r : BistRun) (res : Nat) (detail : Nat) (us : Nat) (hw0 : Held pq s.regs s.pending) : Held pq (State.endRun s r res detail us).regs (State.endRun s r res detail us).pending := by
  unfold State.endRun
  repeat' first
    | with_reducible assumption | with_reducible refine State.set_held _ _ _ ?_ | with_reducible refine State.beginReset_held _ _ _ ?_
    | with_reducible refine State.clearDomain_held _ _ ?_ | with_reducible refine State.count_held _ _ _ ?_
    | with_reducible refine State.destroyed_held _ _ _ ?_ | with_reducible refine State.endJobOf_held _ _ _ ?_
    | with_reducible refine State.fence_held _ _ ?_ | with_reducible refine State.fenceOff_held _ _ ?_
    | with_reducible refine State.finishFor_held _ _ _ ?_ | with_reducible refine State.notify_held _ _ _ ?_
    | with_reducible refine State.setDom_held _ _ _ ?_ | with_reducible refine State.setSat_held _ _ _ ?_
    | with_reducible refine State.setSession_held _ _ _ ?_ | with_reducible refine State.unlock_held _ _ ?_
    | with_reducible refine fst_held (by assumption) ?_ | with_reducible refine ite_held ?_ ?_ | with_reducible refine ite_fst_held ?_ ?_ | split
theorem State.runFault_held (s : State) (d : Nat) (cause : Nat) (hw0 : Held pq s.regs s.pending) : Held pq (State.runFault s d cause).regs (State.runFault s d cause).pending := by
  unfold State.runFault
  repeat' first
    | with_reducible assumption | with_reducible refine State.endRun_held _ _ _ _ _ ?_ | with_reducible refine State.faultReset_held _ _ _ ?_
    | with_reducible refine State.useFree_held _ ?_ | with_reducible refine fst_held (by assumption) ?_ | with_reducible refine ite_held ?_ ?_
    | with_reducible refine ite_fst_held ?_ ?_ | split
theorem State.beginRun_held (s : State) (sw : Nat) (d : Nat) (path : Option Path) (job : Bool) (hw0 : Held pq s.regs s.pending) : Held pq (State.beginRun s sw d path job).regs (State.beginRun s sw d path job).pending := by
  unfold State.beginRun
  repeat' first
    | with_reducible assumption | with_reducible refine State.set_held _ _ _ ?_ | with_reducible refine State.cleanCheckpoint_held _ ?_
    | with_reducible refine State.fence_held _ _ ?_ | with_reducible refine fst_held (by assumption) ?_ | with_reducible refine ite_held ?_ ?_
theorem State.zeroizeJournal_held (s : State) (hw0 : Held pq s.regs s.pending) : Held pq (State.zeroizeJournal s).regs (State.zeroizeJournal s).pending := by
  unfold State.zeroizeJournal
  repeat' first
    | with_reducible assumption | with_reducible refine State.countErase_held _ _ _ _ ?_ | with_reducible refine foldl_held _ ?_ _ _ ?_
    | with_reducible refine foldl_fst_held _ ?_ _ _ ?_ | with_reducible refine fst_held (by assumption) ?_ | with_reducible refine ite_held ?_ ?_
    | with_reducible refine ite_fst_held ?_ ?_ | split | dsimp only | intro _ _ _ _ | intro _ _ _
theorem State.eraseAllSlots_held (s : State) (hw0 : Held pq s.regs s.pending) : Held pq (State.eraseAllSlots s).regs (State.eraseAllSlots s).pending := by
  unfold State.eraseAllSlots
  repeat' first
    | with_reducible assumption | with_reducible refine State.abortExec_held _ _ _ ?_ | with_reducible refine foldl_held _ ?_ _ _ ?_
    | with_reducible refine foldl_fst_held _ ?_ _ _ ?_ | with_reducible refine fst_held (by assumption) ?_ | split | dsimp only | intro _ _ _ _
    | intro _ _ _
theorem State.beginLife_held (s : State) (target : Nat) (byT0 : Bool) (hw0 : Held pq s.regs s.pending) : Held pq (State.beginLife s target byT0).regs (State.beginLife s target byT0).pending := by
  unfold State.beginLife
  repeat' first
    | with_reducible assumption | with_reducible refine State.eraseAllSlots_held _ ?_ | with_reducible refine State.zeroizeJournal_held _ ?_
    | with_reducible refine fst_held (by assumption) ?_ | with_reducible refine ite_held ?_ ?_
theorem State.setDrc_held (s : State) (n : Nat) (c : DramCh) (hw0 : Held pq s.regs s.pending) : Held pq (State.setDrc s n c).regs (State.setDrc s n c).pending := by
  unfold State.setDrc
  exact hw0
theorem State.queueLine_held (s : State) (n : Nat) (w : DReq) (hw0 : Held pq s.regs s.pending) : Held pq (State.queueLine s n w).regs (State.queueLine s n w).pending := by
  unfold State.queueLine
  repeat' first
    | with_reducible assumption | with_reducible refine State.setDrc_held _ _ _ ?_ | with_reducible refine fst_held (by assumption) ?_
    | with_reducible refine ite_held ?_ ?_
theorem State.moveLine_held (s : State) (n : Nat) (src : Nat) (dst : Nat) (hw0 : Held pq s.regs s.pending) : Held pq (State.moveLine s n src dst).regs (State.moveLine s n src dst).pending := by
  unfold State.moveLine
  repeat' first
    | with_reducible assumption | with_reducible refine State.setDrc_held _ _ _ ?_ | with_reducible refine fst_held (by assumption) ?_ | split
    | dsimp only
theorem State.remapLine_held (s : State) (n : Nat) (line : Nat) (hw0 : Held pq s.regs s.pending) : Held pq (State.remapLine s n line).regs (State.remapLine s n line).pending := by
  unfold State.remapLine
  repeat' first
    | with_reducible assumption | with_reducible refine State.set_held _ _ _ ?_ | with_reducible refine State.moveLine_held _ _ _ _ ?_
    | with_reducible refine State.notify_held _ _ _ ?_ | with_reducible refine fst_held (by assumption) ?_ | with_reducible refine ite_held ?_ ?_
    | with_reducible refine ite_fst_held ?_ ?_ | split
theorem State.fixedLine_held (s : State) (n : Nat) (line : Nat) (hw0 : Held pq s.regs s.pending) : Held pq (State.fixedLine s n line).regs (State.fixedLine s n line).pending := by
  unfold State.fixedLine
  repeat' first
    | with_reducible assumption | with_reducible refine State.count_held _ _ _ ?_ | with_reducible refine State.remapLine_held _ _ _ ?_
    | with_reducible refine State.setDrc_held _ _ _ ?_ | with_reducible refine fst_held (by assumption) ?_ | with_reducible refine ite_held ?_ ?_
theorem State.storeLine_held (s : State) (n : Nat) (line : Nat) (data : Bytes) (poison : Bool) (hw0 : Held pq s.regs s.pending) : Held pq (State.storeLine s n line data poison).regs (State.storeLine s n line data poison).pending := by
  unfold State.storeLine
  repeat' first
    | with_reducible assumption | with_reducible refine State.set_held _ _ _ ?_ | with_reducible refine State.setDrc_held _ _ _ ?_
    | with_reducible refine fst_held (by assumption) ?_ | with_reducible refine ite_held ?_ ?_
theorem State.corrected_held (s : State) (n : Nat) (line : Nat) (data : Bytes) (hw0 : Held pq s.regs s.pending) : Held pq (State.corrected s n line data).regs (State.corrected s n line data).pending := by
  unfold State.corrected
  repeat' first
    | with_reducible assumption | with_reducible refine State.fixedLine_held _ _ _ ?_ | with_reducible refine State.storeLine_held _ _ _ _ _ ?_
theorem State.startMigration_held (s : State) (n : Nat) (l : Nat) (src : Nat) (dst : Nat) (hw0 : Held pq s.regs s.pending) : Held pq (State.startMigration s n l src dst).regs (State.startMigration s n l src dst).pending := by
  unfold State.startMigration
  repeat' first
    | with_reducible assumption | with_reducible refine State.set_held _ _ _ ?_ | with_reducible refine State.setDrc_held _ _ _ ?_
theorem State.deviceMarked_held (s : State) (n : Nat) (l : Nat) (r : Nat) (d : Nat) (hw0 : Held pq s.regs s.pending) : Held pq (State.deviceMarked s n l r d).regs (State.deviceMarked s n l r d).pending := by
  unfold State.deviceMarked
  repeat' first
    | with_reducible assumption | with_reducible refine State.set_held _ _ _ ?_ | with_reducible refine State.notify_held _ _ _ ?_
    | with_reducible refine State.startMigration_held _ _ _ _ _ ?_ | with_reducible refine fst_held (by assumption) ?_
    | with_reducible refine ite_held ?_ ?_ | with_reducible refine ite_fst_held ?_ ?_ | split
theorem State.shrinkDue_held (s : State) (n : Nat) (r : Nat) (hw0 : Held pq s.regs s.pending) : Held pq (State.shrinkDue s n r).regs (State.shrinkDue s n r).pending := by
  unfold State.shrinkDue
  repeat' first
    | with_reducible assumption | with_reducible refine State.setDrc_held _ _ _ ?_ | with_reducible refine fst_held (by assumption) ?_ | split
    | dsimp only
theorem State.rankFails_held (s : State) (n : Nat) (l : Nat) (r : Nat) (hw0 : Held pq s.regs s.pending) : Held pq (State.rankFails s n l r).regs (State.rankFails s n l r).pending := by
  unfold State.rankFails
  repeat' first
    | with_reducible assumption | with_reducible refine State.set_held _ _ _ ?_ | with_reducible refine State.setDrc_held _ _ _ ?_
    | with_reducible refine State.shrinkDue_held _ _ _ ?_ | with_reducible refine State.startMigration_held _ _ _ _ _ ?_
    | with_reducible refine fst_held (by assumption) ?_ | with_reducible refine ite_held ?_ ?_ | with_reducible refine ite_fst_held ?_ ?_ | split
    | dsimp only
theorem State.poisonLine_held (s : State) (n : Nat) (line : Nat) (hw0 : Held pq s.regs s.pending) : Held pq (State.poisonLine s n line).regs (State.poisonLine s n line).pending := by
  unfold State.poisonLine
  repeat' first
    | with_reducible assumption | with_reducible refine State.storeLine_held _ _ _ _ _ ?_ | with_reducible refine State.useFree_held _ ?_
theorem State.decodeLine_held (s : State) (n : Nat) (line : Nat) (e : LineErrs) (stuck : Bool) (hw0 : Held pq s.regs s.pending) : Held pq (State.decodeLine s n line e stuck).1.regs (State.decodeLine s n line e stuck).1.pending := by
  unfold State.decodeLine
  repeat' first
    | with_reducible assumption | with_reducible refine State.corrected_held _ _ _ _ ?_ | with_reducible refine State.count_held _ _ _ ?_
    | with_reducible refine State.deviceMarked_held _ _ _ _ _ ?_ | with_reducible refine State.poisonLine_held _ _ _ ?_
    | with_reducible refine State.rankFails_held _ _ _ _ ?_ | with_reducible refine State.remapLine_held _ _ _ ?_
    | with_reducible refine State.storeLine_held _ _ _ _ _ ?_ | with_reducible refine State.useFree_held _ ?_
    | with_reducible refine fst_held (by assumption) ?_ | with_reducible refine ite_held ?_ ?_ | with_reducible refine ite_fst_held ?_ ?_ | split
theorem State.tagWrongly_held (s : State) (n : Nat) (num : Nat) (hw0 : Held pq s.regs s.pending) : Held pq (State.tagWrongly s n num).regs (State.tagWrongly s n num).pending := by
  unfold State.tagWrongly
  repeat' first
    | with_reducible assumption | with_reducible refine State.setDrc_held _ _ _ ?_ | with_reducible refine State.useFree_held _ ?_
theorem State.poisonTagged_held (s : State) (n : Nat) (num : Nat) (hw0 : Held pq s.regs s.pending) : Held pq (State.poisonTagged s n num).regs (State.poisonTagged s n num).pending := by
  unfold State.poisonTagged
  repeat' first
    | with_reducible assumption | with_reducible refine State.poisonLine_held _ _ _ ?_ | with_reducible refine foldl_held _ ?_ _ _ ?_
    | with_reducible refine foldl_fst_held _ ?_ _ _ ?_ | with_reducible refine fst_held (by assumption) ?_ | split | dsimp only | intro _ _ _ _
    | intro _ _ _
theorem State.tagLost_held (s : State) (n : Nat) (num : Nat) (hw0 : Held pq s.regs s.pending) : Held pq (State.tagLost s n num).regs (State.tagLost s n num).pending := by
  unfold State.tagLost
  repeat' first
    | with_reducible assumption | with_reducible refine State.count_held _ _ _ ?_ | with_reducible refine State.poisonTagged_held _ _ _ ?_
    | with_reducible refine State.rankFails_held _ _ _ _ ?_ | with_reducible refine State.setDrc_held _ _ _ ?_
theorem State.tagDecode_held (s : State) (n : Nat) (num : Nat) (e : LineErrs) (hw0 : Held pq s.regs s.pending) : Held pq (State.tagDecode s n num e).1.regs (State.tagDecode s n num e).1.pending := by
  unfold State.tagDecode
  repeat' first
    | with_reducible assumption | with_reducible refine State.count_held _ _ _ ?_ | with_reducible refine State.deviceMarked_held _ _ _ _ _ ?_
    | with_reducible refine State.fixedLine_held _ _ _ ?_ | with_reducible refine State.tagLost_held _ _ _ ?_
    | with_reducible refine State.tagWrongly_held _ _ _ ?_ | with_reducible refine fst_held (by assumption) ?_
    | with_reducible refine ite_held ?_ ?_ | with_reducible refine ite_fst_held ?_ ?_ | split | dsimp only
theorem State.countMisses_held (s : State) (n : Nat) (ns : Nat) (hw0 : Held pq s.regs s.pending) : Held pq (State.countMisses s n ns).regs (State.countMisses s n ns).pending := by
  unfold State.countMisses
  repeat' first
    | with_reducible assumption | with_reducible refine State.count_held _ _ _ ?_ | with_reducible refine State.setDrc_held _ _ _ ?_
    | with_reducible refine foldl_held _ ?_ _ _ ?_ | with_reducible refine foldl_fst_held _ ?_ _ _ ?_
    | with_reducible refine fst_held (by assumption) ?_ | with_reducible refine ite_held ?_ ?_ | with_reducible refine ite_fst_held ?_ ?_ | split
    | dsimp only | intro _ _ _ _ | intro _ _ _
theorem State.tagPut_held (s : State) (n : Nat) (t : TagLine) (hw0 : Held pq s.regs s.pending) : Held pq (State.tagPut s n t).regs (State.tagPut s n t).pending := by
  unfold State.tagPut
  repeat' first
    | with_reducible assumption | with_reducible refine State.setDrc_held _ _ _ ?_
theorem State.tagFetch_held (s : State) (n : Nat) (c : Nat) (e : LineErrs) (hw0 : Held pq s.regs s.pending) : Held pq (State.tagFetch s n c e).1.regs (State.tagFetch s n c e).1.pending := by
  unfold State.tagFetch
  repeat' first
    | with_reducible assumption | with_reducible refine State.count_held _ _ _ ?_ | with_reducible refine State.tagDecode_held _ _ _ _ ?_
    | with_reducible refine State.tagPut_held _ _ _ ?_ | with_reducible refine fst_held (by assumption) ?_ | with_reducible refine ite_held ?_ ?_
    | with_reducible refine ite_fst_held ?_ ?_ | split | dsimp only
theorem State.tagByte_held (s : State) (n : Nat) (c : Nat) (value : Nat) (hw0 : Held pq s.regs s.pending) : Held pq (State.tagByte s n c value).regs (State.tagByte s n c value).pending := by
  unfold State.tagByte
  repeat' first
    | with_reducible assumption | with_reducible refine State.tagFetch_held _ _ _ _ ?_ | with_reducible refine State.tagPut_held _ _ _ ?_
    | with_reducible refine fst_held (by assumption) ?_ | split
theorem State.dramReply_held (s : State) (n : Nat) (r : DReply) (hw0 : Held pq s.regs s.pending) : Held pq (State.dramReply s n r).regs (State.dramReply s n r).pending := by
  unfold State.dramReply
  repeat' first
    | with_reducible assumption | with_reducible refine State.setDrc_held _ _ _ ?_
theorem State.newReq_held (s : State) (n : Nat) (port : Nat) (line : Nat) (ns : Nat) (hint : Bool) (o : Owner) (hw0 : Held pq s.regs s.pending) : Held pq (State.newReq s n port line ns hint o).1.regs (State.newReq s n port line ns hint o).1.pending := by
  unfold State.newReq
  exact hw0
theorem State.activate_held (s : State) (n : Nat) (rank : Nat) (bank : Nat) (row : Nat) (hw0 : Held pq s.regs s.pending) : Held pq (State.activate s n rank bank row).regs (State.activate s n rank bank row).pending := by
  unfold State.activate
  repeat' first
    | with_reducible assumption | with_reducible refine State.count_held _ _ _ ?_ | with_reducible refine State.setDrc_held _ _ _ ?_
    | with_reducible refine fst_held (by assumption) ?_ | with_reducible refine map_held ?_ | with_reducible refine bind_held ?_ ?_
    | with_reducible refine some_held ?_ (by assumption) | with_reducible refine ite_held ?_ ?_
theorem State.setLog_held (s : State) (n : Nat) (l : Nat) (p : Nat) (hw0 : Held pq s.regs s.pending) : Held pq (State.setLog s n l p).regs (State.setLog s n l p).pending := by
  unfold State.setLog
  repeat' first
    | with_reducible assumption | with_reducible refine State.set_held _ _ _ ?_ | with_reducible refine fst_held (by assumption) ?_
    | with_reducible refine ite_held ?_ ?_
theorem State.mergePoison_held (s : State) (n : Nat) (m : MergeEntry) (hw0 : Held pq s.regs s.pending) : Held pq (State.mergePoison s n m).regs (State.mergePoison s n m).pending := by
  unfold State.mergePoison
  repeat' first
    | with_reducible assumption | with_reducible refine State.accessLost_held _ _ _ ?_ | with_reducible refine State.dramReply_held _ _ _ ?_
    | with_reducible refine State.settle_held _ ?_ | with_reducible refine foldl_held _ ?_ _ _ ?_ | with_reducible refine foldl_fst_held _ ?_ _ _ ?_
    | with_reducible refine fst_held (by assumption) ?_ | split | dsimp only | intro _ _ _ _ | intro _ _ _
theorem State.access1_held (s : State) (n : Nat) (line : Nat) (hint : Bool) (ns : Nat) (hw0 : Held pq s.regs s.pending) : Held pq (State.access1 s n line hint ns).regs (State.access1 s n line hint ns).pending := by
  unfold State.access1
  repeat' first
    | with_reducible assumption | with_reducible refine State.activate_held _ _ _ _ _ ?_ | with_reducible refine State.setDrc_held _ _ _ ?_
    | with_reducible refine fst_held (by assumption) ?_ | with_reducible refine ite_held ?_ ?_
theorem State.mergeOut_held (s : State) (n : Nat) (m : MergeEntry) (errs : LineErrs) (ns : Nat) (hw0 : Held pq s.regs s.pending) : Held pq (State.mergeOut s n m errs ns).regs (State.mergeOut s n m errs ns).pending := by
  unfold State.mergeOut
  repeat' first
    | with_reducible assumption | with_reducible refine State.access1_held _ _ _ _ _ ?_ | with_reducible refine State.decodeLine_held _ _ _ _ _ ?_
    | with_reducible refine State.mergePoison_held _ _ _ ?_ | with_reducible refine State.newReq_held _ _ _ _ _ _ _ ?_
    | with_reducible refine State.queueLine_held _ _ _ ?_ | with_reducible refine State.setDrc_held _ _ _ ?_
    | with_reducible refine State.useFree_held _ ?_ | with_reducible refine fst_held (by assumption) ?_ | with_reducible refine ite_held ?_ ?_
    | with_reducible refine ite_fst_held ?_ ?_ | split | dsimp only
theorem State.programRegions_held (s : State) (rs : List ExtRegion) (hw0 : Held pq s.regs s.pending) : Held pq (State.programRegions s rs).regs (State.programRegions s rs).pending := by
  unfold State.programRegions
  repeat' first
    | with_reducible assumption | with_reducible refine State.set_held _ _ _ ?_ | with_reducible refine State.setWord_held _ _ _ ?_
    | with_reducible refine foldl_held _ ?_ _ _ ?_ | with_reducible refine foldl_fst_held _ ?_ _ _ ?_
    | with_reducible refine fst_held (by assumption) ?_ | with_reducible refine ite_held ?_ ?_ | with_reducible refine ite_fst_held ?_ ?_ | split
    | dsimp only | intro _ _ _ _ | intro _ _ _
theorem held_execMpuLock (core : Nat) (writer : Nat) (p1 : Bool) (s : State) (hw3 : Held pq s.regs s.pending) : Keeps pq (execMpuLock core writer p1 s) := by
  unfold execMpuLock
  repeat' first
    | with_reducible assumption | with_reducible refine keeps_next ?_ | with_reducible refine State.set_held _ _ _ ?_
    | with_reducible refine fst_held (by assumption) ?_ | with_reducible refine ite_held ?_ ?_ | with_reducible refine ite_fst_held ?_ ?_
    | with_reducible refine ite_keeps ?_ ?_
theorem State.mpuFault_held (s : State) (core : Nat) (p1 : Bool) (access : Nat) (addr : Nat) (hw0 : Held pq s.regs s.pending) : Held pq (State.mpuFault s core p1 access addr).regs (State.mpuFault s core p1 access addr).pending := by
  unfold State.mpuFault
  repeat' first
    | with_reducible assumption | with_reducible refine State.set_held _ _ _ ?_ | with_reducible refine State.coreFault_held _ _ _ _ ?_
    | with_reducible refine State.count_held _ _ _ ?_ | with_reducible refine State.logFault_held _ _ ?_
    | with_reducible refine State.notify_held _ _ _ ?_
theorem State.tagWrite_held (s : State) (core : Nat) (value : Nat) (hw0 : Held pq s.regs s.pending) : Held pq (State.tagWrite s core value).regs (State.tagWrite s core value).pending := by
  unfold State.tagWrite
  repeat' first
    | with_reducible assumption | with_reducible refine State.setOn_held _ _ _ _ ?_ | with_reducible refine State.tagByte_held _ _ _ _ ?_
    | with_reducible refine fst_held (by assumption) ?_ | with_reducible refine ite_held ?_ ?_
theorem held_execTagWrite (core : Nat) (value : Nat) (p1 : Bool) (s : State) (hw3 : Held pq s.regs s.pending) : Keeps pq (execTagWrite core value p1 s) := by
  unfold execTagWrite
  repeat' first
    | with_reducible assumption | with_reducible refine keeps_next ?_ | with_reducible refine State.tagWrite_held _ _ _ ?_
    | with_reducible refine fst_held (by assumption) ?_ | with_reducible refine ite_held ?_ ?_ | with_reducible refine ite_fst_held ?_ ?_
    | with_reducible refine ite_keeps ?_ ?_
theorem held_execMpuFault (core : Nat) (p1 : Bool) (access : Nat) (addr : Nat) (us : Nat) (s0 : State) (hw5 : Held pq s0.regs s0.pending) : Keeps pq (execMpuFault core p1 access addr us s0) := by
  unfold execMpuFault
  repeat' first
    | with_reducible assumption | with_reducible refine keeps_next ?_ | with_reducible refine State.at_held _ _ ?_
    | with_reducible refine State.mpuFault_held _ _ _ _ _ ?_ | with_reducible refine fst_held (by assumption) ?_
    | with_reducible refine ite_held ?_ ?_ | with_reducible refine ite_fst_held ?_ ?_ | with_reducible refine ite_keeps ?_ ?_
theorem State.haltExt_held (s : State) (hw0 : Held pq s.regs s.pending) : Held pq (State.haltExt s).regs (State.haltExt s).pending := by
  unfold State.haltExt
  repeat' first
    | with_reducible assumption | with_reducible refine State.set_held _ _ _ ?_ | with_reducible refine foldl_held _ ?_ _ _ ?_
    | with_reducible refine foldl_fst_held _ ?_ _ _ ?_ | with_reducible refine fst_held (by assumption) ?_ | split | dsimp only | intro _ _ _ _
    | intro _ _ _
theorem State.loadExt_held (s : State) (img : Bytes) (hw0 : Held pq s.regs s.pending) : Held pq (State.loadExt s img).regs (State.loadExt s img).pending := by
  unfold State.loadExt
  exact hw0
theorem State.startExt_held (s : State) (hw0 : Held pq s.regs s.pending) : Held pq (State.startExt s).regs (State.startExt s).pending := by
  unfold State.startExt
  repeat' first
    | with_reducible assumption | with_reducible refine State.set_held _ _ _ ?_ | with_reducible refine State.haltExt_held _ ?_
    | with_reducible refine State.loadExt_held _ _ ?_ | with_reducible refine State.notify_held _ _ _ ?_
    | with_reducible refine State.programRegions_held _ _ ?_ | with_reducible refine fst_held (by assumption) ?_ | split | dsimp only
theorem held_execExtensionStart (s : State) (hw0 : Held pq s.regs s.pending) : Keeps pq (execExtensionStart s) := by
  unfold execExtensionStart
  repeat' first
    | with_reducible assumption | with_reducible refine keeps_next ?_ | with_reducible refine State.startExt_held _ ?_
    | with_reducible refine fst_held (by assumption) ?_ | with_reducible refine ite_held ?_ ?_ | with_reducible refine ite_fst_held ?_ ?_
    | with_reducible refine ite_keeps ?_ ?_
theorem State.keepIf_held (s : State) (f : Fld) (fuelN : Option Nat) (hw0 : Held pq s.regs s.pending) : Held pq (State.keepIf s f fuelN).regs (State.keepIf s f fuelN).pending := by
  unfold State.keepIf
  repeat' first
    | with_reducible assumption | with_reducible refine State.keep_held _ _ _ ?_ | with_reducible refine fst_held (by assumption) ?_ | split
theorem State.cmd_held (s : State) (c : Say) (ln : Ln) (us : Nat) (f : Form) (body : State → State × Result) (hw0 : Held pq s.regs s.pending) (hf5 : ∀ x0, Held pq x0.regs x0.pending → Held pq (body x0).1.regs (body x0).1.pending) : Keeps pq (State.cmd s c ln us f body) := by
  unfold State.cmd
  repeat' first
    | with_reducible assumption | with_reducible refine keeps_next ?_ | with_reducible refine State.at_held _ _ ?_
    | with_reducible refine State.runLine_held _ _ _ _ _ _ ?_ ?_ | with_reducible refine hf5 _ ?_
    | with_reducible refine fst_held (by assumption) ?_ | with_reducible refine ite_held ?_ ?_ | with_reducible refine ite_fst_held ?_ ?_
    | with_reducible refine ite_keeps ?_ ?_ | split | dsimp only | intro _ _ _ _ | intro _ _ _ | intro _ _

end Sys2Proof.Machine
end

