-- ==== Sys2Proof/Laws/Held4.lean ====
section
/-!
SUPPORT. Sys2Proof/Laws/Held4.lean: the canonical form of the register file and the waiting commands, continued from
Held3.lean.
-/
namespace Sys2Proof.Machine
open Sys2Proof

variable {pq : List Instr}
theorem State.lineCmd_held (s : State) (c : Say) (ln : Ln) (us : Nat) (body : State → State × Result) (hw0 : Held pq s.regs s.pending) (hf4 : ∀ x0, Held pq x0.regs x0.pending → Held pq (body x0).1.regs (body x0).1.pending) : Keeps pq (State.lineCmd s c ln us body) := by
  unfold State.lineCmd
  repeat' first
    | with_reducible assumption | with_reducible refine keeps_next ?_ | with_reducible refine State.at_held _ _ ?_
    | with_reducible refine State.cmd_held _ _ _ _ _ _ ?_ ?_ | with_reducible refine State.runLine_held _ _ _ _ _ _ ?_ ?_
    | with_reducible refine hf4 _ ?_ | with_reducible refine fst_held (by assumption) ?_ | with_reducible refine ite_held ?_ ?_
    | with_reducible refine ite_fst_held ?_ ?_ | with_reducible refine ite_keeps ?_ ?_ | split | dsimp only | intro _ _ _ _ | intro _ _ _
    | intro _ _
theorem held_execLineCts (ln : Ln) (on : Bool) (us : Nat) (s : State) (hw3 : Held pq s.regs s.pending) : Keeps pq (execLineCts ln on us s) := by
  unfold execLineCts
  repeat' first
    | with_reducible assumption | with_reducible refine keeps_next ?_ | with_reducible refine State.lineCmd_held _ _ _ _ _ ?_ ?_
    | with_reducible refine fst_held (by assumption) ?_ | split | dsimp only | intro _ _ _ _ | intro _ _ _ | intro _ _
theorem State.cmdEarly_held (s : State) (c : Say) (ln : Ln) (us : Nat) (f : Form) (body : State → State × Result) (hw0 : Held pq s.regs s.pending) (hf5 : ∀ x0, Held pq x0.regs x0.pending → Held pq (body x0).1.regs (body x0).1.pending) : Keeps pq (State.cmdEarly s c ln us f body) := by
  unfold State.cmdEarly
  repeat' first
    | with_reducible assumption | with_reducible refine keeps_next ?_ | with_reducible refine State.at_held _ _ ?_
    | with_reducible refine State.runLine_held _ _ _ _ _ _ ?_ ?_ | with_reducible refine hf5 _ ?_
    | with_reducible refine fst_held (by assumption) ?_ | with_reducible refine ite_held ?_ ?_ | with_reducible refine ite_fst_held ?_ ?_
    | with_reducible refine ite_keeps ?_ ?_ | split | dsimp only | intro _ _ _ _ | intro _ _ _ | intro _ _
theorem held_execVer (ln : Ln) (us : Nat) (s : State) (hw2 : Held pq s.regs s.pending) : Keeps pq (execVer ln us s) := by
  unfold execVer
  repeat' first
    | with_reducible assumption | with_reducible refine keeps_next ?_ | with_reducible refine State.cmdEarly_held _ _ _ _ _ _ ?_ ?_
    | with_reducible refine fst_held (by assumption) ?_ | with_reducible refine ite_held ?_ ?_ | with_reducible refine ite_fst_held ?_ ?_
    | with_reducible refine ite_keeps ?_ ?_ | split | dsimp only | intro _ _ _ _ | intro _ _ _ | intro _ _
theorem State.takeRole_held (s : State) (p : Path) (r : Role) (hw0 : Held pq s.regs s.pending) : Held pq (State.takeRole s p r).regs (State.takeRole s p r).pending := by
  unfold State.takeRole
  repeat' first
    | with_reducible assumption | with_reducible refine State.setSession_held _ _ _ ?_
theorem State.askService_held (s : State) (p : Path) (us : Nat) (hw0 : Held pq s.regs s.pending) : Held pq (State.askService s p us).1.regs (State.askService s p us).1.pending := by
  unfold State.askService
  repeat' first
    | with_reducible assumption | with_reducible refine State.setSession_held _ _ _ ?_ | with_reducible refine State.takeRole_held _ _ _ ?_
    | with_reducible refine State.useFree_held _ ?_ | with_reducible refine fst_held (by assumption) ?_ | with_reducible refine ite_held ?_ ?_
    | with_reducible refine ite_fst_held ?_ ?_
theorem held_execHelloService (ln : Ln) (us : Nat) (s : State) (hw2 : Held pq s.regs s.pending) : Keeps pq (execHelloService ln us s) := by
  unfold execHelloService
  repeat' first
    | with_reducible assumption | with_reducible refine keeps_next ?_ | with_reducible refine State.askService_held _ _ _ ?_
    | with_reducible refine State.cmdEarly_held _ _ _ _ _ _ ?_ ?_ | with_reducible refine fst_held (by assumption) ?_ | split | dsimp only
    | intro _ _ _ _ | intro _ _ _ | intro _ _
theorem held_execId (ln : Ln) (us : Nat) (s : State) (hw2 : Held pq s.regs s.pending) : Keeps pq (execId ln us s) := by
  unfold execId
  repeat' first
    | with_reducible assumption | with_reducible refine keeps_next ?_ | with_reducible refine State.cmdEarly_held _ _ _ _ _ _ ?_ ?_
    | with_reducible refine fst_held (by assumption) ?_ | with_reducible refine ite_held ?_ ?_ | with_reducible refine ite_fst_held ?_ ?_
    | with_reducible refine ite_keeps ?_ ?_ | split | dsimp only | intro _ _ _ _ | intro _ _ _ | intro _ _
theorem held_execLineShow (ln : Ln) (us : Nat) (s : State) (hw2 : Held pq s.regs s.pending) : Keeps pq (execLineShow ln us s) := by
  unfold execLineShow
  repeat' first
    | with_reducible assumption | with_reducible refine keeps_next ?_ | with_reducible refine State.lineCmd_held _ _ _ _ _ ?_ ?_
    | with_reducible refine fst_held (by assumption) ?_ | with_reducible refine ite_held ?_ ?_ | with_reducible refine ite_fst_held ?_ ?_
    | with_reducible refine ite_keeps ?_ ?_ | split | dsimp only | intro _ _ _ _ | intro _ _ _ | intro _ _
theorem held_execLineMode (ln : Ln) (strict : Bool) (us : Nat) (s : State) (hw3 : Held pq s.regs s.pending) : Keeps pq (execLineMode ln strict us s) := by
  unfold execLineMode
  repeat' first
    | with_reducible assumption | with_reducible refine keeps_next ?_ | with_reducible refine State.lineCmd_held _ _ _ _ _ ?_ ?_
    | with_reducible refine State.setFlag_held _ _ _ ?_ | with_reducible refine fst_held (by assumption) ?_ | split | dsimp only | intro _ _ _ _
    | intro _ _ _ | intro _ _
theorem held_execClockSet (ln : Ln) (minute : Nat) (sec : Nat) (us : Nat) (s : State) (hw4 : Held pq s.regs s.pending) : Keeps pq (execClockSet ln minute sec us s) := by
  unfold execClockSet
  repeat' first
    | with_reducible assumption | with_reducible refine keeps_next ?_ | with_reducible refine State.set_held _ _ _ ?_
    | with_reducible refine State.closeAll_held _ _ _ ?_ | with_reducible refine State.cmd_held _ _ _ _ _ _ ?_ ?_
    | with_reducible refine fst_held (by assumption) ?_ | with_reducible refine ite_held ?_ ?_ | with_reducible refine ite_fst_held ?_ ?_
    | with_reducible refine ite_keeps ?_ ?_ | split | dsimp only | intro _ _ _ _ | intro _ _ _ | intro _ _
theorem held_execHelloResponse (ln : Ln) (resp : Bytes) (us : Nat) (s : State) (hw3 : Held pq s.regs s.pending) : Keeps pq (execHelloResponse ln resp us s) := by
  unfold execHelloResponse
  repeat' first
    | with_reducible assumption | with_reducible refine keeps_next ?_ | with_reducible refine State.askService_held _ _ _ ?_
    | with_reducible refine State.cmdEarly_held _ _ _ _ _ _ ?_ ?_ | with_reducible refine State.setSession_held _ _ _ ?_
    | with_reducible refine State.takeRole_held _ _ _ ?_ | with_reducible refine fst_held (by assumption) ?_ | with_reducible refine ite_held ?_ ?_
    | with_reducible refine ite_fst_held ?_ ?_ | with_reducible refine ite_keeps ?_ ?_ | split | dsimp only | intro _ _ _ _ | intro _ _ _
    | intro _ _
theorem held_execLineSpeed (ln : Ln) (speed : Nat) (us : Nat) (s : State) (hw3 : Held pq s.regs s.pending) : Keeps pq (execLineSpeed ln speed us s) := by
  unfold execLineSpeed
  repeat' first
    | with_reducible assumption | with_reducible refine keeps_next ?_ | with_reducible refine State.lineCmd_held _ _ _ _ _ ?_ ?_
    | with_reducible refine fst_held (by assumption) ?_ | with_reducible refine ite_held ?_ ?_ | with_reducible refine ite_fst_held ?_ ?_
    | with_reducible refine ite_keeps ?_ ?_ | split | dsimp only | intro _ _ _ _ | intro _ _ _ | intro _ _
theorem held_execHello (ln : Ln) (us : Nat) (s : State) (hw2 : Held pq s.regs s.pending) : Keeps pq (execHello ln us s) := by
  unfold execHello
  repeat' first
    | with_reducible assumption | with_reducible refine keeps_next ?_ | with_reducible refine State.cmdEarly_held _ _ _ _ _ _ ?_ ?_
    | with_reducible refine fst_held (by assumption) ?_ | split | dsimp only | intro _ _ _ _ | intro _ _ _ | intro _ _
theorem held_execClockShow (ln : Ln) (us : Nat) (s : State) (hw2 : Held pq s.regs s.pending) : Keeps pq (execClockShow ln us s) := by
  unfold execClockShow
  repeat' first
    | with_reducible assumption | with_reducible refine keeps_next ?_ | with_reducible refine State.cmd_held _ _ _ _ _ _ ?_ ?_
    | with_reducible refine fst_held (by assumption) ?_ | with_reducible refine ite_held ?_ ?_ | with_reducible refine ite_fst_held ?_ ?_
    | with_reducible refine ite_keeps ?_ ?_ | split | dsimp only | intro _ _ _ _ | intro _ _ _ | intro _ _
theorem held_execHelloRole (ln : Ln) (role : Role) (us : Nat) (s : State) (hw3 : Held pq s.regs s.pending) : Keeps pq (execHelloRole ln role us s) := by
  unfold execHelloRole
  repeat' first
    | with_reducible assumption | with_reducible refine keeps_next ?_ | with_reducible refine State.askService_held _ _ _ ?_
    | with_reducible refine State.cmdEarly_held _ _ _ _ _ _ ?_ ?_ | with_reducible refine State.takeRole_held _ _ _ ?_
    | with_reducible refine fst_held (by assumption) ?_ | with_reducible refine ite_held ?_ ?_ | with_reducible refine ite_fst_held ?_ ?_
    | with_reducible refine ite_keeps ?_ ?_ | split | dsimp only | intro _ _ _ _ | intro _ _ _ | intro _ _
theorem State.setImage_held (s : State) (i : Option (Path × Nat × Bytes)) (hw0 : Held pq s.regs s.pending) : Held pq (State.setImage s i).regs (State.setImage s i).pending := by
  unfold State.setImage
  exact hw0
theorem held_execMpuAdd (ln : Ln) (off : Nat) (hex : Bytes) (us : Nat) (s : State) (hw4 : Held pq s.regs s.pending) : Keeps pq (execMpuAdd ln off hex us s) := by
  unfold execMpuAdd
  repeat' first
    | with_reducible assumption | with_reducible refine keeps_next ?_ | with_reducible refine State.cmd_held _ _ _ _ _ _ ?_ ?_
    | with_reducible refine State.setImage_held _ _ ?_ | with_reducible refine fst_held (by assumption) ?_ | with_reducible refine ite_held ?_ ?_
    | with_reducible refine ite_fst_held ?_ ?_ | with_reducible refine ite_keeps ?_ ?_ | split | dsimp only | intro _ _ _ _ | intro _ _ _
    | intro _ _
theorem State.admitExt_held (s : State) (img : Bytes) (slot : Nat) (hw0 : Held pq s.regs s.pending) : Held pq (State.admitExt s img slot).1.regs (State.admitExt s img slot).1.pending := by
  unfold State.admitExt
  repeat' first
    | with_reducible assumption | with_reducible refine State.set_held _ _ _ ?_ | with_reducible refine State.haltExt_held _ ?_
    | with_reducible refine State.showExt_held _ ?_ | with_reducible refine State.startExt_held _ ?_
    | with_reducible refine fst_held (by assumption) ?_ | with_reducible refine ite_held ?_ ?_
theorem held_execLogFaults (ln : Ln) (frm : Option Nat) (count : Option Nat) (us : Nat) (s : State) (hw4 : Held pq s.regs s.pending) : Keeps pq (execLogFaults ln frm count us s) := by
  unfold execLogFaults
  repeat' first
    | with_reducible assumption | with_reducible refine keeps_next ?_ | with_reducible refine State.cmd_held _ _ _ _ _ _ ?_ ?_
    | with_reducible refine fst_held (by assumption) ?_ | with_reducible refine ite_held ?_ ?_ | with_reducible refine ite_fst_held ?_ ?_
    | with_reducible refine ite_keeps ?_ ?_ | split | dsimp only | intro _ _ _ _ | intro _ _ _ | intro _ _
theorem held_execMpuLoad (ln : Ln) (length : Nat) (us : Nat) (s : State) (hw3 : Held pq s.regs s.pending) : Keeps pq (execMpuLoad ln length us s) := by
  unfold execMpuLoad
  repeat' first
    | with_reducible assumption | with_reducible refine keeps_next ?_ | with_reducible refine State.cmd_held _ _ _ _ _ _ ?_ ?_
    | with_reducible refine State.setImage_held _ _ ?_ | with_reducible refine fst_held (by assumption) ?_ | with_reducible refine ite_held ?_ ?_
    | with_reducible refine ite_fst_held ?_ ?_ | with_reducible refine ite_keeps ?_ ?_ | split | dsimp only | intro _ _ _ _ | intro _ _ _
    | intro _ _
theorem held_execMpuAdmit (ln : Ln) (slot : Nat) (us : Nat) (s : State) (hw3 : Held pq s.regs s.pending) : Keeps pq (execMpuAdmit ln slot us s) := by
  unfold execMpuAdmit
  repeat' first
    | with_reducible assumption | with_reducible refine keeps_next ?_ | with_reducible refine State.admitExt_held _ _ _ ?_
    | with_reducible refine State.cmd_held _ _ _ _ _ _ ?_ ?_ | with_reducible refine State.setImage_held _ _ ?_
    | with_reducible refine fst_held (by assumption) ?_ | with_reducible refine ite_held ?_ ?_ | with_reducible refine ite_fst_held ?_ ?_
    | with_reducible refine ite_keeps ?_ ?_ | split | dsimp only | intro _ _ _ _ | intro _ _ _ | intro _ _
theorem State.tagOf_held (s : State) (addr : Nat) (n : Nat) (c : Nat) (e : LineErrs) (hw0 : Held pq s.regs s.pending) : Held pq (State.tagOf s addr n c e).1.regs (State.tagOf s addr n c e).1.pending := by
  unfold State.tagOf
  repeat' first
    | with_reducible assumption | with_reducible refine State.tagFetch_held _ _ _ _ ?_ | with_reducible refine fst_held (by assumption) ?_ | split
theorem held_execMpuRemove (ln : Ln) (us : Nat) (s : State) (hw2 : Held pq s.regs s.pending) : Keeps pq (execMpuRemove ln us s) := by
  unfold execMpuRemove
  repeat' first
    | with_reducible assumption | with_reducible refine keeps_next ?_ | with_reducible refine State.set_held _ _ _ ?_
    | with_reducible refine State.cmd_held _ _ _ _ _ _ ?_ ?_ | with_reducible refine State.haltExt_held _ ?_
    | with_reducible refine State.showExt_held _ ?_ | with_reducible refine fst_held (by assumption) ?_ | split | dsimp only | intro _ _ _ _
    | intro _ _ _ | intro _ _
theorem State.colourTag_held (s : State) (addr : Nat) (e : LineErrs) (hw0 : Held pq s.regs s.pending) : Held pq (State.colourTag s addr e).1.regs (State.colourTag s addr e).1.pending := by
  unfold State.colourTag
  repeat' first
    | with_reducible assumption | with_reducible refine State.tagOf_held _ _ _ _ _ ?_ | with_reducible refine fst_held (by assumption) ?_
    | with_reducible refine ite_held ?_ ?_ | with_reducible refine ite_fst_held ?_ ?_
theorem held_execLogShow (ln : Ln) (us : Nat) (s : State) (hw2 : Held pq s.regs s.pending) : Keeps pq (execLogShow ln us s) := by
  unfold execLogShow
  repeat' first
    | with_reducible assumption | with_reducible refine keeps_next ?_ | with_reducible refine State.cmd_held _ _ _ _ _ _ ?_ ?_
    | with_reducible refine fst_held (by assumption) ?_ | split | dsimp only | intro _ _ _ _ | intro _ _ _ | intro _ _
theorem held_execMpuShow (ln : Ln) (core : Option Nat) (us : Nat) (s : State) (hw3 : Held pq s.regs s.pending) : Keeps pq (execMpuShow ln core us s) := by
  unfold execMpuShow
  repeat' first
    | with_reducible assumption | with_reducible refine keeps_next ?_ | with_reducible refine State.cmd_held _ _ _ _ _ _ ?_ ?_
    | with_reducible refine fst_held (by assumption) ?_ | with_reducible refine ite_held ?_ ?_ | with_reducible refine ite_fst_held ?_ ?_
    | with_reducible refine ite_keeps ?_ ?_ | split | dsimp only | intro _ _ _ _ | intro _ _ _ | intro _ _
theorem held_execColourShow (ln : Ln) (us : Nat) (s : State) (hw2 : Held pq s.regs s.pending) : Keeps pq (execColourShow ln us s) := by
  unfold execColourShow
  repeat' first
    | with_reducible assumption | with_reducible refine keeps_next ?_ | with_reducible refine State.cmd_held _ _ _ _ _ _ ?_ ?_
    | with_reducible refine fst_held (by assumption) ?_ | split | dsimp only | intro _ _ _ _ | intro _ _ _ | intro _ _
theorem held_execColourTag (ln : Ln) (addr : Nat) (errs : LineErrs) (us : Nat) (s : State) (hw4 : Held pq s.regs s.pending) : Keeps pq (execColourTag ln addr errs us s) := by
  unfold execColourTag
  repeat' first
    | with_reducible assumption | with_reducible refine keeps_next ?_ | with_reducible refine State.cmd_held _ _ _ _ _ _ ?_ ?_
    | with_reducible refine State.colourTag_held _ _ _ ?_ | with_reducible refine fst_held (by assumption) ?_ | split | dsimp only | intro _ _ _ _
    | intro _ _ _ | intro _ _
theorem State.esrCheck_held (s : State) (hw0 : Held pq s.regs s.pending) : Held pq (State.esrCheck s).regs (State.esrCheck s).pending := by
  unfold State.esrCheck
  repeat' first
    | with_reducible assumption | with_reducible refine State.set_held _ _ _ ?_ | with_reducible refine State.notify_held _ _ _ ?_
    | with_reducible refine fst_held (by assumption) ?_ | with_reducible refine ite_held ?_ ?_
theorem State.setLin_held (s : State) (l : Lining) (hw0 : Held pq s.regs s.pending) : Held pq (State.setLin s l).regs (State.setLin s l).pending := by
  unfold State.setLin
  exact hw0
theorem State.capCheck_held (s : State) (hw0 : Held pq s.regs s.pending) : Held pq (State.capCheck s).regs (State.capCheck s).pending := by
  unfold State.capCheck
  repeat' first
    | with_reducible assumption | with_reducible refine State.set_held _ _ _ ?_ | with_reducible refine State.notify_held _ _ _ ?_
    | with_reducible refine State.setLin_held _ _ ?_ | with_reducible refine fst_held (by assumption) ?_ | with_reducible refine ite_held ?_ ?_
theorem State.loadDescriptor_held (s : State) (hw0 : Held pq s.regs s.pending) : Held pq (State.loadDescriptor s).regs (State.loadDescriptor s).pending := by
  unfold State.loadDescriptor
  repeat' first
    | with_reducible assumption | with_reducible refine State.set_held _ _ _ ?_
theorem State.pathsEnd_held (s : State) (hw0 : Held pq s.regs s.pending) : Held pq (State.pathsEnd s).regs (State.pathsEnd s).pending := by
  unfold State.pathsEnd
  repeat' first
    | with_reducible assumption | with_reducible refine State.dropImage_held _ _ ?_ | with_reducible refine State.endSession_held _ _ _ ?_
    | with_reducible refine State.mute_held _ _ ?_ | with_reducible refine foldl_held _ ?_ _ _ ?_ | with_reducible refine foldl_fst_held _ ?_ _ _ ?_
    | with_reducible refine fst_held (by assumption) ?_ | split | dsimp only | intro _ _ _ _ | intro _ _ _
theorem State.dropWork_held (s : State) (hw0 : Held pq s.regs s.pending) : Held pq (State.dropWork s).regs (State.dropWork s).pending := by
  unfold State.dropWork
  repeat' first
    | with_reducible assumption | with_reducible refine State.dropEntries_held _ _ ?_ | with_reducible refine State.setEntries_held _ _ ?_
theorem State.silence_held (s : State) (w : AwaitFor) (hw0 : Held pq s.regs s.pending) : Held pq (State.silence s w).regs (State.silence s w).pending := by
  unfold State.silence
  repeat' first
    | with_reducible assumption | with_reducible refine State.setSession_held _ _ _ ?_ | with_reducible refine State.unlock_held _ _ ?_
    | with_reducible refine fst_held (by assumption) ?_ | split
theorem State.ladderAnswers_held (s : State) (d : Nat) (hw0 : Held pq s.regs s.pending) : Held pq (State.ladderAnswers s d).regs (State.ladderAnswers s d).pending := by
  unfold State.ladderAnswers
  repeat' first
    | with_reducible assumption | with_reducible refine State.cutOps_held _ _ _ _ ?_ | with_reducible refine State.silence_held _ _ ?_
    | with_reducible refine fst_held (by assumption) ?_ | with_reducible refine ite_held ?_ ?_
theorem State.ladderOff_held (s : State) (d : Nat) (hw0 : Held pq s.regs s.pending) : Held pq (State.ladderOff s d).regs (State.ladderOff s d).pending := by
  unfold State.ladderOff
  repeat' first
    | with_reducible assumption | with_reducible refine State.dropChange_held _ _ ?_ | with_reducible refine State.fenceOff_held _ _ ?_
    | with_reducible refine State.ladderAnswers_held _ _ ?_ | with_reducible refine fst_held (by assumption) ?_
    | with_reducible refine ite_held ?_ ?_
theorem State.linState_held (s : State) (st : Nat) (hw0 : Held pq s.regs s.pending) : Held pq (State.linState s st).regs (State.linState s st).pending := by
  unfold State.linState
  repeat' first
    | with_reducible assumption | with_reducible refine State.set_held _ _ _ ?_ | with_reducible refine State.setLin_held _ _ ?_
theorem State.probeEnds_held (s : State) (ok : Bool) (hw0 : Held pq s.regs s.pending) : Held pq (State.probeEnds s ok).regs (State.probeEnds s ok).pending := by
  unfold State.probeEnds
  repeat' first
    | with_reducible assumption | with_reducible refine State.set_held _ _ _ ?_ | with_reducible refine State.endJobOf_held _ _ _ ?_
    | with_reducible refine fst_held (by assumption) ?_ | with_reducible refine ite_held ?_ ?_
theorem State.linStop_held (s : State) (st : Nat) (hw0 : Held pq s.regs s.pending) : Held pq (State.linStop s st).regs (State.linStop s st).pending := by
  unfold State.linStop
  repeat' first
    | with_reducible assumption | with_reducible refine State.linState_held _ _ ?_ | with_reducible refine State.probeEnds_held _ _ ?_
    | with_reducible refine State.setLin_held _ _ ?_
theorem State.abandonLadder_held (s : State) (cause : Nat) (hw0 : Held pq s.regs s.pending) : Held pq (State.abandonLadder s cause).regs (State.abandonLadder s cause).pending := by
  unfold State.abandonLadder
  repeat' first
    | with_reducible assumption | with_reducible refine State.set_held _ _ _ ?_ | with_reducible refine State.dropWork_held _ ?_
    | with_reducible refine State.ladderOff_held _ _ ?_ | with_reducible refine State.linStop_held _ _ ?_
    | with_reducible refine State.pathsEnd_held _ ?_ | with_reducible refine State.seamCheck_held _ ?_
    | with_reducible refine State.setLin_held _ _ ?_ | with_reducible refine foldl_held _ ?_ _ _ ?_
    | with_reducible refine foldl_fst_held _ ?_ _ _ ?_ | with_reducible refine fst_held (by assumption) ?_ | split | dsimp only | intro _ _ _ _
    | intro _ _ _
theorem State.flushDomains_held (s : State) (hw0 : Held pq s.regs s.pending) : Held pq (State.flushDomains s).regs (State.flushDomains s).pending := by
  unfold State.flushDomains
  repeat' first
    | with_reducible assumption | with_reducible refine State.set_held _ _ _ ?_ | with_reducible refine State.enterIn_held _ _ ?_
    | with_reducible refine State.switchOn_held _ _ _ ?_ | with_reducible refine foldl_held _ ?_ _ _ ?_
    | with_reducible refine foldl_fst_held _ ?_ _ _ ?_ | with_reducible refine fst_held (by assumption) ?_ | with_reducible refine ite_held ?_ ?_
    | with_reducible refine ite_fst_held ?_ ?_ | split | dsimp only | intro _ _ _ _ | intro _ _ _
theorem State.removalTrigger_held (s : State) (cause : Nat) (hw0 : Held pq s.regs s.pending) : Held pq (State.removalTrigger s cause).regs (State.removalTrigger s cause).pending := by
  unfold State.removalTrigger
  repeat' first
    | with_reducible assumption | with_reducible refine State.set_held _ _ _ ?_ | with_reducible refine State.abandonLadder_held _ _ ?_
    | with_reducible refine State.closeRemoval_held _ ?_ | with_reducible refine State.dropWork_held _ ?_
    | with_reducible refine State.endRun_held _ _ _ _ _ ?_ | with_reducible refine State.finishFor_held _ _ _ ?_
    | with_reducible refine State.flushDomains_held _ ?_ | with_reducible refine State.ladderOff_held _ _ ?_
    | with_reducible refine State.levelAsk_held _ _ ?_ | with_reducible refine State.linState_held _ _ ?_
    | with_reducible refine State.pathsEnd_held _ ?_ | with_reducible refine State.probeEnds_held _ _ ?_
    | with_reducible refine State.readyLow_held _ ?_ | with_reducible refine State.setLevel_held _ _ ?_
    | with_reducible refine State.setLin_held _ _ ?_ | with_reducible refine foldl_held _ ?_ _ _ ?_
    | with_reducible refine foldl_fst_held _ ?_ _ _ ?_ | with_reducible refine fst_held (by assumption) ?_ | with_reducible refine ite_held ?_ ?_
    | with_reducible refine ite_fst_held ?_ ?_ | split | dsimp only | intro _ _ _ _ | intro _ _ _
theorem State.throughCheck_held (s : State) (b : Nat) (d : Nat) (hw0 : Held pq s.regs s.pending) : Held pq (State.throughCheck s b d).regs (State.throughCheck s b d).pending := by
  unfold State.throughCheck
  repeat' first
    | with_reducible assumption | with_reducible refine State.notify_held _ _ _ ?_ | with_reducible refine State.setLin_held _ _ ?_
    | with_reducible refine fst_held (by assumption) ?_ | with_reducible refine ite_held ?_ ?_ | with_reducible refine ite_fst_held ?_ ?_ | split
theorem State.budget_held (s : State) (hw0 : Held pq s.regs s.pending) : Held pq (State.budget s).regs (State.budget s).pending := by
  unfold State.budget
  repeat' first
    | with_reducible assumption | with_reducible refine State.set_held _ _ _ ?_ | with_reducible refine State.capCheck_held _ ?_
    | with_reducible refine State.esrCheck_held _ ?_ | with_reducible refine State.flushMode_held _ ?_
    | with_reducible refine State.setFlag_held _ _ _ ?_ | with_reducible refine State.setSat_held _ _ _ ?_
    | with_reducible refine State.throughCheck_held _ _ _ ?_
theorem State.enterFault_held (s : State) (hw0 : Held pq s.regs s.pending) : Held pq (State.enterFault s).regs (State.enterFault s).pending := by
  unfold State.enterFault
  repeat' first
    | with_reducible assumption | with_reducible refine State.linStop_held _ _ ?_ | with_reducible refine State.wakeEvent_held _ _ _ _ ?_
    | with_reducible refine fst_held (by assumption) ?_ | with_reducible refine ite_held ?_ ?_
theorem State.startProbe_held (s : State) (hw0 : Held pq s.regs s.pending) : Held pq (State.startProbe s).regs (State.startProbe s).pending := by
  unfold State.startProbe
  repeat' first
    | with_reducible assumption | with_reducible refine State.set_held _ _ _ ?_ | with_reducible refine State.linState_held _ _ ?_
    | with_reducible refine State.setLin_held _ _ ?_
theorem State.linFault_held (s : State) (k : Nat) (hw0 : Held pq s.regs s.pending) : Held pq (State.linFault s k).regs (State.linFault s k).pending := by
  unfold State.linFault
  repeat' first
    | with_reducible assumption | with_reducible refine State.set_held _ _ _ ?_ | with_reducible refine State.enterFault_held _ ?_
    | with_reducible refine State.setLin_held _ _ ?_ | with_reducible refine fst_held (by assumption) ?_ | with_reducible refine ite_held ?_ ?_
theorem State.takeEsr_held (s : State) (dv : Nat) (di : Nat) (hw0 : Held pq s.regs s.pending) : Held pq (State.takeEsr s dv di).regs (State.takeEsr s dv di).pending := by
  unfold State.takeEsr
  repeat' first
    | with_reducible assumption | with_reducible refine State.set_held _ _ _ ?_ | with_reducible refine State.esrCheck_held _ ?_
    | with_reducible refine State.linFault_held _ _ ?_ | with_reducible refine State.setLin_held _ _ ?_
    | with_reducible refine fst_held (by assumption) ?_ | with_reducible refine ite_held ?_ ?_
theorem State.linRamp_held (s : State) (hw0 : Held pq s.regs s.pending) : Held pq (State.linRamp s).regs (State.linRamp s).pending := by
  unfold State.linRamp
  repeat' first
    | with_reducible assumption | with_reducible refine State.linState_held _ _ ?_ | with_reducible refine State.setLin_held _ _ ?_
theorem State.takeCap_held (s : State) (c : Nat) (hw0 : Held pq s.regs s.pending) : Held pq (State.takeCap s c).1.regs (State.takeCap s c).1.pending := by
  unfold State.takeCap
  repeat' first
    | with_reducible assumption | with_reducible refine State.set_held _ _ _ ?_ | with_reducible refine State.linFault_held _ _ ?_
    | with_reducible refine State.setLin_held _ _ ?_ | with_reducible refine fst_held (by assumption) ?_ | with_reducible refine ite_held ?_ ?_
    | with_reducible refine ite_fst_held ?_ ?_
theorem State.windowRuns_held (s : State) (iMa : Int) (us : Nat) (hw0 : Held pq s.regs s.pending) : Held pq (State.windowRuns s iMa us).regs (State.windowRuns s iMa us).pending := by
  unfold State.windowRuns
  repeat' first
    | with_reducible assumption | with_reducible refine State.setLin_held _ _ ?_ | with_reducible refine State.takeCap_held _ _ ?_
    | with_reducible refine fst_held (by assumption) ?_ | with_reducible refine ite_held ?_ ?_ | with_reducible refine ite_fst_held ?_ ?_ | split
theorem held_execCipherPairKat (pair : Nat) (ok : Bool) (us : Nat) (s : State) (hw3 : Held pq s.regs s.pending) : Keeps pq (execCipherPairKat pair ok us s) := by
  unfold execCipherPairKat
  repeat' first
    | with_reducible assumption | with_reducible refine keeps_next ?_ | with_reducible refine State.at_held _ _ ?_
    | with_reducible refine State.checkEnds_held _ _ _ ?_ | with_reducible refine State.setFlag_held _ _ _ ?_
    | with_reducible refine fst_held (by assumption) ?_ | with_reducible refine ite_held ?_ ?_ | with_reducible refine ite_fst_held ?_ ?_
    | with_reducible refine ite_keeps ?_ ?_
theorem held_execFabricReply (sentEpoch : Nat) (replyEpoch : Nat) (requester : Nat) (echo : Nat) (s : State) (hw4 : Held pq s.regs s.pending) : Keeps pq (execFabricReply sentEpoch replyEpoch requester echo s) := by
  unfold execFabricReply
  repeat' first
    | with_reducible assumption | with_reducible refine keeps_next ?_ | with_reducible refine State.count_held _ _ _ ?_
    | with_reducible refine fst_held (by assumption) ?_ | with_reducible refine ite_held ?_ ?_ | with_reducible refine ite_fst_held ?_ ?_
    | with_reducible refine ite_keeps ?_ ?_
theorem held_execFabricHang (d : Nat) (us : Nat) (s : State) (hw2 : Held pq s.regs s.pending) : Keeps pq (execFabricHang d us s) := by
  unfold execFabricHang
  repeat' first
    | with_reducible assumption | with_reducible refine keeps_next ?_ | with_reducible refine State.set_held _ _ _ ?_
    | with_reducible refine State.at_held _ _ ?_ | with_reducible refine State.count_held _ _ _ ?_
    | with_reducible refine State.notify_held _ _ _ ?_ | with_reducible refine State.runFault_held _ _ _ ?_
    | with_reducible refine fst_held (by assumption) ?_ | with_reducible refine ite_held ?_ ?_ | with_reducible refine ite_fst_held ?_ ?_
    | with_reducible refine ite_keeps ?_ ?_
theorem State.dreq_held (s : State) (op : Nat) (d : Nat) (abort : Bool) (act : State → State × Option Result) (hw0 : Held pq s.regs s.pending) (hf4 : ∀ x0, Held pq x0.regs x0.pending → Held pq (act x0).1.regs (act x0).1.pending) : Held pq (State.dreq s op d abort act).regs (State.dreq s op d abort act).pending := by
  unfold State.dreq
  repeat' first
    | with_reducible assumption | with_reducible refine State.set_held _ _ _ ?_ | with_reducible refine State.setFlag_held _ _ _ ?_
    | with_reducible refine hf4 _ ?_ | with_reducible refine fst_held (by assumption) ?_ | with_reducible refine ite_held ?_ ?_
    | with_reducible refine ite_fst_held ?_ ?_ | split | dsimp only
theorem held_execPwrDreqReset (d : Nat) (us : Nat) (s : State) (hw2 : Held pq s.regs s.pending) : Keeps pq (execPwrDreqReset d us s) := by
  unfold execPwrDreqReset
  repeat' first
    | with_reducible assumption | with_reducible refine keeps_next ?_ | with_reducible refine State.at_held _ _ ?_
    | with_reducible refine State.domainReset_held _ _ _ _ ?_ | with_reducible refine State.dreq_held _ _ _ _ _ ?_ ?_
    | with_reducible refine fst_held (by assumption) ?_ | split | dsimp only | intro _ _ _ _ | intro _ _ _ | intro _ _
theorem State.drained_held (s : State) (r : Drain) (hw0 : Held pq s.regs s.pending) : Held pq (State.drained s r).regs (State.drained s r).pending := by
  unfold State.drained
  repeat' first
    | with_reducible assumption | with_reducible refine State.entryDrained_held _ _ _ ?_ | with_reducible refine State.entryGo_held _ ?_
    | with_reducible refine State.offAfterDrain_held _ _ _ ?_ | with_reducible refine fst_held (by assumption) ?_ | split
theorem held_execDrainComplete (d : Nat) (s : State) (hw1 : Held pq s.regs s.pending) : Keeps pq (execDrainComplete d s) := by
  unfold execDrainComplete
  repeat' first
    | with_reducible assumption | with_reducible refine keeps_next ?_ | with_reducible refine State.drained_held _ _ ?_
    | with_reducible refine fst_held (by assumption) ?_ | with_reducible refine ite_held ?_ ?_ | with_reducible refine ite_fst_held ?_ ?_
    | with_reducible refine ite_keeps ?_ ?_ | split
theorem held_execDomainSwitchOnDone (d : Nat) (s : State) (hw1 : Held pq s.regs s.pending) : Keeps pq (execDomainSwitchOnDone d s) := by
  unfold execDomainSwitchOnDone
  repeat' first
    | with_reducible assumption | with_reducible refine keeps_next ?_ | with_reducible refine State.enterCheck_held _ _ _ ?_
    | with_reducible refine fst_held (by assumption) ?_ | split
theorem held_execDomainRetry (d : Nat) (s : State) (hw1 : Held pq s.regs s.pending) : Keeps pq (execDomainRetry d s) := by
  unfold execDomainRetry
  repeat' first
    | with_reducible assumption | with_reducible refine keeps_next ?_ | with_reducible refine State.switchOn_held _ _ _ ?_
    | with_reducible refine fst_held (by assumption) ?_ | with_reducible refine ite_held ?_ ?_ | with_reducible refine ite_fst_held ?_ ?_
    | with_reducible refine ite_keeps ?_ ?_
theorem held_execSlvRstNRise (us : Nat) (s : State) (hw1 : Held pq s.regs s.pending) : Keeps pq (execSlvRstNRise us s) := by
  unfold execSlvRstNRise
  repeat' first
    | with_reducible assumption | with_reducible refine keeps_next ?_ | with_reducible refine State.at_held _ _ ?_
    | with_reducible refine State.greet_held _ ?_ | with_reducible refine State.sleeveRisen_held _ ?_
    | with_reducible refine State.wakeEvent_held _ _ _ _ ?_ | with_reducible refine fst_held (by assumption) ?_
    | with_reducible refine ite_held ?_ ?_ | with_reducible refine ite_fst_held ?_ ?_ | with_reducible refine ite_keeps ?_ ?_
theorem held_execLaneRetry (lane : Nat) (s : State) (hw1 : Held pq s.regs s.pending) : Keeps pq (execLaneRetry lane s) := by
  unfold execLaneRetry
  repeat' first
    | with_reducible assumption | with_reducible refine keeps_next ?_ | with_reducible refine State.switchOn_held _ _ _ ?_
    | with_reducible refine fst_held (by assumption) ?_ | with_reducible refine ite_held ?_ ?_ | with_reducible refine ite_fst_held ?_ ?_
    | with_reducible refine ite_keeps ?_ ?_
theorem State.showQuad_held (s : State) (q : Nat) (hw0 : Held pq s.regs s.pending) : Held pq (State.showQuad s q).regs (State.showQuad s q).pending := by
  unfold State.showQuad
  repeat' first
    | with_reducible assumption | with_reducible refine State.set_held _ _ _ ?_ | with_reducible refine State.setWord_held _ _ _ ?_
    | with_reducible refine State.setFlag_held _ _ _ ?_ | with_reducible refine State.setSat_held _ _ _ ?_
    | with_reducible refine foldl_held _ ?_ _ _ ?_ | with_reducible refine foldl_fst_held _ ?_ _ _ ?_
    | with_reducible refine fst_held (by assumption) ?_ | with_reducible refine ite_held ?_ ?_ | with_reducible refine ite_fst_held ?_ ?_ | split
    | dsimp only | intro _ _ _ _ | intro _ _ _
theorem held_execQuadCheckDone (quad : Nat) (loops : Nat) (same : Bool) (us : Nat) (s : State) (hw4 : Held pq s.regs s.pending) : Keeps pq (execQuadCheckDone quad loops same us s) := by
  unfold execQuadCheckDone
  repeat' first
    | with_reducible assumption | with_reducible refine keeps_next ?_ | with_reducible refine State.set_held _ _ _ ?_
    | with_reducible refine State.at_held _ _ ?_ | with_reducible refine State.checkEnds_held _ _ _ ?_
    | with_reducible refine State.showQuad_held _ _ ?_ | with_reducible refine fst_held (by assumption) ?_ | with_reducible refine ite_held ?_ ?_
    | with_reducible refine ite_fst_held ?_ ?_ | with_reducible refine ite_keeps ?_ ?_
theorem held_execDomainRejoin (d : Nat) (s : State) (hw1 : Held pq s.regs s.pending) : Keeps pq (execDomainRejoin d s) := by
  unfold execDomainRejoin
  repeat' first
    | with_reducible assumption | with_reducible refine keeps_next ?_ | with_reducible refine State.enterIn_held _ _ ?_
    | with_reducible refine fst_held (by assumption) ?_ | with_reducible refine ite_held ?_ ?_ | with_reducible refine ite_fst_held ?_ ?_
    | with_reducible refine ite_keeps ?_ ?_
theorem held_execDomainCheckDone (d : Nat) (ok : Bool) (us : Nat) (s : State) (hw3 : Held pq s.regs s.pending) : Keeps pq (execDomainCheckDone d ok us s) := by
  unfold execDomainCheckDone
  repeat' first
    | with_reducible assumption | with_reducible refine keeps_next ?_ | with_reducible refine State.at_held _ _ ?_
    | with_reducible refine State.checkEnds_held _ _ _ ?_ | with_reducible refine fst_held (by assumption) ?_ | with_reducible refine ite_held ?_ ?_
    | with_reducible refine ite_fst_held ?_ ?_ | with_reducible refine ite_keeps ?_ ?_
theorem held_execLaneLoopbackDone (lane : Nat) (ok : Bool) (us : Nat) (s : State) (hw3 : Held pq s.regs s.pending) : Keeps pq (execLaneLoopbackDone lane ok us s) := by
  unfold execLaneLoopbackDone
  repeat' first
    | with_reducible assumption | with_reducible refine keeps_next ?_ | with_reducible refine State.at_held _ _ ?_
    | with_reducible refine State.checkEnds_held _ _ _ ?_ | with_reducible refine fst_held (by assumption) ?_ | with_reducible refine ite_held ?_ ?_
    | with_reducible refine ite_fst_held ?_ ?_ | with_reducible refine ite_keeps ?_ ?_
theorem held_execQuadRetry (quad : Nat) (s : State) (hw1 : Held pq s.regs s.pending) : Keeps pq (execQuadRetry quad s) := by
  unfold execQuadRetry
  repeat' first
    | with_reducible assumption | with_reducible refine keeps_next ?_ | with_reducible refine State.switchOn_held _ _ _ ?_
    | with_reducible refine fst_held (by assumption) ?_ | with_reducible refine ite_held ?_ ?_ | with_reducible refine ite_fst_held ?_ ?_
    | with_reducible refine ite_keeps ?_ ?_
theorem held_execPwrDreqOn (op : Nat) (d : Nat) (us : Nat) (s : State) (hw3 : Held pq s.regs s.pending) : Keeps pq (execPwrDreqOn op d us s) := by
  unfold execPwrDreqOn
  repeat' first
    | with_reducible assumption | with_reducible refine keeps_next ?_ | with_reducible refine State.at_held _ _ ?_
    | with_reducible refine State.domainOn_held _ _ _ ?_ | with_reducible refine State.dreq_held _ _ _ _ _ ?_ ?_
    | with_reducible refine fst_held (by assumption) ?_ | with_reducible refine ite_held ?_ ?_ | with_reducible refine ite_fst_held ?_ ?_
    | with_reducible refine ite_keeps ?_ ?_ | split | dsimp only | intro _ _ _ _ | intro _ _ _ | intro _ _
theorem held_execPwrDreqOff (d : Nat) (abort : Bool) (us : Nat) (s : State) (hw3 : Held pq s.regs s.pending) : Keeps pq (execPwrDreqOff d abort us s) := by
  unfold execPwrDreqOff
  repeat' first
    | with_reducible assumption | with_reducible refine keeps_next ?_ | with_reducible refine State.at_held _ _ ?_
    | with_reducible refine State.domainOff_held _ _ _ _ _ _ ?_ | with_reducible refine State.dreq_held _ _ _ _ _ ?_ ?_
    | with_reducible refine fst_held (by assumption) ?_ | split | dsimp only | intro _ _ _ _ | intro _ _ _ | intro _ _
theorem State.drainRefused_held (s : State) (r : Drain) (refuser : Nat) (hw0 : Held pq s.regs s.pending) : Held pq (State.drainRefused s r refuser).regs (State.drainRefused s r refuser).pending := by
  unfold State.drainRefused
  repeat' first
    | with_reducible assumption | with_reducible refine State.set_held _ _ _ ?_ | with_reducible refine State.count_held _ _ _ ?_
    | with_reducible refine State.cutOps_held _ _ _ _ ?_ | with_reducible refine State.dropChange_held _ _ ?_
theorem held_execDrainWindowEnd (d : Nat) (refuser : Nat) (us : Nat) (s : State) (hw3 : Held pq s.regs s.pending) : Keeps pq (execDrainWindowEnd d refuser us s) := by
  unfold execDrainWindowEnd
  repeat' first
    | with_reducible assumption | with_reducible refine keeps_next ?_ | with_reducible refine State.at_held _ _ ?_
    | with_reducible refine State.drainRefused_held _ _ _ ?_ | with_reducible refine State.drained_held _ _ ?_
    | with_reducible refine State.entryDrained_held _ _ _ ?_ | with_reducible refine State.entryGo_held _ ?_
    | with_reducible refine State.offAfterDrain_held _ _ _ ?_ | with_reducible refine State.refuseEntry_held _ _ _ _ _ ?_
    | with_reducible refine fst_held (by assumption) ?_ | with_reducible refine ite_held ?_ ?_ | with_reducible refine ite_fst_held ?_ ?_
    | with_reducible refine ite_keeps ?_ ?_ | split | dsimp only
theorem held_execResetHoldEnd (d : Nat) (us : Nat) (s : State) (hw2 : Held pq s.regs s.pending) : Keeps pq (execResetHoldEnd d us s) := by
  unfold execResetHoldEnd
  repeat' first
    | with_reducible assumption | with_reducible refine keeps_next ?_ | with_reducible refine State.at_held _ _ ?_
    | with_reducible refine State.enterCheck_held _ _ _ ?_ | with_reducible refine State.recordReset_held _ _ _ ?_
    | with_reducible refine fst_held (by assumption) ?_ | with_reducible refine ite_held ?_ ?_ | with_reducible refine ite_fst_held ?_ ?_
    | with_reducible refine ite_keeps ?_ ?_ | split | dsimp only
theorem held_execSlvRstNFall (ns : Nat) (s : State) (hw1 : Held pq s.regs s.pending) : Keeps pq (execSlvRstNFall ns s) := by
  unfold execSlvRstNFall
  repeat' first
    | with_reducible assumption | with_reducible refine keeps_next ?_ | with_reducible refine State.entryGo_held _ ?_
    | with_reducible refine State.sleeveReset_held _ ?_ | with_reducible refine fst_held (by assumption) ?_ | with_reducible refine ite_held ?_ ?_
    | with_reducible refine ite_fst_held ?_ ?_ | with_reducible refine ite_keeps ?_ ?_
theorem State.placeCarves_held (s : State) (ps : List (Nat × Nat)) (hw0 : Held pq s.regs s.pending) : Held pq (State.placeCarves s ps).regs (State.placeCarves s ps).pending := by
  unfold State.placeCarves
  repeat' first
    | with_reducible assumption | with_reducible refine State.set_held _ _ _ ?_
theorem State.replayEntry_held (s : State) (p : Nat) (st : Nat) (wseq : Nat) (entry : Nat) (hw0 : Held pq s.regs s.pending) : Held pq (State.replayEntry s p st wseq entry).regs (State.replayEntry s p st wseq entry).pending := by
  unfold State.replayEntry
  repeat' first
    | with_reducible assumption | with_reducible refine State.setEntry_held _ _ _ _ ?_ | with_reducible refine State.setSeg_held _ _ _ ?_
theorem State.trainFailed_held (s : State) (ns : List Nat) (hw0 : Held pq s.regs s.pending) : Held pq (State.trainFailed s ns).regs (State.trainFailed s ns).pending := by
  unfold State.trainFailed
  repeat' first
    | with_reducible assumption | with_reducible refine State.set_held _ _ _ ?_ | with_reducible refine State.notify_held _ _ _ ?_
    | with_reducible refine foldl_held _ ?_ _ _ ?_ | with_reducible refine foldl_fst_held _ ?_ _ _ ?_
    | with_reducible refine fst_held (by assumption) ?_ | split | dsimp only | intro _ _ _ _ | intro _ _ _
theorem State.replayChange_held (heads : List (Nat × Seg)) (s : State) (c : Change) (hw1 : Held pq s.regs s.pending) : Held pq (State.replayChange heads s c).regs (State.replayChange heads s c).pending := by
  unfold State.replayChange
  repeat' first
    | with_reducible assumption | with_reducible refine State.replayEntry_held _ _ _ _ _ ?_ | with_reducible refine foldl_held _ ?_ _ _ ?_
    | with_reducible refine foldl_fst_held _ ?_ _ _ ?_ | with_reducible refine fst_held (by assumption) ?_ | with_reducible refine ite_held ?_ ?_
    | with_reducible refine ite_fst_held ?_ ?_ | split | dsimp only | intro _ _ _ _ | intro _ _ _
theorem State.layRanks_held (s : State) (hw0 : Held pq s.regs s.pending) : Held pq (State.layRanks s).regs (State.layRanks s).pending := by
  unfold State.layRanks
  repeat' first
    | with_reducible assumption | with_reducible refine State.set_held _ _ _ ?_ | with_reducible refine foldl_held _ ?_ _ _ ?_
    | with_reducible refine foldl_fst_held _ ?_ _ _ ?_ | with_reducible refine fst_held (by assumption) ?_ | with_reducible refine ite_held ?_ ?_
    | with_reducible refine ite_fst_held ?_ ?_ | split | dsimp only | intro _ _ _ _ | intro _ _ _
theorem State.toConfigured_held (s : State) (hw0 : Held pq s.regs s.pending) : Held pq (State.toConfigured s).regs (State.toConfigured s).pending := by
  unfold State.toConfigured
  repeat' first
    | with_reducible assumption | with_reducible refine State.levelAsk_held _ _ ?_ | with_reducible refine fst_held (by assumption) ?_
    | with_reducible refine ite_held ?_ ?_
theorem State.readRegulator_held (s0 : State) (reg : Option Regulator) (hw0 : Held pq s0.regs s0.pending) : Held pq (State.readRegulator s0 reg).regs (State.readRegulator s0 reg).pending := by
  unfold State.readRegulator
  repeat' first
    | with_reducible assumption | with_reducible refine State.set_held _ _ _ ?_ | with_reducible refine State.pmbus_held _ _ ?_
    | with_reducible refine State.regFault_held _ ?_ | with_reducible refine State.setFlag_held _ _ _ ?_
    | with_reducible refine fst_held (by assumption) ?_ | with_reducible refine ite_held ?_ ?_ | with_reducible refine ite_fst_held ?_ ?_ | split
theorem State.loadSeg_held (s : State) (x : Nat × Nat) (hw0 : Held pq s.regs s.pending) : Held pq (State.loadSeg s x).regs (State.loadSeg s x).pending := by
  unfold State.loadSeg
  repeat' first
    | with_reducible assumption | with_reducible refine State.dirtyIndex_held _ _ ?_ | with_reducible refine State.setSeg_held _ _ _ ?_
    | with_reducible refine foldl_held _ ?_ _ _ ?_ | with_reducible refine foldl_fst_held _ ?_ _ _ ?_
    | with_reducible refine fst_held (by assumption) ?_ | with_reducible refine ite_held ?_ ?_ | with_reducible refine ite_fst_held ?_ ?_ | split
    | dsimp only | intro _ _ _ _ | intro _ _ _
theorem State.sentOf_held (s : State) (t : State) (hw0 : Held pq s.regs s.pending) (hw1 : Held pq t.regs t.pending) : Held pq (State.sentOf s t).regs (State.sentOf s t).pending := by
  unfold State.sentOf
  repeat' first
    | with_reducible assumption | with_reducible refine fst_held (by assumption) ?_ | split | dsimp only | intro _ _ _ _ | intro _ _ _ | intro _ _
    | intro _
theorem State.lostCore_held (s : State) (hw0 : Held pq s.regs s.pending) : Held pq (State.lostCore s).regs (State.lostCore s).pending := by
  unfold State.lostCore
  repeat' first
    | with_reducible assumption | with_reducible refine State.sentOf_held _ _ ?_ ?_
theorem State.showPhase_held (s : State) (hw0 : Held pq s.regs s.pending) : Held pq (State.showPhase s).regs (State.showPhase s).pending := by
  unfold State.showPhase
  repeat' first
    | with_reducible assumption | with_reducible refine State.set_held _ _ _ ?_ | with_reducible refine fst_held (by assumption) ?_
    | with_reducible refine ite_held ?_ ?_ | with_reducible refine ite_fst_held ?_ ?_ | split
theorem State.startLadder_held (s : State) (k : ResetKind) (causes : List Nat) (us : Nat) (hw0 : Held pq s.regs s.pending) : Held pq (State.startLadder s k causes us).regs (State.startLadder s k causes us).pending := by
  unfold State.startLadder
  repeat' first
    | with_reducible assumption | with_reducible refine State.set_held _ _ _ ?_ | with_reducible refine State.recordReset_held _ _ _ ?_
    | with_reducible refine State.showPhase_held _ ?_
theorem State.powerOn_held (s : State) (us : Nat) (hw0 : Held pq s.regs s.pending) : Held pq (State.powerOn s us).regs (State.powerOn s us).pending := by
  unfold State.powerOn
  repeat' first
    | with_reducible assumption | with_reducible refine State.startLadder_held _ _ _ _ ?_
theorem State.setMasks_held (s : State) (ms : List Nat) (hw0 : Held pq s.regs s.pending) : Held pq (State.setMasks s ms).regs (State.setMasks s ms).pending := by
  unfold State.setMasks
  repeat' first
    | with_reducible assumption | with_reducible refine State.set_held _ _ _ ?_ | with_reducible refine foldl_held _ ?_ _ _ ?_
    | with_reducible refine foldl_fst_held _ ?_ _ _ ?_ | with_reducible refine fst_held (by assumption) ?_ | split | dsimp only | intro _ _ _ _
    | intro _ _ _
theorem State.rowDone_held (s : State) (r : BootRow) (hw0 : Held pq s.regs s.pending) : Held pq (State.rowDone s r).regs (State.rowDone s r).pending := by
  unfold State.rowDone
  repeat' first
    | with_reducible assumption | with_reducible refine State.showPhase_held _ ?_
theorem State.bringIn_held (s : State) (d : Nat) (hw0 : Held pq s.regs s.pending) : Held pq (State.bringIn s d).regs (State.bringIn s d).pending := by
  unfold State.bringIn
  repeat' first
    | with_reducible assumption | with_reducible refine State.enterIn_held _ _ ?_ | with_reducible refine fst_held (by assumption) ?_
    | with_reducible refine ite_held ?_ ?_
theorem State.powerOff_held (s : State) (hw0 : Held pq s.regs s.pending) : Held pq (State.powerOff s).regs (State.powerOff s).pending := by
  unfold State.powerOff
  repeat' first
    | with_reducible assumption | with_reducible refine State.lostCore_held _ ?_ | with_reducible refine State.markAll_held _ ?_
    | with_reducible refine fst_held (by assumption) ?_ | with_reducible refine ite_held ?_ ?_ | with_reducible refine ite_fst_held ?_ ?_
    | with_reducible refine Held.nil (State.lostCore_held _ ?_)
theorem State.startChannels_held (s : State) (rfm : Bool) (hw0 : Held pq s.regs s.pending) : Held pq (State.startChannels s rfm).regs (State.startChannels s rfm).pending := by
  unfold State.startChannels
  exact hw0
theorem State.afterReady_held (s : State) (hw0 : Held pq s.regs s.pending) : Held pq (State.afterReady s).regs (State.afterReady s).pending := by
  unfold State.afterReady
  repeat' first
    | with_reducible assumption | with_reducible refine State.set_held _ _ _ ?_ | with_reducible refine foldl_held _ ?_ _ _ ?_
    | with_reducible refine foldl_fst_held _ ?_ _ _ ?_ | with_reducible refine fst_held (by assumption) ?_ | with_reducible refine ite_held ?_ ?_
    | with_reducible refine ite_fst_held ?_ ?_ | split | dsimp only | intro _ _ _ _ | intro _ _ _
theorem State.warmReset_held (s : State) (hw0 : Held pq s.regs s.pending) : Held pq (State.warmReset s).regs (State.warmReset s).pending := by
  unfold State.warmReset
  repeat' first
    | with_reducible assumption | with_reducible refine State.set_held _ _ _ ?_ | with_reducible refine State.setWord_held _ _ _ ?_
    | with_reducible refine State.fenceOff_held _ _ ?_ | with_reducible refine State.leaveRing_held _ _ ?_
    | with_reducible refine State.lostCore_held _ ?_ | with_reducible refine Held.clear _ _ ?_ | with_reducible refine foldl_held _ ?_ _ _ ?_
    | with_reducible refine foldl_fst_held _ ?_ _ _ ?_ | with_reducible refine fst_held (by assumption) ?_
    | with_reducible refine Held.nil (State.lostCore_held _ ?_) | with_reducible refine Held.lost ?_ (State.lostCore_held _ ?_) | split | dsimp only
    | intro _ _ _ _ | intro _ _ _
theorem State.readyRise_held (s : State) (reg : Option Regulator) (us : Nat) (hw0 : Held pq s.regs s.pending) : Held pq (State.readyRise s reg us).regs (State.readyRise s reg us).pending := by
  unfold State.readyRise
  repeat' first
    | with_reducible assumption | with_reducible refine State.set_held _ _ _ ?_ | with_reducible refine State.afterReady_held _ ?_
    | with_reducible refine State.greet_held _ ?_ | with_reducible refine State.notify_held _ _ _ ?_
    | with_reducible refine State.readRegulator_held _ _ ?_ | with_reducible refine State.seamCheck_held _ ?_
    | with_reducible refine State.setSat_held _ _ _ ?_ | with_reducible refine State.showPhase_held _ ?_
    | with_reducible refine State.tapGate_held _ ?_ | with_reducible refine State.toConfigured_held _ ?_
    | with_reducible refine fst_held (by assumption) ?_ | with_reducible refine ite_held ?_ ?_ | with_reducible refine ite_fst_held ?_ ?_ | split
theorem State.aonRow_held (s : State) (p : Straps) (hw0 : Held pq s.regs s.pending) : Held pq (State.aonRow s p).regs (State.aonRow s p).pending := by
  unfold State.aonRow
  repeat' first
    | with_reducible assumption | with_reducible refine State.set_held _ _ _ ?_ | with_reducible refine State.linRamp_held _ ?_
    | with_reducible refine State.loadDescriptor_held _ ?_ | with_reducible refine State.setFlag_held _ _ _ ?_
    | with_reducible refine fst_held (by assumption) ?_ | with_reducible refine ite_held ?_ ?_
theorem State.loadMap_held (s : State) (hw0 : Held pq s.regs s.pending) : Held pq (State.loadMap s).regs (State.loadMap s).pending := by
  unfold State.loadMap
  repeat' first
    | with_reducible assumption | with_reducible refine State.loadSeg_held _ _ ?_ | with_reducible refine State.replayChange_held _ _ _ ?_
    | with_reducible refine foldl_held _ ?_ _ _ ?_ | with_reducible refine foldl_fst_held _ ?_ _ _ ?_
    | with_reducible refine fst_held (by assumption) ?_ | with_reducible refine ite_held ?_ ?_ | with_reducible refine ite_fst_held ?_ ?_ | split
    | dsimp only | intro _ _ _ _ | intro _ _ _
theorem State.bringAll_held (s : State) (ds : List Nat) (hw0 : Held pq s.regs s.pending) : Held pq (State.bringAll s ds).regs (State.bringAll s ds).pending := by
  unfold State.bringAll
  repeat' first
    | with_reducible assumption | with_reducible refine State.bringIn_held _ _ ?_ | with_reducible refine foldl_held _ ?_ _ _ ?_
    | with_reducible refine foldl_fst_held _ ?_ _ _ ?_ | with_reducible refine fst_held (by assumption) ?_ | split | dsimp only | intro _ _ _ _
    | intro _ _ _
theorem State.coldReset_held (s : State) (hw0 : Held pq s.regs s.pending) : Held pq (State.coldReset s).regs (State.coldReset s).pending := by
  unfold State.coldReset
  repeat' first
    | with_reducible assumption | with_reducible refine State.lostCore_held _ ?_ | with_reducible refine State.setLevel_held _ _ ?_
    | with_reducible refine Held.clear _ _ ?_ | with_reducible refine fst_held (by assumption) ?_ | with_reducible refine ite_held ?_ ?_
    | with_reducible refine ite_fst_held ?_ ?_ | with_reducible refine Held.nil (State.lostCore_held _ ?_)
    | with_reducible refine Held.lost ?_ (State.lostCore_held _ ?_)
theorem State.setPart_held (s : State) (l : RawLine) (hw0 : Held pq s.regs s.pending) : Held pq (State.setPart s l).regs (State.setPart s l).pending := by
  unfold State.setPart
  exact hw0
theorem State.echo_held (s : State) (cs : List Nat) (hw0 : Held pq s.regs s.pending) : Held pq (State.echo s cs).regs (State.echo s cs).pending := by
  unfold State.echo
  repeat' first
    | with_reducible assumption | with_reducible refine State.send_held _ _ _ ?_ | with_reducible refine fst_held (by assumption) ?_
    | with_reducible refine ite_held ?_ ?_
theorem State.endLine_held (s : State) (hw0 : Held pq s.regs s.pending) : Held pq (State.endLine s).regs (State.endLine s).pending := by
  unfold State.endLine
  repeat' first
    | with_reducible assumption | with_reducible refine State.echo_held _ _ ?_ | with_reducible refine State.prompt_held _ _ ?_
    | with_reducible refine State.setPart_held _ _ ?_ | with_reducible refine fst_held (by assumption) ?_ | with_reducible refine ite_held ?_ ?_
theorem held_execTypedNoticeRelease (s : State) (hw0 : Held pq s.regs s.pending) : Keeps pq (execTypedNoticeRelease s) := by
  unfold execTypedNoticeRelease
  repeat' first
    | with_reducible assumption | with_reducible refine keeps_next ?_ | with_reducible refine State.send_held _ _ _ ?_
    | with_reducible refine State.sendNotices_held _ _ ?_ | with_reducible refine fst_held (by assumption) ?_ | with_reducible refine ite_held ?_ ?_
    | with_reducible refine ite_fst_held ?_ ?_ | with_reducible refine ite_keeps ?_ ?_
theorem held_execJobDone (num : Nat) (status : Nat) (s : State) (hw2 : Held pq s.regs s.pending) : Keeps pq (execJobDone num status s) := by
  unfold execJobDone
  repeat' first
    | with_reducible assumption | with_reducible refine keeps_next ?_ | with_reducible refine State.endJob_held _ _ _ ?_
    | with_reducible refine fst_held (by assumption) ?_ | with_reducible refine ite_held ?_ ?_ | with_reducible refine ite_fst_held ?_ ?_
    | with_reducible refine ite_keeps ?_ ?_ | split
theorem held_execChallengeExpiry (path : Path) (s : State) (hw1 : Held pq s.regs s.pending) : Keeps pq (execChallengeExpiry path s) := by
  unfold execChallengeExpiry
  repeat' first
    | with_reducible assumption | with_reducible refine keeps_next ?_ | with_reducible refine State.setSession_held _ _ _ ?_
theorem held_execColCtsNChange (high : Bool) (left : Nat) (s : State) (hw2 : Held pq s.regs s.pending) : Keeps pq (execColCtsNChange high left s) := by
  unfold execColCtsNChange
  repeat' first
    | with_reducible assumption | with_reducible refine keeps_next ?_ | with_reducible refine State.ctsRelease_held _ ?_
    | with_reducible refine State.cutOutput_held _ _ ?_ | with_reducible refine ite_held ?_ ?_ | with_reducible refine ite_fst_held ?_ ?_
    | with_reducible refine ite_keeps ?_ ?_
theorem held_execUnknownCommandLine (ln : Ln) (s : State) (hw1 : Held pq s.regs s.pending) : Keeps pq (execUnknownCommandLine ln s) := by
  unfold execUnknownCommandLine
  repeat' first
    | with_reducible assumption | with_reducible refine keeps_next ?_ | with_reducible refine State.runLine_held _ _ _ _ _ _ ?_ ?_
    | with_reducible refine fst_held (by assumption) ?_ | split | dsimp only | intro _ _ _ _ | intro _ _ _ | intro _ _
theorem State.takeChar_held (s : State) (c : Nat) (hw0 : Held pq s.regs s.pending) : Held pq (State.takeChar s c).regs (State.takeChar s c).pending := by
  unfold State.takeChar
  repeat' first
    | with_reducible assumption | with_reducible refine State.echo_held _ _ ?_ | with_reducible refine State.setPart_held _ _ ?_
    | with_reducible refine fst_held (by assumption) ?_ | with_reducible refine ite_held ?_ ?_
theorem State.goodChar_held (s : State) (c : Nat) (hw0 : Held pq s.regs s.pending) : Held pq (State.goodChar s c).regs (State.goodChar s c).pending := by
  unfold State.goodChar
  repeat' first
    | with_reducible assumption | with_reducible refine State.echo_held _ _ ?_ | with_reducible refine State.endLine_held _ ?_
    | with_reducible refine State.setPart_held _ _ ?_ | with_reducible refine State.takeChar_held _ _ ?_
    | with_reducible refine fst_held (by assumption) ?_ | with_reducible refine ite_held ?_ ?_
theorem State.collarChar_held (s : State) (c : Nat) (parity : Bool) (framing : Bool) (hw0 : Held pq s.regs s.pending) : Held pq (State.collarChar s c parity framing).regs (State.collarChar s c parity framing).pending := by
  unfold State.collarChar
  repeat' first
    | with_reducible assumption | with_reducible refine State.goodChar_held _ _ ?_ | with_reducible refine State.setPart_held _ _ ?_
    | with_reducible refine fst_held (by assumption) ?_ | with_reducible refine ite_held ?_ ?_
theorem held_execSysColcfgBaudWrite (div : Nat) (s : State) (hw1 : Held pq s.regs s.pending) : Keeps pq (execSysColcfgBaudWrite div s) := by
  unfold execSysColcfgBaudWrite
  repeat' first
    | with_reducible assumption | with_reducible refine keeps_next ?_ | with_reducible refine State.set_held _ _ _ ?_
theorem held_execLineDiscard (path : Path) (line : RawLine) (s : State) (hw2 : Held pq s.regs s.pending) : Keeps pq (execLineDiscard path line s) := by
  unfold execLineDiscard
  repeat' first
    | with_reducible assumption | with_reducible refine keeps_next ?_ | with_reducible refine State.frameJudge_held _ _ ?_
    | with_reducible refine State.heard_held _ _ _ ?_ | with_reducible refine State.keepLine_held _ _ _ ?_
    | with_reducible refine State.rp_held _ _ _ ?_ | with_reducible refine fst_held (by assumption) ?_ | with_reducible refine ite_held ?_ ?_
    | with_reducible refine ite_fst_held ?_ ?_ | with_reducible refine ite_keeps ?_ ?_ | split
theorem held_execLineSpeedSwitch (s : State) (hw0 : Held pq s.regs s.pending) : Keeps pq (execLineSpeedSwitch s) := by
  unfold execLineSpeedSwitch
  repeat' first
    | with_reducible assumption | with_reducible refine keeps_next ?_ | with_reducible refine State.set_held _ _ _ ?_
    | with_reducible refine State.prompt_held _ _ ?_ | with_reducible refine fst_held (by assumption) ?_ | with_reducible refine ite_held ?_ ?_
    | with_reducible refine ite_fst_held ?_ ?_ | with_reducible refine ite_keeps ?_ ?_ | split
theorem State.breakEnd_held (s0 : State) (hw0 : Held pq s0.regs s0.pending) : Held pq (State.breakEnd s0).regs (State.breakEnd s0).pending := by
  unfold State.breakEnd
  repeat' first
    | with_reducible assumption | with_reducible refine State.set_held _ _ _ ?_ | with_reducible refine State.ctsRelease_held _ ?_
    | with_reducible refine State.dropImage_held _ _ ?_ | with_reducible refine State.mute_held _ _ ?_
    | with_reducible refine State.send_held _ _ _ ?_ | with_reducible refine State.sendNotices_held _ _ ?_
    | with_reducible refine fst_held (by assumption) ?_ | with_reducible refine ite_held ?_ ?_
theorem held_execServiceIdleExpiry (path : Path) (s : State) (hw1 : Held pq s.regs s.pending) : Keeps pq (execServiceIdleExpiry path s) := by
  unfold execServiceIdleExpiry
  repeat' first
    | with_reducible assumption | with_reducible refine keeps_next ?_ | with_reducible refine State.notifyOn_held _ _ _ _ ?_
    | with_reducible refine State.setSession_held _ _ _ ?_ | with_reducible refine fst_held (by assumption) ?_
    | with_reducible refine ite_held ?_ ?_ | with_reducible refine ite_fst_held ?_ ?_ | with_reducible refine ite_keeps ?_ ?_
theorem held_execStrictIdleTimeout (s : State) (hw0 : Held pq s.regs s.pending) : Keeps pq (execStrictIdleTimeout s) := by
  unfold execStrictIdleTimeout
  repeat' first
    | with_reducible assumption | with_reducible refine keeps_next ?_ | with_reducible refine State.rp_held _ _ _ ?_
    | with_reducible refine State.setPart_held _ _ ?_ | with_reducible refine fst_held (by assumption) ?_ | with_reducible refine ite_held ?_ ?_
    | with_reducible refine ite_fst_held ?_ ?_ | with_reducible refine ite_keeps ?_ ?_ | split
theorem held_execChallengeLockoutEnd (s : State) (hw0 : Held pq s.regs s.pending) : Keeps pq (execChallengeLockoutEnd s) := by
  unfold execChallengeLockoutEnd
  repeat' first
    | with_reducible assumption | with_reducible refine keeps_next ?_
theorem held_execCollarBreak (ended : Bool) (left : Nat) (s : State) (hw2 : Held pq s.regs s.pending) : Keeps pq (execCollarBreak ended left s) := by
  unfold execCollarBreak
  repeat' first
    | with_reducible assumption | with_reducible refine keeps_next ?_ | with_reducible refine State.breakEnd_held _ ?_
    | with_reducible refine State.cutOutput_held _ _ ?_ | with_reducible refine fst_held (by assumption) ?_ | with_reducible refine ite_held ?_ ?_
    | with_reducible refine ite_fst_held ?_ ?_ | with_reducible refine ite_keeps ?_ ?_
theorem held_execNoticeSend (path : Path) (s : State) (hw1 : Held pq s.regs s.pending) : Keeps pq (execNoticeSend path s) := by
  unfold execNoticeSend
  repeat' first
    | with_reducible assumption | with_reducible refine keeps_next ?_ | with_reducible refine State.sendNotices_held _ _ ?_
    | with_reducible refine fst_held (by assumption) ?_ | with_reducible refine ite_held ?_ ?_ | with_reducible refine ite_fst_held ?_ ?_
    | with_reducible refine ite_keeps ?_ ?_
theorem held_execResendRequest (path : Path) (parity : Bool) (framing : Bool) (rx : FrameRx) (s : State) (hw4 : Held pq s.regs s.pending) : Keeps pq (execResendRequest path parity framing rx s) := by
  unfold execResendRequest
  repeat' first
    | with_reducible assumption | with_reducible refine keeps_next ?_ | with_reducible refine State.frameJudge_held _ _ ?_
    | with_reducible refine State.heard_held _ _ _ ?_ | with_reducible refine State.prompt_held _ _ ?_
    | with_reducible refine State.reply_held _ _ _ ?_ | with_reducible refine State.rp_held _ _ _ ?_
    | with_reducible refine State.send_held _ _ _ ?_ | with_reducible refine fst_held (by assumption) ?_ | with_reducible refine ite_held ?_ ?_
    | with_reducible refine ite_fst_held ?_ ?_ | with_reducible refine ite_keeps ?_ ?_ | split
theorem State.ctlErrs_held (s : State) (cs : List CtlCopy) (hw0 : Held pq s.regs s.pending) : Held pq (State.ctlErrs s cs).regs (State.ctlErrs s cs).pending := by
  unfold State.ctlErrs
  repeat' first
    | with_reducible assumption | with_reducible refine State.charErrs_held _ _ _ ?_ | with_reducible refine State.count_held _ _ _ ?_
    | with_reducible refine foldl_held _ ?_ _ _ ?_ | with_reducible refine foldl_fst_held _ ?_ _ _ ?_
    | with_reducible refine fst_held (by assumption) ?_ | with_reducible refine ite_held ?_ ?_ | with_reducible refine ite_fst_held ?_ ?_ | split
    | dsimp only | intro _ _ _ _ | intro _ _ _
theorem held_execAckReceive (copies : List CtlCopy) (s : State) (hw1 : Held pq s.regs s.pending) : Keeps pq (execAckReceive copies s) := by
  unfold execAckReceive
  repeat' first
    | with_reducible assumption | with_reducible refine keeps_next ?_ | with_reducible refine State.acked_held _ _ ?_
    | with_reducible refine State.ctlErrs_held _ _ ?_ | with_reducible refine State.goBackTo_held _ _ ?_
    | with_reducible refine State.resume_held _ ?_ | with_reducible refine fst_held (by assumption) ?_ | with_reducible refine ite_held ?_ ?_
    | with_reducible refine ite_fst_held ?_ ?_ | with_reducible refine ite_keeps ?_ ?_ | split | dsimp only
theorem held_execTrainingReportReceive (payload : Bytes) (crcOk : Bool) (errs : Nat) (phaseB : List LaneTrain) (s : State) (hw4 : Held pq s.regs s.pending) : Keeps pq (execTrainingReportReceive payload crcOk errs phaseB s) := by
  unfold execTrainingReportReceive
  repeat' first
    | with_reducible assumption | with_reducible refine keeps_next ?_ | with_reducible refine State.count_held _ _ _ ?_
    | with_reducible refine foldl_held _ ?_ _ _ ?_ | with_reducible refine foldl_fst_held _ ?_ _ _ ?_
    | with_reducible refine fst_held (by assumption) ?_ | with_reducible refine ite_held ?_ ?_ | with_reducible refine ite_fst_held ?_ ?_
    | with_reducible refine ite_keeps ?_ ?_ | split | dsimp only | intro _ _ _ _ | intro _ _ _
theorem held_execTrainingVerdict (s : State) (hw0 : Held pq s.regs s.pending) : Keeps pq (execTrainingVerdict s) := by
  unfold execTrainingVerdict
  repeat' first
    | with_reducible assumption | with_reducible refine keeps_next ?_ | with_reducible refine State.attemptFailed_held _ _ ?_
    | with_reducible refine State.slvSend_held _ _ ?_ | with_reducible refine fst_held (by assumption) ?_ | with_reducible refine ite_held ?_ ?_
    | with_reducible refine ite_fst_held ?_ ?_ | with_reducible refine ite_keeps ?_ ?_ | split
theorem held_execGrtRepeat (s : State) (hw0 : Held pq s.regs s.pending) : Keeps pq (execGrtRepeat s) := by
  unfold execGrtRepeat
  repeat' first
    | with_reducible assumption | with_reducible refine keeps_next ?_ | with_reducible refine State.sendGrt_held _ ?_
    | with_reducible refine fst_held (by assumption) ?_ | with_reducible refine ite_held ?_ ?_ | with_reducible refine ite_fst_held ?_ ?_
    | with_reducible refine ite_keeps ?_ ?_
theorem State.turnTaken_held (s : State) (hw0 : Held pq s.regs s.pending) : Held pq (State.turnTaken s).regs (State.turnTaken s).pending := by
  unfold State.turnTaken
  repeat' first
    | with_reducible assumption | with_reducible refine State.set_held _ _ _ ?_
theorem held_execTurnIdleInference (s : State) (hw0 : Held pq s.regs s.pending) : Keeps pq (execTurnIdleInference s) := by
  unfold execTurnIdleInference
  repeat' first
    | with_reducible assumption | with_reducible refine keeps_next ?_ | with_reducible refine State.turnTaken_held _ ?_
    | with_reducible refine fst_held (by assumption) ?_ | with_reducible refine ite_held ?_ ?_ | with_reducible refine ite_fst_held ?_ ?_
    | with_reducible refine ite_keeps ?_ ?_
theorem held_execRetrainGrt (us : Nat) (s : State) (hw1 : Held pq s.regs s.pending) : Keeps pq (execRetrainGrt us s) := by
  unfold execRetrainGrt
  repeat' first
    | with_reducible assumption | with_reducible refine keeps_next ?_ | with_reducible refine State.at_held _ _ ?_
    | with_reducible refine State.negotiate_held _ _ ?_ | with_reducible refine fst_held (by assumption) ?_ | with_reducible refine ite_held ?_ ?_
    | with_reducible refine ite_fst_held ?_ ?_ | with_reducible refine ite_keeps ?_ ?_
theorem State.ackUndone_held (s : State) (hw0 : Held pq s.regs s.pending) : Held pq (State.ackUndone s).regs (State.ackUndone s).pending := by
  unfold State.ackUndone
  repeat' first
    | with_reducible assumption | with_reducible refine State.set_held _ _ _ ?_ | with_reducible refine fst_held (by assumption) ?_ | split
theorem State.ctlRetrain_held (s : State) (hw0 : Held pq s.regs s.pending) : Held pq (State.ctlRetrain s).regs (State.ctlRetrain s).pending := by
  unfold State.ctlRetrain
  repeat' first
    | with_reducible assumption | with_reducible refine State.set_held _ _ _ ?_ | with_reducible refine State.retrain_held _ _ ?_
    | with_reducible refine fst_held (by assumption) ?_ | with_reducible refine ite_held ?_ ?_
theorem held_execSlvCtlRetrain (s : State) (hw0 : Held pq s.regs s.pending) : Keeps pq (execSlvCtlRetrain s) := by
  unfold execSlvCtlRetrain
  repeat' first
    | with_reducible assumption | with_reducible refine keeps_next ?_ | with_reducible refine State.ctlRetrain_held _ ?_
theorem held_execGrtRestart (us : Nat) (s : State) (hw1 : Held pq s.regs s.pending) : Keeps pq (execGrtRestart us s) := by
  unfold execGrtRestart
  repeat' first
    | with_reducible assumption | with_reducible refine keeps_next ?_ | with_reducible refine State.at_held _ _ ?_
    | with_reducible refine State.negotiate_held _ _ ?_ | with_reducible refine fst_held (by assumption) ?_ | with_reducible refine ite_held ?_ ?_
    | with_reducible refine ite_fst_held ?_ ?_ | with_reducible refine ite_keeps ?_ ?_
theorem held_execTrainingAttemptStart (s : State) (hw0 : Held pq s.regs s.pending) : Keeps pq (execTrainingAttemptStart s) := by
  unfold execTrainingAttemptStart
  repeat' first
    | with_reducible assumption | with_reducible refine keeps_next ?_ | with_reducible refine State.startAttempt_held _ ?_
    | with_reducible refine fst_held (by assumption) ?_ | with_reducible refine ite_held ?_ ?_ | with_reducible refine ite_fst_held ?_ ?_
    | with_reducible refine ite_keeps ?_ ?_
theorem held_execCardWakeBurst (s : State) (hw0 : Held pq s.regs s.pending) : Keeps pq (execCardWakeBurst s) := by
  unfold execCardWakeBurst
  repeat' first
    | with_reducible assumption | with_reducible refine keeps_next ?_ | with_reducible refine State.sleeveOn_held _ ?_
    | with_reducible refine State.slvSend_held _ _ ?_ | with_reducible refine fst_held (by assumption) ?_ | with_reducible refine ite_held ?_ ?_
    | with_reducible refine ite_fst_held ?_ ?_ | with_reducible refine ite_keeps ?_ ?_
theorem held_execRepeatLimit (s : State) (hw0 : Held pq s.regs s.pending) : Keeps pq (execRepeatLimit s) := by
  unfold execRepeatLimit
  repeat' first
    | with_reducible assumption | with_reducible refine keeps_next ?_ | with_reducible refine State.retrain_held _ _ ?_
    | with_reducible refine fst_held (by assumption) ?_ | with_reducible refine ite_held ?_ ?_ | with_reducible refine ite_fst_held ?_ ?_
    | with_reducible refine ite_keeps ?_ ?_
theorem held_execWakeBurstRetry (us : Nat) (s : State) (hw1 : Held pq s.regs s.pending) : Keeps pq (execWakeBurstRetry us s) := by
  unfold execWakeBurstRetry
  repeat' first
    | with_reducible assumption | with_reducible refine keeps_next ?_ | with_reducible refine State.at_held _ _ ?_
    | with_reducible refine State.negotiate_held _ _ ?_ | with_reducible refine State.slvSend_held _ _ ?_
    | with_reducible refine fst_held (by assumption) ?_ | with_reducible refine ite_held ?_ ?_ | with_reducible refine ite_fst_held ?_ ?_
    | with_reducible refine ite_keeps ?_ ?_
theorem State.clockStopSend_held (s : State) (hw0 : Held pq s.regs s.pending) : Held pq (State.clockStopSend s).regs (State.clockStopSend s).pending := by
  unfold State.clockStopSend
  repeat' first
    | with_reducible assumption | with_reducible refine State.set_held _ _ _ ?_ | with_reducible refine State.clockStopped_held _ ?_
    | with_reducible refine State.slvSend_held _ _ ?_ | with_reducible refine fst_held (by assumption) ?_ | with_reducible refine ite_held ?_ ?_
theorem held_execSelReceive (payload : Bytes) (crcOk : Bool) (errs : Nat) (s : State) (hw3 : Held pq s.regs s.pending) : Keeps pq (execSelReceive payload crcOk errs s) := by
  unfold execSelReceive
  repeat' first
    | with_reducible assumption | with_reducible refine keeps_next ?_ | with_reducible refine State.count_held _ _ _ ?_
    | with_reducible refine State.slvSend_held _ _ ?_ | with_reducible refine fst_held (by assumption) ?_ | with_reducible refine ite_held ?_ ?_
    | with_reducible refine ite_fst_held ?_ ?_ | with_reducible refine ite_keeps ?_ ?_
theorem held_execTurnReceive (lanes : List Nat) (s : State) (hw1 : Held pq s.regs s.pending) : Keeps pq (execTurnReceive lanes s) := by
  unfold execTurnReceive
  repeat' first
    | with_reducible assumption | with_reducible refine keeps_next ?_ | with_reducible refine State.codeSeen_held _ _ _ ?_
    | with_reducible refine State.resume_held _ ?_ | with_reducible refine State.turnTaken_held _ ?_
    | with_reducible refine fst_held (by assumption) ?_ | with_reducible refine ite_held ?_ ?_ | with_reducible refine ite_fst_held ?_ ?_
    | with_reducible refine ite_keeps ?_ ?_
theorem held_execLnkRetrainReceive (rx : SlvRx) (subtype : Nat) (arg : Nat) (s : State) (hw3 : Held pq s.regs s.pending) : Keeps pq (execLnkRetrainReceive rx subtype arg s) := by
  unfold execLnkRetrainReceive
  repeat' first
    | with_reducible assumption | with_reducible refine keeps_next ?_ | with_reducible refine State.set_held _ _ _ ?_
    | with_reducible refine State.count_held _ _ _ ?_ | with_reducible refine State.frameWhole_held _ _ _ ?_
    | with_reducible refine fst_held (by assumption) ?_ | with_reducible refine ite_held ?_ ?_ | with_reducible refine ite_fst_held ?_ ?_
    | with_reducible refine ite_keeps ?_ ?_ | split
theorem held_execPassPreambleTimeout (s : State) (hw0 : Held pq s.regs s.pending) : Keeps pq (execPassPreambleTimeout s) := by
  unfold execPassPreambleTimeout
  repeat' first
    | with_reducible assumption | with_reducible refine keeps_next ?_ | with_reducible refine State.attemptFailed_held _ _ ?_
    | with_reducible refine fst_held (by assumption) ?_ | with_reducible refine ite_held ?_ ?_ | with_reducible refine ite_fst_held ?_ ?_
    | with_reducible refine ite_keeps ?_ ?_
theorem State.clockStopReceive_held (s : State) (lanes : List Nat) (hw0 : Held pq s.regs s.pending) : Held pq (State.clockStopReceive s lanes).regs (State.clockStopReceive s lanes).pending := by
  unfold State.clockStopReceive
  repeat' first
    | with_reducible assumption | with_reducible refine State.clockStopped_held _ ?_ | with_reducible refine State.codeSeen_held _ _ _ ?_
    | with_reducible refine fst_held (by assumption) ?_ | with_reducible refine ite_held ?_ ?_
theorem held_execLaneErrorThreshold (lane : Nat) (s : State) (hw1 : Held pq s.regs s.pending) : Keeps pq (execLaneErrorThreshold lane s) := by
  unfold execLaneErrorThreshold
  repeat' first
    | with_reducible assumption | with_reducible refine keeps_next ?_ | with_reducible refine State.laneOut_held _ _ _ ?_
    | with_reducible refine fst_held (by assumption) ?_ | with_reducible refine ite_held ?_ ?_ | with_reducible refine ite_fst_held ?_ ?_
    | with_reducible refine ite_keeps ?_ ?_
theorem held_execDataPhaseEntry (us : Nat) (s : State) (hw1 : Held pq s.regs s.pending) : Keeps pq (execDataPhaseEntry us s) := by
  unfold execDataPhaseEntry
  repeat' first
    | with_reducible assumption | with_reducible refine keeps_next ?_ | with_reducible refine State.set_held _ _ _ ?_
    | with_reducible refine State.at_held _ _ ?_ | with_reducible refine State.forceMode_held _ ?_
    | with_reducible refine State.laneRetrain_held _ ?_ | with_reducible refine State.lanesIn_held _ ?_
    | with_reducible refine State.notify_held _ _ _ ?_ | with_reducible refine State.setLanes_held _ _ _ ?_
    | with_reducible refine fst_held (by assumption) ?_ | with_reducible refine map_held ?_ | with_reducible refine bind_held ?_ ?_
    | with_reducible refine some_held ?_ (by assumption) | with_reducible refine ite_held ?_ ?_ | with_reducible refine ite_fst_held ?_ ?_
    | with_reducible refine ite_keeps ?_ ?_
theorem held_execRepReceive (copies : List CtlCopy) (s : State) (hw1 : Held pq s.regs s.pending) : Keeps pq (execRepReceive copies s) := by
  unfold execRepReceive
  repeat' first
    | with_reducible assumption | with_reducible refine keeps_next ?_ | with_reducible refine State.ackUndone_held _ ?_
    | with_reducible refine State.acked_held _ _ ?_ | with_reducible refine State.count_held _ _ _ ?_
    | with_reducible refine State.ctlErrs_held _ _ ?_ | with_reducible refine State.goBackTo_held _ _ ?_
    | with_reducible refine fst_held (by assumption) ?_ | with_reducible refine ite_held ?_ ?_ | with_reducible refine ite_fst_held ?_ ?_
    | with_reducible refine ite_keeps ?_ ?_ | split | dsimp only
theorem State.frameWake_held (s : State) (hw0 : Held pq s.regs s.pending) : Held pq (State.frameWake s).regs (State.frameWake s).pending := by
  unfold State.frameWake
  repeat' first
    | with_reducible assumption | with_reducible refine State.wakeEvent_held _ _ _ _ ?_ | with_reducible refine fst_held (by assumption) ?_
    | with_reducible refine ite_held ?_ ?_
theorem held_execCmdFrameReceive (rx : SlvRx) (queue : Nat) (payload : Bytes) (us : Nat) (s : State) (hw4 : Held pq s.regs s.pending) : Keeps pq (execCmdFrameReceive rx queue payload us s) := by
  unfold execCmdFrameReceive
  repeat' first
    | with_reducible assumption | with_reducible refine keeps_next ?_ | with_reducible refine State.at_held _ _ ?_
    | with_reducible refine State.cmdFrame_held _ _ _ _ _ ?_ | with_reducible refine State.frameWake_held _ ?_
theorem held_execThrottleStep (t : Int) (us : Nat) (s : State) (hw2 : Held pq s.regs s.pending) : Keeps pq (execThrottleStep t us s) := by
  unfold execThrottleStep
  repeat' first
    | with_reducible assumption | with_reducible refine keeps_next ?_ | with_reducible refine State.set_held _ _ _ ?_
    | with_reducible refine State.at_held _ _ ?_ | with_reducible refine State.levelAsk_held _ _ ?_
    | with_reducible refine State.notify_held _ _ _ ?_ | with_reducible refine fst_held (by assumption) ?_ | with_reducible refine ite_held ?_ ?_
    | with_reducible refine ite_fst_held ?_ ?_ | with_reducible refine ite_keeps ?_ ?_
theorem held_execStateExitDone (us : Nat) (s : State) (hw1 : Held pq s.regs s.pending) : Keeps pq (execStateExitDone us s) := by
  unfold execStateExitDone
  repeat' first
    | with_reducible assumption | with_reducible refine keeps_next ?_ | with_reducible refine State.at_held _ _ ?_
    | with_reducible refine State.wakeUp_held _ ?_ | with_reducible refine fst_held (by assumption) ?_ | with_reducible refine ite_held ?_ ?_
    | with_reducible refine ite_fst_held ?_ ?_ | with_reducible refine ite_keeps ?_ ?_
theorem held_execCollarCharacter (c : Nat) (parity : Bool) (framing : Bool) (us : Nat) (s : State) (hw4 : Held pq s.regs s.pending) : Keeps pq (execCollarCharacter c parity framing us s) := by
  unfold execCollarCharacter
  repeat' first
    | with_reducible assumption | with_reducible refine keeps_next ?_ | with_reducible refine State.collarChar_held _ _ _ _ ?_
    | with_reducible refine State.wakeEvent_held _ _ _ _ ?_
theorem held_execAcmpCrossing (n : Nat) (out : Bool) (us : Nat) (s : State) (hw3 : Held pq s.regs s.pending) : Keeps pq (execAcmpCrossing n out us s) := by
  unfold execAcmpCrossing
  repeat' first
    | with_reducible assumption | with_reducible refine keeps_next ?_ | with_reducible refine State.set_held _ _ _ ?_
    | with_reducible refine State.at_held _ _ ?_ | with_reducible refine State.setFlag_held _ _ _ ?_
    | with_reducible refine State.wakeEvent_held _ _ _ _ ?_ | with_reducible refine fst_held (by assumption) ?_
    | with_reducible refine ite_held ?_ ?_ | with_reducible refine ite_fst_held ?_ ?_ | with_reducible refine ite_keeps ?_ ?_
theorem State.retlogClear_held (s : State) (hw0 : Held pq s.regs s.pending) : Held pq (State.retlogClear s).regs (State.retlogClear s).pending := by
  unfold State.retlogClear
  repeat' first
    | with_reducible assumption | with_reducible refine State.set_held _ _ _ ?_
theorem held_execPwrRetlogClr (s : State) (hw0 : Held pq s.regs s.pending) : Keeps pq (execPwrRetlogClr s) := by
  unfold execPwrRetlogClr
  repeat' first
    | with_reducible assumption | with_reducible refine keeps_next ?_ | with_reducible refine State.retlogClear_held _ ?_
theorem State.windows_held (s : State) (ch : Nat) (code : Nat) (us : Nat) (hw0 : Held pq s.regs s.pending) : Held pq (State.windows s ch code us).regs (State.windows s ch code us).pending := by
  unfold State.windows
  repeat' first
    | with_reducible assumption | with_reducible refine State.wakeEvent_held _ _ _ _ ?_ | with_reducible refine foldl_held _ ?_ _ _ ?_
    | with_reducible refine foldl_fst_held _ ?_ _ _ ?_ | with_reducible refine fst_held (by assumption) ?_ | with_reducible refine ite_held ?_ ?_
    | with_reducible refine ite_fst_held ?_ ?_ | split | dsimp only | intro _ _ _ _ | intro _ _ _
theorem held_execStitchProgramDone (ppa : Nat) (ok : Bool) (s : State) (hw2 : Held pq s.regs s.pending) : Keeps pq (execStitchProgramDone ppa ok s) := by
  unfold execStitchProgramDone
  repeat' first
    | with_reducible assumption | with_reducible refine keeps_next ?_ | with_reducible refine State.entryGo_held _ ?_
    | with_reducible refine State.stitchProgrammed_held _ _ _ ?_ | with_reducible refine State.twinAck_held _ ?_
theorem held_execClockStopReceive (lanes : List Nat) (s : State) (hw1 : Held pq s.regs s.pending) : Keeps pq (execClockStopReceive lanes s) := by
  unfold execClockStopReceive
  repeat' first
    | with_reducible assumption | with_reducible refine keeps_next ?_ | with_reducible refine State.clockStopReceive_held _ _ ?_
    | with_reducible refine State.entryGo_held _ ?_
theorem held_execCheckpointDone (us : Nat) (s : State) (hw1 : Held pq s.regs s.pending) : Keeps pq (execCheckpointDone us s) := by
  unfold execCheckpointDone
  repeat' first
    | with_reducible assumption | with_reducible refine keeps_next ?_ | with_reducible refine State.checkpointEnds_held _ _ ?_
    | with_reducible refine State.entryGo_held _ ?_
theorem held_execRegulatorTimeout (us : Nat) (s : State) (hw1 : Held pq s.regs s.pending) : Keeps pq (execRegulatorTimeout us s) := by
  unfold execRegulatorTimeout
  repeat' first
    | with_reducible assumption | with_reducible refine keeps_next ?_ | with_reducible refine State.at_held _ _ ?_
    | with_reducible refine State.entryGo_held _ ?_ | with_reducible refine State.regFault_held _ ?_
    | with_reducible refine fst_held (by assumption) ?_ | with_reducible refine ite_held ?_ ?_ | with_reducible refine ite_fst_held ?_ ?_
    | with_reducible refine ite_keeps ?_ ?_
theorem held_execClockStopSend (s : State) (hw0 : Held pq s.regs s.pending) : Keeps pq (execClockStopSend s) := by
  unfold execClockStopSend
  repeat' first
    | with_reducible assumption | with_reducible refine keeps_next ?_ | with_reducible refine State.clockStopSend_held _ ?_
    | with_reducible refine State.entryGo_held _ ?_
theorem held_execCoreclkRestart (s : State) (hw0 : Held pq s.regs s.pending) : Keeps pq (execCoreclkRestart s) := by
  unfold execCoreclkRestart
  repeat' first
    | with_reducible assumption | with_reducible refine keeps_next ?_
theorem held_execHostWakeBurst (us : Nat) (s : State) (hw1 : Held pq s.regs s.pending) : Keeps pq (execHostWakeBurst us s) := by
  unfold execHostWakeBurst
  repeat' first
    | with_reducible assumption | with_reducible refine keeps_next ?_ | with_reducible refine State.at_held _ _ ?_
    | with_reducible refine State.replyBurst_held _ ?_ | with_reducible refine State.wakeEvent_held _ _ _ _ ?_
    | with_reducible refine fst_held (by assumption) ?_ | with_reducible refine ite_held ?_ ?_ | with_reducible refine ite_fst_held ?_ ?_
    | with_reducible refine ite_keeps ?_ ?_
theorem held_execCoreclkGate (s : State) (hw0 : Held pq s.regs s.pending) : Keeps pq (execCoreclkGate s) := by
  unfold execCoreclkGate
  repeat' first
    | with_reducible assumption | with_reducible refine keeps_next ?_ | with_reducible refine fst_held (by assumption) ?_
    | with_reducible refine ite_held ?_ ?_ | with_reducible refine ite_fst_held ?_ ?_ | with_reducible refine ite_keeps ?_ ?_
theorem held_execWakeTimer (us : Nat) (s : State) (hw1 : Held pq s.regs s.pending) : Keeps pq (execWakeTimer us s) := by
  unfold execWakeTimer
  repeat' first
    | with_reducible assumption | with_reducible refine keeps_next ?_ | with_reducible refine State.at_held _ _ ?_
    | with_reducible refine State.wakeEvent_held _ _ _ _ ?_ | with_reducible refine fst_held (by assumption) ?_
    | with_reducible refine ite_held ?_ ?_ | with_reducible refine ite_fst_held ?_ ?_ | with_reducible refine ite_keeps ?_ ?_
theorem held_execDatFrameReceive (rx : SlvRx) (type : Nat) (tag : Nat) (queue : Nat) (offset : Nat) (payload : Bytes) (s : State) (hw6 : Held pq s.regs s.pending) : Keeps pq (execDatFrameReceive rx type tag queue offset payload s) := by
  unfold execDatFrameReceive
  repeat' first
    | with_reducible assumption | with_reducible refine keeps_next ?_ | with_reducible refine State.datFrame_held _ _ _ _ _ _ _ ?_
    | with_reducible refine State.frameWake_held _ ?_
theorem held_execLevelChangePause (us : Nat) (s : State) (hw1 : Held pq s.regs s.pending) : Keeps pq (execLevelChangePause us s) := by
  unfold execLevelChangePause
  repeat' first
    | with_reducible assumption | with_reducible refine keeps_next ?_ | with_reducible refine State.at_held _ _ ?_
    | with_reducible refine State.entryGo_held _ ?_ | with_reducible refine State.finishFor_held _ _ _ ?_
    | with_reducible refine State.setLevel_held _ _ ?_ | with_reducible refine fst_held (by assumption) ?_ | with_reducible refine ite_held ?_ ?_
    | with_reducible refine ite_fst_held ?_ ?_ | with_reducible refine ite_keeps ?_ ?_ | split | dsimp only
theorem held_execPointOfNoReturn (us : Nat) (endUs : Nat) (s : State) (hw2 : Held pq s.regs s.pending) : Keeps pq (execPointOfNoReturn us endUs s) := by
  unfold execPointOfNoReturn
  repeat' first
    | with_reducible assumption | with_reducible refine keeps_next ?_ | with_reducible refine State.at_held _ _ ?_
    | with_reducible refine State.goToSleep_held _ _ _ ?_ | with_reducible refine fst_held (by assumption) ?_ | with_reducible refine ite_held ?_ ?_
    | with_reducible refine ite_fst_held ?_ ?_ | with_reducible refine ite_keeps ?_ ?_ | split | dsimp only
theorem held_execAdcSample (ch : Nat) (code : Nat) (us : Nat) (s : State) (hw3 : Held pq s.regs s.pending) : Keeps pq (execAdcSample ch code us s) := by
  unfold execAdcSample
  repeat' first
    | with_reducible assumption | with_reducible refine keeps_next ?_ | with_reducible refine State.set_held _ _ _ ?_
    | with_reducible refine State.at_held _ _ ?_ | with_reducible refine State.windows_held _ _ _ _ ?_
    | with_reducible refine fst_held (by assumption) ?_ | with_reducible refine ite_held ?_ ?_ | with_reducible refine ite_fst_held ?_ ?_
    | with_reducible refine ite_keeps ?_ ?_
theorem held_execPmbusAlert (status : Nat) (us : Nat) (s : State) (hw2 : Held pq s.regs s.pending) : Keeps pq (execPmbusAlert status us s) := by
  unfold execPmbusAlert
  repeat' first
    | with_reducible assumption | with_reducible refine keeps_next ?_ | with_reducible refine State.at_held _ _ ?_
    | with_reducible refine State.notify_held _ _ _ ?_ | with_reducible refine State.pmbus_held _ _ ?_
    | with_reducible refine State.wakeEvent_held _ _ _ _ ?_ | with_reducible refine fst_held (by assumption) ?_
    | with_reducible refine ite_held ?_ ?_
theorem held_execThrottleRelease (us : Nat) (s : State) (hw1 : Held pq s.regs s.pending) : Keeps pq (execThrottleRelease us s) := by
  unfold execThrottleRelease
  repeat' first
    | with_reducible assumption | with_reducible refine keeps_next ?_ | with_reducible refine State.set_held _ _ _ ?_
    | with_reducible refine State.at_held _ _ ?_ | with_reducible refine State.levelAsk_held _ _ ?_
    | with_reducible refine fst_held (by assumption) ?_ | with_reducible refine ite_held ?_ ?_ | with_reducible refine ite_fst_held ?_ ?_
    | with_reducible refine ite_keeps ?_ ?_
theorem State.retain_held (s : State) (code : Nat) (hw0 : Held pq s.regs s.pending) : Held pq (State.retain s code).regs (State.retain s code).pending := by
  unfold State.retain
  repeat' first
    | with_reducible assumption | with_reducible refine State.set_held _ _ _ ?_
theorem State.sampleFaults_held (s : State) (vMv : Nat) (iMa : Int) (tDc : Int) (hw0 : Held pq s.regs s.pending) : Held pq (State.sampleFaults s vMv iMa tDc).regs (State.sampleFaults s vMv iMa tDc).pending := by
  unfold State.sampleFaults
  repeat' first
    | with_reducible assumption | with_reducible refine State.linFault_held _ _ ?_ | with_reducible refine State.setLin_held _ _ ?_
    | with_reducible refine fst_held (by assumption) ?_ | with_reducible refine ite_held ?_ ?_
theorem State.linMoves_held (s : State) (visit : Bool) (hw0 : Held pq s.regs s.pending) : Held pq (State.linMoves s visit).regs (State.linMoves s visit).pending := by
  unfold State.linMoves
  repeat' first
    | with_reducible assumption | with_reducible refine State.linRamp_held _ ?_ | with_reducible refine State.linState_held _ _ ?_
    | with_reducible refine fst_held (by assumption) ?_ | with_reducible refine ite_held ?_ ?_ | with_reducible refine ite_fst_held ?_ ?_ | split
theorem held_execLiningSample (vMv : Nat) (iMa : Int) (tDc : Int) (headMa : Nat) (us : Nat) (s0 : State) (hw5 : Held pq s0.regs s0.pending) : Keeps pq (execLiningSample vMv iMa tDc headMa us s0) := by
  unfold execLiningSample
  repeat' first
    | with_reducible assumption | with_reducible refine keeps_next ?_ | with_reducible refine State.set_held _ _ _ ?_
    | with_reducible refine State.at_held _ _ ?_ | with_reducible refine State.linMoves_held _ _ ?_
    | with_reducible refine State.sampleFaults_held _ _ _ _ ?_ | with_reducible refine State.setLin_held _ _ ?_
    | with_reducible refine State.setSat_held _ _ _ ?_ | with_reducible refine State.windowRuns_held _ _ _ ?_
    | with_reducible refine fst_held (by assumption) ?_ | with_reducible refine ite_held ?_ ?_ | with_reducible refine ite_fst_held ?_ ?_
    | with_reducible refine ite_keeps ?_ ?_
theorem held_execChargeFloatEntry (us : Nat) (s0 : State) (hw1 : Held pq s0.regs s0.pending) : Keeps pq (execChargeFloatEntry us s0) := by
  unfold execChargeFloatEntry
  repeat' first
    | with_reducible assumption | with_reducible refine keeps_next ?_ | with_reducible refine State.set_held _ _ _ ?_
    | with_reducible refine State.at_held _ _ ?_ | with_reducible refine State.linStop_held _ _ ?_
    | with_reducible refine State.notify_held _ _ _ ?_ | with_reducible refine fst_held (by assumption) ?_ | with_reducible refine ite_held ?_ ?_
    | with_reducible refine ite_fst_held ?_ ?_ | with_reducible refine ite_keeps ?_ ?_ | split | dsimp only
theorem held_execRemovalTriggerVin (us : Nat) (s : State) (hw1 : Held pq s.regs s.pending) : Keeps pq (execRemovalTriggerVin us s) := by
  unfold execRemovalTriggerVin
  repeat' first
    | with_reducible assumption | with_reducible refine keeps_next ?_ | with_reducible refine State.at_held _ _ ?_
    | with_reducible refine State.removalTrigger_held _ _ ?_ | with_reducible refine fst_held (by assumption) ?_
    | with_reducible refine ite_held ?_ ?_ | with_reducible refine ite_fst_held ?_ ?_ | with_reducible refine ite_keeps ?_ ?_
theorem held_execEsrStep (dvUv : Nat) (diMa : Nat) (us : Nat) (s0 : State) (hw3 : Held pq s0.regs s0.pending) : Keeps pq (execEsrStep dvUv diMa us s0) := by
  unfold execEsrStep
  repeat' first
    | with_reducible assumption | with_reducible refine keeps_next ?_ | with_reducible refine State.at_held _ _ ?_
    | with_reducible refine State.takeEsr_held _ _ _ ?_ | with_reducible refine fst_held (by assumption) ?_ | with_reducible refine ite_held ?_ ?_
    | with_reducible refine ite_fst_held ?_ ?_ | with_reducible refine ite_keeps ?_ ?_

end Sys2Proof.Machine
end

