-- ==== Sys2Proof/Laws/Held5.lean ====
section
/-!
SUPPORT. Sys2Proof/Laws/Held5.lean: the canonical form of the register file and the waiting commands, continued from
Held4.lean.
-/
namespace Sys2Proof.Machine
open Sys2Proof

variable {pq : List Instr}
theorem held_execChargeRampDone (us : Nat) (s0 : State) (hw1 : Held pq s0.regs s0.pending) : Keeps pq (execChargeRampDone us s0) := by
  unfold execChargeRampDone
  repeat' first
    | with_reducible assumption | with_reducible refine keeps_next ?_ | with_reducible refine State.at_held _ _ ?_
    | with_reducible refine State.linState_held _ _ ?_ | with_reducible refine fst_held (by assumption) ?_ | with_reducible refine ite_held ?_ ?_
    | with_reducible refine ite_fst_held ?_ ?_ | with_reducible refine ite_keeps ?_ ?_
theorem State.drill_held (s : State) (hw0 : Held pq s.regs s.pending) : Held pq (State.drill s).regs (State.drill s).pending := by
  unfold State.drill
  repeat' first
    | with_reducible assumption | with_reducible refine State.removalTrigger_held _ _ ?_ | with_reducible refine fst_held (by assumption) ?_
    | with_reducible refine ite_held ?_ ?_
theorem held_execRmvCtlDrill (p1 : Bool) (us : Nat) (s : State) (hw2 : Held pq s.regs s.pending) : Keeps pq (execRmvCtlDrill p1 us s) := by
  unfold execRmvCtlDrill
  repeat' first
    | with_reducible assumption | with_reducible refine keeps_next ?_ | with_reducible refine State.at_held _ _ ?_
    | with_reducible refine State.drill_held _ ?_ | with_reducible refine fst_held (by assumption) ?_ | with_reducible refine ite_held ?_ ?_
    | with_reducible refine ite_fst_held ?_ ?_ | with_reducible refine ite_keeps ?_ ?_
theorem held_execRemovalFlushDone (us : Nat) (s : State) (hw1 : Held pq s.regs s.pending) : Keeps pq (execRemovalFlushDone us s) := by
  unfold execRemovalFlushDone
  repeat' first
    | with_reducible assumption | with_reducible refine keeps_next ?_ | with_reducible refine State.set_held _ _ _ ?_
    | with_reducible refine State.at_held _ _ ?_ | with_reducible refine State.cleanStop_held _ ?_
    | with_reducible refine State.setSat_held _ _ _ ?_ | with_reducible refine fst_held (by assumption) ?_ | with_reducible refine ite_held ?_ ?_
    | with_reducible refine ite_fst_held ?_ ?_ | with_reducible refine ite_keeps ?_ ?_ | split
theorem State.writeLinCfg_held (s : State) (w : BitVec 32) (hw0 : Held pq s.regs s.pending) : Held pq (State.writeLinCfg s w).regs (State.writeLinCfg s w).pending := by
  unfold State.writeLinCfg
  repeat' first
    | with_reducible assumption | with_reducible refine State.set_held _ _ _ ?_ | with_reducible refine State.setWord_held _ _ _ ?_
    | with_reducible refine State.linRamp_held _ ?_ | with_reducible refine State.linStop_held _ _ ?_
    | with_reducible refine fst_held (by assumption) ?_ | with_reducible refine ite_held ?_ ?_
theorem held_execLinCfgChgEn (word : BitVec 32) (p1 : Bool) (s : State) (hw2 : Held pq s.regs s.pending) : Keeps pq (execLinCfgChgEn word p1 s) := by
  unfold execLinCfgChgEn
  repeat' first
    | with_reducible assumption | with_reducible refine keeps_next ?_ | with_reducible refine State.writeLinCfg_held _ _ ?_
    | with_reducible refine fst_held (by assumption) ?_ | with_reducible refine ite_held ?_ ?_ | with_reducible refine ite_fst_held ?_ ?_
    | with_reducible refine ite_keeps ?_ ?_
theorem held_execCdetNFall (us : Nat) (s : State) (hw1 : Held pq s.regs s.pending) : Keeps pq (execCdetNFall us s) := by
  unfold execCdetNFall
  repeat' first
    | with_reducible assumption | with_reducible refine keeps_next ?_ | with_reducible refine State.set_held _ _ _ ?_
    | with_reducible refine State.at_held _ _ ?_ | with_reducible refine State.setLin_held _ _ ?_
    | with_reducible refine fst_held (by assumption) ?_ | with_reducible refine ite_held ?_ ?_ | with_reducible refine ite_fst_held ?_ ?_
    | with_reducible refine ite_keeps ?_ ?_
theorem held_execEstimateRefreshDue (us : Nat) (s0 : State) (hw1 : Held pq s0.regs s0.pending) : Keeps pq (execEstimateRefreshDue us s0) := by
  unfold execEstimateRefreshDue
  repeat' first
    | with_reducible assumption | with_reducible refine keeps_next ?_ | with_reducible refine State.at_held _ _ ?_
    | with_reducible refine State.startProbe_held _ ?_ | with_reducible refine fst_held (by assumption) ?_ | with_reducible refine ite_held ?_ ?_
    | with_reducible refine ite_fst_held ?_ ?_ | with_reducible refine ite_keeps ?_ ?_
theorem held_execLinProbeStart (p1 : Bool) (s : State) (hw1 : Held pq s.regs s.pending) : Keeps pq (execLinProbeStart p1 s) := by
  unfold execLinProbeStart
  repeat' first
    | with_reducible assumption | with_reducible refine keeps_next ?_ | with_reducible refine State.startProbe_held _ ?_
    | with_reducible refine fst_held (by assumption) ?_ | with_reducible refine ite_held ?_ ?_ | with_reducible refine ite_fst_held ?_ ?_
    | with_reducible refine ite_keeps ?_ ?_
theorem held_execBudgetRecompute (us : Nat) (s : State) (hw1 : Held pq s.regs s.pending) : Keeps pq (execBudgetRecompute us s) := by
  unfold execBudgetRecompute
  repeat' first
    | with_reducible assumption | with_reducible refine keeps_next ?_ | with_reducible refine State.at_held _ _ ?_
    | with_reducible refine State.budget_held _ ?_ | with_reducible refine fst_held (by assumption) ?_ | with_reducible refine ite_held ?_ ?_
    | with_reducible refine ite_fst_held ?_ ?_ | with_reducible refine ite_keeps ?_ ?_
theorem held_execProbeDone (us : Nat) (s0 : State) (hw1 : Held pq s0.regs s0.pending) : Keeps pq (execProbeDone us s0) := by
  unfold execProbeDone
  repeat' first
    | with_reducible assumption | with_reducible refine keeps_next ?_ | with_reducible refine State.at_held _ _ ?_
    | with_reducible refine State.linRamp_held _ ?_ | with_reducible refine State.probeEnds_held _ _ ?_
    | with_reducible refine State.takeCap_held _ _ ?_ | with_reducible refine fst_held (by assumption) ?_ | with_reducible refine ite_held ?_ ?_
    | with_reducible refine ite_fst_held ?_ ?_ | with_reducible refine ite_keeps ?_ ?_ | split | dsimp only
theorem held_execLinOvervolt (us : Nat) (s0 : State) (hw1 : Held pq s0.regs s0.pending) : Keeps pq (execLinOvervolt us s0) := by
  unfold execLinOvervolt
  repeat' first
    | with_reducible assumption | with_reducible refine keeps_next ?_ | with_reducible refine State.at_held _ _ ?_
    | with_reducible refine State.linFault_held _ _ ?_ | with_reducible refine fst_held (by assumption) ?_ | with_reducible refine ite_held ?_ ?_
    | with_reducible refine ite_fst_held ?_ ?_ | with_reducible refine ite_keeps ?_ ?_
theorem held_execTackVisit (codes : List Nat) (outs : List Bool) (us : Nat) (s : State) (hw3 : Held pq s.regs s.pending) : Keeps pq (execTackVisit codes outs us s) := by
  unfold execTackVisit
  repeat' first
    | with_reducible assumption | with_reducible refine keeps_next ?_ | with_reducible refine State.set_held _ _ _ ?_
    | with_reducible refine State.at_held _ _ ?_ | with_reducible refine State.count_held _ _ _ ?_
    | with_reducible refine State.linMoves_held _ _ ?_ | with_reducible refine State.retain_held _ _ ?_
    | with_reducible refine State.setFlag_held _ _ _ ?_ | with_reducible refine State.startProbe_held _ ?_
    | with_reducible refine State.tackJoins_held _ ?_ | with_reducible refine State.windows_held _ _ _ _ ?_
    | with_reducible refine foldl_held _ ?_ _ _ ?_ | with_reducible refine foldl_fst_held _ ?_ _ _ ?_
    | with_reducible refine fst_held (by assumption) ?_ | with_reducible refine ite_held ?_ ?_ | with_reducible refine ite_fst_held ?_ ?_
    | with_reducible refine ite_keeps ?_ ?_ | split | dsimp only | intro _ _ _ _ | intro _ _ _
theorem held_execRemovalTriggerCdet (ns : Nat) (us : Nat) (s : State) (hw2 : Held pq s.regs s.pending) : Keeps pq (execRemovalTriggerCdet ns us s) := by
  unfold execRemovalTriggerCdet
  repeat' first
    | with_reducible assumption | with_reducible refine keeps_next ?_ | with_reducible refine State.set_held _ _ _ ?_
    | with_reducible refine State.at_held _ _ ?_ | with_reducible refine State.removalTrigger_held _ _ ?_
    | with_reducible refine State.setLin_held _ _ ?_ | with_reducible refine fst_held (by assumption) ?_ | with_reducible refine ite_held ?_ ?_
    | with_reducible refine ite_fst_held ?_ ?_ | with_reducible refine ite_keeps ?_ ?_
theorem held_execRearm (vinUs : Nat) (us : Nat) (s : State) (hw2 : Held pq s.regs s.pending) : Keeps pq (execRearm vinUs us s) := by
  unfold execRearm
  repeat' first
    | with_reducible assumption | with_reducible refine keeps_next ?_ | with_reducible refine State.set_held _ _ _ ?_
    | with_reducible refine State.at_held _ _ ?_ | with_reducible refine State.setLin_held _ _ ?_
    | with_reducible refine fst_held (by assumption) ?_ | with_reducible refine ite_held ?_ ?_ | with_reducible refine ite_fst_held ?_ ?_
    | with_reducible refine ite_keeps ?_ ?_ | split | dsimp only
theorem held_execBankAbsentTimeout (us : Nat) (s0 : State) (hw1 : Held pq s0.regs s0.pending) : Keeps pq (execBankAbsentTimeout us s0) := by
  unfold execBankAbsentTimeout
  repeat' first
    | with_reducible assumption | with_reducible refine keeps_next ?_ | with_reducible refine State.set_held _ _ _ ?_
    | with_reducible refine State.at_held _ _ ?_ | with_reducible refine State.enterFault_held _ ?_
    | with_reducible refine fst_held (by assumption) ?_ | with_reducible refine ite_held ?_ ?_ | with_reducible refine ite_fst_held ?_ ?_
    | with_reducible refine ite_keeps ?_ ?_
theorem held_execRemovalCheckpointDone (us : Nat) (s : State) (hw1 : Held pq s.regs s.pending) : Keeps pq (execRemovalCheckpointDone us s) := by
  unfold execRemovalCheckpointDone
  repeat' first
    | with_reducible assumption | with_reducible refine keeps_next ?_ | with_reducible refine State.set_held _ _ _ ?_
    | with_reducible refine State.at_held _ _ ?_ | with_reducible refine State.dramSleep_held _ _ ?_
    | with_reducible refine State.ladderOff_held _ _ ?_ | with_reducible refine foldl_held _ ?_ _ _ ?_
    | with_reducible refine foldl_fst_held _ ?_ _ _ ?_ | with_reducible refine fst_held (by assumption) ?_ | with_reducible refine ite_held ?_ ?_
    | with_reducible refine ite_fst_held ?_ ?_ | with_reducible refine ite_keeps ?_ ?_ | split | dsimp only | intro _ _ _ _ | intro _ _ _
theorem held_execConverterFault (us : Nat) (s0 : State) (hw1 : Held pq s0.regs s0.pending) : Keeps pq (execConverterFault us s0) := by
  unfold execConverterFault
  repeat' first
    | with_reducible assumption | with_reducible refine keeps_next ?_ | with_reducible refine State.at_held _ _ ?_
    | with_reducible refine State.linFault_held _ _ ?_ | with_reducible refine fst_held (by assumption) ?_ | with_reducible refine ite_held ?_ ?_
    | with_reducible refine ite_fst_held ?_ ?_ | with_reducible refine ite_keeps ?_ ?_
theorem held_execSensorFault (us : Nat) (s0 : State) (hw1 : Held pq s0.regs s0.pending) : Keeps pq (execSensorFault us s0) := by
  unfold execSensorFault
  repeat' first
    | with_reducible assumption | with_reducible refine keeps_next ?_ | with_reducible refine State.at_held _ _ ?_
    | with_reducible refine State.linFault_held _ _ ?_ | with_reducible refine fst_held (by assumption) ?_ | with_reducible refine ite_held ?_ ?_
    | with_reducible refine ite_fst_held ?_ ?_ | with_reducible refine ite_keeps ?_ ?_
theorem held_execThroughNotice (us : Nat) (s : State) (hw1 : Held pq s.regs s.pending) : Keeps pq (execThroughNotice us s) := by
  unfold execThroughNotice
  repeat' first
    | with_reducible assumption | with_reducible refine keeps_next ?_ | with_reducible refine State.at_held _ _ ?_
    | with_reducible refine State.notify_held _ _ _ ?_ | with_reducible refine State.setLin_held _ _ ?_
    | with_reducible refine fst_held (by assumption) ?_ | with_reducible refine ite_held ?_ ?_ | with_reducible refine ite_fst_held ?_ ?_
    | with_reducible refine ite_keeps ?_ ?_ | split | dsimp only
theorem held_execEbSample (bytes : Nat) (energyUj : Nat) (durUs : Nat) (s : State) (hw3 : Held pq s.regs s.pending) : Keeps pq (execEbSample bytes energyUj durUs s) := by
  unfold execEbSample
  repeat' first
    | with_reducible assumption | with_reducible refine keeps_next ?_ | with_reducible refine State.set_held _ _ _ ?_
    | with_reducible refine State.setLin_held _ _ ?_ | with_reducible refine foldl_held _ ?_ _ _ ?_
    | with_reducible refine foldl_fst_held _ ?_ _ _ ?_ | with_reducible refine fst_held (by assumption) ?_ | with_reducible refine ite_held ?_ ?_
    | with_reducible refine ite_fst_held ?_ ?_ | with_reducible refine ite_keeps ?_ ?_
theorem held_execLinHot (us : Nat) (s0 : State) (hw1 : Held pq s0.regs s0.pending) : Keeps pq (execLinHot us s0) := by
  unfold execLinHot
  repeat' first
    | with_reducible assumption | with_reducible refine keeps_next ?_ | with_reducible refine State.at_held _ _ ?_
    | with_reducible refine State.linFault_held _ _ ?_ | with_reducible refine fst_held (by assumption) ?_ | with_reducible refine ite_held ?_ ?_
    | with_reducible refine ite_fst_held ?_ ?_ | with_reducible refine ite_keeps ?_ ?_
theorem held_execLiningFaultRetry (us : Nat) (s0 : State) (hw1 : Held pq s0.regs s0.pending) : Keeps pq (execLiningFaultRetry us s0) := by
  unfold execLiningFaultRetry
  repeat' first
    | with_reducible assumption | with_reducible refine keeps_next ?_ | with_reducible refine State.at_held _ _ ?_
    | with_reducible refine State.linRamp_held _ ?_ | with_reducible refine State.linState_held _ _ ?_
    | with_reducible refine State.setLin_held _ _ ?_ | with_reducible refine fst_held (by assumption) ?_ | with_reducible refine ite_held ?_ ?_
    | with_reducible refine ite_fst_held ?_ ?_ | with_reducible refine ite_keeps ?_ ?_
theorem held_execSupplyGoodRise (us : Nat) (s : State) (hw1 : Held pq s.regs s.pending) : Keeps pq (execSupplyGoodRise us s) := by
  unfold execSupplyGoodRise
  repeat' first
    | with_reducible assumption | with_reducible refine keeps_next ?_ | with_reducible refine State.at_held _ _ ?_
    | with_reducible refine State.powerOn_held _ _ ?_ | with_reducible refine fst_held (by assumption) ?_ | with_reducible refine ite_held ?_ ?_
    | with_reducible refine ite_fst_held ?_ ?_ | with_reducible refine ite_keeps ?_ ?_
theorem State.toPl2_held (s : State) (p : PendingReset) (hw0 : Held pq s.regs s.pending) : ∀ u, (State.toPl2 s p) = some u → Held pq u.regs u.pending := by
  unfold State.toPl2
  repeat' first
    | with_reducible assumption | with_reducible refine State.levelAsk_held _ _ ?_ | with_reducible refine fst_held (by assumption) ?_
    | with_reducible refine ite_opt_held ?_ ?_ | with_reducible refine ite_held ?_ ?_ | with_reducible refine ite_fst_held ?_ ?_
    | (intro hu; cases hu; done) | (intro _ hu; cases hu)
theorem State.resetPoint_held (s : State) (p : PendingReset) (straps : Straps) (cdetHigh : Bool) (us : Nat) (hw0 : Held pq s.regs s.pending) : Held pq (State.resetPoint s p straps cdetHigh us).regs (State.resetPoint s p straps cdetHigh us).pending := by
  unfold State.resetPoint
  repeat' first
    | with_reducible assumption | with_reducible refine State.abandonLadder_held _ _ ?_ | with_reducible refine State.aonRow_held _ _ ?_
    | with_reducible refine State.coldReset_held _ ?_ | with_reducible refine State.setLin_held _ _ ?_
    | with_reducible refine State.startLadder_held _ _ _ _ ?_ | with_reducible refine State.warmReset_held _ ?_
    | with_reducible refine fst_held (by assumption) ?_ | with_reducible refine ite_held ?_ ?_ | with_reducible refine ite_fst_held ?_ ?_ | split
theorem State.toResetPoint_held (s : State) (p : PendingReset) (straps : Straps) (cdetHigh : Bool) (us : Nat) (hw0 : Held pq s.regs s.pending) : Held pq (State.toResetPoint s p straps cdetHigh us).regs (State.toResetPoint s p straps cdetHigh us).pending := by
  unfold State.toResetPoint
  repeat' first
    | with_reducible assumption | with_reducible refine State.resetPoint_held _ _ _ _ _ ?_
    | with_reducible refine some_held (State.toPl2_held _ _ ?_) (by assumption) | with_reducible refine fst_held (by assumption) ?_
    | with_reducible refine getD_held ?_ ?_ | with_reducible refine State.toPl2_held _ _ ?_
theorem held_execResetFlushDone (straps : Straps) (cdetHigh : Bool) (us : Nat) (s : State) (hw3 : Held pq s.regs s.pending) : Keeps pq (execResetFlushDone straps cdetHigh us s) := by
  unfold execResetFlushDone
  repeat' first
    | with_reducible assumption | with_reducible refine keeps_next ?_ | with_reducible refine State.at_held _ _ ?_
    | with_reducible refine State.cleanStop_held _ ?_ | with_reducible refine State.toResetPoint_held _ _ _ _ _ ?_
    | with_reducible refine fst_held (by assumption) ?_ | with_reducible refine ite_held ?_ ?_ | with_reducible refine ite_fst_held ?_ ?_
    | with_reducible refine ite_keeps ?_ ?_ | split | dsimp only
theorem State.excludedNote_held (s : State) (d : DieFound) (why : Option String) (hw0 : Held pq s.regs s.pending) : Held pq (State.excludedNote s d why).regs (State.excludedNote s d why).pending := by
  unfold State.excludedNote
  repeat' first
    | with_reducible assumption | with_reducible refine State.notify_held _ _ _ ?_ | with_reducible refine fst_held (by assumption) ?_ | split
theorem State.takeTarget_held (s : State) (stored : Bool) (d : DieFound) (hw0 : Held pq s.regs s.pending) : Held pq (State.takeTarget s stored d).regs (State.takeTarget s stored d).pending := by
  unfold State.takeTarget
  repeat' first
    | with_reducible assumption | with_reducible refine State.excludedNote_held _ _ _ ?_ | with_reducible refine State.retire_held _ _ _ _ ?_
    | with_reducible refine foldl_held _ ?_ _ _ ?_ | with_reducible refine foldl_fst_held _ ?_ _ _ ?_
    | with_reducible refine fst_held (by assumption) ?_ | with_reducible refine ite_held ?_ ?_ | with_reducible refine ite_fst_held ?_ ?_ | split
    | dsimp only | intro _ _ _ _ | intro _ _ _
theorem State.useRecord_held (s : State) (r : TrainRec) (hw0 : Held pq s.regs s.pending) : Held pq (State.useRecord s r).regs (State.useRecord s r).pending := by
  unfold State.useRecord
  repeat' first
    | with_reducible assumption | with_reducible refine State.set_held _ _ _ ?_ | with_reducible refine State.setWord_held _ _ _ ?_
    | with_reducible refine State.setMasks_held _ _ ?_ | with_reducible refine foldl_held _ ?_ _ _ ?_
    | with_reducible refine foldl_fst_held _ ?_ _ _ ?_ | with_reducible refine fst_held (by assumption) ?_ | split | dsimp only | intro _ _ _ _
    | intro _ _ _
theorem State.dramBack_held (s : State) (found : DramFound) (temp : Int) (verified : Bool) (hw0 : Held pq s.regs s.pending) : Held pq (State.dramBack s found temp verified).regs (State.dramBack s found temp verified).pending := by
  unfold State.dramBack
  repeat' first
    | with_reducible assumption | with_reducible refine State.afterReady_held _ ?_ | with_reducible refine State.useRecord_held _ _ ?_
    | with_reducible refine fst_held (by assumption) ?_ | with_reducible refine ite_held ?_ ?_ | with_reducible refine ite_fst_held ?_ ?_ | split
theorem State.findDram_held (s : State) (f : DramFound) (hw0 : Held pq s.regs s.pending) : Held pq (State.findDram s f).regs (State.findDram s f).pending := by
  unfold State.findDram
  repeat' first
    | with_reducible assumption | with_reducible refine State.set_held _ _ _ ?_ | with_reducible refine State.bringAll_held _ _ ?_
    | with_reducible refine State.startChannels_held _ _ ?_ | with_reducible refine foldl_held _ ?_ _ _ ?_
    | with_reducible refine foldl_fst_held _ ?_ _ _ ?_ | with_reducible refine fst_held (by assumption) ?_ | split | dsimp only | intro _ _ _ _
    | intro _ _ _
theorem held_execDramRestore (found : DramFound) (temp : Int) (verified : Bool) (places : List (Nat × Nat)) (us : Nat) (s : State) (hw5 : Held pq s.regs s.pending) : Keeps pq (execDramRestore found temp verified places us s) := by
  unfold execDramRestore
  repeat' first
    | with_reducible assumption | with_reducible refine keeps_next ?_ | with_reducible refine State.set_held _ _ _ ?_
    | with_reducible refine State.at_held _ _ ?_ | with_reducible refine State.dramBack_held _ _ _ _ ?_
    | with_reducible refine State.findDram_held _ _ ?_ | with_reducible refine State.layRanks_held _ ?_
    | with_reducible refine State.placeCarves_held _ _ ?_ | with_reducible refine State.rowDone_held _ _ ?_
    | with_reducible refine State.trainFailed_held _ _ ?_ | with_reducible refine State.useRecord_held _ _ ?_
    | with_reducible refine fst_held (by assumption) ?_ | with_reducible refine ite_held ?_ ?_ | with_reducible refine ite_fst_held ?_ ?_
    | with_reducible refine ite_keeps ?_ ?_ | split | dsimp only
theorem held_execReadyRise (reg : Option Regulator) (us : Nat) (s : State) (hw2 : Held pq s.regs s.pending) : Keeps pq (execReadyRise reg us s) := by
  unfold execReadyRise
  repeat' first
    | with_reducible assumption | with_reducible refine keeps_next ?_ | with_reducible refine State.at_held _ _ ?_
    | with_reducible refine State.readyRise_held _ _ _ ?_ | with_reducible refine fst_held (by assumption) ?_ | with_reducible refine ite_held ?_ ?_
    | with_reducible refine ite_fst_held ?_ ?_ | with_reducible refine ite_keeps ?_ ?_
theorem held_execTailorRelease (rom : List (Nat × Nat × Nat × Nat)) (us : Nat) (s : State) (hw2 : Held pq s.regs s.pending) : Keeps pq (execTailorRelease rom us s) := by
  unfold execTailorRelease
  repeat' first
    | with_reducible assumption | with_reducible refine keeps_next ?_ | with_reducible refine State.at_held _ _ ?_
    | with_reducible refine State.bringAll_held _ _ ?_ | with_reducible refine State.romRegions_held _ _ ?_
    | with_reducible refine State.rowDone_held _ _ ?_ | with_reducible refine fst_held (by assumption) ?_ | with_reducible refine ite_held ?_ ?_
    | with_reducible refine ite_fst_held ?_ ?_ | with_reducible refine ite_keeps ?_ ?_
theorem State.writeRstctl_held (s : State) (key : Nat) (kind : Nat) (p1 : Bool) (hw0 : Held pq s.regs s.pending) : Held pq (State.writeRstctl s key kind p1).regs (State.writeRstctl s key kind p1).pending := by
  unfold State.writeRstctl
  repeat' first
    | with_reducible assumption | with_reducible refine State.commandReset_held _ _ _ ?_ | with_reducible refine State.restartT1_held _ _ ?_
    | with_reducible refine fst_held (by assumption) ?_ | with_reducible refine ite_held ?_ ?_ | with_reducible refine ite_fst_held ?_ ?_ | split
theorem held_execSysRstctlCold (key : Nat) (p1 : Bool) (us : Nat) (s : State) (hw3 : Held pq s.regs s.pending) : Keeps pq (execSysRstctlCold key p1 us s) := by
  unfold execSysRstctlCold
  repeat' first
    | with_reducible assumption | with_reducible refine keeps_next ?_ | with_reducible refine State.at_held _ _ ?_
    | with_reducible refine State.writeRstctl_held _ _ _ _ ?_
theorem State.replayHeld_held (s : State) (e : Nat) (hw0 : Held pq s.regs s.pending) : Held pq (State.replayHeld s e).regs (State.replayHeld s e).pending := by
  unfold State.replayHeld
  repeat' first
    | with_reducible assumption | with_reducible refine State.putSeg_held _ _ ?_ | with_reducible refine State.segHeld_held _ _ ?_
    | with_reducible refine fst_held (by assumption) ?_ | with_reducible refine ite_held ?_ ?_
theorem State.writeWdog_held (s : State) (w : Nat) (us : Nat) (hw0 : Held pq s.regs s.pending) : Held pq (State.writeWdog s w us).regs (State.writeWdog s w us).pending := by
  unfold State.writeWdog
  repeat' first
    | with_reducible assumption | with_reducible refine State.set_held _ _ _ ?_ | with_reducible refine fst_held (by assumption) ?_
    | with_reducible refine ite_held ?_ ?_
theorem held_execSramFill (repair : Option Nat) (us : Nat) (s : State) (hw2 : Held pq s.regs s.pending) : Keeps pq (execSramFill repair us s) := by
  unfold execSramFill
  repeat' first
    | with_reducible assumption | with_reducible refine keeps_next ?_ | with_reducible refine State.at_held _ _ ?_
    | with_reducible refine State.enterLimp_held _ _ _ ?_ | with_reducible refine State.rowDone_held _ _ ?_
    | with_reducible refine fst_held (by assumption) ?_ | with_reducible refine ite_held ?_ ?_ | with_reducible refine ite_fst_held ?_ ?_
    | with_reducible refine ite_keeps ?_ ?_ | split
theorem held_execCrystalRecovery (us : Nat) (s : State) (hw1 : Held pq s.regs s.pending) : Keeps pq (execCrystalRecovery us s) := by
  unfold execCrystalRecovery
  repeat' first
    | with_reducible assumption | with_reducible refine keeps_next ?_ | with_reducible refine State.at_held _ _ ?_
    | with_reducible refine State.powerOn_held _ _ ?_ | with_reducible refine fst_held (by assumption) ?_ | with_reducible refine ite_held ?_ ?_
    | with_reducible refine ite_fst_held ?_ ?_ | with_reducible refine ite_keeps ?_ ?_
theorem held_execPllLock (us : Nat) (s : State) (hw1 : Held pq s.regs s.pending) : Keeps pq (execPllLock us s) := by
  unfold execPllLock
  repeat' first
    | with_reducible assumption | with_reducible refine keeps_next ?_ | with_reducible refine State.set_held _ _ _ ?_
    | with_reducible refine State.at_held _ _ ?_ | with_reducible refine State.rowDone_held _ _ ?_ | with_reducible refine foldl_held _ ?_ _ _ ?_
    | with_reducible refine foldl_fst_held _ ?_ _ _ ?_ | with_reducible refine fst_held (by assumption) ?_ | with_reducible refine ite_held ?_ ?_
    | with_reducible refine ite_fst_held ?_ ?_ | with_reducible refine ite_keeps ?_ ?_ | split | dsimp only | intro _ _ _ _ | intro _ _ _
theorem held_execStartupTimerExpiry (reg : Option Regulator) (us : Nat) (s : State) (hw2 : Held pq s.regs s.pending) : Keeps pq (execStartupTimerExpiry reg us s) := by
  unfold execStartupTimerExpiry
  repeat' first
    | with_reducible assumption | with_reducible refine keeps_next ?_ | with_reducible refine State.at_held _ _ ?_
    | with_reducible refine State.enterLimp_held _ _ _ ?_ | with_reducible refine State.readyRise_held _ _ _ ?_
    | with_reducible refine State.startLadder_held _ _ _ _ ?_ | with_reducible refine State.warmReset_held _ ?_
    | with_reducible refine fst_held (by assumption) ?_ | with_reducible refine ite_held ?_ ?_ | with_reducible refine ite_fst_held ?_ ?_
    | with_reducible refine ite_keeps ?_ ?_
theorem held_execCollarBanner (us : Nat) (s : State) (hw1 : Held pq s.regs s.pending) : Keeps pq (execCollarBanner us s) := by
  unfold execCollarBanner
  repeat' first
    | with_reducible assumption | with_reducible refine keeps_next ?_ | with_reducible refine State.setWord_held _ _ _ ?_
    | with_reducible refine State.at_held _ _ ?_ | with_reducible refine State.prompt_held _ _ ?_ | with_reducible refine State.rowDone_held _ _ ?_
    | with_reducible refine State.send_held _ _ _ ?_ | with_reducible refine State.setSession_held _ _ _ ?_
    | with_reducible refine fst_held (by assumption) ?_ | with_reducible refine ite_held ?_ ?_ | with_reducible refine ite_fst_held ?_ ?_
    | with_reducible refine ite_keeps ?_ ?_
theorem held_execPocketTableLoad (us : Nat) (s : State) (hw1 : Held pq s.regs s.pending) : Keeps pq (execPocketTableLoad us s) := by
  unfold execPocketTableLoad
  repeat' first
    | with_reducible assumption | with_reducible refine keeps_next ?_ | with_reducible refine State.set_held _ _ _ ?_
    | with_reducible refine State.at_held _ _ ?_ | with_reducible refine State.bringAll_held _ _ ?_ | with_reducible refine State.loadMap_held _ ?_
    | with_reducible refine State.rowDone_held _ _ ?_ | with_reducible refine State.showCapacity_held _ ?_
    | with_reducible refine State.showTwin_held _ _ ?_ | with_reducible refine foldl_held _ ?_ _ _ ?_
    | with_reducible refine foldl_fst_held _ ?_ _ _ ?_ | with_reducible refine fst_held (by assumption) ?_ | with_reducible refine ite_held ?_ ?_
    | with_reducible refine ite_fst_held ?_ ?_ | with_reducible refine ite_keeps ?_ ?_ | split | dsimp only | intro _ _ _ _ | intro _ _ _
theorem State.startNonce_held (s : State) (hw0 : Held pq s.regs s.pending) : Held pq (State.startNonce s).regs (State.startNonce s).pending := by
  unfold State.startNonce
  repeat' first
    | with_reducible assumption | with_reducible refine foldl_held _ ?_ _ _ ?_ | with_reducible refine foldl_fst_held _ ?_ _ _ ?_
    | with_reducible refine fst_held (by assumption) ?_ | with_reducible refine ite_held ?_ ?_
theorem held_execMapBackgroundLoadDone (us : Nat) (s : State) (hw1 : Held pq s.regs s.pending) : Keeps pq (execMapBackgroundLoadDone us s) := by
  unfold execMapBackgroundLoadDone
  repeat' first
    | with_reducible assumption | with_reducible refine keeps_next ?_ | with_reducible refine State.set_held _ _ _ ?_
    | with_reducible refine State.at_held _ _ ?_ | with_reducible refine State.notify_held _ _ _ ?_
    | with_reducible refine State.segArrives_held _ _ ?_ | with_reducible refine foldl_held _ ?_ _ _ ?_
    | with_reducible refine foldl_fst_held _ ?_ _ _ ?_ | with_reducible refine fst_held (by assumption) ?_ | with_reducible refine ite_held ?_ ?_
    | with_reducible refine ite_fst_held ?_ ?_ | with_reducible refine ite_keeps ?_ ?_ | split | dsimp only | intro _ _ _ _ | intro _ _ _
theorem held_execSysRstctlT1Restart (key : Nat) (p1 : Bool) (us : Nat) (s : State) (hw3 : Held pq s.regs s.pending) : Keeps pq (execSysRstctlT1Restart key p1 us s) := by
  unfold execSysRstctlT1Restart
  repeat' first
    | with_reducible assumption | with_reducible refine keeps_next ?_ | with_reducible refine State.at_held _ _ ?_
    | with_reducible refine State.writeRstctl_held _ _ _ _ ?_
theorem held_execStagingToDramSwitch (places : List (Nat × Nat)) (us : Nat) (s : State) (hw2 : Held pq s.regs s.pending) : Keeps pq (execStagingToDramSwitch places us s) := by
  unfold execStagingToDramSwitch
  repeat' first
    | with_reducible assumption | with_reducible refine keeps_next ?_ | with_reducible refine State.set_held _ _ _ ?_
    | with_reducible refine State.at_held _ _ ?_ | with_reducible refine State.placeCarves_held _ _ ?_
    | with_reducible refine State.segArrives_held _ _ ?_ | with_reducible refine foldl_held _ ?_ _ _ ?_
    | with_reducible refine foldl_fst_held _ ?_ _ _ ?_ | with_reducible refine fst_held (by assumption) ?_ | with_reducible refine ite_held ?_ ?_
    | with_reducible refine ite_fst_held ?_ ?_ | with_reducible refine ite_keeps ?_ ?_ | split | dsimp only | intro _ _ _ _ | intro _ _ _
theorem held_execCrystalLoss (ns : Nat) (us : Nat) (s : State) (hw2 : Held pq s.regs s.pending) : Keeps pq (execCrystalLoss ns us s) := by
  unfold execCrystalLoss
  repeat' first
    | with_reducible assumption | with_reducible refine keeps_next ?_ | with_reducible refine State.set_held _ _ _ ?_
    | with_reducible refine State.at_held _ _ ?_ | with_reducible refine State.powerOff_held _ ?_
    | with_reducible refine fst_held (by assumption) ?_ | with_reducible refine ite_held ?_ ?_ | with_reducible refine ite_fst_held ?_ ?_
    | with_reducible refine ite_keeps ?_ ?_
theorem State.putBody_held (s : State) (fuelN : BootBody) (hw0 : Held pq s.regs s.pending) : Held pq (State.putBody s fuelN).regs (State.putBody s fuelN).pending := by
  unfold State.putBody
  repeat' first
    | with_reducible assumption | with_reducible refine fst_held (by assumption) ?_ | split
theorem State.useKind_held (s : State) (bad : List (Bool × Nat)) (kind : Nat) (hw0 : Held pq s.regs s.pending) : Held pq (State.useKind s bad kind).1.regs (State.useKind s bad kind).1.pending := by
  unfold State.useKind
  repeat' first
    | with_reducible assumption | with_reducible refine State.putBody_held _ _ ?_ | with_reducible refine fst_held (by assumption) ?_
    | with_reducible refine map_held ?_ | with_reducible refine bind_held ?_ ?_ | with_reducible refine some_held ?_ (by assumption)
    | with_reducible refine ite_held ?_ ?_ | with_reducible refine ite_fst_held ?_ ?_ | split
theorem State.useRecords_held (s : State) (bad : List (Bool × Nat)) (hw0 : Held pq s.regs s.pending) : Held pq (State.useRecords s bad).1.regs (State.useRecords s bad).1.pending := by
  unfold State.useRecords
  repeat' first
    | with_reducible assumption | with_reducible refine State.useKind_held _ _ _ ?_ | with_reducible refine foldl_held _ ?_ _ _ ?_
    | with_reducible refine foldl_fst_held _ ?_ _ _ ?_ | with_reducible refine fst_held (by assumption) ?_ | split | dsimp only | intro _ _ _ _
    | intro _ _ _
theorem held_execRearmPowerOn (us : Nat) (s : State) (hw1 : Held pq s.regs s.pending) : Keeps pq (execRearmPowerOn us s) := by
  unfold execRearmPowerOn
  repeat' first
    | with_reducible assumption | with_reducible refine keeps_next ?_ | with_reducible refine State.at_held _ _ ?_
    | with_reducible refine State.powerOff_held _ ?_ | with_reducible refine State.powerOn_held _ _ ?_
    | with_reducible refine fst_held (by assumption) ?_ | with_reducible refine ite_held ?_ ?_ | with_reducible refine ite_fst_held ?_ ?_
    | with_reducible refine ite_keeps ?_ ?_ | split | dsimp only
theorem State.readRecords_held (s : State) (bad : List (Bool × Nat)) (hw0 : Held pq s.regs s.pending) : Held pq (State.readRecords s bad).regs (State.readRecords s bad).pending := by
  unfold State.readRecords
  repeat' first
    | with_reducible assumption | with_reducible refine State.set_held _ _ _ ?_ | with_reducible refine State.enterLimp_held _ _ _ ?_
    | with_reducible refine State.notify_held _ _ _ ?_ | with_reducible refine State.unclean_held _ ?_
    | with_reducible refine State.useRecords_held _ _ ?_ | with_reducible refine foldl_held _ ?_ _ _ ?_
    | with_reducible refine foldl_fst_held _ ?_ _ _ ?_ | with_reducible refine fst_held (by assumption) ?_ | with_reducible refine ite_held ?_ ?_
    | with_reducible refine ite_fst_held ?_ ?_ | split | dsimp only | intro _ _ _ _ | intro _ _ _
theorem held_execSysRstctlWarm (key : Nat) (p1 : Bool) (us : Nat) (s : State) (hw3 : Held pq s.regs s.pending) : Keeps pq (execSysRstctlWarm key p1 us s) := by
  unfold execSysRstctlWarm
  repeat' first
    | with_reducible assumption | with_reducible refine keeps_next ?_ | with_reducible refine State.at_held _ _ ?_
    | with_reducible refine State.writeRstctl_held _ _ _ _ ?_
theorem State.loadSlots_held (s : State) (lost : List Nat) (hw0 : Held pq s.regs s.pending) : Held pq (State.loadSlots s lost).regs (State.loadSlots s lost).pending := by
  unfold State.loadSlots
  repeat' first
    | with_reducible assumption | with_reducible refine State.keyNote_held _ _ _ ?_ | with_reducible refine foldl_held _ ?_ _ _ ?_
    | with_reducible refine foldl_fst_held _ ?_ _ _ ?_ | with_reducible refine fst_held (by assumption) ?_ | split | dsimp only | intro _ _ _ _
    | intro _ _ _
theorem held_execCheckerSelfTest (failed : List (Nat × Nat)) (us : Nat) (s : State) (hw2 : Held pq s.regs s.pending) : Keeps pq (execCheckerSelfTest failed us s) := by
  unfold execCheckerSelfTest
  repeat' first
    | with_reducible assumption | with_reducible refine keeps_next ?_ | with_reducible refine State.set_held _ _ _ ?_
    | with_reducible refine State.at_held _ _ ?_ | with_reducible refine State.enterLimp_held _ _ _ ?_
    | with_reducible refine State.rowDone_held _ _ ?_ | with_reducible refine fst_held (by assumption) ?_ | with_reducible refine ite_held ?_ ?_
    | with_reducible refine ite_fst_held ?_ ?_ | with_reducible refine ite_keeps ?_ ?_ | split
theorem State.loadJournal_held (s : State) (bad : List (Nat × Nat × Nat)) (lost : List Nat) (hw0 : Held pq s.regs s.pending) : Held pq (State.loadJournal s bad lost).regs (State.loadJournal s bad lost).pending := by
  unfold State.loadJournal
  repeat' first
    | with_reducible assumption | with_reducible refine State.set_held _ _ _ ?_ | with_reducible refine State.loadSlots_held _ _ ?_
    | with_reducible refine State.notify_held _ _ _ ?_ | with_reducible refine fst_held (by assumption) ?_ | with_reducible refine ite_held ?_ ?_
    | with_reducible refine ite_fst_held ?_ ?_ | split
theorem held_execKeyJournalLoad (bad : List (Nat × Nat × Nat)) (lost : List Nat) (us : Nat) (s : State) (hw3 : Held pq s.regs s.pending) : Keeps pq (execKeyJournalLoad bad lost us s) := by
  unfold execKeyJournalLoad
  repeat' first
    | with_reducible assumption | with_reducible refine keeps_next ?_ | with_reducible refine State.set_held _ _ _ ?_
    | with_reducible refine State.at_held _ _ ?_ | with_reducible refine State.bringAll_held _ _ ?_
    | with_reducible refine State.loadJournal_held _ _ _ ?_ | with_reducible refine State.rowDone_held _ _ ?_
    | with_reducible refine fst_held (by assumption) ?_ | with_reducible refine ite_held ?_ ?_ | with_reducible refine ite_fst_held ?_ ?_
    | with_reducible refine ite_keeps ?_ ?_
theorem held_execDramTrainingDone (failedFast : List Nat) (failed : List Nat) (ident : Nat) (temp : Int) (delays : List (Nat × Nat)) (us : Nat) (s : State) (hw6 : Held pq s.regs s.pending) : Keeps pq (execDramTrainingDone failedFast failed ident temp delays us s) := by
  unfold execDramTrainingDone
  repeat' first
    | with_reducible assumption | with_reducible refine keeps_next ?_ | with_reducible refine State.set_held _ _ _ ?_
    | with_reducible refine State.setWord_held _ _ _ ?_ | with_reducible refine State.at_held _ _ ?_
    | with_reducible refine State.bootRecord_held _ _ ?_ | with_reducible refine State.notify_held _ _ _ ?_
    | with_reducible refine State.setMasks_held _ _ ?_ | with_reducible refine State.trainFailed_held _ _ ?_
    | with_reducible refine foldl_held _ ?_ _ _ ?_ | with_reducible refine foldl_fst_held _ ?_ _ _ ?_
    | with_reducible refine fst_held (by assumption) ?_ | with_reducible refine ite_held ?_ ?_ | with_reducible refine ite_fst_held ?_ ?_
    | with_reducible refine ite_keeps ?_ ?_ | split | dsimp only | intro _ _ _ _ | intro _ _ _
theorem held_execWatchdogExpiry (us : Nat) (s : State) (hw1 : Held pq s.regs s.pending) : Keeps pq (execWatchdogExpiry us s) := by
  unfold execWatchdogExpiry
  repeat' first
    | with_reducible assumption | with_reducible refine keeps_next ?_ | with_reducible refine State.at_held _ _ ?_
    | with_reducible refine State.beginReset_held _ _ _ ?_ | with_reducible refine fst_held (by assumption) ?_
    | with_reducible refine ite_held ?_ ?_ | with_reducible refine ite_fst_held ?_ ?_ | with_reducible refine ite_keeps ?_ ?_
theorem State.discover_held (s : State) (stored : Bool) (quads : List Nat) (found : List DieFound) (hw0 : Held pq s.regs s.pending) : Held pq (State.discover s stored quads found).regs (State.discover s stored quads found).pending := by
  unfold State.discover
  repeat' first
    | with_reducible assumption | with_reducible refine State.modeRecord_held _ ?_ | with_reducible refine State.showQuad_held _ _ ?_
    | with_reducible refine State.takeTarget_held _ _ _ ?_ | with_reducible refine foldl_held _ ?_ _ _ ?_
    | with_reducible refine foldl_fst_held _ ?_ _ _ ?_ | with_reducible refine fst_held (by assumption) ?_ | with_reducible refine ite_held ?_ ?_
    | with_reducible refine ite_fst_held ?_ ?_ | split | dsimp only | intro _ _ _ _ | intro _ _ _
theorem State.checkQuad_held (s : State) (stored : Bool) (found : List DieFound) (q : Nat) (hw0 : Held pq s.regs s.pending) : Held pq (State.checkQuad s stored found q).regs (State.checkQuad s stored found q).pending := by
  unfold State.checkQuad
  repeat' first
    | with_reducible assumption | with_reducible refine State.excludedNote_held _ _ _ ?_ | with_reducible refine State.modeRecord_held _ ?_
    | with_reducible refine State.showQuad_held _ _ ?_ | with_reducible refine foldl_held _ ?_ _ _ ?_
    | with_reducible refine foldl_fst_held _ ?_ _ _ ?_ | with_reducible refine fst_held (by assumption) ?_ | with_reducible refine ite_held ?_ ?_
    | with_reducible refine ite_fst_held ?_ ?_ | split | dsimp only | intro _ _ _ _ | intro _ _ _
theorem held_execDieDiscovery (found : List DieFound) (bad : List (Bool × Nat)) (us : Nat) (s : State) (hw3 : Held pq s.regs s.pending) : Keeps pq (execDieDiscovery found bad us s) := by
  unfold execDieDiscovery
  repeat' first
    | with_reducible assumption | with_reducible refine keeps_next ?_ | with_reducible refine State.at_held _ _ ?_
    | with_reducible refine State.bringAll_held _ _ ?_ | with_reducible refine State.checkQuad_held _ _ _ _ ?_
    | with_reducible refine State.discover_held _ _ _ _ ?_ | with_reducible refine State.rowDone_held _ _ ?_
    | with_reducible refine foldl_held _ ?_ _ _ ?_ | with_reducible refine foldl_fst_held _ ?_ _ _ ?_
    | with_reducible refine fst_held (by assumption) ?_ | with_reducible refine ite_held ?_ ?_ | with_reducible refine ite_fst_held ?_ ?_
    | with_reducible refine ite_keeps ?_ ?_ | split | dsimp only | intro _ _ _ _ | intro _ _ _
theorem held_execSysWdogKick (value : Nat) (us : Nat) (s : State) (hw2 : Held pq s.regs s.pending) : Keeps pq (execSysWdogKick value us s) := by
  unfold execSysWdogKick
  repeat' first
    | with_reducible assumption | with_reducible refine keeps_next ?_ | with_reducible refine State.at_held _ _ ?_
    | with_reducible refine State.writeWdog_held _ _ _ ?_
theorem State.newBootArea_held (s : State) (hw0 : Held pq s.regs s.pending) : Held pq (State.newBootArea s).regs (State.newBootArea s).pending := by
  unfold State.newBootArea
  repeat' first
    | with_reducible assumption | with_reducible refine State.set_held _ _ _ ?_ | with_reducible refine State.bootRecord_held _ _ ?_
    | with_reducible refine State.ckptWrite_held _ _ ?_
theorem held_execBootRecordsRead (bad : List (Bool × Nat)) (us : Nat) (s : State) (hw2 : Held pq s.regs s.pending) : Keeps pq (execBootRecordsRead bad us s) := by
  unfold execBootRecordsRead
  repeat' first
    | with_reducible assumption | with_reducible refine keeps_next ?_ | with_reducible refine State.at_held _ _ ?_
    | with_reducible refine State.formatAll_held _ ?_ | with_reducible refine State.modeRecord_held _ ?_
    | with_reducible refine State.newBootArea_held _ ?_ | with_reducible refine State.readRecords_held _ _ ?_
    | with_reducible refine State.rowDone_held _ _ ?_ | with_reducible refine State.showExt_held _ ?_
    | with_reducible refine State.showRate_held _ _ _ ?_ | with_reducible refine State.startNonce_held _ ?_
    | with_reducible refine foldl_held _ ?_ _ _ ?_ | with_reducible refine foldl_fst_held _ ?_ _ _ ?_
    | with_reducible refine fst_held (by assumption) ?_ | with_reducible refine ite_held ?_ ?_ | with_reducible refine ite_fst_held ?_ ?_
    | with_reducible refine ite_keeps ?_ ?_ | split | dsimp only | intro _ _ _ _ | intro _ _ _
theorem held_execSupplyGoodFall (ns : Nat) (us : Nat) (s : State) (hw2 : Held pq s.regs s.pending) : Keeps pq (execSupplyGoodFall ns us s) := by
  unfold execSupplyGoodFall
  repeat' first
    | with_reducible assumption | with_reducible refine keeps_next ?_ | with_reducible refine State.at_held _ _ ?_
    | with_reducible refine State.powerOff_held _ ?_ | with_reducible refine fst_held (by assumption) ?_ | with_reducible refine ite_held ?_ ?_
    | with_reducible refine ite_fst_held ?_ ?_ | with_reducible refine ite_keeps ?_ ?_
theorem held_execFuseShadowLoad (ok : Bool) (us : Nat) (s : State) (hw2 : Held pq s.regs s.pending) : Keeps pq (execFuseShadowLoad ok us s) := by
  unfold execFuseShadowLoad
  repeat' first
    | with_reducible assumption | with_reducible refine keeps_next ?_ | with_reducible refine State.set_held _ _ _ ?_
    | with_reducible refine State.at_held _ _ ?_ | with_reducible refine State.enterLimp_held _ _ _ ?_
    | with_reducible refine State.formLife_held _ ?_ | with_reducible refine State.notify_held _ _ _ ?_
    | with_reducible refine State.rowDone_held _ _ ?_ | with_reducible refine fst_held (by assumption) ?_ | with_reducible refine ite_held ?_ ?_
    | with_reducible refine ite_fst_held ?_ ?_ | with_reducible refine ite_keeps ?_ ?_
theorem held_execAonRelease (straps : Straps) (cdetHigh : Bool) (us : Nat) (s : State) (hw3 : Held pq s.regs s.pending) : Keeps pq (execAonRelease straps cdetHigh us s) := by
  unfold execAonRelease
  repeat' first
    | with_reducible assumption | with_reducible refine keeps_next ?_ | with_reducible refine State.abandonLadder_held _ _ ?_
    | with_reducible refine State.aonRow_held _ _ ?_ | with_reducible refine State.at_held _ _ ?_ | with_reducible refine State.rowDone_held _ _ ?_
    | with_reducible refine State.setLin_held _ _ ?_ | with_reducible refine fst_held (by assumption) ?_ | with_reducible refine ite_held ?_ ?_
    | with_reducible refine ite_fst_held ?_ ?_ | with_reducible refine ite_keeps ?_ ?_
theorem held_execReplayDone (us : Nat) (s : State) (hw1 : Held pq s.regs s.pending) : Keeps pq (execReplayDone us s) := by
  unfold execReplayDone
  repeat' first
    | with_reducible assumption | with_reducible refine keeps_next ?_ | with_reducible refine State.set_held _ _ _ ?_
    | with_reducible refine State.at_held _ _ ?_ | with_reducible refine State.beginCkpt_held _ _ _ ?_
    | with_reducible refine State.replayHeld_held _ _ ?_ | with_reducible refine State.segArrives_held _ _ ?_
    | with_reducible refine foldl_held _ ?_ _ _ ?_ | with_reducible refine foldl_fst_held _ ?_ _ _ ?_
    | with_reducible refine fst_held (by assumption) ?_ | with_reducible refine ite_held ?_ ?_ | with_reducible refine ite_fst_held ?_ ?_
    | with_reducible refine ite_keeps ?_ ?_ | split | dsimp only | intro _ _ _ _ | intro _ _ _
theorem State.tornCheckpoint_held (s : State) (hw0 : Held pq s.regs s.pending) : Held pq (State.tornCheckpoint s).regs (State.tornCheckpoint s).pending := by
  unfold State.tornCheckpoint
  repeat' first
    | with_reducible assumption | with_reducible refine fst_held (by assumption) ?_ | split
theorem held_execBankExhausted (us : Nat) (s : State) (hw1 : Held pq s.regs s.pending) : Keeps pq (execBankExhausted us s) := by
  unfold execBankExhausted
  repeat' first
    | with_reducible assumption | with_reducible refine keeps_next ?_ | with_reducible refine State.at_held _ _ ?_
    | with_reducible refine State.powerOff_held _ ?_ | with_reducible refine State.tornCheckpoint_held _ ?_
    | with_reducible refine fst_held (by assumption) ?_ | with_reducible refine ite_held ?_ ?_ | with_reducible refine ite_fst_held ?_ ?_
    | with_reducible refine ite_keeps ?_ ?_
theorem held_execDramAlert (ch : Nat) (us : Nat) (s0 : State) (hw2 : Held pq s0.regs s0.pending) : Keeps pq (execDramAlert ch us s0) := by
  unfold execDramAlert
  repeat' first
    | with_reducible assumption | with_reducible refine keeps_next ?_ | with_reducible refine State.at_held _ _ ?_
    | with_reducible refine State.count_held _ _ _ ?_ | with_reducible refine State.notify_held _ _ _ ?_
    | with_reducible refine State.setDrc_held _ _ _ ?_ | with_reducible refine fst_held (by assumption) ?_ | with_reducible refine ite_held ?_ ?_
    | with_reducible refine ite_fst_held ?_ ?_ | with_reducible refine ite_keeps ?_ ?_
theorem State.patternRun_held (s : State) (ch : Nat) (rank : Nat) (dir : Nat) (pat : Nat) (got : List Nat) (hw0 : Held pq s.regs s.pending) : Held pq (State.patternRun s ch rank dir pat got).regs (State.patternRun s ch rank dir pat got).pending := by
  unfold State.patternRun
  repeat' first
    | with_reducible assumption | with_reducible refine State.set_held _ _ _ ?_ | with_reducible refine State.count_held _ _ _ ?_
    | with_reducible refine State.setDrc_held _ _ _ ?_ | with_reducible refine foldl_held _ ?_ _ _ ?_
    | with_reducible refine foldl_fst_held _ ?_ _ _ ?_ | with_reducible refine fst_held (by assumption) ?_ | with_reducible refine ite_held ?_ ?_
    | with_reducible refine ite_fst_held ?_ ?_ | split | dsimp only | intro _ _ _ _ | intro _ _ _
theorem held_execMergeEntryTimeout (ch : Nat) (line : Nat) (errs : LineErrs) (ns : Nat) (s0 : State) (hw4 : Held pq s0.regs s0.pending) : Keeps pq (execMergeEntryTimeout ch line errs ns s0) := by
  unfold execMergeEntryTimeout
  repeat' first
    | with_reducible assumption | with_reducible refine keeps_next ?_ | with_reducible refine State.at_held _ _ ?_
    | with_reducible refine State.mergeOut_held _ _ _ _ _ ?_ | with_reducible refine fst_held (by assumption) ?_
    | with_reducible refine ite_held ?_ ?_ | with_reducible refine ite_fst_held ?_ ?_ | with_reducible refine ite_keeps ?_ ?_ | split
theorem State.meterDamaged_held (s : State) (p : Nat) (k : Nat) (w : Nat) (closed : Option Nat) (hw0 : Held pq s.regs s.pending) : Held pq (State.meterDamaged s p k w closed).regs (State.meterDamaged s p k w closed).pending := by
  unfold State.meterDamaged
  repeat' first
    | with_reducible assumption | with_reducible refine fst_held (by assumption) ?_ | with_reducible refine ite_held ?_ ?_
    | with_reducible refine ite_fst_held ?_ ?_ | split | dsimp only
theorem held_execRankShrink (ch : Nat) (s : State) (hw1 : Held pq s.regs s.pending) : Keeps pq (execRankShrink ch s) := by
  unfold execRankShrink
  repeat' first
    | with_reducible assumption | with_reducible refine keeps_next ?_ | with_reducible refine State.set_held _ _ _ ?_
    | with_reducible refine State.beginReset_held _ _ _ ?_ | with_reducible refine State.notify_held _ _ _ ?_
    | with_reducible refine State.setDrc_held _ _ _ ?_ | with_reducible refine fst_held (by assumption) ?_ | with_reducible refine ite_held ?_ ?_
    | with_reducible refine ite_fst_held ?_ ?_ | with_reducible refine ite_keeps ?_ ?_ | split
theorem held_execDramSchedule (ch : Nat) (ns : Nat) (s0 : State) (hw2 : Held pq s0.regs s0.pending) : Keeps pq (execDramSchedule ch ns s0) := by
  unfold execDramSchedule
  repeat' first
    | with_reducible assumption | with_reducible refine keeps_next ?_ | with_reducible refine State.access1_held _ _ _ _ _ ?_
    | with_reducible refine State.at_held _ _ ?_ | with_reducible refine State.countMisses_held _ _ _ ?_
    | with_reducible refine State.setDrc_held _ _ _ ?_ | with_reducible refine State.storeLine_held _ _ _ _ _ ?_
    | with_reducible refine fst_held (by assumption) ?_ | with_reducible refine ite_held ?_ ?_ | with_reducible refine ite_fst_held ?_ ?_
    | with_reducible refine ite_keeps ?_ ?_ | split | dsimp only
theorem held_execDqsTrack (ch : Nat) (moves : List Nat) (s : State) (hw2 : Held pq s.regs s.pending) : Keeps pq (execDqsTrack ch moves s) := by
  unfold execDqsTrack
  repeat' first
    | with_reducible assumption | with_reducible refine keeps_next ?_ | with_reducible refine State.set_held _ _ _ ?_
    | with_reducible refine foldl_held _ ?_ _ _ ?_ | with_reducible refine foldl_fst_held _ ?_ _ _ ?_
    | with_reducible refine fst_held (by assumption) ?_ | with_reducible refine ite_held ?_ ?_ | with_reducible refine ite_fst_held ?_ ?_
    | with_reducible refine ite_keeps ?_ ?_ | split | dsimp only | intro _ _ _ _ | intro _ _ _
theorem State.acceptWrite_held (s : State) (n : Nat) (port : Nat) (line : Nat) (ns : Nat) (hint : Bool) (o : Owner) (bytes : List (Option Byte)) (evict : LineErrs) (hw0 : Held pq s.regs s.pending) : Held pq (State.acceptWrite s n port line ns hint o bytes evict).regs (State.acceptWrite s n port line ns hint o bytes evict).pending := by
  unfold State.acceptWrite
  repeat' first
    | with_reducible assumption | with_reducible refine State.mergeOut_held _ _ _ _ _ ?_ | with_reducible refine State.newReq_held _ _ _ _ _ _ _ ?_
    | with_reducible refine State.queueLine_held _ _ _ ?_ | with_reducible refine State.setDrc_held _ _ _ ?_
    | with_reducible refine fst_held (by assumption) ?_ | with_reducible refine ite_held ?_ ?_ | with_reducible refine ite_fst_held ?_ ?_ | split
    | dsimp only
theorem State.acceptRead_held (s : State) (n : Nat) (port : Nat) (line : Nat) (ns : Nat) (hint : Bool) (o : Owner) (hw0 : Held pq s.regs s.pending) : Held pq (State.acceptRead s n port line ns hint o).regs (State.acceptRead s n port line ns hint o).pending := by
  unfold State.acceptRead
  repeat' first
    | with_reducible assumption | with_reducible refine State.count_held _ _ _ ?_ | with_reducible refine State.dramReply_held _ _ _ ?_
    | with_reducible refine State.newReq_held _ _ _ _ _ _ _ ?_ | with_reducible refine State.setDrc_held _ _ _ ?_
    | with_reducible refine fst_held (by assumption) ?_ | with_reducible refine map_held ?_ | with_reducible refine bind_held ?_ ?_
    | with_reducible refine some_held ?_ (by assumption) | with_reducible refine ite_held ?_ ?_
theorem held_execDramRequest (port : Nat) (addr : Nat) (op : DramOp) (hint : Bool) (owner : Owner) (staging : Bool) (tag : LineErrs) (evict : LineErrs) (ns : Nat) (s0 : State) (hw9 : Held pq s0.regs s0.pending) : Keeps pq (execDramRequest port addr op hint owner staging tag evict ns s0) := by
  unfold execDramRequest
  repeat' first
    | with_reducible assumption | with_reducible refine keeps_next ?_ | with_reducible refine State.acceptRead_held _ _ _ _ _ _ _ ?_
    | with_reducible refine State.acceptWrite_held _ _ _ _ _ _ _ _ _ ?_ | with_reducible refine State.accessLost_held _ _ _ ?_
    | with_reducible refine State.at_held _ _ ?_ | with_reducible refine State.colourFault_held _ _ _ _ _ _ _ _ _ ?_
    | with_reducible refine State.dramReply_held _ _ _ ?_ | with_reducible refine State.setDrc_held _ _ _ ?_
    | with_reducible refine State.settle_held _ ?_ | with_reducible refine State.tagFetch_held _ _ _ _ ?_
    | with_reducible refine fst_held (by assumption) ?_ | with_reducible refine ite_held ?_ ?_ | with_reducible refine ite_fst_held ?_ ?_
    | with_reducible refine ite_keeps ?_ ?_ | split
theorem State.scrubDone_held (s : State) (n : Nat) (line : Nat) (hw0 : Held pq s.regs s.pending) : Held pq (State.scrubDone s n line).regs (State.scrubDone s n line).pending := by
  unfold State.scrubDone
  repeat' first
    | with_reducible assumption | with_reducible refine State.setDrc_held _ _ _ ?_ | with_reducible refine State.setSat_held _ _ _ ?_
    | with_reducible refine fst_held (by assumption) ?_ | with_reducible refine ite_held ?_ ?_
theorem held_execDramLineRead (ch : Nat) (errs : LineErrs) (stuck : Bool) (holds : Owner) (us : Nat) (s0 : State) (hw5 : Held pq s0.regs s0.pending) : Keeps pq (execDramLineRead ch errs stuck holds us s0) := by
  unfold execDramLineRead
  repeat' first
    | with_reducible assumption | with_reducible refine keeps_next ?_ | with_reducible refine State.accessLost_held _ _ _ ?_
    | with_reducible refine State.at_held _ _ ?_ | with_reducible refine State.decodeLine_held _ _ _ _ _ ?_
    | with_reducible refine State.dramReply_held _ _ _ ?_ | with_reducible refine State.placeLost_held _ _ _ ?_
    | with_reducible refine State.scrubDone_held _ _ _ ?_ | with_reducible refine State.setDrc_held _ _ _ ?_
    | with_reducible refine State.settle_held _ ?_ | with_reducible refine State.useFree_held _ ?_
    | with_reducible refine fst_held (by assumption) ?_ | with_reducible refine ite_held ?_ ?_ | with_reducible refine ite_fst_held ?_ ?_
    | with_reducible refine ite_keeps ?_ ?_ | split
theorem State.sramLost_held (s : State) (array : Nat) (domain : Nat) (owner : Owner) (unit : Nat) (closed : Option Nat) (hw0 : Held pq s.regs s.pending) : Held pq (State.sramLost s array domain owner unit closed).regs (State.sramLost s array domain owner unit closed).pending := by
  unfold State.sramLost
  repeat' first
    | with_reducible assumption | with_reducible refine State.set_held _ _ _ ?_ | with_reducible refine State.accessLost_held _ _ _ ?_
    | with_reducible refine State.beginReset_held _ _ _ ?_ | with_reducible refine State.count_held _ _ _ ?_
    | with_reducible refine State.enterLimp_held _ _ _ ?_ | with_reducible refine State.meterDamaged_held _ _ _ _ _ ?_
    | with_reducible refine State.poisonLine_held _ _ _ ?_ | with_reducible refine State.rebuildSeg_held _ _ ?_
    | with_reducible refine State.restartT1_held _ _ ?_ | with_reducible refine State.runFault_held _ _ _ ?_
    | with_reducible refine State.settle_held _ ?_ | with_reducible refine fst_held (by assumption) ?_ | with_reducible refine ite_held ?_ ?_
    | with_reducible refine ite_fst_held ?_ ?_ | split | dsimp only
theorem held_execSramUncorrectable (array : Nat) (domain : Nat) (bits : List Nat) (owner : Owner) (unit : Nat) (closed : Option Nat) (s : State) (hw6 : Held pq s.regs s.pending) : Keeps pq (execSramUncorrectable array domain bits owner unit closed s) := by
  unfold execSramUncorrectable
  repeat' first
    | with_reducible assumption | with_reducible refine keeps_next ?_ | with_reducible refine State.count_held _ _ _ ?_
    | with_reducible refine State.sramLost_held _ _ _ _ _ _ ?_ | with_reducible refine fst_held (by assumption) ?_ | split
theorem held_execRowIdleClose (ch : Nat) (rank : Nat) (bank : Nat) (ns : Nat) (s0 : State) (hw4 : Held pq s0.regs s0.pending) : Keeps pq (execRowIdleClose ch rank bank ns s0) := by
  unfold execRowIdleClose
  repeat' first
    | with_reducible assumption | with_reducible refine keeps_next ?_ | with_reducible refine State.at_held _ _ ?_
    | with_reducible refine State.setDrc_held _ _ _ ?_ | with_reducible refine fst_held (by assumption) ?_ | with_reducible refine ite_held ?_ ?_
    | with_reducible refine ite_fst_held ?_ ?_ | with_reducible refine ite_keeps ?_ ?_
theorem held_execDrcTpatStart (ch : Nat) (rank : Nat) (dir : Nat) (pat : Nat) (got : List Nat) (s : State) (hw5 : Held pq s.regs s.pending) : Keeps pq (execDrcTpatStart ch rank dir pat got s) := by
  unfold execDrcTpatStart
  repeat' first
    | with_reducible assumption | with_reducible refine keeps_next ?_ | with_reducible refine State.patternRun_held _ _ _ _ _ _ ?_
theorem held_execActTableClear (s : State) (hw0 : Held pq s.regs s.pending) : Keeps pq (execActTableClear s) := by
  unfold execActTableClear
  repeat' first
    | with_reducible assumption | with_reducible refine keeps_next ?_
theorem held_execMigrationCopyLine (ch : Nat) (errs : LineErrs) (holds : Owner) (s : State) (hw3 : Held pq s.regs s.pending) : Keeps pq (execMigrationCopyLine ch errs holds s) := by
  unfold execMigrationCopyLine
  repeat' first
    | with_reducible assumption | with_reducible refine keeps_next ?_ | with_reducible refine State.set_held _ _ _ ?_
    | with_reducible refine State.decodeLine_held _ _ _ _ _ ?_ | with_reducible refine State.placeLost_held _ _ _ ?_
    | with_reducible refine State.setDrc_held _ _ _ ?_ | with_reducible refine State.settle_held _ ?_
    | with_reducible refine fst_held (by assumption) ?_ | with_reducible refine ite_held ?_ ?_ | with_reducible refine ite_fst_held ?_ ?_
    | with_reducible refine ite_keeps ?_ ?_ | split
theorem held_execDramRefresh (ch : Nat) (rank : Nat) (s : State) (hw2 : Held pq s.regs s.pending) : Keeps pq (execDramRefresh ch rank s) := by
  unfold execDramRefresh
  repeat' first
    | with_reducible assumption | with_reducible refine keeps_next ?_ | with_reducible refine State.setDrc_held _ _ _ ?_
    | with_reducible refine fst_held (by assumption) ?_ | with_reducible refine ite_held ?_ ?_ | with_reducible refine ite_fst_held ?_ ?_
    | with_reducible refine ite_keeps ?_ ?_
theorem held_execMigrationDone (ch : Nat) (s : State) (hw1 : Held pq s.regs s.pending) : Keeps pq (execMigrationDone ch s) := by
  unfold execMigrationDone
  repeat' first
    | with_reducible assumption | with_reducible refine keeps_next ?_ | with_reducible refine State.set_held _ _ _ ?_
    | with_reducible refine State.setWord_held _ _ _ ?_ | with_reducible refine State.moveLine_held _ _ _ _ ?_
    | with_reducible refine State.notify_held _ _ _ ?_ | with_reducible refine State.setDrc_held _ _ _ ?_
    | with_reducible refine State.setLog_held _ _ _ _ ?_ | with_reducible refine State.shrinkDue_held _ _ _ ?_
    | with_reducible refine foldl_held _ ?_ _ _ ?_ | with_reducible refine foldl_fst_held _ ?_ _ _ ?_
    | with_reducible refine fst_held (by assumption) ?_ | with_reducible refine ite_held ?_ ?_ | with_reducible refine ite_fst_held ?_ ?_
    | with_reducible refine ite_keeps ?_ ?_ | split | dsimp only | intro _ _ _ _ | intro _ _ _
theorem held_execHelpVerb (ln : Ln) (verb : String) (sub : Option String) (us : Nat) (s : State) (hw4 : Held pq s.regs s.pending) : Keeps pq (execHelpVerb ln verb sub us s) := by
  unfold execHelpVerb
  repeat' first
    | with_reducible assumption | with_reducible refine keeps_next ?_ | with_reducible refine State.cmd_held _ _ _ _ _ _ ?_ ?_
    | with_reducible refine fst_held (by assumption) ?_ | with_reducible refine ite_held ?_ ?_ | with_reducible refine ite_fst_held ?_ ?_
    | with_reducible refine ite_keeps ?_ ?_ | split | dsimp only | intro _ _ _ _ | intro _ _ _ | intro _ _
theorem held_execHelp (ln : Ln) (us : Nat) (s : State) (hw2 : Held pq s.regs s.pending) : Keeps pq (execHelp ln us s) := by
  unfold execHelp
  repeat' first
    | with_reducible assumption | with_reducible refine keeps_next ?_ | with_reducible refine State.cmd_held _ _ _ _ _ _ ?_ ?_
    | with_reducible refine fst_held (by assumption) ?_ | split | dsimp only | intro _ _ _ _ | intro _ _ _ | intro _ _
theorem held_execSeamAckReceive (port : Nat) (copies : List (Nat × Nat)) (s : State) (hw2 : Held pq s.regs s.pending) : Keeps pq (execSeamAckReceive port copies s) := by
  unfold execSeamAckReceive
  repeat' first
    | with_reducible assumption | with_reducible refine keeps_next ?_ | with_reducible refine State.hopAcked_held _ _ _ ?_
    | with_reducible refine fst_held (by assumption) ?_ | with_reducible refine ite_held ?_ ?_ | with_reducible refine ite_fst_held ?_ ?_
    | with_reducible refine ite_keeps ?_ ?_ | split
theorem State.elect_held (s : State) (hw0 : Held pq s.regs s.pending) : Held pq (State.elect s).regs (State.elect s).pending := by
  unfold State.elect
  repeat' first
    | with_reducible assumption | with_reducible refine State.mantleState_held _ _ ?_ | with_reducible refine State.noMantle_held _ ?_
theorem held_execStandbyBeatWaitExpiry (us : Nat) (s : State) (hw1 : Held pq s.regs s.pending) : Keeps pq (execStandbyBeatWaitExpiry us s) := by
  unfold execStandbyBeatWaitExpiry
  repeat' first
    | with_reducible assumption | with_reducible refine keeps_next ?_ | with_reducible refine State.at_held _ _ ?_
    | with_reducible refine State.elect_held _ ?_ | with_reducible refine fst_held (by assumption) ?_ | with_reducible refine ite_held ?_ ?_
    | with_reducible refine ite_fst_held ?_ ?_ | with_reducible refine ite_keeps ?_ ?_
theorem held_execIdentReceive (port : Nat) (payload : Bytes) (s : State) (hw2 : Held pq s.regs s.pending) : Keeps pq (execIdentReceive port payload s) := by
  unfold execIdentReceive
  repeat' first
    | with_reducible assumption | with_reducible refine keeps_next ?_ | with_reducible refine State.dropFrame_held _ ?_
    | with_reducible refine some_held (State.hearHop_held _ _ _ ?_) (by assumption) | with_reducible refine State.setHop_held _ _ _ ?_
    | with_reducible refine fst_held (by assumption) ?_ | with_reducible refine State.hearHop_held _ _ _ ?_
    | with_reducible refine ite_opt_held ?_ ?_ | with_reducible refine ite_held ?_ ?_ | with_reducible refine ite_fst_held ?_ ?_
    | with_reducible refine ite_keeps ?_ ?_ | split
theorem held_execHopRetry (port : Nat) (s : State) (hw1 : Held pq s.regs s.pending) : Keeps pq (execHopRetry port s) := by
  unfold execHopRetry
  repeat' first
    | with_reducible assumption | with_reducible refine keeps_next ?_ | with_reducible refine State.negotiateHop_held _ _ ?_
    | with_reducible refine fst_held (by assumption) ?_ | with_reducible refine ite_held ?_ ?_ | with_reducible refine ite_fst_held ?_ ?_
    | with_reducible refine ite_keeps ?_ ?_
theorem held_execRingInsert (us : Nat) (s : State) (hw1 : Held pq s.regs s.pending) : Keeps pq (execRingInsert us s) := by
  unfold execRingInsert
  repeat' first
    | with_reducible assumption | with_reducible refine keeps_next ?_ | with_reducible refine State.at_held _ _ ?_
    | with_reducible refine State.joinedNow_held _ _ ?_ | with_reducible refine State.openPorts_held _ ?_
    | with_reducible refine State.seamOut_held _ _ _ ?_ | with_reducible refine State.setMode_held _ _ _ _ ?_
    | with_reducible refine State.setPhase_held _ _ _ ?_ | with_reducible refine State.twinGo_held _ ?_
    | with_reducible refine foldl_held _ ?_ _ _ ?_ | with_reducible refine foldl_fst_held _ ?_ _ _ ?_
    | with_reducible refine fst_held (by assumption) ?_ | split | dsimp only | intro _ _ _ _ | intro _ _ _
theorem held_execHopJoinReceive (port : Nat) (payload : Bytes) (s : State) (hw2 : Held pq s.regs s.pending) : Keeps pq (execHopJoinReceive port payload s) := by
  unfold execHopJoinReceive
  repeat' first
    | with_reducible assumption | with_reducible refine keeps_next ?_ | with_reducible refine State.dropFrame_held _ ?_
    | with_reducible refine some_held (State.hearHop_held _ _ _ ?_) (by assumption) | with_reducible refine fst_held (by assumption) ?_
    | with_reducible refine State.hearHop_held _ _ _ ?_ | with_reducible refine ite_opt_held ?_ ?_ | with_reducible refine ite_held ?_ ?_
    | with_reducible refine ite_fst_held ?_ ?_ | with_reducible refine ite_keeps ?_ ?_ | split
theorem held_execSeamNoticeReceive (src : Nat) (text : String) (s : State) (hw2 : Held pq s.regs s.pending) : Keeps pq (execSeamNoticeReceive src text s) := by
  unfold execSeamNoticeReceive
  repeat' first
    | with_reducible assumption | with_reducible refine keeps_next ?_ | with_reducible refine State.notifyOn_held _ _ _ _ ?_
    | with_reducible refine fst_held (by assumption) ?_ | with_reducible refine ite_held ?_ ?_ | with_reducible refine ite_fst_held ?_ ?_
    | with_reducible refine ite_keeps ?_ ?_
theorem held_execSeamMonitorLockLoss (port : Nat) (s : State) (hw1 : Held pq s.regs s.pending) : Keeps pq (execSeamMonitorLockLoss port s) := by
  unfold execSeamMonitorLockLoss
  repeat' first
    | with_reducible assumption | with_reducible refine keeps_next ?_ | with_reducible refine State.setHop_held _ _ _ ?_
    | with_reducible refine fst_held (by assumption) ?_ | with_reducible refine ite_held ?_ ?_ | with_reducible refine ite_fst_held ?_ ?_
    | with_reducible refine ite_keeps ?_ ?_
theorem State.hearBeat_held (s : State) (src : Nat) (us : Nat) (b : Beat) (hw0 : Held pq s.regs s.pending) : Held pq (State.hearBeat s src us b).regs (State.hearBeat s src us b).pending := by
  unfold State.hearBeat
  repeat' first
    | with_reducible assumption | with_reducible refine State.mantleBeat_held _ _ _ _ ?_ | with_reducible refine State.noteBeat_held _ _ _ _ ?_
    | with_reducible refine State.partnerBeat_held _ _ ?_ | with_reducible refine fst_held (by assumption) ?_ | with_reducible refine ite_held ?_ ?_
theorem held_execIdentSend (port : Nat) (s : State) (hw1 : Held pq s.regs s.pending) : Keeps pq (execIdentSend port s) := by
  unfold execIdentSend
  repeat' first
    | with_reducible assumption | with_reducible refine keeps_next ?_ | with_reducible refine State.seamOut_held _ _ _ ?_
    | with_reducible refine State.startHopAttempt_held _ _ _ _ _ ?_ | with_reducible refine fst_held (by assumption) ?_
    | with_reducible refine ite_held ?_ ?_ | with_reducible refine ite_fst_held ?_ ?_ | with_reducible refine ite_keeps ?_ ?_ | split
theorem held_execHopDownLeave (port : Nat) (us : Nat) (s : State) (hw2 : Held pq s.regs s.pending) : Keeps pq (execHopDownLeave port us s) := by
  unfold execHopDownLeave
  repeat' first
    | with_reducible assumption | with_reducible refine keeps_next ?_ | with_reducible refine State.at_held _ _ ?_
    | with_reducible refine State.leaveRing_held _ _ ?_ | with_reducible refine State.notify_held _ _ _ ?_
    | with_reducible refine fst_held (by assumption) ?_ | with_reducible refine ite_held ?_ ?_ | with_reducible refine ite_fst_held ?_ ?_
    | with_reducible refine ite_keeps ?_ ?_
theorem held_execMantleStandbyTakeover (us : Nat) (s : State) (hw1 : Held pq s.regs s.pending) : Keeps pq (execMantleStandbyTakeover us s) := by
  unfold execMantleStandbyTakeover
  repeat' first
    | with_reducible assumption | with_reducible refine keeps_next ?_ | with_reducible refine State.at_held _ _ ?_
    | with_reducible refine State.becomeMantle_held _ ?_ | with_reducible refine State.sendBeat_held _ _ _ ?_
    | with_reducible refine fst_held (by assumption) ?_ | with_reducible refine ite_held ?_ ?_ | with_reducible refine ite_fst_held ?_ ?_
    | with_reducible refine ite_keeps ?_ ?_
theorem held_execHopError (port : Nat) (s : State) (hw1 : Held pq s.regs s.pending) : Keeps pq (execHopError port s) := by
  unfold execHopError
  repeat' first
    | with_reducible assumption | with_reducible refine keeps_next ?_ | with_reducible refine State.negotiateHop_held _ _ ?_
    | with_reducible refine fst_held (by assumption) ?_ | with_reducible refine ite_held ?_ ?_ | with_reducible refine ite_fst_held ?_ ?_
    | with_reducible refine ite_keeps ?_ ?_
theorem State.pairedSecondary_held (s : State) (g : Pairing) (hw0 : Held pq s.regs s.pending) : Held pq (State.pairedSecondary s g).regs (State.pairedSecondary s g).pending := by
  unfold State.pairedSecondary
  repeat' first
    | with_reducible assumption | with_reducible refine State.becomeSecondary_held _ ?_ | with_reducible refine State.notify_held _ _ _ ?_
    | with_reducible refine fst_held (by assumption) ?_ | with_reducible refine ite_held ?_ ?_
theorem State.pairRefused_held (s : State) (g : Pairing) (st : Status) (hw0 : Held pq s.regs s.pending) : Held pq (State.pairRefused s g st).regs (State.pairRefused s g st).pending := by
  unfold State.pairRefused
  repeat' first
    | with_reducible assumption | with_reducible refine State.finishFor_held _ _ _ ?_ | with_reducible refine State.notify_held _ _ _ ?_
    | with_reducible refine fst_held (by assumption) ?_ | with_reducible refine ite_held ?_ ?_
theorem State.offerJudged_held (s : State) (g : Pairing) (l : String) (hw0 : Held pq s.regs s.pending) : Held pq (State.offerJudged s g l).regs (State.offerJudged s g l).pending := by
  unfold State.offerJudged
  repeat' first
    | with_reducible assumption | with_reducible refine State.pairRefused_held _ _ _ ?_ | with_reducible refine State.pairedSecondary_held _ _ ?_
    | with_reducible refine fst_held (by assumption) ?_ | with_reducible refine ite_held ?_ ?_ | with_reducible refine ite_fst_held ?_ ?_ | split
theorem held_execSeamReplyReceive (src : Nat) (req : Nat) (last : Bool) (text : String) (us : Nat) (s : State) (hw5 : Held pq s.regs s.pending) : Keeps pq (execSeamReplyReceive src req last text us s) := by
  unfold execSeamReplyReceive
  repeat' first
    | with_reducible assumption | with_reducible refine keeps_next ?_ | with_reducible refine State.at_held _ _ ?_
    | with_reducible refine State.finishFor_held _ _ _ ?_ | with_reducible refine State.offerJudged_held _ _ _ ?_
    | with_reducible refine fst_held (by assumption) ?_ | with_reducible refine ite_held ?_ ?_ | with_reducible refine ite_fst_held ?_ ?_
    | with_reducible refine ite_keeps ?_ ?_ | split | dsimp only
theorem held_execSeamRepReceive (port : Nat) (copies : List (Nat × Nat)) (s : State) (hw2 : Held pq s.regs s.pending) : Keeps pq (execSeamRepReceive port copies s) := by
  unfold execSeamRepReceive
  repeat' first
    | with_reducible assumption | with_reducible refine keeps_next ?_ | with_reducible refine State.hopBack_held _ _ _ ?_
    | with_reducible refine fst_held (by assumption) ?_ | with_reducible refine ite_held ?_ ?_ | with_reducible refine ite_fst_held ?_ ?_
    | with_reducible refine ite_keeps ?_ ?_ | split
theorem State.ownBeatBack_held (s : State) (port : Nat) (us : Nat) (b : Beat) (hw0 : Held pq s.regs s.pending) : Held pq (State.ownBeatBack s port us b).regs (State.ownBeatBack s port us b).pending := by
  unfold State.ownBeatBack
  repeat' first
    | with_reducible assumption | with_reducible refine State.dropFrame_held _ ?_ | with_reducible refine State.portsIn_held _ ?_
    | with_reducible refine State.setRoster_held _ _ ?_ | with_reducible refine fst_held (by assumption) ?_ | with_reducible refine ite_held ?_ ?_
theorem held_execBeatReceive (port : Nat) (rx : RxInfo) (frame : RFrame) (us : Nat) (s : State) (hw4 : Held pq s.regs s.pending) : Keeps pq (execBeatReceive port rx frame us s) := by
  unfold execBeatReceive
  repeat' first
    | with_reducible assumption | with_reducible refine keeps_next ?_ | with_reducible refine State.at_held _ _ ?_
    | with_reducible refine State.dropFrame_held _ ?_ | with_reducible refine State.dupSlot_held _ ?_
    | with_reducible refine State.forward_held _ _ _ ?_ | with_reducible refine State.freshFrame_held _ _ ?_
    | with_reducible refine State.hearBeat_held _ _ _ _ ?_ | with_reducible refine State.ownBeatBack_held _ _ _ _ ?_
    | with_reducible refine State.portsIn_held _ ?_ | with_reducible refine State.ringJudge_held _ _ _ _ ?_
    | with_reducible refine fst_held (by assumption) ?_ | with_reducible refine ite_held ?_ ?_ | with_reducible refine ite_fst_held ?_ ?_
    | with_reducible refine ite_keeps ?_ ?_
theorem held_execHopAttemptEnd (port : Nat) (s : State) (hw1 : Held pq s.regs s.pending) : Keeps pq (execHopAttemptEnd port s) := by
  unfold execHopAttemptEnd
  repeat' first
    | with_reducible assumption | with_reducible refine keeps_next ?_ | with_reducible refine State.setPhase_held _ _ _ ?_
    | with_reducible refine State.startHopAttempt_held _ _ _ _ _ ?_ | with_reducible refine fst_held (by assumption) ?_
    | with_reducible refine ite_held ?_ ?_ | with_reducible refine ite_fst_held ?_ ?_ | with_reducible refine ite_keeps ?_ ?_ | split
theorem held_execJoinNoMantleTimeout (us : Nat) (s : State) (hw1 : Held pq s.regs s.pending) : Keeps pq (execJoinNoMantleTimeout us s) := by
  unfold execJoinNoMantleTimeout
  repeat' first
    | with_reducible assumption | with_reducible refine keeps_next ?_ | with_reducible refine State.at_held _ _ ?_
    | with_reducible refine State.elect_held _ ?_ | with_reducible refine fst_held (by assumption) ?_ | with_reducible refine ite_held ?_ ?_
    | with_reducible refine ite_fst_held ?_ ?_ | with_reducible refine ite_keeps ?_ ?_
theorem held_execBeatSend (us : Nat) (s : State) (hw1 : Held pq s.regs s.pending) : Keeps pq (execBeatSend us s) := by
  unfold execBeatSend
  repeat' first
    | with_reducible assumption | with_reducible refine keeps_next ?_ | with_reducible refine State.at_held _ _ ?_
    | with_reducible refine State.sendBeat_held _ _ _ ?_ | with_reducible refine fst_held (by assumption) ?_ | with_reducible refine ite_held ?_ ?_
    | with_reducible refine ite_fst_held ?_ ?_ | with_reducible refine ite_keeps ?_ ?_
theorem held_execMantleElectionTimer (us : Nat) (s : State) (hw1 : Held pq s.regs s.pending) : Keeps pq (execMantleElectionTimer us s) := by
  unfold execMantleElectionTimer
  repeat' first
    | with_reducible assumption | with_reducible refine keeps_next ?_ | with_reducible refine State.at_held _ _ ?_
    | with_reducible refine State.becomeMantle_held _ ?_ | with_reducible refine fst_held (by assumption) ?_ | with_reducible refine ite_held ?_ ?_
    | with_reducible refine ite_fst_held ?_ ?_ | with_reducible refine ite_keeps ?_ ?_
theorem held_execSeamMonitorLock (port : Nat) (rate : Nat) (two : Bool) (s : State) (hw3 : Held pq s.regs s.pending) : Keeps pq (execSeamMonitorLock port rate two s) := by
  unfold execSeamMonitorLock
  repeat' first
    | with_reducible assumption | with_reducible refine keeps_next ?_ | with_reducible refine State.setHop_held _ _ _ ?_
    | with_reducible refine fst_held (by assumption) ?_ | with_reducible refine ite_held ?_ ?_ | with_reducible refine ite_fst_held ?_ ?_
    | with_reducible refine ite_keeps ?_ ?_
theorem held_execBeatSilence (slot : Nat) (us : Nat) (s : State) (hw2 : Held pq s.regs s.pending) : Keeps pq (execBeatSilence slot us s) := by
  unfold execBeatSilence
  repeat' first
    | with_reducible assumption | with_reducible refine keeps_next ?_ | with_reducible refine State.at_held _ _ ?_
    | with_reducible refine State.count_held _ _ _ ?_ | with_reducible refine State.elect_held _ ?_
    | with_reducible refine State.partnerSilent_held _ ?_ | with_reducible refine fst_held (by assumption) ?_ | with_reducible refine ite_held ?_ ?_
    | with_reducible refine ite_fst_held ?_ ?_ | with_reducible refine ite_keeps ?_ ?_ | split | dsimp only
theorem held_execSeamGoBackTimeout (port : Nat) (s : State) (hw1 : Held pq s.regs s.pending) : Keeps pq (execSeamGoBackTimeout port s) := by
  unfold execSeamGoBackTimeout
  repeat' first
    | with_reducible assumption | with_reducible refine keeps_next ?_ | with_reducible refine State.hopBack_held _ _ _ ?_
    | with_reducible refine fst_held (by assumption) ?_ | with_reducible refine ite_held ?_ ?_ | with_reducible refine ite_fst_held ?_ ?_
    | with_reducible refine ite_keeps ?_ ?_ | split
theorem held_execHopReportReceive (port : Nat) (payload : Bytes) (lanes : List LaneTrain) (s : State) (hw3 : Held pq s.regs s.pending) : Keeps pq (execHopReportReceive port payload lanes s) := by
  unfold execHopReportReceive
  repeat' first
    | with_reducible assumption | with_reducible refine keeps_next ?_ | with_reducible refine State.dropFrame_held _ ?_
    | with_reducible refine some_held (State.hearHop_held _ _ _ ?_) (by assumption) | with_reducible refine State.hopUp_held _ _ ?_
    | with_reducible refine State.seamOut_held _ _ _ ?_ | with_reducible refine fst_held (by assumption) ?_
    | with_reducible refine State.hearHop_held _ _ _ ?_ | with_reducible refine ite_opt_held ?_ ?_ | with_reducible refine ite_held ?_ ?_
    | with_reducible refine ite_fst_held ?_ ?_ | with_reducible refine ite_keeps ?_ ?_ | split
theorem held_execRingFrameReceive (port : Nat) (rx : RxInfo) (frame : RFrame) (us : Nat) (s : State) (hw4 : Held pq s.regs s.pending) : Keeps pq (execRingFrameReceive port rx frame us s) := by
  unfold execRingFrameReceive
  repeat' first
    | with_reducible assumption | with_reducible refine keeps_next ?_ | with_reducible refine State.at_held _ _ ?_
    | with_reducible refine State.ringJudge_held _ _ _ _ ?_ | with_reducible refine State.routeFrame_held _ _ _ ?_
    | with_reducible refine State.wakeEvent_held _ _ _ _ ?_ | with_reducible refine fst_held (by assumption) ?_
    | with_reducible refine ite_held ?_ ?_ | with_reducible refine ite_fst_held ?_ ?_ | with_reducible refine ite_keeps ?_ ?_
theorem held_execLocalMinuteClose (us : Nat) (s : State) (hw1 : Held pq s.regs s.pending) : Keeps pq (execLocalMinuteClose us s) := by
  unfold execLocalMinuteClose
  repeat' first
    | with_reducible assumption | with_reducible refine keeps_next ?_ | with_reducible refine State.at_held _ _ ?_
    | with_reducible refine State.closeAll_held _ _ _ ?_ | with_reducible refine fst_held (by assumption) ?_ | with_reducible refine ite_held ?_ ?_
    | with_reducible refine ite_fst_held ?_ ?_ | with_reducible refine ite_keeps ?_ ?_
theorem held_execRingFormTimeout (us : Nat) (s : State) (hw1 : Held pq s.regs s.pending) : Keeps pq (execRingFormTimeout us s) := by
  unfold execRingFormTimeout
  repeat' first
    | with_reducible assumption | with_reducible refine keeps_next ?_ | with_reducible refine State.at_held _ _ ?_
    | with_reducible refine State.joinedNow_held _ _ ?_ | with_reducible refine State.negotiateHop_held _ _ ?_
    | with_reducible refine State.openPorts_held _ ?_ | with_reducible refine fst_held (by assumption) ?_ | with_reducible refine ite_held ?_ ?_
    | with_reducible refine ite_fst_held ?_ ?_ | with_reducible refine ite_keeps ?_ ?_
theorem held_execTwinCopy (tseq : Nat) (src : Nat) (pocket : Nat) (count : Nat) (dst : Nat) (integ : Bool) (dkey : Nat) (ikey : Nat) (s : State) (hw8 : Held pq s.regs s.pending) : Keeps pq (execTwinCopy tseq src pocket count dst integ dkey ikey s) := by
  unfold execTwinCopy
  repeat' first
    | with_reducible assumption | with_reducible refine keeps_next ?_ | with_reducible refine State.applyCopy_held _ _ _ _ _ _ _ _ _ ?_
theorem held_execTakeoverAuto (us : Nat) (s : State) (hw1 : Held pq s.regs s.pending) : Keeps pq (execTakeoverAuto us s) := by
  unfold execTakeoverAuto
  repeat' first
    | with_reducible assumption | with_reducible refine keeps_next ?_ | with_reducible refine State.at_held _ _ ?_
    | with_reducible refine State.takeover_held _ ?_ | with_reducible refine fst_held (by assumption) ?_ | with_reducible refine ite_held ?_ ?_
    | with_reducible refine ite_fst_held ?_ ?_ | with_reducible refine ite_keeps ?_ ?_
theorem held_execHoldExpiry (us : Nat) (s : State) (hw1 : Held pq s.regs s.pending) : Keeps pq (execHoldExpiry us s) := by
  unfold execHoldExpiry
  repeat' first
    | with_reducible assumption | with_reducible refine keeps_next ?_ | with_reducible refine State.at_held _ _ ?_
    | with_reducible refine fst_held (by assumption) ?_ | with_reducible refine ite_held ?_ ?_ | with_reducible refine ite_fst_held ?_ ?_
    | with_reducible refine ite_keeps ?_ ?_
theorem held_execTwinNak (tseq : Nat) (s : State) (hw1 : Held pq s.regs s.pending) : Keeps pq (execTwinNak tseq s) := by
  unfold execTwinNak
  repeat' first
    | with_reducible assumption | with_reducible refine keeps_next ?_ | with_reducible refine State.toLost_held _ ?_
    | with_reducible refine State.twinBack_held _ ?_ | with_reducible refine fst_held (by assumption) ?_ | with_reducible refine ite_held ?_ ?_
    | with_reducible refine ite_fst_held ?_ ?_ | with_reducible refine ite_keeps ?_ ?_
theorem held_execDarnRegion (reads : List (Nat × List (List Nat))) (unc : List Nat) (s : State) (hw2 : Held pq s.regs s.pending) : Keeps pq (execDarnRegion reads unc s) := by
  unfold execDarnRegion
  repeat' first
    | with_reducible assumption | with_reducible refine keeps_next ?_ | with_reducible refine State.darnEnds_held _ ?_
    | with_reducible refine State.darnRegion_held _ _ _ _ _ ?_ | with_reducible refine State.needSeg_held _ _ ?_
    | with_reducible refine State.settle_held _ ?_ | with_reducible refine foldl_held _ ?_ _ _ ?_ | with_reducible refine foldl_fst_held _ ?_ _ _ ?_
    | with_reducible refine fst_held (by assumption) ?_ | with_reducible refine ite_held ?_ ?_ | with_reducible refine ite_fst_held ?_ ?_
    | with_reducible refine ite_keeps ?_ ?_ | split | dsimp only | intro _ _ _ _ | intro _ _ _
theorem held_execTwinRegionEnd (tseq : Nat) (fuelN : Nat) (pocket : Nat) (s : State) (hw3 : Held pq s.regs s.pending) : Keeps pq (execTwinRegionEnd tseq fuelN pocket s) := by
  unfold execTwinRegionEnd
  repeat' first
    | with_reducible assumption | with_reducible refine keeps_next ?_ | with_reducible refine State.itemApplied_held _ ?_
    | with_reducible refine State.itemHeard_held _ _ ?_ | with_reducible refine fst_held (by assumption) ?_ | with_reducible refine ite_held ?_ ?_
    | with_reducible refine ite_fst_held ?_ ?_ | with_reducible refine ite_keeps ?_ ?_
theorem held_execTwinTrim (tseq : Nat) (lba : Nat) (pocket : Nat) (count : Nat) (s : State) (hw4 : Held pq s.regs s.pending) : Keeps pq (execTwinTrim tseq lba pocket count s) := by
  unfold execTwinTrim
  repeat' first
    | with_reducible assumption | with_reducible refine keeps_next ?_ | with_reducible refine State.applyUnmap_held _ _ _ _ _ ?_
theorem held_execTwinAck (upTo : Nat) (us : Nat) (s : State) (hw2 : Held pq s.regs s.pending) : Keeps pq (execTwinAck upTo us s) := by
  unfold execTwinAck
  repeat' first
    | with_reducible assumption | with_reducible refine keeps_next ?_ | with_reducible refine State.at_held _ _ ?_
    | with_reducible refine State.twinAcked_held _ _ ?_ | with_reducible refine State.twinGo_held _ ?_
    | with_reducible refine fst_held (by assumption) ?_ | with_reducible refine ite_held ?_ ?_ | with_reducible refine ite_fst_held ?_ ?_
    | with_reducible refine ite_keeps ?_ ?_
theorem held_execTwinLostTimeout (us : Nat) (s : State) (hw1 : Held pq s.regs s.pending) : Keeps pq (execTwinLostTimeout us s) := by
  unfold execTwinLostTimeout
  repeat' first
    | with_reducible assumption | with_reducible refine keeps_next ?_ | with_reducible refine State.at_held _ _ ?_
    | with_reducible refine State.toLost_held _ ?_ | with_reducible refine fst_held (by assumption) ?_ | with_reducible refine ite_held ?_ ?_
    | with_reducible refine ite_fst_held ?_ ?_ | with_reducible refine ite_keeps ?_ ?_
theorem held_execTwinHold (tseq : Nat) (ms : Nat) (us : Nat) (s : State) (hw3 : Held pq s.regs s.pending) : Keeps pq (execTwinHold tseq ms us s) := by
  unfold execTwinHold
  repeat' first
    | with_reducible assumption | with_reducible refine keeps_next ?_ | with_reducible refine State.at_held _ _ ?_
    | with_reducible refine State.itemApplied_held _ ?_ | with_reducible refine State.itemHeard_held _ _ ?_
    | with_reducible refine fst_held (by assumption) ?_ | with_reducible refine ite_held ?_ ?_ | with_reducible refine ite_fst_held ?_ ?_
    | with_reducible refine ite_keeps ?_ ?_
theorem held_execTwinConfirmTimeout (s : State) (hw0 : Held pq s.regs s.pending) : Keeps pq (execTwinConfirmTimeout s) := by
  unfold execTwinConfirmTimeout
  repeat' first
    | with_reducible assumption | with_reducible refine keeps_next ?_ | with_reducible refine State.twinBack_held _ ?_
    | with_reducible refine fst_held (by assumption) ?_ | with_reducible refine ite_held ?_ ?_ | with_reducible refine ite_fst_held ?_ ?_
    | with_reducible refine ite_keeps ?_ ?_
theorem held_execTwinData (tseq : Nat) (lba : Nat) (pocket : Nat) (half : Nat) (integ : Bool) (poison : Bool) (ikey : Nat) (count : Nat) (tag : Bytes) (bytes : Bytes) (s : State) (hw10 : Held pq s.regs s.pending) : Keeps pq (execTwinData tseq lba pocket half integ poison ikey count tag bytes s) := by
  unfold execTwinData
  repeat' first
    | with_reducible assumption | with_reducible refine keeps_next ?_ | with_reducible refine State.applyData_held _ _ _ _ _ _ _ _ _ _ _ ?_
theorem held_execTwinDarn (tseq : Nat) (lba : Nat) (pocket : Nat) (half : Nat) (integ : Bool) (poison : Bool) (ikey : Nat) (count : Nat) (tag : Bytes) (bytes : Bytes) (s : State) (hw10 : Held pq s.regs s.pending) : Keeps pq (execTwinDarn tseq lba pocket half integ poison ikey count tag bytes s) := by
  unfold execTwinDarn
  repeat' first
    | with_reducible assumption | with_reducible refine keeps_next ?_ | with_reducible refine State.applyData_held _ _ _ _ _ _ _ _ _ _ _ ?_
theorem held_execTwinUnmap (tseq : Nat) (lba : Nat) (pocket : Nat) (count : Nat) (s : State) (hw4 : Held pq s.regs s.pending) : Keeps pq (execTwinUnmap tseq lba pocket count s) := by
  unfold execTwinUnmap
  repeat' first
    | with_reducible assumption | with_reducible refine keeps_next ?_ | with_reducible refine State.applyUnmap_held _ _ _ _ _ ?_
theorem State.shelve_held (s : State) (b : Bytes) (hw0 : Held pq s.regs s.pending) : Held pq (State.shelve s b).regs (State.shelve s b).pending := by
  unfold State.shelve
  exact hw0
theorem State.mapBuckets_held (s : State) (f : Bucket → Bucket) (hw0 : Held pq s.regs s.pending) : Held pq (State.mapBuckets s f).regs (State.mapBuckets s f).pending := by
  unfold State.mapBuckets
  exact hw0
theorem State.broadcast_held (s : State) (us : Nat) (sel : Bucket → Bool) (hw0 : Held pq s.regs s.pending) : Held pq (State.broadcast s us sel).regs (State.broadcast s us sel).pending := by
  unfold State.broadcast
  repeat' first
    | with_reducible assumption | with_reducible refine State.mapBuckets_held _ _ ?_ | with_reducible refine State.ringSend_held _ _ _ _ _ _ ?_
    | with_reducible refine State.shelve_held _ _ ?_ | with_reducible refine foldl_held _ ?_ _ _ ?_
    | with_reducible refine foldl_fst_held _ ?_ _ _ ?_ | with_reducible refine fst_held (by assumption) ?_ | with_reducible refine ite_held ?_ ?_
    | with_reducible refine ite_fst_held ?_ ?_ | split | dsimp only | intro _ _ _ _ | intro _ _ _
theorem held_execBucketBroadcast (us : Nat) (s : State) (hw1 : Held pq s.regs s.pending) : Keeps pq (execBucketBroadcast us s) := by
  unfold execBucketBroadcast
  repeat' first
    | with_reducible assumption | with_reducible refine keeps_next ?_ | with_reducible refine State.at_held _ _ ?_
    | with_reducible refine State.broadcast_held _ _ _ ?_ | with_reducible refine fst_held (by assumption) ?_ | with_reducible refine ite_held ?_ ?_
    | with_reducible refine ite_fst_held ?_ ?_ | with_reducible refine ite_keeps ?_ ?_
theorem State.countSample_held (s : State) (hw0 : Held pq s.regs s.pending) : Held pq (State.countSample s).regs (State.countSample s).pending := by
  unfold State.countSample
  repeat' first
    | with_reducible assumption | with_reducible refine State.count_held _ _ _ ?_ | with_reducible refine foldl_held _ ?_ _ _ ?_
    | with_reducible refine foldl_fst_held _ ?_ _ _ ?_ | with_reducible refine fst_held (by assumption) ?_ | split | dsimp only | intro _ _ _ _
    | intro _ _ _
theorem State.bselWrite_held (s : State) (core : Nat) (index : Nat) (pocket : Nat) (hw0 : Held pq s.regs s.pending) : Held pq (State.bselWrite s core index pocket).regs (State.bselWrite s core index pocket).pending := by
  unfold State.bselWrite
  repeat' first
    | with_reducible assumption | with_reducible refine State.setOn_held _ _ _ _ ?_ | with_reducible refine foldl_held _ ?_ _ _ ?_
    | with_reducible refine foldl_fst_held _ ?_ _ _ ?_ | with_reducible refine fst_held (by assumption) ?_ | split | dsimp only | intro _ _ _ _
    | intro _ _ _
theorem held_execHtgBselWrite (core : Nat) (index : Nat) (pocket : Nat) (s : State) (hw3 : Held pq s.regs s.pending) : Keeps pq (execHtgBselWrite core index pocket s) := by
  unfold execHtgBselWrite
  repeat' first
    | with_reducible assumption | with_reducible refine keeps_next ?_ | with_reducible refine State.bselWrite_held _ _ _ _ ?_
    | with_reducible refine fst_held (by assumption) ?_ | with_reducible refine ite_held ?_ ?_ | with_reducible refine ite_fst_held ?_ ?_
    | with_reducible refine ite_keeps ?_ ?_
theorem State.collect_held (s : State) (p : Nat) (gen : Nat) (minute : Nat) (hw0 : Held pq s.regs s.pending) : Held pq (State.collect s p gen minute).regs (State.collect s p gen minute).pending := by
  unfold State.collect
  repeat' first
    | with_reducible assumption | with_reducible refine State.mapBuckets_held _ _ ?_
theorem State.minuteRuns_held (s : State) (hw0 : Held pq s.regs s.pending) : Held pq (State.minuteRuns s).regs (State.minuteRuns s).pending := by
  unfold State.minuteRuns
  repeat' first
    | with_reducible assumption | with_reducible refine State.set_held _ _ _ ?_ | with_reducible refine fst_held (by assumption) ?_
    | with_reducible refine ite_held ?_ ?_
theorem State.shareEnergy_held (s : State) (busy : List (Nat × Nat)) (e : Nat) (hw0 : Held pq s.regs s.pending) : Held pq (State.shareEnergy s busy e).regs (State.shareEnergy s busy e).pending := by
  unfold State.shareEnergy
  repeat' first
    | with_reducible assumption | with_reducible refine State.meter_held _ _ _ _ ?_ | with_reducible refine foldl_held _ ?_ _ _ ?_
    | with_reducible refine foldl_fst_held _ ?_ _ _ ?_ | with_reducible refine fst_held (by assumption) ?_ | with_reducible refine ite_held ?_ ?_
    | with_reducible refine ite_fst_held ?_ ?_ | split | dsimp only | intro _ _ _ _ | intro _ _ _
theorem held_execHtgSample (codeV : Nat) (codeI : Nat) (busy : List (Nat × Nat)) (us : Nat) (s : State) (hw4 : Held pq s.regs s.pending) : Keeps pq (execHtgSample codeV codeI busy us s) := by
  unfold execHtgSample
  repeat' first
    | with_reducible assumption | with_reducible refine keeps_next ?_ | with_reducible refine State.set_held _ _ _ ?_
    | with_reducible refine State.at_held _ _ ?_ | with_reducible refine State.countSample_held _ ?_
    | with_reducible refine State.meter_held _ _ _ _ ?_ | with_reducible refine State.minuteRuns_held _ ?_
    | with_reducible refine State.shareEnergy_held _ _ _ ?_ | with_reducible refine foldl_held _ ?_ _ _ ?_
    | with_reducible refine foldl_fst_held _ ?_ _ _ ?_ | with_reducible refine fst_held (by assumption) ?_ | with_reducible refine ite_held ?_ ?_
    | with_reducible refine ite_fst_held ?_ ?_ | with_reducible refine ite_keeps ?_ ?_ | split | dsimp only | intro _ _ _ _ | intro _ _ _

end Sys2Proof.Machine
end

