-- ==== Sys2Proof/Laws/Held6.lean ====
section
/-!
SUPPORT. Sys2Proof/Laws/Held6.lean: the canonical form of the register file and the waiting commands, continued from
Held5.lean.
-/
namespace Sys2Proof.Machine
open Sys2Proof

variable {pq : List Instr}
theorem State.pselWrite_held (s : State) (core : Nat) (meter : Nat) (pocket : Nat) (hw0 : Held pq s.regs s.pending) : Held pq (State.pselWrite s core meter pocket).regs (State.pselWrite s core meter pocket).pending := by
  unfold State.pselWrite
  repeat' first
    | with_reducible assumption | with_reducible refine State.setOn_held _ _ _ _ ?_
theorem held_execHtgPselWrite (core : Nat) (meter : Nat) (pocket : Nat) (s : State) (hw3 : Held pq s.regs s.pending) : Keeps pq (execHtgPselWrite core meter pocket s) := by
  unfold execHtgPselWrite
  repeat' first
    | with_reducible assumption | with_reducible refine keeps_next ?_ | with_reducible refine State.pselWrite_held _ _ _ _ ?_
    | with_reducible refine fst_held (by assumption) ?_ | with_reducible refine ite_held ?_ ?_ | with_reducible refine ite_fst_held ?_ ?_
    | with_reducible refine ite_keeps ?_ ?_
theorem held_execBucketRepeat (us : Nat) (s : State) (hw1 : Held pq s.regs s.pending) : Keeps pq (execBucketRepeat us s) := by
  unfold execBucketRepeat
  repeat' first
    | with_reducible assumption | with_reducible refine keeps_next ?_ | with_reducible refine State.at_held _ _ ?_
    | with_reducible refine State.broadcast_held _ _ _ ?_ | with_reducible refine fst_held (by assumption) ?_ | with_reducible refine ite_held ?_ ?_
    | with_reducible refine ite_fst_held ?_ ?_ | with_reducible refine ite_keeps ?_ ?_
theorem held_execHtgBucketAckReceive (pocket : Nat) (gen : Nat) (minute : Nat) (s : State) (hw3 : Held pq s.regs s.pending) : Keeps pq (execHtgBucketAckReceive pocket gen minute s) := by
  unfold execHtgBucketAckReceive
  repeat' first
    | with_reducible assumption | with_reducible refine keeps_next ?_ | with_reducible refine State.collect_held _ _ _ _ ?_
theorem held_execHtgBucketReceive (src : Nat) (bucket : Bytes) (s : State) (hw2 : Held pq s.regs s.pending) : Keeps pq (execHtgBucketReceive src bucket s) := by
  unfold execHtgBucketReceive
  repeat' first
    | with_reducible assumption | with_reducible refine keeps_next ?_ | with_reducible refine State.ringSend_held _ _ _ _ _ _ ?_
    | with_reducible refine State.shelve_held _ _ ?_ | with_reducible refine fst_held (by assumption) ?_ | with_reducible refine ite_held ?_ ?_
    | with_reducible refine ite_fst_held ?_ ?_ | with_reducible refine ite_keeps ?_ ?_
theorem held_execJtagInstruction (instr : JtagInstr) (s : State) (hw1 : Held pq s.regs s.pending) : Keeps pq (execJtagInstruction instr s) := by
  unfold execJtagInstruction
  repeat' first
    | with_reducible assumption | with_reducible refine keeps_next ?_ | with_reducible refine State.tapGate_held _ ?_
theorem State.lcsCtl_held (s : State) (key : Nat) (target : Nat) (t0 : Bool) (hw0 : Held pq s.regs s.pending) : Held pq (State.lcsCtl s key target t0).regs (State.lcsCtl s key target t0).pending := by
  unfold State.lcsCtl
  repeat' first
    | with_reducible assumption | with_reducible refine State.set_held _ _ _ ?_ | with_reducible refine State.beginLife_held _ _ _ ?_
    | with_reducible refine fst_held (by assumption) ?_ | with_reducible refine ite_held ?_ ?_ | with_reducible refine ite_fst_held ?_ ?_ | split
theorem held_execLcsCtlStart (key : Nat) (target : Nat) (t0 : Bool) (s : State) (hw3 : Held pq s.regs s.pending) : Keeps pq (execLcsCtlStart key target t0 s) := by
  unfold execLcsCtlStart
  repeat' first
    | with_reducible assumption | with_reducible refine keeps_next ?_ | with_reducible refine State.lcsCtl_held _ _ _ _ ?_
theorem held_execBistRunTimeout (detail : Nat) (us : Nat) (s0 : State) (hw2 : Held pq s0.regs s0.pending) : Keeps pq (execBistRunTimeout detail us s0) := by
  unfold execBistRunTimeout
  repeat' first
    | with_reducible assumption | with_reducible refine keeps_next ?_ | with_reducible refine State.at_held _ _ ?_
    | with_reducible refine State.endRun_held _ _ _ _ _ ?_ | with_reducible refine fst_held (by assumption) ?_
    | with_reducible refine ite_held ?_ ?_ | with_reducible refine ite_fst_held ?_ ?_ | with_reducible refine ite_keeps ?_ ?_ | split | dsimp only
theorem held_execLifecycleProgramDone (failed : Option (Nat × Nat)) (s : State) (hw1 : Held pq s.regs s.pending) : Keeps pq (execLifecycleProgramDone failed s) := by
  unfold execLifecycleProgramDone
  repeat' first
    | with_reducible assumption | with_reducible refine keeps_next ?_ | with_reducible refine State.set_held _ _ _ ?_
    | with_reducible refine State.beginReset_held _ _ _ ?_ | with_reducible refine State.finishFor_held _ _ _ ?_
    | with_reducible refine State.formLife_held _ ?_ | with_reducible refine State.notify_held _ _ _ ?_
    | with_reducible refine fst_held (by assumption) ?_ | with_reducible refine ite_held ?_ ?_ | with_reducible refine ite_fst_held ?_ ?_
    | with_reducible refine ite_keeps ?_ ?_ | split
theorem State.bistCtl_held (s : State) (sw : Nat) (d : Nat) (t0 : Bool) (hw0 : Held pq s.regs s.pending) : Held pq (State.bistCtl s sw d t0).regs (State.bistCtl s sw d t0).pending := by
  unfold State.bistCtl
  repeat' first
    | with_reducible assumption | with_reducible refine State.set_held _ _ _ ?_ | with_reducible refine State.beginRun_held _ _ _ _ _ ?_
    | with_reducible refine State.runRefused_held _ _ ?_ | with_reducible refine fst_held (by assumption) ?_ | with_reducible refine ite_held ?_ ?_
    | with_reducible refine ite_fst_held ?_ ?_ | split
theorem held_execBistRunDone (pass : Bool) (detail : Nat) (us : Nat) (s0 : State) (hw3 : Held pq s0.regs s0.pending) : Keeps pq (execBistRunDone pass detail us s0) := by
  unfold execBistRunDone
  repeat' first
    | with_reducible assumption | with_reducible refine keeps_next ?_ | with_reducible refine State.at_held _ _ ?_
    | with_reducible refine State.endRun_held _ _ _ _ _ ?_ | with_reducible refine fst_held (by assumption) ?_
    | with_reducible refine ite_held ?_ ?_ | with_reducible refine ite_fst_held ?_ ?_ | with_reducible refine ite_keeps ?_ ?_ | split | dsimp only
theorem held_execBistCtlStart (sw : Nat) (d : Nat) (t0 : Bool) (us : Nat) (s : State) (hw4 : Held pq s.regs s.pending) : Keeps pq (execBistCtlStart sw d t0 us s) := by
  unfold execBistCtlStart
  repeat' first
    | with_reducible assumption | with_reducible refine keeps_next ?_ | with_reducible refine State.at_held _ _ ?_
    | with_reducible refine State.bistCtl_held _ _ _ _ ?_
theorem held_execJtagMakeTransition (failed : Option (Nat × Nat)) (s : State) (hw1 : Held pq s.regs s.pending) : Keeps pq (execJtagMakeTransition failed s) := by
  unfold execJtagMakeTransition
  repeat' first
    | with_reducible assumption | with_reducible refine keeps_next ?_ | with_reducible refine State.beginReset_held _ _ _ ?_
    | with_reducible refine State.formLife_held _ ?_ | with_reducible refine fst_held (by assumption) ?_ | with_reducible refine ite_held ?_ ?_
    | with_reducible refine ite_fst_held ?_ ?_ | with_reducible refine ite_keeps ?_ ?_ | split
theorem State.cipherRaw_held (s : State) (decr : Bool) (slot : Nat) (hex : Bytes) (hw0 : Held pq s.regs s.pending) : Held pq (State.cipherRaw s decr slot hex).1.regs (State.cipherRaw s decr slot hex).1.pending := by
  unfold State.cipherRaw
  repeat' first
    | with_reducible assumption | with_reducible refine fst_held (by assumption) ?_ | with_reducible refine ite_held ?_ ?_
    | with_reducible refine ite_fst_held ?_ ?_ | split
theorem held_execCipherGmac (ln : Ln) (slot : Nat) (hex : Option Bytes) (us : Nat) (s : State) (hw4 : Held pq s.regs s.pending) : Keeps pq (execCipherGmac ln slot hex us s) := by
  unfold execCipherGmac
  repeat' first
    | with_reducible assumption | with_reducible refine keeps_next ?_ | with_reducible refine State.cipherGmac_held _ _ _ ?_
    | with_reducible refine State.cmd_held _ _ _ _ _ _ ?_ ?_ | with_reducible refine fst_held (by assumption) ?_ | split | dsimp only
    | intro _ _ _ _ | intro _ _ _ | intro _ _
theorem State.confCmd_held (s : State) (c : Say) (ln : Ln) (us : Nat) (f : Form) (body : State → State × Result) (hw0 : Held pq s.regs s.pending) (hf5 : ∀ x0, Held pq x0.regs x0.pending → Held pq (body x0).1.regs (body x0).1.pending) : Keeps pq (State.confCmd s c ln us f body) := by
  unfold State.confCmd
  repeat' first
    | with_reducible assumption | with_reducible refine keeps_next ?_ | with_reducible refine State.cmd_held _ _ _ _ _ _ ?_ ?_
    | with_reducible refine hf5 _ ?_ | with_reducible refine fst_held (by assumption) ?_ | with_reducible refine ite_held ?_ ?_
    | with_reducible refine ite_fst_held ?_ ?_ | with_reducible refine ite_keeps ?_ ?_ | split | dsimp only | intro _ _ _ _ | intro _ _ _
    | intro _ _
theorem held_execPocketSuspend (ln : Ln) (pocket : Nat) (us : Nat) (s : State) (hw3 : Held pq s.regs s.pending) : Keeps pq (execPocketSuspend ln pocket us s) := by
  unfold execPocketSuspend
  repeat' first
    | with_reducible assumption | with_reducible refine keeps_next ?_ | with_reducible refine State.confCmd_held _ _ _ _ _ _ ?_ ?_
    | with_reducible refine State.turnPocket_held _ _ _ _ _ ?_ | with_reducible refine fst_held (by assumption) ?_ | split | dsimp only
    | intro _ _ _ _ | intro _ _ _ | intro _ _
theorem held_execPocketResume (ln : Ln) (pocket : Nat) (us : Nat) (s : State) (hw3 : Held pq s.regs s.pending) : Keeps pq (execPocketResume ln pocket us s) := by
  unfold execPocketResume
  repeat' first
    | with_reducible assumption | with_reducible refine keeps_next ?_ | with_reducible refine State.confCmd_held _ _ _ _ _ _ ?_ ?_
    | with_reducible refine State.turnPocket_held _ _ _ _ _ ?_ | with_reducible refine fst_held (by assumption) ?_ | split | dsimp only
    | intro _ _ _ _ | intro _ _ _ | intro _ _
theorem State.keyCmd_held (s : State) (c : Say) (ln : Ln) (us : Nat) (f : Form) (slots : List Nat) (body : State → State × Result) (hw0 : Held pq s.regs s.pending) (hf6 : ∀ x0, Held pq x0.regs x0.pending → Held pq (body x0).1.regs (body x0).1.pending) : Keeps pq (State.keyCmd s c ln us f slots body) := by
  unfold State.keyCmd
  repeat' first
    | with_reducible assumption | with_reducible refine keeps_next ?_ | with_reducible refine State.confCmd_held _ _ _ _ _ _ ?_ ?_
    | with_reducible refine hf6 _ ?_ | with_reducible refine fst_held (by assumption) ?_ | with_reducible refine ite_held ?_ ?_
    | with_reducible refine ite_fst_held ?_ ?_ | with_reducible refine ite_keeps ?_ ?_ | split | dsimp only | intro _ _ _ _ | intro _ _ _
    | intro _ _
theorem State.setBlob_held (s : State) (p : Path) (b : Bytes) (hw0 : Held pq s.regs s.pending) : Held pq (State.setBlob s p b).regs (State.setBlob s p b).pending := by
  unfold State.setBlob
  repeat' first
    | with_reducible assumption | with_reducible refine State.setSession_held _ _ _ ?_
theorem held_execKeyBlobAdd (ln : Ln) (hex : Bytes) (us : Nat) (s : State) (hw3 : Held pq s.regs s.pending) : Keeps pq (execKeyBlobAdd ln hex us s) := by
  unfold execKeyBlobAdd
  repeat' first
    | with_reducible assumption | with_reducible refine keeps_next ?_ | with_reducible refine State.cmd_held _ _ _ _ _ _ ?_ ?_
    | with_reducible refine State.setBlob_held _ _ _ ?_ | with_reducible refine fst_held (by assumption) ?_ | with_reducible refine ite_held ?_ ?_
    | with_reducible refine ite_fst_held ?_ ?_ | with_reducible refine ite_keeps ?_ ?_ | split | dsimp only | intro _ _ _ _ | intro _ _ _
    | intro _ _
theorem held_execKeyBlobClear (ln : Ln) (us : Nat) (s : State) (hw2 : Held pq s.regs s.pending) : Keeps pq (execKeyBlobClear ln us s) := by
  unfold execKeyBlobClear
  repeat' first
    | with_reducible assumption | with_reducible refine keeps_next ?_ | with_reducible refine State.cmd_held _ _ _ _ _ _ ?_ ?_
    | with_reducible refine State.setBlob_held _ _ _ ?_ | with_reducible refine fst_held (by assumption) ?_ | split | dsimp only | intro _ _ _ _
    | intro _ _ _ | intro _ _
theorem State.loadCmd_held (s : State) (c : Say) (ln : Ln) (us : Nat) (f : Form) (slots : List Nat) (body : Bytes → State → State × Result) (hw0 : Held pq s.regs s.pending) (hf6 : ∀ x0 x1, Held pq x1.regs x1.pending → Held pq (body x0 x1).1.regs (body x0 x1).1.pending) : Keeps pq (State.loadCmd s c ln us f slots body) := by
  unfold State.loadCmd
  repeat' first
    | with_reducible assumption | with_reducible refine keeps_next ?_ | with_reducible refine State.at_held _ _ ?_
    | with_reducible refine State.runLine_held _ _ _ _ _ _ ?_ ?_ | with_reducible refine State.setBlob_held _ _ _ ?_
    | with_reducible refine hf6 _ _ ?_ | with_reducible refine fst_held (by assumption) ?_ | with_reducible refine ite_held ?_ ?_
    | with_reducible refine ite_fst_held ?_ ?_ | with_reducible refine ite_keeps ?_ ?_ | split | dsimp only | intro _ _ _ _ | intro _ _ _
    | intro _ _
theorem held_execKeyLoadWrap (ln : Ln) (slot : Nat) (kind : Nat) (wrap : Nat) (owner : Option Nat) (us : Nat) (s : State) (hw6 : Held pq s.regs s.pending) : Keeps pq (execKeyLoadWrap ln slot kind wrap owner us s) := by
  unfold execKeyLoadWrap
  repeat' first
    | with_reducible assumption | with_reducible refine keeps_next ?_ | with_reducible refine State.loadCmd_held _ _ _ _ _ _ _ ?_ ?_
    | with_reducible refine State.loadWrapped_held _ _ _ _ _ _ ?_ | with_reducible refine fst_held (by assumption) ?_ | split | dsimp only
    | intro _ _ _ _ | intro _ _ _
theorem held_execQueueCreate (ln : Ln) (queue : Nat) (pocket : Nat) (attrs : QueueAttrs) (us : Nat) (s : State) (hw5 : Held pq s.regs s.pending) : Keeps pq (execQueueCreate ln queue pocket attrs us s) := by
  unfold execQueueCreate
  repeat' first
    | with_reducible assumption | with_reducible refine keeps_next ?_ | with_reducible refine State.confCmd_held _ _ _ _ _ _ ?_ ?_
    | with_reducible refine State.createQueue_held _ _ _ _ ?_ | with_reducible refine fst_held (by assumption) ?_ | split | dsimp only
    | intro _ _ _ _ | intro _ _ _ | intro _ _
theorem held_execCipherShow (ln : Ln) (us : Nat) (s : State) (hw2 : Held pq s.regs s.pending) : Keeps pq (execCipherShow ln us s) := by
  unfold execCipherShow
  repeat' first
    | with_reducible assumption | with_reducible refine keeps_next ?_ | with_reducible refine State.cmd_held _ _ _ _ _ _ ?_ ?_
    | with_reducible refine fst_held (by assumption) ?_ | with_reducible refine ite_held ?_ ?_ | with_reducible refine ite_fst_held ?_ ?_
    | with_reducible refine ite_keeps ?_ ?_ | split | dsimp only | intro _ _ _ _ | intro _ _ _ | intro _ _
theorem held_execPocketDelete (ln : Ln) (pocket : Nat) (us : Nat) (s : State) (hw3 : Held pq s.regs s.pending) : Keeps pq (execPocketDelete ln pocket us s) := by
  unfold execPocketDelete
  repeat' first
    | with_reducible assumption | with_reducible refine keeps_next ?_ | with_reducible refine State.confCmd_held _ _ _ _ _ _ ?_ ?_
    | with_reducible refine State.deletePocket_held _ _ ?_ | with_reducible refine fst_held (by assumption) ?_ | split | dsimp only | intro _ _ _ _
    | intro _ _ _ | intro _ _
theorem held_execQueueShow (ln : Ln) (queue : Nat) (us : Nat) (s : State) (hw3 : Held pq s.regs s.pending) : Keeps pq (execQueueShow ln queue us s) := by
  unfold execQueueShow
  repeat' first
    | with_reducible assumption | with_reducible refine keeps_next ?_ | with_reducible refine State.cmd_held _ _ _ _ _ _ ?_ ?_
    | with_reducible refine fst_held (by assumption) ?_ | with_reducible refine ite_held ?_ ?_ | with_reducible refine ite_fst_held ?_ ?_
    | with_reducible refine ite_keeps ?_ ?_ | split | dsimp only | intro _ _ _ _ | intro _ _ _ | intro _ _
theorem held_execCipherCmac (ln : Ln) (slot : Nat) (hex : Option Bytes) (us : Nat) (s : State) (hw4 : Held pq s.regs s.pending) : Keeps pq (execCipherCmac ln slot hex us s) := by
  unfold execCipherCmac
  repeat' first
    | with_reducible assumption | with_reducible refine keeps_next ?_ | with_reducible refine State.cmd_held _ _ _ _ _ _ ?_ ?_
    | with_reducible refine fst_held (by assumption) ?_ | with_reducible refine ite_held ?_ ?_ | with_reducible refine ite_fst_held ?_ ?_
    | with_reducible refine ite_keeps ?_ ?_ | split | dsimp only | intro _ _ _ _ | intro _ _ _ | intro _ _
theorem held_execQueueDelete (ln : Ln) (queue : Nat) (us : Nat) (s : State) (hw3 : Held pq s.regs s.pending) : Keeps pq (execQueueDelete ln queue us s) := by
  unfold execQueueDelete
  repeat' first
    | with_reducible assumption | with_reducible refine keeps_next ?_ | with_reducible refine State.confCmd_held _ _ _ _ _ _ ?_ ?_
    | with_reducible refine State.deleteQueue_held _ _ ?_ | with_reducible refine fst_held (by assumption) ?_ | split | dsimp only | intro _ _ _ _
    | intro _ _ _ | intro _ _
theorem held_execPocketList (ln : Ln) (us : Nat) (s : State) (hw2 : Held pq s.regs s.pending) : Keeps pq (execPocketList ln us s) := by
  unfold execPocketList
  repeat' first
    | with_reducible assumption | with_reducible refine keeps_next ?_ | with_reducible refine State.cmd_held _ _ _ _ _ _ ?_ ?_
    | with_reducible refine fst_held (by assumption) ?_ | split | dsimp only | intro _ _ _ _ | intro _ _ _ | intro _ _
theorem held_execKeyList (ln : Ln) (owner : Option Nat) (frm : Nat) (us : Nat) (s : State) (hw4 : Held pq s.regs s.pending) : Keeps pq (execKeyList ln owner frm us s) := by
  unfold execKeyList
  repeat' first
    | with_reducible assumption | with_reducible refine keeps_next ?_ | with_reducible refine State.cmd_held _ _ _ _ _ _ ?_ ?_
    | with_reducible refine fst_held (by assumption) ?_ | split | dsimp only | intro _ _ _ _ | intro _ _ _ | intro _ _
theorem held_execKeyLoadPlain (ln : Ln) (slot : Nat) (kind : Nat) (owner : Option Nat) (us : Nat) (s : State) (hw5 : Held pq s.regs s.pending) : Keeps pq (execKeyLoadPlain ln slot kind owner us s) := by
  unfold execKeyLoadPlain
  repeat' first
    | with_reducible assumption | with_reducible refine keeps_next ?_ | with_reducible refine State.loadCmd_held _ _ _ _ _ _ _ ?_ ?_
    | with_reducible refine State.loadPlain_held _ _ _ _ _ ?_ | with_reducible refine fst_held (by assumption) ?_
    | with_reducible refine ite_held ?_ ?_ | with_reducible refine ite_fst_held ?_ ?_ | with_reducible refine ite_keeps ?_ ?_ | split | dsimp only
    | intro _ _ _ _ | intro _ _ _
theorem held_execPocketSet (ln : Ln) (pocket : Nat) (attrs : PocketAttrs) (us : Nat) (s : State) (hw4 : Held pq s.regs s.pending) : Keeps pq (execPocketSet ln pocket attrs us s) := by
  unfold execPocketSet
  repeat' first
    | with_reducible assumption | with_reducible refine keeps_next ?_ | with_reducible refine State.alterPocket_held _ _ _ ?_
    | with_reducible refine State.confCmd_held _ _ _ _ _ _ ?_ ?_ | with_reducible refine fst_held (by assumption) ?_ | split | dsimp only
    | intro _ _ _ _ | intro _ _ _ | intro _ _
theorem held_execKeyGen (ln : Ln) (slot : Nat) (kind : Nat) (wrap : Nat) (owner : Option Nat) (us : Nat) (s : State) (hw6 : Held pq s.regs s.pending) : Keeps pq (execKeyGen ln slot kind wrap owner us s) := by
  unfold execKeyGen
  repeat' first
    | with_reducible assumption | with_reducible refine keeps_next ?_ | with_reducible refine State.genKey_held _ _ _ _ _ ?_
    | with_reducible refine State.keyCmd_held _ _ _ _ _ _ _ ?_ ?_ | with_reducible refine fst_held (by assumption) ?_ | split | dsimp only
    | intro _ _ _ _ | intro _ _ _ | intro _ _
theorem held_execKeyShowClear (ln : Ln) (slot : Option Nat) (us : Nat) (s : State) (hw3 : Held pq s.regs s.pending) : Keeps pq (execKeyShowClear ln slot us s) := by
  unfold execKeyShowClear
  repeat' first
    | with_reducible assumption | with_reducible refine keeps_next ?_ | with_reducible refine State.clearLostFlags_held _ _ ?_
    | with_reducible refine State.keyCmd_held _ _ _ _ _ _ _ ?_ ?_ | with_reducible refine fst_held (by assumption) ?_ | split | dsimp only
    | intro _ _ _ _ | intro _ _ _ | intro _ _
theorem held_execQueueList (ln : Ln) (pocket : Option Nat) (frm : Nat) (us : Nat) (s : State) (hw4 : Held pq s.regs s.pending) : Keeps pq (execQueueList ln pocket frm us s) := by
  unfold execQueueList
  repeat' first
    | with_reducible assumption | with_reducible refine keeps_next ?_ | with_reducible refine State.cmd_held _ _ _ _ _ _ ?_ ?_
    | with_reducible refine fst_held (by assumption) ?_ | split | dsimp only | intro _ _ _ _ | intro _ _ _ | intro _ _
theorem held_execQueueSet (ln : Ln) (queue : Nat) (attrs : QueueAttrs) (us : Nat) (s : State) (hw4 : Held pq s.regs s.pending) : Keeps pq (execQueueSet ln queue attrs us s) := by
  unfold execQueueSet
  repeat' first
    | with_reducible assumption | with_reducible refine keeps_next ?_ | with_reducible refine State.alterQueue_held _ _ _ ?_
    | with_reducible refine State.confCmd_held _ _ _ _ _ _ ?_ ?_ | with_reducible refine fst_held (by assumption) ?_ | split | dsimp only
    | intro _ _ _ _ | intro _ _ _ | intro _ _
theorem held_execKeyShow (ln : Ln) (slot : Nat) (us : Nat) (s : State) (hw3 : Held pq s.regs s.pending) : Keeps pq (execKeyShow ln slot us s) := by
  unfold execKeyShow
  repeat' first
    | with_reducible assumption | with_reducible refine keeps_next ?_ | with_reducible refine State.cmd_held _ _ _ _ _ _ ?_ ?_
    | with_reducible refine fst_held (by assumption) ?_ | with_reducible refine ite_held ?_ ?_ | with_reducible refine ite_fst_held ?_ ?_
    | with_reducible refine ite_keeps ?_ ?_ | split | dsimp only | intro _ _ _ _ | intro _ _ _ | intro _ _
theorem held_execCipherDec (ln : Ln) (slot : Nat) (hex : Bytes) (us : Nat) (s : State) (hw4 : Held pq s.regs s.pending) : Keeps pq (execCipherDec ln slot hex us s) := by
  unfold execCipherDec
  repeat' first
    | with_reducible assumption | with_reducible refine keeps_next ?_ | with_reducible refine State.cipherRaw_held _ _ _ _ ?_
    | with_reducible refine State.cmd_held _ _ _ _ _ _ ?_ ?_ | with_reducible refine fst_held (by assumption) ?_ | split | dsimp only
    | intro _ _ _ _ | intro _ _ _ | intro _ _
theorem held_execPocketShow (ln : Ln) (pocket : Nat) (us : Nat) (s : State) (hw3 : Held pq s.regs s.pending) : Keeps pq (execPocketShow ln pocket us s) := by
  unfold execPocketShow
  repeat' first
    | with_reducible assumption | with_reducible refine keeps_next ?_ | with_reducible refine State.cmd_held _ _ _ _ _ _ ?_ ?_
    | with_reducible refine fst_held (by assumption) ?_ | with_reducible refine ite_held ?_ ?_ | with_reducible refine ite_fst_held ?_ ?_
    | with_reducible refine ite_keeps ?_ ?_ | split | dsimp only | intro _ _ _ _ | intro _ _ _ | intro _ _
theorem held_execKeyErase (ln : Ln) (slot : Nat) (us : Nat) (s : State) (hw3 : Held pq s.regs s.pending) : Keeps pq (execKeyErase ln slot us s) := by
  unfold execKeyErase
  repeat' first
    | with_reducible assumption | with_reducible refine keeps_next ?_ | with_reducible refine State.eraseKey_held _ _ ?_
    | with_reducible refine State.keyCmd_held _ _ _ _ _ _ _ ?_ ?_ | with_reducible refine fst_held (by assumption) ?_ | split | dsimp only
    | intro _ _ _ _ | intro _ _ _ | intro _ _
theorem held_execPocketCreate (ln : Ln) (pocket : Nat) (attrs : PocketAttrs) (us : Nat) (s : State) (hw4 : Held pq s.regs s.pending) : Keeps pq (execPocketCreate ln pocket attrs us s) := by
  unfold execPocketCreate
  repeat' first
    | with_reducible assumption | with_reducible refine keeps_next ?_ | with_reducible refine State.confCmd_held _ _ _ _ _ _ ?_ ?_
    | with_reducible refine State.createPocket_held _ _ _ ?_ | with_reducible refine fst_held (by assumption) ?_ | split | dsimp only
    | intro _ _ _ _ | intro _ _ _ | intro _ _
theorem held_execCipherEnc (ln : Ln) (slot : Nat) (hex : Bytes) (us : Nat) (s : State) (hw4 : Held pq s.regs s.pending) : Keeps pq (execCipherEnc ln slot hex us s) := by
  unfold execCipherEnc
  repeat' first
    | with_reducible assumption | with_reducible refine keeps_next ?_ | with_reducible refine State.cipherRaw_held _ _ _ _ ?_
    | with_reducible refine State.cmd_held _ _ _ _ _ _ ?_ ?_ | with_reducible refine fst_held (by assumption) ?_ | split | dsimp only
    | intro _ _ _ _ | intro _ _ _ | intro _ _
theorem held_execMeterCfg (ln : Ln) (k : Option Nat) (base : Option Nat) (us : Nat) (s : State) (hw4 : Held pq s.regs s.pending) : Keeps pq (execMeterCfg ln k base us s) := by
  unfold execMeterCfg
  repeat' first
    | with_reducible assumption | with_reducible refine keeps_next ?_ | with_reducible refine State.cmd_held _ _ _ _ _ _ ?_ ?_
    | with_reducible refine State.keepIf_held _ _ _ ?_ | with_reducible refine fst_held (by assumption) ?_ | with_reducible refine ite_held ?_ ?_
    | with_reducible refine ite_fst_held ?_ ?_ | with_reducible refine ite_keeps ?_ ?_ | split | dsimp only | intro _ _ _ _ | intro _ _ _
    | intro _ _
theorem held_execCacheSet (ln : Ln) (pocket : Nat) (share : ShareAttrs) (us : Nat) (s : State) (hw4 : Held pq s.regs s.pending) : Keeps pq (execCacheSet ln pocket share us s) := by
  unfold execCacheSet
  repeat' first
    | with_reducible assumption | with_reducible refine keeps_next ?_ | with_reducible refine State.confCmd_held _ _ _ _ _ _ ?_ ?_
    | with_reducible refine State.setShare_held _ _ _ ?_ | with_reducible refine fst_held (by assumption) ?_ | split | dsimp only | intro _ _ _ _
    | intro _ _ _ | intro _ _
theorem State.configCache_held (s : State) (a : CacheAttrs) (hw0 : Held pq s.regs s.pending) : Held pq (State.configCache s a).1.regs (State.configCache s a).1.pending := by
  unfold State.configCache
  repeat' first
    | with_reducible assumption | with_reducible refine State.flushMode_held _ ?_ | with_reducible refine State.keepIf_held _ _ _ ?_
    | with_reducible refine State.tell_held _ _ _ ?_ | with_reducible refine fst_held (by assumption) ?_ | with_reducible refine map_held ?_
    | with_reducible refine bind_held ?_ ?_ | with_reducible refine some_held ?_ (by assumption) | with_reducible refine ite_held ?_ ?_
    | with_reducible refine ite_fst_held ?_ ?_
theorem held_execMeterRead (ln : Ln) (pocket : Nat) (index : Option Nat) (us : Nat) (s : State) (hw4 : Held pq s.regs s.pending) : Keeps pq (execMeterRead ln pocket index us s) := by
  unfold execMeterRead
  repeat' first
    | with_reducible assumption | with_reducible refine keeps_next ?_ | with_reducible refine State.cmd_held _ _ _ _ _ _ ?_ ?_
    | with_reducible refine fst_held (by assumption) ?_ | with_reducible refine ite_held ?_ ?_ | with_reducible refine ite_fst_held ?_ ?_
    | with_reducible refine ite_keeps ?_ ?_ | split | dsimp only | intro _ _ _ _ | intro _ _ _ | intro _ _
theorem held_execMapCheckpoint (ln : Ln) (us : Nat) (s : State) (hw2 : Held pq s.regs s.pending) : Keeps pq (execMapCheckpoint ln us s) := by
  unfold execMapCheckpoint
  repeat' first
    | with_reducible assumption | with_reducible refine keeps_next ?_ | with_reducible refine State.beginCkpt_held _ _ _ ?_
    | with_reducible refine State.cmd_held _ _ _ _ _ _ ?_ ?_ | with_reducible refine fst_held (by assumption) ?_
    | with_reducible refine ite_held ?_ ?_ | with_reducible refine ite_fst_held ?_ ?_ | with_reducible refine ite_keeps ?_ ?_ | split | dsimp only
    | intro _ _ _ _ | intro _ _ _ | intro _ _
theorem held_execLinkRetrain (ln : Ln) (us : Nat) (s : State) (hw2 : Held pq s.regs s.pending) : Keeps pq (execLinkRetrain ln us s) := by
  unfold execLinkRetrain
  repeat' first
    | with_reducible assumption | with_reducible refine keeps_next ?_ | with_reducible refine State.cmd_held _ _ _ _ _ _ ?_ ?_
    | with_reducible refine State.retrain_held _ _ ?_ | with_reducible refine fst_held (by assumption) ?_ | with_reducible refine ite_held ?_ ?_
    | with_reducible refine ite_fst_held ?_ ?_ | with_reducible refine ite_keeps ?_ ?_ | split | dsimp only | intro _ _ _ _ | intro _ _ _
    | intro _ _
theorem held_execCacheCfg (ln : Ln) (attrs : CacheAttrs) (us : Nat) (s : State) (hw3 : Held pq s.regs s.pending) : Keeps pq (execCacheCfg ln attrs us s) := by
  unfold execCacheCfg
  repeat' first
    | with_reducible assumption | with_reducible refine keeps_next ?_ | with_reducible refine State.confCmd_held _ _ _ _ _ _ ?_ ?_
    | with_reducible refine State.configCache_held _ _ ?_ | with_reducible refine fst_held (by assumption) ?_ | split | dsimp only | intro _ _ _ _
    | intro _ _ _ | intro _ _
theorem held_execMapCfg (ln : Ln) (dirtyCap : Nat) (us : Nat) (s : State) (hw3 : Held pq s.regs s.pending) : Keeps pq (execMapCfg ln dirtyCap us s) := by
  unfold execMapCfg
  repeat' first
    | with_reducible assumption | with_reducible refine keeps_next ?_ | with_reducible refine State.cmd_held _ _ _ _ _ _ ?_ ?_
    | with_reducible refine State.keep_held _ _ _ ?_ | with_reducible refine fst_held (by assumption) ?_ | with_reducible refine ite_held ?_ ?_
    | with_reducible refine ite_fst_held ?_ ?_ | with_reducible refine ite_keeps ?_ ?_ | split | dsimp only | intro _ _ _ _ | intro _ _ _
    | intro _ _
theorem held_execMeterShow (ln : Ln) (pocket : Nat) (us : Nat) (s : State) (hw3 : Held pq s.regs s.pending) : Keeps pq (execMeterShow ln pocket us s) := by
  unfold execMeterShow
  repeat' first
    | with_reducible assumption | with_reducible refine keeps_next ?_ | with_reducible refine State.cmd_held _ _ _ _ _ _ ?_ ?_
    | with_reducible refine fst_held (by assumption) ?_ | with_reducible refine ite_held ?_ ?_ | with_reducible refine ite_fst_held ?_ ?_
    | with_reducible refine ite_keeps ?_ ?_ | split | dsimp only | intro _ _ _ _ | intro _ _ _ | intro _ _
theorem held_execMapShow (ln : Ln) (us : Nat) (s : State) (hw2 : Held pq s.regs s.pending) : Keeps pq (execMapShow ln us s) := by
  unfold execMapShow
  repeat' first
    | with_reducible assumption | with_reducible refine keeps_next ?_ | with_reducible refine State.cmd_held _ _ _ _ _ _ ?_ ?_
    | with_reducible refine fst_held (by assumption) ?_ | with_reducible refine ite_held ?_ ?_ | with_reducible refine ite_fst_held ?_ ?_
    | with_reducible refine ite_keeps ?_ ?_ | split | dsimp only | intro _ _ _ _ | intro _ _ _ | intro _ _
theorem held_execLinkShow (ln : Ln) (us : Nat) (s : State) (hw2 : Held pq s.regs s.pending) : Keeps pq (execLinkShow ln us s) := by
  unfold execLinkShow
  repeat' first
    | with_reducible assumption | with_reducible refine keeps_next ?_ | with_reducible refine State.cmd_held _ _ _ _ _ _ ?_ ?_
    | with_reducible refine fst_held (by assumption) ?_ | with_reducible refine ite_held ?_ ?_ | with_reducible refine ite_fst_held ?_ ?_
    | with_reducible refine ite_keeps ?_ ?_ | split | dsimp only | intro _ _ _ _ | intro _ _ _ | intro _ _
theorem held_execCacheShow (ln : Ln) (pocket : Option Nat) (us : Nat) (s : State) (hw3 : Held pq s.regs s.pending) : Keeps pq (execCacheShow ln pocket us s) := by
  unfold execCacheShow
  repeat' first
    | with_reducible assumption | with_reducible refine keeps_next ?_ | with_reducible refine State.cmd_held _ _ _ _ _ _ ?_ ?_
    | with_reducible refine fst_held (by assumption) ?_ | with_reducible refine ite_held ?_ ?_ | with_reducible refine ite_fst_held ?_ ?_
    | with_reducible refine ite_keeps ?_ ?_ | split | dsimp only | intro _ _ _ _ | intro _ _ _ | intro _ _
theorem held_execMeterAck (ln : Ln) (pocket : Nat) (gen : Nat) (minute : Nat) (us : Nat) (s : State) (hw5 : Held pq s.regs s.pending) : Keeps pq (execMeterAck ln pocket gen minute us s) := by
  unfold execMeterAck
  repeat' first
    | with_reducible assumption | with_reducible refine keeps_next ?_ | with_reducible refine State.cmd_held _ _ _ _ _ _ ?_ ?_
    | with_reducible refine fst_held (by assumption) ?_ | with_reducible refine ite_held ?_ ?_ | with_reducible refine ite_fst_held ?_ ?_
    | with_reducible refine ite_keeps ?_ ?_ | split | dsimp only | intro _ _ _ _ | intro _ _ _ | intro _ _
theorem held_execLinkCfg (ln : Ln) (attrs : LinkAttrs) (us : Nat) (s : State) (hw3 : Held pq s.regs s.pending) : Keeps pq (execLinkCfg ln attrs us s) := by
  unfold execLinkCfg
  repeat' first
    | with_reducible assumption | with_reducible refine keeps_next ?_ | with_reducible refine State.cmd_held _ _ _ _ _ _ ?_ ?_
    | with_reducible refine State.keepIf_held _ _ _ ?_ | with_reducible refine fst_held (by assumption) ?_ | with_reducible refine ite_held ?_ ?_
    | with_reducible refine ite_fst_held ?_ ?_ | with_reducible refine ite_keeps ?_ ?_ | split | dsimp only | intro _ _ _ _ | intro _ _ _
    | intro _ _
theorem held_execMapLookup (ln : Ln) (pocket : Nat) (lba : Nat) (us : Nat) (s : State) (hw4 : Held pq s.regs s.pending) : Keeps pq (execMapLookup ln pocket lba us s) := by
  unfold execMapLookup
  repeat' first
    | with_reducible assumption | with_reducible refine keeps_next ?_ | with_reducible refine State.cmd_held _ _ _ _ _ _ ?_ ?_
    | with_reducible refine State.needSeg_held _ _ ?_ | with_reducible refine State.segHeld_held _ _ ?_
    | with_reducible refine fst_held (by assumption) ?_ | with_reducible refine ite_held ?_ ?_ | with_reducible refine ite_fst_held ?_ ?_
    | with_reducible refine ite_keeps ?_ ?_ | split | dsimp only | intro _ _ _ _ | intro _ _ _ | intro _ _
theorem State.runThen_held (s : State) (c : Say) (ln : Ln) (f : Form) (check : State → Option Status) (after : State → State) (hw0 : Held pq s.regs s.pending) (hf5 : ∀ x0, Held pq x0.regs x0.pending → Held pq (after x0).regs (after x0).pending) : Held pq (State.runThen s c ln f check after).regs (State.runThen s c ln f check after).pending := by
  unfold State.runThen
  repeat' first
    | with_reducible assumption | with_reducible refine State.answer_held _ _ _ _ ?_ | with_reducible refine State.heard_held _ _ _ ?_
    | with_reducible refine State.missed_held _ _ _ ?_ | with_reducible refine State.turnAway_held _ _ _ ?_
    | with_reducible refine State.wakeLine_held _ _ _ ?_ | with_reducible refine hf5 _ ?_ | with_reducible refine fst_held (by assumption) ?_
    | with_reducible refine ite_held ?_ ?_ | with_reducible refine ite_fst_held ?_ ?_ | split | dsimp only
theorem held_refuseOr (st : Option Status) (s : State) (go : State × Result) (hw1 : Held pq s.regs s.pending) (hw2 : Held pq go.1.regs go.1.pending) : Held pq (refuseOr st s go).1.regs (refuseOr st s go).1.pending := by
  unfold refuseOr
  repeat' first
    | with_reducible assumption | with_reducible refine fst_held (by assumption) ?_ | split
theorem held_execPowerStateIdle (ln : Ln) (us : Nat) (s : State) (hw2 : Held pq s.regs s.pending) : Keeps pq (execPowerStateIdle ln us s) := by
  unfold execPowerStateIdle
  repeat' first
    | with_reducible assumption | with_reducible refine keeps_next ?_ | with_reducible refine State.cmd_held _ _ _ _ _ _ ?_ ?_
    | with_reducible refine State.keep_held _ _ _ ?_ | with_reducible refine held_refuseOr _ _ _ ?_ ?_
    | with_reducible refine fst_held (by assumption) ?_ | split | dsimp only | intro _ _ _ _ | intro _ _ _ | intro _ _
theorem State.cmdThen_held (s : State) (c : Say) (ln : Ln) (us : Nat) (f : Form) (check : State → Option Status) (after : State → State) (hw0 : Held pq s.regs s.pending) (hf6 : ∀ x0, Held pq x0.regs x0.pending → Held pq (after x0).regs (after x0).pending) : Keeps pq (State.cmdThen s c ln us f check after) := by
  unfold State.cmdThen
  repeat' first
    | with_reducible assumption | with_reducible refine keeps_next ?_ | with_reducible refine State.at_held _ _ ?_
    | with_reducible refine State.runThen_held _ _ _ _ _ _ ?_ ?_
theorem State.enterCmd_held (s : State) (c : Say) (ln : Ln) (us : Nat) (target : Nat) (doms : State → List Nat) (drain : Option Nat) (abort : Bool) (hw0 : Held pq s.regs s.pending) : Keeps pq (State.enterCmd s c ln us target doms drain abort) := by
  unfold State.enterCmd
  repeat' first
    | with_reducible assumption | with_reducible refine keeps_next ?_ | with_reducible refine State.beginEntry_held _ _ _ _ _ ?_
    | with_reducible refine State.cmdThen_held _ _ _ _ _ _ _ ?_ ?_ | with_reducible refine fst_held (by assumption) ?_
    | with_reducible refine ite_held ?_ ?_ | with_reducible refine ite_fst_held ?_ ?_ | with_reducible refine ite_keeps ?_ ?_ | split | dsimp only
    | intro _ _ _ _ | intro _ _ _ | intro _ _
theorem held_execPowerStateNap (ln : Ln) (set : Option (List Nat)) (drain : Option Nat) (abort : Bool) (us : Nat) (s : State) (hw5 : Held pq s.regs s.pending) : Keeps pq (execPowerStateNap ln set drain abort us s) := by
  unfold execPowerStateNap
  repeat' first
    | with_reducible assumption | with_reducible refine keeps_next ?_ | with_reducible refine State.cmd_held _ _ _ _ _ _ ?_ ?_
    | with_reducible refine State.enterCmd_held _ _ _ _ _ _ _ _ ?_ | with_reducible refine fst_held (by assumption) ?_
    | with_reducible refine ite_held ?_ ?_ | with_reducible refine ite_fst_held ?_ ?_ | with_reducible refine ite_keeps ?_ ?_ | split | dsimp only
    | intro _ _ _ _ | intro _ _ _ | intro _ _
theorem held_execPowerStateTack (ln : Ln) (drain : Option Nat) (abort : Bool) (us : Nat) (s : State) (hw4 : Held pq s.regs s.pending) : Keeps pq (execPowerStateTack ln drain abort us s) := by
  unfold execPowerStateTack
  repeat' first
    | with_reducible assumption | with_reducible refine keeps_next ?_ | with_reducible refine State.enterCmd_held _ _ _ _ _ _ _ _ ?_
theorem held_orWait (r : State × Option Result) (w : AwaitFor) (hw0 : Held pq r.1.regs r.1.pending) : Held pq (orWait r w).1.regs (orWait r w).1.pending := by
  unfold orWait
  exact hw0
theorem held_execDomainOn (ln : Ln) (dom : Nat) (us : Nat) (s : State) (hw3 : Held pq s.regs s.pending) : Keeps pq (execDomainOn ln dom us s) := by
  unfold execDomainOn
  repeat' first
    | with_reducible assumption | with_reducible refine keeps_next ?_ | with_reducible refine State.cmd_held _ _ _ _ _ _ ?_ ?_
    | with_reducible refine State.domainOn_held _ _ _ ?_ | with_reducible refine held_orWait _ _ ?_
    | with_reducible refine fst_held (by assumption) ?_ | with_reducible refine ite_held ?_ ?_ | with_reducible refine ite_fst_held ?_ ?_
    | with_reducible refine ite_keeps ?_ ?_ | split | dsimp only | intro _ _ _ _ | intro _ _ _ | intro _ _
theorem held_execResetWarm (ln : Ln) (us : Nat) (s : State) (hw2 : Held pq s.regs s.pending) : Keeps pq (execResetWarm ln us s) := by
  unfold execResetWarm
  repeat' first
    | with_reducible assumption | with_reducible refine keeps_next ?_ | with_reducible refine State.cmdThen_held _ _ _ _ _ _ _ ?_ ?_
    | with_reducible refine State.commandReset_held _ _ _ ?_ | with_reducible refine fst_held (by assumption) ?_ | split | dsimp only
    | intro _ _ _ _ | intro _ _ _ | intro _ _
theorem held_execPowerSettings (ln : Ln) (nap : Option (List Nat)) (tackS : Option Nat) (tch : Option Nat) (timer : Option Nat) (wakePmbus : Option Bool) (wakeLining : Option Bool) (us : Nat) (s : State) (hw8 : Held pq s.regs s.pending) : Keeps pq (execPowerSettings ln nap tackS tch timer wakePmbus wakeLining us s) := by
  unfold execPowerSettings
  repeat' first
    | with_reducible assumption | with_reducible refine keeps_next ?_ | with_reducible refine State.cmd_held _ _ _ _ _ _ ?_ ?_
    | with_reducible refine State.keepIf_held _ _ _ ?_ | with_reducible refine fst_held (by assumption) ?_ | with_reducible refine map_held ?_
    | with_reducible refine bind_held ?_ ?_ | with_reducible refine some_held ?_ (by assumption) | with_reducible refine ite_held ?_ ?_
    | with_reducible refine ite_fst_held ?_ ?_ | with_reducible refine ite_keeps ?_ ?_ | split | dsimp only | intro _ _ _ _ | intro _ _ _
    | intro _ _
theorem held_execDomainOff (ln : Ln) (dom : Nat) (abort : Bool) (drain : Option Nat) (us : Nat) (s : State) (hw5 : Held pq s.regs s.pending) : Keeps pq (execDomainOff ln dom abort drain us s) := by
  unfold execDomainOff
  repeat' first
    | with_reducible assumption | with_reducible refine keeps_next ?_ | with_reducible refine State.cmd_held _ _ _ _ _ _ ?_ ?_
    | with_reducible refine State.domainOff_held _ _ _ _ _ _ ?_ | with_reducible refine held_orWait _ _ ?_
    | with_reducible refine fst_held (by assumption) ?_ | with_reducible refine ite_held ?_ ?_ | with_reducible refine ite_fst_held ?_ ?_
    | with_reducible refine ite_keeps ?_ ?_ | split | dsimp only | intro _ _ _ _ | intro _ _ _ | intro _ _
theorem held_execPowerLevel (ln : Ln) (level : Nat) (us : Nat) (s : State) (hw3 : Held pq s.regs s.pending) : Keeps pq (execPowerLevel ln level us s) := by
  unfold execPowerLevel
  repeat' first
    | with_reducible assumption | with_reducible refine keeps_next ?_ | with_reducible refine State.cmd_held _ _ _ _ _ _ ?_ ?_
    | with_reducible refine State.keep_held _ _ _ ?_ | with_reducible refine State.levelAsk_held _ _ ?_
    | with_reducible refine State.sendHold_held _ _ ?_ | with_reducible refine fst_held (by assumption) ?_ | with_reducible refine ite_held ?_ ?_
    | with_reducible refine ite_fst_held ?_ ?_ | with_reducible refine ite_keeps ?_ ?_ | split | dsimp only | intro _ _ _ _ | intro _ _ _
    | intro _ _
theorem held_execPowerShow (ln : Ln) (us : Nat) (s : State) (hw2 : Held pq s.regs s.pending) : Keeps pq (execPowerShow ln us s) := by
  unfold execPowerShow
  repeat' first
    | with_reducible assumption | with_reducible refine keeps_next ?_ | with_reducible refine State.cmd_held _ _ _ _ _ _ ?_ ?_
    | with_reducible refine fst_held (by assumption) ?_ | with_reducible refine ite_held ?_ ?_ | with_reducible refine ite_fst_held ?_ ?_
    | with_reducible refine ite_keeps ?_ ?_ | split | dsimp only | intro _ _ _ _ | intro _ _ _ | intro _ _
theorem held_execResetDomain (ln : Ln) (dom : Nat) (us : Nat) (s : State) (hw3 : Held pq s.regs s.pending) : Keeps pq (execResetDomain ln dom us s) := by
  unfold execResetDomain
  repeat' first
    | with_reducible assumption | with_reducible refine keeps_next ?_ | with_reducible refine State.cmd_held _ _ _ _ _ _ ?_ ?_
    | with_reducible refine State.domainReset_held _ _ _ _ ?_ | with_reducible refine held_orWait _ _ ?_
    | with_reducible refine fst_held (by assumption) ?_ | with_reducible refine ite_held ?_ ?_ | with_reducible refine ite_fst_held ?_ ?_
    | with_reducible refine ite_keeps ?_ ?_ | split | dsimp only | intro _ _ _ _ | intro _ _ _ | intro _ _
theorem held_execResetCard (ln : Ln) (us : Nat) (s : State) (hw2 : Held pq s.regs s.pending) : Keeps pq (execResetCard ln us s) := by
  unfold execResetCard
  repeat' first
    | with_reducible assumption | with_reducible refine keeps_next ?_ | with_reducible refine State.cmdThen_held _ _ _ _ _ _ _ ?_ ?_
    | with_reducible refine State.commandReset_held _ _ _ ?_ | with_reducible refine fst_held (by assumption) ?_ | split | dsimp only
    | intro _ _ _ _ | intro _ _ _ | intro _ _
theorem held_execPowerStateDormant (ln : Ln) (drain : Option Nat) (abort : Bool) (us : Nat) (s : State) (hw4 : Held pq s.regs s.pending) : Keeps pq (execPowerStateDormant ln drain abort us s) := by
  unfold execPowerStateDormant
  repeat' first
    | with_reducible assumption | with_reducible refine keeps_next ?_ | with_reducible refine State.enterCmd_held _ _ _ _ _ _ _ _ ?_
theorem held_execPowerStateRun (ln : Ln) (us : Nat) (s : State) (hw2 : Held pq s.regs s.pending) : Keeps pq (execPowerStateRun ln us s) := by
  unfold execPowerStateRun
  repeat' first
    | with_reducible assumption | with_reducible refine keeps_next ?_ | with_reducible refine State.cmd_held _ _ _ _ _ _ ?_ ?_
    | with_reducible refine State.keep_held _ _ _ ?_ | with_reducible refine held_refuseOr _ _ _ ?_ ?_
    | with_reducible refine fst_held (by assumption) ?_ | split | dsimp only | intro _ _ _ _ | intro _ _ _ | intro _ _
theorem held_execDomainShow (ln : Ln) (dom : Option Nat) (us : Nat) (s : State) (hw3 : Held pq s.regs s.pending) : Keeps pq (execDomainShow ln dom us s) := by
  unfold execDomainShow
  repeat' first
    | with_reducible assumption | with_reducible refine keeps_next ?_ | with_reducible refine State.cmd_held _ _ _ _ _ _ ?_ ?_
    | with_reducible refine fst_held (by assumption) ?_ | with_reducible refine ite_held ?_ ?_ | with_reducible refine ite_fst_held ?_ ?_
    | with_reducible refine ite_keeps ?_ ?_ | split | dsimp only | intro _ _ _ _ | intro _ _ _ | intro _ _
theorem held_execFlashShow (ln : Ln) (us : Nat) (s : State) (hw2 : Held pq s.regs s.pending) : Keeps pq (execFlashShow ln us s) := by
  unfold execFlashShow
  repeat' first
    | with_reducible assumption | with_reducible refine keeps_next ?_ | with_reducible refine State.cmd_held _ _ _ _ _ _ ?_ ?_
    | with_reducible refine fst_held (by assumption) ?_ | with_reducible refine ite_held ?_ ?_ | with_reducible refine ite_fst_held ?_ ?_
    | with_reducible refine ite_keeps ?_ ?_ | split | dsimp only | intro _ _ _ _ | intro _ _ _ | intro _ _
theorem State.armInjection_held (s : State) (target : Nat) (unit : Nat) (bits : Nat) (hw0 : Held pq s.regs s.pending) : Held pq (State.armInjection s target unit bits).regs (State.armInjection s target unit bits).pending := by
  unfold State.armInjection
  repeat' first
    | with_reducible assumption | with_reducible refine State.set_held _ _ _ ?_
theorem State.keepCh_held (s : State) (chs : List Nat) (f : Nat → Fld) (v : Option Nat) (hw0 : Held pq s.regs s.pending) : Held pq (State.keepCh s chs f v).regs (State.keepCh s chs f v).pending := by
  unfold State.keepCh
  repeat' first
    | with_reducible assumption | with_reducible refine State.keepIf_held _ _ _ ?_ | with_reducible refine foldl_held _ ?_ _ _ ?_
    | with_reducible refine foldl_fst_held _ ?_ _ _ ?_ | with_reducible refine fst_held (by assumption) ?_ | split | dsimp only | intro _ _ _ _
    | intro _ _ _
theorem held_execDramCfg (ln : Ln) (ch : Option Nat) (attrs : DramAttrs) (us : Nat) (s : State) (hw4 : Held pq s.regs s.pending) : Keeps pq (execDramCfg ln ch attrs us s) := by
  unfold execDramCfg
  repeat' first
    | with_reducible assumption | with_reducible refine keeps_next ?_ | with_reducible refine State.cmd_held _ _ _ _ _ _ ?_ ?_
    | with_reducible refine State.keepCh_held _ _ _ _ ?_ | with_reducible refine fst_held (by assumption) ?_ | with_reducible refine map_held ?_
    | with_reducible refine bind_held ?_ ?_ | with_reducible refine some_held ?_ (by assumption) | with_reducible refine ite_held ?_ ?_
    | with_reducible refine ite_fst_held ?_ ?_ | with_reducible refine ite_keeps ?_ ?_ | split | dsimp only | intro _ _ _ _ | intro _ _ _
    | intro _ _
theorem held_execEccGroup (ln : Ln) (group : Nat) (us : Nat) (s : State) (hw3 : Held pq s.regs s.pending) : Keeps pq (execEccGroup ln group us s) := by
  unfold execEccGroup
  repeat' first
    | with_reducible assumption | with_reducible refine keeps_next ?_ | with_reducible refine State.cmd_held _ _ _ _ _ _ ?_ ?_
    | with_reducible refine fst_held (by assumption) ?_ | with_reducible refine ite_held ?_ ?_ | with_reducible refine ite_fst_held ?_ ?_
    | with_reducible refine ite_keeps ?_ ?_ | split | dsimp only | intro _ _ _ _ | intro _ _ _ | intro _ _
theorem held_execLiningShow (ln : Ln) (us : Nat) (s : State) (hw2 : Held pq s.regs s.pending) : Keeps pq (execLiningShow ln us s) := by
  unfold execLiningShow
  repeat' first
    | with_reducible assumption | with_reducible refine keeps_next ?_ | with_reducible refine State.cmd_held _ _ _ _ _ _ ?_ ?_
    | with_reducible refine fst_held (by assumption) ?_ | split | dsimp only | intro _ _ _ _ | intro _ _ _ | intro _ _
theorem held_execDramShow (ln : Ln) (us : Nat) (s : State) (hw2 : Held pq s.regs s.pending) : Keeps pq (execDramShow ln us s) := by
  unfold execDramShow
  repeat' first
    | with_reducible assumption | with_reducible refine keeps_next ?_ | with_reducible refine State.cmd_held _ _ _ _ _ _ ?_ ?_
    | with_reducible refine fst_held (by assumption) ?_ | with_reducible refine ite_held ?_ ?_ | with_reducible refine ite_fst_held ?_ ?_
    | with_reducible refine ite_keeps ?_ ?_ | split | dsimp only | intro _ _ _ _ | intro _ _ _ | intro _ _
theorem held_execDramPort (ln : Ln) (port : Nat) (ch : Option Nat) (targetNs : Option Nat) (prio : Option Nat) (us : Nat) (s : State) (hw6 : Held pq s.regs s.pending) : Keeps pq (execDramPort ln port ch targetNs prio us s) := by
  unfold execDramPort
  repeat' first
    | with_reducible assumption | with_reducible refine keeps_next ?_ | with_reducible refine State.cmd_held _ _ _ _ _ _ ?_ ?_
    | with_reducible refine State.keepCh_held _ _ _ _ ?_ | with_reducible refine fst_held (by assumption) ?_ | with_reducible refine ite_held ?_ ?_
    | with_reducible refine ite_fst_held ?_ ?_ | with_reducible refine ite_keeps ?_ ?_ | split | dsimp only | intro _ _ _ _ | intro _ _ _
    | intro _ _
theorem held_execLiningDesc (ln : Ln) (attrs : DescAttrs) (bad : Option Nat) (us : Nat) (s : State) (hw4 : Held pq s.regs s.pending) : Keeps pq (execLiningDesc ln attrs bad us s) := by
  unfold execLiningDesc
  repeat' first
    | with_reducible assumption | with_reducible refine keeps_next ?_ | with_reducible refine State.cmd_held _ _ _ _ _ _ ?_ ?_
    | with_reducible refine State.setLin_held _ _ ?_ | with_reducible refine fst_held (by assumption) ?_ | with_reducible refine ite_held ?_ ?_
    | with_reducible refine ite_fst_held ?_ ?_ | with_reducible refine ite_keeps ?_ ?_ | split | dsimp only | intro _ _ _ _ | intro _ _ _
    | intro _ _
theorem held_execEccShow (ln : Ln) (us : Nat) (s : State) (hw2 : Held pq s.regs s.pending) : Keeps pq (execEccShow ln us s) := by
  unfold execEccShow
  repeat' first
    | with_reducible assumption | with_reducible refine keeps_next ?_ | with_reducible refine State.cmd_held _ _ _ _ _ _ ?_ ?_
    | with_reducible refine fst_held (by assumption) ?_ | split | dsimp only | intro _ _ _ _ | intro _ _ _ | intro _ _
theorem State.configLining_held (s : State) (a : LiningAttrs) (hw0 : Held pq s.regs s.pending) : Held pq (State.configLining s a).regs (State.configLining s a).pending := by
  unfold State.configLining
  repeat' first
    | with_reducible assumption | with_reducible refine State.set_held _ _ _ ?_ | with_reducible refine State.keepIf_held _ _ _ ?_
    | with_reducible refine State.writeLinCfg_held _ _ ?_ | with_reducible refine fst_held (by assumption) ?_ | with_reducible refine map_held ?_
    | with_reducible refine bind_held ?_ ?_ | with_reducible refine some_held ?_ (by assumption) | with_reducible refine ite_held ?_ ?_
    | with_reducible refine ite_fst_held ?_ ?_ | split
theorem State.showStrengths_held (s : State) (hw0 : Held pq s.regs s.pending) : Held pq (State.showStrengths s).regs (State.showStrengths s).pending := by
  unfold State.showStrengths
  repeat' first
    | with_reducible assumption | with_reducible refine State.setTNext_held _ _ ?_ | with_reducible refine foldl_held _ ?_ _ _ ?_
    | with_reducible refine foldl_fst_held _ ?_ _ _ ?_ | with_reducible refine fst_held (by assumption) ?_ | split | dsimp only | intro _ _ _ _
    | intro _ _ _
theorem held_execLiningDrill (ln : Ln) (us : Nat) (s : State) (hw2 : Held pq s.regs s.pending) : Keeps pq (execLiningDrill ln us s) := by
  unfold execLiningDrill
  repeat' first
    | with_reducible assumption | with_reducible refine keeps_next ?_ | with_reducible refine State.cmdThen_held _ _ _ _ _ _ _ ?_ ?_
    | with_reducible refine State.drill_held _ ?_ | with_reducible refine fst_held (by assumption) ?_ | with_reducible refine ite_held ?_ ?_
    | with_reducible refine ite_fst_held ?_ ?_ | with_reducible refine ite_keeps ?_ ?_ | split | dsimp only | intro _ _ _ _ | intro _ _ _
    | intro _ _
theorem held_execFlashCfg (ln : Ln) (attrs : MoverAttrs) (us : Nat) (s : State) (hw3 : Held pq s.regs s.pending) : Keeps pq (execFlashCfg ln attrs us s) := by
  unfold execFlashCfg
  repeat' first
    | with_reducible assumption | with_reducible refine keeps_next ?_ | with_reducible refine State.cmd_held _ _ _ _ _ _ ?_ ?_
    | with_reducible refine State.gcMode_held _ ?_ | with_reducible refine State.keepIf_held _ _ _ ?_
    | with_reducible refine fst_held (by assumption) ?_ | with_reducible refine ite_held ?_ ?_ | with_reducible refine ite_fst_held ?_ ?_
    | with_reducible refine ite_keeps ?_ ?_ | split | dsimp only | intro _ _ _ _ | intro _ _ _ | intro _ _
theorem held_execLiningCfg (ln : Ln) (attrs : LiningAttrs) (us : Nat) (s : State) (hw3 : Held pq s.regs s.pending) : Keeps pq (execLiningCfg ln attrs us s) := by
  unfold execLiningCfg
  repeat' first
    | with_reducible assumption | with_reducible refine keeps_next ?_ | with_reducible refine State.cmd_held _ _ _ _ _ _ ?_ ?_
    | with_reducible refine State.configLining_held _ _ ?_ | with_reducible refine fst_held (by assumption) ?_
    | with_reducible refine ite_held ?_ ?_ | with_reducible refine ite_fst_held ?_ ?_ | with_reducible refine ite_keeps ?_ ?_ | split | dsimp only
    | intro _ _ _ _ | intro _ _ _ | intro _ _
theorem held_execEccCfg (ln : Ln) (attrs : EccAttrs) (us : Nat) (s : State) (hw3 : Held pq s.regs s.pending) : Keeps pq (execEccCfg ln attrs us s) := by
  unfold execEccCfg
  repeat' first
    | with_reducible assumption | with_reducible refine keeps_next ?_ | with_reducible refine State.cmd_held _ _ _ _ _ _ ?_ ?_
    | with_reducible refine State.keepIf_held _ _ _ ?_ | with_reducible refine State.showStrengths_held _ ?_
    | with_reducible refine fst_held (by assumption) ?_ | with_reducible refine map_held ?_ | with_reducible refine bind_held ?_ ?_
    | with_reducible refine some_held ?_ (by assumption) | with_reducible refine ite_held ?_ ?_ | with_reducible refine ite_fst_held ?_ ?_
    | with_reducible refine ite_keeps ?_ ?_ | split | dsimp only | intro _ _ _ _ | intro _ _ _ | intro _ _
theorem held_execFlashFormat (ln : Ln) (confirm : Nat) (us : Nat) (s : State) (hw3 : Held pq s.regs s.pending) : Keeps pq (execFlashFormat ln confirm us s) := by
  unfold execFlashFormat
  repeat' first
    | with_reducible assumption | with_reducible refine keeps_next ?_ | with_reducible refine State.cmd_held _ _ _ _ _ _ ?_ ?_
    | with_reducible refine fst_held (by assumption) ?_ | with_reducible refine ite_held ?_ ?_ | with_reducible refine ite_fst_held ?_ ?_
    | with_reducible refine ite_keeps ?_ ?_ | split | dsimp only | intro _ _ _ _ | intro _ _ _ | intro _ _
theorem held_execFlashDie (ln : Ln) (ch : Nat) (us : Nat) (s : State) (hw3 : Held pq s.regs s.pending) : Keeps pq (execFlashDie ln ch us s) := by
  unfold execFlashDie
  repeat' first
    | with_reducible assumption | with_reducible refine keeps_next ?_ | with_reducible refine State.cmd_held _ _ _ _ _ _ ?_ ?_
    | with_reducible refine fst_held (by assumption) ?_ | with_reducible refine ite_held ?_ ?_ | with_reducible refine ite_fst_held ?_ ?_
    | with_reducible refine ite_keeps ?_ ?_ | split | dsimp only | intro _ _ _ _ | intro _ _ _ | intro _ _
theorem held_execDramMasks (ln : Ln) (cs : Nat) (bg0 : Nat) (bg1 : Nat) (bg2 : Nat) (ba0 : Nat) (ba1 : Nat) (us : Nat) (s : State) (hw8 : Held pq s.regs s.pending) : Keeps pq (execDramMasks ln cs bg0 bg1 bg2 ba0 ba1 us s) := by
  unfold execDramMasks
  repeat' first
    | with_reducible assumption | with_reducible refine keeps_next ?_ | with_reducible refine State.cmd_held _ _ _ _ _ _ ?_ ?_
    | with_reducible refine fst_held (by assumption) ?_ | with_reducible refine ite_held ?_ ?_ | with_reducible refine ite_fst_held ?_ ?_
    | with_reducible refine ite_keeps ?_ ?_ | split | dsimp only | intro _ _ _ _ | intro _ _ _ | intro _ _
theorem held_execEccInject (ln : Ln) (target : Nat) (unit : Option Nat) (bits : Option Nat) (us : Nat) (s : State) (hw5 : Held pq s.regs s.pending) : Keeps pq (execEccInject ln target unit bits us s) := by
  unfold execEccInject
  repeat' first
    | with_reducible assumption | with_reducible refine keeps_next ?_ | with_reducible refine State.armInjection_held _ _ _ _ ?_
    | with_reducible refine State.cmd_held _ _ _ _ _ _ ?_ ?_ | with_reducible refine fst_held (by assumption) ?_
    | with_reducible refine ite_held ?_ ?_ | with_reducible refine ite_fst_held ?_ ?_ | with_reducible refine ite_keeps ?_ ?_ | split | dsimp only
    | intro _ _ _ _ | intro _ _ _ | intro _ _
theorem held_execEccInjArm (target : Nat) (unit : Nat) (bits : Nat) (p1 : Bool) (s : State) (hw4 : Held pq s.regs s.pending) : Keeps pq (execEccInjArm target unit bits p1 s) := by
  unfold execEccInjArm
  repeat' first
    | with_reducible assumption | with_reducible refine keeps_next ?_ | with_reducible refine State.set_held _ _ _ ?_
    | with_reducible refine State.armInjection_held _ _ _ _ ?_ | with_reducible refine fst_held (by assumption) ?_
    | with_reducible refine ite_held ?_ ?_ | with_reducible refine ite_fst_held ?_ ?_ | with_reducible refine ite_keeps ?_ ?_
theorem held_execLiningProbe (ln : Ln) (us : Nat) (s : State) (hw2 : Held pq s.regs s.pending) : Keeps pq (execLiningProbe ln us s) := by
  unfold execLiningProbe
  repeat' first
    | with_reducible assumption | with_reducible refine keeps_next ?_ | with_reducible refine State.cmd_held _ _ _ _ _ _ ?_ ?_
    | with_reducible refine State.startProbe_held _ ?_ | with_reducible refine fst_held (by assumption) ?_ | with_reducible refine ite_held ?_ ?_
    | with_reducible refine ite_fst_held ?_ ?_ | with_reducible refine ite_keeps ?_ ?_ | split | dsimp only | intro _ _ _ _ | intro _ _ _
    | intro _ _
theorem held_execTwinSwap (ln : Ln) (us : Nat) (s : State) (hw2 : Held pq s.regs s.pending) : Keeps pq (execTwinSwap ln us s) := by
  unfold execTwinSwap
  repeat' first
    | with_reducible assumption | with_reducible refine keeps_next ?_ | with_reducible refine State.cmd_held _ _ _ _ _ _ ?_ ?_
    | with_reducible refine State.sendHold_held _ _ ?_ | with_reducible refine State.swapGo_held _ ?_
    | with_reducible refine fst_held (by assumption) ?_ | with_reducible refine ite_held ?_ ?_ | with_reducible refine ite_fst_held ?_ ?_
    | with_reducible refine ite_keeps ?_ ?_ | split | dsimp only | intro _ _ _ _ | intro _ _ _ | intro _ _
theorem State.tellPocket_held (s : State) (p : Nat) (k : Pocket) (hw0 : Held pq s.regs s.pending) : Held pq (State.tellPocket s p k).regs (State.tellPocket s p k).pending := by
  unfold State.tellPocket
  repeat' first
    | with_reducible assumption | with_reducible refine State.tell_held _ _ _ ?_ | with_reducible refine foldl_held _ ?_ _ _ ?_
    | with_reducible refine foldl_fst_held _ ?_ _ _ ?_ | with_reducible refine fst_held (by assumption) ?_ | with_reducible refine ite_held ?_ ?_
    | with_reducible refine ite_fst_held ?_ ?_ | split | dsimp only | intro _ _ _ _ | intro _ _ _
theorem State.tellInteg_held (s : State) (p : Nat) (slot : Option Nat) (hw0 : Held pq s.regs s.pending) : Held pq (State.tellInteg s p slot).regs (State.tellInteg s p slot).pending := by
  unfold State.tellInteg
  repeat' first
    | with_reducible assumption | with_reducible refine State.tell_held _ _ _ ?_
theorem State.resendConf_held (s : State) (hw0 : Held pq s.regs s.pending) : Held pq (State.resendConf s).regs (State.resendConf s).pending := by
  unfold State.resendConf
  repeat' first
    | with_reducible assumption | with_reducible refine State.tellInteg_held _ _ _ ?_ | with_reducible refine State.tellKey_held _ _ ?_
    | with_reducible refine State.tellPocket_held _ _ _ ?_ | with_reducible refine foldl_held _ ?_ _ _ ?_
    | with_reducible refine foldl_fst_held _ ?_ _ _ ?_ | with_reducible refine fst_held (by assumption) ?_ | with_reducible refine ite_held ?_ ?_
    | with_reducible refine ite_fst_held ?_ ?_ | split | dsimp only | intro _ _ _ _ | intro _ _ _
theorem State.beginDarning_held (s : State) (next : Nat) (keep : Bool) (hw0 : Held pq s.regs s.pending) : Held pq (State.beginDarning s next keep).regs (State.beginDarning s next keep).pending := by
  unfold State.beginDarning
  repeat' first
    | with_reducible assumption | with_reducible refine State.markAll_held _ ?_ | with_reducible refine State.resendConf_held _ ?_
    | with_reducible refine State.showTwin_held _ _ ?_ | with_reducible refine fst_held (by assumption) ?_ | with_reducible refine ite_held ?_ ?_
theorem State.pairedPrimary_held (s : State) (g : Pairing) (serial : Nat) (hw0 : Held pq s.regs s.pending) : Held pq (State.pairedPrimary s g serial).regs (State.pairedPrimary s g serial).pending := by
  unfold State.pairedPrimary
  repeat' first
    | with_reducible assumption | with_reducible refine State.beginDarning_held _ _ _ ?_ | with_reducible refine State.confRecord_held _ ?_
    | with_reducible refine State.notify_held _ _ _ ?_ | with_reducible refine State.pairAnswered_held _ ?_
    | with_reducible refine fst_held (by assumption) ?_ | with_reducible refine ite_held ?_ ?_
theorem held_execMantleShow (ln : Ln) (us : Nat) (s : State) (hw2 : Held pq s.regs s.pending) : Keeps pq (execMantleShow ln us s) := by
  unfold execMantleShow
  repeat' first
    | with_reducible assumption | with_reducible refine keeps_next ?_ | with_reducible refine State.cmd_held _ _ _ _ _ _ ?_ ?_
    | with_reducible refine fst_held (by assumption) ?_ | with_reducible refine ite_held ?_ ?_ | with_reducible refine ite_fst_held ?_ ?_
    | with_reducible refine ite_keeps ?_ ?_ | split | dsimp only | intro _ _ _ _ | intro _ _ _ | intro _ _
theorem held_execRingCfg (ln : Ln) (join : Option Bool) (force : Bool) (rate : Option Nat) (lanes : Option Nat) (share : Option Nat) (us : Nat) (s : State) (hw7 : Held pq s.regs s.pending) : Keeps pq (execRingCfg ln join force rate lanes share us s) := by
  unfold execRingCfg
  repeat' first
    | with_reducible assumption | with_reducible refine keeps_next ?_ | with_reducible refine State.cmd_held _ _ _ _ _ _ ?_ ?_
    | with_reducible refine State.keepIf_held _ _ _ ?_ | with_reducible refine State.notify_held _ _ _ ?_
    | with_reducible refine State.seamCheck_held _ ?_ | with_reducible refine fst_held (by assumption) ?_ | with_reducible refine map_held ?_
    | with_reducible refine bind_held ?_ ?_ | with_reducible refine some_held ?_ (by assumption) | with_reducible refine ite_held ?_ ?_
    | with_reducible refine ite_fst_held ?_ ?_ | with_reducible refine ite_keeps ?_ ?_ | split | dsimp only | intro _ _ _ _ | intro _ _ _
    | intro _ _
theorem held_execMantleRelay (ln : Ln) (slot : Nat) (text : String) (us : Nat) (s : State) (hw4 : Held pq s.regs s.pending) : Keeps pq (execMantleRelay ln slot text us s) := by
  unfold execMantleRelay
  repeat' first
    | with_reducible assumption | with_reducible refine keeps_next ?_ | with_reducible refine State.cmd_held _ _ _ _ _ _ ?_ ?_
    | with_reducible refine State.ringSend_held _ _ _ _ _ _ ?_ | with_reducible refine fst_held (by assumption) ?_
    | with_reducible refine ite_held ?_ ?_ | with_reducible refine ite_fst_held ?_ ?_ | with_reducible refine ite_keeps ?_ ?_ | split | dsimp only
    | intro _ _ _ _ | intro _ _ _ | intro _ _
theorem held_execTwinSwapTimeout (us : Nat) (s : State) (hw1 : Held pq s.regs s.pending) : Keeps pq (execTwinSwapTimeout us s) := by
  unfold execTwinSwapTimeout
  repeat' first
    | with_reducible assumption | with_reducible refine keeps_next ?_ | with_reducible refine State.at_held _ _ ?_
    | with_reducible refine State.finishFor_held _ _ _ ?_ | with_reducible refine fst_held (by assumption) ?_ | with_reducible refine ite_held ?_ ?_
    | with_reducible refine ite_fst_held ?_ ?_ | with_reducible refine ite_keeps ?_ ?_ | split | dsimp only
theorem held_execMantleRelayTimeout (us : Nat) (s : State) (hw1 : Held pq s.regs s.pending) : Keeps pq (execMantleRelayTimeout us s) := by
  unfold execMantleRelayTimeout
  repeat' first
    | with_reducible assumption | with_reducible refine keeps_next ?_ | with_reducible refine State.at_held _ _ ?_
    | with_reducible refine State.finishFor_held _ _ _ ?_ | with_reducible refine foldl_held _ ?_ _ _ ?_
    | with_reducible refine foldl_fst_held _ ?_ _ _ ?_ | with_reducible refine fst_held (by assumption) ?_ | split | dsimp only | intro _ _ _ _
    | intro _ _ _
theorem held_execTwinOffer (ln : Ln) (wk : Nat) (kcvNum : Nat) (cap : Nat) (serial : Nat) (us : Nat) (s : State) (hw6 : Held pq s.regs s.pending) : Keeps pq (execTwinOffer ln wk kcvNum cap serial us s) := by
  unfold execTwinOffer
  repeat' first
    | with_reducible assumption | with_reducible refine keeps_next ?_ | with_reducible refine State.cmd_held _ _ _ _ _ _ ?_ ?_
    | with_reducible refine State.pairRefused_held _ _ _ ?_ | with_reducible refine State.pairedPrimary_held _ _ _ ?_
    | with_reducible refine fst_held (by assumption) ?_ | with_reducible refine ite_held ?_ ?_ | with_reducible refine ite_fst_held ?_ ?_
    | with_reducible refine ite_keeps ?_ ?_ | split | dsimp only | intro _ _ _ _ | intro _ _ _ | intro _ _
theorem held_execTwinPairLapse (us : Nat) (s : State) (hw1 : Held pq s.regs s.pending) : Keeps pq (execTwinPairLapse us s) := by
  unfold execTwinPairLapse
  repeat' first
    | with_reducible assumption | with_reducible refine keeps_next ?_ | with_reducible refine State.at_held _ _ ?_
    | with_reducible refine State.lapsePair_held _ ?_ | with_reducible refine fst_held (by assumption) ?_ | with_reducible refine ite_held ?_ ?_
    | with_reducible refine ite_fst_held ?_ ?_ | with_reducible refine ite_keeps ?_ ?_ | split | dsimp only
theorem State.swapIn_held (s : State) (hw0 : Held pq s.regs s.pending) : Held pq (State.swapIn s).regs (State.swapIn s).pending := by
  unfold State.swapIn
  repeat' first
    | with_reducible assumption | with_reducible refine State.confRecord_held _ ?_ | with_reducible refine State.notify_held _ _ _ ?_
    | with_reducible refine State.showTwin_held _ _ ?_ | with_reducible refine fst_held (by assumption) ?_ | split
theorem State.sendOffer_held (s : State) (hw0 : Held pq s.regs s.pending) : Held pq (State.sendOffer s).regs (State.sendOffer s).pending := by
  unfold State.sendOffer
  repeat' first
    | with_reducible assumption | with_reducible refine State.ringSend_held _ _ _ _ _ _ ?_ | with_reducible refine fst_held (by assumption) ?_
    | with_reducible refine ite_held ?_ ?_ | with_reducible refine ite_fst_held ?_ ?_ | split
theorem held_execTwinOfferSend (us : Nat) (s : State) (hw1 : Held pq s.regs s.pending) : Keeps pq (execTwinOfferSend us s) := by
  unfold execTwinOfferSend
  repeat' first
    | with_reducible assumption | with_reducible refine keeps_next ?_ | with_reducible refine State.at_held _ _ ?_
    | with_reducible refine State.sendOffer_held _ ?_
theorem held_execTwinPair (ln : Ln) (slot : Nat) (primary : Bool) (wk : Nat) (second : Bool) (us : Nat) (s : State) (hw6 : Held pq s.regs s.pending) : Keeps pq (execTwinPair ln slot primary wk second us s) := by
  unfold execTwinPair
  repeat' first
    | with_reducible assumption | with_reducible refine keeps_next ?_ | with_reducible refine State.cmd_held _ _ _ _ _ _ ?_ ?_
    | with_reducible refine State.sendOffer_held _ ?_ | with_reducible refine fst_held (by assumption) ?_ | with_reducible refine ite_held ?_ ?_
    | with_reducible refine ite_fst_held ?_ ?_ | with_reducible refine ite_keeps ?_ ?_ | split | dsimp only | intro _ _ _ _ | intro _ _ _
    | intro _ _
theorem held_execTwinPairItem (durable : Nat) (clean : Bool) (served : Bool) (fresh : Bool) (us : Nat) (s : State) (hw5 : Held pq s.regs s.pending) : Keeps pq (execTwinPairItem durable clean served fresh us s) := by
  unfold execTwinPairItem
  repeat' first
    | with_reducible assumption | with_reducible refine keeps_next ?_ | with_reducible refine State.at_held _ _ ?_
    | with_reducible refine State.beginDarning_held _ _ _ ?_ | with_reducible refine fst_held (by assumption) ?_
    | with_reducible refine ite_held ?_ ?_ | with_reducible refine ite_fst_held ?_ ?_ | with_reducible refine ite_keeps ?_ ?_
theorem State.setInteg_held (s : State) (p : Nat) (slot : Option Nat) (hw0 : Held pq s.regs s.pending) : Held pq (State.setInteg s p slot).1.regs (State.setInteg s p slot).1.pending := by
  unfold State.setInteg
  repeat' first
    | with_reducible assumption | with_reducible refine State.setPocket_held _ _ _ ?_ | with_reducible refine State.tellInteg_held _ _ _ ?_
    | with_reducible refine fst_held (by assumption) ?_ | with_reducible refine ite_held ?_ ?_ | with_reducible refine ite_fst_held ?_ ?_ | split
theorem State.doLine_held (s : State) (fuelN : TwinCmd) (hw0 : Held pq s.regs s.pending) : Held pq (State.doLine s fuelN).1.regs (State.doLine s fuelN).1.pending := by
  unfold State.doLine
  repeat' first
    | with_reducible assumption | with_reducible refine State.alterPocket_held _ _ _ ?_ | with_reducible refine State.alterQueue_held _ _ _ ?_
    | with_reducible refine State.configCache_held _ _ ?_ | with_reducible refine State.createPocket_held _ _ _ ?_
    | with_reducible refine State.createQueue_held _ _ _ _ ?_ | with_reducible refine State.deletePocket_held _ _ ?_
    | with_reducible refine State.deleteQueue_held _ _ ?_ | with_reducible refine State.eraseKey_held _ _ ?_
    | with_reducible refine State.loadWrapped_held _ _ _ _ _ _ ?_ | with_reducible refine State.setInteg_held _ _ _ ?_
    | with_reducible refine State.setShare_held _ _ _ ?_ | with_reducible refine State.showTwin_held _ _ ?_
    | with_reducible refine State.turnPocket_held _ _ _ _ _ ?_ | with_reducible refine fst_held (by assumption) ?_
    | with_reducible refine ite_held ?_ ?_ | with_reducible refine ite_fst_held ?_ ?_ | split
theorem State.lineAfter_held (s : State) (fuelN : TwinCmd) (hw0 : Held pq s.regs s.pending) : Held pq (State.lineAfter s fuelN).regs (State.lineAfter s fuelN).pending := by
  unfold State.lineAfter
  repeat' first
    | with_reducible assumption | with_reducible refine State.leaveTwin_held _ ?_ | with_reducible refine State.swapIn_held _ ?_
    | with_reducible refine fst_held (by assumption) ?_ | split
theorem held_execTwinLine (tseq : Nat) (cmd : TwinCmd) (us : Nat) (s : State) (hw3 : Held pq s.regs s.pending) : Keeps pq (execTwinLine tseq cmd us s) := by
  unfold execTwinLine
  repeat' first
    | with_reducible assumption | with_reducible refine keeps_next ?_ | with_reducible refine State.at_held _ _ ?_
    | with_reducible refine State.confRecord_held _ ?_ | with_reducible refine State.doLine_held _ _ ?_
    | with_reducible refine State.itemApplied_held _ ?_ | with_reducible refine State.itemHeard_held _ _ ?_
    | with_reducible refine State.itemRefused_held _ _ ?_ | with_reducible refine State.lineAfter_held _ _ ?_
    | with_reducible refine State.pairAnswered_held _ ?_ | with_reducible refine fst_held (by assumption) ?_ | with_reducible refine ite_held ?_ ?_
    | with_reducible refine ite_fst_held ?_ ?_ | with_reducible refine ite_keeps ?_ ?_ | split | dsimp only
theorem held_execTwinUnpair (ln : Ln) (us : Nat) (s : State) (hw2 : Held pq s.regs s.pending) : Keeps pq (execTwinUnpair ln us s) := by
  unfold execTwinUnpair
  repeat' first
    | with_reducible assumption | with_reducible refine keeps_next ?_ | with_reducible refine State.cmd_held _ _ _ _ _ _ ?_ ?_
    | with_reducible refine State.leaveTwin_held _ ?_ | with_reducible refine State.mirrorLine_held _ _ ?_
    | with_reducible refine State.sendHold_held _ _ ?_ | with_reducible refine State.settle_held _ ?_
    | with_reducible refine fst_held (by assumption) ?_ | with_reducible refine ite_held ?_ ?_ | with_reducible refine ite_fst_held ?_ ?_
    | with_reducible refine ite_keeps ?_ ?_ | split | dsimp only | intro _ _ _ _ | intro _ _ _ | intro _ _
theorem held_execTwinTakeover (ln : Ln) (us : Nat) (s : State) (hw2 : Held pq s.regs s.pending) : Keeps pq (execTwinTakeover ln us s) := by
  unfold execTwinTakeover
  repeat' first
    | with_reducible assumption | with_reducible refine keeps_next ?_ | with_reducible refine State.cmd_held _ _ _ _ _ _ ?_ ?_
    | with_reducible refine State.takeover_held _ ?_ | with_reducible refine fst_held (by assumption) ?_ | with_reducible refine ite_held ?_ ?_
    | with_reducible refine ite_fst_held ?_ ?_ | with_reducible refine ite_keeps ?_ ?_ | split | dsimp only | intro _ _ _ _ | intro _ _ _
    | intro _ _
theorem held_execRingShow (ln : Ln) (us : Nat) (s : State) (hw2 : Held pq s.regs s.pending) : Keeps pq (execRingShow ln us s) := by
  unfold execRingShow
  repeat' first
    | with_reducible assumption | with_reducible refine keeps_next ?_ | with_reducible refine State.cmd_held _ _ _ _ _ _ ?_ ?_
    | with_reducible refine fst_held (by assumption) ?_ | split | dsimp only | intro _ _ _ _ | intro _ _ _ | intro _ _
theorem held_execTwinShow (ln : Ln) (us : Nat) (s : State) (hw2 : Held pq s.regs s.pending) : Keeps pq (execTwinShow ln us s) := by
  unfold execTwinShow
  repeat' first
    | with_reducible assumption | with_reducible refine keeps_next ?_ | with_reducible refine State.cmd_held _ _ _ _ _ _ ?_ ?_
    | with_reducible refine fst_held (by assumption) ?_ | with_reducible refine ite_held ?_ ?_ | with_reducible refine ite_fst_held ?_ ?_
    | with_reducible refine ite_keeps ?_ ?_ | split | dsimp only | intro _ _ _ _ | intro _ _ _ | intro _ _
theorem held_execTwinInteg (ln : Ln) (pocket : Nat) (slot : Option Nat) (us : Nat) (s : State) (hw4 : Held pq s.regs s.pending) : Keeps pq (execTwinInteg ln pocket slot us s) := by
  unfold execTwinInteg
  repeat' first
    | with_reducible assumption | with_reducible refine keeps_next ?_ | with_reducible refine State.confCmd_held _ _ _ _ _ _ ?_ ?_
    | with_reducible refine State.setInteg_held _ _ _ ?_ | with_reducible refine fst_held (by assumption) ?_ | split | dsimp only | intro _ _ _ _
    | intro _ _ _ | intro _ _
theorem held_execRingRetrain (ln : Ln) (east : Bool) (west : Bool) (us : Nat) (s : State) (hw4 : Held pq s.regs s.pending) : Keeps pq (execRingRetrain ln east west us s) := by
  unfold execRingRetrain
  repeat' first
    | with_reducible assumption | with_reducible refine keeps_next ?_ | with_reducible refine State.cmdThen_held _ _ _ _ _ _ _ ?_ ?_
    | with_reducible refine State.negotiateHop_held _ _ ?_ | with_reducible refine fst_held (by assumption) ?_
    | with_reducible refine ite_held ?_ ?_ | with_reducible refine ite_fst_held ?_ ?_ | with_reducible refine ite_keeps ?_ ?_ | split | dsimp only
    | intro _ _ _ _ | intro _ _ _ | intro _ _
theorem held_execMantleRead (ln : Ln) (slot : Nat) (pocket : Nat) (minute : Option Nat) (us : Nat) (s : State) (hw5 : Held pq s.regs s.pending) : Keeps pq (execMantleRead ln slot pocket minute us s) := by
  unfold execMantleRead
  repeat' first
    | with_reducible assumption | with_reducible refine keeps_next ?_ | with_reducible refine State.cmd_held _ _ _ _ _ _ ?_ ?_
    | with_reducible refine fst_held (by assumption) ?_ | with_reducible refine ite_held ?_ ?_ | with_reducible refine ite_fst_held ?_ ?_
    | with_reducible refine ite_keeps ?_ ?_ | split | dsimp only | intro _ _ _ _ | intro _ _ _ | intro _ _
theorem held_execLifeShow (ln : Ln) (us : Nat) (s : State) (hw2 : Held pq s.regs s.pending) : Keeps pq (execLifeShow ln us s) := by
  unfold execLifeShow
  repeat' first
    | with_reducible assumption | with_reducible refine keeps_next ?_ | with_reducible refine State.cmd_held _ _ _ _ _ _ ?_ ?_
    | with_reducible refine fst_held (by assumption) ?_ | split | dsimp only | intro _ _ _ _ | intro _ _ _ | intro _ _
theorem held_execBistRun (ln : Ln) (swatch : Nat) (dom : Nat) (us : Nat) (s : State) (hw4 : Held pq s.regs s.pending) : Keeps pq (execBistRun ln swatch dom us s) := by
  unfold execBistRun
  repeat' first
    | with_reducible assumption | with_reducible refine keeps_next ?_ | with_reducible refine State.beginRun_held _ _ _ _ _ ?_
    | with_reducible refine State.cmd_held _ _ _ _ _ _ ?_ ?_ | with_reducible refine fst_held (by assumption) ?_
    | with_reducible refine ite_held ?_ ?_ | with_reducible refine ite_fst_held ?_ ?_ | with_reducible refine ite_keeps ?_ ?_ | split | dsimp only
    | intro _ _ _ _ | intro _ _ _ | intro _ _
theorem held_execBistShow (ln : Ln) (swatch : Nat) (us : Nat) (s : State) (hw3 : Held pq s.regs s.pending) : Keeps pq (execBistShow ln swatch us s) := by
  unfold execBistShow
  repeat' first
    | with_reducible assumption | with_reducible refine keeps_next ?_ | with_reducible refine State.cmd_held _ _ _ _ _ _ ?_ ?_
    | with_reducible refine fst_held (by assumption) ?_ | with_reducible refine ite_held ?_ ?_ | with_reducible refine ite_fst_held ?_ ?_
    | with_reducible refine ite_keeps ?_ ?_ | split | dsimp only | intro _ _ _ _ | intro _ _ _ | intro _ _
theorem held_execBistList (ln : Ln) (us : Nat) (s : State) (hw2 : Held pq s.regs s.pending) : Keeps pq (execBistList ln us s) := by
  unfold execBistList
  repeat' first
    | with_reducible assumption | with_reducible refine keeps_next ?_ | with_reducible refine State.cmd_held _ _ _ _ _ _ ?_ ?_
    | with_reducible refine fst_held (by assumption) ?_ | split | dsimp only | intro _ _ _ _ | intro _ _ _ | intro _ _
theorem held_execLifeSet (ln : Ln) (target : Nat) (confirm : Nat) (us : Nat) (s : State) (hw4 : Held pq s.regs s.pending) : Keeps pq (execLifeSet ln target confirm us s) := by
  unfold execLifeSet
  repeat' first
    | with_reducible assumption | with_reducible refine keeps_next ?_ | with_reducible refine State.beginLife_held _ _ _ ?_
    | with_reducible refine State.cmd_held _ _ _ _ _ _ ?_ ?_ | with_reducible refine fst_held (by assumption) ?_
    | with_reducible refine ite_held ?_ ?_ | with_reducible refine ite_fst_held ?_ ?_ | with_reducible refine ite_keeps ?_ ?_ | split | dsimp only
    | intro _ _ _ _ | intro _ _ _ | intro _ _
theorem State.plainWrite_held (s : State) (core : Nat) (a : Nat) (new : BitVec 32) (hw0 : Held pq s.regs s.pending) : Held pq (State.plainWrite s core a new).regs (State.plainWrite s core a new).pending := by
  unfold State.plainWrite
  repeat' first
    | with_reducible assumption | with_reducible refine State.setWord_held _ _ _ ?_
theorem State.unitWrite_held (s : State) (core : Nat) (a : Nat) (p1 : Bool) (w : BitVec 32) (got : List Nat) (hw0 : Held pq s.regs s.pending) : Held pq (State.unitWrite s core a p1 w got).regs (State.unitWrite s core a p1 w got).pending := by
  unfold State.unitWrite
  repeat' first
    | with_reducible assumption | with_reducible refine State.set_held _ _ _ ?_ | with_reducible refine State.armInjection_held _ _ _ _ ?_
    | with_reducible refine State.bistCtl_held _ _ _ _ ?_ | with_reducible refine State.lcsCtl_held _ _ _ _ ?_
    | with_reducible refine State.patternRun_held _ _ _ _ _ _ ?_ | with_reducible refine State.plainWrite_held _ _ _ _ ?_
    | with_reducible refine State.showStrengths_held _ ?_ | with_reducible refine fst_held (by assumption) ?_ | with_reducible refine ite_held ?_ ?_
theorem State.sramChecked_held (s : State) (core : Nat) (p1 : Bool) (a : Nat) (bytes : Nat) (hw0 : Held pq s.regs s.pending) : Held pq (State.sramChecked s core p1 a bytes).1.regs (State.sramChecked s core p1 a bytes).1.pending := by
  unfold State.sramChecked
  repeat' first
    | with_reducible assumption | with_reducible refine State.count_held _ _ _ ?_ | with_reducible refine State.sramLost_held _ _ _ _ _ _ ?_
    | with_reducible refine fst_held (by assumption) ?_ | with_reducible refine ite_held ?_ ?_ | with_reducible refine ite_fst_held ?_ ?_ | split
    | dsimp only
theorem State.took_held (s : State) (v : Nat) (hw0 : Held pq s.regs s.pending) : Held pq (State.took s v).regs (State.took s v).pending := by
  unfold State.took
  exact hw0
theorem State.windowCheck_held (s : State) (core : Nat) (p1 : Bool) (a : Nat) (wr : Bool) (hw0 : Held pq s.regs s.pending) : Held pq (State.windowCheck s core p1 a wr).1.regs (State.windowCheck s core p1 a wr).1.pending := by
  unfold State.windowCheck
  repeat' first
    | with_reducible assumption | with_reducible refine State.accessLost_held _ _ _ ?_
    | with_reducible refine State.colourFault_held _ _ _ _ _ _ _ _ _ ?_ | with_reducible refine State.settle_held _ ?_
    | with_reducible refine State.tagFetch_held _ _ _ _ ?_ | with_reducible refine fst_held (by assumption) ?_
    | with_reducible refine ite_held ?_ ?_ | with_reducible refine ite_fst_held ?_ ?_ | split
theorem State.dreqWrite_held (s : State) (a : Nat) (w : BitVec 32) (hw0 : Held pq s.regs s.pending) : Held pq (State.dreqWrite s a w).regs (State.dreqWrite s a w).pending := by
  unfold State.dreqWrite
  repeat' first
    | with_reducible assumption | with_reducible refine State.domainOff_held _ _ _ _ _ _ ?_ | with_reducible refine State.domainOn_held _ _ _ ?_
    | with_reducible refine State.domainReset_held _ _ _ _ ?_ | with_reducible refine State.dreq_held _ _ _ _ _ ?_ ?_
    | with_reducible refine State.plainWrite_held _ _ _ _ ?_ | with_reducible refine fst_held (by assumption) ?_
    | with_reducible refine ite_held ?_ ?_ | with_reducible refine ite_fst_held ?_ ?_ | split | dsimp only | intro _ _ _ _ | intro _ _ _ | intro _ _
theorem State.powerWrite_held (s : State) (core : Nat) (a : Nat) (w : BitVec 32) (hw0 : Held pq s.regs s.pending) : Held pq (State.powerWrite s core a w).regs (State.powerWrite s core a w).pending := by
  unfold State.powerWrite
  repeat' first
    | with_reducible assumption | with_reducible refine State.set_held _ _ _ ?_ | with_reducible refine State.setWord_held _ _ _ ?_
    | with_reducible refine State.dreqWrite_held _ _ _ ?_ | with_reducible refine State.drill_held _ ?_
    | with_reducible refine State.plainWrite_held _ _ _ _ ?_ | with_reducible refine State.retlogClear_held _ ?_
    | with_reducible refine State.startProbe_held _ ?_ | with_reducible refine State.writeLinCfg_held _ _ ?_
    | with_reducible refine fst_held (by assumption) ?_ | with_reducible refine ite_held ?_ ?_
theorem State.bankWrite_held (s : State) (core : Nat) (a : Nat) (p1 : Bool) (w : BitVec 32) (hw0 : Held pq s.regs s.pending) : Held pq (State.bankWrite s core a p1 w).regs (State.bankWrite s core a p1 w).pending := by
  unfold State.bankWrite
  repeat' first
    | with_reducible assumption | with_reducible refine State.bselWrite_held _ _ _ _ ?_ | with_reducible refine State.plainWrite_held _ _ _ _ ?_
    | with_reducible refine State.pselWrite_held _ _ _ _ ?_ | with_reducible refine State.rawBlock_held _ _ _ _ _ ?_
    | with_reducible refine State.tagWrite_held _ _ _ ?_ | with_reducible refine fst_held (by assumption) ?_ | with_reducible refine ite_held ?_ ?_
theorem State.mpuWrite_held (s : State) (core : Nat) (a : Nat) (w : BitVec 32) (hw0 : Held pq s.regs s.pending) : Held pq (State.mpuWrite s core a w).regs (State.mpuWrite s core a w).pending := by
  unfold State.mpuWrite
  repeat' first
    | with_reducible assumption | with_reducible refine State.plainWrite_held _ _ _ _ ?_ | with_reducible refine fst_held (by assumption) ?_
    | with_reducible refine ite_held ?_ ?_
theorem State.regWrite_held (s : State) (core : Nat) (a : Nat) (p1 : Bool) (w : BitVec 32) (got : List Nat) (us : Nat) (hw0 : Held pq s.regs s.pending) : Held pq (State.regWrite s core a p1 w got us).regs (State.regWrite s core a p1 w got us).pending := by
  unfold State.regWrite
  repeat' first
    | with_reducible assumption | with_reducible refine State.bankWrite_held _ _ _ _ _ ?_ | with_reducible refine State.ctlRetrain_held _ ?_
    | with_reducible refine State.ctsRelease_held _ ?_ | with_reducible refine State.flushMode_held _ ?_
    | with_reducible refine State.mpuWrite_held _ _ _ _ ?_ | with_reducible refine State.plainWrite_held _ _ _ _ ?_
    | with_reducible refine State.powerWrite_held _ _ _ _ ?_ | with_reducible refine State.seamCheck_held _ ?_
    | with_reducible refine State.unitWrite_held _ _ _ _ _ _ ?_ | with_reducible refine State.writeRstctl_held _ _ _ _ ?_
    | with_reducible refine State.writeWdog_held _ _ _ ?_ | with_reducible refine fst_held (by assumption) ?_ | with_reducible refine ite_held ?_ ?_
theorem State.windowLoad_held (s : State) (core : Nat) (p1 : Bool) (a : Nat) (bytes : Nat) (hw0 : Held pq s.regs s.pending) : Held pq (State.windowLoad s core p1 a bytes).regs (State.windowLoad s core p1 a bytes).pending := by
  unfold State.windowLoad
  repeat' first
    | with_reducible assumption | with_reducible refine State.accessLost_held _ _ _ ?_ | with_reducible refine State.settle_held _ ?_
    | with_reducible refine State.took_held _ _ ?_ | with_reducible refine State.useFree_held _ ?_
    | with_reducible refine State.windowCheck_held _ _ _ _ _ ?_ | with_reducible refine fst_held (by assumption) ?_
    | with_reducible refine ite_held ?_ ?_
theorem State.stagingFault_held (s : State) (core : Nat) (p1 : Bool) (a : Nat) (wr : Bool) (hw0 : Held pq s.regs s.pending) : Held pq (State.stagingFault s core p1 a wr).regs (State.stagingFault s core p1 a wr).pending := by
  unfold State.stagingFault
  repeat' first
    | with_reducible assumption | with_reducible refine State.colourFault_held _ _ _ _ _ _ _ _ _ ?_
theorem State.areaLoad_held (s : State) (core : Nat) (p1 : Bool) (a : Nat) (bytes : Nat) (hw0 : Held pq s.regs s.pending) : Held pq (State.areaLoad s core p1 a bytes).regs (State.areaLoad s core p1 a bytes).pending := by
  unfold State.areaLoad
  repeat' first
    | with_reducible assumption | with_reducible refine State.set_held _ _ _ ?_ | with_reducible refine State.count_held _ _ _ ?_
    | with_reducible refine State.sramChecked_held _ _ _ _ _ ?_ | with_reducible refine State.stagingFault_held _ _ _ _ _ ?_
    | with_reducible refine State.took_held _ _ ?_ | with_reducible refine State.windowLoad_held _ _ _ _ _ ?_
    | with_reducible refine fst_held (by assumption) ?_ | with_reducible refine ite_held ?_ ?_ | with_reducible refine ite_fst_held ?_ ?_ | split
theorem State.windowStore_held (s : State) (core : Nat) (p1 : Bool) (a : Nat) (data : Bytes) (hw0 : Held pq s.regs s.pending) : Held pq (State.windowStore s core p1 a data).regs (State.windowStore s core p1 a data).pending := by
  unfold State.windowStore
  repeat' first
    | with_reducible assumption | with_reducible refine State.acceptWrite_held _ _ _ _ _ _ _ _ _ ?_
    | with_reducible refine State.windowCheck_held _ _ _ _ _ ?_ | with_reducible refine fst_held (by assumption) ?_
    | with_reducible refine ite_held ?_ ?_
theorem State.bothWrite_held (s : State) (a : Nat) (w0 : BitVec 32) (w1 : BitVec 32) (p1 : Bool) (got : List Nat) (us : Nat) (hw0 : Held pq s.regs s.pending) : Held pq (State.bothWrite s a w0 w1 p1 got us).regs (State.bothWrite s a w0 w1 p1 got us).pending := by
  unfold State.bothWrite
  repeat' first
    | with_reducible assumption | with_reducible refine State.regWrite_held _ _ _ _ _ _ _ ?_
theorem State.areaStore_held (s : State) (core : Nat) (p1 : Bool) (a : Nat) (data : Bytes) (hw0 : Held pq s.regs s.pending) : Held pq (State.areaStore s core p1 a data).regs (State.areaStore s core p1 a data).pending := by
  unfold State.areaStore
  repeat' first
    | with_reducible assumption | with_reducible refine State.set_held _ _ _ ?_ | with_reducible refine State.count_held _ _ _ ?_
    | with_reducible refine State.sramWrite_held _ _ _ ?_ | with_reducible refine State.stagingFault_held _ _ _ _ _ ?_
    | with_reducible refine State.windowStore_held _ _ _ _ _ ?_ | with_reducible refine fst_held (by assumption) ?_
    | with_reducible refine ite_held ?_ ?_ | with_reducible refine ite_fst_held ?_ ?_ | split
theorem State.busError_held (s : State) (a : Nat) (hw0 : Held pq s.regs s.pending) : Held pq (State.busError s a).regs (State.busError s a).pending := by
  unfold State.busError
  repeat' first
    | with_reducible assumption | with_reducible refine State.set_held _ _ _ ?_ | with_reducible refine State.count_held _ _ _ ?_
theorem State.staleAnswer_held (s : State) (hw0 : Held pq s.regs s.pending) : Held pq (State.staleAnswer s).regs (State.staleAnswer s).pending := by
  unfold State.staleAnswer
  exact hw0
theorem held_execRegisterWrite (core : Nat) (addr : Nat) (bytes : Nat) (p1 : Bool) (epoch : Nat) (word : BitVec 32) (other : Option (BitVec 32)) (got : List Nat) (us : Nat) (s : State) (hw9 : Held pq s.regs s.pending) : Keeps pq (execRegisterWrite core addr bytes p1 epoch word other got us s) := by
  unfold execRegisterWrite
  repeat' first
    | with_reducible assumption | with_reducible refine keeps_next ?_ | with_reducible refine State.areaStore_held _ _ _ _ _ ?_
    | with_reducible refine State.at_held _ _ ?_ | with_reducible refine State.bothWrite_held _ _ _ _ _ _ _ ?_
    | with_reducible refine State.busError_held _ _ ?_ | with_reducible refine State.mpuFault_held _ _ _ _ _ ?_
    | with_reducible refine State.regWrite_held _ _ _ _ _ _ _ ?_ | with_reducible refine State.staleAnswer_held _ ?_
    | with_reducible refine fst_held (by assumption) ?_ | with_reducible refine ite_held ?_ ?_ | with_reducible refine ite_fst_held ?_ ?_
    | with_reducible refine ite_keeps ?_ ?_ | split
theorem State.readClear_held (s : State) (core : Nat) (a : Nat) (hw0 : Held pq s.regs s.pending) : Held pq (State.readClear s core a).regs (State.readClear s core a).pending := by
  unfold State.readClear
  repeat' first
    | with_reducible assumption | with_reducible refine State.setWord_held _ _ _ ?_ | with_reducible refine foldl_held _ ?_ _ _ ?_
    | with_reducible refine foldl_fst_held _ ?_ _ _ ?_ | with_reducible refine fst_held (by assumption) ?_ | with_reducible refine ite_held ?_ ?_
theorem held_execRegisterReadClear (core : Nat) (addr : Nat) (bytes : Nat) (p1 : Bool) (epoch : Nat) (us : Nat) (s : State) (hw6 : Held pq s.regs s.pending) : Keeps pq (execRegisterReadClear core addr bytes p1 epoch us s) := by
  unfold execRegisterReadClear
  repeat' first
    | with_reducible assumption | with_reducible refine keeps_next ?_ | with_reducible refine State.areaLoad_held _ _ _ _ _ ?_
    | with_reducible refine State.at_held _ _ ?_ | with_reducible refine State.busError_held _ _ ?_
    | with_reducible refine State.mpuFault_held _ _ _ _ _ ?_ | with_reducible refine State.readClear_held _ _ _ ?_
    | with_reducible refine State.staleAnswer_held _ ?_ | with_reducible refine State.took_held _ _ ?_
    | with_reducible refine fst_held (by assumption) ?_ | with_reducible refine ite_held ?_ ?_ | with_reducible refine ite_fst_held ?_ ?_
    | with_reducible refine ite_keeps ?_ ?_
theorem held_execPeek (ln : Ln) (target : Target) (n : Option Nat) (us : Nat) (s : State) (hw4 : Held pq s.regs s.pending) : Keeps pq (execPeek ln target n us s) := by
  unfold execPeek
  repeat' first
    | with_reducible assumption | with_reducible refine keeps_next ?_ | with_reducible refine State.cmd_held _ _ _ _ _ _ ?_ ?_
    | with_reducible refine State.readClear_held _ _ _ ?_ | with_reducible refine foldl_held _ ?_ _ _ ?_
    | with_reducible refine foldl_fst_held _ ?_ _ _ ?_ | with_reducible refine fst_held (by assumption) ?_ | with_reducible refine ite_held ?_ ?_
    | with_reducible refine ite_fst_held ?_ ?_ | with_reducible refine ite_keeps ?_ ?_ | split | dsimp only | intro _ _ _ _ | intro _ _ _
    | intro _ _
theorem held_execPoke (ln : Ln) (target : Target) (value : Nat) (got : List Nat) (us : Nat) (s : State) (hw5 : Held pq s.regs s.pending) : Keeps pq (execPoke ln target value got us s) := by
  unfold execPoke
  refine State.cmd_held _ _ _ _ _ _ hw5 fun t ht => ?_
  dsimp only
  exact ite_fst_held ht (ite_fst_held ht (State.regWrite_held _ _ _ _ _ _ _ ht))

end Sys2Proof.Machine
end

