-- ==== Sys2Proof/Laws/State.lean ====
section
/-!
SUPPORT. Sys2Proof/Laws/State.lean: one lemma per field of State per named update, so that no proof unfolds a record update.
-/
namespace Sys2Proof.Machine
open Sys2Proof

/-- A fold of steps that leave a part of the state alone leaves it alone. -/
theorem foldl_same {α β : Type} (g : State → β) (f : State → α → State) (h : ∀ t a, g (f t a) = g t) (l : List α) (s : State) :
    g (l.foldl f s) = g s := by
  induction l generalizing s with
  | nil => rfl
  | cons a l ih => rw [List.foldl_cons, ih, h]

/-! ### State.setWord -/

@[simp] theorem State.setWord_pending (s : State) (a : Nat) (v : BitVec 32) : (s.setWord a v).pending = s.pending := rfl
@[simp] theorem State.setWord_clk (s : State) (a : Nat) (v : BitVec 32) : (s.setWord a v).clk = s.clk := rfl
@[simp] theorem State.setWord_free (s : State) (a : Nat) (v : BitVec 32) : (s.setWord a v).free = s.free := rfl
@[simp] theorem State.setWord_conf (s : State) (a : Nat) (v : BitVec 32) : (s.setWord a v).conf = s.conf := rfl
@[simp] theorem State.setWord_boot (s : State) (a : Nat) (v : BitVec 32) : (s.setWord a v).boot = s.boot := rfl
@[simp] theorem State.setWord_col (s : State) (a : Nat) (v : BitVec 32) : (s.setWord a v).col = s.col := rfl
@[simp] theorem State.setWord_slv (s : State) (a : Nat) (v : BitVec 32) : (s.setWord a v).slv = s.slv := rfl
@[simp] theorem State.setWord_pockets (s : State) (a : Nat) (v : BitVec 32) : (s.setWord a v).pockets = s.pockets := rfl
@[simp] theorem State.setWord_queues (s : State) (a : Nat) (v : BitVec 32) : (s.setWord a v).queues = s.queues := rfl
@[simp] theorem State.setWord_arb (s : State) (a : Nat) (v : BitVec 32) : (s.setWord a v).arb = s.arb := rfl
@[simp] theorem State.setWord_refusals (s : State) (a : Nat) (v : BitVec 32) : (s.setWord a v).refusals = s.refusals := rfl
@[simp] theorem State.setWord_cache (s : State) (a : Nat) (v : BitVec 32) : (s.setWord a v).cache = s.cache := rfl
@[simp] theorem State.setWord_flash (s : State) (a : Nat) (v : BitVec 32) : (s.setWord a v).flash = s.flash := rfl
@[simp] theorem State.setWord_log (s : State) (a : Nat) (v : BitVec 32) : (s.setWord a v).log = s.log := rfl
@[simp] theorem State.setWord_execs (s : State) (a : Nat) (v : BitVec 32) : (s.setWord a v).execs = s.execs := rfl
@[simp] theorem State.setWord_execNext (s : State) (a : Nat) (v : BitVec 32) : (s.setWord a v).execNext = s.execNext := rfl
@[simp] theorem State.setWord_keys (s : State) (a : Nat) (v : BitVec 32) : (s.setWord a v).keys = s.keys := rfl
@[simp] theorem State.setWord_htg (s : State) (a : Nat) (v : BitVec 32) : (s.setWord a v).htg = s.htg := rfl
@[simp] theorem State.setWord_seam (s : State) (a : Nat) (v : BitVec 32) : (s.setWord a v).seam = s.seam := rfl
@[simp] theorem State.setWord_twin (s : State) (a : Nat) (v : BitVec 32) : (s.setWord a v).twin = s.twin := rfl
@[simp] theorem State.setWord_pwr (s : State) (a : Nat) (v : BitVec 32) : (s.setWord a v).pwr = s.pwr := rfl
@[simp] theorem State.setWord_dram (s : State) (a : Nat) (v : BitVec 32) : (s.setWord a v).dram = s.dram := rfl
@[simp] theorem State.setWord_access (s : State) (a : Nat) (v : BitVec 32) : (s.setWord a v).access = s.access := rfl
@[simp] theorem State.setWord_lin (s : State) (a : Nat) (v : BitVec 32) : (s.setWord a v).lin = s.lin := rfl
@[simp] theorem State.setWord_life (s : State) (a : Nat) (v : BitVec 32) : (s.setWord a v).life = s.life := rfl
theorem State.setWord_regs (s : State) (a : Nat) (v : BitVec 32) : (s.setWord a v).regs = s.regs.put a v := rfl

/-! ### State.set -/

@[simp] theorem State.set_pending (s : State) (f : Fld) (v : Nat) : (s.set f v).pending = s.pending := rfl
@[simp] theorem State.set_clk (s : State) (f : Fld) (v : Nat) : (s.set f v).clk = s.clk := rfl
@[simp] theorem State.set_free (s : State) (f : Fld) (v : Nat) : (s.set f v).free = s.free := rfl
@[simp] theorem State.set_conf (s : State) (f : Fld) (v : Nat) : (s.set f v).conf = s.conf := rfl
@[simp] theorem State.set_boot (s : State) (f : Fld) (v : Nat) : (s.set f v).boot = s.boot := rfl
@[simp] theorem State.set_col (s : State) (f : Fld) (v : Nat) : (s.set f v).col = s.col := rfl
@[simp] theorem State.set_slv (s : State) (f : Fld) (v : Nat) : (s.set f v).slv = s.slv := rfl
@[simp] theorem State.set_pockets (s : State) (f : Fld) (v : Nat) : (s.set f v).pockets = s.pockets := rfl
@[simp] theorem State.set_queues (s : State) (f : Fld) (v : Nat) : (s.set f v).queues = s.queues := rfl
@[simp] theorem State.set_arb (s : State) (f : Fld) (v : Nat) : (s.set f v).arb = s.arb := rfl
@[simp] theorem State.set_refusals (s : State) (f : Fld) (v : Nat) : (s.set f v).refusals = s.refusals := rfl
@[simp] theorem State.set_cache (s : State) (f : Fld) (v : Nat) : (s.set f v).cache = s.cache := rfl
@[simp] theorem State.set_flash (s : State) (f : Fld) (v : Nat) : (s.set f v).flash = s.flash := rfl
@[simp] theorem State.set_log (s : State) (f : Fld) (v : Nat) : (s.set f v).log = s.log := rfl
@[simp] theorem State.set_execs (s : State) (f : Fld) (v : Nat) : (s.set f v).execs = s.execs := rfl
@[simp] theorem State.set_execNext (s : State) (f : Fld) (v : Nat) : (s.set f v).execNext = s.execNext := rfl
@[simp] theorem State.set_keys (s : State) (f : Fld) (v : Nat) : (s.set f v).keys = s.keys := rfl
@[simp] theorem State.set_htg (s : State) (f : Fld) (v : Nat) : (s.set f v).htg = s.htg := rfl
@[simp] theorem State.set_seam (s : State) (f : Fld) (v : Nat) : (s.set f v).seam = s.seam := rfl
@[simp] theorem State.set_twin (s : State) (f : Fld) (v : Nat) : (s.set f v).twin = s.twin := rfl
@[simp] theorem State.set_pwr (s : State) (f : Fld) (v : Nat) : (s.set f v).pwr = s.pwr := rfl
@[simp] theorem State.set_dram (s : State) (f : Fld) (v : Nat) : (s.set f v).dram = s.dram := rfl
@[simp] theorem State.set_access (s : State) (f : Fld) (v : Nat) : (s.set f v).access = s.access := rfl
@[simp] theorem State.set_lin (s : State) (f : Fld) (v : Nat) : (s.set f v).lin = s.lin := rfl
@[simp] theorem State.set_life (s : State) (f : Fld) (v : Nat) : (s.set f v).life = s.life := rfl
theorem State.set_regs (s : State) (f : Fld) (v : Nat) : (s.set f v).regs = s.regs.put f.addr (f.into (s.word f.addr) v) := rfl

/-! ### State.setFlag -/

@[simp] theorem State.setFlag_pending (s : State) (f : Fld) (b : Bool) : (s.setFlag f b).pending = s.pending := rfl
@[simp] theorem State.setFlag_clk (s : State) (f : Fld) (b : Bool) : (s.setFlag f b).clk = s.clk := rfl
@[simp] theorem State.setFlag_free (s : State) (f : Fld) (b : Bool) : (s.setFlag f b).free = s.free := rfl
@[simp] theorem State.setFlag_conf (s : State) (f : Fld) (b : Bool) : (s.setFlag f b).conf = s.conf := rfl
@[simp] theorem State.setFlag_boot (s : State) (f : Fld) (b : Bool) : (s.setFlag f b).boot = s.boot := rfl
@[simp] theorem State.setFlag_col (s : State) (f : Fld) (b : Bool) : (s.setFlag f b).col = s.col := rfl
@[simp] theorem State.setFlag_slv (s : State) (f : Fld) (b : Bool) : (s.setFlag f b).slv = s.slv := rfl
@[simp] theorem State.setFlag_pockets (s : State) (f : Fld) (b : Bool) : (s.setFlag f b).pockets = s.pockets := rfl
@[simp] theorem State.setFlag_queues (s : State) (f : Fld) (b : Bool) : (s.setFlag f b).queues = s.queues := rfl
@[simp] theorem State.setFlag_arb (s : State) (f : Fld) (b : Bool) : (s.setFlag f b).arb = s.arb := rfl
@[simp] theorem State.setFlag_refusals (s : State) (f : Fld) (b : Bool) : (s.setFlag f b).refusals = s.refusals := rfl
@[simp] theorem State.setFlag_cache (s : State) (f : Fld) (b : Bool) : (s.setFlag f b).cache = s.cache := rfl
@[simp] theorem State.setFlag_flash (s : State) (f : Fld) (b : Bool) : (s.setFlag f b).flash = s.flash := rfl
@[simp] theorem State.setFlag_log (s : State) (f : Fld) (b : Bool) : (s.setFlag f b).log = s.log := rfl
@[simp] theorem State.setFlag_execs (s : State) (f : Fld) (b : Bool) : (s.setFlag f b).execs = s.execs := rfl
@[simp] theorem State.setFlag_execNext (s : State) (f : Fld) (b : Bool) : (s.setFlag f b).execNext = s.execNext := rfl
@[simp] theorem State.setFlag_keys (s : State) (f : Fld) (b : Bool) : (s.setFlag f b).keys = s.keys := rfl
@[simp] theorem State.setFlag_htg (s : State) (f : Fld) (b : Bool) : (s.setFlag f b).htg = s.htg := rfl
@[simp] theorem State.setFlag_seam (s : State) (f : Fld) (b : Bool) : (s.setFlag f b).seam = s.seam := rfl
@[simp] theorem State.setFlag_twin (s : State) (f : Fld) (b : Bool) : (s.setFlag f b).twin = s.twin := rfl
@[simp] theorem State.setFlag_pwr (s : State) (f : Fld) (b : Bool) : (s.setFlag f b).pwr = s.pwr := rfl
@[simp] theorem State.setFlag_dram (s : State) (f : Fld) (b : Bool) : (s.setFlag f b).dram = s.dram := rfl
@[simp] theorem State.setFlag_access (s : State) (f : Fld) (b : Bool) : (s.setFlag f b).access = s.access := rfl
@[simp] theorem State.setFlag_lin (s : State) (f : Fld) (b : Bool) : (s.setFlag f b).lin = s.lin := rfl
@[simp] theorem State.setFlag_life (s : State) (f : Fld) (b : Bool) : (s.setFlag f b).life = s.life := rfl

/-! ### State.count -/

@[simp] theorem State.count_pending (s : State) (f : Fld) (n : Nat) : (s.count f n).pending = s.pending := rfl
@[simp] theorem State.count_clk (s : State) (f : Fld) (n : Nat) : (s.count f n).clk = s.clk := rfl
@[simp] theorem State.count_free (s : State) (f : Fld) (n : Nat) : (s.count f n).free = s.free := rfl
@[simp] theorem State.count_conf (s : State) (f : Fld) (n : Nat) : (s.count f n).conf = s.conf := rfl
@[simp] theorem State.count_boot (s : State) (f : Fld) (n : Nat) : (s.count f n).boot = s.boot := rfl
@[simp] theorem State.count_col (s : State) (f : Fld) (n : Nat) : (s.count f n).col = s.col := rfl
@[simp] theorem State.count_slv (s : State) (f : Fld) (n : Nat) : (s.count f n).slv = s.slv := rfl
@[simp] theorem State.count_pockets (s : State) (f : Fld) (n : Nat) : (s.count f n).pockets = s.pockets := rfl
@[simp] theorem State.count_queues (s : State) (f : Fld) (n : Nat) : (s.count f n).queues = s.queues := rfl
@[simp] theorem State.count_arb (s : State) (f : Fld) (n : Nat) : (s.count f n).arb = s.arb := rfl
@[simp] theorem State.count_refusals (s : State) (f : Fld) (n : Nat) : (s.count f n).refusals = s.refusals := rfl
@[simp] theorem State.count_cache (s : State) (f : Fld) (n : Nat) : (s.count f n).cache = s.cache := rfl
@[simp] theorem State.count_flash (s : State) (f : Fld) (n : Nat) : (s.count f n).flash = s.flash := rfl
@[simp] theorem State.count_log (s : State) (f : Fld) (n : Nat) : (s.count f n).log = s.log := rfl
@[simp] theorem State.count_execs (s : State) (f : Fld) (n : Nat) : (s.count f n).execs = s.execs := rfl
@[simp] theorem State.count_execNext (s : State) (f : Fld) (n : Nat) : (s.count f n).execNext = s.execNext := rfl
@[simp] theorem State.count_keys (s : State) (f : Fld) (n : Nat) : (s.count f n).keys = s.keys := rfl
@[simp] theorem State.count_htg (s : State) (f : Fld) (n : Nat) : (s.count f n).htg = s.htg := rfl
@[simp] theorem State.count_seam (s : State) (f : Fld) (n : Nat) : (s.count f n).seam = s.seam := rfl
@[simp] theorem State.count_twin (s : State) (f : Fld) (n : Nat) : (s.count f n).twin = s.twin := rfl
@[simp] theorem State.count_pwr (s : State) (f : Fld) (n : Nat) : (s.count f n).pwr = s.pwr := rfl
@[simp] theorem State.count_dram (s : State) (f : Fld) (n : Nat) : (s.count f n).dram = s.dram := rfl
@[simp] theorem State.count_access (s : State) (f : Fld) (n : Nat) : (s.count f n).access = s.access := rfl
@[simp] theorem State.count_lin (s : State) (f : Fld) (n : Nat) : (s.count f n).lin = s.lin := rfl
@[simp] theorem State.count_life (s : State) (f : Fld) (n : Nat) : (s.count f n).life = s.life := rfl

/-! ### State.setSat -/

@[simp] theorem State.setSat_pending (s : State) (f : Fld) (v : Nat) : (s.setSat f v).pending = s.pending := rfl
@[simp] theorem State.setSat_clk (s : State) (f : Fld) (v : Nat) : (s.setSat f v).clk = s.clk := rfl
@[simp] theorem State.setSat_free (s : State) (f : Fld) (v : Nat) : (s.setSat f v).free = s.free := rfl
@[simp] theorem State.setSat_conf (s : State) (f : Fld) (v : Nat) : (s.setSat f v).conf = s.conf := rfl
@[simp] theorem State.setSat_boot (s : State) (f : Fld) (v : Nat) : (s.setSat f v).boot = s.boot := rfl
@[simp] theorem State.setSat_col (s : State) (f : Fld) (v : Nat) : (s.setSat f v).col = s.col := rfl
@[simp] theorem State.setSat_slv (s : State) (f : Fld) (v : Nat) : (s.setSat f v).slv = s.slv := rfl
@[simp] theorem State.setSat_pockets (s : State) (f : Fld) (v : Nat) : (s.setSat f v).pockets = s.pockets := rfl
@[simp] theorem State.setSat_queues (s : State) (f : Fld) (v : Nat) : (s.setSat f v).queues = s.queues := rfl
@[simp] theorem State.setSat_arb (s : State) (f : Fld) (v : Nat) : (s.setSat f v).arb = s.arb := rfl
@[simp] theorem State.setSat_refusals (s : State) (f : Fld) (v : Nat) : (s.setSat f v).refusals = s.refusals := rfl
@[simp] theorem State.setSat_cache (s : State) (f : Fld) (v : Nat) : (s.setSat f v).cache = s.cache := rfl
@[simp] theorem State.setSat_flash (s : State) (f : Fld) (v : Nat) : (s.setSat f v).flash = s.flash := rfl
@[simp] theorem State.setSat_log (s : State) (f : Fld) (v : Nat) : (s.setSat f v).log = s.log := rfl
@[simp] theorem State.setSat_execs (s : State) (f : Fld) (v : Nat) : (s.setSat f v).execs = s.execs := rfl
@[simp] theorem State.setSat_execNext (s : State) (f : Fld) (v : Nat) : (s.setSat f v).execNext = s.execNext := rfl
@[simp] theorem State.setSat_keys (s : State) (f : Fld) (v : Nat) : (s.setSat f v).keys = s.keys := rfl
@[simp] theorem State.setSat_htg (s : State) (f : Fld) (v : Nat) : (s.setSat f v).htg = s.htg := rfl
@[simp] theorem State.setSat_seam (s : State) (f : Fld) (v : Nat) : (s.setSat f v).seam = s.seam := rfl
@[simp] theorem State.setSat_twin (s : State) (f : Fld) (v : Nat) : (s.setSat f v).twin = s.twin := rfl
@[simp] theorem State.setSat_pwr (s : State) (f : Fld) (v : Nat) : (s.setSat f v).pwr = s.pwr := rfl
@[simp] theorem State.setSat_dram (s : State) (f : Fld) (v : Nat) : (s.setSat f v).dram = s.dram := rfl
@[simp] theorem State.setSat_access (s : State) (f : Fld) (v : Nat) : (s.setSat f v).access = s.access := rfl
@[simp] theorem State.setSat_lin (s : State) (f : Fld) (v : Nat) : (s.setSat f v).lin = s.lin := rfl
@[simp] theorem State.setSat_life (s : State) (f : Fld) (v : Nat) : (s.setSat f v).life = s.life := rfl

/-! ### State.setOn -/

@[simp] theorem State.setOn_pending (s : State) (core : Nat) (f : Fld) (v : Nat) : (s.setOn core f v).pending = s.pending := rfl
@[simp] theorem State.setOn_clk (s : State) (core : Nat) (f : Fld) (v : Nat) : (s.setOn core f v).clk = s.clk := rfl
@[simp] theorem State.setOn_free (s : State) (core : Nat) (f : Fld) (v : Nat) : (s.setOn core f v).free = s.free := rfl
@[simp] theorem State.setOn_conf (s : State) (core : Nat) (f : Fld) (v : Nat) : (s.setOn core f v).conf = s.conf := rfl
@[simp] theorem State.setOn_boot (s : State) (core : Nat) (f : Fld) (v : Nat) : (s.setOn core f v).boot = s.boot := rfl
@[simp] theorem State.setOn_col (s : State) (core : Nat) (f : Fld) (v : Nat) : (s.setOn core f v).col = s.col := rfl
@[simp] theorem State.setOn_slv (s : State) (core : Nat) (f : Fld) (v : Nat) : (s.setOn core f v).slv = s.slv := rfl
@[simp] theorem State.setOn_pockets (s : State) (core : Nat) (f : Fld) (v : Nat) : (s.setOn core f v).pockets = s.pockets := rfl
@[simp] theorem State.setOn_queues (s : State) (core : Nat) (f : Fld) (v : Nat) : (s.setOn core f v).queues = s.queues := rfl
@[simp] theorem State.setOn_arb (s : State) (core : Nat) (f : Fld) (v : Nat) : (s.setOn core f v).arb = s.arb := rfl
@[simp] theorem State.setOn_refusals (s : State) (core : Nat) (f : Fld) (v : Nat) : (s.setOn core f v).refusals = s.refusals := rfl
@[simp] theorem State.setOn_cache (s : State) (core : Nat) (f : Fld) (v : Nat) : (s.setOn core f v).cache = s.cache := rfl
@[simp] theorem State.setOn_flash (s : State) (core : Nat) (f : Fld) (v : Nat) : (s.setOn core f v).flash = s.flash := rfl
@[simp] theorem State.setOn_log (s : State) (core : Nat) (f : Fld) (v : Nat) : (s.setOn core f v).log = s.log := rfl
@[simp] theorem State.setOn_execs (s : State) (core : Nat) (f : Fld) (v : Nat) : (s.setOn core f v).execs = s.execs := rfl
@[simp] theorem State.setOn_execNext (s : State) (core : Nat) (f : Fld) (v : Nat) : (s.setOn core f v).execNext = s.execNext := rfl
@[simp] theorem State.setOn_keys (s : State) (core : Nat) (f : Fld) (v : Nat) : (s.setOn core f v).keys = s.keys := rfl
@[simp] theorem State.setOn_htg (s : State) (core : Nat) (f : Fld) (v : Nat) : (s.setOn core f v).htg = s.htg := rfl
@[simp] theorem State.setOn_seam (s : State) (core : Nat) (f : Fld) (v : Nat) : (s.setOn core f v).seam = s.seam := rfl
@[simp] theorem State.setOn_twin (s : State) (core : Nat) (f : Fld) (v : Nat) : (s.setOn core f v).twin = s.twin := rfl
@[simp] theorem State.setOn_pwr (s : State) (core : Nat) (f : Fld) (v : Nat) : (s.setOn core f v).pwr = s.pwr := rfl
@[simp] theorem State.setOn_dram (s : State) (core : Nat) (f : Fld) (v : Nat) : (s.setOn core f v).dram = s.dram := rfl
@[simp] theorem State.setOn_access (s : State) (core : Nat) (f : Fld) (v : Nat) : (s.setOn core f v).access = s.access := rfl
@[simp] theorem State.setOn_lin (s : State) (core : Nat) (f : Fld) (v : Nat) : (s.setOn core f v).lin = s.lin := rfl
@[simp] theorem State.setOn_life (s : State) (core : Nat) (f : Fld) (v : Nat) : (s.setOn core f v).life = s.life := rfl

/-! ### State.keep -/

@[simp] theorem State.keep_pending (s : State) (f : Fld) (v : Nat) : (s.keep f v).pending = s.pending := rfl
@[simp] theorem State.keep_clk (s : State) (f : Fld) (v : Nat) : (s.keep f v).clk = s.clk := rfl
@[simp] theorem State.keep_free (s : State) (f : Fld) (v : Nat) : (s.keep f v).free = s.free := rfl
@[simp] theorem State.keep_boot (s : State) (f : Fld) (v : Nat) : (s.keep f v).boot = s.boot := rfl
@[simp] theorem State.keep_col (s : State) (f : Fld) (v : Nat) : (s.keep f v).col = s.col := rfl
@[simp] theorem State.keep_slv (s : State) (f : Fld) (v : Nat) : (s.keep f v).slv = s.slv := rfl
@[simp] theorem State.keep_pockets (s : State) (f : Fld) (v : Nat) : (s.keep f v).pockets = s.pockets := rfl
@[simp] theorem State.keep_queues (s : State) (f : Fld) (v : Nat) : (s.keep f v).queues = s.queues := rfl
@[simp] theorem State.keep_arb (s : State) (f : Fld) (v : Nat) : (s.keep f v).arb = s.arb := rfl
@[simp] theorem State.keep_refusals (s : State) (f : Fld) (v : Nat) : (s.keep f v).refusals = s.refusals := rfl
@[simp] theorem State.keep_cache (s : State) (f : Fld) (v : Nat) : (s.keep f v).cache = s.cache := rfl
@[simp] theorem State.keep_flash (s : State) (f : Fld) (v : Nat) : (s.keep f v).flash = s.flash := rfl
@[simp] theorem State.keep_log (s : State) (f : Fld) (v : Nat) : (s.keep f v).log = s.log := rfl
@[simp] theorem State.keep_execs (s : State) (f : Fld) (v : Nat) : (s.keep f v).execs = s.execs := rfl
@[simp] theorem State.keep_execNext (s : State) (f : Fld) (v : Nat) : (s.keep f v).execNext = s.execNext := rfl
@[simp] theorem State.keep_keys (s : State) (f : Fld) (v : Nat) : (s.keep f v).keys = s.keys := rfl
@[simp] theorem State.keep_htg (s : State) (f : Fld) (v : Nat) : (s.keep f v).htg = s.htg := rfl
@[simp] theorem State.keep_seam (s : State) (f : Fld) (v : Nat) : (s.keep f v).seam = s.seam := rfl
@[simp] theorem State.keep_twin (s : State) (f : Fld) (v : Nat) : (s.keep f v).twin = s.twin := rfl
@[simp] theorem State.keep_pwr (s : State) (f : Fld) (v : Nat) : (s.keep f v).pwr = s.pwr := rfl
@[simp] theorem State.keep_dram (s : State) (f : Fld) (v : Nat) : (s.keep f v).dram = s.dram := rfl
@[simp] theorem State.keep_access (s : State) (f : Fld) (v : Nat) : (s.keep f v).access = s.access := rfl
@[simp] theorem State.keep_lin (s : State) (f : Fld) (v : Nat) : (s.keep f v).lin = s.lin := rfl
@[simp] theorem State.keep_life (s : State) (f : Fld) (v : Nat) : (s.keep f v).life = s.life := rfl

/-! ### State.clkTo -/

@[simp] theorem State.clkTo_pending (s : State) (us : Nat) : (s.clkTo us).pending = s.pending := rfl
@[simp] theorem State.clkTo_free (s : State) (us : Nat) : (s.clkTo us).free = s.free := rfl
@[simp] theorem State.clkTo_regs (s : State) (us : Nat) : (s.clkTo us).regs = s.regs := rfl
@[simp] theorem State.clkTo_conf (s : State) (us : Nat) : (s.clkTo us).conf = s.conf := rfl
@[simp] theorem State.clkTo_boot (s : State) (us : Nat) : (s.clkTo us).boot = s.boot := rfl
@[simp] theorem State.clkTo_col (s : State) (us : Nat) : (s.clkTo us).col = s.col := rfl
@[simp] theorem State.clkTo_slv (s : State) (us : Nat) : (s.clkTo us).slv = s.slv := rfl
@[simp] theorem State.clkTo_pockets (s : State) (us : Nat) : (s.clkTo us).pockets = s.pockets := rfl
@[simp] theorem State.clkTo_queues (s : State) (us : Nat) : (s.clkTo us).queues = s.queues := rfl
@[simp] theorem State.clkTo_arb (s : State) (us : Nat) : (s.clkTo us).arb = s.arb := rfl
@[simp] theorem State.clkTo_refusals (s : State) (us : Nat) : (s.clkTo us).refusals = s.refusals := rfl
@[simp] theorem State.clkTo_cache (s : State) (us : Nat) : (s.clkTo us).cache = s.cache := rfl
@[simp] theorem State.clkTo_flash (s : State) (us : Nat) : (s.clkTo us).flash = s.flash := rfl
@[simp] theorem State.clkTo_log (s : State) (us : Nat) : (s.clkTo us).log = s.log := rfl
@[simp] theorem State.clkTo_execs (s : State) (us : Nat) : (s.clkTo us).execs = s.execs := rfl
@[simp] theorem State.clkTo_execNext (s : State) (us : Nat) : (s.clkTo us).execNext = s.execNext := rfl
@[simp] theorem State.clkTo_keys (s : State) (us : Nat) : (s.clkTo us).keys = s.keys := rfl
@[simp] theorem State.clkTo_htg (s : State) (us : Nat) : (s.clkTo us).htg = s.htg := rfl
@[simp] theorem State.clkTo_seam (s : State) (us : Nat) : (s.clkTo us).seam = s.seam := rfl
@[simp] theorem State.clkTo_twin (s : State) (us : Nat) : (s.clkTo us).twin = s.twin := rfl
@[simp] theorem State.clkTo_pwr (s : State) (us : Nat) : (s.clkTo us).pwr = s.pwr := rfl
@[simp] theorem State.clkTo_dram (s : State) (us : Nat) : (s.clkTo us).dram = s.dram := rfl
@[simp] theorem State.clkTo_access (s : State) (us : Nat) : (s.clkTo us).access = s.access := rfl
@[simp] theorem State.clkTo_lin (s : State) (us : Nat) : (s.clkTo us).lin = s.lin := rfl
@[simp] theorem State.clkTo_life (s : State) (us : Nat) : (s.clkTo us).life = s.life := rfl
theorem State.clkTo_clk (s : State) (us : Nat) : (s.clkTo us).clk = max s.clk us := rfl

/-! ### State.useFree -/

@[simp] theorem State.useFree_pending (s : State) : (s.useFree).pending = s.pending := rfl
@[simp] theorem State.useFree_clk (s : State) : (s.useFree).clk = s.clk := rfl
@[simp] theorem State.useFree_regs (s : State) : (s.useFree).regs = s.regs := rfl
@[simp] theorem State.useFree_conf (s : State) : (s.useFree).conf = s.conf := rfl
@[simp] theorem State.useFree_boot (s : State) : (s.useFree).boot = s.boot := rfl
@[simp] theorem State.useFree_col (s : State) : (s.useFree).col = s.col := rfl
@[simp] theorem State.useFree_slv (s : State) : (s.useFree).slv = s.slv := rfl
@[simp] theorem State.useFree_pockets (s : State) : (s.useFree).pockets = s.pockets := rfl
@[simp] theorem State.useFree_queues (s : State) : (s.useFree).queues = s.queues := rfl
@[simp] theorem State.useFree_arb (s : State) : (s.useFree).arb = s.arb := rfl
@[simp] theorem State.useFree_refusals (s : State) : (s.useFree).refusals = s.refusals := rfl
@[simp] theorem State.useFree_cache (s : State) : (s.useFree).cache = s.cache := rfl
@[simp] theorem State.useFree_flash (s : State) : (s.useFree).flash = s.flash := rfl
@[simp] theorem State.useFree_log (s : State) : (s.useFree).log = s.log := rfl
@[simp] theorem State.useFree_execs (s : State) : (s.useFree).execs = s.execs := rfl
@[simp] theorem State.useFree_execNext (s : State) : (s.useFree).execNext = s.execNext := rfl
@[simp] theorem State.useFree_keys (s : State) : (s.useFree).keys = s.keys := rfl
@[simp] theorem State.useFree_htg (s : State) : (s.useFree).htg = s.htg := rfl
@[simp] theorem State.useFree_seam (s : State) : (s.useFree).seam = s.seam := rfl
@[simp] theorem State.useFree_twin (s : State) : (s.useFree).twin = s.twin := rfl
@[simp] theorem State.useFree_pwr (s : State) : (s.useFree).pwr = s.pwr := rfl
@[simp] theorem State.useFree_dram (s : State) : (s.useFree).dram = s.dram := rfl
@[simp] theorem State.useFree_access (s : State) : (s.useFree).access = s.access := rfl
@[simp] theorem State.useFree_lin (s : State) : (s.useFree).lin = s.lin := rfl
@[simp] theorem State.useFree_life (s : State) : (s.useFree).life = s.life := rfl
theorem State.useFree_free (s : State) : (s.useFree).free = s.free + 1 := rfl

/-! ### State.setEntries -/

@[simp] theorem State.setEntries_pending (s : State) (es : List CacheEntry) : (s.setEntries es).pending = s.pending := rfl
@[simp] theorem State.setEntries_clk (s : State) (es : List CacheEntry) : (s.setEntries es).clk = s.clk := rfl
@[simp] theorem State.setEntries_free (s : State) (es : List CacheEntry) : (s.setEntries es).free = s.free := rfl
@[simp] theorem State.setEntries_regs (s : State) (es : List CacheEntry) : (s.setEntries es).regs = s.regs := rfl
@[simp] theorem State.setEntries_conf (s : State) (es : List CacheEntry) : (s.setEntries es).conf = s.conf := rfl
@[simp] theorem State.setEntries_boot (s : State) (es : List CacheEntry) : (s.setEntries es).boot = s.boot := rfl
@[simp] theorem State.setEntries_col (s : State) (es : List CacheEntry) : (s.setEntries es).col = s.col := rfl
@[simp] theorem State.setEntries_slv (s : State) (es : List CacheEntry) : (s.setEntries es).slv = s.slv := rfl
@[simp] theorem State.setEntries_pockets (s : State) (es : List CacheEntry) : (s.setEntries es).pockets = s.pockets := rfl
@[simp] theorem State.setEntries_queues (s : State) (es : List CacheEntry) : (s.setEntries es).queues = s.queues := rfl
@[simp] theorem State.setEntries_arb (s : State) (es : List CacheEntry) : (s.setEntries es).arb = s.arb := rfl
@[simp] theorem State.setEntries_refusals (s : State) (es : List CacheEntry) : (s.setEntries es).refusals = s.refusals := rfl
@[simp] theorem State.setEntries_flash (s : State) (es : List CacheEntry) : (s.setEntries es).flash = s.flash := rfl
@[simp] theorem State.setEntries_log (s : State) (es : List CacheEntry) : (s.setEntries es).log = s.log := rfl
@[simp] theorem State.setEntries_execs (s : State) (es : List CacheEntry) : (s.setEntries es).execs = s.execs := rfl
@[simp] theorem State.setEntries_execNext (s : State) (es : List CacheEntry) : (s.setEntries es).execNext = s.execNext := rfl
@[simp] theorem State.setEntries_keys (s : State) (es : List CacheEntry) : (s.setEntries es).keys = s.keys := rfl
@[simp] theorem State.setEntries_htg (s : State) (es : List CacheEntry) : (s.setEntries es).htg = s.htg := rfl
@[simp] theorem State.setEntries_seam (s : State) (es : List CacheEntry) : (s.setEntries es).seam = s.seam := rfl
@[simp] theorem State.setEntries_twin (s : State) (es : List CacheEntry) : (s.setEntries es).twin = s.twin := rfl
@[simp] theorem State.setEntries_pwr (s : State) (es : List CacheEntry) : (s.setEntries es).pwr = s.pwr := rfl
@[simp] theorem State.setEntries_dram (s : State) (es : List CacheEntry) : (s.setEntries es).dram = s.dram := rfl
@[simp] theorem State.setEntries_access (s : State) (es : List CacheEntry) : (s.setEntries es).access = s.access := rfl
@[simp] theorem State.setEntries_lin (s : State) (es : List CacheEntry) : (s.setEntries es).lin = s.lin := rfl
@[simp] theorem State.setEntries_life (s : State) (es : List CacheEntry) : (s.setEntries es).life = s.life := rfl
theorem State.setEntries_cache (s : State) (es : List CacheEntry) : (s.setEntries es).cache = { s.cache with entries := es } := rfl

/-! ### State.setQueue -/

@[simp] theorem State.setQueue_pending (s : State) (q : Nat) (k : QueuePair) : (s.setQueue q k).pending = s.pending := rfl
@[simp] theorem State.setQueue_clk (s : State) (q : Nat) (k : QueuePair) : (s.setQueue q k).clk = s.clk := rfl
@[simp] theorem State.setQueue_free (s : State) (q : Nat) (k : QueuePair) : (s.setQueue q k).free = s.free := rfl
@[simp] theorem State.setQueue_regs (s : State) (q : Nat) (k : QueuePair) : (s.setQueue q k).regs = s.regs := rfl
@[simp] theorem State.setQueue_conf (s : State) (q : Nat) (k : QueuePair) : (s.setQueue q k).conf = s.conf := rfl
@[simp] theorem State.setQueue_boot (s : State) (q : Nat) (k : QueuePair) : (s.setQueue q k).boot = s.boot := rfl
@[simp] theorem State.setQueue_col (s : State) (q : Nat) (k : QueuePair) : (s.setQueue q k).col = s.col := rfl
@[simp] theorem State.setQueue_slv (s : State) (q : Nat) (k : QueuePair) : (s.setQueue q k).slv = s.slv := rfl
@[simp] theorem State.setQueue_pockets (s : State) (q : Nat) (k : QueuePair) : (s.setQueue q k).pockets = s.pockets := rfl
@[simp] theorem State.setQueue_arb (s : State) (q : Nat) (k : QueuePair) : (s.setQueue q k).arb = s.arb := rfl
@[simp] theorem State.setQueue_refusals (s : State) (q : Nat) (k : QueuePair) : (s.setQueue q k).refusals = s.refusals := rfl
@[simp] theorem State.setQueue_cache (s : State) (q : Nat) (k : QueuePair) : (s.setQueue q k).cache = s.cache := rfl
@[simp] theorem State.setQueue_flash (s : State) (q : Nat) (k : QueuePair) : (s.setQueue q k).flash = s.flash := rfl
@[simp] theorem State.setQueue_log (s : State) (q : Nat) (k : QueuePair) : (s.setQueue q k).log = s.log := rfl
@[simp] theorem State.setQueue_execs (s : State) (q : Nat) (k : QueuePair) : (s.setQueue q k).execs = s.execs := rfl
@[simp] theorem State.setQueue_execNext (s : State) (q : Nat) (k : QueuePair) : (s.setQueue q k).execNext = s.execNext := rfl
@[simp] theorem State.setQueue_keys (s : State) (q : Nat) (k : QueuePair) : (s.setQueue q k).keys = s.keys := rfl
@[simp] theorem State.setQueue_htg (s : State) (q : Nat) (k : QueuePair) : (s.setQueue q k).htg = s.htg := rfl
@[simp] theorem State.setQueue_seam (s : State) (q : Nat) (k : QueuePair) : (s.setQueue q k).seam = s.seam := rfl
@[simp] theorem State.setQueue_twin (s : State) (q : Nat) (k : QueuePair) : (s.setQueue q k).twin = s.twin := rfl
@[simp] theorem State.setQueue_pwr (s : State) (q : Nat) (k : QueuePair) : (s.setQueue q k).pwr = s.pwr := rfl
@[simp] theorem State.setQueue_dram (s : State) (q : Nat) (k : QueuePair) : (s.setQueue q k).dram = s.dram := rfl
@[simp] theorem State.setQueue_access (s : State) (q : Nat) (k : QueuePair) : (s.setQueue q k).access = s.access := rfl
@[simp] theorem State.setQueue_lin (s : State) (q : Nat) (k : QueuePair) : (s.setQueue q k).lin = s.lin := rfl
@[simp] theorem State.setQueue_life (s : State) (q : Nat) (k : QueuePair) : (s.setQueue q k).life = s.life := rfl
theorem State.setQueue_queues (s : State) (q : Nat) (k : QueuePair) : (s.setQueue q k).queues = upsert q k s.queues := rfl

/-! ### State.setPocket -/

@[simp] theorem State.setPocket_pending (s : State) (p : Nat) (k : Pocket) : (s.setPocket p k).pending = s.pending := rfl
@[simp] theorem State.setPocket_clk (s : State) (p : Nat) (k : Pocket) : (s.setPocket p k).clk = s.clk := rfl
@[simp] theorem State.setPocket_free (s : State) (p : Nat) (k : Pocket) : (s.setPocket p k).free = s.free := rfl
@[simp] theorem State.setPocket_regs (s : State) (p : Nat) (k : Pocket) : (s.setPocket p k).regs = s.regs := rfl
@[simp] theorem State.setPocket_conf (s : State) (p : Nat) (k : Pocket) : (s.setPocket p k).conf = s.conf := rfl
@[simp] theorem State.setPocket_boot (s : State) (p : Nat) (k : Pocket) : (s.setPocket p k).boot = s.boot := rfl
@[simp] theorem State.setPocket_col (s : State) (p : Nat) (k : Pocket) : (s.setPocket p k).col = s.col := rfl
@[simp] theorem State.setPocket_slv (s : State) (p : Nat) (k : Pocket) : (s.setPocket p k).slv = s.slv := rfl
@[simp] theorem State.setPocket_queues (s : State) (p : Nat) (k : Pocket) : (s.setPocket p k).queues = s.queues := rfl
@[simp] theorem State.setPocket_arb (s : State) (p : Nat) (k : Pocket) : (s.setPocket p k).arb = s.arb := rfl
@[simp] theorem State.setPocket_refusals (s : State) (p : Nat) (k : Pocket) : (s.setPocket p k).refusals = s.refusals := rfl
@[simp] theorem State.setPocket_cache (s : State) (p : Nat) (k : Pocket) : (s.setPocket p k).cache = s.cache := rfl
@[simp] theorem State.setPocket_flash (s : State) (p : Nat) (k : Pocket) : (s.setPocket p k).flash = s.flash := rfl
@[simp] theorem State.setPocket_log (s : State) (p : Nat) (k : Pocket) : (s.setPocket p k).log = s.log := rfl
@[simp] theorem State.setPocket_execs (s : State) (p : Nat) (k : Pocket) : (s.setPocket p k).execs = s.execs := rfl
@[simp] theorem State.setPocket_execNext (s : State) (p : Nat) (k : Pocket) : (s.setPocket p k).execNext = s.execNext := rfl
@[simp] theorem State.setPocket_keys (s : State) (p : Nat) (k : Pocket) : (s.setPocket p k).keys = s.keys := rfl
@[simp] theorem State.setPocket_htg (s : State) (p : Nat) (k : Pocket) : (s.setPocket p k).htg = s.htg := rfl
@[simp] theorem State.setPocket_seam (s : State) (p : Nat) (k : Pocket) : (s.setPocket p k).seam = s.seam := rfl
@[simp] theorem State.setPocket_twin (s : State) (p : Nat) (k : Pocket) : (s.setPocket p k).twin = s.twin := rfl
@[simp] theorem State.setPocket_pwr (s : State) (p : Nat) (k : Pocket) : (s.setPocket p k).pwr = s.pwr := rfl
@[simp] theorem State.setPocket_dram (s : State) (p : Nat) (k : Pocket) : (s.setPocket p k).dram = s.dram := rfl
@[simp] theorem State.setPocket_access (s : State) (p : Nat) (k : Pocket) : (s.setPocket p k).access = s.access := rfl
@[simp] theorem State.setPocket_lin (s : State) (p : Nat) (k : Pocket) : (s.setPocket p k).lin = s.lin := rfl
@[simp] theorem State.setPocket_life (s : State) (p : Nat) (k : Pocket) : (s.setPocket p k).life = s.life := rfl
theorem State.setPocket_pockets (s : State) (p : Nat) (k : Pocket) : (s.setPocket p k).pockets = upsert p k s.pockets := rfl

/-! ### State.setSession -/

@[simp] theorem State.setSession_pending (s : State) (p : Path) (x : Session) : (s.setSession p x).pending = s.pending := by cases p <;> rfl
@[simp] theorem State.setSession_clk (s : State) (p : Path) (x : Session) : (s.setSession p x).clk = s.clk := by cases p <;> rfl
@[simp] theorem State.setSession_free (s : State) (p : Path) (x : Session) : (s.setSession p x).free = s.free := by cases p <;> rfl
@[simp] theorem State.setSession_regs (s : State) (p : Path) (x : Session) : (s.setSession p x).regs = s.regs := by cases p <;> rfl
@[simp] theorem State.setSession_conf (s : State) (p : Path) (x : Session) : (s.setSession p x).conf = s.conf := by cases p <;> rfl
@[simp] theorem State.setSession_boot (s : State) (p : Path) (x : Session) : (s.setSession p x).boot = s.boot := by cases p <;> rfl
@[simp] theorem State.setSession_slv (s : State) (p : Path) (x : Session) : (s.setSession p x).slv = s.slv := by cases p <;> rfl
@[simp] theorem State.setSession_pockets (s : State) (p : Path) (x : Session) : (s.setSession p x).pockets = s.pockets := by cases p <;> rfl
@[simp] theorem State.setSession_queues (s : State) (p : Path) (x : Session) : (s.setSession p x).queues = s.queues := by cases p <;> rfl
@[simp] theorem State.setSession_arb (s : State) (p : Path) (x : Session) : (s.setSession p x).arb = s.arb := by cases p <;> rfl
@[simp] theorem State.setSession_refusals (s : State) (p : Path) (x : Session) : (s.setSession p x).refusals = s.refusals := by cases p <;> rfl
@[simp] theorem State.setSession_cache (s : State) (p : Path) (x : Session) : (s.setSession p x).cache = s.cache := by cases p <;> rfl
@[simp] theorem State.setSession_flash (s : State) (p : Path) (x : Session) : (s.setSession p x).flash = s.flash := by cases p <;> rfl
@[simp] theorem State.setSession_log (s : State) (p : Path) (x : Session) : (s.setSession p x).log = s.log := by cases p <;> rfl
@[simp] theorem State.setSession_execs (s : State) (p : Path) (x : Session) : (s.setSession p x).execs = s.execs := by cases p <;> rfl
@[simp] theorem State.setSession_execNext (s : State) (p : Path) (x : Session) : (s.setSession p x).execNext = s.execNext := by cases p <;> rfl
@[simp] theorem State.setSession_keys (s : State) (p : Path) (x : Session) : (s.setSession p x).keys = s.keys := by cases p <;> rfl
@[simp] theorem State.setSession_htg (s : State) (p : Path) (x : Session) : (s.setSession p x).htg = s.htg := by cases p <;> rfl
@[simp] theorem State.setSession_seam (s : State) (p : Path) (x : Session) : (s.setSession p x).seam = s.seam := by cases p <;> rfl
@[simp] theorem State.setSession_twin (s : State) (p : Path) (x : Session) : (s.setSession p x).twin = s.twin := by cases p <;> rfl
@[simp] theorem State.setSession_pwr (s : State) (p : Path) (x : Session) : (s.setSession p x).pwr = s.pwr := by cases p <;> rfl
@[simp] theorem State.setSession_dram (s : State) (p : Path) (x : Session) : (s.setSession p x).dram = s.dram := by cases p <;> rfl
@[simp] theorem State.setSession_access (s : State) (p : Path) (x : Session) : (s.setSession p x).access = s.access := by cases p <;> rfl
@[simp] theorem State.setSession_lin (s : State) (p : Path) (x : Session) : (s.setSession p x).lin = s.lin := by cases p <;> rfl
@[simp] theorem State.setSession_life (s : State) (p : Path) (x : Session) : (s.setSession p x).life = s.life := by cases p <;> rfl

/-! ### State.setHop -/

@[simp] theorem State.setHop_pending (s : State) (p : Nat) (h : Hop) : (s.setHop p h).pending = s.pending := by unfold State.setHop; split <;> rfl
@[simp] theorem State.setHop_clk (s : State) (p : Nat) (h : Hop) : (s.setHop p h).clk = s.clk := by unfold State.setHop; split <;> rfl
@[simp] theorem State.setHop_free (s : State) (p : Nat) (h : Hop) : (s.setHop p h).free = s.free := by unfold State.setHop; split <;> rfl
@[simp] theorem State.setHop_regs (s : State) (p : Nat) (h : Hop) : (s.setHop p h).regs = s.regs := by unfold State.setHop; split <;> rfl
@[simp] theorem State.setHop_conf (s : State) (p : Nat) (h : Hop) : (s.setHop p h).conf = s.conf := by unfold State.setHop; split <;> rfl
@[simp] theorem State.setHop_boot (s : State) (p : Nat) (h : Hop) : (s.setHop p h).boot = s.boot := by unfold State.setHop; split <;> rfl
@[simp] theorem State.setHop_col (s : State) (p : Nat) (h : Hop) : (s.setHop p h).col = s.col := by unfold State.setHop; split <;> rfl
@[simp] theorem State.setHop_slv (s : State) (p : Nat) (h : Hop) : (s.setHop p h).slv = s.slv := by unfold State.setHop; split <;> rfl
@[simp] theorem State.setHop_pockets (s : State) (p : Nat) (h : Hop) : (s.setHop p h).pockets = s.pockets := by unfold State.setHop; split <;> rfl
@[simp] theorem State.setHop_queues (s : State) (p : Nat) (h : Hop) : (s.setHop p h).queues = s.queues := by unfold State.setHop; split <;> rfl
@[simp] theorem State.setHop_arb (s : State) (p : Nat) (h : Hop) : (s.setHop p h).arb = s.arb := by unfold State.setHop; split <;> rfl
@[simp] theorem State.setHop_refusals (s : State) (p : Nat) (h : Hop) : (s.setHop p h).refusals = s.refusals := by unfold State.setHop; split <;> rfl
@[simp] theorem State.setHop_cache (s : State) (p : Nat) (h : Hop) : (s.setHop p h).cache = s.cache := by unfold State.setHop; split <;> rfl
@[simp] theorem State.setHop_flash (s : State) (p : Nat) (h : Hop) : (s.setHop p h).flash = s.flash := by unfold State.setHop; split <;> rfl
@[simp] theorem State.setHop_log (s : State) (p : Nat) (h : Hop) : (s.setHop p h).log = s.log := by unfold State.setHop; split <;> rfl
@[simp] theorem State.setHop_execs (s : State) (p : Nat) (h : Hop) : (s.setHop p h).execs = s.execs := by unfold State.setHop; split <;> rfl
@[simp] theorem State.setHop_execNext (s : State) (p : Nat) (h : Hop) : (s.setHop p h).execNext = s.execNext := by unfold State.setHop; split <;> rfl
@[simp] theorem State.setHop_keys (s : State) (p : Nat) (h : Hop) : (s.setHop p h).keys = s.keys := by unfold State.setHop; split <;> rfl
@[simp] theorem State.setHop_htg (s : State) (p : Nat) (h : Hop) : (s.setHop p h).htg = s.htg := by unfold State.setHop; split <;> rfl
@[simp] theorem State.setHop_twin (s : State) (p : Nat) (h : Hop) : (s.setHop p h).twin = s.twin := by unfold State.setHop; split <;> rfl
@[simp] theorem State.setHop_pwr (s : State) (p : Nat) (h : Hop) : (s.setHop p h).pwr = s.pwr := by unfold State.setHop; split <;> rfl
@[simp] theorem State.setHop_dram (s : State) (p : Nat) (h : Hop) : (s.setHop p h).dram = s.dram := by unfold State.setHop; split <;> rfl
@[simp] theorem State.setHop_access (s : State) (p : Nat) (h : Hop) : (s.setHop p h).access = s.access := by unfold State.setHop; split <;> rfl
@[simp] theorem State.setHop_lin (s : State) (p : Nat) (h : Hop) : (s.setHop p h).lin = s.lin := by unfold State.setHop; split <;> rfl
@[simp] theorem State.setHop_life (s : State) (p : Nat) (h : Hop) : (s.setHop p h).life = s.life := by unfold State.setHop; split <;> rfl

/-! ### State.seamOut -/

@[simp] theorem State.seamOut_pending (s : State) (p : Nat) (o : SeamOut) : (s.seamOut p o).pending = s.pending := rfl
@[simp] theorem State.seamOut_clk (s : State) (p : Nat) (o : SeamOut) : (s.seamOut p o).clk = s.clk := rfl
@[simp] theorem State.seamOut_free (s : State) (p : Nat) (o : SeamOut) : (s.seamOut p o).free = s.free := rfl
@[simp] theorem State.seamOut_regs (s : State) (p : Nat) (o : SeamOut) : (s.seamOut p o).regs = s.regs := rfl
@[simp] theorem State.seamOut_conf (s : State) (p : Nat) (o : SeamOut) : (s.seamOut p o).conf = s.conf := rfl
@[simp] theorem State.seamOut_boot (s : State) (p : Nat) (o : SeamOut) : (s.seamOut p o).boot = s.boot := rfl
@[simp] theorem State.seamOut_col (s : State) (p : Nat) (o : SeamOut) : (s.seamOut p o).col = s.col := rfl
@[simp] theorem State.seamOut_slv (s : State) (p : Nat) (o : SeamOut) : (s.seamOut p o).slv = s.slv := rfl
@[simp] theorem State.seamOut_pockets (s : State) (p : Nat) (o : SeamOut) : (s.seamOut p o).pockets = s.pockets := rfl
@[simp] theorem State.seamOut_queues (s : State) (p : Nat) (o : SeamOut) : (s.seamOut p o).queues = s.queues := rfl
@[simp] theorem State.seamOut_arb (s : State) (p : Nat) (o : SeamOut) : (s.seamOut p o).arb = s.arb := rfl
@[simp] theorem State.seamOut_refusals (s : State) (p : Nat) (o : SeamOut) : (s.seamOut p o).refusals = s.refusals := rfl
@[simp] theorem State.seamOut_cache (s : State) (p : Nat) (o : SeamOut) : (s.seamOut p o).cache = s.cache := rfl
@[simp] theorem State.seamOut_flash (s : State) (p : Nat) (o : SeamOut) : (s.seamOut p o).flash = s.flash := rfl
@[simp] theorem State.seamOut_log (s : State) (p : Nat) (o : SeamOut) : (s.seamOut p o).log = s.log := rfl
@[simp] theorem State.seamOut_execs (s : State) (p : Nat) (o : SeamOut) : (s.seamOut p o).execs = s.execs := rfl
@[simp] theorem State.seamOut_execNext (s : State) (p : Nat) (o : SeamOut) : (s.seamOut p o).execNext = s.execNext := rfl
@[simp] theorem State.seamOut_keys (s : State) (p : Nat) (o : SeamOut) : (s.seamOut p o).keys = s.keys := rfl
@[simp] theorem State.seamOut_htg (s : State) (p : Nat) (o : SeamOut) : (s.seamOut p o).htg = s.htg := rfl
@[simp] theorem State.seamOut_twin (s : State) (p : Nat) (o : SeamOut) : (s.seamOut p o).twin = s.twin := rfl
@[simp] theorem State.seamOut_pwr (s : State) (p : Nat) (o : SeamOut) : (s.seamOut p o).pwr = s.pwr := rfl
@[simp] theorem State.seamOut_dram (s : State) (p : Nat) (o : SeamOut) : (s.seamOut p o).dram = s.dram := rfl
@[simp] theorem State.seamOut_access (s : State) (p : Nat) (o : SeamOut) : (s.seamOut p o).access = s.access := rfl
@[simp] theorem State.seamOut_lin (s : State) (p : Nat) (o : SeamOut) : (s.seamOut p o).lin = s.lin := rfl
@[simp] theorem State.seamOut_life (s : State) (p : Nat) (o : SeamOut) : (s.seamOut p o).life = s.life := rfl

/-! ### State.setLin -/

@[simp] theorem State.setLin_pending (s : State) (l : Lining) : (s.setLin l).pending = s.pending := rfl
@[simp] theorem State.setLin_clk (s : State) (l : Lining) : (s.setLin l).clk = s.clk := rfl
@[simp] theorem State.setLin_free (s : State) (l : Lining) : (s.setLin l).free = s.free := rfl
@[simp] theorem State.setLin_regs (s : State) (l : Lining) : (s.setLin l).regs = s.regs := rfl
@[simp] theorem State.setLin_conf (s : State) (l : Lining) : (s.setLin l).conf = s.conf := rfl
@[simp] theorem State.setLin_boot (s : State) (l : Lining) : (s.setLin l).boot = s.boot := rfl
@[simp] theorem State.setLin_col (s : State) (l : Lining) : (s.setLin l).col = s.col := rfl
@[simp] theorem State.setLin_slv (s : State) (l : Lining) : (s.setLin l).slv = s.slv := rfl
@[simp] theorem State.setLin_pockets (s : State) (l : Lining) : (s.setLin l).pockets = s.pockets := rfl
@[simp] theorem State.setLin_queues (s : State) (l : Lining) : (s.setLin l).queues = s.queues := rfl
@[simp] theorem State.setLin_arb (s : State) (l : Lining) : (s.setLin l).arb = s.arb := rfl
@[simp] theorem State.setLin_refusals (s : State) (l : Lining) : (s.setLin l).refusals = s.refusals := rfl
@[simp] theorem State.setLin_cache (s : State) (l : Lining) : (s.setLin l).cache = s.cache := rfl
@[simp] theorem State.setLin_flash (s : State) (l : Lining) : (s.setLin l).flash = s.flash := rfl
@[simp] theorem State.setLin_log (s : State) (l : Lining) : (s.setLin l).log = s.log := rfl
@[simp] theorem State.setLin_execs (s : State) (l : Lining) : (s.setLin l).execs = s.execs := rfl
@[simp] theorem State.setLin_execNext (s : State) (l : Lining) : (s.setLin l).execNext = s.execNext := rfl
@[simp] theorem State.setLin_keys (s : State) (l : Lining) : (s.setLin l).keys = s.keys := rfl
@[simp] theorem State.setLin_htg (s : State) (l : Lining) : (s.setLin l).htg = s.htg := rfl
@[simp] theorem State.setLin_seam (s : State) (l : Lining) : (s.setLin l).seam = s.seam := rfl
@[simp] theorem State.setLin_twin (s : State) (l : Lining) : (s.setLin l).twin = s.twin := rfl
@[simp] theorem State.setLin_pwr (s : State) (l : Lining) : (s.setLin l).pwr = s.pwr := rfl
@[simp] theorem State.setLin_dram (s : State) (l : Lining) : (s.setLin l).dram = s.dram := rfl
@[simp] theorem State.setLin_access (s : State) (l : Lining) : (s.setLin l).access = s.access := rfl
@[simp] theorem State.setLin_life (s : State) (l : Lining) : (s.setLin l).life = s.life := rfl
theorem State.setLin_lin (s : State) (l : Lining) : (s.setLin l).lin = l := rfl

/-! ### State.setDrc -/

@[simp] theorem State.setDrc_pending (s : State) (n : Nat) (c : DramCh) : (s.setDrc n c).pending = s.pending := rfl
@[simp] theorem State.setDrc_clk (s : State) (n : Nat) (c : DramCh) : (s.setDrc n c).clk = s.clk := rfl
@[simp] theorem State.setDrc_free (s : State) (n : Nat) (c : DramCh) : (s.setDrc n c).free = s.free := rfl
@[simp] theorem State.setDrc_regs (s : State) (n : Nat) (c : DramCh) : (s.setDrc n c).regs = s.regs := rfl
@[simp] theorem State.setDrc_conf (s : State) (n : Nat) (c : DramCh) : (s.setDrc n c).conf = s.conf := rfl
@[simp] theorem State.setDrc_boot (s : State) (n : Nat) (c : DramCh) : (s.setDrc n c).boot = s.boot := rfl
@[simp] theorem State.setDrc_col (s : State) (n : Nat) (c : DramCh) : (s.setDrc n c).col = s.col := rfl
@[simp] theorem State.setDrc_slv (s : State) (n : Nat) (c : DramCh) : (s.setDrc n c).slv = s.slv := rfl
@[simp] theorem State.setDrc_pockets (s : State) (n : Nat) (c : DramCh) : (s.setDrc n c).pockets = s.pockets := rfl
@[simp] theorem State.setDrc_queues (s : State) (n : Nat) (c : DramCh) : (s.setDrc n c).queues = s.queues := rfl
@[simp] theorem State.setDrc_arb (s : State) (n : Nat) (c : DramCh) : (s.setDrc n c).arb = s.arb := rfl
@[simp] theorem State.setDrc_refusals (s : State) (n : Nat) (c : DramCh) : (s.setDrc n c).refusals = s.refusals := rfl
@[simp] theorem State.setDrc_cache (s : State) (n : Nat) (c : DramCh) : (s.setDrc n c).cache = s.cache := rfl
@[simp] theorem State.setDrc_flash (s : State) (n : Nat) (c : DramCh) : (s.setDrc n c).flash = s.flash := rfl
@[simp] theorem State.setDrc_log (s : State) (n : Nat) (c : DramCh) : (s.setDrc n c).log = s.log := rfl
@[simp] theorem State.setDrc_execs (s : State) (n : Nat) (c : DramCh) : (s.setDrc n c).execs = s.execs := rfl
@[simp] theorem State.setDrc_execNext (s : State) (n : Nat) (c : DramCh) : (s.setDrc n c).execNext = s.execNext := rfl
@[simp] theorem State.setDrc_keys (s : State) (n : Nat) (c : DramCh) : (s.setDrc n c).keys = s.keys := rfl
@[simp] theorem State.setDrc_htg (s : State) (n : Nat) (c : DramCh) : (s.setDrc n c).htg = s.htg := rfl
@[simp] theorem State.setDrc_seam (s : State) (n : Nat) (c : DramCh) : (s.setDrc n c).seam = s.seam := rfl
@[simp] theorem State.setDrc_twin (s : State) (n : Nat) (c : DramCh) : (s.setDrc n c).twin = s.twin := rfl
@[simp] theorem State.setDrc_pwr (s : State) (n : Nat) (c : DramCh) : (s.setDrc n c).pwr = s.pwr := rfl
@[simp] theorem State.setDrc_access (s : State) (n : Nat) (c : DramCh) : (s.setDrc n c).access = s.access := rfl
@[simp] theorem State.setDrc_lin (s : State) (n : Nat) (c : DramCh) : (s.setDrc n c).lin = s.lin := rfl
@[simp] theorem State.setDrc_life (s : State) (n : Nat) (c : DramCh) : (s.setDrc n c).life = s.life := rfl
theorem State.setDrc_dram (s : State) (n : Nat) (c : DramCh) : (s.setDrc n c).dram = { s.dram with ch := s.dram.ch.set n c } := rfl

/-! ### State.setBolt -/

@[simp] theorem State.setBolt_pending (s : State) (b : Bolt) : (s.setBolt b).pending = s.pending := rfl
@[simp] theorem State.setBolt_clk (s : State) (b : Bolt) : (s.setBolt b).clk = s.clk := rfl
@[simp] theorem State.setBolt_free (s : State) (b : Bolt) : (s.setBolt b).free = s.free := rfl
@[simp] theorem State.setBolt_regs (s : State) (b : Bolt) : (s.setBolt b).regs = s.regs := rfl
@[simp] theorem State.setBolt_conf (s : State) (b : Bolt) : (s.setBolt b).conf = s.conf := rfl
@[simp] theorem State.setBolt_boot (s : State) (b : Bolt) : (s.setBolt b).boot = s.boot := rfl
@[simp] theorem State.setBolt_col (s : State) (b : Bolt) : (s.setBolt b).col = s.col := rfl
@[simp] theorem State.setBolt_slv (s : State) (b : Bolt) : (s.setBolt b).slv = s.slv := rfl
@[simp] theorem State.setBolt_pockets (s : State) (b : Bolt) : (s.setBolt b).pockets = s.pockets := rfl
@[simp] theorem State.setBolt_queues (s : State) (b : Bolt) : (s.setBolt b).queues = s.queues := rfl
@[simp] theorem State.setBolt_arb (s : State) (b : Bolt) : (s.setBolt b).arb = s.arb := rfl
@[simp] theorem State.setBolt_refusals (s : State) (b : Bolt) : (s.setBolt b).refusals = s.refusals := rfl
@[simp] theorem State.setBolt_cache (s : State) (b : Bolt) : (s.setBolt b).cache = s.cache := rfl
@[simp] theorem State.setBolt_log (s : State) (b : Bolt) : (s.setBolt b).log = s.log := rfl
@[simp] theorem State.setBolt_execs (s : State) (b : Bolt) : (s.setBolt b).execs = s.execs := rfl
@[simp] theorem State.setBolt_execNext (s : State) (b : Bolt) : (s.setBolt b).execNext = s.execNext := rfl
@[simp] theorem State.setBolt_keys (s : State) (b : Bolt) : (s.setBolt b).keys = s.keys := rfl
@[simp] theorem State.setBolt_htg (s : State) (b : Bolt) : (s.setBolt b).htg = s.htg := rfl
@[simp] theorem State.setBolt_seam (s : State) (b : Bolt) : (s.setBolt b).seam = s.seam := rfl
@[simp] theorem State.setBolt_twin (s : State) (b : Bolt) : (s.setBolt b).twin = s.twin := rfl
@[simp] theorem State.setBolt_pwr (s : State) (b : Bolt) : (s.setBolt b).pwr = s.pwr := rfl
@[simp] theorem State.setBolt_dram (s : State) (b : Bolt) : (s.setBolt b).dram = s.dram := rfl
@[simp] theorem State.setBolt_access (s : State) (b : Bolt) : (s.setBolt b).access = s.access := rfl
@[simp] theorem State.setBolt_lin (s : State) (b : Bolt) : (s.setBolt b).lin = s.lin := rfl
@[simp] theorem State.setBolt_life (s : State) (b : Bolt) : (s.setBolt b).life = s.life := rfl

/-! ### State.setExec -/

@[simp] theorem State.setExec_pending (s : State) (x : Exec) : (s.setExec x).pending = s.pending := rfl
@[simp] theorem State.setExec_clk (s : State) (x : Exec) : (s.setExec x).clk = s.clk := rfl
@[simp] theorem State.setExec_free (s : State) (x : Exec) : (s.setExec x).free = s.free := rfl
@[simp] theorem State.setExec_regs (s : State) (x : Exec) : (s.setExec x).regs = s.regs := rfl
@[simp] theorem State.setExec_conf (s : State) (x : Exec) : (s.setExec x).conf = s.conf := rfl
@[simp] theorem State.setExec_boot (s : State) (x : Exec) : (s.setExec x).boot = s.boot := rfl
@[simp] theorem State.setExec_col (s : State) (x : Exec) : (s.setExec x).col = s.col := rfl
@[simp] theorem State.setExec_slv (s : State) (x : Exec) : (s.setExec x).slv = s.slv := rfl
@[simp] theorem State.setExec_pockets (s : State) (x : Exec) : (s.setExec x).pockets = s.pockets := rfl
@[simp] theorem State.setExec_queues (s : State) (x : Exec) : (s.setExec x).queues = s.queues := rfl
@[simp] theorem State.setExec_arb (s : State) (x : Exec) : (s.setExec x).arb = s.arb := rfl
@[simp] theorem State.setExec_refusals (s : State) (x : Exec) : (s.setExec x).refusals = s.refusals := rfl
@[simp] theorem State.setExec_cache (s : State) (x : Exec) : (s.setExec x).cache = s.cache := rfl
@[simp] theorem State.setExec_flash (s : State) (x : Exec) : (s.setExec x).flash = s.flash := rfl
@[simp] theorem State.setExec_log (s : State) (x : Exec) : (s.setExec x).log = s.log := rfl
@[simp] theorem State.setExec_execNext (s : State) (x : Exec) : (s.setExec x).execNext = s.execNext := rfl
@[simp] theorem State.setExec_keys (s : State) (x : Exec) : (s.setExec x).keys = s.keys := rfl
@[simp] theorem State.setExec_htg (s : State) (x : Exec) : (s.setExec x).htg = s.htg := rfl
@[simp] theorem State.setExec_seam (s : State) (x : Exec) : (s.setExec x).seam = s.seam := rfl
@[simp] theorem State.setExec_twin (s : State) (x : Exec) : (s.setExec x).twin = s.twin := rfl
@[simp] theorem State.setExec_pwr (s : State) (x : Exec) : (s.setExec x).pwr = s.pwr := rfl
@[simp] theorem State.setExec_dram (s : State) (x : Exec) : (s.setExec x).dram = s.dram := rfl
@[simp] theorem State.setExec_access (s : State) (x : Exec) : (s.setExec x).access = s.access := rfl
@[simp] theorem State.setExec_lin (s : State) (x : Exec) : (s.setExec x).lin = s.lin := rfl
@[simp] theorem State.setExec_life (s : State) (x : Exec) : (s.setExec x).life = s.life := rfl

/-! ### State.notify -/

@[simp] theorem State.notify_pending (s : State) (ev : String) (kv : List KV) : (s.notify ev kv).pending = s.pending := by
  unfold State.notify; exact foldl_same State.pending _ (fun t k => State.setSession_pending t (.seam k) _) _ _
@[simp] theorem State.notify_clk (s : State) (ev : String) (kv : List KV) : (s.notify ev kv).clk = s.clk := by
  unfold State.notify; exact foldl_same State.clk _ (fun t k => State.setSession_clk t (.seam k) _) _ _
@[simp] theorem State.notify_free (s : State) (ev : String) (kv : List KV) : (s.notify ev kv).free = s.free := by
  unfold State.notify; exact foldl_same State.free _ (fun t k => State.setSession_free t (.seam k) _) _ _
@[simp] theorem State.notify_regs (s : State) (ev : String) (kv : List KV) : (s.notify ev kv).regs = s.regs := by
  unfold State.notify; exact foldl_same State.regs _ (fun t k => State.setSession_regs t (.seam k) _) _ _
@[simp] theorem State.notify_conf (s : State) (ev : String) (kv : List KV) : (s.notify ev kv).conf = s.conf := by
  unfold State.notify; exact foldl_same State.conf _ (fun t k => State.setSession_conf t (.seam k) _) _ _
@[simp] theorem State.notify_boot (s : State) (ev : String) (kv : List KV) : (s.notify ev kv).boot = s.boot := by
  unfold State.notify; exact foldl_same State.boot _ (fun t k => State.setSession_boot t (.seam k) _) _ _
@[simp] theorem State.notify_slv (s : State) (ev : String) (kv : List KV) : (s.notify ev kv).slv = s.slv := by
  unfold State.notify; exact foldl_same State.slv _ (fun t k => State.setSession_slv t (.seam k) _) _ _
@[simp] theorem State.notify_pockets (s : State) (ev : String) (kv : List KV) : (s.notify ev kv).pockets = s.pockets := by
  unfold State.notify; exact foldl_same State.pockets _ (fun t k => State.setSession_pockets t (.seam k) _) _ _
@[simp] theorem State.notify_queues (s : State) (ev : String) (kv : List KV) : (s.notify ev kv).queues = s.queues := by
  unfold State.notify; exact foldl_same State.queues _ (fun t k => State.setSession_queues t (.seam k) _) _ _
@[simp] theorem State.notify_arb (s : State) (ev : String) (kv : List KV) : (s.notify ev kv).arb = s.arb := by
  unfold State.notify; exact foldl_same State.arb _ (fun t k => State.setSession_arb t (.seam k) _) _ _
@[simp] theorem State.notify_refusals (s : State) (ev : String) (kv : List KV) : (s.notify ev kv).refusals = s.refusals := by
  unfold State.notify; exact foldl_same State.refusals _ (fun t k => State.setSession_refusals t (.seam k) _) _ _
@[simp] theorem State.notify_cache (s : State) (ev : String) (kv : List KV) : (s.notify ev kv).cache = s.cache := by
  unfold State.notify; exact foldl_same State.cache _ (fun t k => State.setSession_cache t (.seam k) _) _ _
@[simp] theorem State.notify_flash (s : State) (ev : String) (kv : List KV) : (s.notify ev kv).flash = s.flash := by
  unfold State.notify; exact foldl_same State.flash _ (fun t k => State.setSession_flash t (.seam k) _) _ _
@[simp] theorem State.notify_log (s : State) (ev : String) (kv : List KV) : (s.notify ev kv).log = s.log := by
  unfold State.notify; exact foldl_same State.log _ (fun t k => State.setSession_log t (.seam k) _) _ _
@[simp] theorem State.notify_execs (s : State) (ev : String) (kv : List KV) : (s.notify ev kv).execs = s.execs := by
  unfold State.notify; exact foldl_same State.execs _ (fun t k => State.setSession_execs t (.seam k) _) _ _
@[simp] theorem State.notify_execNext (s : State) (ev : String) (kv : List KV) : (s.notify ev kv).execNext = s.execNext := by
  unfold State.notify; exact foldl_same State.execNext _ (fun t k => State.setSession_execNext t (.seam k) _) _ _
@[simp] theorem State.notify_keys (s : State) (ev : String) (kv : List KV) : (s.notify ev kv).keys = s.keys := by
  unfold State.notify; exact foldl_same State.keys _ (fun t k => State.setSession_keys t (.seam k) _) _ _
@[simp] theorem State.notify_htg (s : State) (ev : String) (kv : List KV) : (s.notify ev kv).htg = s.htg := by
  unfold State.notify; exact foldl_same State.htg _ (fun t k => State.setSession_htg t (.seam k) _) _ _
@[simp] theorem State.notify_seam (s : State) (ev : String) (kv : List KV) : (s.notify ev kv).seam = s.seam := by
  unfold State.notify; exact foldl_same State.seam _ (fun t k => State.setSession_seam t (.seam k) _) _ _
@[simp] theorem State.notify_twin (s : State) (ev : String) (kv : List KV) : (s.notify ev kv).twin = s.twin := by
  unfold State.notify; exact foldl_same State.twin _ (fun t k => State.setSession_twin t (.seam k) _) _ _
@[simp] theorem State.notify_pwr (s : State) (ev : String) (kv : List KV) : (s.notify ev kv).pwr = s.pwr := by
  unfold State.notify; exact foldl_same State.pwr _ (fun t k => State.setSession_pwr t (.seam k) _) _ _
@[simp] theorem State.notify_dram (s : State) (ev : String) (kv : List KV) : (s.notify ev kv).dram = s.dram := by
  unfold State.notify; exact foldl_same State.dram _ (fun t k => State.setSession_dram t (.seam k) _) _ _
@[simp] theorem State.notify_access (s : State) (ev : String) (kv : List KV) : (s.notify ev kv).access = s.access := by
  unfold State.notify; exact foldl_same State.access _ (fun t k => State.setSession_access t (.seam k) _) _ _
@[simp] theorem State.notify_lin (s : State) (ev : String) (kv : List KV) : (s.notify ev kv).lin = s.lin := by
  unfold State.notify; exact foldl_same State.lin _ (fun t k => State.setSession_lin t (.seam k) _) _ _
@[simp] theorem State.notify_life (s : State) (ev : String) (kv : List KV) : (s.notify ev kv).life = s.life := by
  unfold State.notify; exact foldl_same State.life _ (fun t k => State.setSession_life t (.seam k) _) _ _

/-! ### Sessions, ports and Pockets read back -/

theorem upsert_lookup {α : Type} (n : Nat) (v : α) (l : List (Nat × α)) : (upsert n v l).lookup n = some v := by
  induction l with
  | nil => simp [upsert]
  | cons x l ih =>
    obtain ⟨k, w⟩ := x
    unfold upsert
    by_cases h : k = n
    · simp [h]
    · have : (n == k) = false := by simp; exact fun e => h e.symm
      simp [h, List.lookup, this, ih]

theorem upsert_lookup_other {α : Type} (n m : Nat) (v : α) (l : List (Nat × α)) (h : m ≠ n) : (upsert n v l).lookup m = l.lookup m := by
  induction l with
  | nil =>
    have : (m == n) = false := by simpa using h
    simp [upsert, List.lookup, this]
  | cons x l ih =>
    obtain ⟨k, w⟩ := x
    unfold upsert
    by_cases hk : k = n
    · subst hk
      have : (m == k) = false := by simpa using h
      simp [List.lookup, this]
    · by_cases hm : m = k
      · simp [hk, List.lookup, hm]
      · have : (m == k) = false := by simpa using hm
        simp [hk, List.lookup, this, ih]

/-- A session reads back as it was put. -/
@[simp] theorem State.session_setSession (s : State) (p : Path) (x : Session) : (s.setSession p x).session p = x := by
  cases p with
  | collar => rfl
  | mgt => rfl
  | seam n => simp [State.setSession, State.session, upsert_lookup]

theorem State.lookup_setPocket (s : State) (p : Nat) (k : Pocket) : (s.setPocket p k).pockets.lookup p = some k := upsert_lookup p k s.pockets
theorem State.lookup_setQueue (s : State) (q : Nat) (k : QueuePair) : (s.setQueue q k).queues.lookup q = some k := upsert_lookup q k s.queues
@[simp] theorem State.hop_setHop_east (s : State) (h : Hop) : (s.setHop 0 h).hop 0 = h := rfl
@[simp] theorem State.hop_setHop_west (s : State) (h : Hop) : (s.setHop 1 h).hop 1 = h := rfl

end Sys2Proof.Machine
end

