-- ==== Sys2Proof/Laws/Lines.lean ====
section
/-!
SUPPORT. Sys2Proof/Laws/Lines.lean: what a line that is admitted does, once for each shape of command.
-/
namespace Sys2Proof.Machine
open Sys2Proof

variable {s : State} {c : Say} {ln : Ln} {us : Nat} {f : Form}

/-- An admitted line runs its command's body in the state that has taken it up, and answers with the body's result. -/
theorem State.cmd_run {body : State → State × Result} (h : s.runs c ln us f false) :
    s.cmd c ln us f body = .next ((body (s.taken ln us)).1.answer ln f (body (s.taken ln us)).2) := by
  obtain ⟨⟨h1, h2, h3⟩, h4⟩ := h
  simp only [State.taken] at h3
  simp only [State.cmd, State.runLine, h1, h2, h3, h4, State.taken, Bool.not_true, Bool.and_self, Bool.false_eq_true, if_false]

/-- The same for a form that is answered before READY. -/
theorem State.cmdEarly_run {body : State → State × Result} (h : s.runs c ln us f true) :
    s.cmdEarly c ln us f body = .next ((body (s.taken ln us)).1.answer ln f (body (s.taken ln us)).2) := by
  obtain ⟨⟨h1, h2, h3⟩, h4⟩ := h
  simp only [State.taken] at h3
  simp only [State.cmdEarly, State.runLine, h1, h2, h3, h4, State.taken, Bool.not_true, Bool.and_self, Bool.false_eq_true, if_false]

/-- A reading command that is answered OK. -/
theorem State.cmd_ok {body : State → State × Result} {v : State} {d : List (List KV)} {kv : List KV} (h : s.runs c ln us f false)
    (hf : f.changing = false) (hb : body (s.taken ln us) = (v, .ok d kv)) : s.cmd c ln us f body = .next (v.reply ln.path (.ok ln.tag d kv)) := by
  rw [State.cmd_run h, hb]; simp [State.answer, State.settled, State.recorded, hf]

theorem State.cmdEarly_ok {body : State → State × Result} {v : State} {d : List (List KV)} {kv : List KV} (h : s.runs c ln us f true)
    (hf : f.changing = false) (hb : body (s.taken ln us) = (v, .ok d kv)) : s.cmdEarly c ln us f body = .next (v.reply ln.path (.ok ln.tag d kv)) := by
  rw [State.cmdEarly_run h, hb]; simp [State.answer, State.settled, State.recorded, hf]

/-- A changing command that is answered OK. -/
theorem State.cmd_done {body : State → State × Result} {v : State} {d : List (List KV)} {kv : List KV} (h : s.runs c ln us f false)
    (hf : f.changing = true) (hb : body (s.taken ln us) = (v, .ok d kv)) : s.cmd c ln us f body = .next (v.done ln d kv) := by
  rw [State.cmd_run h, hb]; simp [State.answer, State.settled, State.recorded, State.done, hf]

/-- A command that its own checks refuse with a status. -/
theorem State.cmd_fail {body : State → State × Result} {v : State} {st : Status} (h : s.runs c ln us f false)
    (hf : f.changing = false) (hb : body (s.taken ln us) = (v, .fail st)) : s.cmd c ln us f body = .next (v.reply ln.path (.er ln.tag st)) := by
  rw [State.cmd_run h, hb]; simp [State.answer, State.settled, hf]

theorem State.cmd_refused {body : State → State × Result} {v : State} {st : Status} (h : s.runs c ln us f false)
    (hf : f.changing = true) (hb : body (s.taken ln us) = (v, .fail st)) : s.cmd c ln us f body = .next (v.refused ln st) := by
  rw [State.cmd_run h, hb]; simp [State.answer, State.settled, State.refused, hf]

/-- A changing command whose reply comes later: its session waits and it holds the configuration lock. -/
theorem State.cmd_wait {body : State → State × Result} {v : State} {w : AwaitFor} (h : s.runs c ln us f false) (hf : f.changing = true)
    (hb : body (s.taken ln us) = (v, .wait w)) : s.cmd c ln us f body = .next (v.waiting ln w) := by
  rw [State.cmd_run h, hb]; simp only [State.answer, hf, if_true, State.waiting]

/-- A configuration command on a card that is no secondary. -/
theorem State.confCmd_done {body : State → State × Result} {v : State} {d : List (List KV)} {kv : List KV} (h : s.runs c ln us f false)
    (hf : f.changing = true) (hn : (s.taken ln us).isSecondary = false) (hb : body (s.taken ln us) = (v, .ok d kv)) :
    s.confCmd c ln us f body = .next (v.done ln d kv) := by
  unfold State.confCmd
  exact State.cmd_done h hf (by simp only [hn, Bool.false_eq_true, if_false, hb])

/-- A `key load` that is admitted: the blob buffer of its path is empty (R1001), and its own checks and its effect follow. -/
theorem State.loadCmd_run {slots : List Nat} {body : Bytes → State → State × Result} {t : State} (h : s.runs c ln us f false)
    (ht : t = (s.taken ln us).setBlob ln.path []) (h2 : t.isSecondary = false) (h3 : t.namesTwinKey slots = false) :
    s.loadCmd c ln us f slots body = .next ((body ((s.taken ln us).session ln.path).blob t).1.answer ln f
      (body ((s.taken ln us).session ln.path).blob t).2) := by
  obtain ⟨⟨h4, h5, h6⟩, h7⟩ := h
  subst ht
  simp only [State.taken] at h2 h3 h6
  simp only [State.loadCmd, State.gateRefuses, State.runLine, State.taken, h2, h3, h4, h5, h6, h7, Bool.and_self, Bool.not_true, Bool.or_self,
    Bool.false_eq_true, if_false, Bool.and_false]

/-- A command that acts after its OK. -/
theorem State.cmdThen_done {check : State → Option Status} {after : State → State} (h : s.runs c ln us f false) (hf : f.changing = true)
    (hc : check (s.taken ln us) = none) :
    s.cmdThen c ln us f check after = .next (after ((s.taken ln us).done ln [] [])) := by
  obtain ⟨⟨h1, h2, h3⟩, h4⟩ := h
  simp only [State.taken] at h3 hc
  simp only [State.cmdThen, State.runThen, h1, h2, h3, h4, hc, State.answer, State.taken, State.settled, State.recorded, State.done, hf, Bool.not_true,
    Bool.and_self, Bool.false_eq_true, if_false, if_true]

/-- Taking a line up keeps the register file in its canonical form. -/
theorem State.taken_canonical (ln : Ln) (us : Nat) (h : s.canonical = true) : (s.taken ln us).canonical = true :=
  (State.heard_held _ _ _ (State.wakeLine_held _ _ _ (State.at_held s us ⟨h, rfl⟩))).1

/-! ### Fields that do not share a bit -/

/-- Two fields share no bit, and the first lies within its word. -/
def Fld.apart (f g : Fld) : Bool :=
  (f.addr != g.addr || decide (f.lsb + f.width ≤ g.lsb) || decide (g.lsb + g.width ≤ f.lsb)) && decide (f.lsb + f.width ≤ 32)

theorem State.get_set_apart (s : State) (f g : Fld) (v : Nat) (h : f.apart g = true) (hw : s.regs.wf = true) :
    (s.set g v).get f = s.get f := by
  simp only [Fld.apart, Bool.and_eq_true, Bool.or_eq_true, bne_iff_ne, ne_eq, decide_eq_true_eq] at h
  exact State.get_set_other s f g v (by tauto) h.2 hw

theorem State.setFlag_wf (s : State) (f : Fld) (b : Bool) (h : s.regs.wf = true) : (s.setFlag f b).regs.wf = true :=
  State.set_wf s f _ h

theorem State.flag_setFlag_same (s : State) (f : Fld) (b : Bool) (hf : f.lsb + f.width ≤ 32 ∧ 0 < f.width) (h : s.regs.wf = true) :
    (s.setFlag f b).flag f = b := by
  unfold State.flag State.setFlag
  rw [State.get_set_same s f _ hf.1 h]
  have : 2 ≤ 2 ^ f.width := Nat.pow_le_pow_right (by decide : 0 < 2) hf.2
  cases b <;> simp [Nat.mod_eq_of_lt, Nat.lt_of_lt_of_le Nat.one_lt_two this]

end Sys2Proof.Machine
end

