-- ==== Sys2Proof/Laws/Replies.lean ====
section
/-!
SUPPORT. Sys2Proof/Laws/Replies.lean: what sending a line, a prompt or a notice can change, once for all commands.
-/
namespace Sys2Proof.Machine
open Sys2Proof

/-- Everything but the sessions, the links and the registers is the same. -/
def SameStores (s t : State) : Prop := t.pockets = s.pockets ∧ t.queues = s.queues ∧ t.execs = s.execs ∧ t.cache = s.cache ∧ t.flash = s.flash ∧ t.keys = s.keys ∧ t.dram = s.dram ∧ t.twin = s.twin ∧
    t.htg = s.htg ∧ t.pwr = s.pwr ∧ t.lin = s.lin ∧ t.life = s.life ∧ t.access = s.access ∧ t.boot = s.boot ∧ t.pending = s.pending ∧ t.clk = s.clk ∧ t.free = s.free ∧
    t.conf = s.conf ∧ t.arb = s.arb ∧ t.refusals = s.refusals ∧ t.log = s.log ∧ t.execNext = s.execNext

theorem SameStores.refl (s : State) : SameStores s s := by simp [SameStores]

theorem SameStores.trans {a b c : State} (h : SameStores a b) (g : SameStores b c) : SameStores a c := by simp only [SameStores] at *; simp [*]

theorem SameStores.foldl {α : Type} (f : State → α → State) (h : ∀ s x, SameStores s (f s x)) (l : List α) : ∀ s, SameStores s (l.foldl f s) := by
  induction l with
  | nil => intro s; exact SameStores.refl s
  | cons a l ih => intro s; exact (h s a).trans (ih _)

theorem State.setHop_keeps (s : State) (p : Nat) (h : Hop) : SameStores s (s.setHop p h) ∧ (s.setHop p h).col = s.col := by
  unfold State.setHop; split <;> simp [SameStores]

theorem State.pumpHop_keeps (p : Nat) : ∀ (n : Nat) (s : State), SameStores s (s.pumpHop p n) ∧ (s.pumpHop p n).col = s.col := by
  intro n; induction n with
  | zero => intro s; exact ⟨SameStores.refl s, Eq.refl _⟩
  | succ n ih =>
    intro s
    unfold State.pumpHop
    dsimp only
    split
    · exact ⟨SameStores.refl s, Eq.refl _⟩
    · split
      · exact ⟨SameStores.refl s, Eq.refl _⟩
      · have a : ∀ (h : Hop) (o : SeamOut), SameStores s ((s.setHop p h).seamOut p o) ∧ ((s.setHop p h).seamOut p o).col = s.col := by
          intro h o
          exact ⟨SameStores.trans (State.setHop_keeps s p h).1 (by simp [SameStores, State.seamOut]), (State.setHop_keeps s p h).2⟩
        exact ⟨SameStores.trans (a _ _).1 (ih _).1, (ih _).2.trans (a _ _).2⟩

/-- A frame sent on the ring changes the Seam ports alone. -/
theorem State.ringSend_keeps (s : State) (c u d : Nat) (a p : Bytes) : SameStores s (s.ringSend c u d a p) ∧ (s.ringSend c u d a p).col = s.col := by
  unfold State.ringSend State.takeRseq State.ringOwn State.ringPut
  dsimp only
  split
  · exact ⟨SameStores.refl s, Eq.refl _⟩
  · refine ⟨SameStores.trans (SameStores.trans ?_ (State.setHop_keeps _ _ _).1) (State.pumpHop_keeps _ _ _).1, ((State.pumpHop_keeps _ _ _).2.trans (State.setHop_keeps _ _ _).2).trans ?_⟩
    · simp [SameStores]
    · exact Eq.refl _

theorem foldl_col {α : Type} (f : State → α → State) (h : ∀ s x, (f s x).col = s.col) (l : List α) : ∀ s, (l.foldl f s).col = s.col := by
  induction l with
  | nil => intro s; exact Eq.refl _
  | cons a l ih => intro s; rw [List.foldl_cons, ih, h]

theorem State.seamLine_keeps (s : State) (n : Nat) (l : CardLine) : SameStores s (s.seamLine n l) ∧ (s.seamLine n l).col = s.col := by
  unfold State.seamLine
  dsimp only
  split
  · exact ⟨SameStores.foldl _ (fun s x => (State.ringSend_keeps s _ _ _ _ _).1) _ _, foldl_col _ (fun s x => (State.ringSend_keeps s _ _ _ _ _).2) _ _⟩
  · exact ⟨SameStores.foldl _ (fun s x => (State.ringSend_keeps s _ _ _ _ _).1) _ _, foldl_col _ (fun s x => (State.ringSend_keeps s _ _ _ _ _).2) _ _⟩

/-- Every session of every path is the same. -/
def SameSessions (s t : State) : Prop := t.col.collar = s.col.collar ∧ t.col.mgt = s.col.mgt ∧ t.col.seam = s.col.seam

theorem SameSessions.session {s t : State} (h : SameSessions s t) (p : Path) : t.session p = s.session p := by
  cases p <;> simp [State.session, h.1, h.2.1, h.2.2]

/-- A line sent on a path changes no store and no session. -/
theorem State.send_keeps (s : State) (p : Path) (l : CardLine) : SameStores s (s.send p l) ∧ SameSessions s (s.send p l) := by
  unfold State.send
  split
  · exact ⟨SameStores.refl s, by simp [SameSessions]⟩
  · split
    · exact ⟨by simp [SameStores], by simp [SameSessions]⟩
    dsimp only
    split
    · exact ⟨by simp [SameStores], by simp [SameSessions]⟩
    · obtain ⟨a, b⟩ := State.seamLine_keeps { s with col := { s.col with sent := s.col.sent ++ [(_, l)] } } _ l
      exact ⟨SameStores.trans (by simp [SameStores]) a, by simp [SameSessions, b]⟩
    · exact ⟨by simp [SameStores], by simp [SameSessions]⟩

theorem State.ctsApply_keeps (s : State) : SameStores s s.ctsApply ∧ SameSessions s s.ctsApply := by
  unfold State.ctsApply
  split
  · exact ⟨SameStores.refl s, by simp [SameSessions]⟩
  · split
    · exact ⟨SameStores.refl s, by simp [SameSessions]⟩
    · exact ⟨by simp [SameStores, State.setFlag, State.set, State.setWord], by simp [SameSessions, State.setFlag, State.set, State.setWord]⟩

theorem SameSessions.trans {a b c : State} (h : SameSessions a b) (g : SameSessions b c) : SameSessions a c := by simp only [SameSessions] at *; simp [*]

/-- A prompt changes no store and no session. -/
theorem State.prompt_keeps (s : State) (p : Path) : SameStores s (s.prompt p) ∧ SameSessions s (s.prompt p) := by
  have key : ∀ t : State, SameStores s t ∧ SameSessions s t → SameStores s (if t.strict p || (p == .collar && t.col.switchDiv.isSome) then t else t.send p .prompt) ∧
      SameSessions s (if t.strict p || (p == .collar && t.col.switchDiv.isSome) then t else t.send p .prompt) := by
    intro t h
    split
    · exact h
    · exact ⟨h.1.trans (State.send_keeps t p _).1, h.2.trans (State.send_keeps t p _).2⟩
  unfold State.prompt
  apply key
  split
  · exact State.ctsApply_keeps s
  · exact ⟨SameStores.refl s, by simp [SameSessions]⟩

theorem lookup_upsert_same {α : Type} (n : Nat) (v : α) : ∀ l : List (Nat × α), (upsert n v l).lookup n = some v
  | [] => by simp [upsert]
  | (k, w) :: r => by
    by_cases h : k = n
    · simp [upsert, h]
    · have : (n == k) = false := by simp; omega
      simp [upsert, h, List.lookup, this, lookup_upsert_same n v r]

theorem lookup_upsert_other {α : Type} (n m : Nat) (v : α) (hm : m ≠ n) : ∀ l : List (Nat × α), (upsert n v l).lookup m = l.lookup m
  | [] => by have : (m == n) = false := by simp [hm]
             simp [upsert, List.lookup, this]
  | (k, w) :: r => by
    by_cases h : k = n
    · have : (m == n) = false := by simp [hm]
      simp [upsert, h, List.lookup, this]
    · simp only [upsert, h, if_false, List.lookup]
      split
      · rfl
      · exact lookup_upsert_other n m v hm r

theorem State.session_setSession_same (s : State) (p : Path) (x : Session) : (s.setSession p x).session p = x := by
  cases p <;> simp [State.setSession, State.session, lookup_upsert_same]

theorem State.session_setSession_other (s : State) (p q : Path) (x : Session) (h : q ≠ p) : (s.setSession p x).session q = s.session q := by
  cases p <;> cases q <;> simp_all [State.setSession, State.session]
  rename_i n m
  rw [lookup_upsert_other n m x h]

theorem State.setSession_keeps (s : State) (p : Path) (x : Session) : SameStores s (s.setSession p x) := by cases p <;> simp [SameStores, State.setSession]


theorem Session.note_last (x : Session) (n : Notice) : (x.note n).last = x.last := by unfold Session.note; split <;> rfl

theorem State.last_setSession_note (s : State) (p q : Path) (n : Notice) : ((s.setSession p ((s.session p).note n)).session q).last = (s.session q).last := by
  by_cases h : q = p
  · subst h; rw [State.session_setSession_same, Session.note_last]
  · rw [State.session_setSession_other _ _ _ _ h]


/-- A reply changes no store. -/
theorem State.reply_keeps (s : State) (p : Path) (r : Reply) : SameStores s (s.reply p r) :=
  ((State.send_keeps s p _).1.trans (State.setSession_keeps _ p _)).trans (State.prompt_keeps _ p).1

theorem State.startJob_keeps (s : State) (p : Path) (what : String) (w : Option AwaitFor) : SameStores s (s.startJob p what w) := by
  simp [SameStores, State.startJob]

/-- The lines that have waited for more than 1 s are answered with their jobs: no store changes. -/
theorem State.longWork_keeps (s : State) : SameStores s s.longWork := by
  unfold State.longWork
  refine SameStores.foldl _ (fun t p => ?_) _ s
  split
  · split
    · exact (State.startJob_keeps t p _ _).trans (State.reply_keeps _ p _)
    · exact SameStores.refl t
  · exact SameStores.refl t

/-- The passage of time changes the time, and what the sessions and the links show of lines that have waited for more than 1 s. -/
theorem State.at_keeps (s : State) (us : Nat) : SameStores (s.clkTo us) (s.at us) := State.longWork_keeps _

@[simp] theorem State.at_pending (s : State) (us : Nat) : (s.at us).pending = s.pending := by
  have h := State.at_keeps s us; simp only [SameStores] at h; simp [h, State.clkTo]
@[simp] theorem State.at_free (s : State) (us : Nat) : (s.at us).free = s.free := by
  have h := State.at_keeps s us; simp only [SameStores] at h; simp [h, State.clkTo]
@[simp] theorem State.at_conf (s : State) (us : Nat) : (s.at us).conf = s.conf := by
  have h := State.at_keeps s us; simp only [SameStores] at h; simp [h, State.clkTo]
@[simp] theorem State.at_boot (s : State) (us : Nat) : (s.at us).boot = s.boot := by
  have h := State.at_keeps s us; simp only [SameStores] at h; simp [h, State.clkTo]
@[simp] theorem State.at_pockets (s : State) (us : Nat) : (s.at us).pockets = s.pockets := by
  have h := State.at_keeps s us; simp only [SameStores] at h; simp [h, State.clkTo]
@[simp] theorem State.at_queues (s : State) (us : Nat) : (s.at us).queues = s.queues := by
  have h := State.at_keeps s us; simp only [SameStores] at h; simp [h, State.clkTo]
@[simp] theorem State.at_arb (s : State) (us : Nat) : (s.at us).arb = s.arb := by
  have h := State.at_keeps s us; simp only [SameStores] at h; simp [h, State.clkTo]
@[simp] theorem State.at_refusals (s : State) (us : Nat) : (s.at us).refusals = s.refusals := by
  have h := State.at_keeps s us; simp only [SameStores] at h; simp [h, State.clkTo]
@[simp] theorem State.at_cache (s : State) (us : Nat) : (s.at us).cache = s.cache := by
  have h := State.at_keeps s us; simp only [SameStores] at h; simp [h, State.clkTo]
@[simp] theorem State.at_flash (s : State) (us : Nat) : (s.at us).flash = s.flash := by
  have h := State.at_keeps s us; simp only [SameStores] at h; simp [h, State.clkTo]
@[simp] theorem State.at_log (s : State) (us : Nat) : (s.at us).log = s.log := by
  have h := State.at_keeps s us; simp only [SameStores] at h; simp [h, State.clkTo]
@[simp] theorem State.at_execs (s : State) (us : Nat) : (s.at us).execs = s.execs := by
  have h := State.at_keeps s us; simp only [SameStores] at h; simp [h, State.clkTo]
@[simp] theorem State.at_execNext (s : State) (us : Nat) : (s.at us).execNext = s.execNext := by
  have h := State.at_keeps s us; simp only [SameStores] at h; simp [h, State.clkTo]
@[simp] theorem State.at_keys (s : State) (us : Nat) : (s.at us).keys = s.keys := by
  have h := State.at_keeps s us; simp only [SameStores] at h; simp [h, State.clkTo]
@[simp] theorem State.at_htg (s : State) (us : Nat) : (s.at us).htg = s.htg := by
  have h := State.at_keeps s us; simp only [SameStores] at h; simp [h, State.clkTo]
@[simp] theorem State.at_twin (s : State) (us : Nat) : (s.at us).twin = s.twin := by
  have h := State.at_keeps s us; simp only [SameStores] at h; simp [h, State.clkTo]
@[simp] theorem State.at_pwr (s : State) (us : Nat) : (s.at us).pwr = s.pwr := by
  have h := State.at_keeps s us; simp only [SameStores] at h; simp [h, State.clkTo]
@[simp] theorem State.at_dram (s : State) (us : Nat) : (s.at us).dram = s.dram := by
  have h := State.at_keeps s us; simp only [SameStores] at h; simp [h, State.clkTo]
@[simp] theorem State.at_access (s : State) (us : Nat) : (s.at us).access = s.access := by
  have h := State.at_keeps s us; simp only [SameStores] at h; simp [h, State.clkTo]
@[simp] theorem State.at_lin (s : State) (us : Nat) : (s.at us).lin = s.lin := by
  have h := State.at_keeps s us; simp only [SameStores] at h; simp [h, State.clkTo]
@[simp] theorem State.at_life (s : State) (us : Nat) : (s.at us).life = s.life := by
  have h := State.at_keeps s us; simp only [SameStores] at h; simp [h, State.clkTo]
theorem State.at_clk (s : State) (us : Nat) : (s.at us).clk = max s.clk us := by
  have h := State.at_keeps s us; simp only [SameStores] at h; simp [h, State.clkTo]

end Sys2Proof.Machine
end

