-- ==== Sys2Proof/WellFormed.lean ====
section
/-!
DEFINITION. Sys2Proof/WellFormed.lean: which commands can occur at all: every operand fits the width or the range that the hardware gives
what it names. What a Baleong line names out of range is a line's own error (R147), which its command answers.
-/
namespace Sys2Proof

/-- A shelf has slots S00 to S23 (R32, R35). -/
def Path.wellFormed : Path → Bool
  | .collar => true
  | .mgt => true
  | .seam n => decide (n < 24)

/-- Lanes are L0 to L8 (R202, R211). -/
def lanesWf (l : List Nat) : Bool := l.all (fun k => decide (k < 9))

/-- Sequence numbers have 12 bits and lanes are L0 to L8 (R211, R271). -/
def SlvRx.wellFormed (x : SlvRx) : Bool := decide (x.seq < 4096) && lanesWf x.sof && lanesWf x.eof && x.errs.all lanesWf

/-- The same of the frame of a line. -/
def FrameRx.wellFormed : FrameRx → Bool
  | .seen rx => rx.wellFormed
  | _ => true

/-- A tag has at most six characters (Table COL-9). -/
def Ln.wellFormed (l : Ln) : Bool :=
  l.path.wellFormed && (match l.tag with | none => true | some t => decide (t.length ≤ 6)) && l.rx.wellFormed

/-- A character has eight bits (R128). -/
def RawLine.wellFormed (l : RawLine) : Bool := l.chars.all (fun c => decide (c < 256)) && l.rx.wellFormed

/-- Five slot straps and two boot straps (R31, R76). -/
def Straps.wellFormed (x : Straps) : Bool := decide (x.slotId < 32) && decide (x.bootSel < 4)

/-- Sequence numbers have 12 bits and lanes are L0 to L8 (R211, R271). -/
def RxInfo.wellFormed (x : RxInfo) : Bool := decide (x.seq < 4096) && x.errs.all (fun l => l.all (fun k => decide (k < 9)))

/-- An ACK has three data characters, a REP two (R282). -/
def CtlCopy.wellFormed (n : Nat) (c : CtlCopy) : Bool :=
  decide (c.lane < 9) && decide (c.args.length = n) && c.args.all (fun a => match a with | some b => decide (b < 256) | none => true)

/-- A lane brings at most the 4,096 training bytes of Table SLVW-7. -/
def LaneTrain.wellFormed (t : LaneTrain) : Bool := decide (t.lane < 9) && decide (t.bytes.length ≤ 4096)

/-- The widths of Table SEAM-2. -/
def RFrame.wellFormed (f : RFrame) : Bool :=
  decide (1 ≤ f.cls ∧ f.cls ≤ 4) && decide (f.src < 24) && decide (f.dst < 256) && decide (f.ttl < 256) && decide (f.inc < 65536) &&
    decide (f.flags < 256) && decide (f.spare.length ≤ 4) &&
    decide (f.area.length ≤ 40) && decide (f.payload.length ≤ 2048)

/-- What an access is made for names units that exist. -/
def Owner.wellFormed : Owner → Bool
  | .command q t => decide (q < 1024) && decide (t < 65536)
  | .ring q t => decide (q < 1024) && decide (t < 65536)
  | .flush p _ => decide (p < 256)
  | .fill p _ => decide (p < 256)
  | .segment e => decide (e < 786432)
  | .entry p _ => decide (p < 256)
  | .tags => true
  | .tailor c p1 => decide (c < 2) && !(c == 0 && p1)
  | .scrub => true

/-- Can the command occur? -/
def Instr.wellFormed (i : Instr) : Bool :=
  match i with
  | .supplyGoodRise _ => true
  | .supplyGoodFall _ _ => true
  | .crystalLoss _ _ => true
  | .aonRelease straps _ _ => straps.wellFormed
  | .pllLock _ => true
  | .fuseShadowLoad _ _ => true
  | .sramFill _ _ => true
  | .checkerSelfTest failed _ => failed.all (fun x => decide (x.1 < 3 ∧ x.2 ≤ 50))
  | .tailorRelease _ _ => true
  | .collarBanner _ => true
  | .dieDiscovery _ _ _ => true
  | .bootRecordsRead _ _ => true
  | .dramRestore _ _ _ _ _ => true
  | .keyJournalLoad _ _ _ => true
  | .pocketTableLoad _ => true
  | .readyRise _ _ => true
  | .startupTimerExpiry _ _ => true
  | .dramTrainingDone _ _ _ _ _ _ => true
  | .stagingToDramSwitch _ _ => true
  | .replayDone _ => true
  | .mapBackgroundLoadDone _ => true
  | .watchdogExpiry _ => true
  | .sysWdogKick value _ => decide (value < 4294967296)
  | .sysRstctlCold key _ _ => decide (key < 256)
  | .sysRstctlWarm key _ _ => decide (key < 256)
  | .sysRstctlT1Restart key _ _ => decide (key < 256)
  | .resetFlushDone straps _ _ => straps.wellFormed
  | .sysColcfgBaudWrite _ => true
  | .collarCharacter c _ _ _ => decide (c < 256)
  | .lineDiscard path line => path.wellFormed && line.wellFormed
  | .collarBreak _ _ => true
  | .lineSpeedSwitch => true
  | .strictIdleTimeout => true
  | .typedNoticeRelease => true
  | .noticeSend path => path.wellFormed
  | .resendRequest path _ _ rx => path.wellFormed && rx.wellFormed
  | .challengeExpiry path => path.wellFormed
  | .challengeLockoutEnd => true
  | .serviceIdleExpiry path => path.wellFormed
  | .jobDone num status => decide (num < 65536) && decide (status < 4096)
  | .slvRstNFall _ => true
  | .slvRstNRise _ => true
  | .grtRepeat => true
  | .selReceive payload _ _ => decide (payload.length ≤ 4096)
  | .grtRestart _ => true
  | .trainingAttemptStart => true
  | .trainingReportReceive payload _ _ phaseB => decide (payload.length ≤ 4096) && phaseB.all LaneTrain.wellFormed
  | .trainingVerdict => true
  | .passPreambleTimeout => true
  | .dataPhaseEntry _ => true
  | .lnkRetrainReceive rx subtype arg => rx.wellFormed && decide (subtype < 256) && decide (arg < 256)
  | .retrainGrt _ => true
  | .clockStopSend => true
  | .clockStopReceive lanes => lanesWf lanes
  | .hostWakeBurst _ => true
  | .cardWakeBurst => true
  | .wakeBurstRetry _ => true
  | .laneLoopbackDone lane _ _ => decide (lane < 9)
  | .laneRetry lane => decide (lane < 9)
  | .laneErrorThreshold lane => decide (lane < 9)
  | .cmdFrameReceive rx queue payload _ => rx.wellFormed && decide (queue < 1024) && decide (payload.length ≤ 4096)
  | .datFrameReceive rx _ tag queue _ payload => rx.wellFormed && decide (tag < 65536) && decide (queue < 1024) && decide (payload.length ≤ 4096)
  | .ackReceive copies => copies.all (CtlCopy.wellFormed 3)
  | .repReceive copies => copies.all (CtlCopy.wellFormed 2)
  | .turnReceive lanes => lanesWf lanes
  | .turnIdleInference => true
  | .cardTurnStart _ _ => true
  | .repeatLimit => true
  | .slvCtlRetrain => true
  | .read _ => true
  | .write _ => true
  | .trim _ => true
  | .flush _ => true
  | .verify _ => true
  | .copy _ => true
  | .seal _ => true
  | .pocketSizeReduceApply pocket => decide (pocket < 256)
  | .pocketDeleteFinish pocket => decide (pocket < 256)
  | .queueFree queue => decide (queue < 1024)
  | .basteCplDeadline queue tag _ => decide (queue < 1024) && decide (tag < 65536)
  | .prefetchFill pocket lba _ => decide (pocket < 256) && decide (lba < 34359738368)
  | .moverFlush pocket _ group _ _ _ => decide (pocket < 256) && decide (group < 16)
  | .quadCheckDone quad _ _ _ => decide (quad < 16)
  | .quadRetry quad => decide (quad < 16)
  | .boltOpen group _ _ => decide (group < 16)
  | .stitchProgramDone _ _ => true
  | .boltRelease group _ => decide (group < 16)
  | .mapSegmentReadDone entry => decide (entry < 786432)
  | .mapSegmentWriteDone entry _ => decide (entry < 786432)
  | .checkpointTimer _ => true
  | .checkpointDone _ => true
  | .gcStart => true
  | .wearLevelStart group => decide (group < 16)
  | .codewordDecode _ j _ _ => decide (j < 4)
  | .retryStepDone _ _ _ => true
  | .rebuildDone _ _ _ => true
  | .recoveryTimeout _ _ => true
  | .relocation => true
  | .sramUncorrectable _ _ _ owner _ _ => owner.wellFormed
  | .dramRequest port addr _ _ owner _ _ _ _ => decide (port < 8) && decide (addr < 68719476736) && owner.wellFormed
  | .dramSchedule ch _ => decide (ch < 2)
  | .dramLineRead ch _ _ holds _ => decide (ch < 2) && holds.wellFormed
  | .mergeEntryTimeout ch _ _ _ => decide (ch < 2)
  | .dramRefresh ch rank => decide (ch < 2) && decide (rank < 3)
  | .actTableClear => true
  | .rowIdleClose ch rank bank _ => decide (ch < 2) && decide (rank < 3) && decide (bank < 32)
  | .dramAlert ch _ => decide (ch < 2)
  | .migrationCopyLine ch _ holds => decide (ch < 2) && holds.wellFormed
  | .migrationDone ch => decide (ch < 2)
  | .rankShrink ch => decide (ch < 2)
  | .dqsTrack ch _ => decide (ch < 2)
  | .drcTpatStart ch rank dir pat _ => decide (ch < 2) && decide (rank < 3) && decide (dir < 2) && decide (pat < 4)
  | .bulkBlockStart core _ => decide (core < 8)
  | .bulkBlockDone core => decide (core < 8)
  | .gmacVerify queue tag _ => decide (queue < 1024) && decide (tag < 65536)
  | .nonceReserve => true
  | .nonceReserveDone _ => true
  | .keyDrainEnd slot => decide (slot < 1024)
  | .keyDrainTimeout slot _ => decide (slot < 576)
  | .journalCommit _ => true
  | .journalTimeout _ _ => true
  | .journalBlockErase _ => true
  | .keyRbEncrypt core _ slot => decide (core < 2) && decide (slot < 576)
  | .keyRbDecrypt core _ slot => decide (core < 2) && decide (slot < 576)
  | .cipherPairKat pair _ _ => decide (pair < 4)
  | .mpuFault core _ access addr _ => decide (core < 2) && decide (access < 3) && decide (addr < 4294967296)
  | .extensionStart => true
  | .mpuLock core writer _ => decide (core < 2) && decide (writer < 2)
  | .tagWrite core value _ => decide (core < 2) && decide (value < 256)
  | .liningSample _ _ _ _ _ => true
  | .chargeRampDone _ => true
  | .chargeFloatEntry _ => true
  | .estimateRefreshDue _ => true
  | .esrStep _ _ _ => true
  | .probeDone _ => true
  | .liningFaultRetry _ => true
  | .bankAbsentTimeout _ => true
  | .linOvervolt _ => true
  | .linHot _ => true
  | .sensorFault _ => true
  | .converterFault _ => true
  | .linCfgChgEn _ _ => true
  | .linProbeStart _ => true
  | .budgetRecompute _ => true
  | .ebSample _ _ _ => true
  | .throughNotice _ => true
  | .removalTriggerCdet _ _ => true
  | .removalTriggerVin _ => true
  | .rmvCtlDrill _ _ => true
  | .removalFlushDone _ => true
  | .removalCheckpointDone _ => true
  | .bankExhausted _ => true
  | .cdetNFall _ => true
  | .rearm _ _ => true
  | .rearmPowerOn _ => true
  | .drainComplete d => decide (d < 51)
  | .drainWindowEnd d _ _ => decide (d < 51)
  | .resetHoldEnd d _ => decide (d < 51)
  | .domainSwitchOnDone d => decide (d < 51)
  | .domainCheckDone d _ _ => decide (d < 51)
  | .domainRejoin d => decide (d < 51)
  | .fabricHang d _ => decide (d < 51)
  | .fabricReply sentEpoch replyEpoch requester echo => decide (sentEpoch < 256) && decide (replyEpoch < 256) && decide (requester < 256) && decide (echo < 256)
  | .domainRetry d => decide (d < 51)
  | .pwrDreqOn op d _ => decide (op < 4) && decide (d < 51)
  | .pwrDreqOff d _ _ => decide (d < 51)
  | .pwrDreqReset d _ => decide (d < 51)
  | .coreclkGate => true
  | .coreclkRestart => true
  | .levelChangePause _ => true
  | .regulatorTimeout _ => true
  | .pmbusAlert status _ => decide (status < 65536)
  | .throttleStep _ _ => true
  | .throttleRelease _ => true
  | .pointOfNoReturn _ _ => true
  | .acmpCrossing n _ _ => decide (n < 8)
  | .adcSample ch code _ => decide (ch < 10) && decide (code < 4096)
  | .wakeTimer _ => true
  | .stateExitDone _ => true
  | .tackVisit _ _ _ => true
  | .pwrRetlogClr => true
  | .seamMonitorLock port rate _ => decide (port < 2) && decide (rate < 3)
  | .ringInsert _ => true
  | .ringFormTimeout _ => true
  | .hopJoinReceive port _ => decide (port < 2)
  | .identSend port => decide (port < 2)
  | .identReceive port _ => decide (port < 2)
  | .hopReportReceive port _ lanes => decide (port < 2) && lanes.all LaneTrain.wellFormed
  | .hopAttemptEnd port => decide (port < 2)
  | .hopRetry port => decide (port < 2)
  | .hopError port => decide (port < 2)
  | .hopDownLeave port _ => decide (port < 2)
  | .ringFrameReceive port rx frame _ => decide (port < 2) && rx.wellFormed && frame.wellFormed
  | .seamAckReceive port _ => decide (port < 2)
  | .seamRepReceive port _ => decide (port < 2)
  | .seamGoBackTimeout port => decide (port < 2)
  | .beatSend _ => true
  | .beatReceive port rx frame _ => decide (port < 2) && rx.wellFormed && frame.wellFormed
  | .beatSilence slot _ => decide (slot < 24)
  | .mantleElectionTimer _ => true
  | .mantleStandbyTakeover _ => true
  | .localMinuteClose _ => true
  | .twinData _ lba pocket half _ _ ikey _ _ _ => decide (lba < 34359738368) && decide (pocket < 256) && decide (half < 2) && decide (ikey < 512)
  | .twinTrim _ lba pocket _ => decide (lba < 34359738368) && decide (pocket < 256)
  | .twinCopy _ src pocket _ dst _ dkey ikey =>
    decide (src < 34359738368) && decide (dst < 34359738368) && decide (pocket < 256) && decide (dkey < 512) && decide (ikey < 512)
  | .twinLine _ _ _ => true
  | .twinDarn _ lba pocket half _ _ ikey _ _ _ => decide (lba < 34359738368) && decide (pocket < 256) && decide (half < 2) && decide (ikey < 512)
  | .twinUnmap _ lba pocket _ => decide (lba < 34359738368) && decide (pocket < 256)
  | .twinRegionEnd _ _ pocket => decide (pocket < 256)
  | .twinHold _ _ _ => true
  | .holdExpiry _ => true
  | .twinAck _ _ => true
  | .twinNak _ => true
  | .twinPairItem _ _ _ _ _ => true
  | .twinConfirmTimeout => true
  | .twinLostTimeout _ => true
  | .takeoverAuto _ => true
  | .darnRegion _ _ => true
  | .seamReplyReceive src _ _ _ _ => decide (src < 24)
  | .seamNoticeReceive src _ => decide (src < 24)
  | .htgSample codeV codeI _ _ => decide (codeV < 4096) && decide (codeI < 4096)
  | .bucketBroadcast _ => true
  | .bucketRepeat _ => true
  | .htgBucketReceive src bucket => decide (src < 24) && decide (bucket.length = 128)
  | .htgBucketAckReceive pocket _ minute => decide (pocket < 256) && decide (minute < 4294967296)
  | .htgPselWrite core meter pocket => decide (core < 2) && decide (meter < 8) && decide (pocket < 256)
  | .htgBselWrite core index pocket => decide (core < 2) && decide (index < 16) && decide (pocket < 256)
  | .jtagMakeTransition _ => true
  | .lifecycleProgramDone _ => true
  | .bistCtlStart sw d _ _ => decide (sw < 41) && decide (d < 51)
  | .bistRunDone _ _ _ => true
  | .bistRunTimeout _ _ => true
  | .lcsCtlStart key target _ => decide (key < 256) && decide (target < 256)
  | .hello ln _ => ln.wellFormed
  | .helloRole ln _ _ => ln.wellFormed
  | .helloService ln _ => ln.wellFormed
  | .helloResponse ln _ _ => ln.wellFormed
  | .id ln _ => ln.wellFormed
  | .ver ln _ => ln.wellFormed
  | .help ln _ => ln.wellFormed
  | .helpVerb ln _ _ _ => ln.wellFormed
  | .lineShow ln _ => ln.wellFormed
  | .lineSpeed ln _ _ => ln.wellFormed
  | .lineMode ln _ _ => ln.wellFormed
  | .lineCts ln _ _ => ln.wellFormed
  | .clockShow ln _ => ln.wellFormed
  | .clockSet ln _ _ _ => ln.wellFormed
  | .pocketCreate ln _ _ _ => ln.wellFormed
  | .pocketSet ln _ _ _ => ln.wellFormed
  | .pocketSuspend ln _ _ => ln.wellFormed
  | .pocketResume ln _ _ => ln.wellFormed
  | .pocketDelete ln _ _ => ln.wellFormed
  | .pocketShow ln _ _ => ln.wellFormed
  | .pocketList ln _ => ln.wellFormed
  | .queueCreate ln _ _ _ _ => ln.wellFormed
  | .queueSet ln _ _ _ => ln.wellFormed
  | .queueDelete ln _ _ => ln.wellFormed
  | .queueShow ln _ _ => ln.wellFormed
  | .queueList ln _ _ _ => ln.wellFormed
  | .keyBlobAdd ln _ _ => ln.wellFormed
  | .keyBlobClear ln _ => ln.wellFormed
  | .keyLoadWrap ln _ _ _ _ _ => ln.wellFormed
  | .keyLoadPlain ln _ _ _ _ => ln.wellFormed
  | .keyGen ln _ _ _ _ _ => ln.wellFormed
  | .keyErase ln _ _ => ln.wellFormed
  | .keyShow ln _ _ => ln.wellFormed
  | .keyShowClear ln _ _ => ln.wellFormed
  | .keyList ln _ _ _ => ln.wellFormed
  | .cipherShow ln _ => ln.wellFormed
  | .cipherGmac ln _ _ _ => ln.wellFormed
  | .cipherCmac ln _ _ _ => ln.wellFormed
  | .cipherEnc ln _ _ _ => ln.wellFormed
  | .cipherDec ln _ _ _ => ln.wellFormed
  | .cacheShow ln _ _ => ln.wellFormed
  | .cacheSet ln _ _ _ => ln.wellFormed
  | .cacheCfg ln _ _ => ln.wellFormed
  | .mapShow ln _ => ln.wellFormed
  | .mapLookup ln _ _ _ => ln.wellFormed
  | .mapCheckpoint ln _ => ln.wellFormed
  | .mapCfg ln _ _ => ln.wellFormed
  | .meterShow ln _ _ => ln.wellFormed
  | .meterRead ln _ _ _ => ln.wellFormed
  | .meterAck ln _ _ _ _ => ln.wellFormed
  | .meterCfg ln _ _ _ => ln.wellFormed
  | .linkShow ln _ => ln.wellFormed
  | .linkRetrain ln _ => ln.wellFormed
  | .linkCfg ln _ _ => ln.wellFormed
  | .powerShow ln _ => ln.wellFormed
  | .powerStateRun ln _ => ln.wellFormed
  | .powerStateIdle ln _ => ln.wellFormed
  | .powerStateNap ln _ _ _ _ => ln.wellFormed
  | .powerStateTack ln _ _ _ => ln.wellFormed
  | .powerStateDormant ln _ _ _ => ln.wellFormed
  | .powerLevel ln _ _ => ln.wellFormed
  | .powerSettings ln _ _ _ _ _ _ _ => ln.wellFormed
  | .domainShow ln _ _ => ln.wellFormed
  | .domainOn ln _ _ => ln.wellFormed
  | .domainOff ln _ _ _ _ => ln.wellFormed
  | .liningShow ln _ => ln.wellFormed
  | .liningCfg ln _ _ => ln.wellFormed
  | .liningProbe ln _ => ln.wellFormed
  | .liningDrill ln _ => ln.wellFormed
  | .liningDesc ln _ _ _ => ln.wellFormed
  | .flashShow ln _ => ln.wellFormed
  | .flashDie ln _ _ => ln.wellFormed
  | .flashCfg ln _ _ => ln.wellFormed
  | .flashFormat ln _ _ => ln.wellFormed
  | .flashFormatDone _ => true
  | .dramShow ln _ => ln.wellFormed
  | .dramCfg ln _ _ _ => ln.wellFormed
  | .dramPort ln _ _ _ _ _ => ln.wellFormed
  | .dramMasks ln _ _ _ _ _ _ _ => ln.wellFormed
  | .eccShow ln _ => ln.wellFormed
  | .eccGroup ln _ _ => ln.wellFormed
  | .eccCfg ln _ _ => ln.wellFormed
  | .eccInject ln _ _ _ _ => ln.wellFormed
  | .eccInjArm target _ _ _ => decide (target < 4)
  | .mpuShow ln _ _ => ln.wellFormed
  | .mpuLoad ln _ _ => ln.wellFormed
  | .mpuAdd ln _ _ _ => ln.wellFormed
  | .mpuAdmit ln _ _ => ln.wellFormed
  | .mpuRemove ln _ => ln.wellFormed
  | .colourShow ln _ => ln.wellFormed
  | .colourTag ln _ _ _ => ln.wellFormed
  | .twinShow ln _ => ln.wellFormed
  | .twinPair ln _ _ _ _ _ => ln.wellFormed
  | .twinOfferSend _ => true
  | .twinOffer ln _ _ _ _ _ => ln.wellFormed
  | .twinPairLapse _ => true
  | .twinUnpair ln _ => ln.wellFormed
  | .twinSwap ln _ => ln.wellFormed
  | .twinSwapTimeout _ => true
  | .twinTakeover ln _ => ln.wellFormed
  | .twinInteg ln _ _ _ => ln.wellFormed
  | .ringShow ln _ => ln.wellFormed
  | .ringRetrain ln _ _ _ => ln.wellFormed
  | .ringCfg ln _ _ _ _ _ _ => ln.wellFormed
  | .mantleShow ln _ => ln.wellFormed
  | .mantleRelay ln _ _ _ => ln.wellFormed
  | .mantleRelayTimeout _ => true
  | .mantleRead ln _ _ _ _ => ln.wellFormed
  | .bistRun ln _ _ _ => ln.wellFormed
  | .bistShow ln _ _ => ln.wellFormed
  | .bistList ln _ => ln.wellFormed
  | .lifeShow ln _ => ln.wellFormed
  | .lifeSet ln _ _ _ => ln.wellFormed
  | .peek ln _ _ _ => ln.wellFormed
  | .poke ln _ _ _ _ => ln.wellFormed
  | .resetCard ln _ => ln.wellFormed
  | .resetWarm ln _ => ln.wellFormed
  | .resetDomain ln _ _ => ln.wellFormed
  | .logShow ln _ => ln.wellFormed
  | .logFaults ln _ _ _ => ln.wellFormed
  | .registerWrite core addr _ _ epoch _ _ _ _ => decide (core < 2) && decide (addr < 4294967296) && decide (epoch < 256)
  | .registerReadClear core addr _ _ epoch _ => decide (core < 2) && decide (addr < 4294967296) && decide (epoch < 256)
  | .unknownCommandLine ln => ln.wellFormed
  | .colCtsNChange _ _ => true
  | .flashPatrolRead _ => true
  | .patrolSlow _ => true
  | .joinNoMantleTimeout _ => true
  | .standbyBeatWaitExpiry _ => true
  | .seamMonitorLockLoss port => decide (port < 2)
  | .crystalRecovery _ => true
  | .blockEraseDone group _ ch _ => decide (group < 16) && decide (ch < 64)
  | .jtagInstruction _ => true

end Sys2Proof
end

