-- ==== Sys2Proof/Tests/Slice0.lean ====
section
/-!
SUPPORT. Sys2Proof/Tests/Slice0.lean: ill-formed commands, values worked in the spec, and for every statement with hypotheses a
concrete state and operands that meet them.
-/
namespace Sys2Proof.Tests
open Sys2Proof Sys2Proof.Machine

/- Each `decide +kernel` below waits for the kernel's check of all that stands before it. Elaborated side by side, every one of them
would hold a thread of its own while it waits, so they are elaborated one after the other. -/
set_option Elab.async false

/-- A state with fields of its registers set. -/
def flds (l : List (Fld × Nat)) (s : State) : State := l.foldl (fun t x => t.set x.1 x.2) s

/-- A card after READY with T0 in service, and fields of its registers set. -/
def card (l : List (Fld × Nat)) : State :=
  flds ((PWR_DSTAT.STATE 49, 3) :: l) { State.reset with boot := { Boot.reset with ready := true, done := [.banner] } }

/-- A line of the Collar. -/
def okLn : Ln := { path := .collar, tag := none, bad := false }

def okRx : RxInfo := { seq := 0, eofOk := true, crcOk := true, errs := [] }
/-- A frame of the Sleeve that came without an error on L0 alone. -/
def okSlv : SlvRx := { counter := false, sof := [0], eof := [0], seq := 0, crcOk := true, errs := [] }
/-- One lane's training without an error. -/
def okTrain : LaneTrain := { lane := 0, aligned := true, skew := some 0, errs := 0, bytes := [] }
def okStraps : Straps := { slotId := 3, mantleCap := true, bootSel := 0 }
def okFrame : RFrame :=
  { cls := 2, sub := 1, src := 3, dst := 5, rseq := 0, ttl := 24, flags := 1, inc := 1, spare := List.replicate 4 0, area := [], payload := [] }

/-- The checks of a line as one test. No line of the Collar waits, so no characters speak against the command; a frame came without error. -/
def runsB (s : State) (ln : Ln) (us : Nat) (f : Form) (early : Bool) : Bool :=
  decide (ln.rx = .whole) && (s.at us).listens ln.path && !ln.bad && ((s.taken ln us).gate ln.path f early).isNone && (s.at us).col.held.isEmpty

/-- `runsB` stands for `State.runs`, of whatever command. -/
theorem runs_of {s : State} {c : Say} {ln : Ln} {us : Nat} {f : Form} {e : Bool} (h : runsB s ln us f e = true) : s.runs c ln us f e := by
  simp only [runsB, Bool.and_eq_true, Bool.not_eq_true', Option.isNone_iff_eq_none, List.isEmpty_iff, decide_eq_true_eq] at h
  refine ⟨⟨?_, h.1.1.2, h.1.2⟩, ?_⟩
  · simp [State.ripe, Say.waited, h.1.1.1.1, h.1.1.1.2]
  · unfold State.says
    rw [h.2, h.1.1.1.1]
    split <;> simp_all [State.frameJudge]

/-! ### Ill-formed commands -/

/-- Ill-formed commands, one for each check of Instr.wellFormed: every one is refused (1). -/
theorem test_ill_formed_1 : ([
    .aonRelease { okStraps with slotId := 32 } false 0,
    .sysWdogKick 4294967296 0,
    .sysRstctlCold 256 false 0,
    .sysRstctlWarm 256 false 0,
    .sysRstctlT1Restart 256 false 0,
    .resetFlushDone { okStraps with slotId := 32 } false 0,
    .collarCharacter 256 false false 0,
    .lineDiscard (.seam 24) { chars := [], parity := false, framing := false, overrun := false, idle := false },
    .lineDiscard .collar { chars := [256], parity := false, framing := false, overrun := false, idle := false },
    .lineDiscard .mgt { chars := [], parity := false, framing := false, overrun := false, idle := false, rx := .seen { okSlv with sof := [9] } },
    .noticeSend (.seam 24),
    .resendRequest (.seam 24) false false .whole,
    .resendRequest .mgt false false (.seen { okSlv with errs := [[9]] }),
    .challengeExpiry (.seam 24),
    .serviceIdleExpiry (.seam 24),
    .jobDone 65536 0,
    .jobDone 0 4096,
    .selReceive (List.replicate 4097 0) false 0,
    .trainingReportReceive (List.replicate 4097 0) false 0 [],
    .trainingReportReceive [] false 0 [{ okTrain with lane := 9 }],
    .trainingReportReceive [] false 0 [{ okTrain with bytes := List.replicate 4097 0 }],
    .lnkRetrainReceive { okSlv with seq := 4096 } 0 0,
    .lnkRetrainReceive okSlv 256 0,
    .lnkRetrainReceive okSlv 0 256,
    .clockStopReceive [9],
    .laneLoopbackDone 9 false 0,
    .laneRetry 9,
    .laneErrorThreshold 9,
    .cmdFrameReceive { okSlv with seq := 4096 } 0 [] 0,
    .cmdFrameReceive { okSlv with sof := [9] } 0 [] 0,
    .cmdFrameReceive { okSlv with eof := [9] } 0 [] 0,
    .cmdFrameReceive { okSlv with errs := [[9]] } 0 [] 0,
    .cmdFrameReceive okSlv 1024 [] 0,
    .cmdFrameReceive okSlv 0 (List.replicate 4097 0) 0,
    .datFrameReceive { okSlv with seq := 4096 } 0 0 0 0 [],
    .datFrameReceive okSlv 0 65536 0 0 [],
    .datFrameReceive okSlv 0 0 1024 0 [],
    .datFrameReceive okSlv 0 0 0 0 (List.replicate 4097 0),
    .ackReceive [{ lane := 9, code := true, args := [some 0, some 0, some 0] }],
    .ackReceive [{ lane := 0, code := true, args := [some 0, some 0] }],
    .ackReceive [{ lane := 0, code := true, args := [some 256, some 0, some 0] }],
    .repReceive [{ lane := 0, code := true, args := [some 0, some 0, some 0] }],
    .turnReceive [9],
    .pocketSizeReduceApply 256] : List Instr).all (fun i => !i.wellFormed) = true := by decide +kernel

/-- Ill-formed commands, one for each check of Instr.wellFormed: every one is refused (2). -/
theorem test_ill_formed_2 : ([
    .pocketDeleteFinish 256,
    .queueFree 1024,
    .basteCplDeadline 1024 0 0,
    .basteCplDeadline 0 65536 0,
    .prefetchFill 256 0 [],
    .prefetchFill 0 34359738368 [],
    .moverFlush 256 0 0 0 [] false,
    .moverFlush 0 0 16 0 [] false,
    .quadCheckDone 16 0 false 0,
    .quadRetry 16,
    .boltOpen 16 0 0,
    .boltRelease 16 0,
    .mapSegmentReadDone 786432,
    .mapSegmentWriteDone 786432 0,
    .wearLevelStart 16,
    .codewordDecode 0 4 [] 0,
    .sramUncorrectable 0 0 [] (.tailor 0 true) 0 none,
    .dramRequest 8 0 .read false .scrub false .none .none 0,
    .dramRequest 0 68719476736 .read false .scrub false .none .none 0,
    .dramRequest 0 0 .read false (.tailor 0 true) false .none .none 0,
    .dramSchedule 2 0,
    .dramLineRead 2 .none false .scrub 0,
    .dramLineRead 0 .none false (.tailor 0 true) 0,
    .mergeEntryTimeout 2 0 .none 0,
    .dramRefresh 2 0,
    .dramRefresh 0 3,
    .rowIdleClose 2 0 0 0,
    .rowIdleClose 0 3 0 0,
    .rowIdleClose 0 0 32 0] : List Instr).all (fun i => !i.wellFormed) = true := by decide +kernel

/-- Ill-formed commands, one for each check of Instr.wellFormed: every one is refused (3). -/
theorem test_ill_formed_3 : ([
    .dramAlert 2 0,
    .migrationCopyLine 2 .none .scrub,
    .migrationCopyLine 0 .none (.tailor 0 true),
    .migrationDone 2,
    .rankShrink 2,
    .dqsTrack 2 [],
    .drcTpatStart 2 0 0 0 [],
    .drcTpatStart 0 3 0 0 [],
    .drcTpatStart 0 0 2 0 [],
    .drcTpatStart 0 0 0 4 [],
    .bulkBlockStart 8 [],
    .bulkBlockDone 8,
    .gmacVerify 1024 0 0,
    .gmacVerify 0 65536 0,
    .keyDrainEnd 1024,
    .keyDrainTimeout 576 0,
    .keyRbEncrypt 2 false 0,
    .keyRbEncrypt 0 false 576,
    .keyRbDecrypt 2 false 0,
    .keyRbDecrypt 0 false 576,
    .cipherPairKat 4 false 0,
    .mpuFault 2 false 0 0 0,
    .mpuFault 0 false 3 0 0,
    .mpuFault 0 false 0 4294967296 0,
    .mpuLock 2 0 false,
    .mpuLock 0 2 false,
    .tagWrite 2 0 false,
    .tagWrite 0 256 false,
    .drainComplete 51,
    .drainWindowEnd 51 0 0] : List Instr).all (fun i => !i.wellFormed) = true := by decide +kernel

/-- Ill-formed commands, one for each check of Instr.wellFormed: every one is refused (4). -/
theorem test_ill_formed_4 : ([
    .resetHoldEnd 51 0,
    .domainSwitchOnDone 51,
    .domainCheckDone 51 false 0,
    .domainRejoin 51,
    .fabricHang 51 0,
    .fabricReply 256 0 0 0,
    .fabricReply 0 256 0 0,
    .fabricReply 0 0 256 0,
    .fabricReply 0 0 0 256,
    .domainRetry 51,
    .pwrDreqOn 4 0 0,
    .pwrDreqOn 0 51 0,
    .pwrDreqOff 51 false 0,
    .pwrDreqReset 51 0,
    .pmbusAlert 65536 0,
    .acmpCrossing 8 false 0,
    .adcSample 10 0 0,
    .adcSample 0 4096 0,
    .seamMonitorLock 2 0 false,
    .seamMonitorLock 0 3 false,
    .hopJoinReceive 2 [],
    .identSend 2,
    .identReceive 2 [],
    .hopReportReceive 2 [] [],
    .hopReportReceive 0 [] [{ okTrain with lane := 9 }],
    .hopAttemptEnd 2,
    .hopRetry 2,
    .hopError 2,
    .hopDownLeave 2 0,
    .ringFrameReceive 2 okRx okFrame 0] : List Instr).all (fun i => !i.wellFormed) = true := by decide +kernel

/-- Ill-formed commands, one for each check of Instr.wellFormed: every one is refused (5). -/
theorem test_ill_formed_5 : ([
    .ringFrameReceive 0 { okRx with seq := 4096 } okFrame 0,
    .ringFrameReceive 0 okRx { okFrame with cls := 5 } 0,
    .ringFrameReceive 0 okRx { okFrame with src := 24 } 0,
    .ringFrameReceive 0 okRx { okFrame with dst := 256 } 0,
    .ringFrameReceive 0 okRx { okFrame with ttl := 256 } 0,
    .ringFrameReceive 0 okRx { okFrame with flags := 256 } 0,
    .ringFrameReceive 0 okRx { okFrame with inc := 65536 } 0,
    .ringFrameReceive 0 okRx { okFrame with spare := List.replicate 5 0 } 0,
    .ringFrameReceive 0 okRx { okFrame with area := List.replicate 41 0 } 0,
    .ringFrameReceive 0 okRx { okFrame with payload := List.replicate 2049 0 } 0,
    .seamAckReceive 2 [],
    .seamRepReceive 2 [],
    .seamGoBackTimeout 2,
    .beatReceive 2 okRx okFrame 0,
    .beatReceive 0 { okRx with seq := 4096 } okFrame 0,
    .beatReceive 0 okRx { okFrame with cls := 5 } 0,
    .beatSilence 24 0,
    .twinData 0 34359738368 0 0 false false 0 0 [] [],
    .twinData 0 0 256 0 false false 0 0 [] [],
    .twinData 0 0 0 2 false false 0 0 [] [],
    .twinData 0 0 0 0 false false 512 0 [] [],
    .twinTrim 0 34359738368 0 0,
    .twinTrim 0 0 256 0,
    .twinCopy 0 34359738368 0 0 0 false 0 0,
    .twinCopy 0 0 0 0 34359738368 false 0 0,
    .twinCopy 0 0 256 0 0 false 0 0,
    .twinCopy 0 0 0 0 0 false 512 0,
    .twinCopy 0 0 0 0 0 false 0 512,
    .twinDarn 0 34359738368 0 0 false false 0 0 [] [],
    .twinDarn 0 0 256 0 false false 0 0 [] [],
    .twinDarn 0 0 0 2 false false 0 0 [] [],
    .twinDarn 0 0 0 0 false false 512 0 [] [],
    .twinUnmap 0 34359738368 0 0,
    .twinUnmap 0 0 256 0,
    .twinRegionEnd 0 0 256,
    .seamReplyReceive 24 0 false "" 0,
    .seamNoticeReceive 24 "",
    .htgSample 4096 0 [] 0] : List Instr).all (fun i => !i.wellFormed) = true := by decide +kernel

/-- Ill-formed commands, one for each check of Instr.wellFormed: every one is refused (6). -/
theorem test_ill_formed_6 : ([
    .htgSample 0 4096 [] 0,
    .htgBucketReceive 24 (List.replicate 128 0),
    .htgBucketReceive 0 [],
    .htgBucketAckReceive 256 0 0,
    .htgBucketAckReceive 0 0 4294967296,
    .htgPselWrite 2 0 0,
    .htgPselWrite 0 8 0,
    .htgPselWrite 0 0 256,
    .htgBselWrite 2 0 0,
    .htgBselWrite 0 16 0,
    .htgBselWrite 0 0 256,
    .bistCtlStart 41 0 false 0,
    .bistCtlStart 0 51 false 0,
    .lcsCtlStart 256 0 false,
    .lcsCtlStart 0 256 false,
    .eccInjArm 4 0 0 false,
    .checkerSelfTest [(3, 0)] 0,
    .checkerSelfTest [(0, 51)] 0,
    .registerWrite 2 0 0 false 0 0 none [] 0,
    .registerWrite 0 4294967296 0 false 0 0 none [] 0,
    .registerWrite 0 0 0 false 256 0 none [] 0,
    .registerReadClear 2 0 0 false 0 0,
    .registerReadClear 0 4294967296 0 false 0 0,
    .registerReadClear 0 0 0 false 256 0,
    .seamMonitorLockLoss 2,
    .blockEraseDone 16 0 0 false,
    .blockEraseDone 0 0 64 false] : List Instr).all (fun i => !i.wellFormed) = true := by decide +kernel

/-- A line that is ill formed makes each of its commands ill formed. -/
theorem test_ill_formed_line (ln : Ln) (r : Role) (pa : PocketAttrs) (qa : QueueAttrs) (sa : ShareAttrs) (ca : CacheAttrs) (la : LinkAttrs) (li : LiningAttrs)
    (da : DescAttrs) (mo : MoverAttrs) (dr : DramAttrs) (ea : EccAttrs) (tg : Target) (h : ln.wellFormed = false) : ([
    .hello ln 0, .helloRole ln r 0, .helloService ln 0, .helloResponse ln [] 0, .id ln 0, .ver ln 0, .help ln 0, .helpVerb ln "" none 0, .lineShow ln 0,
    .lineSpeed ln 0 0, .lineMode ln false 0, .lineCts ln false 0, .clockShow ln 0, .clockSet ln 0 0 0, .pocketCreate ln 0 pa 0, .pocketSet ln 0 pa 0,
    .pocketSuspend ln 0 0, .pocketResume ln 0 0, .pocketDelete ln 0 0, .pocketShow ln 0 0, .pocketList ln 0, .queueCreate ln 0 0 qa 0,
    .queueSet ln 0 qa 0, .queueDelete ln 0 0, .queueShow ln 0 0, .queueList ln none 0 0, .keyBlobAdd ln [] 0, .keyBlobClear ln 0,
    .keyLoadWrap ln 0 0 0 none 0, .keyLoadPlain ln 0 0 none 0, .keyGen ln 0 0 0 none 0, .keyErase ln 0 0, .keyShow ln 0 0, .keyShowClear ln none 0,
    .keyList ln none 0 0, .cipherShow ln 0, .cipherGmac ln 0 none 0, .cipherCmac ln 0 none 0, .cipherEnc ln 0 [] 0, .cipherDec ln 0 [] 0,
    .cacheShow ln none 0, .cacheSet ln 0 sa 0, .cacheCfg ln ca 0, .mapShow ln 0, .mapLookup ln 0 0 0, .mapCheckpoint ln 0, .mapCfg ln 0 0,
    .meterShow ln 0 0, .meterRead ln 0 none 0, .meterAck ln 0 0 0 0, .meterCfg ln none none 0, .linkShow ln 0, .linkRetrain ln 0, .linkCfg ln la 0,
    .powerShow ln 0, .powerStateRun ln 0, .powerStateIdle ln 0, .powerStateNap ln none none false 0, .powerStateTack ln none false 0,
    .powerStateDormant ln none false 0, .powerLevel ln 0 0, .powerSettings ln none none none none none none 0, .domainShow ln none 0, .domainOn ln 0 0,
    .domainOff ln 0 false none 0, .liningShow ln 0, .liningCfg ln li 0, .liningProbe ln 0, .liningDrill ln 0, .liningDesc ln da none 0, .flashShow ln 0,
    .flashDie ln 0 0, .flashCfg ln mo 0, .flashFormat ln 0 0, .dramShow ln 0, .dramCfg ln none dr 0, .dramPort ln 0 none none none 0,
    .dramMasks ln 0 0 0 0 0 0 0, .eccShow ln 0, .eccGroup ln 0 0, .eccCfg ln ea 0, .eccInject ln 0 none none 0, .mpuShow ln none 0, .mpuLoad ln 0 0,
    .mpuAdd ln 0 [] 0, .mpuAdmit ln 0 0, .mpuRemove ln 0, .colourShow ln 0, .colourTag ln 0 .none 0, .twinShow ln 0, .twinPair ln 0 false 0 false 0,
    .twinOffer ln 0 0 0 0 0, .twinUnpair ln 0, .twinSwap ln 0, .twinTakeover ln 0, .twinInteg ln 0 none 0, .ringShow ln 0,
    .ringRetrain ln false false 0, .ringCfg ln none false none none none 0, .mantleShow ln 0, .mantleRelay ln 0 "" 0, .mantleRead ln 0 0 none 0,
    .bistRun ln 0 0 0, .bistShow ln 0 0, .bistList ln 0, .lifeShow ln 0, .lifeSet ln 0 0 0, .peek ln tg none 0, .poke ln tg 0 [] 0, .resetCard ln 0,
    .resetWarm ln 0, .resetDomain ln 0 0, .logShow ln 0, .logFaults ln none none 0, .unknownCommandLine ln] : List Instr).all (fun i => !i.wellFormed) = true := by
  change (List.replicate 115 ()).all (fun _ => !ln.wellFormed) = true
  rw [h]
  decide

theorem test_ill_formed_path : ({ okLn with path := .seam 24 }).wellFormed = false := by decide

theorem test_ill_formed_tag : ({ okLn with tag := some "abcdefg" }).wellFormed = false := by decide

/-! ### Witnesses: what every command meets -/

theorem witness_StepRunsFront : ({ State.reset with pending := [.coreclkRestart] }).pending = Instr.coreclkRestart :: [] ∧ State.reset.pending = [] := by decide +kernel

theorem witness_StepKeepsCanonical : (card [(SEAM_STAT.RING, 2)]).canonical = true ∧ ∃ t, step (card [(SEAM_STAT.RING, 2)]) = .next t := ⟨by decide +kernel, _, rfl⟩

theorem witness_QueueInOrder : (card []).canonical = true ∧ ∃ t, exec .coreclkRestart (card []) = .next t := ⟨by decide +kernel, _, rfl⟩

/-- Not taken; before READY; a role that the reference does not list; a removal; the lock held by another path; a reading command. -/
theorem witness_LineAdmission :
    ((card []).at 0).listens .collar = true ∧ ((card [(PWR_DSTAT.STATE 49, 0)]).at 0).listens .collar = false ∧
    (let s := { card [] with boot := { (card []).boot with ready := false } }
     (s.at 0).listens .collar = true ∧ (s.taken okLn 0).ready = false ∧ (s.taken okLn 0).removing = false) ∧
    (let ln : Ln := { okLn with path := .seam 5 }
     ((card []).at 0).listens ln.path = true ∧ ((card []).taken ln 0).ready = true ∧ ((card []).taken ln 0).roleOf ln.path = .none) ∧
    (let s := { card [(RMV_STAT.PHASE, 1)] with boot := { (card []).boot with ready := false } }
     (s.at 0).listens .collar = true ∧ (s.taken okLn 0).roleOf .collar = .operator ∧ (s.taken okLn 0).ready = false ∧ (s.taken okLn 0).removing = true) ∧
    (let s := { card [] with col := { (card []).col with lock := some .mgt } }
     (s.at 0).listens .collar = true ∧ (s.taken okLn 0).roleOf .collar = .operator ∧ (s.taken okLn 0).ready = true ∧ (s.taken okLn 0).locked = true) ∧
    ((card []).taken { okLn with bad := true } 0).limp = false := by decide +kernel

theorem witness_RepliesAndNotices : ∃ x : Session, ∃ y : Session, x.notices.length < 64 ∧ 64 ≤ y.notices.length :=
  ⟨Session.start .host, { Session.start .host with notices := List.replicate 64 { event := "x", kv := [] } }, by decide +kernel⟩

/-! ### Witnesses: session verbs, tenants -/

/-- A card in FIELD with a loaded service key. -/
def fieldCard : State := { card [(LCS_STATE.STATE, 2)] with keys := { Keys.reset with slots := [(575, { state := .loaded, kind := 0x11, owner := 0, material := List.replicate 16 1#8, lost := false })] } }

theorem witness_HelloForms :
    runsB (card []) okLn 0 helloForm true = true ∧ Role.operator = ((card []).taken okLn 0).startRole .collar ∧ Role.host ≠ ((card []).taken okLn 0).startRole .collar ∧
    ((card []).taken okLn 0).get LCS_STATE.STATE ≠ 2 ∧
    (runsB fieldCard okLn 0 helloForm true = true ∧ (fieldCard.taken okLn 0).get LCS_STATE.STATE = 2 ∧ (fieldCard.taken okLn 0).col.lockout = false ∧
      ((fieldCard.taken okLn 0).slot 575).state = .loaded) ∧
    (let s := { fieldCard with col := { fieldCard.col with lockout := true } }
     runsB s okLn 0 helloForm true = true ∧ (s.taken okLn 0).get LCS_STATE.STATE = 2 ∧ (s.taken okLn 0).col.lockout = true) ∧
    (let s := fieldCard.setSession .collar { fieldCard.session .collar with chal := some { num := 7, issuedUs := 5 } }
     runsB s okLn 60000005 helloForm true = true ∧ (s.taken okLn 60000005).get LCS_STATE.STATE = 2 ∧
      ((s.taken okLn 60000005).session .collar).chal = some { num := 7, issuedUs := 5 } ∧ ((s.taken okLn 60000005).slot 575).state = .loaded ∧
      ((s.taken okLn 60000005).response .collar 7).length = 8) := by
  refine ⟨by decide +kernel, by decide +kernel, by decide +kernel, by decide +kernel, ⟨by decide +kernel, by decide +kernel, by decide +kernel, by decide +kernel⟩,
    ⟨by decide +kernel, by decide +kernel, by decide +kernel⟩, by decide +kernel, by decide +kernel, by decide +kernel, by decide +kernel, by decide +kernel⟩

/-- The forms of the reading verbs, and of `help` with a verb and without its subcommand. -/
theorem witness_SessionReads :
    runsB (card []) okLn 0 (reading rolesOHM []) true = true ∧ runsB (card []) okLn 0 (reading rolesOHM []) false = true ∧ runsB (card []) okLn 0 (reading [.operator] []) false = true ∧
    (((helpTable "S").lookup "clock").getD []) ≠ [] ∧ (((helpTable "S").lookup "nosuch").getD []) = [] := by
  refine ⟨by decide +kernel, by decide +kernel, by decide +kernel, by decide +kernel, by decide +kernel⟩

theorem witness_SessionChanges :
    (card []).canonical = true ∧ runsB (card []) okLn 0 (reading [.operator] []) false = true ∧
    (let ln : Ln := { okLn with path := .mgt }
     let s : State := { card [] with slv := { (card []).slv with phase := .data } }
     (s.at 0).listens ln.path = true ∧ (s.taken ln 0).gate ln.path helloForm false = none) ∧
    runsB (card []) okLn 0 (changing [.operator, .mantle] []) false = true ∧ ((card []).taken okLn 0).get SEAM_MANTLE.STATE = 0 ∧
    runsB (card [(SEAM_MANTLE.STATE, 1)]) okLn 0 (changing [.operator, .mantle] []) false = true ∧ ((card [(SEAM_MANTLE.STATE, 1)]).taken okLn 0).get SEAM_MANTLE.STATE = 1 ∧
    ((card [(SEAM_MANTLE.STATE, 2)]).taken okLn 0).get SEAM_MANTLE.STATE = 2 := by
  refine ⟨by decide +kernel, by decide +kernel, ⟨by decide +kernel, by decide +kernel⟩, by decide +kernel, by decide +kernel, by decide +kernel, by decide +kernel, by decide +kernel⟩

/-- A card with D43, D37 and the first queue quarter in service, room for 4 Stitches, Pocket P001 and its queue Q0005. -/
def tenantCard (k : Pocket) (q : QueuePair) : State :=
  { card [(PWR_DSTAT.STATE 43, 3), (PWR_DSTAT.STATE 37, 3), (PWR_DSTAT.STATE 39, 3), (PWR_DSTAT.STATE 1, 3), (PWR_DSTAT.STATE 9, 3), (PWR_DSTAT.STATE 38, 3)] with
    pockets := [(0, Pocket.p000), (1, k)], queues := [(5, q)], flash := { Flash.reset with usable := 4 } }
def pocket1 : Pocket := { Pocket.p000 with size := 2 }
def queue5 : QueuePair := { state := .opened, pocket := 1, depth := 64, ack := 1, baste := false, waiting := [], doneTags := [] }
def noAttrs : PocketAttrs := { size := none, cls := none, weight := none, limit := none, unit := none }
/-- A READ of the second Stitch. -/
def aRead : Cmd :=
  { opcode := 1, flags := 0, tag := 0, lba := 4, count := 4, dkey := 0, ikey := 0, handle := 0, acceptedUs := 0, received := 0, bad := false, bytes := [],
    units := [], nwait := false, ref := 0, retired := [] }
def tenant : State := (tenantCard pocket1 queue5).taken okLn 0

/-- A new Pocket that just fits, one that does not, a change, a reduction that waits, each state, and P000. -/
theorem witness_PocketCommands :
    runsB (tenantCard pocket1 queue5) okLn 0 (changing rolesOHM [39, 43]) false = true ∧ tenant.isSecondary = false ∧
    (attrsInRange { noAttrs with size := some 2 } = true ∧ tenant.pockets.lookup 2 = none ∧ tenant.sizesBut 2 + 2 ≤ tenant.flash.usable ∧
      (indexPlace (tenant.indexUsed 2) (indexLen 2)).isSome = true) ∧
    (attrsInRange { noAttrs with size := some 3 } = true ∧ tenant.flash.usable < tenant.sizesBut 2 + 3) ∧
    (tenant.pockets.lookup 1 = some pocket1 ∧ pocket1.state ≠ .deleting ∧ (tenant.changePocket 1 pocket1 (pocket1.with { noAttrs with size := some 3 })).isSome = true ∧
      tenant.sizesBut 1 + 3 ≤ tenant.flash.usable ∧ attrsInRange { noAttrs with size := some 1 } = true ∧ tenant.usedFrom 1 1 = false) ∧
    (tenantCard pocket1 { queue5 with waiting := [aRead] }).anyBeyond 1 1 = true ∧
    ({ pocket1 with state := .suspended }).state = .suspended ∧ runsB (tenantCard pocket1 queue5) okLn 0 (reading rolesOHM [39]) false = true := by
  refine ⟨by decide +kernel, by decide +kernel, by decide +kernel, by decide +kernel, by decide +kernel, by decide +kernel, by decide +kernel, by decide +kernel⟩

theorem witness_QueueCommands :
    runsB (tenantCard pocket1 queue5) okLn 0 (changing rolesOHM [39 + 6 / 256]) false = true ∧ queueAttrsOk { depth := some 4096, ack := some 3, baste := some true } = true ∧
    tenant.dom (39 + 6 / 256) = 3 ∧ (let s := tenantCard pocket1 queue5; (s.set (PWR_DSTAT.STATE 39) 2).dom 39 = 2) ∧ tenant.queues.lookup 6 = none ∧
    tenant.queues.lookup 5 = some queue5 ∧ tenant.tagsTaken 5 queue5 = [] ∧
    (let q := { queue5 with state := .draining }
     runsB (tenantCard pocket1 q) okLn 0 (changing rolesOHM [39 + 5 / 256]) false = true ∧ ((tenantCard pocket1 q).taken okLn 0).queues.lookup 5 = some q) ∧
    runsB (tenantCard pocket1 queue5) okLn 0 (reading rolesOHM [39 + 5 / 256]) false = true ∧ runsB (tenantCard pocket1 queue5) okLn 0 (reading rolesOHM [39]) false = true := by decide +kernel

/-- A card with the keys of some slots, and a blob of the Collar session. -/
def keyCard (l : List (Nat × KeySlot)) (b : Bytes) : State :=
  let s := (tenantCard pocket1 queue5).setSession .collar { Session.start .operator with blob := b }
  { s with keys := { Keys.reset with slots := l, limit := 4 } }
def loaded (kind : Nat) (m : Bytes) : KeySlot := { state := .loaded, kind := kind, owner := 1, material := m, lost := true }

/-- Slot 512 holds a wrapping key; a blob that unwraps, one that does not, the forms of each command of the verb. -/
theorem witness_KeyCommands :
    (let blob := beBytes 24 3318033858455305804830623892790838506689806555836877834181
     let s := keyCard [(512, loaded 16 (List.replicate 32 1#8))] blob
     runsB s okLn 0 (changing rolesOHM [37]) false = true ∧ (s.taken okLn 0).isSecondary = false ∧ (s.taken okLn 0).namesTwinKey [3, 512] = false ∧
       (s.taken okLn 0).arrivalFault 3 3 .wrapped (some 512) (some 1) = none ∧ blob.length = kindLen 3 + 8 ∧ xtsEqual 3 (keyUnwrap ((s.taken okLn 0).slot 512).material blob).2 = false ∧
       (keyUnwrap ((s.taken okLn 0).slot 512).material blob).1 = wrapIv 3 ∧ (keyUnwrap (List.replicate 32 3#8) blob).1 ≠ wrapIv 3) ∧
    (let s := (keyCard [] (List.replicate 16 2#8)).setSession .collar { Session.start .operator with role := .service, blob := List.replicate 16 2#8 }
     runsB s okLn 0 (changing (if s.get LCS_STATE.STATE = 1 then [.service, .operator, .host] else [.service]) [37]) false = true ∧
       (s.taken okLn 0).arrivalFault 575 17 .plain none none = none ∧ kindLen 17 = 16) ∧
    (let s := keyCard [(512, loaded 16 []), (7, loaded 3 []), (8, { loaded 3 [] with state := .retiring })] []
     (s.taken okLn 0).arrivalFault 3 3 .generated (some 512) (some 1) = none ∧ ((s.taken okLn 0).slot 7).state = .loaded ∧ ((s.taken okLn 0).slot 8).state = .retiring ∧
       ((s.taken okLn 0).slot 9).state = .empty ∧ (s.taken okLn 0).domIn 1 = true ∧ (s.taken okLn 0).domIn 9 = true ∧ runsB s okLn 0 (reading rolesOHM [37]) false = true ∧
       runsB s okLn 0 (changing [.operator] [37]) false = true ∧ (s.taken okLn 0).namesTwinKey [7] = false) := by
  refine ⟨⟨by decide +kernel, by decide +kernel, by decide +kernel, by decide +kernel, by decide +kernel, by decide +kernel, by decide +kernel, by decide +kernel⟩, ⟨by decide +kernel, by decide +kernel, by decide +kernel⟩,
    by decide +kernel, by decide +kernel, by decide +kernel, by decide +kernel, by decide +kernel, by decide +kernel, by decide +kernel, by decide +kernel, by decide +kernel⟩

theorem witness_CipherCommands :
    (let s := keyCard [(1, loaded 3 []), (2, loaded 5 []), (3, loaded 7 [])] []
     runsB s okLn 0 (reading [.operator, .host] [37, 38]) false = true ∧ runsB s okLn 0 (reading [.operator, .host] [37]) false = true ∧ runsB s okLn 0 (reading rolesOHM []) false = true ∧
       (s.taken okLn 0).cipherMsg .collar (some [1#8]) = some [1#8] ∧ (s.taken okLn 0).cipherFault 1 [3, 4] = none ∧ (s.taken okLn 0).cipherFault 2 [5, 6] = none ∧
       (s.taken okLn 0).cipherFault 3 [7, 8] = none ∧ (s.taken okLn 0).domIn 38 = true ∧ (s.taken okLn 0).keys.nonce < (s.taken okLn 0).keys.limit) := by
  refine ⟨by decide +kernel, by decide +kernel, by decide +kernel, by decide +kernel, by decide +kernel, by decide +kernel, by decide +kernel, by decide +kernel, by decide +kernel⟩


/-! ### Witnesses: stores -/

def rl (k : List Nat) : Form := reading rolesOHM k
def rd (r : List Role) (k : List Nat) : Form := reading r k
def chg (r : List Role) (k : List Nat) : Form := changing r k
/-- The same session in SERVICE. -/
def inService (s : State) : State := s.setSession .collar (Session.start .service)
def noShare : ShareAttrs := { cleanMin := none, cleanMax := none, dirtyMin := none, dirtyMax := none }
def noCache : CacheAttrs := { baste := none, prefetch := none, flushHi := none, flushLo := none, ahead := none, window := none }
/-- A resident segment and one that is not. -/
def aSeg (r : Bool) : Seg := { resident := r, dirty := false, slot := 1, row := 0, quartet := 0, reading := false, rebuilding := false, wseqs := [] }
def withSegs (l : List (Nat × Seg)) (s : State) : State := { s with flash := { s.flash with segs := l } }
def aCkpt : CkptRun := { own := false, segs := [], mark := { index := [], wseq := 0, boltSeq := 0, delta := 0, clean := false }, top := 0 }

theorem witness_CacheAndMapCommands :
    runsB (tenantCard pocket1 queue5) okLn 0 (rl [43]) false = true ∧ runsB (tenantCard pocket1 queue5) okLn 0 (chg rolesOHM [43]) false = true ∧
    (let s := (tenantCard pocket1 queue5).set CCH_SIZE.MIB 10
     let u := s.taken okLn 0
     runsB s okLn 0 (chg rolesOHM [43]) false = true ∧ u.isSecondary = false ∧ u.pockets.lookup 1 = some pocket1 ∧ pocket1.state ≠ .deleting ∧
       ((u.pockets.filter (fun x => x.1 ≠ 1)).map (fun x => x.2.cleanMin + x.2.dirtyMin)).sum + 10 + 0 ≤ u.get CCH_SIZE.MIB ∧
       u.get CCH_SIZE.MIB < ((u.pockets.filter (fun x => x.1 ≠ 1)).map (fun x => x.2.cleanMin + x.2.dirtyMin)).sum + 11 + 0) ∧
    (within (some 65535) 0 65535 = true ∧ within (some 2048) 128 2048 = true ∧ multipleOf (some 2048) 128 = true ∧ within (some 256) 256 4096 = true ∧
      (some 100).getD (tenant.get CCH_CFG.FLUSH_LO) ≤ (some 100).getD (tenant.get CCH_CFG.FLUSH_HI)) ∧
    (let s := withSegs [(tenant.segOf 1 1, aSeg true)] (tenantCard pocket1 queue5)
     runsB s okLn 0 (rl [43]) false = true ∧ (s.taken okLn 0).segAbsent ((s.taken okLn 0).segOf 1 1) = false) ∧
    (let s := withSegs [(tenant.segOf 1 1, aSeg false)] (tenantCard pocket1 queue5)
     (s.taken okLn 0).segAbsent ((s.taken okLn 0).segOf 1 (7 / 4)) = true ∧ 7 < 4 * pocket1.size) ∧
    tenant.flash.ckptRuns = none ∧ tenant.flag SYS_BOOTSTAT.REPLAY = false ∧
    (let s := (tenantCard pocket1 queue5).set SYS_BOOTSTAT.REPLAY 1
     runsB s okLn 0 (chg rolesOHM [43]) false = true ∧ (s.taken okLn 0).flag SYS_BOOTSTAT.REPLAY = true) ∧
    (let s := tenantCard pocket1 queue5
     ({ s with flash := { s.flash with ckptRuns := some aCkpt } }).flash.ckptRuns ≠ none) ∧
    runsB (tenantCard pocket1 queue5) okLn 0 (chg [.operator] [43]) false = true := by decide +kernel

theorem witness_MeterAndLinkCommands :
    tenant.metered 1 = true ∧ tenant.metered 2 = false ∧ runsB (tenantCard pocket1 queue5) okLn 0 (rl []) false = true ∧
    runsB (tenantCard pocket1 queue5) okLn 0 (chg [.operator, .host] []) false = true ∧ tenant.joined = false ∧
    (((tenantCard pocket1 queue5).set SEAM_STAT.RING 2).taken okLn 0).joined = true ∧ runsB ((tenantCard pocket1 queue5).set SEAM_STAT.RING 2) okLn 0 (chg [.operator, .host] []) false = true ∧
    runsB (card []) okLn 0 (chg [.operator] []) false = true ∧ within (some 65535) 0 65535 = true ∧ within (some (2 ^ 32 - 1)) 0 (2 ^ 32 - 1) = true ∧
    ((card []).taken okLn 0).get SLV_STAT.STATE < 2 ∧
    (let s := card [(SLV_STAT.STATE, 2), (PWR_DSTAT.STATE 26, 3)]
     runsB s okLn 0 (rl []) false = true ∧ runsB s okLn 0 (chg [.operator, .host] [26]) false = true ∧ 2 ≤ (s.taken okLn 0).get SLV_STAT.STATE) ∧
    runsB (card [(PWR_DSTAT.STATE 26, 3)]) okLn 0 (chg [.operator, .host] [26]) false = true ∧
    within (some 4096) 256 4096 = true ∧ within (some 1024) 1 1024 = true ∧ within (some 1000) 1 1000 = true ∧ within (some 10) 10 10000 = true ∧ within (some 2) 0 2 = true ∧ within (some 7) 1 7 = true := by decide +kernel

theorem witness_FlashCommands :
    (let s := card [(PWR_DSTAT.STATE 44, 3)]
     runsB s okLn 0 (rl [44]) false = true ∧ runsB s okLn 0 (chg [.operator] [44]) false = true) ∧ runsB (card []) okLn 0 (rl []) false = true ∧
    within (some 50) 2 50 = true ∧ within (some 8) 1 8 = true ∧ within (some 64) 3 64 = true ∧ within (some 255) 0 255 = true ∧ within (some 10000) 50 10000 = true ∧
    (let s := inService (card [(PWR_DSTAT.STATE 43, 3), (PWR_DSTAT.STATE 44, 3)])
     runsB s okLn 0 (chg [.service] [43, 44]) false = true ∧ (s.taken okLn 0).pockets.any (fun x => x.1 != 0) = false ∧ (s.taken okLn 0).isSecondary = false ∧
       1 ≠ (s.taken okLn 0).get SYS_SERIAL.SERIAL) := by decide +kernel

theorem witness_DramCommands :
    (let s := card [(PWR_DSTAT.STATE 29, 3), (PWR_DSTAT.STATE 30, 3), (PWR_DSTAT.STATE 31, 3), (PWR_DSTAT.STATE 32, 3)]
     runsB s okLn 0 (rl (dramUnits none)) false = true ∧ runsB s okLn 0 (chg [.operator] (dramUnits none)) false = true ∧
       runsB s okLn 0 (chg [.operator] (dramUnits (some 1))) false = true) ∧
    within (some 1) 0 1 = true ∧ within (some 5000) 20 5000 = true ∧ within (some 65535) 500 65535 = true ∧ within (some 32768) 256 32768 = true ∧ within (some 90) 10 90 = true ∧
    within (some 10) 10 65535 = true ∧ within (some 7) 0 7 = true ∧
    maskOk 11 0x220800 = true ∧ maskOk 6 0x1041 = true ∧ maskOk 7 0x2082 = true ∧ maskOk 8 0x4104 = true ∧ maskOk 9 0x88200 = true ∧ maskOk 10 0x110400 = true ∧
    maskOk 11 0x220400 = false := by decide +kernel

theorem witness_EccCommands :
    runsB (card []) okLn 0 (rl []) false = true ∧ runsB (card []) okLn 0 (chg [.operator] []) false = true ∧
    within (some 100) 50 100 = true ∧ within (some 12) 0 12 = true ∧ within (some 12) 2 12 = true ∧ within (some 255) 8 255 = true ∧ within (some 160) 16 160 = true ∧
    multipleOf (some 160) 8 = true ∧ within (some 8760) 24 8760 = true ∧ within (some 3) 0 3 = true ∧ within (some 50) 0 50 = true ∧ within (some 1) 1 255 = true ∧
    ((card []).taken okLn 0).flag ECC_INJ.ARM = false ∧ ((((((card []).taken okLn 0).set ECC_INJ.TARGET 0).set ECC_INJ.UNIT 1).set ECC_INJ.BITS 1).set ECC_INJ.ARM 1).injMay = true ∧
    ((((((card [(LCS_STATE.STATE, 2), (PWR_DSTAT.STATE 1, 3)]).taken okLn 0).set ECC_INJ.TARGET 0).set ECC_INJ.UNIT 1).set ECC_INJ.BITS 1).set ECC_INJ.ARM 1).injMay = false ∧
    ((card [(ECC_INJ.ARM, 1)]).taken okLn 0).flag ECC_INJ.ARM = true ∧ runsB (card [(ECC_INJ.ARM, 1)]) okLn 0 (chg [.operator] []) false = true := by decide +kernel

theorem witness_LiningCommands :
    runsB (card []) okLn 0 (rl []) false = true ∧ runsB (card []) okLn 0 (chg [.operator] []) false = true ∧
    descInRange (some 5000) (some 5400) (some 4000) (some 150) = true ∧ within (some 980) 500 980 = true ∧ within (some 1000) 10 1000 = true ∧ within (some 16) 1 16 = true ∧
    ((card [(LIN_STAT.STATE, 3)]).taken okLn 0).get LIN_STAT.STATE = 3 ∧ runsB (card [(LIN_STAT.STATE, 3)]) okLn 0 (chg [.operator] []) false = true ∧
    ((card []).taken okLn 0).get LIN_STAT.STATE = 0 ∧ ((card []).taken okLn 0).get LCS_STATE.STATE = 0 ∧
    (let s := card [(LCS_STATE.STATE, 2)]
     runsB s okLn 0 (chg [.operator] []) false = true ∧ (s.taken okLn 0).get LCS_STATE.STATE = 2) ∧
    (let s := card [(LCS_STATE.STATE, 1)]
     runsB s okLn 0 (chg [.operator] []) false = true ∧ (s.taken okLn 0).get LCS_STATE.STATE = 1 ∧ within (some 6000) 1000 6000 = true ∧
       (s.taken okLn 0).lin.desc.taken { nom := some 6000, esrMax := none, float := none, ilim := none, slotW := none } = false) := by decide +kernel

/-! ### Witnesses: power, domains, access, service -/

/-- A card as a Collar line at time 0 finds it. -/
def tk (l : List (Fld × Nat)) : State := (card l).taken okLn 0
/-- A card that has been asked for a warm reset and has not begun it. -/
def resetAsked (s : State) : State := { s with boot := { s.boot with pending := some { kind := .warm, causes := [2] } } }
/-- The same card with a DRAM channel 0 of 16 GiB that serves. -/
def dramOn : List (Fld × Nat) :=
  [(DRC_CFG.POP 0, 1), (DRC_CFG.DENS 0, 2), (DRC_STAT.TRAIN 0, 2), (DRC_STAT.SIZE_GIB 0, 16), (PWR_DSTAT.STATE 29, 3), (PWR_DSTAT.STATE 30, 3)]

theorem witness_PowerCommands :
    runsB (card []) okLn 0 (rl []) false = true ∧ runsB (card []) okLn 0 (chg rolesOHM []) false = true ∧ (tk []).notReadyNow = false ∧
    (let s := resetAsked (card [])
     runsB s okLn 0 (chg rolesOHM []) false = true ∧ (s.taken okLn 0).notReadyNow = true) ∧
    (tk []).powerRefusal 2 [50] = none ∧ [50].all napAllowed = true ∧ within (some 10000) 10 10000 = true ∧ (tk []).powerRefusal 3 napAll = none ∧
    (tk []).powerRefusal 4 ((List.range 51).drop 1) = none ∧
    (let l := [(SEAM_MANTLE.STATE, 4)]
     runsB (card l) okLn 0 (chg rolesOHM []) false = true ∧ (tk l).powerRefusal 3 napAll = some .wrongState ∧ (tk l).powerRefusal 4 ((List.range 51).drop 1) = some .wrongState) ∧
    ((tk [(PWR_LEVEL.AVAIL, 15)]).get PWR_LEVEL.AVAIL).testBit 3 = true ∧ (tk []).pwr.regBad = false ∧ (((tk []).sendHold 10).keep PWR_LEVEL.CFG 0).flag PWR_LEVEL.THROTTLED = false ∧
    ((((tk []).sendHold 10).keep PWR_LEVEL.CFG 0).levelAsk 0).pwr.levelTo.isSome = true ∧
    ((((tk []).sendHold 10).keep PWR_LEVEL.CFG 2).levelAsk 2).pwr.levelTo.isSome = false ∧
    (((tk [(PWR_LEVEL.THROTTLED, 1)]).sendHold 10).keep PWR_LEVEL.CFG 0).flag PWR_LEVEL.THROTTLED = true ∧
    ((tk [(PWR_LEVEL.AVAIL, 7)]).get PWR_LEVEL.AVAIL).testBit 3 = false ∧ runsB (card [(PWR_LEVEL.AVAIL, 7)]) okLn 0 (chg rolesOHM []) false = true ∧
    (tk []).pwr.entry = none ∧ runsB (card []) okLn 0 (chg [.operator] []) false = true ∧ within (some 3600) 1 3600 = true ∧ within (some 9) 0 9 = true ∧ within (some 16777215) 0 16777215 = true := by decide +kernel

theorem witness_DomainAndResetCommands :
    runsB (card []) okLn 0 (rl []) false = true ∧ runsB (card []) okLn 0 (chg rolesOHM []) false = true ∧ (tk []).dom 49 = 3 ∧
    (tk [(PWR_DSTAT.STATE 50, 0)]).dom 50 = 0 ∧ (tk []).flag (PWR_DSTAT.OFFABLE 50) = true ∧ ((tk [(PWR_DSTAT.STATE 50, 0)]).domainOn 50 .line).2 = none ∧
    (tk [(PWR_DSTAT.STATE 43, 0)]).dom 43 = 0 ∧ (tk []).flag (PWR_DSTAT.OFFABLE 43) = false ∧
    (tk []).pathNeeds .collar 50 = false ∧ (tk [(PWR_DSTAT.STATE 50, 1)]).dom 50 = 1 ∧ (tk [(PWR_DSTAT.STATE 50, 2)]).dom 50 = 2 ∧
    runsB (card []) okLn 0 (chg [.operator, .mantle] []) false = true ∧ runsB (card []) okLn 0 (chg [.operator] []) false = true ∧
    (tk []).flag (PWR_DSTAT.RESETTABLE 50) = true ∧ (tk []).flag (PWR_DSTAT.RESETTABLE 43) = false := by decide +kernel

/-- An extension image of 128 bytes with one region, R and X, at its head, and its CMAC under the key of 32 bytes 07. -/
def extHead : Bytes := leBytes 4 0x31455842 ++ leBytes 4 128 ++ List.replicate 8 0 ++ leBytes 4 0x11020000 ++ [12, 5] ++ List.replicate 90 0
def extImage : Bytes := extHead ++ beBytes 16 314788298043748503753315717292338682493
def extCard (b : Bytes) : State :=
  let s := card []
  { s with keys := { s.keys with slots := [(5, { state := .loaded, kind := 6, owner := 0, material := List.replicate 32 7#8, lost := false })] },
           access := { s.access with image := some (.collar, 128, b) } }

theorem witness_AccessCommands :
    runsB (card []) okLn 0 (rl []) false = true ∧ runsB (card [(PWR_DSTAT.STATE 50, 3)]) okLn 0 (rl [50]) false = true ∧ (tk []).dom 49 ≠ 0 ∧ (tk []).dom (49 + 1) = 0 ∧ (tk [(PWR_DSTAT.STATE 50, 3)]).dom 50 ≠ 0 ∧
    runsB (card []) okLn 0 (chg [.operator] []) false = true ∧
    (let s := extCard (List.replicate 112 0)
     runsB s okLn 0 (chg [.operator] []) false = true ∧ (s.taken okLn 0).access.image = some (.collar, 128, List.replicate 112 0) ∧ (List.replicate 112 (0 : BitVec 8)).length + 16 ≤ 128 ∧
       (List.replicate 112 (0 : BitVec 8)).length ≠ 128) ∧
    (let s := extCard (List.replicate 128 0)
     (List.replicate 128 (0 : BitVec 8)).length = 128 ∧ (s.taken okLn 0).extCheck (List.replicate 128 0) 511 = some .badArg) ∧
    0x20000000 ≤ 0x203fffff ∧ 0x203fffff < 0x20400000 ∧ ¬ 0x203fffff < (tk []).dramSize ∧
    0x20000000 < (tk dramOn).dramSize ∧ (tk dramOn).drcServes ((tk dramOn).chanOf 0x20000000).1 = true ∧ (tk [(TAG_FTOTAL.COUNT, 65)]).get TAG_FTOTAL.COUNT = 65 ∧
    (tk [(TAG_FTOTAL.COUNT, 65)]).oldestFault = 2 := by decide +kernel

theorem witness_AccessCommands_admitted :
    ∃ img : Bytes, img.length = 128 ∧ runsB (extCard img) okLn 0 (chg [.operator] []) false = true ∧ ((extCard img).taken okLn 0).extCheck img 5 = none ∧
      ((extCard img).taken okLn 0).access.image = some (.collar, 128, img) :=
  ⟨extImage, by decide +kernel, by decide +kernel, by decide +kernel, by decide +kernel⟩

theorem witness_ServiceCommands :
    (let s := inService (card [(PWR_DSTAT.CMD_OFF 45, 1)])
     let u := s.taken okLn 0
     runsB s okLn 0 (chg [.service] []) false = true ∧ u.runRefusal 5 45 = none ∧ ((swatch 5).map (fun w => decide (u.swatchUs w 45 ≤ 1000000))) = some true ∧
       u.runRefusal 5 46 = some .wrongState) ∧
    (let s := inService (card [(DRC_CFG.POP 0, 1), (DRC_CFG.DENS 0, 2), (SYS_STRAP.BOOT_SEL, 3)])
     let u := s.taken okLn 0
     u.runRefusal 26 29 = none ∧ ((swatch 26).map (fun w => decide (1000000 < u.swatchUs w 29))) = some true) ∧
    runsB (card []) okLn 0 (rl []) false = true ∧
    (let s := inService (card [(LCS_STATE.STATE, 1), (PWR_DSTAT.STATE 1, 3), (PWR_DSTAT.STATE 9, 3)])
     let u := s.taken okLn 0
     runsB s okLn 0 (chg [.service] []) false = true ∧ u.lifeRefusal 4 = none ∧ u.lifeRefusal 2 = some .keyEmpty ∧ u.lifeRefusal 0 = some .lifecycle ∧ 1 ≠ u.get SYS_SERIAL.SERIAL) ∧
    (let t : Target := { addr := SYS_WDOG.addr, field := none }
     t.ok = true ∧ (tk []).regDark t.addr = false) ∧
    (let t : Target := { addr := SYS_WDOG.addr, field := some SYS_WDOG.EN.lsb }
     t.ok = true ∧ t.spec.isSome = true ∧ (t.spec.map (fun f => f.acc)) ≠ some Acc.ro) ∧
    (let t : Target := { addr := SYS_SERIAL.addr, field := some 0 }
     (t.spec.map (fun f => f.acc)) = some Acc.ro) ∧
    (let t : Target := { addr := FQ_ERR.addr 3, field := none }
     t.ok = true ∧ (tk []).regDark t.addr = true) ∧
    (let as := (List.range 16).map (fun k => SYS_WDOG.addr + 4 * k)
     as.all inRegSpace = true ∧ as.any (tk []).regDark = false) ∧
    runsB (card []) okLn 0 (chg [.operator] []) false = true ∧
    (let u := ((card []).wakeLine .collar .whole).heard .collar .whole
     (card []).ripe (Say.unknownCommandLine.waited okLn) okLn.rx = true ∧ (card []).says Say.unknownCommandLine okLn = true ∧ u.gate .collar { changing := false, roles := [.operator, .host, .mantle, .service], needs := [] } false = none) := by decide +kernel

/-! ### Witnesses: the shelf -/

/-- Slot 3 in a ring with slot 4; slot 512 + 5 holds a wrapping key; a twinset, and an offer. -/
def shelf (l : List (Fld × Nat)) (g : Option Pairing) (o : Option (Pairing × Nat)) : State :=
  let s := card ([(SYS_STRAP.SLOT_VALID, 1), (SYS_STRAP.SLOT_ID, 3), (SEAM_STAT.RING, 2), (SEAM_ROSTER.MASK, 2 ^ 3 + 2 ^ 4),
    (PWR_DSTAT.STATE 27, 3), (PWR_DSTAT.STATE 28, 3), (PWR_DSTAT.STATE 37, 3)] ++ l)
  { s with keys := { s.keys with slots := [(517, { state := .loaded, kind := 16, owner := 0, material := List.replicate 32 9#8, lost := false })] },
           twin := { s.twin with pairing := g, offer := o } }
def pairOf (primary : Bool) : Pairing := { slot := 4, serial := 0, wk := 5, primary := primary }
def tw (s : State) : State := s.taken okLn 0
/-- A change of what stands outside the registers of the twinset. -/
def twinned (f : Twin → Twin) (s : State) : State := { s with twin := f s.twin }
def seamed (f : Seam → Seam) (s : State) : State := { s with seam := f s.seam }

theorem witness_TwinCommands :
    (let s := shelf [] none none
     runsB s okLn 0 (rl []) false = true ∧ runsB s okLn 0 (chg [.operator, .mantle] []) false = true ∧ (tw s).pairRefusal 4 5 true = none ∧ (tw s).pairRefusal 4 62 true = some .keyEmpty ∧
       (tw s).twin.offer = none ∧ (tw s).twin.pairing = none ∧ (tw s).isPrimary = false) ∧
    (tw (shelf [] none (some (pairOf true, 0)))).twin.offer = some (pairOf true, 0) ∧ (tw (shelf [] (some (pairOf true)) none)).twin.pairing = some (pairOf true) ∧
    (let s := shelf [] none (some (pairOf true, 0))
     let ln : Ln := { okLn with path := .seam 4 }
     s.twin.offer = some (pairOf true, 0) ∧ (pairOf true).slot = 4 ∧
       runsB s ln 0 { changing := (s.awaiting .pairing).isNone, roles := [.operator, .host, .mantle, .service, .none], needs := [] } false = true ∧
       (s.taken ln 0).judgeOffer (pairOf true) 6 0 0 = some .wrongState) ∧
    (let s := shelf [(SEAM_TWIN.STATE, 2)] (some (pairOf true)) none
     runsB s okLn 0 (chg [.operator, .mantle] []) false = true ∧ (tw s).isPrimary = true ∧ (tw s).mirrors = true ∧ (tw s).mirroring = true) ∧
    (let s := shelf [(SEAM_TWIN.STATE, 3)] (some (pairOf true)) none
     (tw s).isPrimary = true ∧ (tw s).mirrors = false) ∧
    (let s := twinned (fun t => { t with fromStandby := true }) (shelf [(SEAM_TWIN.STATE, 6)] (some (pairOf false)) none)
     (tw s).twinState = 6 ∧ (tw s).twin.fromStandby = true ∧ (tw s).primarySilent 0 = true ∧ (tw s).twin.holdUntil ≤ 0) ∧
    (let s := shelf [] none none
     let t : State := { s with pockets := [(0, Pocket.p000), (1, pocket1)], keys := { s.keys with slots := [(7, loaded 3 [])] } }
     runsB t okLn 0 (chg [.operator, .mantle] []) false = true ∧ (tw t).isSecondary = false ∧ (tw t).pockets.lookup 1 = some pocket1 ∧ pocket1.state ≠ .deleting ∧
       ((tw t).slot 7).state = .loaded ∧ ((tw t).slot 7).owner = 1 ∧ ((tw t).slot 7).kind = 3 ∧ ((tw t).slot 8).state = .empty) := by decide +kernel

theorem witness_TwinCommands_offer :
    let s := shelf [] none (some (pairOf true, 0))
    (s.taken { okLn with path := .seam 4 } 0).judgeOffer (pairOf true) 5 (beNat (kcv 16 (List.replicate 32 9#8))) 0 = none := by decide +kernel

theorem witness_RingAndMantleCommands :
    (let s := shelf [] none none
     runsB s okLn 0 (rl []) false = true ∧ runsB s okLn 0 (chg [.operator, .mantle] []) false = true ∧ (tw s).joined = true ∧ within (some 2) 0 2 = true ∧ within (some 1) 1 2 = true ∧
       within (some 10) 10 90 = true ∧ (tw s).twin.pairing = none ∧ (tw s).get SEAM_MANTLE.STATE ≠ 4 ∧ (tw s).get SEAM_MANTLE.STATE ≠ 2 ∧ runsB s okLn 0 (rd [.operator, .host] []) false = true) ∧
    (tk []).joined = false ∧
    (let s := seamed (fun q => { q with linePort := [(4, 1)] }) (shelf [(SEAM_STAT.MANTLE, 4)] none none)
     let ln : Ln := { okLn with path := .seam 4 }
     runsB s ln 0 (chg [.operator, .mantle] []) false = true ∧ (s.taken ln 0).joined = true ∧ (s.taken ln 0).seam.linePort.lookup 4 = some 1) ∧
    (let s := shelf [(SEAM_MANTLE.STATE, 4)] none none
     runsB s okLn 0 (rd [.operator, .host] []) false = true ∧ runsB s okLn 0 (rl []) false = true ∧ (tw s).get SEAM_MANTLE.STATE = 4 ∧ 4 ≠ (tw s).ownSlot ∧
       ((tw s).get SEAM_ROSTER.MASK).testBit 4 = true ∧ malformedPayload ("hello".toList.map Char.toNat) = false) := by decide +kernel

/-! ### Witnesses: start-up and resets -/

/-- A ladder that runs with some rows complete. -/
def ladder (l : List (Fld × Nat)) (done : List BootRow) : State :=
  flds l { State.reset with boot := { Boot.reset with supply := true, running := true, done := done } }
def rowsToBanner : List BootRow := [.release, .aon, .pll, .fuse, .sram, .check, .tailor, .banner]
/-- A card with its supply on. -/
def supplied (l : List (Fld × Nat)) : State := let s := card l; { s with boot := { s.boot with supply := true } }

theorem witness_SupplyAndCrystalEvents :
    State.reset.boot.supply = false ∧ (supplied []).boot.supply = true ∧ (supplied []).boot.xtalLost = false ∧ ((supplied [(SYS_CLKSTAT.XTAL_OK, 1)]).at 9).flag SYS_CLKSTAT.XTAL_OK = true ∧
    (let s := supplied []
     let t : State := { s with boot := { s.boot with xtalLost := true } }
     t.boot.supply = true ∧ t.boot.xtalLost = true) := by decide +kernel

theorem witness_LadderRows :
    ((ladder [] [.release]).at 5).rowDue .aon = true ∧ ((ladder [] [.release, .aon]).at 5).rowDue .pll = true ∧
    ((ladder [] [.release, .aon, .pll]).at 5).rowDue .fuse = true ∧ ((ladder [] [.release, .aon, .pll, .fuse]).at 5).rowDue .sram = true ∧
    ((ladder [] [.release, .aon, .pll, .fuse, .sram]).at 5).rowDue .check = true ∧ ((ladder [] [.release, .aon, .pll, .fuse, .sram, .check]).at 5).rowDue .tailor = true ∧
    ((ladder [] [.release, .aon, .pll, .fuse, .sram, .check, .tailor]).at 5).rowDue .banner = true ∧ State.reset.boot.running = false := by decide +kernel

theorem witness_LadderOfStorage :
    ((ladder [] rowsToBanner).at 5).rowDue .flash = true ∧
    (let s := card [(PWR_DSTAT.STATE 3, 1)]
     (s.at 5).rowDue .flash = false ∧ (List.range 16).filter (fun q => (s.at 5).dom (q + 1) == 1) = [2]) ∧
    ((ladder [] (rowsToBanner ++ [.flash])).at 5).rowDue .records = true ∧
    (let s := ladder [] (rowsToBanner ++ [.flash, .records])
     (s.at 5).rowDue .dram = true ∧ (s.at 5).dramDue = false ∧ ((s.at 5).findDram { pop := [1, 0], dens := 2, ident := 1, same := true, rfm := false }).layRanks.dram.record = none) ∧
    (let s := ladder [] (rowsToBanner ++ [.flash, .records])
     (s.at 5).rowDue .keys = true ∧ (s.at 5).boot.rootKey = false) ∧
    (let s := ladder [] (rowsToBanner ++ [.flash, .records])
     let t : State := { s with boot := { s.boot with rootKey := true } }
     (t.at 5).rowDue .keys = true ∧ (t.at 5).limpDomain ≠ some 37 ∧ (t.at 5).limpDomain ≠ some 50) ∧
    ((ladder [] (rowsToBanner ++ [.flash, .records, .dram, .keys])).at 5).rowDue .tables = true ∧
    ((ladder [] (rowsToBanner ++ [.flash, .records, .dram, .keys, .tables])).at 5).rowDue .ready = true := by decide +kernel

theorem witness_LadderOfStorage_after :
    (let s := ladder [] [.release]
     (s.at 400000000).boot.running = true ∧ (s.at 400000000).boot.triggerUs + (s.at 400000000).boot.kind.bound ≤ 400000000 ∧ (s.at 5).limp = false ∧ (s.at 5).boot.retry = false) ∧
    (let s := ladder [(SYS_BOOTSTAT.LIMP, 1)] [.release]
     let t : State := { ladder [] [.release] with boot := { (ladder [] [.release]).boot with retry := true } }
     (s.at 5).limp = true ∧ (t.at 5).limp = false ∧ (t.at 5).boot.retry = true) ∧
    (let s := (card ((DRC_STAT.TRAIN 0, 1) :: (DRC_CFG.POP 0, 1) :: [])).at 5
     s.channels.filter (fun n => s.get (DRC_STAT.TRAIN n) == 1) = [0] ∧ s.channels.any (fun n => s.flag (DRC_CFG.RATE_MAX n)) = false ∧ s.dram.masksNext = none) ∧
    (let s := (card ((SYS_BOOTSTAT.STAGING, 1) :: dramOn)).at 5
     s.flag SYS_BOOTSTAT.STAGING = true ∧ s.ready = true ∧ s.channels ≠ [] ∧ s.channels.all (fun n => s.get (DRC_STAT.TRAIN n) == 2) = true ∧
       s.carveFits [(2 ^ 20, 2 ^ 20), (643 * 2 ^ 20, 2 ^ 34 - 8192 - 643 * 2 ^ 20), (3 * 2 ^ 20, 384 * 2 ^ 20), (387 * 2 ^ 20, 2 ^ 28), (2 ^ 21, 2 ^ 20), (0, 2 ^ 20),
         (2 ^ 34 - 8192, 8192)] = true) ∧
    (let s := (card [(SYS_BOOTSTAT.REPLAY, 1)]).at 5
     s.flag SYS_BOOTSTAT.REPLAY = true ∧ s.ready = true ∧ s.limpDomain ≠ some 43) ∧
    (let s := (card [(SYS_BOOTSTAT.STAGING, 0)]).at 5
     s.ready = true ∧ s.flag SYS_BOOTSTAT.STAGING = false ∧ s.flag SYS_BOOTSTAT.REPLAY = false ∧ s.flag SYS_BOOTSTAT.MAP_RESIDENT = false ∧ s.quiesced = false ∧ s.asleep = false ∧
       s.limpDomain ≠ some 43) := by decide +kernel

theorem witness_ResetEvents :
    (let s := (supplied [(SYS_WDOG.EN, 1), (SYS_WDOG.TIMEOUT_MS, 10)]).at 10000
     s.flag SYS_WDOG.EN = true ∧ s.dom 49 ≠ 0 ∧ s.removing = false ∧ s.boot.wdogUs + 1000 * clamp 10 10000 (s.get SYS_WDOG.TIMEOUT_MS) ≤ 10000 ∧ s.boot.supply = true ∧ s.dom 50 = 0) ∧
    ((supplied [(PWR_DSTAT.STATE 50, 3)]).at 1).dom 50 ≠ 0 ∧
    (let s := resetAsked (card [])
     let p : PendingReset := { kind := .warm, causes := [2] }
     (s.at 5).boot.pending = some p ∧ (s.at 5).removing = false ∧ (s.at 5).boot.running = false ∧ (s.at 5).flag SYS_BOOTSTAT.REPLAY = false ∧ (s.at 5).cleanStop.2 = true) ∧
    (let s := resetAsked (card [(SYS_BOOTSTAT.REPLAY, 1)])
     (s.at 5).removing = false ∧ (s.at 5).boot.running = false ∧ (s.at 5).flag SYS_BOOTSTAT.REPLAY = true ∧ (s.at 5).limpDomain ≠ some 43) ∧
    ((resetAsked (card [(RMV_STAT.PHASE, 1)])).at 5).removing = true ∧ ((resetAsked (card [(RMV_STAT.PHASE, 1)])).at 5).boot.pending.isSome = true ∧
    ((resetAsked (ladder [] [.release])).at 5).boot.running = true ∧ ((resetAsked (ladder [] [.release])).at 5).boot.pending.isSome = true ∧
    (let s := resetAsked (card [])
     let t : State := { s with flash := { s.flash with progs := [{ ppa := 0, group := 0, idx := 0, row := 0, kind := .pad, page := [] }] } }
     (t.at 5).flushed = false ∧ (t.at 5).flash.deltas = [] ∧ (t.at 5).rowsOpen = [] ∧ (t.at 5).boot.running = false ∧ (t.at 5).boot.pending.isSome = true) ∧
    (let s := supplied [(RMV_STAT.PHASE, 5)]
     let t : State := { s with lin := { s.lin with en := true } }
     1 ≤ (t.at 5).get RMV_STAT.PHASE ∧ (t.at 5).get RMV_STAT.PHASE ≤ 5 ∧ (t.at 5).lin.en = true) ∧
    (let s := supplied [(RMV_STAT.PHASE, 6)]
     let t : State := { s with lin := { s.lin with rearmUs := some 7 } }
     (t.at 1007).get RMV_STAT.PHASE = 6 ∧ (t.at 1007).lin.rearmUs = some 7) := by decide +kernel

theorem witness_ResetsLeave : State.reset.twin.offer = none ∧ State.reset.boot.pending = none ∧ (resetAsked State.reset).boot.pending = some { kind := .warm, causes := [2] } := by decide +kernel

/-! ### Witnesses: the Collar and its sessions -/

def rawLine (t : String) : RawLine := { RawLine.empty with chars := t.toList.map Char.toNat }
def collared (f : Collar → Collar) (s : State) : State := { s with col := f s.col }
def linkIn (p : LinkPhase) (s : State) : State := { s with slv := { s.slv with phase := p } }
/-- The session of the Collar owes a reply that waits for a key update. -/
def owing (s : State) : State := s.setSession .collar { Session.start .operator with await := some { tag := none, what := .journal, sinceUs := 0 } }
/-- COL_CTS_N holds a reply back. -/
def heldBack (s : State) : State := collared (fun c => { c with ctsHigh := true, txHold := [.reply false (.bz none)] }) s

theorem witness_CollarCharacters :
    (let u := (card []).wakeEvent 1 0 3
     u.bannerDone = true ∧ u.t0Runs = true ∧ u.col.switchDiv = none ∧ u.col.inBreak = false ∧ u.strict .collar = false ∧ u.heldChars < 256) ∧
    (State.reset.wakeEvent 1 0 3).bannerDone = false ∧
    ((card [(PWR_DSTAT.STATE 49, 0)]).wakeEvent 1 0 3).t0Runs = false ∧ ((card [(PWR_DSTAT.STATE 49, 0)]).wakeEvent 1 0 3).asleep = false ∧
    ((collared (fun c => { c with switchDiv := some 868 }) (card [])).wakeEvent 1 0 3).col.switchDiv.isSome = true ∧
    (let u := (card [(SYS_COLCFG.STRICT, 1)]).wakeEvent 1 0 3
     u.strict .collar = true ∧ u.bannerDone = true ∧ u.t0Runs = true ∧ u.col.switchDiv = none ∧ u.col.inBreak = false ∧ u.heldChars < 256) ∧
    ((collared (fun c => { c with inBreak := true }) (card [])).wakeEvent 1 0 3).col.inBreak = true ∧
    ((collared (fun c => { c with switchDiv := some 868 }) (card [])).wakeEvent 1 0 3).replyHeld .collar = false ∧
    (let u := (collared (fun c => { c with part := { RawLine.empty with chars := [0x3D] } }) (card [])).wakeEvent 1 0 3
     u.strict .collar = false ∧ u.col.part = { RawLine.empty with chars := [0x3D] } ∧ u.col.collar.await = none ∧ u.replyHeld .collar = false) ∧
    (let u := (collared (fun c => { c with part := { RawLine.empty with chars := List.replicate 254 0x41 }, held := [rawLine "S"] }) (card [])).wakeEvent 1 0 3
     u.heldChars = 256 ∧ u.col.part.chars ≠ [] ∧ u.col.part.chars.all (· == 0x20) = false) := by decide +kernel

theorem witness_CollarLineEvents :
    (let l := { rawLine "S" with framing := true }
     let s := collared (fun c => { c with held := [l] }) (card [])
     s.hears .collar = true ∧ s.isHeld .collar (· == l) = true ∧ lineFault (s.strict .collar) false l = some .framing ∧ s.ripe (discarded .collar) l.rx = true ∧
       (owing s).hears .collar = true ∧ (owing s).isHeld .collar (· == l) = true ∧ (owing s).ripe (discarded .collar) l.rx = false ∧
       s.isHeld .collar (· == rawLine "S") = false) ∧
    lineFault ((card []).strict .collar) false (rawLine "S") = none ∧ lineFault ((card []).strict .mgt) true (rawLine "S") = some .check ∧
    (let s := linkIn .data (card [(SLV_STAT.STATE, 2)])
     s.hears .mgt = true ∧ s.ripe (discarded .mgt) .whole = true ∧ (s.frameJudge .whole).2 = true ∧ lineFault (s.strict .mgt) true (rawLine " ") = none ∧
       (rawLine " ").chars.all (· == 0x20) = true) ∧
    (collared (fun c => { c with inBreak := true }) (card [])).col.inBreak = true ∧ ((card []).mute .collar).bannerDone = true ∧ ((card []).mute .collar).t0Runs = true ∧
    (State.reset.mute .collar).bannerDone = false ∧
    State.reset.listens .collar = false ∧ (card []).bannerDone = true ∧ (card []).t0Runs = true ∧ State.reset.bannerDone = false ∧
    (collared (fun c => { c with switchDiv := some 868 }) (card [])).col.switchDiv = some 868 ∧
    (let s := collared (fun c => { c with part := rawLine "ab" }) (card [(SYS_COLCFG.STRICT, 1)])
     s.strict .collar = true ∧ s.col.part ≠ RawLine.empty ∧ s.t0Runs = true ∧ lineFault true false { s.col.part with idle := true } = some .idle) ∧
    (let s := (collared (fun c => { c with part := rawLine "ab" }) (card [])).notify "x" []
     s.strict .collar = false ∧ s.col.part ≠ RawLine.empty ∧ s.col.collar.due ≠ [] ∧ s.col.collar.await = none ∧ s.col.switchDiv = none ∧ s.col.inBreak = false ∧ s.t0Runs = true ∧
       s.col.held = [] ∧ s.replyHeld .collar = false) ∧
    (unsent 3 (collared (fun c => { c with sent := [(.collar, .banner 0)] }) (card [])).col.sent.reverse).1 ≠ [] ∧ (unsent 3 (card []).col.sent.reverse).1 = [] ∧
    (let s := collared (fun c => { c with switchDiv := some 868 }) (card [])
     s.replyHeld .collar = false ∧ (heldBack s).replyHeld .collar = true ∧ (heldBack s).col.switchDiv = some 868) := by decide +kernel

theorem witness_SessionEvents :
    (card []).bannerDone = true ∧ (card []).t0Runs = true ∧ (card []).pathIdle .collar = true ∧ (card []).col.switchDiv = none ∧ (card []).col.inBreak = false ∧
    (card [(SLV_STAT.STATE, 2)]).linkUp = true ∧ (card [(SLV_STAT.STATE, 2)]).pathIdle .mgt = true ∧
    (let s := (card []).setSession .collar { Session.start .operator with await := some { tag := none, what := .journal, sinceUs := 0 } }
     s.pathIdle .collar = false ∧ (s.session .collar).await.isSome = true) ∧
    (let l : RawLine := { RawLine.empty with chars := [0x3D] }
     let s := collared (fun c => { c with held := [l] }) (card [])
     let q (a b : Bool) (x : RawLine) : Bool := x.chars == [0x3D] && x.parity == a && x.framing == b
     s.hears .collar = true ∧ s.isHeld .collar (q false false) = true ∧ s.isHeld .collar (q true false) = false ∧ s.listens .collar = true ∧
       ((s.heard .collar .whole).session .collar).last = none ∧ (owing s).hears .collar = true ∧ (owing s).isHeld .collar (q false false) = true ∧
       (owing s).listens .collar = false ∧
       (collared (fun c => { c with held := [{ l with parity := true }] }) (card [])).isHeld .collar (q true false) = true ∧
       (collared (fun c => { c with held := [{ l with framing := true }] }) (card [])).isHeld .collar (q false true) = true) ∧
    (let s := linkIn .data (card [(SLV_STAT.STATE, 2)])
     s.hears .mgt = true ∧ s.listens .mgt = true ∧ (s.frameJudge .whole).2 = true) ∧ (card []).hears .mgt = false ∧
    (let s := (card []).setSession .collar { Session.start .operator with last := some (true, .bz none) }
     s.listens .collar = true ∧ ((s.heard .collar .whole).session .collar).last = some (true, .bz none)) ∧
    ((inService (card [])).session .collar).role = .service ∧ (((card []).setSession .mgt (Session.start .service)).session .mgt).role = .service ∧
    ((card []).session .collar).role ≠ .service ∧
    (let s := collared (fun c => { c with jobs := [{ num := 1, path := .collar, what := "bist", await := none }] }) (card [])
     s.col.jobs.find? (fun j => j.num == 1) = some { num := 1, path := .collar, what := "bist", await := none }) ∧
    Status.code .done = 0 ∧ Status.done.final = true ∧ Status.ofCode 4095 = none ∧ Status.ofCode Status.badCheck.code = some .badCheck ∧ Status.badCheck.final = false ∧
    (card []).col.ctsNext = none ∧ (card []).col.inBreak = false ∧ (card []).flag SYS_COLCFG.CTS_EN = false ∧ (card []).col.ctsHigh = false ∧
    (card [(SYS_COLCFG.CTS_EN, 1)]).flag SYS_COLCFG.CTS_EN = true ∧ (heldBack (card [(SYS_COLCFG.CTS_EN, 1)])).col.ctsHigh = true ∧ (card []).canonical = true := by decide +kernel

/-! ### Witnesses: the Sleeve -/

def slv (f : Sleeve → Sleeve) (s : State) : State := { s with slv := f s.slv }
/-- A mode of one lane. -/
def oneLane : LinkMode := { LinkMode.none with lanes := 1 }
def sel : Bytes := [2, 1] ++ List.replicate 62 0
/-- A link in its data phase over L0, whose next expected item is 0. -/
def dataCard (l : List (Fld × Nat)) : State :=
  linkIn .data (tenantCard pocket1 queue5 |> flds ([(SLV_FORCE1.MAX_FRAME, 4096), (SLV_STAT.LANES, 1), (SLV_STAT.STATE, 2), (PWR_DSTAT.STATE 17, 3)] ++ l))

theorem witness_SleeveTraining :
    (let s := card []
     let t : State := { s with boot := { s.boot with sleeveHigh := true } }
     s.boot.sleeveHigh = false ∧ t.boot.sleeveHigh = true ∧ t.asleep = false ∧ (State.wakeEvent { s.at 3 with boot := { (s.at 3).boot with sleeveHigh := true } } 3 0 3).asleep = false) ∧
    (linkIn .grtSent (card [])).slv.phase = .grtSent ∧ (card []).slv.phase ≠ .grtSent ∧ 64 ≤ sel.length ∧ sel.getD 0 0 = 2 ∧ sel.getD 1 0 = 1 ∧ (sel.set 1 9).getD 1 0 ≠ 1 ∧
    (linkIn .refused (card [])).slv.phase = .refused ∧ (linkIn .s0 (card [])).slv.phase = .s0 ∧ (linkIn .training (card [])).slv.phase = .training ∧
    (let p : Bytes := [0x12, 0] ++ List.replicate 14 0
     16 ≤ p.length ∧ p.getD 0 0 = 0x12 ∧ (p.getD 1 0).toNat = (linkIn .training (card [])).slv.attempt) ∧
    (linkIn .training (card [])).slv.good = none ∧
    (let v := (slv (fun v => { v with phase := .training, tried := oneLane, okA := some 1, okB := some 1 }) (card [])).slv
     v.good = some 1 ∧ v.tried.lanes &&& 1 = v.tried.lanes) ∧
    (let v := (slv (fun v => { v with phase := .training, tried := { oneLane with lanes := 3 }, okA := some 1, okB := some 3 }) (card [])).slv
     v.good = some 1 ∧ v.tried.lanes &&& 1 ≠ v.tried.lanes) ∧
    (linkIn .passed (card [])).slv.phase = .passed ∧ (linkIn .data (card [])).slv.phase = .data ∧ (linkIn .retrainSent (card [])).slv.phase = .retrainSent ∧
    (dataCard []).slv.phase = .data ∧ ((dataCard []).frameWhole okSlv 4).2 = .accepted ∧ ((dataCard []).frameWhole { okSlv with crcOk := false } 4).2 ≠ .accepted := by decide +kernel

theorem witness_SleeveClockAndLanes :
    (let s := slv (fun v => { v with phase := .data, mode := { oneLane with feat := 2 } }) (card [(SLV_STAT.OWNER, 1)])
     s.slv.phase = .data ∧ s.flag SLV_STAT.OWNER = true ∧ s.slv.mode.feat.testBit 1 = true ∧ s.slv.unacked = [] ∧ s.slv.newItems = [] ∧ s.slv.posted = [] ∧ s.refusals = [] ∧
       s.slv.repDue = false ∧ s.slv.retrainDue = none) ∧
    (card [(SLV_STAT.OWNER, 0)]).flag SLV_STAT.OWNER = false ∧
    (let s := dataCard []
     s.slv.phase = .data ∧ (s.codeSeen (s.rxLanes false) [0]).2 = true ∧ (s.codeSeen (s.rxLanes false) []).2 = false) ∧
    (let s := slv (fun v => { v with phase := .stopped, newItems := [.mgt "x"] }) (card [(PWR_DSTAT.STATE 17, 0)])
     let t : State := { s with boot := { s.boot with sleeveHigh := true } }
     t.squelchArmed = true ∧ (t.wakeEvent 2 0 3).asleep = false ∧ (t.wakeEvent 2 0 3).slv.phase = .stopped ∧ t.slv.phase = .stopped ∧ t.boot.sleeveHigh = true ∧
       t.asleep = false ∧ t.slv.newItems ≠ [] ∧ s.boot.sleeveHigh = false) ∧
    ((linkIn .waking (card [(PWR_STATE.STATE, 3)])).wakeEvent 2 0 3).asleep = true ∧ (linkIn .waking (card [])).slv.bursts < 3 ∧
    3 ≤ (slv (fun v => { v with phase := .waking, bursts := 3 }) (card [])).slv.bursts ∧
    ((card [(PWR_DSTAT.STATE 25, 1)]).at 3).dom (laneDomain 8) = 1 ∧
    (let s := slv (fun v => { v with ownLanes := [0] }) (card [])
     s.slv.ownLanes.contains 0 = true ∧ s.retryOk (laneDomain 0) = true) ∧
    (card [(PWR_DSTAT.STATE 25, 3)]).dom (laneDomain 8) = 3 ∧ (card []).dom (laneDomain 8) ≠ 3 ∧
    2 ≤ ((card [(SLV_STAT.STATE, 2)]).set SLV_CTL.RETRAIN 1).get SLV_STAT.STATE ∧ (card []).slv.retrainDue = none ∧
    (slv (fun v => { v with retrainDue := some 1 }) (card [])).slv.retrainDue.isSome = true ∧ ((card []).set SLV_CTL.RETRAIN 1).get SLV_STAT.STATE < 2 := by decide +kernel

/-- Three copies of ACK E of a Seam hop as their first two data characters. -/
def ackOf (e : Nat) : List (Nat × Nat) := List.replicate 3 (ackChars e)
/-- ACK or REP E with its characters as L0 alone brings it: two data characters of E, and of an ACK the lease. -/
def ctlOf (e : Nat) : List CtlCopy :=
  List.replicate 3 { lane := 0, code := true, args := [some (ackChars e).1, some (ackChars e).2, some (leaseChar 1)] }

theorem witness_SleeveTurns :
    (let u := (((dataCard []).at 3).frameWake.resume).at 3
     u.slv.phase = .data ∧ (u.judge okSlv 64).2 = .accepted ∧ (u.judge { okSlv with seq := 1 } 64).2 ≠ .accepted ∧ (u.judge okSlv 4097).2 ≠ .accepted) ∧
    (dataCard []).frameWake.resume.slv.phase = .data ∧
    (let k := { queue5 with waiting := [{ aRead with opcode := 2 }] }
     let s := linkIn .data (tenantCard pocket1 k |> flds [(SLV_FORCE1.MAX_FRAME, 4096), (SLV_STAT.LANES, 1), (PWR_DSTAT.STATE 17, 3)])
     let v := (s.judge okSlv 64).1
     (s.judge okSlv 64).2 = .accepted ∧ v.execOf 5 0 = none ∧ v.queues.lookup 5 = some k ∧ k.waiting.any (fun c => c.tag == 0 && c.awaitsData) = true ∧
       v.queues.lookup 6 = none ∧ v.execOf 6 0 = none) ∧
    (let s := dataCard []
     (s.frameWhole okSlv 64).2 = .accepted ∧ okSlv.seq % 4096 = s.rxE % 4096 ∧ 2048 ≤ (4095 + 4096 - s.rxE) % 4096 ∧ (2047 + 4096 - s.rxE) % 4096 < 2048 ∧ 2047 % 4096 ≠ s.rxE % 4096) ∧
    (let s := dataCard []
     let u := s.resume.ctlErrs (ctlOf 0)
     s.resume.slv.phase = .data ∧ u.ctlValue [] = none ∧ u.ctlValue (ctlOf 0) = some 0 ∧ u.ackInRange 0 = true ∧ u.ctlValue (ctlOf 4095) = some 4095 ∧ u.ackInRange 4095 = false) ∧
    (let u := ((dataCard []).ctlErrs (ctlOf 0)).ackUndone
     u.ctlValue [] = none ∧ u.ctlValue (ctlOf 0) = some 0 ∧ u.ackInRange 0 = true ∧ u.ctlValue (ctlOf 4095) = some 4095 ∧ u.ackInRange 4095 = false) ∧
    (let s := (dataCard []).resume
     (s.codeSeen (s.rxLanes false) [0]).2 = true ∧ (s.codeSeen (s.rxLanes false) []).2 = false) ∧
    (let s := slv (fun v => { v with backAt := some 0, unacked := [{ seq := 0, item := .mgt "x", sends := 8 }] }) (dataCard [(SLV_STAT.OWNER, 1), (SLV_FORCE0.TURN_MAX_FRAMES, 4)])
     s.slv.backAt.isSome = true ∧ s.slv.unacked.any (fun x => 8 ≤ x.sends) = true ∧ s.flag SLV_STAT.OWNER = true ∧ ((s.at 3).planTurn (min ((s.at 3).get SLV_FORCE0.TURN_MAX_FRAMES) 4)).ninth = true) ∧
    (card []).slv.unacked.any (fun x => 8 ≤ x.sends) = false ∧
    (let s := dataCard [(SLV_STAT.OWNER, 1)]
     s.slv.phase = .data ∧ s.flag SLV_STAT.OWNER = true ∧ s.slv.okFirst = false ∧ (slv (fun v => { v with retrainDue := some 1 }) s).slv.retrainDue = some 1 ∧ s.slv.retrainDue = none ∧
       ((s.at 3).planTurn 4).ninth = false ∧ s.slv.posted = [] ∧ s.refusals = [] ∧ s.slv.newItems = [] ∧ s.slv.backAt = none ∧ s.slv.txNext < 4096) ∧
    (card []).slv.phase ≠ .data := by decide +kernel

/-! ### Witnesses: dispatch, cache and flash -/

/-- The choice of the arbiter, the lookups and what the checks of R341 answer, as one test. -/
def picksB (s : State) (op : Nat) (bulk : Nat → Cmd → State → Bool) (st : Option Status) : Bool :=
  match s.select with
  | none => false
  | some (v, q, c) =>
    match v.queues.lookup q with
    | none => false
    | some k => c.opcode == op && !v.nonceHolds c && v.dispatchFault k.pocket c (bulk k.pocket c v) == st

theorem picks_of {s : State} {op : Nat} {bulk : Nat → Cmd → State → Bool} {st : Option Status} (h : picksB s op bulk st = true) :
    ∃ v q c k, s.select = some (v, q, c) ∧ v.queues.lookup q = some k ∧ c.opcode = op ∧ v.nonceHolds c = false ∧
      v.dispatchFault k.pocket c (bulk k.pocket c v) = st := by
  unfold picksB at h
  split at h
  · exact absurd h (by simp)
  · rename_i v q c hs
    split at h
    · exact absurd h (by simp)
    · rename_i k hk
      simp only [Bool.and_eq_true, Bool.not_eq_true', beq_iff_eq] at h
      exact ⟨v, q, c, k, hs, hk, h.1.1, h.1.2, h.2⟩

/-- Queue Q0005 with a command in front; keys of P001 in slots 1 (XTS) and 2 (GMAC); cipher domains in service. -/
def asks (c : Cmd) (limit : Nat) (l : List (Fld × Nat)) : State :=
  let s := flds ([(PWR_DSTAT.STATE 33, 3), (PWR_DSTAT.STATE 5, 3)] ++ l) (tenantCard pocket1 { queue5 with waiting := [c] })
  { s with keys := { s.keys with slots := [(1, loaded 1 (List.replicate 64 1#8)), (2, loaded 3 (List.replicate 16 2#8))], limit := limit } }
def cmdOf (op flags : Nat) : Cmd := { aRead with opcode := op, flags := flags, dkey := 1, ikey := 2, handle := if op = 6 then 1 * 2 ^ 48 else 0, count := 1, received := 4096 }

theorem witness_OpcodeDispatch :
    picksB ((asks (cmdOf 1 0) 4 []).at 3) 1 State.readNeedsBulk none = true ∧ picksB ((asks (cmdOf 2 8) 4 []).at 3) 2 (fun _ _ _ => true) none = true ∧
    picksB ((asks (cmdOf 3 0) 4 []).at 3) 3 (fun _ _ _ => false) none = true ∧ picksB ((asks (cmdOf 4 0) 4 []).at 3) 4 (fun _ _ _ => false) none = true ∧
    picksB ((asks (cmdOf 5 0) 4 []).at 3) 5 (fun _ _ _ => false) none = true ∧ picksB ((asks (cmdOf 6 0) 4 []).at 3) 6 State.readNeedsBulk none = true ∧
    picksB ((asks (cmdOf 7 8) 4 []).at 3) 7 (fun _ _ _ => false) none = true ∧ ((card []).at 3).select = none := by decide +kernel

/-- The same with a key slot that is empty, the key vault off, or a card in READONLY; a WRITE that waits for a nonce. -/
theorem witness_OpcodeDispatch_fails :
    picksB ((asks { cmdOf 1 0 with dkey := 9 } 4 []).at 3) 1 State.readNeedsBulk (some .keyEmpty) = true ∧
    picksB ((asks (cmdOf 2 0) 4 [(MOV_STAT.READONLY, 1)]).at 3) 2 (fun _ _ _ => true) (some .wrongState) = true ∧
    picksB ((asks (cmdOf 3 0) 4 [(PWR_DSTAT.STATE 37, 0)]).at 3) 3 (fun _ _ _ => false) (some .domainOff) = true ∧
    picksB ((asks (cmdOf 4 0) 4 [(PWR_DSTAT.STATE 37, 0)]).at 3) 4 (fun _ _ _ => false) (some .domainOff) = true ∧
    picksB ((asks { cmdOf 5 8 with ikey := 9 } 4 []).at 3) 5 (fun _ _ _ => false) (some .keyEmpty) = true ∧
    picksB ((asks { cmdOf 6 0 with dkey := 9 } 4 []).at 3) 6 State.readNeedsBulk (some .keyEmpty) = true ∧
    picksB ((asks { cmdOf 7 8 with ikey := 9 } 4 []).at 3) 7 (fun _ _ _ => false) (some .keyEmpty) = true ∧
    ((asks (cmdOf 2 8) 0 []).at 3).select.any (fun x => x.2.2.opcode == 2 && x.1.nonceHolds x.2.2 && !x.2.2.nwait) = true := by decide +kernel

/-- A command in execution. -/
def anExec (c : Cmd) : Exec :=
  { id := 0, queue := 5, pocket := 1, cmd := c, level := 1, through := false, baste := true, dkey := none, ikey := none, nonce := 0, unit512 := false,
    blks := [], unset := [], delta := none, mirrorAt := none, tseq := none, mirrored := false, hit := false, lastBasted := some 10, begun := false }
def running (x : Exec) (s : State) : State := { s with execs := [x], execNext := 1 }
def noBlk : Blk := { codec := .good, pass := .none, data := [], plain := [], check := none, ppa := none, posted := false, pulled := false, sent := false, again := false, place := .nowhere }

theorem witness_OpcodeDispatch_ends : (anExec { cmdOf 2 0 with bad := true }).cmd.bad = true := by decide +kernel

/-- Sixteen dies on C00 to C15 of group 0, their quads and pool in service; Bolt (0, 20) is open with BOLT_SEQ 7. -/
def dieAt (ch : Nat) : Die :=
  { ch := ch, pos := 0, ident := 0, iface := 1, rate := 0, planes := 1, wlPages := 1, pages := 2, blocks := 22, spare := 1024, tmax := 0, offsets := false, excluded := false }
def boltIn (st : BoltState) (u : BoltUse) : Bolt :=
  { group := 0, idx := 20, state := st, use := u, seq := 7, t := 16, present := List.range 16, toErase := [], rows := 2, planes := 1, next := 0,
    rowsDone := [], bare := [], closing := false, bad := [], learnt := true, moved := 0 }
def flashed (f : Flash → Flash) (s : State) : State := { s with flash := f s.flash }
def flashCard (l : List (Fld × Nat)) (bs : List Bolt) : State :=
  flashed (fun f => { f with dies := (List.range 16).map dieAt, bolts := bs })
    (flds ([(PWR_DSTAT.STATE 1, 3), (PWR_DSTAT.STATE 2, 3), (PWR_DSTAT.STATE 3, 3), (PWR_DSTAT.STATE 4, 3), (PWR_DSTAT.STATE 45, 3)] ++ l) (tenantCard pocket1 queue5))
def thePage : Nat := mkPpa 0 0 0 20 0
/-- The codeword of Stitch 1 of P001 at place `j` with the BOLT_SEQ `seq`. -/
def wordOf (seq j : Nat) : Bytes := zeroBlock ++ metaBytes 1 1 (4 + j) 0 none seq
/-- The same with Stitch 1 of P001 mapped there and its page programmed. -/
def mappedCard (l : List (Fld × Nat)) (b : Bolt) : State :=
  flashed (fun f => { f with map := [(mapKey 1 1, mkEntry 15 thePage)], pages := [(thePage, (List.range 4).map (wordOf 7))] }) (flashCard l [b])
def cached (f : Cache → Cache) (s : State) : State := { s with cache := f s.cache }
def aDirty (k : LineKind) : CacheEntry :=
  { pocket := 1, lba := 4, kind := k, data := [], check := none, used := 0, filled := 0, prog := false, old := false, poison := false, owners := [], writer := 0, place := .nowhere }
def reduced : PocketChange := { size := 1, cls := .normal, weight := 1, limit := 256, unit512 := false }

theorem witness_PocketAndCacheEnds :
    (let k := { pocket1 with change := some reduced }
     let s := tenantCard k queue5
     let t := tenantCard k { queue5 with waiting := [aRead] }
     s.pockets.lookup 1 = some k ∧ k.change = some reduced ∧ s.anyBeyond 1 1 = false ∧ s.usedFrom 1 1 = false ∧ (s.changePocket 1 k reduced).isSome = true ∧
       t.pockets.lookup 1 = some k ∧ t.anyBeyond 1 1 = true ∧
       (cached (fun c => { c with entries := [aDirty .dirty] }) s).usedFrom 1 1 = true ∧ (cached (fun c => { c with entries := [aDirty .dirty] }) s).anyBeyond 1 1 = false) ∧
    (let k := { pocket1 with state := .deleting, delStep := 5 }
     let s := tenantCard k queue5
     s.pockets.lookup 1 = some k ∧ k.state = .deleting ∧ 5 ≤ k.delStep ∧ (s.queues.filter (fun q => q.2.pocket == 1)).all (fun q => s.queueIdle q.1 q.2) = true ∧ s.pockets.lookup 2 = none ∧
       s.ready = true ∧ ({ s with boot := { s.boot with ready := false } } : State).ready = false) ∧
    (let q := { queue5 with state := .draining }
     let s := tenantCard pocket1 q
     s.queues.lookup 5 = some q ∧ s.pockets.lookup q.pocket = some pocket1 ∧ pocket1.state ≠ .deleting ∧ q.state = .draining ∧ s.queueIdle 5 q = true ∧ queue5.state = .opened) ∧
    (let x := anExec aRead
     let s := running x (tenantCard pocket1 queue5)
     (s.at 50010).execOf 5 0 = some x ∧ x.lastBasted = some 10) ∧
    (card []).cache.wanted.contains (1, 4) = false ∧
    (let s := cached (fun c => { c with wanted := [(1, 4)] }) (mappedCard [(CCH_CFG.PF_EN, 1), (SYS_BOOTSTAT.STAGING, 0)] (boltIn .full .host))
     s.cache.wanted.contains (1, 4) = true ∧ s.hostReads (ppaCh (entryPpa (s.entry 1 (4 / 4)))) = false ∧ entryPpa (s.entry 1 (4 / 4)) = thePage ∧
       (entryValid (s.entry 1 (4 / 4))).testBit (4 % 4) = true ∧
       (s.pockets.lookup 1).map (fun k => k.state) = some .active ∧ s.staging = false ∧ s.flag CCH_CFG.PF_EN = true ∧ s.flashReadable (ppaCh thePage) = true ∧
       (let u := { s with cache := { s.cache with wanted := s.cache.wanted.filter (fun w => w ≠ (1, 4)) } }
        let s0 := (u.cross 0 4096).learn thePage (4 % 4) []
        let r := s0.decodeRead thePage (4 % 4) []
        (((s0.countLap thePage (4 % 4) r).countCorrected thePage (4 % 4) r).right thePage (4 % 4) r).map (fun x => decide (cwFormat x.1 ≠ 7)) = some true)) ∧
    (let s := running { anExec aRead with blks := [{ noBlk with codec := .media thePage 0 }] } (mappedCard [] (boltIn .full .host))
     s.hostReads (ppaCh (entryPpa (s.entry 1 (4 / 4)))) = true) ∧
    (let s := flashCard [] [boltIn .opened .host]
     s.bolt 0 20 = some (boltIn .opened .host) ∧ s.flushRank 1 1 = none ∧ s.bolt 0 21 = none) ∧
    (let s := cached (fun c => { c with urgent := true, entries := [aDirty .dirty, { aDirty .through with lba := 0 }] }) (flashCard [] [boltIn .opened .host])
     s.flushRank 1 1 = some 1 ∧ s.flushBefore 1 = true) ∧
    (let b := boltIn .opened .host
     let s := cached (fun c => { c with entries := [aDirty .through] }) (flashCard [] [b])
     s.bolt 0 20 = some b ∧ b.use = .host ∧ b.room = true ∧ s.flushRank 1 1 = some 0 ∧ s.flushBefore 0 = false ∧ s.stitchBusy 1 1 = false ∧ s.segAbsent (s.segOf 1 1) = false) := by decide +kernel

def aProg (ch : Nat) : Prog := { ppa := mkPpa ch 0 0 20 0, group := 0, idx := 20, row := 0, kind := .pad, page := [] }

theorem witness_BoltsAndMap :
    ((card [(PWR_DSTAT.STATE 16, 1)]).at 3).dom (15 + 1) = 1 ∧
    (let s := flashed (fun f => { f with ownQuads := [15] }) (card [])
     s.flash.ownQuads.contains 15 = true ∧ s.retryOk (15 + 1) = true) ∧
    (let s := flashCard [] []
     s.boltFree 0 20 = true ∧ s.mayOpen 0 .host = true ∧ 16 ≤ (s.positions 0 20 true).length ∧ s.boltFree 0 22 = false) ∧
    (let b := { boltIn .erasing .host with toErase := [3] }
     let s := flashCard [] [b]
     s.bolt 0 20 = some b ∧ b.state = .erasing ∧ b.toErase.contains 3 = true ∧ b.toErase.filter (fun c => c ≠ 3) = []) ∧
    (let b := { boltIn .erasing .host with toErase := [3, 4] }
     (flashCard [] [b]).bolt 0 20 = some b ∧ b.toErase.contains 3 = true ∧ b.toErase.filter (fun c => c ≠ 3) ≠ []) ∧
    (let s := flashed (fun f => { f with progs := [aProg 5] }) (flashCard [] [boltIn .opened .host])
     s.lineFilled (mkPpa 5 0 0 20 0) = true ∧ (s.boltAt (mkPpa 5 0 0 20 0)).isSome = true ∧ s.lineFilled (mkPpa 6 0 0 20 0) = false) ∧
    (let b := boltIn .victim .host
     let s := flashCard [] [b]
     s.bolt 0 20 = some b ∧ b.state = .victim ∧ s.validIn 0 20 = [] ∧ b.moved = 0 ∧ s.readsIn 0 20 = false) ∧
    (let b := boltIn .full .host
     (flashCard [] [b]).bolt 0 20 = some b ∧ b.state ≠ .victim) ∧
    (let g := { aSeg false with reading := true }
     (withSegs [(4, g)] (flashCard [] [])).seg 4 = some g ∧ g.reading = true ∧ (aSeg false).reading = false ∧ (withSegs [(4, aSeg false)] (flashCard [] [])).seg 4 = some (aSeg false) ∧ (aSeg false).dirty = false) ∧
    (let g := { aSeg true with dirty := true }
     let s := withSegs [(0, g)] (flashCard [] [boltIn .opened .map])
     s.seg 0 = some g ∧ s.segOwner 0 = some (1, 0) ∧ (s.openBolts .map).head? = some (boltIn .opened .map) ∧ (s.openBolts .map) ≠ [] ∧ 0 < (s.at 30000000).dirtySegs ∧
       s.flash.ckptUs + 30000000 ≤ 30000000 ∧ s.flash.ckptRuns = none) ∧
    (let s := flashed (fun f => { f with ckptRuns := some aCkpt }) (flashCard [] [boltIn .opened .map])
     (s.at 3).flash.ckptRuns = some aCkpt ∧ aCkpt.segs.any (fun e => ((s.at 3).seg e).isSome) = false ∧ ((s.at 3).openBolts .map) ≠ [] ∧ aCkpt.own = false ∧ ({ aCkpt with own := true }).own = true ∧
       s.dirtySegs = 0) := by decide +kernel

/-- Two erase counts further apart than the least spread. -/
def worn (s : State) : State := flashed (fun f => { f with erases := [(lunBlock 0 0 16, 52), (lunBlock 0 0 17, 1)] }) s

theorem witness_FlashUpkeep :
    (flashed (fun f => { f with formatting := true }) (card [])).quiesced = true ∧ ((flashed (fun f => { f with formatting := true }) (card [])).at 3).quiesced = true ∧ (card []).quiesced = false ∧
    (let s := flashed (fun f => { f with dies := f.dies.map (fun d => { d with blocks := 20 }) }) (flashCard [(MOV_GC.START, 3)] [])
     s.gcStartAt ≤ s.freeBolts) ∧
    (let b := boltIn .full .host
     let s := mappedCard [(MOV_GC.START, 64)] b
     s.quiesced = false ∧ s.freeBolts < s.gcStartAt ∧ s.flash.bolts.filter (fun b => b.state == .full && (b.bare != [] || decide (s.liveIn b < b.rows * b.width)) && (s.canCopy || s.liveIn b == 0)) = [b]) ∧
    (let s := card []
     s.freeBolts ≤ 2 ∧ s.freeBolts < s.gcStartAt ∧ s.flag MOV_STAT.READONLY = false ∧ s.flash.bolts = []) ∧
    (let s := worn (flashCard [(MOV_WL.SPREAD, 50)] [boltIn .full .host])
     leastBy (fun n => n) (s.groupErases 0) = some 0 ∧ 0 + clamp 50 10000 (s.get MOV_WL.SPREAD) < (s.groupErases 0).foldl max 0 ∧
       s.flash.bolts.filter (fun b => b.state == .full && b.group == 0) = [boltIn .full .host]) ∧
    (let r : Reloc := { pocket := 1, stitch := 1, ppa := thePage, poison := [], copying := false }
     let s := flashed (fun f => { f with relocs := [r] }) (mappedCard [] (boltIn .opened .gc))
     s.quiesced = false ∧ s.flash.relocs.find? (fun r => !r.copying) = some r ∧ (s.openBolts .gc).find? (fun b => b.room) = some (boltIn .opened .gc) ∧ s.entry 1 1 ≠ 0 ∧ s.entry 1 0 = 0) ∧
    (card []).flash.relocs = [] ∧
    (let s := (card [(ECC_CFG.PATROL_EN, 1)]).at 3
     let t := (flashed (fun f => { f with patrolPos := 1 }) (card [(ECC_CFG.PATROL_EN, 1)])).at 3
     s.ready = true ∧ s.asleep = false ∧ s.quiesced = false ∧ s.flag ECC_CFG.PATROL_EN = true ∧ s.patrolNext = none ∧ s.flash.patrolPos = 0 ∧
       t.patrolNext = none ∧ t.flash.reads = [] ∧ 0 < t.flash.patrolPos) ∧
    (let s := (mappedCard [(ECC_CFG.PATROL_EN, 1)] (boltIn .full .host)).at 3
     s.ready = true ∧ s.asleep = false ∧ s.quiesced = false ∧ s.flag ECC_CFG.PATROL_EN = true ∧ s.patrolNext = some (7 * 2 ^ 32, thePage) ∧ s.channelBusy (ppaCh thePage) = false ∧
       s.flag PWR_STATE.IDLE_ARM = false) ∧
    (let s := (card [(ECC_CFG.PATROL_EN, 1), (ECC_FPATROL.WARN_H, 24)]).at 86400000001
     s.ready = true ∧ s.flag ECC_CFG.PATROL_EN = true ∧ s.flash.lapWarned = false ∧ 3600000000 * clamp 24 8760 (s.get ECC_FPATROL.WARN_H) < 86400000001 - s.flash.lapStart) ∧
    (flashed (fun f => { f with lapWarned := true }) (card [])).flash.lapWarned = true ∧
    (let s := (flashed (fun f => { f with formatting := true }) (card [])).at 3
     s.flash.formatting = true ∧ s.ready = true) ∧ ((card []).at 3).flash.formatting = false := by decide +kernel

def aRecov (step : Nat) : Recovery := { ppa := thePage, failing := [0], step := step, since := 0 }

theorem witness_FlashRecovery :
    (flashed (fun f => { f with reads := [thePage] }) (flashCard [] [])).flash.reads.contains thePage = true ∧
    (let s := running { anExec aRead with blks := [{ noBlk with codec := .media thePage 0 }] } (flashCard [] [])
     (s.at 3).waitersAt (.media thePage 0) ≠ [] ∧ (s.at 3).flash.reads.contains thePage = false) ∧ ((card []).at 3).waitersAt (.media thePage 0) = [] ∧
    (let s := flashed (fun f => { f with recov := [aRecov 1] }) (mappedCard [] (boltIn .full .host))
     (s.at 3).flash.recov.find? (fun r => r.ppa == thePage) = some (aRecov 1) ∧ (aRecov 1).step ≠ 0 ∧ (aRecov 1).since + 40000 ≤ 40000) ∧
    (card []).flash.recov.find? (fun r => r.ppa == thePage) = none ∧
    (let s := flashed (fun f => { f with recov := [aRecov 0] }) (mappedCard [] (boltIn .full .host))
     (s.at 3).boltAt thePage = some (boltIn .full .host) ∧ (aRecov 0).step = 0 ∧ (s.at 3).rowClosed thePage = false ∧ (boltIn .full .host).present.all (fun c => (s.at 3).flashReadable c || c == ppaCh thePage) = true) ∧
    (let s := flashed (fun f => { f with recov := [aRecov 0] }) (mappedCard [(PWR_DSTAT.STATE 4, 0)] (boltIn .full .host))
     (boltIn .full .host).present.all (fun c => (s.at 3).flashReadable c || c == ppaCh thePage) = false) ∧
    (let b := { boltIn .full .host with present := [0, 1], rowsDone := [0] }
     let s (seq : Nat) : State := flashed (fun f => { f with recov := [aRecov 0], pages := [(mkPpa 1 0 0 20 0, (List.range 4).map (wordOf seq))] }) (flashCard [] [b])
     let u (seq : Nat) : State := (s seq).at 3
     (u 7).flash.recov.find? (fun r => r.ppa == thePage) = some (aRecov 0) ∧ (u 7).boltAt thePage = some b ∧ (u 7).rowClosed thePage = true ∧
       b.present.all (fun c => (u 7).flashReadable c || c == ppaCh thePage) = true ∧ ((u 7).readRow thePage [] ((u 7).rowOthers b thePage)).2.isSome = true ∧
       (u 8).rowClosed thePage = true ∧ ((u 8).readRow thePage [] ((u 8).rowOthers b thePage)).2 = none) := by decide +kernel

/-! ### Witnesses: access checks and DRAM -/

/-- T1 in service with its MPU on: P1 may read and write through region 8, shared SRAM. -/
def p1Card (l : List (Fld × Nat)) : State := card ([(PWR_DSTAT.STATE 50, 3)] ++ l)
def withExt (s : State) : State := { s with access := { s.access with ext := some (extImage, 5) }, keys := (extCard extImage).keys }
def accessed (f : Access → Access) (s : State) : State := { s with access := f s.access }

theorem witness_AccessEvents :
    (let s := (p1Card [(MPU_CTL.EN 1, 1)]).at 3
     s.domIn (49 + 1) = true ∧ s.coreRefused 1 true 2 0x40000000 = true) ∧
    (let s := (p1Card []).at 3
     s.coreRefused 1 false 0 0x40000000 = false ∧ s.domIn (49 + 0) = true) ∧
    (let s := accessed (fun a => { a with ext := some ([], 5) }) (p1Card [])
     s.extMayStart = true ∧ s.flag (MPU_CTL.P1ACT 1) = false ∧ s.access.ext = some ([], 5) ∧ s.haltExt.extCheck [] 5 = some .badArg) ∧
    (card []).extMayStart = false ∧ (p1Card []).access.ext = none ∧ (p1Card []).dom (49 + 1) ≠ 0 ∧ (p1Card []).domIn 50 = true ∧
    (let s := card dramOn
     let t : State := { s with dram := { s.dram with carve := [{ name := "cache", base := 0, size := 4096 }] } }
     let u := t.setOn 1 TAG_WCTL.VALUE 0xFF
     t.inCarve "cache" (64 * u.getOn 1 TAG_WADDR.LINE) = true ∧ s.inCarve "cache" 0 = false ∧ s.inCarve "inbound" 0 = false ∧ 0 < s.dramSize ∧ s.drcServes 0 = true ∧
       (s.set TAG_TBASE0.BASE_4K 1).inTagStore (s.chanOf 0).1 (s.chanOf 0).2 = false) ∧
    (let s := keyCard [] []
     let t : State := { s with keys := { s.keys with image := [(7, loaded 3 [])] } }
     t.keys.image.lookup 7 = some (loaded 3 [])) ∧ (card []).boot.romErrs = 0 := by decide +kernel

theorem witness_AccessEvents_start :
    (withExt (p1Card [])).extMayStart = true ∧ (withExt (p1Card [])).flag (MPU_CTL.P1ACT 1) = false ∧ (withExt (p1Card [])).haltExt.extCheck extImage 5 = none := by decide +kernel

def dramCard (l : List (Fld × Nat)) : State := card (dramOn ++ [(TAG_TBASE0.BASE_4K, 2 ^ 20)] ++ l)
def channel (f : DramCh → DramCh) (s : State) : State := s.setDrc 0 (f (s.drc 0))
def aReq (o : Owner) : DReq :=
  { id := 0, port := 0, line := 3, arrived := 0, target := 100, deadline := true, missed := false, hint := false, owner := o, fwd := [], data := [], poison := false }
def aMerge : MergeEntry := { line := 3, bytes := [], since := 0, used := 0, port := 0, owner := .command 5 0, hint := false, writers := [] }

theorem witness_DramTraffic :
    0x3ff000 / 4096 < 1024 ∧ (card []).colourOf (.command 5 0) = 0 ∧ colourPasses (.command 5 0) 0 ((card []).granuleColour 1023) = true ∧
    (tenantCard pocket1 queue5).colourOf (.command 5 0) = 1 ∧ colourPasses (.command 5 0) 1 ((tenantCard pocket1 queue5).granuleColour 1023) = false ∧
    (let s := (dramCard []).at 3
     s.chanOf 192 = (0, 192) ∧ s.drcServes 0 = true ∧ 192 < s.dramSize ∧ s.inTagStore 0 192 = false ∧ exempt 7 .tags = true ∧ exempt 0 (.command 5 0) = false ∧
       s.inTagStore 0 (2 ^ 32) = true ∧ 2 ^ 32 < s.dramSize ∧
       ((s.tagFetch 0 192 .none).2.map (fun t => (colourPasses (.command 5 0) 0 (t.bytes.getD (192 / 64 % 64) 0), colourPasses (.command 5 0) 1 (t.bytes.getD (192 / 64 % 64) 0)))) = some (true, false) ∧
       s.writeRoom 0 (192 / 64) (fullMask []) = true ∧ (s.tagFetch 0 192 { syms := [0, 8, 16, 24, 32], devs := [], miss := false }).2 = none) ∧
    (let s := channel (fun c => { c with merge := (List.range 32).map (fun k => { aMerge with line := 100 + k }), wq := (List.range 64).map (fun k => { aReq .scrub with line := 200 + k }) }) (dramCard [])
     s.writeRoom 0 (192 / 64) (fullMask []) = false) ∧
    (let s := (channel (fun c => { c with reads := [aReq (.command 5 0)] }) (dramCard [])).at 0
     s.drcServes 0 = true ∧ ((s.countMisses 0 5).pickReq 0 ((s.countMisses 0 5).drainsWrites 0 5) 5).isSome = true) ∧
    (let s := (dramCard []).at 0
     ((s.countMisses 0 5).pickReq 0 ((s.countMisses 0 5).drainsWrites 0 5) 5) = none) ∧
    (let s := (channel (fun c => { c with issued := [aReq (.command 5 0)] }) (dramCard [])).at 3
     (s.drc 0).issued = aReq (.command 5 0) :: [] ∧ (aReq (.command 5 0)).owner ≠ .scrub ∧ ((s.setDrc 0 { s.drc 0 with issued := [] }).decodeLine 0 3 .none false).2 = .good) ∧
    (((dramCard []).at 3).drc 0).issued = [] ∧
    (let s := (channel (fun c => { c with merge := [aMerge] }) (dramCard [])).at 2
     (s.drc 0).merge.find? (fun m => m.line == 3) = some aMerge ∧ aMerge.since + 2000 ≤ 2000 ∧ s.wqRoom 0 3 = true) := by decide +kernel

def aMigration (next : Nat) : Migration := { src := 0, dst := 2, logical := 0, next := next }

theorem witness_DramUpkeep :
    (dramCard []).drcServes 0 = true ∧ ((dramCard [(DRC_CFG.PAGE 0, 0)]).drc 0).closePage ≠ (dramCard [(DRC_CFG.PAGE 0, 0)]).flag (DRC_CFG.PAGE 0) ∧
    ((dramCard [(DRC_CFG.PAGE 0, 1)]).drc 0).closePage = (dramCard [(DRC_CFG.PAGE 0, 1)]).flag (DRC_CFG.PAGE 0) ∧
    ((((card []).at 3).count (DRC_ERR.ALERT 1) 1).drc 1).alertUs = none ∧
    (((channel (fun c => { c with alertUs := some 5 }) (card [])).at 3).drc 0).alertUs = some 5 ∧
    (let s := channel (fun c => { c with migration := some (aMigration 0) }) (dramCard [])
     s.drcServes 0 = true ∧ s.removing = false ∧ (s.drc 0).migration = some (aMigration 0) ∧ 0 < s.chLines 0 ∧ (s.decodeLine 0 0 .none false).2 = .good) ∧
    ((dramCard []).drc 0).migration = none ∧
    (let s := channel (fun c => { c with migration := some (aMigration (2 ^ 28)) }) (dramCard [])
     s.removing = false ∧ s.chLines 0 ≤ 2 ^ 28 ∧ (s.drc 0).migration = some (aMigration (2 ^ 28)) ∧ (s.drc 0).failing = []) ∧
    (let s := channel (fun c => { c with shrink := some 1 }) (dramCard [])
     s.flag SYS_BOOTSTAT.REPLAY = false ∧ (s.drc 0).shrink = some 1) ∧ (card [(SYS_BOOTSTAT.REPLAY, 1)]).flag SYS_BOOTSTAT.REPLAY = true ∧
    (let s := card [(DRC_STAT.TRAIN 1, 1), (PWR_DSTAT.STATE 31, 3)]
     s.get (DRC_STAT.TRAIN 1) = 1 ∧ s.domIn (29 + 2 * 1) = true) ∧ (dramCard []).get (DRC_STAT.TRAIN 0) ≠ 1 := by decide +kernel

/-! ### Witnesses: ciphers and keys -/

def keyed (f : Keys → Keys) (s : State) : State := { s with keys := f s.keys }
def cipherCard (b : Blk) (busy : List Nat) : State :=
  keyed (fun k => { k with coreBusy := busy }) (running { anExec aRead with blks := [b] } (flds [(PWR_DSTAT.STATE 36, 3)] (tenantCard pocket1 queue5)))

theorem witness_CipherEvents :
    (let b := { noBlk with pass := .wait false }
     let s := cipherCard b []
     s.pairsTaking.contains (coreDomain 7) = true ∧ s.keys.coreBusy.contains 7 = false ∧ s.nextBlk = some ({ anExec aRead with blks := [b] }, 0, b)) ∧
    (cipherCard noBlk []).pairsTaking.contains (coreDomain 0) = false ∧ (cipherCard noBlk [7]).keys.coreBusy.contains 7 = true ∧ (cipherCard noBlk []).nextBlk = none ∧
    (let b := { noBlk with pass := .core true 7 }
     let s := cipherCard b [7]
     s.coreBlk 7 = some ({ anExec aRead with blks := [b] }, 0)) ∧
    (cipherCard { noBlk with pass := .core false 7 } [7]).coreBlk 7 = some ({ anExec aRead with blks := [{ noBlk with pass := .core false 7 }] }, 0) ∧
    (cipherCard { noBlk with pass := .stale 7 } [7]).coreBlk 7 = some ({ anExec aRead with blks := [{ noBlk with pass := .stale 7 }] }, 0) ∧
    (card []).execOf 5 0 = none ∧
    (let s := keyed (fun k => { k with nonce := 0, limit := 2 ^ 18 }) (card [(PWR_DSTAT.STATE 5, 3)])
     s.keys.reserving = false ∧ s.noReservation = false ∧ s.keys.limit ≤ s.keys.nonce + 2 ^ 18) ∧
    (let s := keyed (fun k => { k with nonce := 0, limit := 2 ^ 18 + 1 }) (card [(PWR_DSTAT.STATE 5, 3)])
     s.keys.nonce + 2 ^ 18 < s.keys.limit) ∧
    (keyed (fun k => { k with reserving := true }) (card [])).keys.reserving = true ∧ ((card [(PWR_DSTAT.STATE 36, 1)]).at 3).dom (33 + 3) = 1 := by decide +kernel

/-- A block whose tag is wrong on its last and on its first reading; an empty block of an all-zero key has the tag that GHASH gives it. -/
theorem witness_CipherEvents_tags :
    (let c : Check := { tag := List.replicate 16 0, count := 0 }
     let b (fin : Bool) : Blk := { noBlk with codec := .mac fin, check := some c }
     let x (fin : Bool) : Exec := { anExec aRead with blks := [b fin], ikey := some (List.replicate 16 0) }
     let s (fin : Bool) : State := running (x fin) (tenantCard pocket1 queue5)
     ∀ fin : Bool, (s fin).execOf 5 0 = some (x fin) ∧ (x fin).blks[0]? = some (b fin) ∧ (b fin).codec = .mac fin ∧ (b fin).check = some c ∧
       ((s fin).reread (x fin) 0 (b fin)).codec ≠ .flush) ∧
    blockTag (List.replicate 16 0) 0 0 1 4 [] ≠ padTo 16 (List.replicate 16 (0 : BitVec 8)) ∧
    (∃ t : Bytes, blockTag (List.replicate 16 0) 0 0 1 4 [] = padTo 16 t) := by
  refine ⟨by decide +kernel, by decide +kernel, blockTag (List.replicate 16 0) 0 0 1 4 [], by decide +kernel⟩

def anUpdate : KeyUpdate := { slot := 3, content := none, startUs := 0, line := false, clears := [], kv := [], data := [] }

theorem witness_KeyEvents :
    (let s := keyed (fun k => { k with drains := [(3, 0)] }) (card [])
     s.keys.drains.lookup 3 = some 0 ∧ s.latchesOf 3 = [] ∧ (s.at 2000).keys.drains.lookup 3 = some 0) ∧
    (let s := running { anExec { aRead with ikey := 3, flags := 8 } with ikey := some [] } (keyed (fun k => { k with drains := [(3, 0)] }) (card []))
     s.latchesOf 3 ≠ []) ∧
    (let s := keyed (fun k => { k with update := some anUpdate }) (card [])
     (s.at 25000).keys.update = some anUpdate ∧ anUpdate.startUs + 25000 ≤ 25000) ∧
    (card []).keys.update = none ∧ (card []).keys.waiting = [] ∧ ((keyed (fun k => { k with erasing := true }) (card [])).at 3).keys.erasing = true ∧ ((card []).at 3).keys.erasing = false ∧
    (let s := keyCard [(511, { loaded 7 (List.replicate 16 0) with owner := 0 })] []
     s.domIn 37 = true ∧ s.keys.slots.lookup 511 = some { loaded 7 (List.replicate 16 0) with owner := 0 } ∧ s.keys.slots.lookup 0 = none) ∧ (card []).domIn 37 = false := by decide +kernel

/-! ### Witnesses: the Lining, removal, domains and power -/

def lined (f : Lining → Lining) (s : State) : State := s.setLin (f s.lin)
/-- A card whose AON row of the ladder is done. -/
def aonCard (l : List (Fld × Nat)) : State := let s := card l; { s with boot := { s.boot with done := [.release, .aon, .banner] } }
def powered (f : Pwr → Pwr) (s : State) : State := { s with pwr := f s.pwr }
def volts (v : Int) (us : Nat) (s : State) : State := lined (fun l => { l with vocs := [(us, v)] }) s

theorem witness_LiningEvents :
    (card []).boot.done.contains .aon = false ∧ ((aonCard []).at 5).linRuns = true ∧
    (let s := (aonCard [(LIN_STAT.STATE, 4)]).at 5
     let v := s.setLin { s.lin with vocs := s.lin.vocs.filter (fun x => decide (5 < x.1 + 1000)) ++ [(5, (10000 * 4500 : Nat) - 250 * (if s.lin.esrUs.isSome then (s.get LIN_ESR.EST : Int) else 0))] }
     (((v.set LIN_VI.I_MA (signed16 250)).setSat LIN_VI.VOC_MV v.vocMv).set LIN_TEMP.T_DC (signed16 (-200))).get LIN_STAT.STATE = 4) ∧
    (let s := (aonCard [(LIN_STAT.STATE, 1)]).at 10000
     s.get LIN_STAT.STATE = 1 ∧ s.lin.softUs + 10000 ≤ 10000) ∧
    (let s := (lined (fun l => { l with lowUs := some 7 }) (aonCard [(LIN_STAT.STATE, 3)])).at 1000007
     s.get LIN_STAT.STATE = 3 ∧ s.lin.lowUs = some 7 ∧ (s.linStop 4).flag LIN_STAT.CHARGED = false) ∧
    (let s := (lined (fun l => { l with lowUs := some 7 }) (aonCard [(LIN_STAT.STATE, 3), (LIN_STAT.CHARGED, 1)])).at 1000007
     s.lin.lowUs = some 7 ∧ (s.linStop 4).flag LIN_STAT.CHARGED = true) ∧
    (let s := (aonCard [(LIN_STAT.STATE, 4)]).at 5
     s.refreshDue = true ∧ s.get LIN_STAT.STATE = 4 ∧ s.get PWR_STATE.STATE ≠ 3) ∧
    ((lined (fun l => { l with capUs := some 1, esrUs := some 1 }) (aonCard [])).at 5).refreshDue = false ∧
    (let s := (lined (fun l => { l with targetMa := 500 }) (aonCard [(LIN_STAT.STATE, 2)])).at 5
     s.get LIN_STAT.STATE = 2 ∧ 500 ≤ s.lin.targetMa) ∧ ((aonCard [(LIN_STAT.STATE, 5)]).at 5).get LIN_STAT.STATE = 5 ∧
    (let w : CapWin := { state := 5, charging := false, startV := 42000000, charge := 400000000, lastUs := 0 }
     let s := (volts 41000000 5 (lined (fun l => { l with win := some w }) (aonCard [(LIN_STAT.STATE, 5)]))).at 5
     let t := (volts 40000000 5 (lined (fun l => { l with win := some w }) (aonCard [(LIN_STAT.STATE, 5)]))).at 5
     s.get LIN_STAT.STATE = 5 ∧ s.lin.win = some w ∧ (w.startV - s.voc).toNat < 2000000 ∧ 2000000 ≤ (w.startV - t.voc).toNat ∧ t.lin.win = some w ∧
       ((t.takeCap (w.charge / (w.startV - t.voc).toNat)).1.get LIN_STAT.STATE = 5)) ∧
    (let s := (aonCard [(LIN_STAT.STATE, 7), (LIN_CFG.CHG_EN, 1)]).at 10000000
     s.get LIN_STAT.STATE = 7 ∧ s.flag LIN_STAT.ABSENT = false ∧ s.lin.faultUs + 10000000 ≤ 10000000 ∧ s.bankT ≤ 600 ∧ s.flag LIN_CFG.CHG_EN = true) ∧
    (let s := (aonCard [(LIN_STAT.STATE, 1)]).at 2000000
     s.get LIN_STAT.STATE = 1 ∧ s.lin.weakUs + 2000000 ≤ 2000000) ∧
    ((aonCard []).at 5).lin.boost = false ∧ ((lined (fun l => { l with boost := true }) (aonCard [])).at 5).lin.boost = true ∧ ((aonCard []).at 5).lin.en = false ∧
    (let s := (volts 5000000 5 (lined (fun l => { l with en := true }) (aonCard []))).at 5
     s.lin.en = true ∧ 5000000 ≤ s.voc) ∧
    (aonCard [(LIN_STAT.STATE, 6)]).get LIN_STAT.STATE = 6 ∧ (aonCard []).get LIN_STAT.STATE = 0 ∧ (aonCard []).removing = false ∧ (aonCard []).linRuns = true ∧
    (aonCard [(LIN_STAT.STATE, 3)]).get LIN_STAT.STATE = 3 ∧ (aonCard []).lin.ebs.length < 8 ∧
    (let s := (lined (fun l => { l with thruUs := some 7, thru := true }) (aonCard [])).at 10000007
     s.lin.thruUs = some 7 ∧ s.lin.thru = true ∧ s.lin.thruSaid = false) ∧
    (let s := (lined (fun l => { l with thruUs := some 7 }) (aonCard [])).at 10000007
     s.lin.thruUs = some 7 ∧ s.lin.thru = s.lin.thruSaid) := by decide +kernel

theorem witness_RemovalEvents :
    (let s := (aonCard []).at 5
     ((s.set RMV_STAT.SEATED 0).setLin { s.lin with cdetLowUs := none }).linRuns = true ∧ s.linRuns = true ∧ s.get LCS_STATE.STATE = 0) ∧
    (let s := (card []).at 5
     ((s.set RMV_STAT.SEATED 0).setLin { s.lin with cdetLowUs := none }).linRuns = false) ∧
    ((aonCard [(RMV_CFG.VIN_EN, 1)]).at 5).flag RMV_CFG.VIN_EN = true ∧ ((aonCard [(RMV_CFG.VIN_EN, 0)]).at 5).flag RMV_CFG.VIN_EN = false ∧ ((aonCard [(LCS_STATE.STATE, 2)]).at 5).get LCS_STATE.STATE = 2 ∧
    (let s := (aonCard [(RMV_STAT.PHASE, 2)]).at 5
     s.get RMV_STAT.PHASE = 2 ∧ s.cleanStop.2 = true) ∧
    (let s := (flashed (fun f => { f with progs := [aProg 5] }) (aonCard [(RMV_STAT.PHASE, 2)])).at 5
     s.get RMV_STAT.PHASE = 2 ∧ s.cleanStop.2 = false) ∧
    ((aonCard []).at 5).get RMV_STAT.PHASE ≠ 2 ∧
    (let s := (keyed (fun k => { k with update := some anUpdate }) (aonCard [(RMV_STAT.PHASE, 3)])).at 5
     s.get RMV_STAT.PHASE = 3 ∧ s.keys.update.isSome = true) ∧
    (let s := (aonCard [(RMV_STAT.PHASE, 4)]).at 5
     s.get RMV_STAT.PHASE = 4 ∧ s.keys.update = none) ∧
    (let s := (aonCard [(RMV_STAT.PHASE, 1)]).at 5
     ((s.set RMV_STAT.SEATED 1).setLin { s.lin with cdetLowUs := some 5 }).removing = true) ∧
    (let s := (aonCard []).at 5
     ((s.set RMV_STAT.SEATED 1).setLin { s.lin with cdetLowUs := some 5 }).removing = false) ∧
    (let s := (lined (fun l => { l with cdetLowUs := some 7 }) (aonCard [(RMV_STAT.PHASE, 5)])).at 100007
     s.get RMV_STAT.PHASE = 5 ∧ s.lin.cdetLowUs = some 7 ∧ 7 + 100000 ≤ 100007) ∧
    (card []).get PWR_STATE.STATE ≠ 3 ∧
    (let s := (lined (fun l => { l with capUs := some 1, esrUs := some 1 }) (aonCard [(PWR_STATE.STATE, 3)])).at 60000000
     let v := (List.range 10).foldl (fun t ch => (t.set (PWR_ADC.CODE ch) (([] : List Nat).getD ch 0)).windows ch (([] : List Nat).getD ch 0 % 4096) 60000000) s
     let w := ((List.range 8).foldl (fun t n => t.setFlag (PWR_ACMP.OUT n) (([] : List Bool).getD n false)) v).linMoves true
     s.get PWR_STATE.STATE = 3 ∧ s.pwr.visitUs + 1000000 * s.pwr.tackS ≤ 60000000 ∧ w.refreshDue = false) := by decide +kernel

def aDrain (d : Nat) (abort : Bool) (who : OpBy) : Drain := { dom := d, abort := abort, endUs := 100, who := who }
def anEntry : PEntry := { target := 2, doms := [50], drained := [], aborted := [], window := 100, abort := false, level := 2, stopBy := none }

theorem witness_DomainEvents :
    (let s := powered (fun p => { p with drains := [aDrain 37 false .dreq] }) (card [])
     s.drainOf 37 = some (aDrain 37 false .dreq) ∧ s.busyIn 37 = false ∧ (keyed (fun k => { k with update := some anUpdate }) s).busyIn 37 = true ∧ (s.at 100).drainOf 37 = some (aDrain 37 false .dreq) ∧
       ((keyed (fun k => { k with update := some anUpdate }) s).at 100).busyIn 37 = true ∧ (s.at 100).pwr.entry = none) ∧
    (powered (fun p => { p with drains := [aDrain 37 true .entry] }) (card [])).drainOf 37 = some (aDrain 37 true .entry) ∧
    (let s := powered (fun p => { p with drains := [aDrain 37 false .entry], entry := some anEntry }) (card [])
     s.drainOf 37 = some (aDrain 37 false .entry) ∧ (s.at 100).pwr.entry = some anEntry) ∧
    ((powered (fun p => { p with holds := [(50, .dreq), (43, .card)] }) (card [])).at 5).pwr.holds.lookup 50 = some .dreq ∧ (powered (fun p => { p with holds := [(50, .dreq), (43, .card)] }) (card [])).pwr.holds.lookup 43 = some .card ∧
    (card []).pwr.holds.lookup 43 = none ∧ (card []).pwr.ramps.lookup 43 = none ∧ (powered (fun p => { p with ramps := [(43, .card)] }) (card [])).pwr.ramps.lookup 43 = some .card ∧
    ((card [(PWR_DSTAT.STATE 43, 1)]).at 5).dom 43 = 1 ∧ ((card []).at 5).dom 43 ≠ 1 ∧ (card [(PWR_DSTAT.STATE 38, 2)]).dom 38 = 2 ∧ startsAtWork 38 = true ∧ (card []).dom 38 ≠ 2 ∧
    ((card []).at 5).dom 43 = 0 ∧
    (let s := (card [(PWR_DSTAT.STATE 50, 3), (PWR_DSTAT.STATE 43, 3)]).at 5
     s.dom 50 ≠ 0 ∧ (((s.count PWR_HUNG.COUNT 1).set PWR_HUNG.DOMAIN 50).notify "domain hung" [("domain", domainId 50)]).flag (PWR_DSTAT.RESETTABLE 50) = true ∧
       (((s.count PWR_HUNG.COUNT 1).set PWR_HUNG.DOMAIN 43).notify "domain hung" [("domain", domainId 43)]).flag (PWR_DSTAT.RESETTABLE 43) = false) ∧
    3 ≠ (card []).get (PWR_DSTAT.EPOCH 50) ∧ 0 = (card []).get (PWR_DSTAT.EPOCH 50) ∧
    (let s := powered (fun p => { p with own := [50] }) (card [(PWR_DSTAT.CMD_OFF 50, 0)])
     s.pwr.own.contains 50 = true ∧ s.retryOk 50 = true) ∧
    ((card [(PWR_DRES.BUSY, 1)]).at 5).flag PWR_DRES.BUSY = true ∧
    (let s := (card [(PWR_DSTAT.STATE 45, 3)]).at 5
     let f (op d : Nat) : State := ((((((s.set PWR_DREQ.OP op).setFlag PWR_DREQ.MODE false).set PWR_DREQ.DOMAIN d).set PWR_DREQ.START 1).set PWR_DRES.DOMAIN (clamp 1 50 d)).set PWR_DRES.BUSY 1)
     s.flag PWR_DRES.BUSY = false ∧ s.life.run = none ∧ ((f 0 50).domainOn (clamp 1 50 50) .dreq).2 = none ∧ ((f 0 43).domainOn (clamp 1 50 43) .dreq).2 = some (.fail .wrongState) ∧
       ((f 1 45).domainOff (clamp 1 50 45) false (clamp 10 10000 ((f 1 45).get PWR_DRAIN.US)) none .dreq).2 = none ∧ ((f 2 45).domainReset (clamp 1 50 45) none .dreq).2 = none) := by decide +kernel

theorem witness_PowerEvents :
    (let s := card [(PWR_STATE.IDLE_ARM, 1)]
     s.flag PWR_STATE.IDLE_ARM = true ∧ s.asleep = false ∧ s.pwr.entry = none ∧ s.quiet = true) ∧ (running (anExec aRead) (card [])).quiet = false ∧
    (let s := powered (fun p => { p with levelTo := some 0 }) (card [])
     (s.at 5).pwr.levelTo = some 0 ∧ (s.at 5).pauseOk = true ∧ (s.at 5).pwr.regBad = false ∧ ((linkIn .training s).at 5).pauseOk = false) ∧ ((card []).at 5).pwr.levelTo = none ∧
    (card [(PWR_WAKEEN.PMBUS, 1)]).flag PWR_WAKEEN.PMBUS = true ∧ (card [(PWR_WAKEEN.PMBUS, 0)]).flag PWR_WAKEEN.PMBUS = false ∧
    (let s := (card []).at 5
     2 ≤ s.get PWR_LEVEL.CUR ∧ s.pwr.entry = none ∧ s.asleep = false ∧ s.life.run = none ∧ s.flag PWR_LEVEL.THROTTLED = false) ∧ ((card [(PWR_LEVEL.CUR, 1)]).at 5).get PWR_LEVEL.CUR ≤ 1 ∧
    ((card [(PWR_LEVEL.THROTTLED, 1)]).at 5).flag PWR_LEVEL.THROTTLED = true ∧
    (let s := powered (fun p => { p with entry := some anEntry }) (card [(PWR_STATE.STEP, 4)])
     (s.at 5).pwr.entry = some anEntry ∧ (s.at 5).get PWR_STATE.STEP = 4 ∧ (s.at 5).allDrained anEntry = true) ∧
    ((powered (fun p => { p with entry := some anEntry }) (card [(PWR_DSTAT.STATE 50, 3)])).at 5).allDrained anEntry = false ∧
    (let s := powered (fun p => { p with wakes := [{ src := 1, detail := 0, us := 3 }], timerS := 1 }) (card [(PWR_STATE.STATE, 2)])
     (s.at 5).asleep = true ∧ (s.at 5).pwr.wakes ≠ [] ∧ (s.at 5).pwr.enteredUs ≤ 5 ∧ s.asleep = true ∧ 0 < s.pwr.timerS ∧ s.pwr.enteredUs + 1000000 * s.pwr.timerS ≤ 1000000) ∧
    ((card []).at 5).pwr.wakes = [] ∧ (card []).pwr.timerS = 0 ∧
    ((card [(PWR_ACMP.POL 7, 1)]).at 5).flag (PWR_ACMP.POL 7) = true ∧ ((card [(PWR_ACMP.POL 7, 0)]).at 5).flag (PWR_ACMP.POL 7) = false ∧ ((card [(PWR_STATE.STATE, 3)]).at 5).get PWR_STATE.STATE = 3 ∧
    (card []).canonical = true := by decide +kernel

/-! ### Witnesses: the ring and the Mantle -/

def port (p : Nat) (f : Hop → Hop) (s : State) : State := s.setHop p (f (s.hop p))
def inPhase (p : Nat) (h : HopPhase) (s : State) : State := port p (fun q => { q with phase := h }) s
/-- A hop payload of slot 4, serial 9: kind, own serial as partner, attempt, lanes judged good. -/
def hopBytes (kind k good : Nat) : Bytes :=
  leBytes 1 kind ++ [1, 4, 0] ++ leBytes 4 9 ++ [3, 7, 0] ++ leBytes 1 k ++ leBytes 1 good ++ List.replicate 19 0
/-- A card that may join and monitors its ports. -/
def monitorCard : State :=
  inPhase 0 .monitor (inPhase 1 .monitor (shelf [(SEAM_STAT.RING, 1), (SEAM_CFG.JOIN, 1)] none none))

theorem witness_HopEvents :
    (monitorCard.hop 0).phase = .monitor ∧ (monitorCard.hop 1).phase = .monitor ∧ ((card []).hop 0).phase ≠ .monitor ∧
    (let s := seamed (fun q => { q with tokenUs := some 5, east := { q.east with locked := some (2, true) }, west := { q.west with locked := some (2, true) } }) (powered (fun p => { p with pauseUs := 20 }) monitorCard)
     let u := s.at 10
     u.monitoring = true ∧ u.mayJoin = true ∧ u.seam.tokenUs = some 5 ∧ 10 ≤ 5 + 5 ∧ u.seam.leftUs = none ∧ 10 < u.pwr.pauseUs ∧ u.seam.east.locked = some (2, true) ∧ u.seam.west.locked = some (2, true)) ∧
    (monitorCard.at 10).seam.tokenUs = none ∧ (monitorCard.at 10).monitoring = true ∧ (monitorCard.at 10).mayJoin = true ∧ (monitorCard.at 10).seam.east.locked = none ∧
    (card []).joined = false ∧ (shelf [] none none).joined = true ∧ (shelf [] none none).hearHop 0 [] = none ∧
    (let s := inPhase 0 .ident (shelf [] none none)
     (s.hearHop 0 (hopBytes 0x22 0 0)).isSome = true ∧ ((s.hearHop 0 (hopBytes 0x22 0 0)).map (fun v => (v.hop 0).phase)) = some .ident ∧
       ((s.hearHop 0 (hopBytes 0x22 0 0)).map (fun v => decide (le (hopBytes 0x22 0 0) 16 4 = v.get SYS_SERIAL.SERIAL))) = some true ∧
       ((s.hearHop 0 (hopBytes 0x22 0 0 |>.set 16 1)).map (fun v => decide (le (hopBytes 0x22 0 0 |>.set 16 1) 16 4 ≠ v.get SYS_SERIAL.SERIAL))) = some true ∧ (s.hop 0).echoed = false ∧
       ((port 0 (fun q => { q with echoed := true }) s).hop 0).echoed = true) ∧
    (let s := port 0 (fun q => { q with phase := .attempt, k := 2, two := true }) (shelf [] none none)
     ((s.hearHop 0 (hopBytes 0x23 2 3)).map (fun v => decide ((v.hop 0).phase = .attempt ∧ le (hopBytes 0x23 2 3) 11 1 = (v.hop 0).k ∧ (v.hop 0).two = true))) = some true ∧
       3 &&& le (hopBytes 0x23 2 3) 12 1 = 3 ∧ 3 &&& le (hopBytes 0x23 2 1) 12 1 ≠ 3) ∧
    nextHopMode 1 2 true = some (1, true) ∧ nextHopMode 2 0 false = none ∧
    ((port 1 (fun q => { q with phase := .attempt, k := 1, rate := 2, two := true }) (shelf [] none none)).hop 1).phase = .attempt ∧
    ((inPhase 1 .failed (shelf [] none none)).hop 1).phase = .failed ∧ ((inPhase 1 .up (shelf [] none none)).hop 1).phase = .up := by decide +kernel

/-- A card whose hops are up. -/
def ringCard (l : List (Fld × Nat)) : State := inPhase 0 .up (inPhase 1 .up (shelf l none none))
def toUs : RFrame := { okFrame with src := 5, dst := 3 }

theorem witness_RingFrames :
    (((card []).at 3).hop 0).phase ≠ .up ∧ (((ringCard []).at 3).hop 1).phase = .up ∧ ((ringCard []).at 3).joined = true ∧ toUs.cls = 2 ∧
    (((ringCard []).at 3).ringJudge 1 okRx 0).2 = true ∧ (((ringCard []).at 3).ringJudge 1 { okRx with seq := 1 } 0).2 = false ∧ (((ringCard []).at 3).ringJudge 1 okRx 2049).2 = false ∧
    toUs.dst = ((((ringCard []).at 3).ringJudge 1 okRx 0).1.routeFrame 1 toUs).ownSlot ∧ ackTaken [] = none ∧ ackTaken (ackOf 4095) = some 4095 ∧ ((ringCard []).hop 0).unacked = [] ∧
    (let i : HopItem := { seq := 0, frame := toUs, sends := 1 }
     ((port 0 (fun q => { q with unacked := [i] }) (ringCard [])).hop 0).unacked = i :: []) := by decide +kernel

/-- A BEAT of slot `n`: VER 1, flags, the twin's slot, its state, a serial. -/
def beatFrame (n serial : Nat) : RFrame := { okFrame with cls := 4, src := n, dst := 0xFF, payload := [1, 1, 0xFF, 0] ++ leBytes 4 serial ++ List.replicate 56 0 }
def aBeat (n us : Nat) (counted : Bool) : BeatRec := { src := n, us := us, beat := Beat.of (beatFrame n 9).payload, counted := counted }

theorem witness_MantleEvents :
    ((shelf [] none none).at 3).joined = true ∧ ((card []).at 3).joined = false ∧
    (monitorCard.at 3).monitoring = true ∧ (beatFrame 4 9).cls = 4 ∧ (beatFrame 4 9).payload.length = 64 ∧ le (beatFrame 4 9).payload 0 1 = 1 ∧ (beatFrame 3 9).src = (monitorCard.at 3).ownSlot ∧
    (beatFrame 4 9).src ≠ (monitorCard.at 3).ownSlot ∧
    (let s := (ringCard []).at 3
     let v := (s.ringJudge 0 okRx 64).1
     s.monitoring = false ∧ s.joined = true ∧ (s.hop 0).phase = .up ∧ (s.ringJudge 0 okRx 64).2 = true ∧ (beatFrame 3 0).src = v.ownSlot ∧ (Beat.of (beatFrame 3 0).payload).serial = v.get SYS_SERIAL.SERIAL ∧
       (Beat.of (beatFrame 3 9).payload).serial ≠ v.get SYS_SERIAL.SERIAL ∧ (beatFrame 4 9).src ≠ v.ownSlot ∧ (v.freshFrame (beatFrame 4 9)).2 = true ∧ (Beat.of (beatFrame 4 9).payload).mantle = false) ∧
    (let s := seamed (fun q => { q with seen := [(4 * 256 + 4, (1, 0))] }) (ringCard [])
     (((s.at 3).ringJudge 0 okRx 64).1.freshFrame (beatFrame 4 9)).2 = false) ∧
    (let s := seamed (fun q => { q with beats := [aBeat 4 0 false], named := true }) (ringCard [])
     (s.at 30000).beatOf 5 = none ∧ (s.at 30000).beatOf 4 = some (aBeat 4 0 false) ∧ (aBeat 4 0 true).counted = true ∧ (aBeat 4 0 false).us + 30000 ≤ 30000 ∧ (s.at 30000).twin.pairing = none ∧ (s.at 30000).seam.named = true) ∧
    (let s := seamed (fun q => { q with mantleUs := some 5 }) (shelf [(SEAM_MANTLE.STATE, 1)] none none)
     (s.at 50005).get SEAM_MANTLE.STATE = 1 ∧ (s.at 50005).seam.mantleUs = some 5) ∧
    ((shelf [] none none).at 3).get SEAM_MANTLE.STATE = 0 ∧ ((shelf [] none none).at 3).mantleSeen 3 = false ∧ ((shelf [(SEAM_MANTLE.STATE, 1)] none none).at 3).seam.mantleUs = none ∧
    ((shelf [(SEAM_MANTLE.STATE, 3), (SYS_STRAP.MANTLE_CAP, 1)] none none).at 3).highest 3 = true ∧ ((shelf [(SEAM_MANTLE.STATE, 3)] none none).at 3).highest 3 = false ∧
    (let s := seamed (fun q => { q with mantleUs := some 5 }) (shelf [(SEAM_MANTLE.STATE, 2)] none none)
     (s.at 30005).get SEAM_MANTLE.STATE = 2 ∧ (s.at 30005).seam.mantleUs = some 5) ∧
    (let s := shelf [(HTG_MINUTE.MINUTE, 6), (SEAM_MINUTE.MINUTE, 5)] none none
     let t : State := { s with htg := { s.htg with phase := 1000 } }
     0 ∈ (t.at 3).meteredPockets ∧ ((t.at 3).htg.minute 0).stamp = none ∧ (t.at 3).get SEAM_MINUTE.MINUTE < 6 ∧ 1000 ≤ (t.at 3).htg.phase ∧ (t.at 3).removing = false ∧ (t.at 3).get HTG_MINUTE.MINUTE = 6) ∧
    (let s := twinned (fun t => { t with offerReq := some 7 }) (shelf [] none (some (pairOf false, 0)))
     (s.at 3).twin.offer = some (pairOf false, 0) ∧ (pairOf false).slot = 4 ∧ (s.at 3).twin.offerReq = some 7) ∧
    ((shelf [] none none).at 3).twin.offer = none ∧ ((shelf [] none none).at 3).seam.relay.find? (fun r => r.slot == 4 && r.req == 7) = none ∧
    (shelf [(SEAM_MANTLE.STATE, 4)] none none).get SEAM_MANTLE.STATE = 4 ∧ (card []).get SEAM_MANTLE.STATE ≠ 4 := by decide +kernel

/-! ### Witnesses: the twinset -/

/-- A secondary that takes item 0 next, with Pocket P001. -/
def secondary : State :=
  let s := shelf [(SEAM_TWIN.STATE, 4), (SEAM_TWIN.PARTNER, 4), (PWR_DSTAT.STATE 43, 3)] (some (pairOf false)) none
  { s with pockets := [(0, Pocket.p000), (1, pocket1)], flash := { s.flash with usable := 4 } }

theorem witness_TwinItems :
    secondary.takesItem 0 = true ∧ secondary.takesItem 1 = false ∧ (secondary.at 3).takesItem 0 = true ∧ secondary.pockets.lookup 2 = none ∧ secondary.pockets.lookup 1 = some pocket1 ∧ secondary.latch 9 = none ∧
    ((secondary.dropPrefetch 1 4 0).copyAll 0 1 0 4 false 0 0 0).isSome = true ∧ (((cached (fun c => { c with entries := [{ aDirty .dirty with lba := 0 }] }) secondary).dropPrefetch 1 4 1).copyAll 0 1 0 4 true 9 9 1) = none ∧
    (twinned (fun t => { t with holdUntil := 7 }) secondary).twin.holdUntil = 7 ∧ (secondary.at 3).twin.holdUntil ≤ 3 ∧
    (secondary.at 3).pairAnswered.locked = false ∧ (match ((secondary.at 3).pairAnswered.doLine (.pocketSuspend 1)).2 with | .ok _ _ => true | _ => false) = true ∧
    (match ((secondary.at 3).pairAnswered.doLine (.pocketSuspend 2)).2 with | .fail _ => true | _ => false) = true ∧
    ((collared (fun c => { c with lock := some .collar }) secondary).at 3).pairAnswered.locked = true := by decide +kernel

theorem witness_TwinEvents :
    (let s := twinned (fun t => { t with unconf := [{ tseq := 0, what := .hold 1 }], refused := some 0 }) (shelf [(SEAM_TWIN.STATE, 2)] (some (pairOf true)) none)
     s.mirrors = true ∧ s.twin.unconf.any (fun i => i.tseq == 0) = true ∧ s.twin.refused = some 0 ∧ s.twin.unconf ≠ []) ∧
    (let s := twinned (fun t => { t with unconf := [{ tseq := 0, what := .hold 1 }] }) (shelf [(SEAM_TWIN.STATE, 2)] (some (pairOf true)) none)
     s.twin.refused ≠ some 0 ∧ s.twin.unconf.any (fun i => i.tseq == 0) = true) ∧
    (card []).mirrors = false ∧
    (let s := twinned (fun t => { t with fromStandby := true }) (seamed (fun q => { q with passSince := some 5 }) (shelf [(SEAM_TWIN.STATE, 6), (SEAM_TWIN.PARTNER, 9)] (some (pairOf false)) none))
     (s.at 10).twinState = 6 ∧ (s.at 10).twin.fromStandby = true ∧ (s.at 10).primarySilent 10 = true ∧ (s.at 10).twin.holdUntil ≤ 10 ∧ (s.at 10).rosterLacks = true) ∧
    ((card []).at 3).rosterLacks = false ∧
    (let s := twinned (fun t => { t with marked := [(1, 0)] }) (shelf [(SEAM_TWIN.STATE, 1)] (some (pairOf true)) none)
     s.twinState = 1 ∧ s.twin.inCopy.length < 64 ∧ lowestRegion s.twin.marked = some (1, 0)) ∧
    (let s := twinned (fun t => { t with inCopy := List.replicate 64 { pocket := 1, region := 0, version := 0 } }) (shelf [(SEAM_TWIN.STATE, 1)] (some (pairOf true)) none)
     64 ≤ s.twin.inCopy.length ∧ lowestRegion s.twin.marked = none) ∧
    ((shelf [(SEAM_TWIN.STATE, 3)] (some (pairOf true)) none).at 3).twinState = 3 ∧ ((card []).at 3).twinState ≠ 3 ∧ ((card []).at 3).twinState ≠ 7 ∧
    ((shelf [] none (some (pairOf true, 5))).at 60000005).twin.offer = some (pairOf true, 5) ∧ ((card []).at 3).twin.offer = none ∧
    (let s := twinned (fun t => { t with swapUs := some 5 }) (shelf [(SEAM_TWIN.STATE, 2)] (some (pairOf true)) none)
     (s.at 1000005).twin.swapUs = some 5 ∧ (s.at 1000005).twin.swapSeq = none) ∧
    (let s := twinned (fun t => { t with swapUs := some 5, swapSeq := some 3 }) (shelf [(SEAM_TWIN.STATE, 2)] (some (pairOf true)) none)
     (s.at 1000005).twin.swapSeq.isSome = true ∧ (s.at 1000005).mirroring = true) ∧ ((card []).at 3).twin.swapUs = none ∧
    (let r : Relay := { slot := 4, req := 7, us := 0, lines := [] }
     let s := seamed (fun q => { q with relay := [r] }) (card [])
     (∀ x ∈ (s.at 1200000).seam.relay, x.us + 1200000 ≤ 1200000) ∧ (∀ x ∈ (s.at 5).seam.relay, 1199999 < x.us + 1200000)) := by decide +kernel

/-! ### Witnesses: meters, the life cycle, registers -/

theorem witness_HangtagEvents :
    (let v := (((card []).at 3).minuteRuns).set HTG_LASTE.NJ ((2730 % 4096) * (1251 % 4096) * 32400000 / 2 ^ 24)
     v.removing = false ∧ v.get PWR_STATE.STATE ≠ 3 ∧ (v.shareEnergy [] ((2730 % 4096) * (1251 % 4096) * 32400000 / 2 ^ 24)).meteredPockets = [0]) ∧
    (let v := (((card [(RMV_STAT.PHASE, 1)]).at 3).minuteRuns).set HTG_LASTE.NJ 0
     v.removing = true) ∧
    (let v := (((card [(PWR_STATE.STATE, 3)]).at 3).minuteRuns).set HTG_LASTE.NJ 0
     v.removing = false ∧ v.get PWR_STATE.STATE = 3) ∧
    ((card []).at 3).joined = false ∧ ((shelf [] none none).at 3).joined = true ∧ (List.replicate 128 (0 : BitVec 8)).length = 128 ∧
    (card [(SEAM_MANTLE.STATE, 2)]).get SEAM_MANTLE.STATE = 2 ∧ (card [(SEAM_MANTLE.STATE, 4)]).get SEAM_MANTLE.STATE = 4 ∧ (card []).get SEAM_MANTLE.STATE ≠ 4 ∧ (card []).get SEAM_MANTLE.STATE ≠ 2 := by decide +kernel

def living (f : Life → Life) (s : State) : State := { s with life := f s.life }
def aRun : BistRun := { swatch := 5, dom := 45, startUs := 0, path := none, job := false }

theorem witness_LifeEvents :
    (card []).get LCS_STATE.STATE = 0 ∧ (card [(LCS_STATE.STATE, 1)]).get LCS_STATE.STATE ≠ 0 ∧ (living (fun l => { l with copies := programmed l.copies 1 none }) (card [])).ready = true ∧
    (living (fun l => { l with copies := programmed l.copies 1 none }) State.reset).ready = false ∧ State.reset.get LCS_STATE.STATE = 0 ∧ (card []).life.trans = none ∧
    (let t : LifeTrans := { bits := 2, target := 2, byT0 := false }
     (living (fun l => { l with trans := some t }) (card [])).life.trans = some t ∧ t.byT0 = false) ∧
    (let v := (card [(LCS_STATE.STATE, 1), (PWR_DSTAT.STATE 1, 3), (PWR_DSTAT.STATE 9, 3)]).set LCS_CTL.TARGET 4
     v.life.trans = none ∧ v.locked = false ∧ v.lifeRefusal (4 % 8) = none) ∧
    (((card []).set LCS_CTL.TARGET 7).lifeRefusal (7 % 8)) = some .lifecycle ∧
    ((living (fun l => { l with run := some aRun }) (card [])).at 3).life.run.isSome = true ∧
    (let v := (((card [(PWR_DSTAT.CMD_OFF 45, 1)]).at 3).set BIST_CTL.SWATCH (clamp 1 40 5)).set BIST_CTL.DOMAIN (min 50 45)
     v.locked = false ∧ v.runRefusal (clamp 1 40 5) (min 50 45) = none ∧ ((card []).at 3).life.run = none) ∧
    ((((card []).at 3).set BIST_CTL.SWATCH (clamp 1 40 0)).set BIST_CTL.DOMAIN (min 50 63)).runRefusal (clamp 1 40 0) (min 50 63) = some .badArg ∧
    (let s := living (fun l => { l with run := some aRun }) (card [])
     (s.at 3499).life.run = some aRun ∧ 3499 < aRun.startUs + (s.at 3499).runBound aRun.swatch aRun.dom ∧ aRun.startUs + (s.at 3501).runBound aRun.swatch aRun.dom < 3501) ∧
    (card [(LCS_STATE.STATE, 4)]).get LCS_STATE.STATE = 4 ∧ (card [(LCS_STATE.STATE, 2)]).get LCS_STATE.STATE = 2 ∧ (card [(LCS_STATE.STATE, 3)]).get LCS_STATE.STATE = 3 ∧ (card [(LCS_STATE.STATE, 1)]).get LCS_STATE.STATE ≤ 1 := by decide +kernel

/-- A field of each access type. -/
theorem witness_FieldAccessTypes :
    (card []).canonical = true ∧
    (let has (n : Fld) (a : Acc) : Bool := (fieldsAt n.addr).any (fun f => f.lsb == n.lsb && f.acc == a)
     has SYS_WDOG.EN .rw = true ∧ has SLV_CRCERR.COUNT .rc = true ∧ has SYS_SERIAL.SERIAL .ro = true ∧ has SYS_WDOG.KICK .wo = true ∧ has ECC_INJ.ARM .w1s = true ∧
       (fieldsAt LIN_FAULT.addr).any (fun f => f.acc == .w1c) = true) ∧
    (fieldsAt SYS_WDOG.addr).all (fun f => f.acc != .rc) = true ∧ SYS_WDOG.addr ≠ keyOf 1 SLV_CRCERR.addr ∧
    (let s := (card []).at 3
     s.domIn (49 + 0) = true ∧ s.coreRefused 0 false 0 SYS_WDOG.addr = false ∧ servedShape SYS_WDOG.addr 4 = true ∧ s.regDark SYS_WDOG.addr = false) := by decide +kernel

theorem witness_RegisterAccess :
    (let s := (card []).at 3
     s.domIn (49 + 1) = false ∧ s.domIn (49 + 0) = true ∧ s.coreRefused 0 false 1 0x10000 = true ∧ s.coreRefused 0 false 0 0x90000000 = true ∧
       s.coreRefused 0 false 1 0x20000000 = false ∧ inRegSpace 0x20000000 = false ∧ s.coreRefused 0 false 0 0x20000000 = false ∧
       s.coreRefused 0 false 1 SYS_WDOG.addr = false ∧ s.coreRefused 0 false 0 SYS_WDOG.addr = false ∧ inRegSpace SYS_WDOG.addr = true ∧ (SYS_WDOG.addr + 2) % 4 ≠ 0 ∧ servedShape SYS_WDOG.addr 4 = true ∧
       s.regDark SYS_WDOG.addr = false ∧ servedShape (FQ_ERR.addr 3) 4 = true ∧ s.regDark (FQ_ERR.addr 3) = true ∧ s.coreRefused 0 false 1 (FQ_ERR.addr 3) = false ∧ s.coreRefused 0 false 0 (FQ_ERR.addr 3) = false) ∧
    ignoresP1 SYS_RSTCTL.addr = true ∧ SLV_TURN.addr / 0x10000 = 0x4004 ∧ SLV_TURN.addr ≠ SLV_CTL.addr := by decide +kernel

/-! ### Witnesses: clauses that need a state of their own -/

/-- A line whose characters say another command, and one that says this command. -/
theorem witness_LineAdmission_says :
    (let s := collared (fun c => { c with held := [rawLine "pocket show P001"] }) (card [])
     (s.at 0).says (Say.pocketShow 1 0) okLn = true ∧ (s.at 0).says (Say.pocketShow 2 0) okLn = false ∧ (s.at 0).says (Say.queueShow 1 0) okLn = false ∧
       (s.at 0).listens .collar = true) ∧
    (let s := collared (fun c => { c with held := [rawLine "a1: POCKET delete P001"] }) (card [])
     (s.at 0).says (Say.pocketDelete 1 0) { okLn with tag := some "a1" } = true ∧ (s.at 0).says (Say.pocketDelete 1 0) okLn = false) := by decide +kernel

/-- A ramp begun by another command; a path that needs the domain; a drain of another command. -/
theorem witness_DomainAndResetCommands_paths :
    ((powered (fun p => { p with ramps := [(50, .line)] }) (tk [(PWR_DSTAT.STATE 50, 0)])).pwr.ramps.any (fun r => r.1 == 50 && r.2.command) = true ∧
      (tk [(PWR_DSTAT.STATE 50, 0)]).pwr.ramps.any (fun r => r.1 == 50 && r.2.command) = false) ∧
    (let s := linkIn .data (card [(SLV_STAT.STATE, 2), (PWR_DSTAT.STATE 17, 3)])
     let ln : Ln := { okLn with path := .mgt }
     let u := s.taken ln 0
     (s.at 0).listens .mgt = true ∧ u.flag (PWR_DSTAT.OFFABLE 17) = true ∧ u.pathNeeds .mgt 17 = true ∧ u.flag (PWR_DSTAT.RESETTABLE 17) = true) ∧
    (let u := (slv (fun v => { v with stopWas := [17] }) (linkIn .data (card [(SLV_STAT.STATE, 2), (PWR_DSTAT.STATE 17, 0)]))).taken okLn 0
     u.dom 17 = 0 ∧ u.slv.stopWas.contains 17 = true ∧ u.linkUp = true) ∧
    (let u := (slv (fun v => { v with stopWas := [26] }) (linkIn .data (card [(SLV_STAT.STATE, 2), (PWR_DSTAT.STATE 26, 0)]))).taken okLn 0
     u.dom 26 = 0 ∧ u.slv.stopWas.contains 26 = true ∧ u.linkUp = true ∧ u.flag (PWR_DSTAT.OFFABLE 26) = true ∧ u.pathNeeds .collar 26 = false) ∧
    (tk [(PWR_DSTAT.STATE 43, 3)]).flag (PWR_DSTAT.OFFABLE 43) = false ∧
    (let u := powered (fun p => { p with drains := [aDrain 50 false .dreq] }) (tk [(PWR_DSTAT.STATE 50, 3)])
     u.dom 50 ≠ 0 ∧ u.pwr.drains.any (fun r => r.dom == 50 && r.who.command) = true) := by decide +kernel

/-- A pairing command waits for the offer that comes. -/
theorem witness_TwinCommands_waiting :
    (let s := (shelf [] none (some (pairOf true, 0))).setSession .collar { Session.start .operator with await := some { tag := none, what := .pairing, sinceUs := 0 } }
     let ln : Ln := { okLn with path := .seam 4 }
     s.awaiting .pairing ≠ none ∧ s.twin.offer = some (pairOf true, 0) ∧
       runsB s ln 0 { changing := false, roles := [.operator, .host, .mantle, .service, .none], needs := [] } false = true ∧
       (s.taken ln 0).judgeOffer (pairOf true) 6 0 0 = some .wrongState ∧
       (s.taken ln 0).judgeOffer (pairOf true) 5 (beNat (kcv 16 (List.replicate 32 9#8))) 0 = none) ∧
    (shelf [] none (some (pairOf true, 0))).awaiting .pairing = none := by decide +kernel

/-- A die that reads back other than it was written; a map segment under replay; an entry that has moved. -/
theorem witness_BoltsAndMap_states :
    (flashed (fun f => { f with differs := [3] }) (card [])).flash.differs.contains 3 = true ∧ (card []).flash.differs.contains 3 = false ∧
    (let g := { aSeg false with reading := true, dirty := true }
     (withSegs [(4, g)] (card [(SYS_BOOTSTAT.REPLAY, 1)])).replaying g = true ∧ (withSegs [(4, g)] (card [(SYS_BOOTSTAT.REPLAY, 0)])).replaying g = false) ∧
    (let s := mappedCard [] (boltIn .opened .gc)
     s.entry 1 1 ≠ 0 ∧ entryPpa (s.entry 1 1) = thePage ∧ entryPpa (s.entry 1 1) ≠ thePage + 1 ∧ s.entry 1 0 = 0) := by decide +kernel

theorem witness_DramUpkeep_ranks :
    (dramCard [(DRC_RANK.STATE0 0, 1)]).get (rankFld 0 0) = 1 ∧ (dramCard []).helpersFree 0 = false ∧
    (let s := card [(DRC_CFG.POP 0, 1), (DRC_STAT.TRAIN 0, 1), (PWR_DSTAT.STATE 29, 3)]
     s.helpersFree 0 = true ∧ s.domIn (29 + 2 * 0) = true) ∧
    (channel (fun c => { c with migration := some (aMigration (2 ^ 28)) }) (dramCard [(RMV_STAT.PHASE, 1)])).removing = true := by decide +kernel

/-- A slot damaged in its working copy and loaded from its image; a damage met in a swatch run. -/
theorem witness_AccessEvents_sram :
    (let s := keyCard [(7, loaded 3 [])] []
     let t : State := { s with keys := { s.keys with image := [(7, loaded 3 [])] } }
     let v := ((t.count ECC_SCORR.UNC 1).set ECC_SLAST.DOMAIN 37).set ECC_SLAST.ARRAY 4
     v.keys.image.lookup 7 = some (loaded 3 []) ∧ v.keys.slots.lookup 7 = some (loaded 3 []) ∧ v.life.run = none) ∧
    (let v := (((living (fun l => { l with run := some aRun }) (card [])).count ECC_SCORR.UNC 1).set ECC_SLAST.DOMAIN 45).set ECC_SLAST.ARRAY 7
     v.life.run = some aRun ∧ aRun.dom = 45) := by decide +kernel

theorem witness_CipherEvents_reread :
    (let c : Check := { tag := blockTag (List.replicate 16 0) 0 0 1 4 [], count := 0 }
     let b : Blk := { noBlk with codec := .mac true, check := some c }
     let x : Exec := { anExec aRead with blks := [b], ikey := some (List.replicate 16 0) }
     let s := running x (tenantCard pocket1 queue5)
     s.execOf 5 0 = some x ∧ b.check = some c ∧ s.get SYS_SERIAL.SERIAL = 0 ∧
       blockTag (x.ikey.getD []) (s.get SYS_SERIAL.SERIAL) c.count x.pocket (x.cmd.lba + 0) b.data = padTo 16 c.tag) := by decide +kernel

theorem witness_DomainEvents_abort :
    (let s := keyed (fun k => { k with update := some anUpdate }) (powered (fun p => { p with drains := [aDrain 37 true .dreq] }) (card []))
     (s.at 100).drainOf 37 = some (aDrain 37 true .dreq) ∧ (s.at 100).busyIn 37 = true ∧ (s.at 100).pwr.entry = none) ∧
    (let s := keyed (fun k => { k with update := some anUpdate }) (powered (fun p => { p with drains := [aDrain 37 false .entry], entry := some anEntry }) (card []))
     (s.at 100).drainOf 37 = some (aDrain 37 false .entry) ∧ (s.at 100).busyIn 37 = true ∧ (s.at 100).pwr.entry = some anEntry) ∧
    (let s := (living (fun l => { l with run := some aRun }) (card [(PWR_DSTAT.STATE 45, 3)])).at 5
     s.dom 45 ≠ 0 ∧ (((s.count PWR_HUNG.COUNT 1).set PWR_HUNG.DOMAIN 45).notify "domain hung" [("domain", domainId 45)]).life.run = some aRun) := by decide +kernel

/-- Both lanes of a hop trained without an error, or one alone. -/
theorem witness_HopEvents_lanes :
    (let t (k : Nat) : LaneTrain := { okTrain with lane := k, bytes := trainingBytes k 4096 }
     3 &&& lanesGood [t 0, t 1] = 3 ∧ 3 &&& lanesGood [t 0] ≠ 3 ∧ 1 &&& lanesGood [t 0] = 1) := by
  simp [lanesGood, laneGood, okTrain, List.range, List.range.loop]

theorem witness_HopEvents_pause :
    (let u := (seamed (fun q => { q with tokenUs := some 5, east := { q.east with locked := some (2, true) }, west := { q.west with locked := some (2, true) } }) monitorCard).at 12
     u.pwr.pauseUs + 12 ≤ 12) := by decide +kernel

theorem witness_LiningEvents_wake :
    ((aonCard [(PWR_WAKEEN.LINING, 0)]).linStop 7).flag PWR_WAKEEN.LINING = false ∧ ((aonCard [(PWR_WAKEEN.LINING, 1)]).linStop 7).flag PWR_WAKEEN.LINING = true := by decide +kernel

/-- An access that carries the epoch of its domain and one that carries another; a domain that no register has. -/
theorem witness_RegisterAccess_epochs :
    (let s := (card [(PWR_DSTAT.STATE 4, 3)]).at 3
     s.regDark (FQ_ERR.addr 3) = false ∧ s.staleFor (FQ_ERR.addr 3) (s.get (PWR_DSTAT.EPOCH 4)) = false ∧ s.staleFor (FQ_ERR.addr 3) (s.get (PWR_DSTAT.EPOCH 4) + 1) = true) ∧
    ((card []).at 3).staleFor SYS_WDOG.addr 9 = false := by decide +kernel

theorem witness_LifeEvents_lock :
    (let u := (collared (fun c => { c with lock := some .mgt }) (card [])).at 3
     let v := (u.set BIST_CTL.SWATCH 5).set BIST_CTL.DOMAIN 45
     u.life.run = none ∧ v.locked = true) := by decide +kernel

/-- A line that waits: for its frame, for a reply that its path still owes, and a frame out of turn. -/
theorem witness_LineAdmission_waits :
    ((card []).at 0).ripe ((Say.lifeShow 0).waited okLn) okLn.rx = true ∧ ((card []).at 0).says (Say.lifeShow 0) okLn = true ∧
    ((owing (card [])).at 0).ripe ((Say.lifeShow 0).waited okLn) okLn.rx = false ∧ ((owing (card [])).at 0).hears .collar = true ∧
    ((owing (card [])).at 0).says (Say.lifeShow 0) okLn = true ∧ ((card [(PWR_DSTAT.STATE 49, 0)]).at 0).hears .collar = false ∧
    ((card [(PWR_DSTAT.STATE 49, 0)]).at 0).ripe ((Say.lifeShow 0).waited okLn) okLn.rx = false ∧
    (let ln : Ln := { okLn with path := .mgt, rx := .seen { okSlv with seq := 1 } }
     ((dataCard []).at 0).hears .mgt = true ∧ ((dataCard []).at 0).says (Say.lifeShow 0) ln = false) ∧
    ((card []).taken okLn 0).removing = false := by decide +kernel

/-- A line that stood complete before the entry began, taken while the entry runs. -/
theorem witness_PowerCommands_entry :
    (let s := collared (fun c => { c with held := [rawLine "power level=pl1"] }) (powered (fun p => { p with entry := some anEntry }) (card []))
     (s.at 0).ripe ((Say.powerLevel 1 0).waited okLn) okLn.rx = true ∧ (s.at 0).says (Say.powerLevel 1 0) okLn = true ∧
       (s.taken okLn 0).gate .collar (chg rolesOHM []) false = none ∧ (s.taken okLn 0).pwr.entry ≠ none) := by decide +kernel

/-- A card in staging whose DRAM waits for its training, with what a training record holds. -/
def dueDram (r : Option TrainRec) : State :=
  let s := card [(DRC_CFG.POP 0, 1), (DRC_CFG.DENS 0, 2), (DRC_STAT.TRAIN 0, 0), (PWR_DSTAT.STATE 29, 3), (PWR_DSTAT.STATE 30, 3), (SYS_BOOTSTAT.STAGING, 1)]
  { s with dram := { s.dram with record := r } }
def aTrain : TrainRec := { rate := 0, masks := [0x1041, 0x2082, 0x4104, 0x88200, 0x110400, 0x220800], ident := 1, temp := 250, regs := [] }
/-- The ladder at its DRAM row, with a record and one channel. -/
def rowDram : State :=
  let s := ladder [(DRC_CFG.POP 0, 1), (PWR_DSTAT.STATE 29, 3), (PWR_DSTAT.STATE 30, 3)] (rowsToBanner ++ [.flash, .records])
  { s with dram := { s.dram with record := some aTrain } }
def sameDram : DramFound := { pop := [1, 0], dens := 2, ident := 1, same := true, rfm := false }
/-- The seven carve-outs over 16 GiB. -/
def allCarves : List (Nat × Nat) :=
  [(2 ^ 20, 2 ^ 20), (643 * 2 ^ 20, 2 ^ 34 - 8192 - 643 * 2 ^ 20), (3 * 2 ^ 20, 384 * 2 ^ 20), (387 * 2 ^ 20, 2 ^ 28), (2 ^ 21, 2 ^ 20), (0, 2 ^ 20), (2 ^ 34 - 8192, 8192)]
/-- The map after a replay: the segments that it changed, and what is held of them. -/
def replayed (u : State) : List Nat × State :=
  let es := (u.flash.segs.filter (fun x => u.replaying x.2)).map (·.1)
  (es, es.foldl State.replayHeld (u.set SYS_BOOTSTAT.REPLAY 0))

theorem witness_LadderOfStorage_dram :
    ((dueDram none).at 5).dramDue = true ∧ ((dueDram none).at 5).dram.record = none ∧ ((dueDram (some aTrain)).at 5).dramDue = true ∧
    ((dueDram (some aTrain)).at 5).dram.record = some aTrain ∧
    (let u := rowDram.at 5
     let v := (u.findDram sameDram).layRanks
     u.rowDue .dram = true ∧ u.dramDue = false ∧ v.ranksServe = true ∧ v.dram.record = some aTrain ∧ v.recordFits aTrain sameDram 250 true = true ∧
       (v.useRecord aTrain).carveFits allCarves = true ∧ (v.useRecord aTrain).carveFits [] = false ∧ v.recordFits aTrain sameDram 500 true = false) := by decide +kernel

theorem witness_LadderOfStorage_replay :
    (let s := withSegs [(4, { aSeg false with dirty := true })] (card [(SYS_BOOTSTAT.REPLAY, 1)])
     let r := replayed (s.at 5)
     r.1 = [4] ∧ r.2.flash.segs.any (fun x => x.2.dirty && !x.2.resident) = false ∧ r.2.dirtySegs ≤ r.2.dirtyRoom ∧
       (r.1.foldl (fun t e => t.segArrives e) r.2).flash.ckptOwn = false) ∧
    (let s := flashed (fun f => { f with ckptOwn := true }) (withSegs [(4, { aSeg false with dirty := true })] (card [(SYS_BOOTSTAT.REPLAY, 1)]))
     let r := replayed (s.at 5)
     r.2.flash.segs.any (fun x => x.2.dirty && !x.2.resident) = false ∧ r.2.dirtySegs ≤ r.2.dirtyRoom ∧ (r.1.foldl (fun t e => t.segArrives e) r.2).flash.ckptOwn = true) ∧
    (let s := withSegs ((List.range 9).map (fun e => (e, { aSeg false with dirty := true }))) (card [(SYS_BOOTSTAT.REPLAY, 1)])
     let r := replayed (s.at 5)
     r.2.flash.segs.any (fun x => x.2.dirty && !x.2.resident) = true ∧ r.2.dirtyRoom < r.2.dirtySegs) ∧
    (let s := (card ((SYS_BOOTSTAT.STAGING, 1) :: dramOn)).set (DRC_STAT.TRAIN 0) 3
     (s.at 5).channels.all (fun n => (s.at 5).get (DRC_STAT.TRAIN n) == 2 || (s.at 5).get (DRC_STAT.TRAIN n) == 3) = true) := by decide +kernel

/-- A cold reset at another level moves to PL2 first (R105). -/
theorem witness_ResetEvents_level :
    (let v := card [(PWR_LEVEL.CUR, 1), (PWR_PMB.OK, 1)]
     v.get PWR_LEVEL.CUR ≠ 2 ∧ v.flag PWR_PMB.OK = true ∧ v.pwr.regBad = false ∧ v.pwr.levelTo = none) ∧ (card []).get PWR_LEVEL.CUR = 2 ∧
    (powered (fun p => { p with levelTo := some 2 }) (card [])).pwr.levelTo = some 2 := by decide +kernel

theorem witness_SleeveClockAndLanes_idle :
    (card []).squelchArmed = false ∧ (card []).slv.phase ≠ .waking ∧ (card []).slv.phase ≠ .stopped ∧
    (linkIn .waking (card [])).slv.phase = .waking ∧ ((linkIn .waking (card [])).wakeEvent 2 0 3).asleep = false ∧ ((linkIn .waking (card [])).wakeEvent 2 0 3).slv.phase = .waking := by
  decide +kernel

theorem witness_BoltsAndMap_ends :
    (let p : Prog := { aProg 0 with kind := .parity }
     let s (l : List Prog) : State := flashed (fun f => { f with progs := l }) (flashCard [] [boltIn .opened .host])
     (s [aProg 5]).lineFilled (mkPpa 5 0 0 20 0) = true ∧ (s [aProg 5]).parityEarly (mkPpa 5 0 0 20 0) = false ∧ (s [p]).parityEarly (mkPpa 0 0 0 20 0) = false ∧
       (s [p, { aProg 5 with ppa := mkPpa 5 0 0 20 1 }]).parityEarly (mkPpa 0 0 0 20 0) = true) ∧
    (let b := boltIn .victim .host
     (flashCard [] [b]).liveIn b = 0 ∧ (flashCard [] [b]).readsIn 0 20 = false ∧ (mappedCard [] b).liveIn b ≠ 0 ∧
       (flashed (fun f => { f with reads := [thePage] }) (flashCard [] [b])).readsIn 0 20 = true) ∧
    (let s (st : BoltState) : State := flashed (fun f => { f with mapBolts := [(1, (0, 20))] }) (withSegs [(4, aSeg false)] (flashCard [] [boltIn st .map]))
     (s .victim).seg 4 = some (aSeg false) ∧ (aSeg false).dirty = false ∧ (aSeg false).rebuilding = false ∧ (s .victim).slotBolt 1 = some (boltIn .victim .map) ∧
       (s .victim).replaying (aSeg false) = false ∧ (∀ b, (s .full).slotBolt 1 = some b → b.state ≠ .victim) ∧ (s .full).seg 5 = none) ∧
    (let s := withSegs [(0, { aSeg true with dirty := true })] (card [(SYS_BOOTSTAT.REPLAY, 1)])
     0 < (s.at 30000000).dirtySegs ∧ (s.at 30000000).flag SYS_BOOTSTAT.REPLAY = true ∧ (s.at 30000000).flash.ckptUs + 30000000 ≤ 30000000) ∧
    (let s (bs : List Bolt) : State := flashed (fun f => { f with ckptRuns := some aCkpt, idxDirty := [0] }) (flashCard [] bs)
     aCkpt.segs = [] ∧ ((s [boltIn .opened .map]).at 3).writeIndex.flash.idxDirty = [] ∧ ((s []).at 3).writeIndex.flash.idxDirty ≠ []) ∧
    ({ aCkpt with segs := [4] }).segs ≠ [] := by
  refine ⟨by decide +kernel, by decide +kernel, ⟨by decide +kernel, by decide +kernel, by decide +kernel, by decide +kernel, by decide +kernel, ?_, by decide +kernel⟩, by decide +kernel, by decide +kernel, by decide +kernel⟩
  intro b h
  have e : (flashed (fun f => { f with mapBolts := [(1, (0, 20))] }) (withSegs [(4, aSeg false)] (flashCard [] [boltIn .full .map]))).slotBolt 1 = some (boltIn .full .map) := by decide +kernel
  rw [e] at h
  cases h
  decide

theorem witness_TwinItems_rooms :
    secondary.blockRoom 1 4 (!secondary.admits 1 4096) = true ∧
    (let s := (secondary.set SYS_BOOTSTAT.STAGING 0).set CCH_SIZE.MIB 0
     s.takesItem 0 = true ∧ s.blockRoom 1 4 (!s.admits 1 4096) = false) ∧
    (let s := withSegs [(secondary.segOf 1 1, aSeg false)] secondary
     s.takesItem 0 = true ∧ s.copyReady 1 0 1 4 = false ∧ (((s.cross 1 2048).dropPrefetch 1 4 1).unmapFrom 1 4 1 s.twin.itemDone (1 / segBlocks + 2)).2 < 1) ∧
    1 ≤ (((secondary.cross 1 2048).dropPrefetch 1 4 1).unmapFrom 1 4 1 secondary.twin.itemDone (1 / segBlocks + 2)).2 ∧
    (secondary.copyReady 1 0 1 4 = true ∧ (((secondary.cross 1 2048).dropPrefetch 1 4 1).copyAll 0 1 0 4 false 0 0 1).isSome = true) ∧
    (let s := cached (fun c => { c with entries := [{ aDirty .dirty with lba := 0 }] }) secondary
     s.copyReady 1 0 1 4 = true ∧ (((s.cross 1 2048).dropPrefetch 1 4 1).copyAll 0 1 0 4 true 9 9 1) = none) := by decide +kernel

/-- A primary in DARNING with region 0 of P001 marked: its segment is away; all is in place; its one mapped Stitch stands on a dark quad. -/
theorem witness_TwinEvents_darning :
    (let s : State := { twinned (fun t => { t with marked := [(1, 0)] }) (shelf [(SEAM_TWIN.STATE, 1)] (some (pairOf true)) none) with pockets := [(0, Pocket.p000), (1, pocket1)] }
     let a := withSegs [(s.segOf 1 0, aSeg false)] s
     let d := flashed (fun f => { f with map := [(mapKey 1 1, mkEntry 15 thePage)] }) s
     lowestRegion s.twin.marked = some (1, 0) ∧ (a.segsOf 1 (256 * 0) 256).filter a.segAbsent ≠ [] ∧
       (s.segsOf 1 (256 * 0) 256).filter s.segAbsent = [] ∧ (s.regionBlocks 1 0).all (s.blockReadable 1) = true ∧ s.regionBlocks 1 0 ≠ [] ∧
       (d.segsOf 1 (256 * 0) 256).filter d.segAbsent = [] ∧ (d.regionBlocks 1 0).all (d.blockReadable 1) = false) := by decide +kernel

/-! ### Values worked in the spec. Each comment names the file of spec/ that works the value. -/

/-- 03 (Table COL-2) and 05: the check values over the nine characters 1 to 9. -/
theorem test_check_values :
    crc16 ("123456789".toList.map Char.toNat) = 0x29B1#16 ∧ crc32c ("123456789".toList.map (fun c => BitVec.ofNat 8 c.toNat)) = 0xE3069283 := by decide +kernel

/-- 05: ACK 0x7FF with a lease of 8 lanes. -/
theorem test_ack_characters : ackChars 0x7FF = (0xFF, 0x87) ∧ leaseChar 8 = 0x78 := by decide +kernel

/-- 08: the worked map entry, its place, its row and its Stitch of the Bolt. -/
theorem test_map_entry :
    (let e := 0xF9E749D284
     let a := entryPpa e
     (entryValid e, ppaCh a, ppaPos a, ppaPlane a, ppaBlock a, ppaPage a) = (15, 39, 9, 3, 1181, 644) ∧ mkPpa 39 9 3 1181 644 = a) ∧
    (let b : Bolt := { boltIn .opened .host with group := 9, idx := 1181, present := (List.range 64).filter (fun c => c ≠ 12), planes := 4 }
     b.parityCh = 48 ∧ b.rowOf (mkPpa 39 9 3 1181 644) = 2579 ∧ b.stitchPpa 159936 = mkPpa 39 9 3 1181 644) := by decide +kernel

/-- 09 (Table SDP-7): the strengths of groups 0, 5 and 12. -/
theorem test_strengths : strengthFor 20000 32 6 = 24 ∧ strengthFor 250000 32 6 = 80 ∧ strengthFor 1100000 32 6 = 248 := by decide +kernel

/-- 10: the line at A = 0x2_4D7A_35C0 with both channels of two active ranks of 16 GiB, the hash masks at reset. -/
theorem test_dram_place :
    let s := card [(DRC_CFG.POP 0, 7), (DRC_CFG.POP 1, 7), (DRC_CFG.DENS 0, 2), (DRC_CFG.DENS 1, 2), (DRC_STAT.SIZE_GIB 0, 32), (DRC_STAT.SIZE_GIB 1, 32)]
    s.chanOf 0x24D7A35C0 = (1, 0x126BD15C0) ∧ s.placeOf 1 0x126BD15C0 = { rank := 1, bank := 4, row := 0x49AF, col := 0x170 } ∧ s.cardAddr 1 0x126BD15C0 = 0x24D7A35C0 := by decide +kernel

/-- 11 (R623 on): the wrap IV of an XTS256 key. -/
theorem test_wrap_iv : wrapIv 2 = 0xA6A6A6A602405A5A := by decide +kernel

/-- AES-128 on the example of FIPS 197, appendix C.1, which 11 takes AES from. -/
theorem test_aes :
    aesEnc (beBytes 16 0x000102030405060708090A0B0C0D0E0F) (beBytes 16 0x00112233445566778899AABBCCDDEEFF) = beBytes 16 0x69C4E0D86A7B0430D8CDB78070B4C55A := by decide +kernel

/-- 14: D47 of epoch 0x3A, IN, is taken out of service by a command: epoch 0x3B, OFF, CMD_OFF. -/
theorem test_domain_status :
    let s := card [(PWR_DSTAT.EPOCH 47, 0x3A), (PWR_DSTAT.STATE 47, 3)]
    s.word (PWR_DSTAT.addr 47) = 0x3A030600#32 ∧
    ((match exec (.domainOff okLn 47 true (some 10) 5) s with
      | .next t => (match exec (.drainWindowEnd 47 0 1000) t with | .next u => (u.word (PWR_DSTAT.addr 47), (t.word (PWR_DSTAT.addr 47))) | _ => (0, 0))
      | _ => (0, 0)) : BitVec 32 × BitVec 32).2.getLsbD 10 = true := by decide +kernel

/-- 17: the energy of a sample with codes 2,730 and 1,251. -/
theorem test_sample_energy :
    (match exec (.htgSample 2730 1251 [] 100) (card []) with | .next t => t.get HTG_LASTE.NJ | _ => 0) = 6595459 := by decide +kernel

/-- 18: RETURN in every copy of the lifecycle array. -/
theorem test_life_copies :
    let s := (living (fun l => { l with copies := programmed [3, 3, 3] 4 none }) (card [])).formLife
    s.word LCS_COPIES.addr = 0x777#32 ∧ s.word LCS_STATE.addr = 0x703#32 := by decide +kernel

/-- 20: the ring slots reset as the register map says; a queue's registers; the Collar divisor. -/
theorem test_reset_words :
    resetWord (QUE_QCFG.addr 10) = 0x0B000000#32 ∧ (QUE_QCFG.addr 10) = 0x40064050 ∧ SYS_COLCFG.BAUD_DIV.of (resetWord SYS_COLCFG.addr) = 6944 := by decide +kernel

/-- 20: `poke PWR_TACK.PERIOD_S 300`. -/
theorem test_poke_field :
    (match exec (.poke okLn { addr := PWR_TACK.addr, field := some PWR_TACK.PERIOD_S.lsb } 300 [] 5) (card []) with
     | .next t => t.word PWR_TACK.addr | _ => 0) = 0x0005012C#32 := by decide +kernel

/-- 21: a word load of a register of a domain that is OFF returns 0 and counts in PWR_BUSERR. -/
theorem test_dark_read :
    (match exec (.registerReadClear 0 0x402901E4 4 false 0 5) (card []) with
     | .next t => (t.access.readData, t.word PWR_BUSERR.addr) | _ => (1, 0)) = (0, 0x0001000A#32) := by decide +kernel

end Sys2Proof.Tests
end

section
/-!
PROOFS. The register fields under writes and reads (chapter 00, R20 to R22), and the state after reset (R23).
-/
namespace Sys2Proof.Machine
open Sys2Proof

/-! ### The layout of a register's fields -/

/-- Two fields of a register share no bit. -/
def FSpec.apart (f g : FSpec) : Bool := decide (f.lsb + f.width ≤ g.lsb) || decide (g.lsb + g.width ≤ f.lsb)

/-- Fields that lie within the 32 bits of a register, no two of which share a bit (R12, R19). -/
def laidOut : List FSpec → Bool
  | [] => true
  | f :: r => decide (f.lsb + f.width ≤ 32) && r.all (fun g => f.apart g) && laidOut r

theorem FSpec.apart_iff {f g : FSpec} : f.apart g = true ↔ f.lsb + f.width ≤ g.lsb ∨ g.lsb + g.width ≤ f.lsb := by
  simp [FSpec.apart]

theorem FSpec.apart_symm {f g : FSpec} (h : f.apart g = true) : g.apart f = true :=
  FSpec.apart_iff.2 (FSpec.apart_iff.1 h).symm

theorem laidOut_cons {f : FSpec} {r : List FSpec} :
    laidOut (f :: r) = true ↔ f.lsb + f.width ≤ 32 ∧ (∀ g ∈ r, f.apart g = true) ∧ laidOut r = true := by
  simp only [laidOut, Bool.and_eq_true, decide_eq_true_eq, List.all_eq_true, and_assoc]

theorem fits_of_laidOut {f : FSpec} : ∀ {l : List FSpec}, laidOut l = true → f ∈ l → f.lsb + f.width ≤ 32
  | [], _, hf => nomatch hf
  | g :: r, hl, hf => by
    obtain ⟨hg, -, hr⟩ := laidOut_cons.1 hl
    rcases List.mem_cons.1 hf with rfl | hf
    · exact hg
    · exact fits_of_laidOut hr hf

theorem ite_laidOut {p : Prop} [Decidable p] {l m : List RegRow} (hl : l.all (fun r => laidOut r.fields) = true)
    (hm : m.all (fun r => laidOut r.fields) = true) : (if p then l else m).all (fun r => laidOut r.fields) = true := by
  split
  · exact hl
  · exact hm

/-- Each block of Table MAP-3 is checked row by row; the rows of the DRC and FQ blocks have the same fields in every copy of the block. -/
theorem blockRows_laidOut (a : Nat) : (blockRows a).all (fun r => laidOut r.fields) = true := by
  unfold blockRows
  iterate 22 refine ite_laidOut rfl ?_
  rfl

theorem fieldsAt_laidOut (a : Nat) : laidOut (fieldsAt a) = true := by
  unfold fieldsAt
  split
  next r hr => exact List.all_eq_true.1 (blockRows_laidOut a) r (List.mem_of_find?_eq_some hr)
  next => rfl

/-! ### A change of a word field by field -/

/-- A change of a word by a field of a register that leaves every other field as it was. -/
def OwnBits (a : Nat) (step : BitVec 32 → FSpec → BitVec 32) : Prop :=
  ∀ (f g : FSpec) (w : BitVec 32), f.lsb + f.width ≤ 32 → f.apart g = true → (f.fld a).of (step w g) = (f.fld a).of w

section
variable {a : Nat} {step : BitVec 32 → FSpec → BitVec 32} {f : FSpec}

/-- A field keeps its value through changes by fields that share no bit with it. -/
theorem of_foldl_apart (h : OwnBits a step) (hf : f.lsb + f.width ≤ 32) :
    ∀ (l : List FSpec) (w : BitVec 32), (∀ g ∈ l, f.apart g = true) → (f.fld a).of (l.foldl step w) = (f.fld a).of w
  | [], _, _ => rfl
  | g :: r, w, hl => by
    rw [List.foldl_cons, of_foldl_apart h hf r _ (fun k hk => hl k (List.mem_cons_of_mem g hk))]
    exact h f g w hf (hl g List.mem_cons_self)

/-- Of the changes by all fields of a register, a field sees its own change alone, on a word that still holds its first value. -/
theorem of_foldl_mem (h : OwnBits a step) :
    ∀ (l : List FSpec) (w : BitVec 32), laidOut l = true → f ∈ l →
      ∃ v, (f.fld a).of v = (f.fld a).of w ∧ (f.fld a).of (l.foldl step w) = (f.fld a).of (step v f)
  | [], _, _, hf => nomatch hf
  | g :: r, w, hl, hf => by
    obtain ⟨hg, hapart, hr⟩ := laidOut_cons.1 hl
    rcases List.mem_cons.1 hf with rfl | hf
    · exact ⟨w, rfl, of_foldl_apart h hg r _ hapart⟩
    · obtain ⟨v, hv, hstep⟩ := of_foldl_mem h r (step w g) hr hf
      exact ⟨v, hv.trans (h f g w (fits_of_laidOut hr hf) (FSpec.apart_symm (hapart f hf))), hstep⟩

end

theorem FSpec.of_into_apart {f g : FSpec} (a : Nat) (w : BitVec 32) (v : Nat) (hf : f.lsb + f.width ≤ 32) (h : f.apart g = true) :
    (f.fld a).of ((g.fld a).into w v) = (f.fld a).of w :=
  Fld.of_into_other (f.fld a) (g.fld a) w v (FSpec.apart_iff.1 h) hf

/-- A field takes a value that its width holds. -/
theorem FSpec.of_into_of_lt {f : FSpec} (a : Nat) (w : BitVec 32) {v : Nat} (hf : f.lsb + f.width ≤ 32) (hv : v < 2 ^ f.width) :
    (f.fld a).of ((f.fld a).into w v) = v :=
  (Fld.of_into_same (f.fld a) w v hf).trans (Nat.mod_eq_of_lt hv)

theorem FSpec.of_fld_lt (f : FSpec) (a : Nat) (w : BitVec 32) : (f.fld a).of w < 2 ^ f.width :=
  Nat.mod_lt _ (Nat.two_pow_pos _)

/-! ### A write -/

theorem FSpec.write_ownBits (a : Nat) (old new : BitVec 32) : OwnBits a (fun w g => g.write a old new w) := by
  intro f g w hf h
  dsimp only [FSpec.write]
  split
  case h_4 => rfl
  all_goals exact FSpec.of_into_apart a w _ hf h

section
variable {f : FSpec} {a : Nat} (old new w : BitVec 32) (hf : f.lsb + f.width ≤ 32)
include hf

theorem FSpec.of_write_rw (h : f.acc = .rw) : (f.fld a).of (f.write a old new w) = (f.fld a).of new := by
  simpa only [FSpec.write, h] using FSpec.of_into_of_lt a w hf (f.of_fld_lt a new)

theorem FSpec.of_write_w1c (h : f.acc = .w1c) :
    (f.fld a).of (f.write a old new w) = (f.fld a).of old &&& (2 ^ f.width - 1 - (f.fld a).of new) := by
  simpa only [FSpec.write, h] using FSpec.of_into_of_lt a w hf (lt_of_le_of_lt Nat.and_le_left (f.of_fld_lt a old))

theorem FSpec.of_write_w1s (h : f.acc = .w1s) : (f.fld a).of (f.write a old new w) = (f.fld a).of old ||| (f.fld a).of new := by
  simpa only [FSpec.write, h] using FSpec.of_into_of_lt a w hf (Nat.or_lt_two_pow (f.of_fld_lt a old) (f.of_fld_lt a new))

end

/-- RO, WO and RC fields do not take the written bits. -/
theorem FSpec.write_ignored {f : FSpec} (a : Nat) (old new w : BitVec 32) (h : f.acc = .ro ∨ f.acc = .wo ∨ f.acc = .rc) :
    f.write a old new w = w := by
  rcases h with h | h | h <;> simp only [FSpec.write, h]

theorem State.word_plainWrite (s : State) (core a : Nat) (new : BitVec 32) (hs : s.canonical = true) :
    (s.plainWrite core a new).word (keyOf core a) =
      (fieldsAt a).foldl (fun w f => f.write a (s.word (keyOf core a)) new w) (s.word (keyOf core a)) :=
  State.word_setWord_same s _ _ hs

/-- A field of a written register holds what its own write leaves, on a word that held its value before. -/
theorem State.of_plainWrite (s : State) (core a : Nat) (new : BitVec 32) {f : FSpec} (hs : s.canonical = true) (hf : f ∈ fieldsAt a) :
    ∃ v, (f.fld a).of v = (f.fld a).of (s.word (keyOf core a)) ∧
      (f.fld a).of ((s.plainWrite core a new).word (keyOf core a)) = (f.fld a).of (f.write a (s.word (keyOf core a)) new v) := by
  rw [State.word_plainWrite s core a new hs]
  exact of_foldl_mem (FSpec.write_ownBits a _ new) _ _ (fieldsAt_laidOut a) hf

/-! ### A read -/

/-- What a read does to one field of a word. -/
def readField (a : Nat) (w : BitVec 32) (f : FSpec) : BitVec 32 :=
  if f.acc == .rc then (f.fld a).into w ((f.fld a).of (resetWord a)) else w

theorem readField_ownBits (a : Nat) : OwnBits a (readField a) := by
  intro f g w hf h
  unfold readField
  split
  · exact FSpec.of_into_apart a w _ hf h
  · rfl

theorem State.readClear_of_no_rc (s : State) (core a : Nat) (h : ∀ f ∈ fieldsAt a, f.acc ≠ .rc) : s.readClear core a = s := by
  have hnil : (fieldsAt a).filter (fun f => f.acc == .rc) = [] := by
    simpa only [List.filter_eq_nil_iff, beq_iff_eq] using h
  simp only [State.readClear, hnil, List.isEmpty_nil, if_true]

/-- A read works on the fields of its register one by one. -/
theorem State.word_readClear (s : State) (core a : Nat) (hs : s.canonical = true) :
    (s.readClear core a).word (keyOf core a) = (fieldsAt a).foldl (readField a) (s.word (keyOf core a)) := by
  have hfold : (fieldsAt a).foldl (readField a) (s.word (keyOf core a)) =
      ((fieldsAt a).filter (fun f => f.acc == .rc)).foldl (fun w f => (f.fld a).into w ((f.fld a).of (resetWord a)))
        (s.word (keyOf core a)) := List.foldl_filter.symm
  unfold State.readClear
  rw [hfold]
  dsimp only
  split
  next hnil => rw [List.isEmpty_iff.1 hnil, List.foldl_nil]
  next => exact State.word_setWord_same s _ _ hs

/-- A field of a register that was read holds what its own read leaves, on a word that held its value before. -/
theorem State.of_readClear (s : State) (core a : Nat) {f : FSpec} (hs : s.canonical = true) (hf : f ∈ fieldsAt a) :
    ∃ v, (f.fld a).of v = (f.fld a).of (s.word (keyOf core a)) ∧
      (f.fld a).of ((s.readClear core a).word (keyOf core a)) = (f.fld a).of (readField a v f) := by
  rw [State.word_readClear s core a hs]
  exact of_foldl_mem (readField_ownBits a) _ _ (fieldsAt_laidOut a) hf

theorem State.word_readClear_other (s : State) (core a k : Nat) (hs : s.canonical = true) (hk : k ≠ keyOf core a) :
    (s.readClear core a).word k = s.word k := by
  unfold State.readClear
  dsimp only
  split
  · rfl
  · exact State.word_setWord_other s _ k _ hk hs

@[simp] theorem State.took_regs (s : State) (v : Nat) : (s.took v).regs = s.regs := rfl

@[simp] theorem State.took_readData (s : State) (v : Nat) : (s.took v).access.readData = v := rfl

theorem inRegSpace_of_servedShape {a b : Nat} (h : servedShape a b = true) : inRegSpace a = true :=
  (Bool.and_eq_true_iff.1 h).2

/-- A core's load that its MPU permits, of a register in a domain that serves it (R1121): the register's word, its RC fields cleared. -/
theorem exec_registerReadClear_served {s u : State} {c a b ep us : Nat} {p1 : Bool} (hu : u = s.at us) (hc : c < 2) (hp : p1 = false ∨ c = 1)
    (hd : u.domIn (49 + c) = true) (hm : u.coreRefused c p1 0 a = false) (hs : servedShape a b = true) (hk : u.regDark a = false)
    (he : u.staleFor a ep = false) :
    exec (.registerReadClear c a b p1 ep us) s = .next ((u.readClear c a).took (u.readWord c a).toNat) := by
  subst hu
  have hruns : ¬ (2 ≤ c ∨ (p1 = true ∧ c = 0) ∨ (s.at us).domIn (49 + c) = false) := by
    rintro (h | ⟨h, h0⟩ | h)
    · omega
    · rcases hp with hp | hp
      · simp [hp] at h
      · omega
    · simp [hd] at h
  change execRegisterReadClear c a b p1 ep us s = _
  simp only [execRegisterReadClear, hruns, hm, inRegSpace_of_servedShape hs, hs, hk, he, if_false, Bool.false_eq_true, Bool.true_eq_false]

/-! ### The obligations -/

/-- Settles O59: the fields of a register share no bit, so that a write or a read of the register is on each field its own change alone. -/
theorem fieldAccessTypes : Obligations.FieldAccessTypes := by
  unfold Obligations.FieldAccessTypes
  refine ⟨?write, ?elsewhere, ?read, State.readClear_of_no_rc, ?load⟩
  case write =>
    rintro s t core a w f x hs hf rfl rfl
    have hfit := fits_of_laidOut (fieldsAt_laidOut a) hf
    obtain ⟨v, hv, hw⟩ := s.of_plainWrite core a w hs hf
    rw [hw]
    refine ⟨FSpec.of_write_rw _ w v hfit, FSpec.of_write_w1c _ w v hfit, FSpec.of_write_w1s _ w v hfit, fun h => ?_⟩
    rw [FSpec.write_ignored a _ w v h, hv]
  case elsewhere =>
    intro s core a k w hs hk
    exact ⟨State.word_setWord_other s _ k _ hk hs, s.word_readClear_other core a k hs hk⟩
  case read =>
    rintro s t core a f x hs hf rfl rfl
    have hfit := fits_of_laidOut (fieldsAt_laidOut a) hf
    obtain ⟨v, hv, hr⟩ := s.of_readClear core a hs hf
    rw [hr]
    constructor
    · intro h
      simpa only [readField, h, beq_self_eq_true, if_true] using FSpec.of_into_of_lt a v hfit (f.of_fld_lt a (resetWord a))
    · intro h
      simpa only [readField, beq_iff_eq, h, if_false] using hv
  case load =>
    intro s u c a ep us hu hc hd hm hshape hdark hstale
    exact ⟨_, exec_registerReadClear_served hu hc (.inl rfl) hd hm hshape hdark hstale, State.took_regs _ _, State.took_readData _ _⟩

theorem State.reset_canonical : State.reset.canonical = true := rfl

/-- The register file after reset lists no word, so that each key holds the reset word of its register, in both banks. -/
theorem State.reset_word (a : Nat) : State.reset.word a = resetWord (a % 0x100000000) := rfl

/-- Settles O2: the register file after reset is empty; the reset words named are those of Table MAP-3. -/
theorem resetState : Obligations.ResetState := by
  unfold Obligations.ResetState
  refine ⟨State.reset_canonical, rfl, State.reset_word, ?_, ?_, ?_, ?_, ?_, ?_, rfl, rfl, rfl, rfl⟩ <;> decide +kernel

end Sys2Proof.Machine
end

section
/-!
PROOFS. What meets every line before its command acts (chapters 02, 03 and 19: R82, R147, R173, R176, R178, R201, R975).
-/
namespace Sys2Proof.Machine
open Sys2Proof

/-! ### Lines as rows -/

/-- The row `i` is a line that says `c`: once the checks of its form `f` let it, it runs `body`. OPERATOR may use the form, and a path without a
role may not (R178). -/
structure LineRow (i : Instr) (c : Say) (ln : Ln) (us : Nat) (f : Form) (body : State → State × Result) : Prop where
  exec_eq : ∀ s, exec i s = s.cmd c ln us f body
  operator : f.allows .operator = true
  nobody : f.allows .none = false

/-- A body that only reads: it answers at once, with OK or ER, and leaves the state as it is. -/
def ReadsOnly (body : State → State × Result) : Prop :=
  ∀ t, (∃ d kv, body t = (t, .ok d kv)) ∨ ∃ st, body t = (t, .fail st)

/-- Changing commands, each of another chapter. -/
noncomputable def changingLines (ln : Ln) (p us : Nat) (a : EccAttrs) : List (Instr × Say) :=
  [(.pocketDelete ln p us, .pocketDelete p us), (.queueDelete ln p us, .queueDelete p us), (.twinSwap ln us, .twinSwap us), (.eccCfg ln a us, .eccCfg a us),
   (.ringCfg ln none false none none none us, .ringCfg none false none none none us)]

/-- Reading commands, each of another chapter. -/
noncomputable def readingLines (ln : Ln) (p us : Nat) : List (Instr × Say) :=
  [(.pocketShow ln p us, .pocketShow p us), (.queueShow ln p us, .queueShow p us), (.lifeShow ln us, .lifeShow us), (.linkShow ln us, .linkShow us),
   (.dramShow ln us, .dramShow us)]

section
variable {s : State} {c : Say} {ln : Ln} {us p : Nat} {a : EccAttrs} {x : Instr × Say} {f : Form} {body : State → State × Result}

theorem readsOnly_ok (d : State → List (List KV)) (kv : State → List KV) : ReadsOnly (fun t => (t, .ok (d t) (kv t))) :=
  fun t => .inl ⟨d t, kv t, rfl⟩

theorem readsOnly_ite (b : Prop) [Decidable b] (st : Status) (kv : State → List KV) :
    ReadsOnly (fun t => if b then (t, .fail st) else (t, .ok [] (kv t))) := by
  intro t
  split
  · exact .inr ⟨st, rfl⟩
  · exact .inl ⟨[], kv t, rfl⟩

theorem changingLines_row (hx : x ∈ changingLines ln p us a) : ∃ f body, LineRow x.1 x.2 ln us f body ∧ f.changing = true := by
  simp only [changingLines, List.mem_cons, List.not_mem_nil, or_false] at hx
  rcases hx with rfl | rfl | rfl | rfl | rfl <;> exact ⟨_, _, ⟨fun _ => rfl, rfl, rfl⟩, rfl⟩

theorem readingLines_row (hx : x ∈ readingLines ln p us) :
    ∃ f body, LineRow x.1 x.2 ln us f body ∧ f.changing = false ∧ ReadsOnly body := by
  simp only [readingLines, List.mem_cons, List.not_mem_nil, or_false] at hx
  rcases hx with rfl | rfl | rfl | rfl | rfl
  · exact ⟨_, _, ⟨fun _ => rfl, rfl, rfl⟩, rfl, readsOnly_ite (255 < p) .badArg _⟩
  · exact ⟨_, _, ⟨fun _ => rfl, rfl, rfl⟩, rfl, readsOnly_ite (1023 < p) .badArg _⟩
  all_goals exact ⟨_, _, ⟨fun _ => rfl, rfl, rfl⟩, rfl, readsOnly_ok _ _⟩

/-! ### A line that is not taken up -/

theorem State.cmd_missed (h : (s.at us).ripe (c.waited ln) ln.rx = false ∨ (s.at us).says c ln = false) :
    s.cmd c ln us f body = .next ((s.at us).missed c ln) := by
  have hb : ((s.at us).ripe (c.waited ln) ln.rx && (s.at us).says c ln) = false := Bool.and_eq_false_iff.2 h
  simp only [State.cmd, State.runLine, hb, Bool.not_false, if_true]

theorem State.missed_deaf (h : s.hears ln.path = false) : s.missed c ln = s := by
  simp only [State.missed, h, Bool.not_false, if_true]

theorem State.missed_said (h : s.hears ln.path = true) (hs : s.says c ln = true) : s.missed c ln = s.keepLine (c.waited ln) ln.rx := by
  simp only [State.missed, h, hs, Bool.not_true, Bool.false_eq_true, if_false, if_true]

theorem State.missed_unsaid (h : s.hears ln.path = true) (hs : s.says c ln = false) :
    s.missed c ln = if ln.path = .mgt then s.heard .mgt ln.rx else s := by
  simp only [State.missed, h, hs, Bool.not_true, Bool.false_eq_true, if_false]

/-! ### A line that is taken up -/

/-- A line that a check turns away. -/
theorem State.cmd_turned {r : Result} (hr : (s.at us).ripe (c.waited ln) ln.rx = true) (hs : (s.at us).says c ln = true)
    (hg : (s.taken ln us).gate ln.path f false = some r) : s.cmd c ln us f body = .next ((s.taken ln us).turnAway ln r) := by
  simp only [State.taken] at hg ⊢
  simp only [State.cmd, State.runLine, hr, hs, hg, Bool.and_self, Bool.not_true, Bool.false_eq_true, if_false]

/-- A line whose own arguments are out of order (R147). -/
theorem State.cmd_bad (hr : (s.at us).ripe (c.waited ln) ln.rx = true) (hs : (s.at us).says c ln = true)
    (hg : (s.taken ln us).gate ln.path f false = none) (hb : ln.bad = true) :
    s.cmd c ln us f body = .next ((s.taken ln us).answer ln f (.fail .badArg)) := by
  simp only [State.taken] at hg ⊢
  simp only [State.cmd, State.runLine, hr, hs, hg, hb, Bool.and_self, Bool.not_true, Bool.false_eq_true, if_false, if_true]

variable {q : Path}

theorem State.gate_not_started (h : s.ready = false) (hr : s.removing = false) : s.gate q f false = some .busy := by
  simp only [State.gate, h, hr, Bool.not_false, Bool.and_self, if_true]

theorem State.gate_role (h : s.ready = true) (ha : f.allows (s.roleOf q) = false) : s.gate q f false = some (.fail .role) := by
  simp only [State.gate, h, ha, Bool.not_true, Bool.not_false, Bool.false_and, Bool.false_eq_true, if_false, if_true]

section
variable (hf : f.changing = true) (ha : f.allows (s.roleOf q) = true)
include hf ha

theorem State.gate_not_ready (h : s.ready = false) (hr : s.removing = true) : s.gate q f false = some (.fail .notReady) := by
  simp only [State.gate, h, hr, hf, ha, Bool.not_true, Bool.not_false, Bool.and_false, Bool.false_and, Bool.and_self, Bool.false_eq_true, if_false, if_true]

theorem State.gate_locked (h : s.ready = true) (hl : s.locked = true) : s.gate q f false = some .busy := by
  simp only [State.gate, h, hl, hf, ha, Bool.not_true, Bool.and_false, Bool.false_and, Bool.true_or, Bool.and_self, Bool.false_eq_true, if_false, if_true]

end

/-- After READY, and with no removal under way, only LIMP turns a reading line away. -/
theorem State.gate_reading (hf : f.changing = false) (ha : f.allows (s.roleOf q) = true) (h : s.ready = true) (hr : s.removing = false) :
    s.gate q f false = if s.limpNeeds f then some (.fail .wrongState) else none := by
  simp only [State.gate, h, hr, hf, ha, Bool.not_true, Bool.false_and, Bool.false_eq_true, if_false]

theorem State.limpNeeds_of_not_limp (h : s.limp = false) : s.limpNeeds f = false := by
  simp only [State.limpNeeds, State.limpDomain, h, Bool.not_false, if_true]

/-- A reading line is answered at once, by OK or ER; outside LIMP one whose arguments are out of order by BAD_ARG. -/
theorem State.cmd_reading (hc : ReadsOnly body) (hf : f.changing = false) (hr : (s.at us).ripe (c.waited ln) ln.rx = true)
    (hs : (s.at us).says c ln = true) (ha : f.allows ((s.taken ln us).roleOf ln.path) = true) (h : (s.taken ln us).ready = true)
    (hm : (s.taken ln us).removing = false) :
    ∃ r, s.cmd c ln us f body = .next ((s.taken ln us).reply ln.path r) ∧ r ≠ .bz ln.tag ∧
      ((s.taken ln us).limp = false → ln.bad = true → r = .er ln.tag .badArg) := by
  have hg := State.gate_reading hf ha h hm
  cases hn : (s.taken ln us).limpNeeds f
  case true =>
    refine ⟨_, State.cmd_turned hr hs (hg.trans (by rw [hn]; rfl)), Reply.noConfusion, fun hl => ?_⟩
    rw [State.limpNeeds_of_not_limp hl] at hn
    cases hn
  case false =>
    have hpass : (s.taken ln us).gate ln.path f false = none := hg.trans (by rw [hn]; rfl)
    cases hb : ln.bad
    case true =>
      refine ⟨.er ln.tag .badArg, ?_, Reply.noConfusion, fun _ _ => rfl⟩
      rw [State.cmd_bad hr hs hpass hb]
      simp only [State.answer, State.settled, hf, Bool.false_eq_true, if_false]
    case false =>
      have hruns : s.runs c ln us f false := ⟨⟨hr, hb, hpass⟩, hs⟩
      rcases hc (s.taken ln us) with ⟨d, kv, hbody⟩ | ⟨st, hbody⟩
      · exact ⟨_, State.cmd_ok hruns hf hbody, Reply.noConfusion, fun _ hbad => nomatch hbad⟩
      · exact ⟨_, State.cmd_fail hruns hf hbody, Reply.noConfusion, fun _ hbad => nomatch hbad⟩

end

/-- Settles O6: every command of the ten is a line's row, so the checks of R975 decide it before its body does. -/
theorem lineAdmission : Obligations.LineAdmission := by
  unfold Obligations.LineAdmission
  refine ⟨?every, ?changing, ?reading, rfl, rfl, rfl⟩
  case every =>
    intro s ln p us a x hx
    obtain ⟨f, body, row⟩ : ∃ f body, LineRow x.1 x.2 ln us f body := by
      rcases List.mem_append.1 (show x ∈ changingLines ln p us a ++ readingLines ln p us from hx) with hx | hx
      · obtain ⟨f, body, row, -⟩ := changingLines_row hx
        exact ⟨f, body, row⟩
      · obtain ⟨f, body, row, -⟩ := readingLines_row hx
        exact ⟨f, body, row⟩
    rw [row.exec_eq]
    refine ⟨fun hmiss => ?_, ?_⟩
    · rw [State.cmd_missed hmiss]
      exact ⟨fun h => by rw [State.missed_deaf h], fun h hs => by rw [State.missed_said h hs], fun h hs => by rw [State.missed_unsaid h hs]⟩
    · rintro u rfl hr hs
      refine ⟨fun h hm => State.cmd_turned hr hs (State.gate_not_started h hm), fun h hrole => State.cmd_turned hr hs (State.gate_role h ?_)⟩
      rw [hrole, row.nobody]
  case changing =>
    rintro s u ln p us a x hx rfl hr hs hrole
    obtain ⟨f, body, row, hf⟩ := changingLines_row hx
    rw [row.exec_eq]
    have ha : f.allows ((s.taken ln us).roleOf ln.path) = true := hrole ▸ row.operator
    exact ⟨fun h hm => State.cmd_turned hr hs (State.gate_not_ready hf ha h hm), fun h hl => State.cmd_turned hr hs (State.gate_locked hf ha h hl)⟩
  case reading =>
    rintro s u ln p us x hx rfl hr hs hrole h hm
    obtain ⟨f, body, row, hf, hc⟩ := readingLines_row hx
    rw [row.exec_eq]
    exact State.cmd_reading hc hf hr hs (hrole ▸ row.operator) h hm

end Sys2Proof.Machine
end

section
/-!
PROOFS. Supply, crystal and what the resets leave (chapter 02: R64, R69, R70, R79, R103, R104, R109, R123; R1157, R1166).
-/
namespace Sys2Proof.Machine
open Sys2Proof

/-! ### Power-on reset -/

/-- A choice between two states that agree in a part has that part. -/
theorem ite_part {β : Type} {b : Prop} [Decidable b] (g : State → β) {t u : State} (h : g t = g u) : g (if b then t else u) = g u := by
  split
  · exact h
  · rfl

section
variable (s : State)

@[simp] theorem State.powerOff_regs : s.powerOff.regs = [] := ite_part State.regs rfl
@[simp] theorem State.powerOff_pending : s.powerOff.pending = s.pending := ite_part State.pending rfl
@[simp] theorem State.powerOff_execs : s.powerOff.execs = [] := ite_part State.execs rfl
@[simp] theorem State.powerOff_cache : s.powerOff.cache = Cache.reset := ite_part State.cache rfl
@[simp] theorem State.powerOff_htg : s.powerOff.htg = Htg.reset := ite_part State.htg rfl
@[simp] theorem State.powerOff_keys : s.powerOff.keys = s.keys.kept := ite_part State.keys rfl
@[simp] theorem State.powerOff_lin : s.powerOff.lin = { Lining.reset with desc := s.lin.desc, cdetLowUs := s.lin.cdetLowUs } := ite_part State.lin rfl
@[simp] theorem State.powerOff_life : s.powerOff.life = { Life.reset with copies := s.senseLife, tapIn := s.life.tapIn, tap := s.life.tap } :=
  ite_part State.life rfl
@[simp] theorem State.powerOff_boot : s.powerOff.boot = { Boot.reset with
    supply := s.boot.supply, fuseSerial := s.boot.fuseSerial, fuseCode := s.boot.fuseCode, sleeveHigh := s.boot.sleeveHigh } := ite_part State.boot rfl

/-- A journal update that is cut programs pages into the copy that is not in use; the image in use stands (R638). -/
@[simp] theorem Keys.kept_image (k : Keys) : k.kept.image = k.image := by
  unfold Keys.kept
  dsimp only
  split
  · split <;> rfl
  · rfl

/-! ### The ladder's start -/

@[simp] theorem State.showPhase_boot : s.showPhase.boot = s.boot := by
  unfold State.showPhase
  split
  · rfl
  · split <;> rfl

@[simp] theorem State.recordReset_boot (k : ResetKind) (cs : List Nat) : (s.recordReset k cs).boot = s.boot := rfl

theorem State.powerOn_boot (us : Nat) : (s.powerOn us).boot = { s.boot with
    onUs := us, running := true, done := [.release], kind := .powerOn, triggerUs := us, ready := false } := by
  simp only [State.powerOn, State.startLadder, State.recordReset_boot, State.showPhase_boot, State.set_boot]

/-! ### Supply and crystal -/

variable {s} (ns us : Nat)

theorem exec_supplyGoodRise_of_low (h : s.boot.supply = false) : exec (.supplyGoodRise us) s =
    .next (State.powerOn { s.at us with boot := { s.boot with supply := true } } us) := by
  change execSupplyGoodRise us s = _
  simp only [execSupplyGoodRise, State.at_boot, h, Bool.false_eq_true, if_false]

theorem exec_supplyGoodRise_of_high (h : s.boot.supply = true) : exec (.supplyGoodRise us) s = .next (s.at us) := by
  change execSupplyGoodRise us s = _
  simp only [execSupplyGoodRise, State.at_boot, h, if_true]

theorem exec_supplyGoodFall_long (h : s.boot.supply = true) (hns : 1000 ≤ ns) : exec (.supplyGoodFall ns us) s =
    .next { (s.at us).powerOff with boot := { (s.at us).powerOff.boot with supply := false } } := by
  change execSupplyGoodFall ns us s = _
  simp only [execSupplyGoodFall, State.at_boot, h, Nat.not_lt.2 hns, Bool.true_eq_false, or_self, if_false]

theorem exec_supplyGoodFall_short (hns : ns < 1000) : exec (.supplyGoodFall ns us) s = .next (s.at us) := by
  change execSupplyGoodFall ns us s = _
  simp only [execSupplyGoodFall, hns, true_or, if_true]

theorem exec_crystalLoss_long (h : s.boot.supply = true) (hx : s.boot.xtalLost = false) (hok : (s.at us).flag SYS_CLKSTAT.XTAL_OK = true)
    (hns : 5000 ≤ ns) : exec (.crystalLoss ns us) s =
    .next (State.set { (s.at us).powerOff with boot := { (s.at us).powerOff.boot with xtalLost := true } } SYS_RSTCAUSE.POWER_ON 1) := by
  change execCrystalLoss ns us s = _
  simp only [execCrystalLoss, State.at_boot, h, hx, hok, Nat.not_lt.2 hns, Bool.true_eq_false, Bool.false_eq_true, or_self, if_false]

theorem exec_crystalLoss_short (hns : ns < 5000) : exec (.crystalLoss ns us) s = .next (s.at us) := by
  change execCrystalLoss ns us s = _
  simp only [execCrystalLoss, hns, true_or, if_true]

theorem exec_crystalRecovery_of_lost (h : s.boot.supply = true) (hx : s.boot.xtalLost = true) : exec (.crystalRecovery us) s =
    .next (State.powerOn { s.at us with boot := { s.boot with xtalLost := false } } us) := by
  change execCrystalRecovery us s = _
  simp only [execCrystalRecovery, State.at_boot, h, hx, and_self, if_true]

end

/-- Settles O27: a fall or a loss that lasts puts every domain into power-on reset; the supply's rise and the crystal's recovery start the ladder. -/
theorem supplyAndCrystalEvents : Obligations.SupplyAndCrystalEvents := by
  unfold Obligations.SupplyAndCrystalEvents
  refine ⟨?rise, ?fall, ?loss, ?recovery, ?ladder⟩
  case rise => exact fun s us => ⟨exec_supplyGoodRise_of_low us, exec_supplyGoodRise_of_high us⟩
  case fall =>
    intro s ns us h
    refine ⟨fun hns => ⟨_, exec_supplyGoodFall_long ns us h hns, ?_⟩, exec_supplyGoodFall_short ns us⟩
    simp [Boot.reset, Cache.reset]
  case loss =>
    intro s ns us h hx hok
    refine ⟨fun hns => ⟨_, exec_crystalLoss_long ns us h hx hok hns, ?_⟩, exec_crystalLoss_short ns us⟩
    have hcause : ∀ t : State, t.regs = [] → (t.set SYS_RSTCAUSE.POWER_ON 1).flag SYS_RSTCAUSE.POWER_ON = true := by
      intro t ht
      unfold State.flag
      rw [State.get_set_same _ _ _ (by decide) (by rw [ht]; rfl)]
      rfl
    refine ⟨rfl, ?_, ?_, hcause _ (State.powerOff_regs _), State.powerOff_execs _⟩
    · simp [h]
    · simp [Boot.reset]
  case recovery => exact fun s us => exec_crystalRecovery_of_lost us
  case ladder =>
    intro s us
    exact ⟨_, rfl, by simp only [State.powerOn_boot, and_self]⟩

end Sys2Proof.Machine
end

section
/-!
PROOFS. What a reset records and what it leaves (chapter 02: R103, R104, R109, R123).
-/
namespace Sys2Proof.Machine
open Sys2Proof

/-! ### Leaving the ring -/

/-- What the start-up, the twinset, the commands, the cache and the Collar's session hold is the same: a card that leaves the ring changes none of it
(R843). -/
structure SameOffRing (s t : State) : Prop where
  boot : t.boot = s.boot
  twin : t.twin = s.twin
  execs : t.execs = s.execs
  cache : t.cache = s.cache
  refusals : t.refusals = s.refusals
  collar : t.col.collar = s.col.collar

section
variable {s t : State}

theorem SameOffRing.refl (s : State) : SameOffRing s s := ⟨rfl, rfl, rfl, rfl, rfl, rfl⟩

theorem SameOffRing.setWord (h : SameOffRing s t) (a : Nat) (v : BitVec 32) : SameOffRing s (t.setWord a v) := ⟨h.boot, h.twin, h.execs, h.cache, h.refusals, h.collar⟩

theorem SameOffRing.set (h : SameOffRing s t) (f : Fld) (v : Nat) : SameOffRing s (t.set f v) := h.setWord _ _

theorem SameOffRing.noMantle (h : SameOffRing s t) : SameOffRing s t.noMantle := ⟨h.boot, h.twin, h.execs, h.cache, h.refusals, h.collar⟩

theorem SameOffRing.setHop (h : SameOffRing s t) (p : Nat) (x : Hop) : SameOffRing s (t.setHop p x) := by
  unfold State.setHop
  split <;> exact ⟨h.boot, h.twin, h.execs, h.cache, h.refusals, h.collar⟩

theorem SameOffRing.closePort (h : SameOffRing s t) (ph : HopPhase) (p : Nat) : SameOffRing s (t.closePort ph p) :=
  (((((((h.setHop _ _).setHop _ _).set _ _).set _ _).set _ _).set _ _).set _ _).set _ _

theorem SameOffRing.resetWords (h : SameOffRing s t) (as : List Nat) : SameOffRing s (as.foldl (fun t a => t.setWord a (resetWord a)) t) := by
  induction as generalizing t with
  | nil => exact h
  | cons a as ih => exact ih (h.setWord _ _)

theorem State.lapsePair_of_no_offer (h : s.twin.offer = none) : s.lapsePair = s := by
  simp only [State.lapsePair, h]

theorem SameOffRing.tokenGone (h : SameOffRing s t) (ho : s.twin.offer = none) :
    SameOffRing s (State.lapsePair { t with seam := { t.seam with tokenUs := none } }) := by
  rw [State.lapsePair_of_no_offer (by rw [← ho, ← h.twin])]
  exact ⟨h.boot, h.twin, h.execs, h.cache, h.refusals, h.collar⟩

/-- The ring is left where no pairing is pending. -/
theorem SameOffRing.leaveRing (h : SameOffRing s t) (n : Nat) (ho : s.twin.offer = none) : SameOffRing s (t.leaveRing n) := by
  unfold State.leaveRing
  extract_lets ph s1 s2
  exact (((((h.closePort (ph 0) 0).closePort (ph 1) 1).set _ _).set _ _).noMantle).tokenGone ho

theorem SameOffRing.seamCheck (h : SameOffRing s t) (ho : s.twin.offer = none) : SameOffRing s t.seamCheck := by
  unfold State.seamCheck
  split <;> split
  · exact h.leaveRing 1 ho
  · exact h
  · exact h
  · exact h.leaveRing 0 ho

/-! ### A reset begins -/

theorem State.readyLow_boot (h : s.twin.offer = none) : s.readyLow.boot = { s.boot with ready := false } :=
  ((SameOffRing.refl _).set SYS_BOOTSTAT.READY 0 |>.seamCheck (s := { s with boot := { s.boot with ready := false } }) h).boot

theorem State.beginReset_first_boot (k : ResetKind) (cause : Nat) (ho : s.twin.offer = none) (hp : s.boot.pending = none) :
    (s.beginReset k cause).boot = { s.boot with pending := some { kind := k, causes := [cause] }, ready := false } := by
  simp only [State.beginReset, hp]
  exact State.readyLow_boot ho

theorem State.beginReset_further_pending (k : ResetKind) (cause : Nat) {p : PendingReset} (hp : s.boot.pending = some p) :
    (s.beginReset k cause).boot.pending = some (if p.causes.contains cause then p else { p with causes := p.causes ++ [cause] }) := by
  simp only [State.beginReset, hp]
  split
  · exact hp
  · rfl

/-! ### A warm reset -/

/-- After the loss of the core (R103) a warm reset sets registers and leaves the ring; the loss has taken any pairing that was pending. -/
theorem State.warmReset_left (s : State) : ∃ t : State, SameOffRing t s.warmReset ∧ t.execs = [] ∧ t.cache = Cache.reset ∧ t.refusals = [] ∧
    t.col.collar = Session.start .operator ∧ t.boot.ready = false ∧ t.boot.pending = none := by
  unfold State.warmReset
  extract_lets s0 c r _ _ _ _ _ s1 s2 s3 s4
  clear_value s0
  refine ⟨s1, ?_, rfl, rfl, rfl, rfl, rfl, rfl⟩
  have hs2 : SameOffRing s1 s2 := (SameOffRing.refl s1).resetWords sleeveStatusRegs
  have hs4 : SameOffRing s1 s4 := (((((((hs2.set _ _).set _ _).set _ _).set _ _).set _ _).set _ _).set _ _).set _ _
  exact ((hs4.set _ _).set _ _).leaveRing 0 rfl

end

/-- Settles O31: a reset that is asked for waits with its causes for the reset point; the warm reset and power-on reset lose what D01 to D50 held. -/
theorem resetsLeave : Obligations.ResetsLeave := by
  unfold Obligations.ResetsLeave
  refine ⟨?first, ?further, ?warm, ?power⟩
  case first =>
    intro s k c ho hp
    rw [State.beginReset_first_boot k c ho hp]
    exact ⟨rfl, rfl⟩
  case further => exact fun s k c p hp => State.beginReset_further_pending k c hp
  case warm =>
    intro s
    obtain ⟨t, h, hexecs, hcache, hrefusals, hcollar, hready, hpending⟩ := s.warmReset_left
    rw [h.execs, h.cache, h.refusals, h.collar, h.boot, hcache]
    exact ⟨hexecs, rfl, hrefusals, hcollar, hready, hpending⟩
  case power =>
    intro s
    simp only [State.powerOff_regs, State.powerOff_execs, State.powerOff_htg, State.powerOff_pending, State.powerOff_boot, State.powerOff_lin,
      State.powerOff_keys, Keys.kept_image, and_self]

end Sys2Proof.Machine
end

section
/-!
PROOFS. The rows of the start-up ladder on D00 and the fabric (chapter 02: R76, R79, R105, R110, R114; R508, R509, R527, R708, R709). Each row of
the ladder is a choice on `State.rowDue`: what it does when it is due is its own effect, and otherwise it changes nothing.
-/
namespace Sys2Proof.Machine
open Sys2Proof

/-- A row of the ladder that is due takes effect. -/
theorem row_due {α : Type} {b : Bool} {idle effect : α} (h : b = true) : (if !b then idle else effect) = effect := if_neg (by simp only [h]; decide)

/-- A row of the ladder that is not due changes nothing. -/
theorem row_not_due {α : Type} {b : Bool} {idle effect : α} (h : b = false) : (if !b then idle else effect) = idle := if_pos (by rw [h]; rfl)

theorem State.rowDue_of_not_running {s : State} (us : Nat) (h : s.boot.running = false) (r : BootRow) : (s.at us).rowDue r = false := by
  simp only [State.rowDue, State.at_boot, h, Bool.false_and]

theorem exec_aonRelease (p : Straps) (high : Bool) (us : Nat) (s : State) : exec (.aonRelease p high us) s = execAonRelease p high us s := rfl

/-- PASS has a bit for each of the three checkers, by the rows of Table SDP-2, that is not among the failed. -/
theorem sum_passed (failed : List (Nat × Nat)) :
    (((List.range 3).filter (fun j => !failed.any (fun x => x.1 == j))).map (fun j => 2 ^ j)).sum =
      (if failed.any (fun x => x.1 == 0) then 0 else 2 ^ 0) + (if failed.any (fun x => x.1 == 1) then 0 else 2 ^ 1) +
        (if failed.any (fun x => x.1 == 2) then 0 else 2 ^ 2) := by
  have hrange : List.range 3 = [0, 1, 2] := rfl
  rw [hrange]
  cases h0 : failed.any (fun x => x.1 == 0) <;> cases h1 : failed.any (fun x => x.1 == 1) <;> cases h2 : failed.any (fun x => x.1 == 2) <;>
    simp [h0, h1, h2]

/-- Settles O28: a row that is due takes its effect, and where the ladder does not run none is due. -/
theorem ladderRows : Obligations.LadderRows := by
  unfold Obligations.LadderRows
  refine ⟨?aon, ?pll, ?fuse, ?sram, ?check, ?tailor, ?banner, ?idle⟩
  case aon =>
    rintro s u p high us rfl h
    simp only [exec_aonRelease, execAonRelease, row_due h]
    cases high <;> simp only [Bool.false_eq_true, if_false, if_true]
  case pll =>
    rintro s u v us rfl h rfl
    exact row_due h
  case fuse =>
    rintro s u v ok us rfl h rfl
    exact row_due h
  case sram =>
    rintro s u us repair v w rfl h rfl rfl
    exact row_due h
  case check =>
    rintro s u us rfl h
    refine ⟨row_due h, ?_⟩
    rintro k d rest pass - rfl
    rw [sum_passed]
    exact row_due h
  case tailor =>
    rintro s u rom us rfl h
    exact row_due h
  case banner =>
    rintro s u v us rfl h rfl
    exact row_due h
  case idle =>
    intro s p high ok d f rom us h
    have hidle := State.rowDue_of_not_running us h
    exact ⟨row_not_due (hidle .aon), row_not_due (hidle .pll), row_not_due (hidle .fuse), row_not_due (hidle .sram), row_not_due (hidle .check),
      row_not_due (hidle .tailor), row_not_due (hidle .banner)⟩

end Sys2Proof.Machine
end

section
/-!
PROOFS. Removal, from its triggers to the re-arm, and the visits of TACK (chapters 02, 13 and 15: R118, R119, R729 to R732, R735, R741, R742, R747,
R750, R823, R824).
-/
namespace Sys2Proof.Machine
open Sys2Proof

theorem exec_removalFlushDone (us : Nat) (s : State) : exec (.removalFlushDone us) s = execRemovalFlushDone us s := rfl

theorem exec_rearm (vinUs us : Nat) (s : State) : exec (.rearm vinUs us) s = execRearm vinUs us s := rfl

theorem exec_tackVisit (codes : List Nat) (outs : List Bool) (us : Nat) (s : State) :
    exec (.tackVisit codes outs us) s = execTackVisit codes outs us s := rfl

/-- A visit of TACK with no refresh due starts no probe (R714, R824). -/
theorem no_probe {w probe : State} {standing : Prop} [Decidable standing] (h : w.refreshDue = false) :
    (if w.refreshDue = true ∧ standing then probe else w) = w :=
  if_neg fun hp => Bool.eq_false_iff.1 h hp.1

/-- Settles O49: each event is a choice on where the removal stands; what is chosen is its own effect. -/
theorem removalEvents : Obligations.RemovalEvents := by
  unfold Obligations.RemovalEvents
  refine ⟨?cdet, ?trigger, ?flush, ?checkpoint, ?fall, ?rearm, ?early, ?visit⟩
  case cdet =>
    rintro s u v ns us rfl rfl
    refine ⟨fun h => if_pos h, fun h hrun => ?_, fun h hrun => ?_⟩
    · exact (if_neg (Nat.not_lt.2 h)).trans (if_pos hrun)
    · exact (if_neg (Nat.not_lt.2 h)).trans (if_neg (Bool.eq_false_iff.1 hrun))
  case trigger =>
    rintro s u us rfl hrun
    refine ⟨fun h => if_pos ⟨hrun, h⟩, fun h => if_neg fun hp => ?_, fun h => ?_, fun h => ?_, rfl⟩
    · exact Bool.eq_false_iff.1 h hp.2
    · exact congrArg Host.Outcome.next (if_pos ⟨hrun, h⟩)
    · exact congrArg Host.Outcome.next (if_neg (by simp [h]))
  case flush =>
    rintro s u v w us rfl h
    refine ⟨fun hc => ?_, ?_⟩
    · simp only [exec_removalFlushDone, execRemovalFlushDone, if_neg (not_not.2 h), hc]
    · rintro hc rfl
      simp only [exec_removalFlushDone, execRemovalFlushDone, if_neg (not_not.2 h), hc]
  case checkpoint =>
    rintro s u us rfl
    refine ⟨fun h => if_pos h, fun h => ?_⟩
    have hphase : ¬ ((s.at us).get RMV_STAT.PHASE ≠ 3 ∧ (s.at us).get RMV_STAT.PHASE ≠ 4) := by tauto
    refine ⟨fun hk => ?_, fun hk => ?_⟩
    · exact (if_neg hphase).trans (if_pos hk)
    · exact (if_neg hphase).trans (if_neg (by rw [hk]; decide))
  case fall =>
    rintro s u us rfl
    exact ⟨fun h => if_pos h, fun h => if_neg (Bool.eq_false_iff.1 h)⟩
  case rearm =>
    rintro s u vin us t rfl h ht
    simp only [exec_rearm, execRearm, ht, h, true_or, true_and]
    exact ⟨fun hseat hvin => if_pos ⟨hseat, hvin⟩, fun hearly => if_neg (by omega)⟩
  case early =>
    rintro s u cs os us rfl h
    exact if_pos h
  case visit =>
    intro s u v w x y cs os us hu hstate hdue hv hw hprobe hx hy
    subst hu
    rw [hw, hv] at hprobe hx
    rw [hy, hx]
    have hvisit : ¬ ((s.at us).get PWR_STATE.STATE ≠ 3 ∨ us < (s.at us).pwr.visitUs + 1000000 * (s.at us).pwr.tackS) :=
      not_or.2 ⟨not_not.2 hstate, Nat.not_lt.2 hdue⟩
    simp only [exec_tackVisit, execTackVisit, if_neg hvisit, no_probe hprobe, State.tackJoins]

end Sys2Proof.Machine
end

section
/-!
PROOFS. The watchdog, the resets that software asks for, the flush before a reset and the end of a removal (chapters 02 and 13: R103 to R109, R122 to
R124, R734 to R742).
-/
namespace Sys2Proof.Machine
open Sys2Proof

section
variable {s : State}

/-! ### The flush of a clean stop -/

/-- With no delta record and no open row left, a flush that is not complete waits for its programs. -/
theorem State.cleanStop_of_not_flushed (hf : s.flushed = false) (hd : s.flash.deltas = []) (hr : s.rowsOpen = []) : s.cleanStop = (s, false) := by
  unfold State.cleanStop
  split
  · rfl
  · rw [if_neg fun h => h.1 hd, if_neg (not_not.2 hr), if_pos (by rw [hf]; rfl)]

/-! ### The write of SYS_RSTCTL -/

theorem State.writeRstctl_ignored {key kind : Nat} {p1 : Bool} (h : key ≠ 0xC3 ∨ p1 = true ∨ s.removing = true) : s.writeRstctl key kind p1 = s :=
  if_pos (by tauto)

/-! ### The reset point -/

theorem State.mapWorks_iff : s.mapWorks = true ↔ s.limpDomain ≠ some 43 := bne_iff_ne

/-- No replay holds up a reset: there is none, or the mapping engine has failed (R112, R122). -/
theorem State.not_replaying (h : s.flag SYS_BOOTSTAT.REPLAY = false ∨ s.limpDomain = some 43) :
    ¬ (s.flag SYS_BOOTSTAT.REPLAY = true ∧ s.mapWorks = true) := by
  rintro ⟨hreplay, hworks⟩
  rcases h with h | h
  · exact Bool.eq_false_iff.1 h hreplay
  · exact State.mapWorks_iff.1 hworks h

theorem State.toPl2_none {p : PendingReset} (h : p.kind ≠ .cold ∨ s.get PWR_LEVEL.CUR = 2 ∨ s.flag PWR_PMB.OK = false ∨ s.pwr.regBad = true) :
    s.toPl2 p = none := by
  refine if_neg ?_
  rintro ⟨hk, hc, ho, hb⟩
  simp only [hk, hc, ho, hb, ne_eq, not_true_eq_false, Bool.true_eq_false, Bool.false_eq_true, or_self] at h

theorem State.toPl2_some {p : PendingReset} (hk : p.kind = .cold) (hc : s.get PWR_LEVEL.CUR ≠ 2) (ho : s.flag PWR_PMB.OK = true)
    (hb : s.pwr.regBad = false) : s.toPl2 p = some (if s.pwr.levelTo = some 2 then s else s.levelAsk 2) :=
  if_pos ⟨hk, hc, ho, hb⟩

theorem exec_rearmPowerOn (us : Nat) (s : State) : exec (.rearmPowerOn us) s = execRearmPowerOn us s := rfl

variable (straps : Straps) (high : Bool) {us : Nat} {p : PendingReset}

theorem exec_resetFlushDone_pending (hp : (s.at us).boot.pending = some p) : exec (.resetFlushDone straps high us) s =
    if (s.at us).removing then .next (s.at us)
    else if (s.at us).boot.running then .next ((s.at us).toResetPoint p straps high us)
    else if (s.at us).flag SYS_BOOTSTAT.REPLAY = true ∧ (s.at us).mapWorks = true then .next (s.at us)
    else .next (if (s.at us).cleanStop.2 then (s.at us).cleanStop.1.toResetPoint p straps high us else (s.at us).cleanStop.1) := by
  change execResetFlushDone straps high us s = _
  simp only [execResetFlushDone, hp]
  obtain ⟨v, b⟩ := (s.at us).cleanStop
  cases b <;> rfl

end

/-- Settles O30: the watchdog and the register begin a reset, the flush leads to its reset point, and a removal ends without power or with a re-arm. -/
theorem resetEvents : Obligations.ResetEvents := by
  unfold Obligations.ResetEvents
  refine ⟨?watchdog, ?kick, ?asked, ?ignored, ?flush, ?level, ?bank, ?rearm⟩
  case watchdog =>
    rintro s u us rfl hen hdom hrem hdue
    exact if_pos ⟨hen, hdom, hrem, hdue⟩
  case kick =>
    rintro s u v w us rfl rfl
    rfl
  case asked =>
    rintro s u us rfl hrem hsup
    have hacts : ¬ (false = true ∨ 0xC3 ≠ 0xC3 ∨ (s.at us).removing = true ∨ (s.at us).boot.supply = false) := by
      rw [hrem, hsup]; decide
    exact ⟨congrArg Host.Outcome.next (if_neg hacts), congrArg Host.Outcome.next (if_neg hacts), congrArg Host.Outcome.next (if_neg hacts)⟩
  case ignored =>
    rintro s u key p1 us rfl h
    have hsame := fun kind => congrArg (Host.Outcome.next (φ := Fault) (ρ := Refusal)) (State.writeRstctl_ignored (kind := kind) h)
    exact ⟨hsame 1, hsame 2, hsame 4⟩
  case flush =>
    rintro s u straps high us p go rfl hp rfl
    rw [exec_resetFlushDone_pending straps high hp]
    refine ⟨fun h => if_pos h, fun h hrun => ?_, fun h hrun hr hm => ?_, fun h hrun hr v => ?_, fun h hrun hr hf hd ho => ?_⟩
    all_goals rw [if_neg (Bool.eq_false_iff.1 h)]
    · exact if_pos hrun
    · rw [if_neg (Bool.eq_false_iff.1 hrun)]
      exact if_pos ⟨hr, State.mapWorks_iff.2 hm⟩
    · rw [if_neg (Bool.eq_false_iff.1 hrun), if_neg (State.not_replaying hr)]
      exact ⟨fun hc => by rw [hc]; rfl, fun hc => by rw [hc]; rfl⟩
    · rw [if_neg (Bool.eq_false_iff.1 hrun), if_neg (State.not_replaying (.inl hr)), State.cleanStop_of_not_flushed hf hd ho]
      rfl
  case level => exact fun v p => ⟨State.toPl2_none, State.toPl2_some⟩
  case bank =>
    rintro s u us rfl h1 h5 hen
    exact ⟨_, rfl, if_pos ⟨h1, h5, hen⟩⟩
  case rearm =>
    rintro s u us t rfl hphase ht
    simp only [exec_rearmPowerOn, execRearmPowerOn, ht, hphase, true_and]
    exact ⟨fun h => if_pos h, fun h => if_neg (Nat.not_le.2 h)⟩

end Sys2Proof.Machine
end

section
/-!
PROOFS. The rows of the ladder that read flash and set up DRAM, READY, and what goes on after it (chapters 02, 08, 10 and 11: R83 to R93, R100, R102,
R433 to R436, R455, R461, R542, R577, R614, R637 to R640).
-/
namespace Sys2Proof.Machine
open Sys2Proof

theorem exec_dramRestore (f : DramFound) (temp : Int) (ok : Bool) (places : List (Nat × Nat)) (us : Nat) (s : State) :
    exec (.dramRestore f temp ok places us) s = execDramRestore f temp ok places us s := rfl

theorem exec_dramTrainingDone (fast failed : List Nat) (ident : Nat) (temp : Int) (delays : List (Nat × Nat)) (us : Nat) (s : State) :
    exec (.dramTrainingDone fast failed ident temp delays us) s = execDramTrainingDone fast failed ident temp delays us s := rfl

theorem exec_replayDone (us : Nat) (s : State) : exec (.replayDone us) s = execReplayDone us s := rfl

/-- The notice of the lower rate is raised where a channel failed at the higher one and none is held to the lower (R580). -/
theorem rate_note {α : Type} {held : Bool} {fast : List Nat} {note none : α} :
    (if ((held || !fast.isEmpty) && !held) = true then note else none) = if fast ≠ [] ∧ held = false then note else none := by
  cases held <;> cases fast <;> rfl

theorem filter_isEmpty_of_any {α : Type} {p : α → Bool} {l : List α} (h : l.any p = true) : (l.filter p).isEmpty = false := by
  obtain ⟨x, hx, hp⟩ := List.any_eq_true.1 h
  exact List.isEmpty_eq_false_iff.2 (List.ne_nil_of_mem (List.mem_filter.2 ⟨hx, hp⟩))

/-- Settles O29: a row that is due takes its effect; after READY each event is a choice on what the start has left to do. -/
theorem ladderOfStorage : Obligations.LadderOfStorage := by
  unfold Obligations.LadderOfStorage
  refine ⟨?flash, ?quad, ?records, ?dram, ?dormant, ?keys, ?tables, ?ready, ?timer, ?failed, ?trained, ?switch, ?replay, ?map⟩
  case flash =>
    intro s u v found bad us on hu h hon hv
    subst u on v
    exact if_pos h
  case quad =>
    intro s u found bad us hu h
    subst u
    exact if_neg (Bool.eq_false_iff.1 h)
  case records =>
    intro s u v w bad us hu h hv hw
    subst w v u
    exact row_due h
  case dram =>
    intro s u v f temp ok places us hu hdue h hv
    subst u
    simp only [exec_dramRestore, execDramRestore, if_neg (Bool.eq_false_iff.1 hdue), row_due h, ← hv]
    refine ⟨fun hn => ?_, fun r hr hfits hplaces => ?_, fun r hr hno => ?_⟩
    · simp only [hn]
    · simp only [hr]
      exact if_neg (by rw [hfits, hplaces]; decide)
    · simp only [hr]
      exact if_pos hno
  case dormant =>
    intro s u f temp ok places us hu h
    subst u
    simp only [exec_dramRestore, execDramRestore, if_pos h, State.dramBack]
    exact ⟨fun hn => by simp only [hn], fun r hr => by simp only [hr]⟩
  case keys =>
    intro s u v bad lost us hu h
    subst u
    refine ⟨fun hno => ?_, fun hkey h37 h50 hv => ?_⟩
    · exact (row_due h).trans (if_pos hno)
    · subst v
      refine (row_due h).trans (if_neg ?_)
      simp only [hkey, h37, h50, Bool.true_eq_false, or_self, not_false_iff]
  case tables =>
    intro s u v w us hu h hv hw
    subst w v u
    exact row_due h
  case ready =>
    intro s u reg us hu h
    subst u
    exact if_pos h
  case timer =>
    intro s u reg us hu hrun hdue
    subst u
    have hends : ¬ ((s.at us).boot.running = false ∨ us < (s.at us).boot.triggerUs + (s.at us).boot.kind.bound) := by
      simp only [hrun, Nat.not_lt.2 hdue, Bool.true_eq_false, or_self, not_false_iff]
    refine ⟨fun hl => ?_, fun hl hretry => ?_, fun hl hretry => ?_⟩
    · exact (if_neg hends).trans (if_pos hl)
    · exact (if_neg hends).trans ((if_neg (Bool.eq_false_iff.1 hl)).trans (if_pos hretry))
    · exact (if_neg hends).trans ((if_neg (Bool.eq_false_iff.1 hl)).trans (if_neg (Bool.eq_false_iff.1 hretry)))
  case failed =>
    intro s u v fast failed ident temp delays us chs hu hchs hne hv hbad
    subst u
    have hempty : chs.isEmpty = false := List.isEmpty_eq_false_iff.2 hne
    have hfailed : (!(chs.filter (fun n => failed.contains n)).isEmpty) = true := by rw [filter_isEmpty_of_any hbad]; rfl
    simp only [exec_dramTrainingDone, execDramTrainingDone, ← hchs, hempty, rate_note, ← hv, if_pos hfailed, Bool.false_eq_true, if_false]
  case trained =>
    intro s u v ident temp us hu hchs hheld hmasks hv
    subst u
    refine ⟨_, _, rfl, rfl, ?_⟩
    simp only [exec_dramTrainingDone, execDramTrainingDone, hchs, hheld, hmasks, List.isEmpty_cons, List.isEmpty_nil, List.contains_nil, List.filter_nil, List.filter_cons,
      List.map_nil, List.foldl_nil, List.foldl_cons, Bool.not_true, Bool.or_self, Bool.false_and, Bool.false_eq_true, if_false, ← hv]
  case switch =>
    intro s u places us hu hstaging hready hch htrained hfits
    subst u
    exact ⟨_, rfl, if_pos ⟨hstaging, hready, hch, htrained, hfits⟩⟩
  case replay =>
    intro s u v w us es hu hreplay hgo hm hes hv hw
    subst u
    have hdue : (s.at us).flag SYS_BOOTSTAT.REPLAY = true ∧ ((s.at us).ready = true ∨ (s.at us).boot.pending.isSome = true) ∧ (s.at us).mapWorks = true :=
      ⟨hreplay, hgo.imp id Option.isSome_iff_ne_none.2, State.mapWorks_iff.2 hm⟩
    simp only [exec_replayDone, execReplayDone, if_pos hdue, ← hes, ← hv, ← hw]
    refine ⟨fun hmore => if_pos (by simpa only [Bool.or_eq_true, decide_eq_true_eq] using hmore), fun hall hroom => ?_⟩
    rw [if_neg (by rw [hall, decide_eq_false (Nat.not_lt.2 hroom)]; decide)]
    exact ⟨fun hown => by rw [hown]; rfl, fun hown => by rw [hown]; rfl⟩
  case map =>
    intro s u v us hu hready hstaging hreplay hres hq ha hm hv
    subst v u
    exact if_pos ⟨hready, hstaging, hreplay, hres, hq, ha, State.mapWorks_iff.2 hm⟩

end Sys2Proof.Machine
end

section
/-!
PROOFS. Sleeve reset, negotiation and training (chapters 02, 04 and 05: R83, R213, R220 to R240, R242 to R244, R254, R262, R264, R272, R278, R279, R291,
R304, R306, R308).
-/
namespace Sys2Proof.Machine
open Sys2Proof

/-- A level of SLV_RST_N is no power state. -/
theorem State.asleep_boot (s : State) (b : Boot) : State.asleep { s with boot := b } = s.asleep := rfl

theorem exec_slvRstNFall (ns : Nat) (s : State) : exec (.slvRstNFall ns) s = execSlvRstNFall ns s := rfl

theorem exec_slvRstNRise (us : Nat) (s : State) : exec (.slvRstNRise us) s = execSlvRstNRise us s := rfl

theorem exec_selReceive (payload : Bytes) (crcOk : Bool) (errs : Nat) (s : State) :
    exec (.selReceive payload crcOk errs) s = execSelReceive payload crcOk errs s := rfl

theorem exec_trainingReportReceive (payload : Bytes) (crcOk : Bool) (errs : Nat) (phaseB : List LaneTrain) (s : State) :
    exec (.trainingReportReceive payload crcOk errs phaseB) s = execTrainingReportReceive payload crcOk errs phaseB s := rfl

theorem exec_trainingVerdict (s : State) : exec .trainingVerdict s = execTrainingVerdict s := rfl

theorem exec_lnkRetrainReceive (rx : SlvRx) (subtype arg : Nat) (s : State) :
    exec (.lnkRetrainReceive rx subtype arg) s = execLnkRetrainReceive rx subtype arg s := rfl

/-- Settles O35: each event is a choice on the phase of the link; what is chosen is its own effect. -/
theorem sleeveTraining : Obligations.SleeveTraining := by
  unfold Obligations.SleeveTraining
  refine ⟨?noReset, ?fall, ?rise, ?repeated, ?sel, ?restart, ?attempt, ?report, ?verdict, ?late, ?data, ?notPassed, ?retrain, ?damaged, ?grt⟩
  case noReset => exact fun s ns h => if_pos h
  case fall =>
    intro s v ns hns hhigh hawake hv
    have hreset : ¬ (ns < 1000 ∨ s.boot.sleeveHigh = false) := by
      simp only [hhigh, Nat.not_lt.2 hns, Bool.true_eq_false, or_self, not_false_iff]
    simp only [exec_slvRstNFall, execSlvRstNFall, if_neg hreset, State.asleep_boot, hawake, Bool.false_eq_true, if_false, hv]
  case rise =>
    intro s u v us hu hlow hv hawake
    subst u
    simp only [exec_slvRstNRise, execSlvRstNRise, hlow, ← hv, hawake, Bool.false_eq_true, if_false]
  case repeated => exact fun s => ⟨fun h => if_pos h, fun h => if_neg h⟩
  case sel =>
    intro s u p e hu
    subst u
    have hvalid : s.slv.phase = .grtSent → 64 ≤ p.length → p.getD 0 0 = 0x02 →
        ¬ (s.slv.phase ≠ .grtSent ∨ true = false ∨ p.length < 64 ∨ p.getD 0 0 ≠ 0x02) := by
      intro hphase hlen h0
      simp only [hphase, h0, Nat.not_lt.2 hlen, ne_eq, not_true_eq_false, Bool.true_eq_false, or_self, not_false_iff]
    refine ⟨fun m r hphase hlen h0 h1 hmode => ?_, fun hphase hlen h0 h1 => ?_, if_pos (.inr (.inl rfl))⟩
    · simp only [exec_selReceive, execSelReceive, if_neg (hvalid hphase hlen h0), if_neg (not_not.2 h1), hmode]
    · exact (if_neg (hvalid hphase hlen h0)).trans (if_pos h1)
  case restart => exact fun s us h => if_pos h
  case attempt =>
    intro s u h hu
    subst u
    exact if_pos h
  case report =>
    intro s u p e ls h hu
    subst u
    simp only [exec_trainingReportReceive, execTrainingReportReceive, if_neg (not_not.2 h)]
    refine ⟨fun hlen h0 h1 => ?_, ?_⟩
    · simp only [hlen, h0, h1, and_self, if_true]
    · simp only [Bool.false_eq_true, false_and, if_false]
  case verdict =>
    intro s h
    simp only [exec_trainingVerdict, execTrainingVerdict, if_neg (not_not.2 h)]
    refine ⟨fun g m hg hall hm => ?_, fun g hg hall => ?_, fun hg => ?_⟩
    · simp only [hg, if_pos hall, hm]
    · simp only [hg, if_neg hall]
    · simp only [hg]
  case late => exact fun s h => if_pos h
  case data =>
    intro s u v w us h hu hv hw
    subst w v u
    exact if_neg (not_not.2 h)
  case notPassed => exact fun s us h => ⟨if_neg h, if_pos h⟩
  case retrain =>
    intro s u v rx arg h hframe hv
    subst v
    simp only [exec_lnkRetrainReceive, execLnkRetrainReceive, if_neg (not_not.2 h), hframe]
    exact ⟨if_neg (not_not.2 rfl), fun st hst => if_pos hst⟩
  case damaged =>
    intro s u rx st arg w h hframe hw
    cases w
    case accepted => exact absurd rfl hw
    all_goals simp only [exec_lnkRetrainReceive, execLnkRetrainReceive, if_neg (not_not.2 h), hframe]
  case grt =>
    intro s us h
    exact if_neg (not_not.2 h)

end Sys2Proof.Machine
end

section
/-!
PROOFS. The step and the queue, and that every command answers (chapter 03: R155, R173; chapters 06 and 21: R341, R1121).
-/
namespace Sys2Proof.Machine
open Sys2Proof

/-! ### A step -/

theorem step_cons {c : Instr} {rest : List Instr} {s : State} (h : s.pending = c :: rest) : step s = exec c { s with pending := rest } := by
  simp only [step, h]

theorem step_nil {s : State} (h : s.pending = []) : step s = .next s := by
  simp only [step, h]

/-- Settles O1: a step is a choice on the queue, and no word spells a command. -/
theorem stepRunsFront : Obligations.StepRunsFront := by
  unfold Obligations.StepRunsFront
  exact ⟨fun _ _ _ => step_cons, fun _ => step_nil, fun _ _ _ => ⟨rfl, rfl⟩⟩

/-! ### A command and the queue -/

/-- The held form of the state through every command, by the law of the command's own meaning. -/
theorem exec_keeps {pq : List Instr} {s : State} (h : Held pq s.regs s.pending) : ∀ i : Instr, Keeps pq (exec i s)
  | .supplyGoodRise .. => held_execSupplyGoodRise _ _ h
  | .supplyGoodFall .. => held_execSupplyGoodFall _ _ _ h
  | .crystalLoss .. => held_execCrystalLoss _ _ _ h
  | .aonRelease .. => held_execAonRelease _ _ _ _ h
  | .pllLock .. => held_execPllLock _ _ h
  | .fuseShadowLoad .. => held_execFuseShadowLoad _ _ _ h
  | .sramFill .. => held_execSramFill _ _ _ h
  | .checkerSelfTest .. => held_execCheckerSelfTest _ _ _ h
  | .tailorRelease .. => held_execTailorRelease _ _ _ h
  | .collarBanner .. => held_execCollarBanner _ _ h
  | .dieDiscovery .. => held_execDieDiscovery _ _ _ _ h
  | .bootRecordsRead .. => held_execBootRecordsRead _ _ _ h
  | .dramRestore .. => held_execDramRestore _ _ _ _ _ _ h
  | .keyJournalLoad .. => held_execKeyJournalLoad _ _ _ _ h
  | .pocketTableLoad .. => held_execPocketTableLoad _ _ h
  | .readyRise .. => held_execReadyRise _ _ _ h
  | .startupTimerExpiry .. => held_execStartupTimerExpiry _ _ _ h
  | .dramTrainingDone .. => held_execDramTrainingDone _ _ _ _ _ _ _ h
  | .stagingToDramSwitch .. => held_execStagingToDramSwitch _ _ _ h
  | .replayDone .. => held_execReplayDone _ _ h
  | .mapBackgroundLoadDone .. => held_execMapBackgroundLoadDone _ _ h
  | .watchdogExpiry .. => held_execWatchdogExpiry _ _ h
  | .sysWdogKick .. => held_execSysWdogKick _ _ _ h
  | .sysRstctlCold .. => held_execSysRstctlCold _ _ _ _ h
  | .sysRstctlWarm .. => held_execSysRstctlWarm _ _ _ _ h
  | .sysRstctlT1Restart .. => held_execSysRstctlT1Restart _ _ _ _ h
  | .resetFlushDone .. => held_execResetFlushDone _ _ _ _ h
  | .sysColcfgBaudWrite .. => held_execSysColcfgBaudWrite _ _ h
  | .collarCharacter .. => held_execCollarCharacter _ _ _ _ _ h
  | .lineDiscard .. => held_execLineDiscard _ _ _ h
  | .collarBreak .. => held_execCollarBreak _ _ _ h
  | .lineSpeedSwitch => held_execLineSpeedSwitch _ h
  | .strictIdleTimeout => held_execStrictIdleTimeout _ h
  | .typedNoticeRelease => held_execTypedNoticeRelease _ h
  | .noticeSend .. => held_execNoticeSend _ _ h
  | .resendRequest .. => held_execResendRequest _ _ _ _ _ h
  | .challengeExpiry .. => held_execChallengeExpiry _ _ h
  | .challengeLockoutEnd => held_execChallengeLockoutEnd _ h
  | .serviceIdleExpiry .. => held_execServiceIdleExpiry _ _ h
  | .jobDone .. => held_execJobDone _ _ _ h
  | .slvRstNFall .. => held_execSlvRstNFall _ _ h
  | .slvRstNRise .. => held_execSlvRstNRise _ _ h
  | .grtRepeat => held_execGrtRepeat _ h
  | .selReceive .. => held_execSelReceive _ _ _ _ h
  | .grtRestart .. => held_execGrtRestart _ _ h
  | .trainingAttemptStart => held_execTrainingAttemptStart _ h
  | .trainingReportReceive .. => held_execTrainingReportReceive _ _ _ _ _ h
  | .trainingVerdict => held_execTrainingVerdict _ h
  | .passPreambleTimeout => held_execPassPreambleTimeout _ h
  | .dataPhaseEntry .. => held_execDataPhaseEntry _ _ h
  | .lnkRetrainReceive .. => held_execLnkRetrainReceive _ _ _ _ h
  | .retrainGrt .. => held_execRetrainGrt _ _ h
  | .clockStopSend => held_execClockStopSend _ h
  | .clockStopReceive .. => held_execClockStopReceive _ _ h
  | .hostWakeBurst .. => held_execHostWakeBurst _ _ h
  | .cardWakeBurst => held_execCardWakeBurst _ h
  | .wakeBurstRetry .. => held_execWakeBurstRetry _ _ h
  | .laneLoopbackDone .. => held_execLaneLoopbackDone _ _ _ _ h
  | .laneRetry .. => held_execLaneRetry _ _ h
  | .laneErrorThreshold .. => held_execLaneErrorThreshold _ _ h
  | .cmdFrameReceive .. => held_execCmdFrameReceive _ _ _ _ _ h
  | .datFrameReceive .. => held_execDatFrameReceive _ _ _ _ _ _ _ h
  | .ackReceive .. => held_execAckReceive _ _ h
  | .repReceive .. => held_execRepReceive _ _ h
  | .turnReceive .. => held_execTurnReceive _ _ h
  | .turnIdleInference => held_execTurnIdleInference _ h
  | .cardTurnStart .. => held_execCardTurnStart _ _ _ h
  | .repeatLimit => held_execRepeatLimit _ h
  | .slvCtlRetrain => held_execSlvCtlRetrain _ h
  | .read .. => held_execRead _ _ h
  | .write .. => held_execWrite _ _ h
  | .trim .. => held_execTrim _ _ h
  | .flush .. => held_execFlush _ _ h
  | .verify .. => held_execVerify _ _ h
  | .copy .. => held_execCopy _ _ h
  | .seal .. => held_execSeal _ _ h
  | .pocketSizeReduceApply .. => held_execPocketSizeReduceApply _ _ h
  | .pocketDeleteFinish .. => held_execPocketDeleteFinish _ _ h
  | .queueFree .. => held_execQueueFree _ _ h
  | .basteCplDeadline .. => held_execBasteCplDeadline _ _ _ _ h
  | .prefetchFill .. => held_execPrefetchFill _ _ _ _ h
  | .moverFlush .. => held_execMoverFlush _ _ _ _ _ _ _ h
  | .quadCheckDone .. => held_execQuadCheckDone _ _ _ _ _ h
  | .quadRetry .. => held_execQuadRetry _ _ h
  | .boltOpen .. => held_execBoltOpen _ _ _ _ h
  | .stitchProgramDone .. => held_execStitchProgramDone _ _ _ h
  | .boltRelease .. => held_execBoltRelease _ _ _ h
  | .mapSegmentReadDone .. => held_execMapSegmentReadDone _ _ h
  | .mapSegmentWriteDone .. => held_execMapSegmentWriteDone _ _ _ h
  | .checkpointTimer .. => held_execCheckpointTimer _ _ h
  | .checkpointDone .. => held_execCheckpointDone _ _ h
  | .gcStart => held_execGcStart _ h
  | .wearLevelStart .. => held_execWearLevelStart _ _ h
  | .codewordDecode .. => held_execCodewordDecode _ _ _ _ _ h
  | .retryStepDone .. => held_execRetryStepDone _ _ _ _ h
  | .rebuildDone .. => held_execRebuildDone _ _ _ _ h
  | .recoveryTimeout .. => held_execRecoveryTimeout _ _ _ h
  | .relocation => held_execRelocation _ h
  | .sramUncorrectable .. => held_execSramUncorrectable _ _ _ _ _ _ _ h
  | .dramRequest .. => held_execDramRequest _ _ _ _ _ _ _ _ _ _ h
  | .dramSchedule .. => held_execDramSchedule _ _ _ h
  | .dramLineRead .. => held_execDramLineRead _ _ _ _ _ _ h
  | .mergeEntryTimeout .. => held_execMergeEntryTimeout _ _ _ _ _ h
  | .dramRefresh .. => held_execDramRefresh _ _ _ h
  | .actTableClear => held_execActTableClear _ h
  | .rowIdleClose .. => held_execRowIdleClose _ _ _ _ _ h
  | .dramAlert .. => held_execDramAlert _ _ _ h
  | .migrationCopyLine .. => held_execMigrationCopyLine _ _ _ _ h
  | .migrationDone .. => held_execMigrationDone _ _ h
  | .rankShrink .. => held_execRankShrink _ _ h
  | .dqsTrack .. => held_execDqsTrack _ _ _ h
  | .drcTpatStart .. => held_execDrcTpatStart _ _ _ _ _ _ h
  | .bulkBlockStart .. => held_execBulkBlockStart _ _ _ h
  | .bulkBlockDone .. => held_execBulkBlockDone _ _ h
  | .gmacVerify .. => held_execGmacVerify _ _ _ _ h
  | .nonceReserve => held_execNonceReserve _ h
  | .nonceReserveDone .. => held_execNonceReserveDone _ _ h
  | .keyDrainEnd .. => held_execKeyDrainEnd _ _ h
  | .keyDrainTimeout .. => held_execKeyDrainTimeout _ _ _ h
  | .journalCommit .. => held_execJournalCommit _ _ h
  | .journalTimeout .. => held_execJournalTimeout _ _ _ h
  | .journalBlockErase .. => held_execJournalBlockErase _ _ h
  | .keyRbEncrypt .. => held_execKeyRbEncrypt _ _ _ _ h
  | .keyRbDecrypt .. => held_execKeyRbDecrypt _ _ _ _ h
  | .cipherPairKat .. => held_execCipherPairKat _ _ _ _ h
  | .mpuFault .. => held_execMpuFault _ _ _ _ _ _ h
  | .extensionStart => held_execExtensionStart _ h
  | .mpuLock .. => held_execMpuLock _ _ _ _ h
  | .tagWrite .. => held_execTagWrite _ _ _ _ h
  | .liningSample .. => held_execLiningSample _ _ _ _ _ _ h
  | .chargeRampDone .. => held_execChargeRampDone _ _ h
  | .chargeFloatEntry .. => held_execChargeFloatEntry _ _ h
  | .estimateRefreshDue .. => held_execEstimateRefreshDue _ _ h
  | .esrStep .. => held_execEsrStep _ _ _ _ h
  | .probeDone .. => held_execProbeDone _ _ h
  | .liningFaultRetry .. => held_execLiningFaultRetry _ _ h
  | .bankAbsentTimeout .. => held_execBankAbsentTimeout _ _ h
  | .linOvervolt .. => held_execLinOvervolt _ _ h
  | .linHot .. => held_execLinHot _ _ h
  | .sensorFault .. => held_execSensorFault _ _ h
  | .converterFault .. => held_execConverterFault _ _ h
  | .linCfgChgEn .. => held_execLinCfgChgEn _ _ _ h
  | .linProbeStart .. => held_execLinProbeStart _ _ h
  | .budgetRecompute .. => held_execBudgetRecompute _ _ h
  | .ebSample .. => held_execEbSample _ _ _ _ h
  | .throughNotice .. => held_execThroughNotice _ _ h
  | .removalTriggerCdet .. => held_execRemovalTriggerCdet _ _ _ h
  | .removalTriggerVin .. => held_execRemovalTriggerVin _ _ h
  | .rmvCtlDrill .. => held_execRmvCtlDrill _ _ _ h
  | .removalFlushDone .. => held_execRemovalFlushDone _ _ h
  | .removalCheckpointDone .. => held_execRemovalCheckpointDone _ _ h
  | .bankExhausted .. => held_execBankExhausted _ _ h
  | .cdetNFall .. => held_execCdetNFall _ _ h
  | .rearm .. => held_execRearm _ _ _ h
  | .rearmPowerOn .. => held_execRearmPowerOn _ _ h
  | .drainComplete .. => held_execDrainComplete _ _ h
  | .drainWindowEnd .. => held_execDrainWindowEnd _ _ _ _ h
  | .resetHoldEnd .. => held_execResetHoldEnd _ _ _ h
  | .domainSwitchOnDone .. => held_execDomainSwitchOnDone _ _ h
  | .domainCheckDone .. => held_execDomainCheckDone _ _ _ _ h
  | .domainRejoin .. => held_execDomainRejoin _ _ h
  | .fabricHang .. => held_execFabricHang _ _ _ h
  | .fabricReply .. => held_execFabricReply _ _ _ _ _ h
  | .domainRetry .. => held_execDomainRetry _ _ h
  | .pwrDreqOn .. => held_execPwrDreqOn _ _ _ _ h
  | .pwrDreqOff .. => held_execPwrDreqOff _ _ _ _ h
  | .pwrDreqReset .. => held_execPwrDreqReset _ _ _ h
  | .coreclkGate => held_execCoreclkGate _ h
  | .coreclkRestart => held_execCoreclkRestart _ h
  | .levelChangePause .. => held_execLevelChangePause _ _ h
  | .regulatorTimeout .. => held_execRegulatorTimeout _ _ h
  | .pmbusAlert .. => held_execPmbusAlert _ _ _ h
  | .throttleStep .. => held_execThrottleStep _ _ _ h
  | .throttleRelease .. => held_execThrottleRelease _ _ h
  | .pointOfNoReturn .. => held_execPointOfNoReturn _ _ _ h
  | .acmpCrossing .. => held_execAcmpCrossing _ _ _ _ h
  | .adcSample .. => held_execAdcSample _ _ _ _ h
  | .wakeTimer .. => held_execWakeTimer _ _ h
  | .stateExitDone .. => held_execStateExitDone _ _ h
  | .tackVisit .. => held_execTackVisit _ _ _ _ h
  | .pwrRetlogClr => held_execPwrRetlogClr _ h
  | .seamMonitorLock .. => held_execSeamMonitorLock _ _ _ _ h
  | .ringInsert .. => held_execRingInsert _ _ h
  | .ringFormTimeout .. => held_execRingFormTimeout _ _ h
  | .hopJoinReceive .. => held_execHopJoinReceive _ _ _ h
  | .identSend .. => held_execIdentSend _ _ h
  | .identReceive .. => held_execIdentReceive _ _ _ h
  | .hopReportReceive .. => held_execHopReportReceive _ _ _ _ h
  | .hopAttemptEnd .. => held_execHopAttemptEnd _ _ h
  | .hopRetry .. => held_execHopRetry _ _ h
  | .hopError .. => held_execHopError _ _ h
  | .hopDownLeave .. => held_execHopDownLeave _ _ _ h
  | .ringFrameReceive .. => held_execRingFrameReceive _ _ _ _ _ h
  | .seamAckReceive .. => held_execSeamAckReceive _ _ _ h
  | .seamRepReceive .. => held_execSeamRepReceive _ _ _ h
  | .seamGoBackTimeout .. => held_execSeamGoBackTimeout _ _ h
  | .beatSend .. => held_execBeatSend _ _ h
  | .beatReceive .. => held_execBeatReceive _ _ _ _ _ h
  | .beatSilence .. => held_execBeatSilence _ _ _ h
  | .mantleElectionTimer .. => held_execMantleElectionTimer _ _ h
  | .mantleStandbyTakeover .. => held_execMantleStandbyTakeover _ _ h
  | .localMinuteClose .. => held_execLocalMinuteClose _ _ h
  | .twinData .. => held_execTwinData _ _ _ _ _ _ _ _ _ _ _ h
  | .twinTrim .. => held_execTwinTrim _ _ _ _ _ h
  | .twinCopy .. => held_execTwinCopy _ _ _ _ _ _ _ _ _ h
  | .twinLine .. => held_execTwinLine _ _ _ _ h
  | .twinDarn .. => held_execTwinDarn _ _ _ _ _ _ _ _ _ _ _ h
  | .twinUnmap .. => held_execTwinUnmap _ _ _ _ _ h
  | .twinRegionEnd _ region _ => held_execTwinRegionEnd _ region _ _ h
  | .twinHold .. => held_execTwinHold _ _ _ _ h
  | .holdExpiry .. => held_execHoldExpiry _ _ h
  | .twinAck .. => held_execTwinAck _ _ _ h
  | .twinNak .. => held_execTwinNak _ _ h
  | .twinPairItem .. => held_execTwinPairItem _ _ _ _ _ _ h
  | .twinConfirmTimeout => held_execTwinConfirmTimeout _ h
  | .twinLostTimeout .. => held_execTwinLostTimeout _ _ h
  | .takeoverAuto .. => held_execTakeoverAuto _ _ h
  | .darnRegion .. => held_execDarnRegion _ _ _ h
  | .seamReplyReceive .. => held_execSeamReplyReceive _ _ _ _ _ _ h
  | .seamNoticeReceive .. => held_execSeamNoticeReceive _ _ _ h
  | .htgSample .. => held_execHtgSample _ _ _ _ _ h
  | .bucketBroadcast .. => held_execBucketBroadcast _ _ h
  | .bucketRepeat .. => held_execBucketRepeat _ _ h
  | .htgBucketReceive .. => held_execHtgBucketReceive _ _ _ h
  | .htgBucketAckReceive .. => held_execHtgBucketAckReceive _ _ _ _ h
  | .htgPselWrite .. => held_execHtgPselWrite _ _ _ _ h
  | .htgBselWrite .. => held_execHtgBselWrite _ _ _ _ h
  | .jtagMakeTransition .. => held_execJtagMakeTransition _ _ h
  | .lifecycleProgramDone .. => held_execLifecycleProgramDone _ _ h
  | .bistCtlStart .. => held_execBistCtlStart _ _ _ _ _ h
  | .bistRunDone .. => held_execBistRunDone _ _ _ _ h
  | .bistRunTimeout .. => held_execBistRunTimeout _ _ _ h
  | .lcsCtlStart .. => held_execLcsCtlStart _ _ _ _ h
  | .hello .. => held_execHello _ _ _ h
  | .helloRole .. => held_execHelloRole _ _ _ _ h
  | .helloService .. => held_execHelloService _ _ _ h
  | .helloResponse .. => held_execHelloResponse _ _ _ _ h
  | .id .. => held_execId _ _ _ h
  | .ver .. => held_execVer _ _ _ h
  | .help .. => held_execHelp _ _ _ h
  | .helpVerb .. => held_execHelpVerb _ _ _ _ _ h
  | .lineShow .. => held_execLineShow _ _ _ h
  | .lineSpeed .. => held_execLineSpeed _ _ _ _ h
  | .lineMode .. => held_execLineMode _ _ _ _ h
  | .lineCts .. => held_execLineCts _ _ _ _ h
  | .clockShow .. => held_execClockShow _ _ _ h
  | .clockSet .. => held_execClockSet _ _ _ _ _ h
  | .pocketCreate .. => held_execPocketCreate _ _ _ _ _ h
  | .pocketSet .. => held_execPocketSet _ _ _ _ _ h
  | .pocketSuspend .. => held_execPocketSuspend _ _ _ _ h
  | .pocketResume .. => held_execPocketResume _ _ _ _ h
  | .pocketDelete .. => held_execPocketDelete _ _ _ _ h
  | .pocketShow .. => held_execPocketShow _ _ _ _ h
  | .pocketList .. => held_execPocketList _ _ _ h
  | .queueCreate .. => held_execQueueCreate _ _ _ _ _ _ h
  | .queueSet .. => held_execQueueSet _ _ _ _ _ h
  | .queueDelete .. => held_execQueueDelete _ _ _ _ h
  | .queueShow .. => held_execQueueShow _ _ _ _ h
  | .queueList .. => held_execQueueList _ _ _ _ _ h
  | .keyBlobAdd .. => held_execKeyBlobAdd _ _ _ _ h
  | .keyBlobClear .. => held_execKeyBlobClear _ _ _ h
  | .keyLoadWrap .. => held_execKeyLoadWrap _ _ _ _ _ _ _ h
  | .keyLoadPlain .. => held_execKeyLoadPlain _ _ _ _ _ _ h
  | .keyGen .. => held_execKeyGen _ _ _ _ _ _ _ h
  | .keyErase .. => held_execKeyErase _ _ _ _ h
  | .keyShow .. => held_execKeyShow _ _ _ _ h
  | .keyShowClear .. => held_execKeyShowClear _ _ _ _ h
  | .keyList .. => held_execKeyList _ _ _ _ _ h
  | .cipherShow .. => held_execCipherShow _ _ _ h
  | .cipherGmac .. => held_execCipherGmac _ _ _ _ _ h
  | .cipherCmac .. => held_execCipherCmac _ _ _ _ _ h
  | .cipherEnc .. => held_execCipherEnc _ _ _ _ _ h
  | .cipherDec .. => held_execCipherDec _ _ _ _ _ h
  | .cacheShow .. => held_execCacheShow _ _ _ _ h
  | .cacheSet .. => held_execCacheSet _ _ _ _ _ h
  | .cacheCfg .. => held_execCacheCfg _ _ _ _ h
  | .mapShow .. => held_execMapShow _ _ _ h
  | .mapLookup .. => held_execMapLookup _ _ _ _ _ h
  | .mapCheckpoint .. => held_execMapCheckpoint _ _ _ h
  | .mapCfg .. => held_execMapCfg _ _ _ _ h
  | .meterShow .. => held_execMeterShow _ _ _ _ h
  | .meterRead .. => held_execMeterRead _ _ _ _ _ h
  | .meterAck .. => held_execMeterAck _ _ _ _ _ _ h
  | .meterCfg .. => held_execMeterCfg _ _ _ _ _ h
  | .linkShow .. => held_execLinkShow _ _ _ h
  | .linkRetrain .. => held_execLinkRetrain _ _ _ h
  | .linkCfg .. => held_execLinkCfg _ _ _ _ h
  | .powerShow .. => held_execPowerShow _ _ _ h
  | .powerStateRun .. => held_execPowerStateRun _ _ _ h
  | .powerStateIdle .. => held_execPowerStateIdle _ _ _ h
  | .powerStateNap .. => held_execPowerStateNap _ _ _ _ _ _ h
  | .powerStateTack .. => held_execPowerStateTack _ _ _ _ _ h
  | .powerStateDormant .. => held_execPowerStateDormant _ _ _ _ _ h
  | .powerLevel .. => held_execPowerLevel _ _ _ _ h
  | .powerSettings .. => held_execPowerSettings _ _ _ _ _ _ _ _ _ h
  | .domainShow .. => held_execDomainShow _ _ _ _ h
  | .domainOn .. => held_execDomainOn _ _ _ _ h
  | .domainOff .. => held_execDomainOff _ _ _ _ _ _ h
  | .liningShow .. => held_execLiningShow _ _ _ h
  | .liningCfg .. => held_execLiningCfg _ _ _ _ h
  | .liningProbe .. => held_execLiningProbe _ _ _ h
  | .liningDrill .. => held_execLiningDrill _ _ _ h
  | .liningDesc .. => held_execLiningDesc _ _ _ _ _ h
  | .flashShow .. => held_execFlashShow _ _ _ h
  | .flashDie .. => held_execFlashDie _ _ _ _ h
  | .flashCfg .. => held_execFlashCfg _ _ _ _ h
  | .flashFormat .. => held_execFlashFormat _ _ _ _ h
  | .flashFormatDone .. => held_execFlashFormatDone _ _ h
  | .dramShow .. => held_execDramShow _ _ _ h
  | .dramCfg .. => held_execDramCfg _ _ _ _ _ h
  | .dramPort .. => held_execDramPort _ _ _ _ _ _ _ h
  | .dramMasks .. => held_execDramMasks _ _ _ _ _ _ _ _ _ h
  | .eccShow .. => held_execEccShow _ _ _ h
  | .eccGroup .. => held_execEccGroup _ _ _ _ h
  | .eccCfg .. => held_execEccCfg _ _ _ _ h
  | .eccInject .. => held_execEccInject _ _ _ _ _ _ h
  | .eccInjArm .. => held_execEccInjArm _ _ _ _ _ h
  | .mpuShow .. => held_execMpuShow _ _ _ _ h
  | .mpuLoad .. => held_execMpuLoad _ _ _ _ h
  | .mpuAdd .. => held_execMpuAdd _ _ _ _ _ h
  | .mpuAdmit .. => held_execMpuAdmit _ _ _ _ h
  | .mpuRemove .. => held_execMpuRemove _ _ _ h
  | .colourShow .. => held_execColourShow _ _ _ h
  | .colourTag .. => held_execColourTag _ _ _ _ _ h
  | .twinShow .. => held_execTwinShow _ _ _ h
  | .twinPair .. => held_execTwinPair _ _ _ _ _ _ _ h
  | .twinOfferSend .. => held_execTwinOfferSend _ _ h
  | .twinOffer .. => held_execTwinOffer _ _ _ _ _ _ _ h
  | .twinPairLapse .. => held_execTwinPairLapse _ _ h
  | .twinUnpair .. => held_execTwinUnpair _ _ _ h
  | .twinSwap .. => held_execTwinSwap _ _ _ h
  | .twinSwapTimeout .. => held_execTwinSwapTimeout _ _ h
  | .twinTakeover .. => held_execTwinTakeover _ _ _ h
  | .twinInteg .. => held_execTwinInteg _ _ _ _ _ h
  | .ringShow .. => held_execRingShow _ _ _ h
  | .ringRetrain .. => held_execRingRetrain _ _ _ _ _ h
  | .ringCfg .. => held_execRingCfg _ _ _ _ _ _ _ _ h
  | .mantleShow .. => held_execMantleShow _ _ _ h
  | .mantleRelay .. => held_execMantleRelay _ _ _ _ _ h
  | .mantleRelayTimeout .. => held_execMantleRelayTimeout _ _ h
  | .mantleRead .. => held_execMantleRead _ _ _ _ _ _ h
  | .bistRun .. => held_execBistRun _ _ _ _ _ h
  | .bistShow .. => held_execBistShow _ _ _ _ h
  | .bistList .. => held_execBistList _ _ _ h
  | .lifeShow .. => held_execLifeShow _ _ _ h
  | .lifeSet .. => held_execLifeSet _ _ _ _ _ h
  | .peek .. => held_execPeek _ _ _ _ _ h
  | .poke .. => held_execPoke _ _ _ _ _ _ h
  | .resetCard .. => held_execResetCard _ _ _ h
  | .resetWarm .. => held_execResetWarm _ _ _ h
  | .resetDomain .. => held_execResetDomain _ _ _ _ h
  | .logShow .. => held_execLogShow _ _ _ h
  | .logFaults .. => held_execLogFaults _ _ _ _ _ h
  | .registerWrite .. => held_execRegisterWrite _ _ _ _ _ _ _ _ _ _ h
  | .registerReadClear .. => held_execRegisterReadClear _ _ _ _ _ _ _ h
  | .unknownCommandLine .. => held_execUnknownCommandLine _ _ h
  | .colCtsNChange .. => held_execColCtsNChange _ _ _ h
  | .flashPatrolRead .. => held_execFlashPatrolRead _ _ h
  | .patrolSlow .. => held_execPatrolSlow _ _ h
  | .joinNoMantleTimeout .. => held_execJoinNoMantleTimeout _ _ h
  | .standbyBeatWaitExpiry .. => held_execStandbyBeatWaitExpiry _ _ h
  | .seamMonitorLockLoss .. => held_execSeamMonitorLockLoss _ _ h
  | .crystalRecovery .. => held_execCrystalRecovery _ _ h
  | .blockEraseDone .. => held_execBlockEraseDone _ _ _ _ _ h
  | .jtagInstruction .. => held_execJtagInstruction _ _ h

theorem exec_pending {i : Instr} {s t : State} (hs : s.canonical = true) (h : exec i s = .next t) : t.pending = s.pending :=
  ((exec_keeps ⟨hs, rfl⟩ i).wf t h).2

/-- Settles O5: a command leaves the queue that it is given, and a step gives it the queue without its front. -/
theorem queueInOrder : Obligations.QueueInOrder := by
  unfold Obligations.QueueInOrder
  refine ⟨fun _ _ _ hs h => exec_pending hs h, fun s t hs h => ?_⟩
  cases hq : s.pending with
  | nil =>
    rw [step_nil hq] at h
    cases h
    rw [hq, List.tail_nil]
  | cons c rest =>
    rw [step_cons hq] at h
    exact exec_pending (s := { s with pending := rest }) hs h

/-! ### Every command answers -/

/-- The outcome is a next state. -/
def Answers (o : Host.Outcome State Fault Refusal) : Prop := ∃ t, o = .next t

namespace Answers

theorem next {t : State} : Answers (.next t) := ⟨t, rfl⟩

theorem ite {b : Prop} [Decidable b] {o p : Host.Outcome State Fault Refusal} (ho : Answers o) (hp : Answers p) : Answers (if b then o else p) := by
  split
  · exact ho
  · exact hp

/-- A check whose failure leaves nothing more to choose. -/
theorem guard {b : Prop} [Decidable b] {t : State} {o : Host.Outcome State Fault Refusal} (ho : Answers o) : Answers (if b then .next t else o) :=
  .ite .next ho

end Answers

/-! Commands with a tree of choices that no other command has. -/

section
variable {s : State}

theorem execResetFlushDone_answers (straps cdetHigh us) : Answers (execResetFlushDone straps cdetHigh us s) := by
  dsimp only [execResetFlushDone]
  split
  · exact .next
  · refine .guard (.guard (.guard ?_))
    split <;> exact .next

theorem execLineDiscard_answers (path line) : Answers (execLineDiscard path line s) := by
  dsimp only [execLineDiscard]
  refine .guard (.guard (.guard ?_))
  split <;> exact .next

theorem execResendRequest_answers (path parity framing rx) : Answers (execResendRequest path parity framing rx s) := by
  dsimp only [execResendRequest]
  refine .guard (.guard (.guard (.guard (.guard ?_))))
  split <;> exact .next

theorem execPocketSizeReduceApply_answers (pocket) : Answers (execPocketSizeReduceApply pocket s) := by
  dsimp only [execPocketSizeReduceApply]
  split
  · exact .next
  · split
    · exact .next
    · exact .guard (.guard .next)

theorem execBasteCplDeadline_answers (queue tag us) : Answers (execBasteCplDeadline queue tag us s) := by
  dsimp only [execBasteCplDeadline]
  split
  · exact .next
  · split
    · exact .next
    · exact .guard .next

theorem execPrefetchFill_answers (pocket lba errs) : Answers (execPrefetchFill pocket lba errs s) := by
  dsimp only [execPrefetchFill]
  refine .guard (.guard ?_)
  split
  · exact .guard (.guard .next)
  · exact .next

theorem execWearLevelStart_answers (group) : Answers (execWearLevelStart group s) := by
  dsimp only [execWearLevelStart]
  refine .guard (.guard ?_)
  split <;> exact .next

theorem execRebuildDone_answers (ppa reads us) : Answers (execRebuildDone ppa reads us s) := by
  dsimp only [execRebuildDone]
  split
  · refine .guard (.guard (.guard ?_))
    split <;> exact .next
  · exact .next

theorem execSramUncorrectable_answers (array domain bits owner unit closed) : Answers (execSramUncorrectable array domain bits owner unit closed s) := by
  dsimp only [execSramUncorrectable]
  split <;> exact .next

theorem execDramRequest_answers (port addr op hint owner staging tag evict ns) : Answers (execDramRequest port addr op hint owner staging tag evict ns s) := by
  dsimp only [execDramRequest]
  refine .ite (.guard .next) (.guard (.guard (.ite (.guard .next) (.guard ?_))))
  split
  · exact .next
  · exact .ite (.guard .next) .next

theorem execBulkBlockDone_answers (core) : Answers (execBulkBlockDone core s) := by
  dsimp only [execBulkBlockDone]
  refine .guard ?_
  split
  · exact .next
  · split
    · exact .next
    · split <;> exact .next

theorem execGmacVerify_answers (queue tag blk) : Answers (execGmacVerify queue tag blk s) := by
  dsimp only [execGmacVerify]
  split
  · exact .next
  · split
    · exact .next
    · split
      · exact .guard (.guard .next)
      · exact .next

theorem execDrainWindowEnd_answers (d refuser us) : Answers (execDrainWindowEnd d refuser us s) := by
  dsimp only [execDrainWindowEnd]
  split
  · refine .guard (.guard ?_)
    split <;> exact .guard .next
  · split
    · split
      · exact .guard .next
      · exact .next
    · exact .next

theorem execIdentSend_answers (port) : Answers (execIdentSend port s) := by
  dsimp only [execIdentSend]
  refine .guard ?_
  split
  · exact .guard .next
  · exact .next
  · exact .next

theorem execBeatReceive_answers (port rx frame us) : Answers (execBeatReceive port rx frame us s) := by
  exact .guard (.ite (.guard (.guard (.guard .next))) (.guard (.guard (.guard (.guard (.guard .next))))))

theorem execTwinLine_answers (tseq cmd us) : Answers (execTwinLine tseq cmd us s) := by
  dsimp only [execTwinLine]
  refine .guard (.guard ?_)
  split <;> exact .next

theorem execSeamReplyReceive_answers (src req last text us) : Answers (execSeamReplyReceive src req last text us s) := by
  dsimp only [execSeamReplyReceive]
  split
  · exact .next
  · exact .next
  · exact .guard .next

theorem execLifecycleProgramDone_answers (failed) : Answers (execLifecycleProgramDone failed s) := by
  dsimp only [execLifecycleProgramDone]
  split
  · exact .next
  · split <;> exact .next

theorem execRegisterWrite_answers (core addr bytes p1 epoch word other got us) : Answers (execRegisterWrite core addr bytes p1 epoch word other got us s) := by
  dsimp only [execRegisterWrite]
  refine .guard (.guard (.guard (.guard (.guard (.guard ?_)))))
  split
  · exact .guard (.guard .next)
  · exact .next

theorem execRegisterReadClear_answers (core addr bytes p1 epoch us) : Answers (execRegisterReadClear core addr bytes p1 epoch us s) := by
  exact .guard (.guard (.guard (.guard (.guard (.guard .next)))))

/-- Every command answers a next state: the leaves of its choices are next states. Commands with the same tree of choices stand together. -/
theorem exec_answers (i : Instr) : Answers (exec i s) := by
  cases i with
  | supplyGoodRise | supplyGoodFall | crystalLoss | aonRelease | pllLock | fuseShadowLoad | sramFill | checkerSelfTest | tailorRelease | collarBanner
    | dieDiscovery | bootRecordsRead | pocketTableLoad | readyRise | stagingToDramSwitch | mapBackgroundLoadDone | watchdogExpiry | collarBreak |
    typedNoticeRelease | serviceIdleExpiry | slvRstNFall | slvRstNRise | grtRepeat | grtRestart | trainingAttemptStart | trainingReportReceive |
    passPreambleTimeout | dataPhaseEntry | retrainGrt | hostWakeBurst | cardWakeBurst | laneLoopbackDone | laneRetry | laneErrorThreshold |
    turnReceive | turnIdleInference | repeatLimit | quadCheckDone | quadRetry | checkpointTimer | codewordDecode | dramRefresh | rowIdleClose |
    dqsTrack | nonceReserve | nonceReserveDone | keyDrainEnd | journalBlockErase | keyRbEncrypt | keyRbDecrypt | cipherPairKat | mpuFault |
    extensionStart | mpuLock | tagWrite | liningSample | chargeRampDone | estimateRefreshDue | esrStep | bankAbsentTimeout | linOvervolt | linHot |
    sensorFault | converterFault | linCfgChgEn | linProbeStart | budgetRecompute | ebSample | removalTriggerVin | rmvCtlDrill | bankExhausted |
    cdetNFall | domainCheckDone | domainRejoin | fabricHang | fabricReply | domainRetry | pwrDreqOn | coreclkGate | regulatorTimeout | throttleStep |
    throttleRelease | acmpCrossing | adcSample | wakeTimer | stateExitDone | tackVisit | seamMonitorLock | ringFormTimeout | hopRetry | hopError |
    hopDownLeave | beatSend | mantleElectionTimer | mantleStandbyTakeover | localMinuteClose | twinRegionEnd | twinHold | holdExpiry | twinAck |
    twinPairItem | twinConfirmTimeout | twinLostTimeout | takeoverAuto | seamNoticeReceive | bucketBroadcast | bucketRepeat | htgBucketReceive |
    htgPselWrite | htgBselWrite | lineShow | lineSpeed | lineMode | lineCts | flashFormatDone | eccInjArm | colCtsNChange | patrolSlow |
    joinNoMantleTimeout | standbyBeatWaitExpiry | seamMonitorLockLoss | crystalRecovery =>
    exact .guard .next
  | keyJournalLoad | dramTrainingDone | selReceive | wakeBurstRetry | boltOpen | dramAlert | liningFaultRetry | removalTriggerCdet |
    removalCheckpointDone | ringFrameReceive | twinNak | htgSample =>
    exact .guard (.guard .next)
  | startupTimerExpiry | noticeSend =>
    exact .guard (.guard (.guard .next))
  | replayDone =>
    exact .ite (.guard .next) .next
  | lineSpeedSwitch | pocketDeleteFinish | queueFree | boltRelease | mapSegmentReadDone | retryStepDone | recoveryTimeout | keyDrainTimeout |
    journalTimeout | rearm | rearmPowerOn | levelChangePause | pointOfNoReturn | beatSilence | bistRunDone | bistRunTimeout | twinSwapTimeout =>
    dsimp only [exec, execLineSpeedSwitch, execPocketDeleteFinish, execQueueFree, execBoltRelease, execMapSegmentReadDone, execRetryStepDone,
      execRecoveryTimeout, execKeyDrainTimeout, execJournalTimeout, execRearm, execRearmPowerOn, execLevelChangePause, execPointOfNoReturn,
      execBeatSilence, execBistRunDone, execBistRunTimeout, execTwinSwapTimeout]
    split
    · exact .next
    · exact .guard .next
  | strictIdleTimeout | cardTurnStart | rankShrink | bulkBlockStart | removalFlushDone | hopJoinReceive | hopAttemptEnd | seamAckReceive |
    seamRepReceive | seamGoBackTimeout =>
    dsimp only [exec, execStrictIdleTimeout, execCardTurnStart, execRankShrink, execBulkBlockStart, execRemovalFlushDone, execHopJoinReceive,
      execHopAttemptEnd, execSeamAckReceive, execSeamRepReceive, execSeamGoBackTimeout]
    refine .guard ?_
    split <;> exact .next
  | ackReceive | repReceive | dramSchedule | dramLineRead | migrationDone | identReceive | jtagMakeTransition | flashPatrolRead =>
    dsimp only [exec, execAckReceive, execRepReceive, execDramSchedule, execDramLineRead, execMigrationDone, execIdentReceive, execJtagMakeTransition,
      execFlashPatrolRead]
    refine .guard ?_
    split
    · exact .next
    · exact .guard .next
  | jobDone | journalCommit | resetHoldEnd | domainSwitchOnDone | ringInsert | twinOffer =>
    dsimp only [exec, execJobDone, execJournalCommit, execResetHoldEnd, execDomainSwitchOnDone, execRingInsert, execTwinOffer]
    split <;> exact .next
  | trainingVerdict | lnkRetrainReceive | relocation | mergeEntryTimeout =>
    dsimp only [exec, execTrainingVerdict, execLnkRetrainReceive, execRelocation, execMergeEntryTimeout]
    refine .guard ?_
    split
    · exact .guard .next
    · exact .next
  | moverFlush | throughNotice | blockEraseDone =>
    dsimp only [exec, execMoverFlush, execThroughNotice, execBlockEraseDone]
    split
    · exact .next
    · exact .guard (.guard .next)
  | migrationCopyLine | hopReportReceive | darnRegion =>
    dsimp only [exec, execMigrationCopyLine, execHopReportReceive, execDarnRegion]
    refine .guard ?_
    split
    · exact .next
    · exact .guard (.guard .next)
  | drainComplete | powerStateNap | twinPairLapse =>
    dsimp only [exec, execDrainComplete, execPowerStateNap, execTwinPairLapse]
    split
    · exact .guard .next
    · exact .next
  | dramRestore | gcStart =>
    dsimp only [exec, execDramRestore, execGcStart]
    refine .guard (.guard ?_)
    split
    · exact .next
    · exact .guard .next
  | chargeFloatEntry | probeDone =>
    dsimp only [exec, execChargeFloatEntry, execProbeDone]
    split
    · exact .guard (.guard .next)
    · exact .next
  | resetFlushDone => exact execResetFlushDone_answers ..
  | lineDiscard => exact execLineDiscard_answers ..
  | resendRequest => exact execResendRequest_answers ..
  | pocketSizeReduceApply => exact execPocketSizeReduceApply_answers ..
  | basteCplDeadline => exact execBasteCplDeadline_answers ..
  | prefetchFill => exact execPrefetchFill_answers ..
  | wearLevelStart => exact execWearLevelStart_answers ..
  | rebuildDone => exact execRebuildDone_answers ..
  | sramUncorrectable => exact execSramUncorrectable_answers ..
  | dramRequest => exact execDramRequest_answers ..
  | bulkBlockDone => exact execBulkBlockDone_answers ..
  | gmacVerify => exact execGmacVerify_answers ..
  | drainWindowEnd => exact execDrainWindowEnd_answers ..
  | identSend => exact execIdentSend_answers ..
  | beatReceive => exact execBeatReceive_answers ..
  | twinLine => exact execTwinLine_answers ..
  | seamReplyReceive => exact execSeamReplyReceive_answers ..
  | lifecycleProgramDone => exact execLifecycleProgramDone_answers ..
  | registerWrite => exact execRegisterWrite_answers ..
  | registerReadClear => exact execRegisterReadClear_answers ..
  -- The commands that choose within their next state alone; the commands of lines are among them (R155).
  | _ => exact .next

end

/-- Settles O3: each command's meaning is a tree of choices between next states. -/
theorem everyCommandAnswers : Obligations.EveryCommandAnswers := by
  unfold Obligations.EveryCommandAnswers
  exact fun i _ => exec_answers i

end Sys2Proof.Machine
end

section
/-!
PROOFS. Replies, RP and notices: what they store and what they leave (chapter 03: R155, R164, R166, R168, R170).
-/
namespace Sys2Proof.Machine
open Sys2Proof

section
variable (s : State) (p : Path)

/-! ### What each stores -/

theorem State.session_reply_same (r : Reply) :
    (s.reply p r).session p = { s.session p with last := some (s.strict p, r), await := none } := by
  dsimp only [State.reply]
  rw [(State.prompt_keeps _ p).2.session, State.session_setSession_same]

theorem State.session_reply_other (r : Reply) {q : Path} (h : q ≠ p) : (s.reply p r).session q = s.session q := by
  dsimp only [State.reply]
  rw [(State.prompt_keeps _ p).2.session, State.session_setSession_other _ _ _ _ h, (State.send_keeps s p _).2.session]

theorem State.rp_keeps (w : RpReason) : SameStores s (s.rp p w) ∧ SameSessions s (s.rp p w) := by
  obtain ⟨hstores, hsessions⟩ := State.send_keeps s p (.rp w)
  obtain ⟨hstores', hsessions'⟩ := State.prompt_keeps { s.send p (.rp w) with col := { (s.send p (.rp w)).col with
    rpLog := (s.send p (.rp w)).col.rpLog ++ [(p, w.status)] } } p
  exact ⟨SameStores.trans hstores hstores', SameSessions.trans hsessions hsessions'⟩

theorem State.notifyOn_keeps (ev : String) (kv : List KV) : SameStores s (s.notifyOn p ev kv) :=
  State.setSession_keeps s p _

theorem State.notify_keeps (ev : String) (kv : List KV) : SameStores s (s.notify ev kv) := by
  simp [SameStores]

/-- A notice on every path is noted path by path, and stands in no session as its last reply. -/
theorem State.last_notify (ev : String) (kv : List KV) (q : Path) : ((s.notify ev kv).session q).last = (s.session q).last := by
  unfold State.notify
  refine (foldl_same (fun t => (t.session q).last) _ (fun t k => t.last_setSession_note (.seam k) q _) _ _).trans ?_
  cases q with
  | collar | mgt => exact Session.note_last _ _
  | seam => rfl

end

theorem Session.note_of_room {x : Session} (n : Notice) (h : x.notices.length < 64) : x.note n = { x with notices := x.notices ++ [n] } := if_pos h

theorem Session.note_of_full {x : Session} (n : Notice) (h : 64 ≤ x.notices.length) : x.note n = { x with lost := x.lost + 1 } :=
  if_neg (Nat.not_lt.2 h)

/-- Settles O7: a reply is stored in its own session; lines, prompts and notices change no store and no stored reply. -/
theorem repliesAndNotices : Obligations.RepliesAndNotices := by
  unfold Obligations.RepliesAndNotices
  refine ⟨?stored, ?others, ?frame, ?queue⟩
  case stored =>
    intro s p r
    rw [State.session_reply_same]
    exact ⟨rfl, rfl⟩
  case others =>
    intro s p r w ev kv q
    exact ⟨fun h => by rw [State.session_reply_other s p r h], by rw [(s.rp_keeps p w).2.session], s.last_setSession_note p q _, s.last_notify ev kv q⟩
  case frame =>
    intro s t p r w ev kv ht
    have hkeeps : SameStores s t := by
      simp only [List.mem_cons, List.not_mem_nil, or_false] at ht
      rcases ht with rfl | rfl | rfl | rfl
      · exact s.reply_keeps p r
      · exact (s.rp_keeps p w).1
      · exact s.notify_keeps ev kv
      · exact s.notifyOn_keeps p ev kv
    obtain ⟨h1, h2, h3, h4, h5, h6, h7, h8, h9, h10, h11, h12, h13, h14, h15, h16, h17, -⟩ := hkeeps
    exact ⟨h1, h2, h3, h4, h5, h6, h7, h8, h9, h10, h11, h12, h13, h14, h15, h16, h17⟩
  case queue =>
    intro x n
    refine ⟨fun h => ?_, fun h => ?_⟩
    · rw [Session.note_of_room n h]
      exact ⟨rfl, rfl⟩
    · rw [Session.note_of_full n h]
      exact ⟨rfl, rfl⟩

end Sys2Proof.Machine
end

section
/-!
PROOFS. The session verbs `line` and `clock set` (chapters 03 and 19: R135 to R139, R153, R154, R986, R988 to R990).
-/
namespace Sys2Proof.Machine
open Sys2Proof

section
variable {s : State} {c : Say} {ln : Ln} {us : Nat} {body : State → State × Result}

/-! ### The `line` verb -/

/-- The `line` verb's commands. -/
noncomputable def lineVerbs (ln : Ln) (speed us : Nat) (b : Bool) : List (Instr × Say) :=
  [(.lineShow ln us, .lineShow us), (.lineSpeed ln speed us, .lineSpeed speed us), (.lineMode ln b us, .lineMode b us), (.lineCts ln b us, .lineCts b us)]

theorem lineVerbs_lineCmd {x : Instr × Say} {speed : Nat} {b : Bool} (hx : x ∈ lineVerbs ln speed us b) :
    ∃ body, ∀ s, exec x.1 s = s.lineCmd x.2 ln us body := by
  simp only [lineVerbs, List.mem_cons, List.not_mem_nil, or_false] at hx
  rcases hx with rfl | rfl | rfl | rfl <;> exact ⟨_, fun _ => rfl⟩

section
variable (hp : ln.path = .collar) (h : s.runs c ln us (reading [.operator] []) false)
include hp h

theorem State.lineCmd_ok {v : State} {d : List (List KV)} {kv : List KV} (hb : body (s.taken ln us) = (v, .ok d kv)) :
    s.lineCmd c ln us body = .next (v.reply ln.path (.ok ln.tag d kv)) :=
  (if_pos hp).trans (State.cmd_ok h rfl hb)

theorem State.lineCmd_fail {v : State} {st : Status} (hb : body (s.taken ln us) = (v, .fail st)) :
    s.lineCmd c ln us body = .next (v.reply ln.path (.er ln.tag st)) :=
  (if_pos hp).trans (State.cmd_fail h rfl hb)

end

/-- The verb acts on the Collar's session alone (R154). -/
theorem State.lineCmd_elsewhere (hp : ln.path ≠ .collar) (hr : (s.at us).ripe (c.waited ln) ln.rx = true) (hs : (s.at us).says c ln = true)
    (hg : (s.taken ln us).gate ln.path helloForm false = none) :
    s.lineCmd c ln us body = .next ((s.taken ln us).reply ln.path (.er ln.tag .wrongState)) := by
  simp only [State.taken] at hg ⊢
  simp only [State.lineCmd, hp, State.runLine, hr, hs, hg, Bool.and_self, Bool.not_true, Bool.false_eq_true, if_false]
  rfl

/-- A change of mode leaves the other fields of SYS_COLCFG, the other registers and all else (R153). -/
theorem State.setStrict_frame (b : Bool) (h : s.canonical = true) :
    (s.setFlag SYS_COLCFG.STRICT b).flag SYS_COLCFG.STRICT = b ∧ s.setFlag SYS_COLCFG.STRICT b = { s with regs := (s.setFlag SYS_COLCFG.STRICT b).regs } ∧
      (s.setFlag SYS_COLCFG.STRICT b).get SYS_COLCFG.BAUD_DIV = s.get SYS_COLCFG.BAUD_DIV ∧
      ∀ a, a ≠ SYS_COLCFG.addr → (s.setFlag SYS_COLCFG.STRICT b).word a = s.word a :=
  ⟨State.flag_setFlag_same s _ b (by decide) h, rfl, State.get_set_apart s _ _ _ rfl h, fun _ ha => State.word_set_other s _ _ _ ha h⟩

end

/-- Settles O10: each command is a row of its verb; on the Collar its body answers, and elsewhere `line` is refused. -/
theorem sessionChanges : Obligations.SessionChanges := by
  unfold Obligations.SessionChanges
  refine ⟨?speed, ?badSpeed, ?mode, ?cts, ?elsewhere, ?clock, ?clockRefused⟩
  case speed =>
    rintro s u ln speed us rfl hp h hlo hhi
    exact State.lineCmd_ok hp h (if_neg (by omega))
  case badSpeed =>
    rintro s u ln speed us rfl hp h hbad
    exact State.lineCmd_fail hp h (if_pos hbad)
  case mode =>
    rintro s u ln strict us rfl hs hp h
    exact ⟨_, State.lineCmd_ok hp h rfl, State.setStrict_frame strict (State.taken_canonical ln us hs)⟩
  case cts =>
    rintro s u ln on us rfl hp h
    exact State.lineCmd_ok hp h rfl
  case elsewhere =>
    rintro s u ln speed us b x hx rfl hp hr hs hg
    obtain ⟨body, hbody⟩ := lineVerbs_lineCmd hx
    rw [hbody]
    exact State.lineCmd_elsewhere hp hr hs hg
  case clock =>
    rintro s u v ln m sec us rfl h hm hsec h1 h2 rfl
    have hrange : ¬ (2 ^ 32 ≤ m ∨ 60 ≤ sec) := by omega
    have hstate : ¬ ((s.taken ln us).get SEAM_MANTLE.STATE = 1 ∨ (s.taken ln us).get SEAM_MANTLE.STATE = 2) := not_or.2 ⟨h1, h2⟩
    exact State.cmd_done h rfl ((if_neg hrange).trans (if_neg hstate))
  case clockRefused =>
    rintro s u ln m sec us rfl h hm hsec hstate
    have hrange : ¬ (2 ^ 32 ≤ m ∨ 60 ≤ sec) := by omega
    exact State.cmd_refused h rfl ((if_neg hrange).trans (if_pos hstate))

end Sys2Proof.Machine
end

section
/-!
PROOFS. A character at COL_RXD (chapter 03: R130, R132, R138, R141, R152, R174, R196, Table COL-3).
-/
namespace Sys2Proof.Machine
open Sys2Proof

section
variable {s : State} {c : Nat} {p f : Bool}

theorem exec_collarCharacter (us : Nat) : exec (.collarCharacter c p f us) s = .next ((s.wakeEvent 1 0 us).collarChar c p f) := rfl

/-! ### What reaches the line editor -/

theorem State.collarChar_lost (h : s.bannerDone = false ∨ (s.t0Runs = false ∧ s.asleep = false) ∨
    (s.col.switchDiv.isSome = true ∧ s.replyHeld .collar = false) ∨ s.col.inBreak = true) : s.collarChar c p f = s := by
  refine if_pos ?_
  rcases h with h | ⟨h, h'⟩ | ⟨h, h'⟩ | h
  · simp only [h, Bool.not_false, Bool.true_or]
  · simp only [h, h', Bool.or_self, Bool.not_false, Bool.or_true, Bool.true_or]
  · simp only [h, h', Bool.not_false, Bool.and_self, Bool.or_true, Bool.true_or]
  · simp only [h, Bool.or_true]

section
variable (hb : s.bannerDone = true) (ht : s.t0Runs = true) (hd : s.col.switchDiv = none) (hk : s.col.inBreak = false)
include hb ht hd hk

/-- A character in error marks its line, and is held if there is room (R132, R174). -/
theorem State.collarChar_error (he : p = true ∨ f = true) : s.collarChar c p f =
    s.setPart (if 256 ≤ s.heldChars
      then { s.col.part with parity := s.col.part.parity || p, framing := s.col.part.framing || f, overrun := true }
      else { s.col.part with parity := s.col.part.parity || p, framing := s.col.part.framing || f, marks := s.col.part.marks + 1 }) := by
  simp only [State.collarChar, hb, ht, hd, hk, Bool.or_eq_true, he, Bool.not_true, Bool.true_or, Option.isSome_none, Bool.false_and, Bool.or_self,
    Bool.false_eq_true, if_false, if_true]

theorem State.collarChar_good : s.collarChar c false false = s.goodChar (c % 256) := by
  simp only [State.collarChar, hb, ht, hd, hk, Bool.not_true, Bool.true_or, Option.isSome_none, Bool.false_and, Bool.or_self, Bool.false_eq_true,
    if_false]

end

/-! ### The line editor -/

theorem State.echo_typed (h : s.strict .collar = false) (cs : List Nat) : s.echo cs = s.send .collar (.echo cs) := by
  simp only [State.echo, h, Bool.false_eq_true, if_false]

theorem State.echo_strict (h : s.strict .collar = true) (cs : List Nat) : s.echo cs = s := by
  simp only [State.echo, h, if_true]

theorem State.takeChar_of_room (h : s.heldChars < 256) :
    s.takeChar c = (s.echo [c]).setPart { s.col.part with chars := s.col.part.chars ++ [c] } := if_neg (Nat.not_le.2 h)

theorem State.takeChar_of_full (h : 256 ≤ s.heldChars) : s.takeChar c = s.setPart { s.col.part with overrun := true } := if_pos h

/-- A printable character is taken in either mode. -/
theorem State.goodChar_printable (hlo : 0x20 ≤ c) (hhi : c < 0x7F) : s.goodChar c = s.takeChar c := by
  have hcr : c ≠ 0x0D := by omega
  have hlf : c ≠ 0x0A := by omega
  have hrub : ¬ (c = 0x08 ∨ c = 0x7F) := by omega
  have hnak : c ≠ 0x15 := by omega
  have hctl : ¬ (c < 0x20 ∨ 0x80 ≤ c) := by omega
  simp only [State.goodChar, hcr, hlf, hrub, hnak, hctl, if_false, ite_self]

/-- In strict mode every character but the terminators is taken (R152). -/
theorem State.goodChar_strict (h : s.strict .collar = true) (hcr : c ≠ 0x0D) (hlf : c ≠ 0x0A) : s.goodChar c = s.takeChar c := by
  simp only [State.goodChar, hcr, hlf, h, if_false, if_true]

theorem State.goodChar_rubout (h : s.strict .collar = false) (hc : c = 0x08 ∨ c = 0x7F) (hl : s.col.part.chars ≠ []) :
    s.goodChar c = (s.send .collar (.echo [0x08, 0x20, 0x08])).setPart { s.col.part with chars := s.col.part.chars.dropLast } := by
  have hcr : c ≠ 0x0D := by omega
  have hlf : c ≠ 0x0A := by omega
  simp only [State.goodChar, hcr, hlf, h, hc, hl, State.echo_typed h, rubout, List.append_nil, Bool.false_eq_true, if_false, if_true]

theorem State.goodChar_nak (h : s.strict .collar = false) (hl : s.col.part.chars ≠ []) :
    s.goodChar 0x15 = (s.send .collar (.echo (rubout s.col.part.chars.length))).setPart { s.col.part with chars := [] } := by
  simp [State.goodChar, h, hl, State.echo_typed h]

theorem State.goodChar_lf : s.goodChar 0x0A = s := rfl

/-- CR ends a line that is neither empty nor a `=` while a reply is owed: it waits for its processing. -/
theorem State.goodChar_cr (h : s.strict .collar = false) (hl : s.col.part.chars.all (· == 0x20) = false)
    (he : s.col.part ≠ { RawLine.empty with chars := [0x3D] } ∨ (s.col.collar.await = none ∧ s.replyHeld .collar = false)) :
    s.goodChar 0x0D = { (s.send .collar (.echo [0x0D, 0x0A])).setPart RawLine.empty with
      col := { ((s.send .collar (.echo [0x0D, 0x0A])).setPart RawLine.empty).col with
        held := ((s.send .collar (.echo [0x0D, 0x0A])).setPart RawLine.empty).col.held ++ [s.col.part] } } := by
  have hresend : ¬ (s.col.part = { RawLine.empty with chars := [0x3D] } ∧ (s.col.collar.await.isSome = true ∨ s.replyHeld .collar = true)) := by
    rintro ⟨hpart, howed⟩
    obtain ⟨hawait, hheld⟩ := he.resolve_left (not_not.2 hpart)
    simp only [hawait, hheld, Option.isSome_none, Bool.false_eq_true, or_self] at howed
  change s.endLine = _
  simp only [State.endLine, hresend, hl, State.echo_typed h, Bool.and_false, Bool.false_eq_true, if_false]

end

/-- Settles O32: a character is lost, marks its line, or goes to the line editor, where each has its own effect. -/
theorem collarCharacters : Obligations.CollarCharacters := by
  unfold Obligations.CollarCharacters
  refine ⟨?lost, ?taken⟩
  case lost =>
    rintro s u c p f us rfl h
    rw [exec_collarCharacter, State.collarChar_lost h]
  case taken =>
    intro s u us hu hb ht hd hk
    have hexec : ∀ c p f, exec (.collarCharacter c p f us) s = .next (u.collarChar c p f) := fun _ _ _ => hu ▸ exec_collarCharacter us
    have hgood : ∀ c, exec (.collarCharacter c false false us) s = .next (u.goodChar (c % 256)) := by
      intro c
      rw [hexec, State.collarChar_good hb ht hd hk]
    refine ⟨?error, ?typed, ?strict, ?full, ?erase, hgood 0x0A, ?cr⟩
    case error =>
      intro c p f he
      rw [hexec, State.collarChar_error hb ht hd hk he]
      exact ⟨fun h => by rw [if_neg (Nat.not_le.2 h)], fun h => by rw [if_pos h]⟩
    case typed =>
      intro c h hlo hhi hroom
      rw [hgood, Nat.mod_eq_of_lt (by omega), State.goodChar_printable hlo hhi, State.takeChar_of_room hroom, State.echo_typed h]
    case strict =>
      intro c h hc hcr hlf hroom
      rw [hgood, Nat.mod_eq_of_lt hc, State.goodChar_strict h hcr hlf, State.takeChar_of_room hroom, State.echo_strict h]
    case full =>
      intro c hlo hhi hfull
      rw [hgood, Nat.mod_eq_of_lt (by omega), State.goodChar_printable hlo hhi, State.takeChar_of_full hfull]
    case erase =>
      intro h hl
      rw [hgood, hgood, hgood, State.goodChar_rubout h (.inl rfl) hl, State.goodChar_rubout h (.inr rfl) hl, State.goodChar_nak h hl]
      exact ⟨rfl, rfl, rfl⟩
    case cr =>
      intro h hl he
      rw [hgood, State.goodChar_cr h hl he]

end Sys2Proof.Machine
end

section
/-!
PROOFS. Lines that end without a reply, breaks, the speed switch and the notices of a typed line (chapter 03: R129, R133, R137, R139, R142, R152, R163,
R166 to R168, R186, R196).
-/
namespace Sys2Proof.Machine
open Sys2Proof

section
variable {s : State} {p : Path} {l : RawLine} {left : Nat}

/-- A row that no MGT frame speaks against. -/
theorem State.frameJudge_stands {e : FrameRx} (hf : p = .mgt → (s.frameJudge e).2 = true) : ¬ (p = .mgt ∧ (s.frameJudge e).2 = false) :=
  fun ⟨hp, h⟩ => Bool.noConfusion ((hf hp).symm.trans h)

/-! ### A line that is discarded -/

/-- The card finds a fault in the line, or ignores it as an empty line of a framed path. -/
def State.discards (s : State) (p : Path) (l : RawLine) : Bool :=
  (lineFault (s.strict p) (p != .collar) l).isSome || (p != .collar && l.chars.all (· == 0x20))

/-- A line that is discarded as it is taken up is answered RP with its fault, or nothing. -/
def State.discard (s : State) (p : Path) (l : RawLine) : State :=
  match lineFault (s.strict p) (p != .collar) l with
  | some w => (s.heard p l.rx).rp p w
  | none => s.heard p l.rx

theorem exec_lineDiscard_not (h : s.hears p = false ∨ s.isHeld p (· == l) = false ∨ s.discards p l = false) :
    exec (.lineDiscard p l) s = .next s := by
  refine if_pos ?_
  rcases h with h | h | h
  · simp only [h, Bool.not_false, Bool.true_or]
  · simp only [h, Bool.not_false, Bool.or_true, Bool.true_or]
  · simp only [State.discards] at h
    simp only [h, Bool.not_false, Bool.or_true]

section
variable (hh : s.hears p = true) (hl : s.isHeld p (· == l) = true) (hf : p = .mgt → (s.frameJudge l.rx).2 = true) (hd : s.discards p l = true)
include hh hl hf hd

theorem exec_lineDiscard_ripe (hr : s.ripe (discarded p) l.rx = true) : exec (.lineDiscard p l) s = .next (s.discard p l) := by
  simp only [State.discards] at hd
  change execLineDiscard p l s = _
  simp only [execLineDiscard, hh, hl, hd, State.frameJudge_stands hf, hr, State.discard, Bool.not_true, Bool.or_self,
    Bool.false_eq_true, Bool.true_eq_false, if_false]
  cases lineFault (s.strict p) (p != .collar) l <;> rfl

theorem exec_lineDiscard_kept (hr : s.ripe (discarded p) l.rx = false) : exec (.lineDiscard p l) s = .next (s.keepLine (discarded p) l.rx) := by
  simp only [State.discards] at hd
  change execLineDiscard p l s = _
  simp only [execLineDiscard, hh, hl, hd, State.frameJudge_stands hf, hr, Bool.not_true, Bool.or_self, Bool.false_eq_true, if_false, if_true]

end

theorem State.discards_of_fault {w : RpReason} (h : lineFault (s.strict p) (p != .collar) l = some w) : s.discards p l = true := by
  simp only [State.discards, h, Option.isSome_some, Bool.true_or]

theorem State.discards_of_empty (hp : p ≠ .collar) (he : l.chars.all (· == 0x20) = true) : s.discards p l = true := by
  simp only [State.discards, bne_iff_ne.2 hp, he, Bool.and_self, Bool.or_true]

theorem State.discards_not (h : lineFault (s.strict p) (p != .collar) l = none) (he : p = .collar ∨ l.chars.all (· == 0x20) = false) :
    s.discards p l = false := by
  rcases he with rfl | he
  · simp only [State.discards, h]
    rfl
  · simp only [State.discards, h, he, Option.isSome_none, Bool.and_false, Bool.or_self]

/-! ### Breaks -/

theorem State.send_inBreak (l : CardLine) (h : s.col.inBreak = true) : s.send .collar l = s := if_pos ⟨rfl, h⟩

section
variable {ls : List CardLine} {cut : Nat} {rest : List (Path × CardLine)} (hu : unsent left s.col.sent.reverse = (ls, cut, rest))
include hu

theorem State.cutOutput_sent (h : ls = []) : s.cutOutput left = s := by
  simp only [State.cutOutput, hu, h, if_true]

/-- What has not gone is held back before what was held back already. -/
theorem State.cutOutput_unsent (h : ls ≠ []) : s.cutOutput left = { s with col := { s.col with
    sent := rest.reverse, txHold := ls ++ s.col.txHold, txCut := cut,
    txLock := s.col.txLock || (ls.any CardLine.isReply && s.col.lastChange == some (.collar, s.clk)) } } := by
  simp only [State.cutOutput, hu, h, if_false]

end

theorem exec_collarBreak_begin : exec (.collarBreak false left) s =
    .next { s.cutOutput left with col := { (s.cutOutput left).col with inBreak := true } } := rfl

theorem exec_collarBreak_end : exec (.collarBreak true left) s = .next s.breakEnd := rfl

/-! ### The strict line and the typed line -/

theorem exec_strictIdleTimeout_partial {w : RpReason} (hs : s.strict .collar = true) (hl : s.col.part ≠ RawLine.empty) (ht : s.t0Runs = true)
    (hw : lineFault true false { s.col.part with idle := true } = some w) :
    exec .strictIdleTimeout s = .next ((s.setPart RawLine.empty).rp .collar w) := by
  change execStrictIdleTimeout s = _
  simp only [execStrictIdleTimeout, hs, beq_eq_false_iff_ne.2 hl, ht, hw, Bool.not_true, Bool.or_self, Bool.false_eq_true, if_false]

theorem exec_typedNoticeRelease_due (hs : s.strict .collar = false) (hl : s.col.part ≠ RawLine.empty) (hn : s.col.collar.due ≠ [])
    (ha : s.col.collar.await = none) (hd : s.col.switchDiv = none) (hk : s.col.inBreak = false) (ht : s.t0Runs = true) (hh : s.col.held = [])
    (hr : s.replyHeld .collar = false) : exec .typedNoticeRelease s =
    .next (((s.send .collar (.echo [0x0D, 0x0A])).sendNotices .collar).send .collar (.echo s.col.part.chars)) := by
  change execTypedNoticeRelease s = _
  simp only [execTypedNoticeRelease, hs, beq_eq_false_iff_ne.2 hl, beq_eq_false_iff_ne.2 hn, ha, hd, hk, ht, hh, hr, Option.isSome_none,
    List.isEmpty_nil, Bool.not_true, Bool.or_self, Bool.false_eq_true, if_false]

/-! ### The speed switch -/

theorem exec_lineSpeedSwitch_due {d : Nat} (hd : s.col.switchDiv = some d) : exec .lineSpeedSwitch s = if s.replyHeld .collar then .next s else
    .next ((State.set { s with col := { s.col with switchDiv := none } } SYS_COLCFG.BAUD_DIV d).prompt .collar) := by
  change execLineSpeedSwitch s = _
  simp only [execLineSpeedSwitch, hd]

end

/-- Settles O33: a line goes by its fault, a break cuts the output and starts the Collar anew, and what waited for its moment goes on. -/
theorem collarLineEvents : Obligations.CollarLineEvents := by
  unfold Obligations.CollarLineEvents
  refine ⟨?discarded, ?stands, ?begins, fun s l h => State.send_inBreak l h, ?ends, ?switch,
    fun s w hs hl ht hw => exec_strictIdleTimeout_partial hs hl ht hw,
    fun s hs hl hn ha hd hk ht hh hr => exec_typedNoticeRelease_due hs hl hn ha hd hk ht hh hr⟩
  case discarded =>
    intro s p l hh hl hf
    refine ⟨fun w hw => ?_, fun hw hp he => ?_⟩
    · have hd := State.discards_of_fault hw
      refine ⟨fun hr => ?_, exec_lineDiscard_kept hh hl hf hd⟩
      rw [exec_lineDiscard_ripe hh hl hf hd hr]
      simp only [State.discard, hw]
    · have hd := State.discards_of_empty (s := s) hp he
      refine ⟨fun hr => ?_, exec_lineDiscard_kept hh hl hf hd⟩
      rw [exec_lineDiscard_ripe hh hl hf hd hr]
      simp only [State.discard, hw]
  case stands =>
    rintro s p l (h | h | ⟨hw, he⟩)
    · exact exec_lineDiscard_not (.inl h)
    · exact exec_lineDiscard_not (.inr (.inl h))
    · exact exec_lineDiscard_not (.inr (.inr (State.discards_not hw he)))
  case begins =>
    intro s left ls cut rest hu
    rw [exec_collarBreak_begin]
    refine ⟨fun h => by rw [State.cutOutput_sent hu h], fun h => ⟨_, rfl, rfl, ?_⟩⟩
    rw [State.cutOutput_unsent hu h]
    exact ⟨rfl, rfl, rfl, rfl⟩
  case ends =>
    rintro s m u left rfl rfl
    rw [exec_collarBreak_end]
    refine ⟨fun hb ht => congrArg _ (if_neg ?_), fun h => congrArg _ (if_pos ?_)⟩
    · simp only [hb, ht, Bool.not_true, Bool.or_self, Bool.false_eq_true, not_false_iff]
    · simpa only [Bool.or_eq_true, Bool.not_eq_true'] using h
  case switch =>
    intro s d hd
    rw [exec_lineSpeedSwitch_due hd]
    exact ⟨fun h => if_neg (by rw [h]; exact Bool.false_ne_true), fun h => if_pos h⟩

end Sys2Proof.Machine
end

section
/-!
PROOFS. Notices of an idle path, resends, the ends of challenges and jobs, CTS_N and BAUD_DIV (chapter 03: R129, R140, R161, R162, R165, R169 to R172, R175,
R183, R185, R186, R189, R195, R197).
-/
namespace Sys2Proof.Machine
open Sys2Proof

section
variable {s : State} {p : Path}

/-! ### Notices and resends -/

theorem exec_noticeSend_idle (hb : s.bannerDone = true) (ht : s.t0Runs = true) (hi : s.pathIdle p = true)
    (hc : p = .collar → s.col.switchDiv = none ∧ s.col.inBreak = false) (hm : p = .mgt → s.linkUp = true) :
    exec (.noticeSend p) s = .next (s.sendNotices p) := by
  have hwindow : ¬ (p = .collar ∧ (s.col.switchDiv.isSome = true ∨ s.col.inBreak = true)) := by
    rintro ⟨hp, h⟩
    obtain ⟨hd, hk⟩ := hc hp
    simp only [hd, hk, Option.isSome_none, Bool.false_eq_true, or_self] at h
  have hlink : ¬ (p = .mgt ∧ (!s.linkUp) = true) := by
    rintro ⟨hp, h⟩
    simp only [hm hp, Bool.not_true, Bool.false_eq_true] at h
  change execNoticeSend p s = _
  simp only [execNoticeSend, hb, ht, hi, hwindow, hlink, Bool.not_true, Bool.or_self, Bool.false_eq_true, if_false]

theorem exec_noticeSend_busy (h : s.pathIdle p = false) : exec (.noticeSend p) s = .next s :=
  if_pos (by simp only [h, Bool.not_false, Bool.or_true])

/-- Does the path hold a `=` alone, with these errors on its line? -/
def State.holdsResend (s : State) (p : Path) (par fra : Bool) : Bool :=
  s.isHeld p (fun l => l.chars == [0x3D] && l.parity == par && l.framing == fra)

/-- What is answered to a `=` that is taken up (R169, R170). -/
def State.resend (s : State) (p : Path) (par fra : Bool) : State :=
  if par then s.rp p .parity
  else if fra then s.rp p .framing
  else
    match (s.session p).last with
    | none => s.reply p (.er none .wrongState)
    | some (st, r) => (s.send p (.reply st r)).prompt p

variable {par fra : Bool} {e : FrameRx}

theorem exec_resendRequest_not (h : s.hears p = false ∨ s.holdsResend p par fra = false) : exec (.resendRequest p par fra e) s = .next s := by
  refine if_pos ?_
  rcases h with h | h
  · simp only [h, Bool.not_false, Bool.true_or]
  · simp only [State.holdsResend] at h
    simp only [h, Bool.not_false, Bool.or_true]

section
variable (hh : s.hears p = true) (hl : s.holdsResend p par fra = true) (hf : p = .mgt → (s.frameJudge e).2 = true)
include hh hl hf

theorem exec_resendRequest_owed (h : s.listens p = false) :
    exec (.resendRequest p par fra e) s = .next (if par || fra then s else s.heard p e) := by
  simp only [State.holdsResend] at hl
  change execResendRequest p par fra e s = _
  simp only [execResendRequest, hh, hl, State.frameJudge_stands hf, h, Bool.not_true, Bool.or_self, Bool.false_eq_true, if_false, if_true]

theorem exec_resendRequest_taken (h : s.listens p = true) : exec (.resendRequest p par fra e) s = .next ((s.heard p e).resend p par fra) := by
  simp only [State.holdsResend] at hl
  change execResendRequest p par fra e s = _
  simp only [execResendRequest, hh, hl, State.frameJudge_stands hf, h, Bool.not_true, Bool.or_self, Bool.false_eq_true,
    Bool.true_eq_false, if_false, State.resend]
  split
  · rfl
  · split
    · rfl
    · rcases ((s.heard p e).session p).last with _ | ⟨st, r⟩ <;> rfl

end

/-! ### Challenges, roles and jobs -/

theorem exec_serviceIdleExpiry_service (h : (s.session p).role = .service) (hr : s.startRole p ≠ .mantle) : exec (.serviceIdleExpiry p) s =
    .next ((s.setSession p { s.session p with role := s.startRole p }).notifyOn p "role expired" [("role", roleName (s.startRole p))]) := by
  change execServiceIdleExpiry p s = _
  simp only [execServiceIdleExpiry, h, hr, if_true, if_false]

/-- The codes of Table COL-6 tell the statuses apart. -/
theorem Status.ofCode_code (st : Status) : Status.ofCode st.code = some st := by
  cases st <;> rfl

theorem exec_jobDone_final {n : Nat} {st : Status} (h : st.final = true) : exec (.jobDone n st.code) s = .next (s.endJob n st) := by
  change execJobDone n st.code s = _
  simp only [execJobDone, Status.ofCode_code, h, if_true]

theorem State.endJob_found {n : Nat} {j : Job} (st : Status) (h : s.col.jobs.find? (fun j => j.num == n) = some j) : s.endJob n st =
    (State.unlock { s with col := { s.col with jobs := s.col.jobs.filter (fun k => k.num != n) } } j.path).notify "job done"
      [("job", dec n), ("status", hex0x 3 st.code)] := by
  simp only [State.endJob, h]

theorem exec_jobDone_not_final {n k : Nat} (h : Status.ofCode n = none ∨ ∃ st, Status.ofCode n = some st ∧ st.final = false) :
    exec (.jobDone k n) s = .next s := by
  change execJobDone k n s = _
  rcases h with h | ⟨st, h, hst⟩
  · simp only [execJobDone, h]
  · simp only [execJobDone, h, hst, Bool.false_eq_true, if_false]

/-! ### CTS_N and BAUD_DIV -/

theorem State.ctsHolds_ctsHigh (b : Bool) :
    State.ctsHolds { s with col := { s.col with ctsHigh := b } } = (s.flag SYS_COLCFG.CTS_EN && b) := rfl

theorem State.ctsHolds_of_enabled (h : s.flag SYS_COLCFG.CTS_EN = true) : s.ctsHolds = s.col.ctsHigh := by
  simp only [State.ctsHolds, h, Bool.true_and]

theorem State.ctsRelease_inBreak (h : s.col.inBreak = true) : s.ctsRelease = s :=
  if_pos (by rw [h, Bool.or_true])

/-- With no `line cts=` under way, what was held back goes and nothing else changes. -/
theorem State.ctsRelease_goes (h : s.ctsHolds = false) (hk : s.col.inBreak = false) (hn : s.col.ctsNext = none) : s.ctsRelease =
    { s with col := { s.col with
      sent := s.col.sent ++ s.col.txHold.map (fun l => (Path.collar, l)), txHold := [], txCut := 0, txLock := false } } := by
  simp only [State.ctsRelease, State.ctsApply, h, hk, hn, Bool.or_self, Bool.false_eq_true, if_false]

variable (left : Nat)

theorem exec_colCtsNChange_low : exec (.colCtsNChange false left) s = .next (State.ctsRelease { s with col := { s.col with ctsHigh := false } }) := by
  change execColCtsNChange false left s = _
  simp only [execColCtsNChange, State.ctsHolds_ctsHigh, Bool.and_false, Bool.false_eq_true, if_false]

theorem exec_colCtsNChange_disabled (h : s.flag SYS_COLCFG.CTS_EN = false) : exec (.colCtsNChange true left) s =
    .next (State.ctsRelease { s with col := { s.col with ctsHigh := true } }) := by
  change execColCtsNChange true left s = _
  simp only [execColCtsNChange, State.ctsHolds_ctsHigh, h, Bool.false_and, Bool.false_eq_true, if_false]

theorem exec_colCtsNChange_enabled (h : s.flag SYS_COLCFG.CTS_EN = true) : exec (.colCtsNChange true left) s =
    .next (if s.col.ctsHigh || s.col.inBreak then { s with col := { s.col with ctsHigh := true } }
      else State.cutOutput { s with col := { s.col with ctsHigh := true } } left) := by
  change execColCtsNChange true left s = _
  simp only [execColCtsNChange, State.ctsHolds_ctsHigh, State.ctsHolds_of_enabled h, h, Bool.and_self, if_true]

end

/-- Settles O34: each event is a choice on what its path or the card's output waits for. -/
theorem sessionEvents : Obligations.SessionEvents := by
  unfold Obligations.SessionEvents
  refine ⟨?notices, fun s p h => exec_noticeSend_busy h, ?resend, fun s p e par fra h => exec_resendRequest_not h, fun _ _ => rfl, fun _ => rfl,
    fun s h => exec_serviceIdleExpiry_service h Role.noConfusion, fun s h => exec_serviceIdleExpiry_service h Role.noConfusion,
    fun s p h => if_neg h, ?job, fun s n h k => exec_jobDone_not_final h, ?high, ?low, ?baud⟩
  case notices =>
    intro s p hb ht hi hc hm
    exact exec_noticeSend_idle hb ht hi hc hm
  case resend =>
    rintro s u p e par fra rfl hh hl hf
    refine ⟨exec_resendRequest_owed hh hl hf, fun h => ?_⟩
    rw [exec_resendRequest_taken hh hl hf h]
    refine ⟨?_, ?_, ?_, ?_⟩
    · rintro rfl
      rfl
    · rintro rfl rfl
      rfl
    · rintro rfl rfl hlast
      simp only [State.resend, hlast, Bool.false_eq_true, if_false]
    · rintro st r rfl rfl hlast
      simp only [State.resend, hlast, Bool.false_eq_true, if_false]
  case job =>
    intro s n j st hst hj
    rw [exec_jobDone_final hst, State.endJob_found st hj]
  case high =>
    rintro s u left rfl
    refine ⟨exec_colCtsNChange_disabled left, fun h hk => ?_, fun h hlow hk => ?_⟩
    · rw [exec_colCtsNChange_enabled left h, if_pos (Bool.or_eq_true_iff.2 hk)]
    · rw [exec_colCtsNChange_enabled left h, hlow, hk]
      rfl
  case low =>
    intro s left
    rw [exec_colCtsNChange_low]
    refine ⟨fun hk => congrArg _ (State.ctsRelease_inBreak hk), fun hk hn => congrArg _ (State.ctsRelease_goes ?_ hk hn)⟩
    rw [State.ctsHolds_ctsHigh, Bool.and_false]
  case baud =>
    intro s d
    exact ⟨_, rfl, rfl, fun hs => State.get_set_same s _ d (by decide) hs⟩

end Sys2Proof.Machine
end

section
/-!
PROOFS. Clock stop, wake bursts, the lanes and the write of SLV_CTL.RETRAIN (chapters 04 and 05: R208, R213, R214, R219, R247 to R249, R251, R253 to R256, R261,
R285, R305, R309).
-/
namespace Sys2Proof.Machine
open Sys2Proof

section
variable {s u : State}

/-! ### A retrain that is asked for -/

/-- Table SLVF-10: STATE 2 is the data phase and 3 a link whose clock is stopped. -/
theorem State.linkUp_iff : s.linkUp = true ↔ 2 ≤ s.get SLV_STAT.STATE := decide_eq_true_iff

theorem State.linkUp_eq_false_iff : s.linkUp = false ↔ s.get SLV_STAT.STATE < 2 := decide_eq_false_iff_not.trans Nat.not_le

theorem State.retrain_of_none {r : Nat} (h : s.slv.retrainDue = none) :
    s.retrain r = { s with slv := { s.slv with retrainDue := some r } } := by
  simp only [State.retrain, h]

theorem State.retrain_of_due {r : Nat} (h : s.slv.retrainDue.isSome = true) : s.retrain r = s := by
  obtain ⟨r', hr⟩ := Option.isSome_iff_exists.1 h
  simp only [State.retrain, hr]

theorem exec_slvCtlRetrain_up (h : 2 ≤ (s.set SLV_CTL.RETRAIN 1).get SLV_STAT.STATE) :
    exec .slvCtlRetrain s = .next ((s.set SLV_CTL.RETRAIN 1).retrain 2) :=
  congrArg _ (if_pos (State.linkUp_iff.2 h))

theorem exec_slvCtlRetrain_down (h : (s.set SLV_CTL.RETRAIN 1).get SLV_STAT.STATE < 2) :
    exec .slvCtlRetrain s = .next (s.set SLV_CTL.RETRAIN 1) :=
  congrArg _ (if_neg (Bool.eq_false_iff.1 (State.linkUp_eq_false_iff.2 h)))

/-! ### Clock stop -/

theorem exec_clockStopSend : exec .clockStopSend s = .next s.clockStopSend.entryGo := rfl

theorem exec_clockStopReceive (ls : List Nat) : exec (.clockStopReceive ls) s = .next (s.clockStopReceive ls).entryGo := rfl

/-- A turn with an item that is new or not acknowledged, and the host's turn, bring no STOP (R248). -/
theorem State.clockStopSend_not (h : s.slv.unacked ≠ [] ∨ s.slv.newItems ≠ [] ∨ s.flag SLV_STAT.OWNER = false) : s.clockStopSend = s := by
  refine if_neg ?_
  rintro ⟨-, howner, -, hunacked, hnew, -⟩
  rcases h with h | h | h
  · exact h hunacked
  · exact h hnew
  · rw [h] at howner
    cases howner

/-- In the data phase a STOP is acted on where it is recognised (R305). -/
theorem State.clockStopReceive_data {ls : List Nat} {seen : Bool} (hphase : s.slv.phase = .data)
    (hseen : s.codeSeen (s.rxLanes false) ls = (u, seen)) : s.clockStopReceive ls = if seen then u.clockStopped else u :=
  (if_pos hphase).trans (by rw [hseen])

theorem State.clockStopReceive_not {ls : List Nat} (hphase : s.slv.phase ≠ .data) : s.clockStopReceive ls = s := if_neg hphase

/-! ### Wake bursts -/

theorem State.replyBurst_stopped (h : s.slv.phase = .stopped ∨ s.slv.phase = .waking) : s.replyBurst = s.sleeveOn.slvSend [.burst] := if_pos h

theorem State.replyBurst_running (h : ¬ (s.slv.phase = .stopped ∨ s.slv.phase = .waking)) : s.replyBurst = s := if_neg h

/-- A burst that the squelch detector hears, or that meets a link waking or stopped, is a wake event; awake, the card replies (R208, R251). -/
theorem exec_hostWakeBurst_heard {us : Nat} (h : s.squelchArmed = true ∨ s.slv.phase = .waking ∨ s.slv.phase = .stopped) :
    exec (.hostWakeBurst us) s = .next (if (s.wakeEvent 2 0 us).asleep then s.wakeEvent 2 0 us else (s.wakeEvent 2 0 us).replyBurst) := by
  refine if_neg ?_
  rintro ⟨hdeaf, hwaking, hstopped⟩
  rcases h with h | h | h
  · rw [hdeaf] at h
    cases h
  · exact hwaking h
  · exact hstopped h

theorem exec_cardWakeBurst_not (h : s.slv.phase ≠ .stopped ∨ s.boot.sleeveHigh = false ∨ s.asleep = true) : exec .cardWakeBurst s = .next s := by
  refine if_neg ?_
  rintro ⟨hstopped, hhigh, hawake, -⟩
  rcases h with h | h | h
  · exact h hstopped
  · rw [h] at hhigh
    cases hhigh
  · rw [h] at hawake
    cases hawake

/-- The card sends up to three bursts, and then negotiates (R253, R261). -/
theorem exec_wakeBurstRetry_waking {us : Nat} (h : s.slv.phase = .waking) : exec (.wakeBurstRetry us) s =
    if s.slv.bursts < 3 then .next (State.slvSend { s with slv := { s.slv with bursts := s.slv.bursts + 1 } } [.burst])
    else .next ((s.at us).negotiate 5) :=
  if_neg (not_not.2 h)

end

/-- Settles O36: each event is a choice on the link's phase, on who owns the turn or on a lane's domain; what is chosen is its own effect. -/
theorem sleeveClockAndLanes : Obligations.SleeveClockAndLanes := by
  unfold Obligations.SleeveClockAndLanes
  refine ⟨?stop, ?noStop, ?stopReceived, ?hostBurst, ?hostBurstLost, ?cardBurst, fun s => exec_cardWakeBurst_not, ?retry,
    ?loopback, ?laneRetry, ?laneErrors, ?laneNotIn, ?retrain, fun s => exec_slvCtlRetrain_down⟩
  case stop =>
    intro s hphase howner hfeat hunacked hnew hposted hrefusals hrep hretrain
    rw [exec_clockStopSend, State.clockStopSend, if_pos ⟨hphase, howner, hfeat, hunacked, hnew, hposted, hrefusals, hrep, hretrain⟩]
  case noStop =>
    intro s h
    rw [exec_clockStopSend, State.clockStopSend_not h]
  case stopReceived =>
    intro s u ls
    rw [exec_clockStopReceive]
    refine ⟨fun hphase hseen => ?_, fun hphase hunseen => ?_, fun hphase => ?_⟩
    · rw [State.clockStopReceive_data hphase hseen, if_pos rfl]
    · rw [State.clockStopReceive_data hphase hunseen, if_neg Bool.false_ne_true]
    · rw [State.clockStopReceive_not hphase]
  case hostBurst =>
    rintro s u us rfl hheard
    rw [exec_hostWakeBurst_heard hheard]
    refine ⟨fun hawake hphase => ?_, fun h => ?_⟩
    · rw [hawake, State.replyBurst_stopped hphase]
      rfl
    · rcases h with hasleep | ⟨hstopped, hwaking⟩
      · rw [hasleep]
        rfl
      · rw [State.replyBurst_running (not_or.2 ⟨hstopped, hwaking⟩), ite_self]
  case hostBurstLost => exact fun s us hdeaf hwaking hstopped => if_pos ⟨hdeaf, hwaking, hstopped⟩
  case cardBurst =>
    rintro s v hphase hhigh hawake hitem rfl
    exact if_pos ⟨hphase, hhigh, hawake, hitem⟩
  case retry =>
    intro s us hphase
    rw [exec_wakeBurstRetry_waking hphase]
    exact ⟨fun h => if_pos h, fun h => if_neg (Nat.not_lt.2 h)⟩
  case loopback =>
    intro s lane us ok hlane hdom
    exact if_neg (not_or.2 ⟨Nat.not_le.2 hlane, not_not.2 hdom⟩)
  case laneRetry => exact fun s lane hown hok => if_pos ⟨hown, hok⟩
  case laneErrors => exact fun s lane hlane hdom => if_pos ⟨hlane, hdom⟩
  case laneNotIn => exact fun s lane hdom => if_neg fun h => hdom h.2
  case retrain =>
    rintro s u rfl hup
    rw [exec_slvCtlRetrain_up hup]
    exact ⟨fun hnone => congrArg _ (State.retrain_of_none hnone), fun hdue => congrArg _ (State.retrain_of_due hdue)⟩

end Sys2Proof.Machine
end

section
/-!
PROOFS. The verbs `meter` and `link` (chapters 04, 17 and 19: R247, R928, R933, R1025 to R1031).
-/
namespace Sys2Proof.Machine
open Sys2Proof

/-- Settles O16: each command is a row of its verb; its checks decide between its effect and a refusal. -/
theorem meterAndLinkCommands : Obligations.MeterAndLinkCommands := by
  unfold Obligations.MeterAndLinkCommands
  refine ⟨?minute, ?read, ?ack, ?cfg, ?linkShow, ?retrain, ?linkCfg⟩
  case minute =>
    rintro s u ln p us rfl h hp
    have hpocket : ¬ 255 < p := Nat.not_lt.2 hp
    exact ⟨fun hm => State.cmd_ok h rfl ((if_neg hpocket).trans (if_neg (by rw [hm]; decide))),
      fun hm => State.cmd_fail h rfl ((if_neg hpocket).trans (if_pos (by rw [hm]; rfl)))⟩
  case read =>
    rintro s u ln p us ring rfl hp rfl
    refine ⟨fun h => State.cmd_ok h rfl ?_, fun i rows hi hrows h => State.cmd_ok h rfl ?_⟩
    · simp only [Nat.not_lt.2 hp, Bool.false_eq_true, or_self, if_false, List.filter_true, List.length_zip, List.length_range, Nat.min_self]
    · simp only [Nat.not_lt.2 hp, Nat.not_lt.2 hi, decide_false, Bool.false_eq_true, or_self, if_false, ← hrows]
  case ack =>
    rintro s u ln p gen minute us hit rfl h hp rfl
    have hpocket : ¬ 255 < p := Nat.not_lt.2 hp
    exact ⟨fun hj => State.cmd_done h rfl ((if_neg hpocket).trans (if_neg (Bool.eq_false_iff.1 hj))),
      fun hj => State.cmd_refused h rfl ((if_neg hpocket).trans (if_pos hj))⟩
  case cfg =>
    rintro s u v ln k base us rfl h hk hbase rfl
    exact State.cmd_done h rfl (if_neg (by rw [hk, hbase]; decide))
  case linkShow =>
    rintro s u ln us rfl h
    refine ⟨fun hdown => State.cmd_ok h rfl ?_, fun hup => State.cmd_ok h rfl ?_⟩
    · simp only [if_neg (Nat.not_le.2 hdown)]
    · simp only [if_pos hup]
  case retrain =>
    rintro s u ln us rfl h
    exact ⟨fun hup => State.cmd_done h rfl (if_pos (State.linkUp_iff.2 hup)),
      fun hdown => State.cmd_refused h rfl (if_neg (Bool.eq_false_iff.1 (State.linkUp_eq_false_iff.2 hdown)))⟩
  case linkCfg =>
    rintro s u v ln a us rfl h hframe hframes hturn hidle hlease hfixed rfl
    exact State.cmd_done h rfl (if_neg (by rw [hframe, hframes, hturn, hidle, hlease, hfixed]; decide))

end Sys2Proof.Machine
end

section
/-!
PROOFS. The verb `pocket` (chapters 06, 07 and 19: R316 to R323, R365, R391, R991 to R995).
-/
namespace Sys2Proof.Machine
open Sys2Proof

section
variable {s : State} {c : Say} {ln : Ln} {us p : Nat} {f : Form} {body : State → State × Result} {k : Pocket} {a : PocketAttrs}

/-! ### A configuration command on a card that is no secondary -/

section
variable (h : s.runs c ln us f false) (hf : f.changing = true) (hn : (s.taken ln us).isSecondary = false)
include h hf hn

theorem State.confCmd_refused {v : State} {st : Status} (hb : body (s.taken ln us) = (v, .fail st)) :
    s.confCmd c ln us f body = .next (v.refused ln st) :=
  State.cmd_refused h hf ((if_neg (Bool.eq_false_iff.1 hn)).trans hb)

theorem State.confCmd_wait {v : State} {w : AwaitFor} (hb : body (s.taken ln us) = (v, .wait w)) :
    s.confCmd c ln us f body = .next (v.waiting ln w) :=
  State.cmd_wait h hf ((if_neg (Bool.eq_false_iff.1 hn)).trans hb)

end

/-! ### What changes a Pocket's state -/

theorem State.turnPocket_from {frm dst : PocketState} {word : String} (hp : p ≠ 0) (hk : s.pockets.lookup p = some k) (hfrm : k.state = frm) :
    s.turnPocket p frm dst word = (((s.setPocket p { k with state := dst }).stopPrefetch p).tell ["pocket", word, pocketId p] [],
      .ok [] [("pocket", pocketId p), ("state", dst.name)]) := by
  have hturn : ¬ (p = 0 ∨ k.state ≠ frm) := not_or.2 ⟨hp, not_not.2 hfrm⟩
  simp only [State.turnPocket, hk, if_neg hturn]
  rfl

/-- A Pocket in another state is not turned (R318). -/
theorem State.turnPocket_not {frm dst : PocketState} {word : String} (hk : s.pockets.lookup p = some k) (hfrm : k.state ≠ frm) :
    s.turnPocket p frm dst word = (s, .fail .wrongState) := by
  simp only [State.turnPocket, hk, if_pos (Or.inr hfrm : p = 0 ∨ k.state ≠ frm)]

/-- P000 is not deleted, whether or not it has an entry (R318). -/
theorem State.deletePocket_p000 : s.deletePocket 0 = (s, .fail .wrongState) := by
  unfold State.deletePocket
  split
  · rfl
  · exact if_pos (.inl rfl)

/-! ### What `pocket set` allows -/

/-- The checks of `pocket set` before it asks what the Pocket holds: values named and in range, a Pocket that is neither P000 nor FREE nor
DELETING (R318, R991, R994). -/
structure State.Settable (s : State) (p : Nat) (a : PocketAttrs) (k : Pocket) : Prop where
  named : a ≠ { size := none, cls := none, weight := none, limit := none, unit := none }
  inRange : attrsInRange a = true
  notP000 : p ≠ 0
  held : s.pockets.lookup p = some k
  kept : k.state ≠ .deleting

/-- A size or unit that the Pocket's data allow is applied at once when no command touches what a reduction cuts off (R317, R322, R365). -/
theorem State.alterPocket_now {v : State} (h : s.Settable p a k)
    (hgrow : (k.with a).size ≤ k.size ∨ s.sizesBut p + (k.with a).size ≤ s.flash.usable)
    (hcut : k.size ≤ (k.with a).size ∨ (s.usedFrom p (k.with a).size = false ∧ s.anyBeyond p (k.with a).size = false))
    (hunit : (k.with a).unit512 = k.unit512 ∨ s.usedFrom p 0 = false) (hv : s.changePocket p k (k.with a) = some v) :
    s.alterPocket p a = (v.tell ["pocket", "set", pocketId p] (attrsKv a), .ok [] ((v.tell ["pocket", "set", pocketId p] (attrsKv a)).pocketKv p)) := by
  obtain ⟨hnamed, hrange, hp, hk, hkept⟩ := h
  have hroom : ¬ (k.size < (k.with a).size ∧ s.flash.usable < s.sizesBut p + (k.with a).size) := by omega
  have hused : ¬ ((k.with a).size < k.size ∧ s.usedFrom p (k.with a).size = true) := by grind
  have hbusy : ¬ ((k.with a).size < k.size ∧ s.anyBeyond p (k.with a).size = true) := by grind
  have hwrite : ¬ ((k.with a).unit512 ≠ k.unit512 ∧ s.usedFrom p 0 = true) := by grind
  simp only [State.alterPocket, hnamed, hrange, hp, hk, hkept, hroom, hused, hbusy, hwrite, hv, Bool.true_eq_false, or_self, if_false]

/-- A reduction that commands still touch waits for them (R317, R365, R992). -/
theorem State.alterPocket_waits (h : s.Settable p a k) (hless : (k.with a).size < k.size) (hfree : s.usedFrom p (k.with a).size = false)
    (hunit : (k.with a).unit512 = k.unit512 ∨ s.usedFrom p 0 = false) (hbusy : s.anyBeyond p (k.with a).size = true) :
    s.alterPocket p a = (s.setPocket p { k with change := some (k.with a) }, .wait (.sizeReduce p)) := by
  obtain ⟨hnamed, hrange, hp, hk, hkept⟩ := h
  have hwrite : ¬ ((k.with a).unit512 ≠ k.unit512 ∧ s.usedFrom p 0 = true) := by grind
  simp only [State.alterPocket, hnamed, hrange, hp, hk, hkept, hless, Nat.not_lt.2 hless.le, hfree, hbusy, hwrite, Bool.true_eq_false, Bool.false_eq_true,
    or_self, false_and, and_false, and_self, if_false, if_true]

end

/-- Settles O11: each form is a row of its verb; the checks of R991 to R995 decide between its effect, a wait and a refusal. -/
theorem pocketCommands : Obligations.PocketCommands := by
  unfold Obligations.PocketCommands
  refine ⟨?create, ?createQuota, ?set, ?setWaits, ?turn, ?delete, ?deleteP000, ?shown, ?list⟩
  case create =>
    rintro s u ln p size base gen us a k rfl h hn hsize ha hp hfree hroom hbase rfl rfl
    refine State.confCmd_done h rfl hn ?_
    simp only [State.createPocket, hsize, ha, hfree, hbase, Nat.not_lt.2 hp, Nat.not_lt.2 hroom, Bool.not_true, Bool.false_eq_true, or_self,
      Option.isSome_none, if_false]
  case createQuota =>
    rintro s u ln p size us a rfl h hn hsize ha hp hfree hquota
    refine State.confCmd_refused h rfl hn ?_
    simp only [State.createPocket, hsize, ha, hfree, hquota, Nat.not_lt.2 hp, Bool.not_true, Bool.false_eq_true, or_self, Option.isSome_none, if_false,
      if_true]
  case set =>
    rintro s u v ln p us a k c rfl h hn hnamed hrange hp hk hkept rfl hgrow hcut hunit hv
    exact State.confCmd_done h rfl hn (State.alterPocket_now ⟨hnamed, hrange, hp, hk, hkept⟩ hgrow hcut hunit hv)
  case setWaits =>
    rintro s u ln p us a k c rfl h hn hnamed hrange hp hk hkept rfl hless hfree hunit hbusy
    exact State.confCmd_wait h rfl hn (State.alterPocket_waits ⟨hnamed, hrange, hp, hk, hkept⟩ hless hfree hunit hbusy)
  case turn =>
    rintro s u ln p us k rfl hn hp hk
    exact ⟨fun hact h => State.confCmd_done h rfl hn (State.turnPocket_from hp hk hact),
      fun hact h => State.confCmd_refused h rfl hn (State.turnPocket_not hk hact),
      fun hsus h => State.confCmd_done h rfl hn (State.turnPocket_from hp hk hsus),
      fun hsus h => State.confCmd_refused h rfl hn (State.turnPocket_not hk hsus)⟩
  case delete =>
    rintro s u v ln p us k rfl h hn hp hk hkept rfl
    refine State.confCmd_wait h rfl hn ?_
    simp only [State.deletePocket, hk, if_neg (not_or.2 ⟨hp, hkept⟩)]
  case deleteP000 =>
    rintro s u ln us rfl h hn
    exact State.confCmd_refused h rfl hn State.deletePocket_p000
  case shown =>
    rintro s u ln p us rfl h hp
    exact ⟨State.cmd_ok h rfl (if_neg (Nat.not_lt.2 hp)), rfl⟩
  case list =>
    rintro s u ln us rfl h
    exact State.cmd_ok h rfl rfl

end Sys2Proof.Machine
end

section
/-!
PROOFS. The verb `queue` (chapters 06 and 19: R324, R326, R327, R359, R363, R996 to R999).
-/
namespace Sys2Proof.Machine
open Sys2Proof

section
variable {s : State} {q p : Nat} {k : QueuePair} {a : QueueAttrs}

/-- A quarter serves in SHADOW and IN (R996). -/
theorem State.quarterServes_of_dom (h : s.dom (39 + q / 256) = 2 ∨ s.dom (39 + q / 256) = 3) : s.quarterServes q = true := by
  simpa only [State.quarterServes, queueDomain, State.domIn, Bool.or_eq_true, beq_iff_eq] using h

theorem State.createQueue_free {x : Pocket} (ha : queueAttrsOk a = true) (hp : p ≠ 0 ∧ p ≤ 255) (hq : q ≤ 1023) (hserves : s.quarterServes q = true)
    (hfree : s.queues.lookup q = none) (hx : s.pockets.lookup p = some x) (hkept : x.state ≠ .deleting)
    (hk : k = { state := .opened, pocket := p, depth := a.depth.getD 64, ack := a.ack.getD 1, baste := a.baste.getD false, waiting := [], doneTags := [] })
    {v : State} (hv : v = State.tell { s with queues := putSorted q k s.queues } ["queue", "create", queueId q] (("pocket", pocketId p) :: queueAttrsKv a)) :
    s.createQueue q p a = (v, .ok [] (v.queueKv q)) := by
  subst hk hv
  simp only [State.createQueue, ha, hp.1, Nat.not_lt.2 hp.2, Nat.not_lt.2 hq, hserves, hfree, hx, hkept, Bool.not_true, Bool.false_eq_true, or_self,
    if_false]

/-- The depth of a queue changes only while it holds no tag (R363). -/
theorem State.alterQueue_open (ha : queueAttrsOk a = true) (hq : q ≤ 1023) (hserves : s.quarterServes q = true) (hk : s.queues.lookup q = some k)
    (hopen : k.state = .opened) (hdepth : a.depth.getD k.depth = k.depth ∨ s.tagsTaken q k = []) {v : State}
    (hv : v = (s.setQueue q { k with depth := a.depth.getD k.depth, ack := a.ack.getD k.ack, baste := a.baste.getD k.baste }).tell
      ["queue", "set", queueId q] (queueAttrsKv a)) :
    s.alterQueue q a = (v, .ok [] (v.queueKv q)) := by
  have hfault : ¬ (k.state ≠ .opened ∨ (a.depth.getD k.depth ≠ k.depth ∧ s.tagsTaken q k ≠ [])) := by
    rw [hopen, not_or, not_and_or, not_not, not_not, not_not]
    exact ⟨rfl, hdepth⟩
  subst hv
  simp only [State.alterQueue, ha, Nat.not_lt.2 hq, hserves, hk, if_neg hfault, Bool.not_true, Bool.false_eq_true, or_self, if_false]

theorem State.deleteQueue_open (hq : q ≤ 1023) (hk : s.queues.lookup q = some k) (hopen : k.state = .opened) :
    s.deleteQueue q = ((s.drainQueue q k).tell ["queue", "delete", queueId q] [],
      .ok [] [("queue", queueId q), ("state", "draining"), ("waiting", dec k.waiting.length)]) := by
  simp only [State.deleteQueue, Nat.not_lt.2 hq, hk, hopen, ne_eq, not_true_eq_false, if_false]

/-- A queue that already drains is not deleted again (R997). -/
theorem State.deleteQueue_not (hq : q ≤ 1023) (hk : s.queues.lookup q = some k) (hopen : k.state ≠ .opened) :
    s.deleteQueue q = (s, .fail .wrongState) := by
  simp only [State.deleteQueue, Nat.not_lt.2 hq, hk, hopen, ne_eq, not_false_eq_true, if_false, if_true]

/-- A list reply shows the first 256 of what was found and names what comes next (R999, R1011). -/
theorem listReply_map {α : Type} {hit found : List (Nat × α)} (hfound : hit = found) (row : Nat × α → List KV) (name : Nat → String) :
    listReply (found.map (fun x => (x.1, row x))) name = .ok ((hit.take 256).map row)
      [("n", dec (min 256 hit.length)), ("next", hit[256]?.elim "none" (fun x => name x.1))] := by
  subst hfound
  simp only [listReply, ← List.map_take, List.map_map, List.length_map, List.length_take, List.getElem?_map]
  cases hit[256]? <;> rfl

end

/-- Settles O12: each form is a row of its verb; the checks of R996 and R997 decide between its effect and a refusal. -/
theorem queueCommands : Obligations.QueueCommands := by
  unfold Obligations.QueueCommands
  refine ⟨?create, ?set, ?delete, ?shown, ?list⟩
  case create =>
    rintro s u v ln q p us a k x rfl h hn ha hp0 hp hq hdom hfree hk hkept hx hv
    exact State.confCmd_done h rfl hn (State.createQueue_free ha ⟨hp0, hp⟩ hq (State.quarterServes_of_dom hdom) hfree hk hkept hx hv)
  case set =>
    rintro s u v ln q us a k rfl h hn ha hq hdom hk hopen hdepth hv
    exact State.confCmd_done h rfl hn (State.alterQueue_open ha hq (State.quarterServes_of_dom hdom) hk hopen hdepth hv)
  case delete =>
    rintro s u ln q us k rfl h hn hq hk
    refine ⟨fun hopen => State.confCmd_done h rfl hn (State.deleteQueue_open hq hk hopen),
      fun hdrain => State.confCmd_refused h rfl hn (State.deleteQueue_not hq hk ?_)⟩
    rw [hdrain]
    decide
  case shown =>
    rintro s u ln q us rfl h hq
    exact ⟨State.cmd_ok h rfl (if_neg (Nat.not_lt.2 hq)), rfl⟩
  case list =>
    rintro s u ln pocket frm us hit rfl h hhit
    refine State.cmd_ok h rfl (congrArg _ ((listReply_map hhit _ queueId).trans ?_))
    cases hit[256]? <;> rfl

end Sys2Proof.Machine
end

section
/-!
PROOFS. Ends of reductions, deletions and queues, the deadline of basted reads, prefetch and the mover (chapters 06 and 07: R317 to R320, R327, R365,
R378, R386, R392, R410, R451, R992, R997).
-/
namespace Sys2Proof.Machine
open Sys2Proof

section
variable {s : State} {p : Nat}

/-! ### The ends of a reduction and of a deletion -/

/-- A reduction that was asked for waits for the commands beyond the new end, and is refused where data lie there (R317, R365). -/
theorem exec_pocketSizeReduceApply_asked {k : Pocket} {c : PocketChange} (hk : s.pockets.lookup p = some k) (hc : k.change = some c) :
    exec (.pocketSizeReduceApply p) s =
      if s.anyBeyond p c.size then .next s
      else if s.usedFrom p c.size then
        .next ((s.setPocket p { k with change := none }).finishFor (.sizeReduce p) (fun t => .er t .wrongState))
      else .next ((((s.changePocket p k c).getD s).tellChange p).finishFor (.sizeReduce p)
        (fun t => .ok t [] ((((s.changePocket p k c).getD s).tellChange p).pocketKv p))) := by
  change execPocketSizeReduceApply p s = _
  simp only [execPocketSizeReduceApply, hk, hc]

theorem exec_pocketSizeReduceApply_free (hk : s.pockets.lookup p = none) : exec (.pocketSizeReduceApply p) s = .next s := by
  change execPocketSizeReduceApply p s = _
  simp only [execPocketSizeReduceApply, hk]

theorem exec_pocketDeleteFinish_free (hk : s.pockets.lookup p = none) : exec (.pocketDeleteFinish p) s = .next s := by
  change execPocketDeleteFinish p s = _
  simp only [execPocketDeleteFinish, hk]

/-- Once step 5 is done and the queues are idle, only READY keeps the last steps back (R319). -/
theorem exec_pocketDeleteFinish_idle {k : Pocket} (hk : s.pockets.lookup p = some k) (hdel : k.state = .deleting) (hstep : 5 ≤ k.delStep)
    {qs : List (Nat × QueuePair)} (hqs : qs = s.queues.filter (fun q => q.2.pocket == p)) (hidle : qs.all (fun q => s.queueIdle q.1 q.2) = true) :
    exec (.pocketDeleteFinish p) s =
      if s.ready = true then .next (((qs.foldl (fun t q => (t.freeQueue q.1).notify "queue free" [("q", queueId q.1)]) (s.closeFinal p)).freeIndex p
        k.size).freePocket p).confRecord
      else .next s := by
  subst hqs
  change execPocketDeleteFinish p s = _
  simp only [execPocketDeleteFinish, hk, hdel, hstep, hidle, and_true]

/-! ### The end of a queue -/

/-- A queue of a Pocket that is not being deleted is freed once it drains and is idle (R327, R997). -/
theorem exec_queueFree_of_pocket {q : Nat} {k : QueuePair} {x : Pocket} (hk : s.queues.lookup q = some k) (hx : s.pockets.lookup k.pocket = some x)
    (hkept : x.state ≠ .deleting) :
    exec (.queueFree q) s =
      if k.state = .draining ∧ s.queueIdle q k = true then .next ((s.freeQueue q).confRecord.notify "queue free" [("q", queueId q)]) else .next s := by
  change execQueueFree q s = _
  simp only [execQueueFree, hk, hx, beq_eq_false_iff_ne.2 hkept, and_true]

/-! ### The deadline of basted reads -/

theorem exec_basteCplDeadline_early {q tag us t : Nat} {x : Exec} (hx : (s.at us).execOf q tag = some x) (ht : x.lastBasted = some t)
    (hus : us < t + 50000) : exec (.basteCplDeadline q tag us) s = .next (s.at us) := by
  change execBasteCplDeadline q tag us s = _
  simp only [execBasteCplDeadline, hx, ht, hus, if_true]

/-- At its deadline every block of the command is confirmed or lost (R378). -/
theorem exec_basteCplDeadline_due {q tag us t : Nat} {x : Exec} (hx : (s.at us).execOf q tag = some x) (ht : x.lastBasted = some t)
    (hus : t + 50000 ≤ us) : ∃ y : Exec, exec (.basteCplDeadline q tag us) s = .next ((s.at us).setExec y).settle ∧ y.cmd = x.cmd ∧ y.id = x.id ∧
      y.blks.length = x.blks.length ∧ ∀ b ∈ y.blks, b.codec = .good ∨ ∃ n, b.codec = .lost n := by
  change ∃ y : Exec, execBasteCplDeadline q tag us s = _ ∧ _
  simp only [execBasteCplDeadline, hx, ht, if_neg (Nat.not_lt.2 hus)]
  refine ⟨_, rfl, rfl, rfl, List.length_map _, List.forall_mem_map.2 fun b _ => ?_⟩
  split
  case h_1 hgood => exact .inl hgood
  case h_2 n hlost => exact .inr ⟨n, hlost⟩
  case h_3 => exact .inr ⟨_, rfl⟩

/-! ### Prefetch -/

/-- A block that is not asked for is not read, and one that is waits for the host reads of its channel (R386). -/
theorem exec_prefetchFill_held {lba : Nat} {errs : List Nat}
    (h : s.cache.wanted.contains (p, lba) = false ∨ s.hostReads (ppaCh (entryPpa (s.entry p (lba / 4)))) = true) :
    exec (.prefetchFill p lba errs) s = .next s := if_pos h

/-! ### The mover -/

section
variable {st g i : Nat} {unc : List Nat} {b : Bolt}

theorem exec_moverFlush_noBolt {pad : Bool} (hb : s.bolt g i = none) : exec (.moverFlush p st g i unc pad) s = .next s := by
  change execMoverFlush p st g i unc pad s = _
  simp only [execMoverFlush, hb]

/-- A Stitch without a reason to be programmed, behind another, or with a program on its way stays where it is (R410, R412, R457). -/
theorem exec_moverFlush_not (hb : s.bolt g i = some b)
    (h : s.flushRank p st = none ∨ (∃ r, s.flushRank p st = some r ∧ s.flushBefore r = true) ∨ s.stitchBusy p st = true) :
    exec (.moverFlush p st g i unc false) s = .next s := by
  change execMoverFlush p st g i unc false s = _
  rcases h with h | ⟨r, h, hbefore⟩ | h
  · simp only [execMoverFlush, hb, h, true_or, or_true, if_true, Bool.false_eq_true, if_false]
  · simp only [execMoverFlush, hb, h, hbefore, Bool.not_true, true_or, or_true, if_true, Bool.false_eq_true, if_false]
  · simp only [execMoverFlush, hb, h, or_true, if_true, Bool.false_eq_true, if_false]

end

end

/-- Settles O39: each event is a choice on what its Pocket, queue, command, block or Stitch still waits for. -/
theorem pocketAndCacheEnds : Obligations.PocketAndCacheEnds := by
  unfold Obligations.PocketAndCacheEnds
  refine ⟨?reduce, ?delete, fun s p hfree => ⟨exec_pocketDeleteFinish_free hfree, exec_pocketSizeReduceApply_free hfree⟩, ?queue, ?deadline,
    fun s p lba errs => exec_prefetchFill_held, ?fill, fun s p st g i unc b => exec_moverFlush_not, fun s p st g i unc pad => exec_moverFlush_noBolt,
    ?flush⟩
  case reduce =>
    intro s p k c hk hc
    rw [exec_pocketSizeReduceApply_asked hk hc]
    refine ⟨fun hbusy => if_pos hbusy, fun hidle hused => ?_, fun v hidle hunused hv => ?_⟩
    · rw [hidle, hused]
      rfl
    · rw [hidle, hunused, hv]
      rfl
  case delete =>
    rintro s v p k qs hk hdel hstep hqs hidle
    rw [exec_pocketDeleteFinish_idle hk hdel hstep hqs hidle]
    refine ⟨fun hready => if_neg (Bool.eq_false_iff.1 hready), ?_⟩
    rintro hready rfl
    exact if_pos hready
  case queue =>
    intro s q k x hk hx hkept
    rw [exec_queueFree_of_pocket hk hx hkept]
    refine ⟨fun hdrain hidle => if_pos ⟨hdrain, hidle⟩, fun hopen => if_neg fun h => ?_⟩
    rw [hopen] at h
    cases h.1
  case deadline =>
    rintro s u q tag us t x rfl hx ht
    exact ⟨exec_basteCplDeadline_early hx ht, exec_basteCplDeadline_due hx ht⟩
  case fill =>
    rintro s u s0 v w p lba ppa errs r k wd n hwanted hhost hu hppa hvalid hk hactive hstaging hpf hreadable hs0 hr hv hword hformat hw
    have hgo : ¬ (s.cache.wanted.contains (p, lba) = false ∨ s.hostReads (ppaCh (entryPpa (s.entry p (lba / 4)))) = true) := by
      rw [hwanted, hhost]
      decide
    have hpocket : s.pockets.lookup p = some k := by rw [← hk, hu]
    change execPrefetchFill p lba errs s = _
    simp only [execPrefetchFill, if_neg hgo, ← hu, ← hppa, hvalid, hpocket, hactive, hstaging, hpf, hreadable, ← hs0, ← hr, ← hv, hword, hformat, ← hw,
      beq_self_eq_true, Bool.not_true, Bool.or_self, Bool.false_eq_true, if_false]
    exact (apply_ite Host.Outcome.next _ _ _).symm
  case flush =>
    rintro s u v p st g i valid r unc b ws mine hb huse hroom hrank hbefore hbusy rfl hseg rfl rfl rfl rfl
    change execMoverFlush p st g i unc false s = _
    simp only [execMoverFlush, hb, huse, hroom, hrank, hbefore, hbusy, hseg, ne_eq, not_true_eq_false, Bool.not_false, Bool.true_eq_false,
      Bool.false_eq_true, or_self, if_false]

end Sys2Proof.Machine
end

section
/-!
PROOFS. The verbs `cache` and `map` (chapters 07, 08 and 19: R400 to R403, R424, R456, R457, R1017 to R1024).
-/
namespace Sys2Proof.Machine
open Sys2Proof

section
variable {s : State} {c : Say} {ln : Ln} {us p : Nat} {f : Form} {body : State → State × Result}

/-! ### A reading command that waits -/

/-- A reading command whose reply comes later: its session waits, and the configuration lock stays as it is (R175). -/
theorem State.cmd_awaits {v : State} {w : AwaitFor} (h : s.runs c ln us f false) (hf : f.changing = false) (hb : body (s.taken ln us) = (v, .wait w)) :
    s.cmd c ln us f body = .next (v.setSession ln.path { v.session ln.path with await := some { tag := ln.tag, what := w, sinceUs := v.clk } }) := by
  simp only [State.cmd_run h, hb, State.answer, hf, Bool.false_eq_true, if_false]

/-! ### `cache set` -/

theorem within_some {n lo hi : Nat} : within (some n) lo hi = true ↔ lo ≤ n ∧ n ≤ hi := by
  simp only [within, Bool.and_eq_true, decide_eq_true_eq]

section
variable {k : Pocket} {a : ShareAttrs}

/-- A Pocket with the minima and maxima that `cache set` names; what it does not name stays (R1017). -/
def Pocket.withShare (k : Pocket) (a : ShareAttrs) : Pocket :=
  { k with
    cleanMin := a.cleanMin.getD k.cleanMin, cleanMax := a.cleanMax.getD k.cleanMax,
    dirtyMin := a.dirtyMin.getD k.dirtyMin, dirtyMax := a.dirtyMax.getD k.dirtyMax }

/-- The minima of every Pocket but one (R400). -/
def State.minimaBut (s : State) (p : Nat) : Nat := ((s.pockets.filter (fun x => x.1 ≠ p)).map (fun x => x.2.cleanMin + x.2.dirtyMin)).sum

/-- A Pocket's share is set: its own entries beyond the clean maximum leave, and a secondary is told (R403, R1017). -/
def State.putShare (s : State) (p : Nat) (n : Pocket) : State :=
  ((s.setPocket p n).trimClean p (256 * n.cleanMax) s.cache.entries.length).tell ["cache", "set", pocketId p]
    [("clean_min", dec n.cleanMin), ("clean_max", dec n.cleanMax), ("dirty_min", dec n.dirtyMin), ("dirty_max", dec n.dirtyMax)]

/-- Does every value that `cache set` names fit its 16 bits? -/
def shareInRange (a : ShareAttrs) : Bool :=
  within a.cleanMin 0 65535 && within a.cleanMax 0 65535 && within a.dirtyMin 0 65535 && within a.dirtyMax 0 65535

/-- The checks of `cache set` before it asks for the budget (R400, R1017). -/
structure State.Shareable (s : State) (p : Nat) (a : ShareAttrs) (k : Pocket) : Prop where
  inRange : shareInRange a = true
  notP000 : p ≠ 0
  held : s.pockets.lookup p = some k
  kept : k.state ≠ .deleting
  clean : (k.withShare a).cleanMin ≤ (k.withShare a).cleanMax
  dirty : (k.withShare a).dirtyMin ≤ (k.withShare a).dirtyMax

/-- With its other checks passed, `cache set` turns on whether the sum of the minima exceeds CCH_SIZE (R400). -/
theorem State.setShare_shareable (h : s.Shareable p a k) :
    s.setShare p a =
      if s.get CCH_SIZE.MIB < s.minimaBut p + (k.withShare a).cleanMin + (k.withShare a).dirtyMin then (s, .fail .budget)
      else (s.putShare p (k.withShare a), .ok [] ((s.putShare p (k.withShare a)).shareKv p)) := by
  obtain ⟨hrange, hp, hk, hkept, hclean, hdirty⟩ := h
  obtain ⟨⟨⟨hcmin, hcmax⟩, hdmin⟩, hdmax⟩ : ((within a.cleanMin 0 65535 = true ∧ within a.cleanMax 0 65535 = true) ∧
      within a.dirtyMin 0 65535 = true) ∧ within a.dirtyMax 0 65535 = true := by
    simpa only [shareInRange, Bool.and_eq_true] using hrange
  have hminmax : ¬ ((k.withShare a).cleanMax < (k.withShare a).cleanMin ∨ (k.withShare a).dirtyMax < (k.withShare a).dirtyMin) := by omega
  unfold State.setShare
  extract_lets big
  have hbig : ∀ v, within v 0 65535 = true → big v = false := by
    rintro (_ | n) h
    · rfl
    · exact decide_eq_false (Nat.not_lt.2 (within_some.1 h).2)
  have hfits : ¬ (big a.cleanMin || big a.cleanMax || big a.dirtyMin || big a.dirtyMax) = true := by
    simp only [hbig _ hcmin, hbig _ hcmax, hbig _ hdmin, hbig _ hdmax, Bool.or_self, Bool.false_eq_true, not_false_eq_true]
  rw [if_neg hfits, if_neg hp, hk]
  exact (if_neg hkept).trans (if_neg hminmax)

end

/-! ### `cache cfg` -/

section
variable {a : CacheAttrs}

/-- The settings that `cache cfg` names are kept and told to a secondary; a watermark may put the mover into another mode (R424, R1019). -/
def State.putCacheCfg (s : State) (a : CacheAttrs) : State :=
  (((((((s.keepIf CCH_CFG.BASTE_EN (a.baste.map bit01)).keepIf CCH_CFG.PF_EN (a.prefetch.map bit01)).keepIf
    CCH_CFG.FLUSH_HI a.flushHi).keepIf CCH_CFG.FLUSH_LO a.flushLo).keepIf CCH_CFG.PF_AHEAD (a.ahead.map (fun n => n / 128 - 1))).keepIf
    CCH_INBOUND.WINDOW_MIB a.window).tell ["cache", "cfg"] (cacheAttrsKv a)).flushMode

/-- Settings in range, with the low watermark not above the high one, are taken (R1019). -/
theorem State.configCache_inRange (hhi : within a.flushHi 1 100 = true) (hlo : within a.flushLo 1 100 = true)
    (hahead : within a.ahead 128 2048 = true) (hstep : multipleOf a.ahead 128 = true) (hwindow : within a.window 256 4096 = true)
    (hmarks : a.flushLo.getD (s.get CCH_CFG.FLUSH_LO) ≤ a.flushHi.getD (s.get CCH_CFG.FLUSH_HI)) :
    s.configCache a = (s.putCacheCfg a, .ok [] (s.putCacheCfg a).cacheKv) := by
  have hfault : (!within a.flushHi 1 100 || !within a.flushLo 1 100 || !within a.ahead 128 2048 || !within a.window 256 4096 ||
      !multipleOf a.ahead 128 || (decide (a.flushHi.getD (s.get CCH_CFG.FLUSH_HI) < a.flushLo.getD (s.get CCH_CFG.FLUSH_LO)) &&
      (a.flushHi.isSome || a.flushLo.isSome))) = false := by
    simp only [hhi, hlo, hahead, hstep, hwindow, decide_eq_false (Nat.not_lt.2 hmarks), Bool.not_true, Bool.false_and, Bool.or_self]
  exact if_neg (Bool.eq_false_iff.1 hfault)

end

/-! ### `map checkpoint` -/

/-- A checkpoint that is asked for begins later where one runs or the replay is not over (assumption log entry 212). -/
theorem State.ckptLater_iff :
    (s.flash.ckptRuns.isSome || s.flag SYS_BOOTSTAT.REPLAY) = true ↔ s.flash.ckptRuns ≠ none ∨ s.flag SYS_BOOTSTAT.REPLAY = true := by
  rw [Bool.or_eq_true, Option.isSome_iff_ne_none]

end

/-- Settles O15: each form is a row of its verb; its checks decide between its effect, a wait and a refusal. -/
theorem cacheAndMapCommands : Obligations.CacheAndMapCommands := by
  unfold Obligations.CacheAndMapCommands
  refine ⟨?shown, ?set, ?cfg, ?mapShow, ?lookup, ?checkpoint, ?mapCfg⟩
  case shown =>
    rintro s u ln p us rfl
    exact ⟨fun hp h => State.cmd_ok h rfl (if_neg (Nat.not_lt.2 hp)), fun hp h => State.cmd_fail h rfl (if_pos hp),
      fun h => State.cmd_ok h rfl rfl, rfl, rfl⟩
  case set =>
    rintro s u v ln p us a k n rfl h hn hp hk hkept rfl hcmin hcmax hdmin hdmax hclean hdirty
    have hshare : (s.taken ln us).Shareable p a k :=
      ⟨by simp only [shareInRange, hcmin, hcmax, hdmin, hdmax, Bool.and_self], hp, hk, hkept, hclean, hdirty⟩
    refine ⟨?_, fun hover => State.confCmd_refused h rfl hn ((State.setShare_shareable hshare).trans (if_pos hover))⟩
    rintro hroom rfl
    exact State.confCmd_done h rfl hn ((State.setShare_shareable hshare).trans (if_neg (Nat.not_lt.2 hroom)))
  case cfg =>
    rintro s u v ln us a rfl h hn hhi hlo hahead hstep hwindow hmarks rfl
    exact State.confCmd_done h rfl hn (State.configCache_inRange hhi hlo hahead hstep hwindow hmarks)
  case mapShow =>
    rintro s u ln us rfl h
    exact State.cmd_ok h rfl rfl
  case lookup =>
    rintro s u ln p lba us e k held rfl h hk hlba rfl rfl
    refine ⟨fun hhere => State.cmd_ok h rfl ?_, fun haway => State.cmd_awaits h rfl ?_⟩
    · simp only [hk, if_neg (Nat.not_le.2 hlba)]
      exact if_neg (Bool.eq_false_iff.1 hhere)
    · simp only [hk, if_neg (Nat.not_le.2 hlba)]
      exact if_pos haway
  case checkpoint =>
    rintro s u v ln us rfl h rfl
    refine ⟨fun hruns hreplay => State.cmd_wait h rfl (if_neg fun hl => ?_), fun hl => State.cmd_wait h rfl (if_pos (State.ckptLater_iff.2 hl))⟩
    exact ((State.ckptLater_iff (s := s.taken ln us)).1 hl).elim (· hruns) (Bool.eq_false_iff.1 hreplay)
  case mapCfg =>
    rintro s u ln cap us rfl h
    exact ⟨fun hlo hhi => State.cmd_done h rfl (if_neg (by omega)), fun hout => State.cmd_refused h rfl (if_pos hout)⟩

end Sys2Proof.Machine
end

section
/-!
PROOFS. Codewords as an ECC pool finishes them, read-retry, rebuild and the 40 ms of a recovery (chapters 07 and 09: R371 to R375, R494 to R506).
-/
namespace Sys2Proof.Machine
open Sys2Proof

section
variable {s u : State} {ppa us : Nat} {r : Recovery}

/-! ### A codeword -/

/-- A codeword that somebody waits for: its result counts, and every block that streams from it hears it (R371, R375, R505). -/
def State.tellDecode (s : State) (ppa j us : Nat) (d : Decode) : State :=
  (s.waitersAt (.media ppa j)).foldl (fun t x => t.hearDecode ppa j us d x.1 x.2) ((s.countLap ppa j d).countCorrected ppa j d)

/-- A codeword acts where a block streams from it or the patrol reads its page; else only what was learnt of the page stands. -/
theorem exec_codewordDecode {j : Nat} {errs : List Nat} {d : Decode} (hu : u = (s.at us).learn ppa j errs) (hd : d = u.decodeRead ppa j errs) :
    exec (.codewordDecode ppa j errs us) s =
      if u.waitersAt (.media ppa j) = [] ∧ u.flash.reads.contains ppa = false then .next u
      else .next (if u.flash.reads.contains ppa then (u.tellDecode ppa j us d).patrolHears ppa j us d else u.tellDecode ppa j us d).settle := by
  subst hd hu
  rfl

/-! ### Read-retry -/

/-- With no recovery of its page under way no event of one does anything. -/
theorem exec_recovery_none (h : s.flash.recov.find? (fun r => r.ppa == ppa) = none) (errs : List (Nat × List Nat))
    (reads : List (Nat × List (List (List Nat)))) :
    exec (.retryStepDone ppa errs us) s = .next (s.at us) ∧ exec (.rebuildDone ppa reads us) s = .next (s.at us) ∧
      exec (.recoveryTimeout ppa us) s = .next (s.at us) := by
  have hat : (s.at us).flash.recov.find? (fun r => r.ppa == ppa) = none := by simpa only [State.at_flash] using h
  refine ⟨?_, ?_, ?_⟩
  · change execRetryStepDone ppa errs us s = _
    simp only [execRetryStepDone, hat]
  · change execRebuildDone ppa reads us s = _
    simp only [execRebuildDone, hat]
  · change execRecoveryTimeout ppa us s = _
    simp only [execRecoveryTimeout, hat]

section
variable (hu : u = s.at us) (hr : u.flash.recov.find? (fun r => r.ppa == ppa) = some r)
include hu hr

/-- A ladder's step takes the codewords that it corrects off the recovery, and the ladder goes on with those left (R498, R500). -/
theorem exec_retryStepDone {errs : List (Nat × List Nat)} {v : State} {left : List Nat} (hstep : r.step ≠ 0)
    (hleft : (u.stepLevels ppa r.step).retryAll ppa (r.failing.map (fun j => (j, u.decodeRead ppa j ((errs.lookup j).getD [])))) = (v, left)) :
    exec (.retryStepDone ppa errs us) s = .next ((v.nextStep { r with failing := left }).settle) := by
  subst hu
  change execRetryStepDone ppa errs us s = _
  simp only [execRetryStepDone, hr, if_neg hstep, hleft]

theorem exec_recoveryTimeout :
    exec (.recoveryTimeout ppa us) s = if us < r.since + 40000 then .next u else .next ((u.failRecovery r).settle) := by
  subst hu
  change execRecoveryTimeout ppa us s = _
  simp only [execRecoveryTimeout, hr]

/-! ### Rebuild -/

/-- Is every quad that the row of a page lies on readable, the page's own aside (R472)? -/
def State.rowReadable (s : State) (b : Bolt) (ppa : Nat) : Bool := b.present.all (fun c => s.flashReadable c || c == ppaCh ppa)

section
variable {b : Bolt} {reads : List (Nat × List (List (List Nat)))} (hb : u.boltAt ppa = some b) (hstep : r.step = 0)
include hb hstep

/-- A rebuild whose row has a page on a dark quad ends its blocks with DOMAIN_OFF (R472). -/
theorem exec_rebuildDone_dark (hdark : u.rowReadable b ppa = false) :
    exec (.rebuildDone ppa reads us) s =
      .next ((r.failing.foldl (fun t j => t.giveUp ppa j .domainOff) (u.setRecov (u.flash.recov.filter (fun q => q.ppa ≠ ppa)))).settle) := by
  subst hu
  unfold State.rowReadable at hdark
  change execRebuildDone ppa reads us s = _
  simp only [execRebuildDone, hr, hb, hstep, hdark, ne_eq, not_true_eq_false, Bool.not_false, if_false, if_true]

/-- A row that is not closed has no parity to rebuild from (R503). -/
theorem exec_rebuildDone_open (hlit : u.rowReadable b ppa = true) (hopen : u.rowClosed ppa = false) :
    exec (.rebuildDone ppa reads us) s = .next ((u.failRecovery r).settle) := by
  subst hu
  unfold State.rowReadable at hlit
  change execRebuildDone ppa reads us s = _
  simp only [execRebuildDone, hr, hb, hstep, hlit, hopen, ne_eq, not_true_eq_false, Bool.not_true, Bool.not_false, Bool.false_eq_true, if_false, if_true]

/-- A closed row, one of whose other pages cannot be read. -/
theorem exec_rebuildDone_unread {w : State} (hlit : u.rowReadable b ppa = true)
    (hclosed : u.rowClosed ppa = true) (hread : u.readRow ppa reads (u.rowOthers b ppa) = (w, none)) :
    exec (.rebuildDone ppa reads us) s = .next ((w.failRecovery r).settle) := by
  subst hu
  unfold State.rowReadable at hlit
  change execRebuildDone ppa reads us s = _
  simp only [execRebuildDone, hr, hb, hstep, hlit, hclosed, hread, ne_eq, not_true_eq_false, Bool.not_true, Bool.false_eq_true, if_false]

theorem exec_rebuildDone_read {w : State} {others : List Page} (hlit : u.rowReadable b ppa = true) (hclosed : u.rowClosed ppa = true)
    (hread : u.readRow ppa reads (u.rowOthers b ppa) = (w, some others)) :
    exec (.rebuildDone ppa reads us) s = .next ((w.rebuildEnds r (w.rebuilt b ppa others)).settle) := by
  subst hu
  unfold State.rowReadable at hlit
  change execRebuildDone ppa reads us s = _
  simp only [execRebuildDone, hr, hb, hstep, hlit, hclosed, hread, ne_eq, not_true_eq_false, Bool.not_true, Bool.false_eq_true, if_false]

end

end

end

/-- Settles O42: each event is a choice on who waits for the codeword, or on where the recovery of its page stands. -/
theorem flashRecovery : Obligations.FlashRecovery := by
  unfold Obligations.FlashRecovery
  refine ⟨?decode, fun s u v ppa us errs left r hu hr => exec_retryStepDone hu hr,
    fun s ppa us errs reads h => exec_recovery_none h errs reads, ?rebuild, ?timeout⟩
  case decode =>
    rintro s u v w ppa j us errs d hu hd rfl rfl
    rw [exec_codewordDecode hu hd]
    refine ⟨fun hp => ?_, fun hw hp => ?_, fun hw hp => if_pos ⟨hw, hp⟩⟩
    · simp only [hp, Bool.true_eq_false, and_false, if_false, if_true, State.tellDecode]
    · simp only [hw, hp, false_and, Bool.false_eq_true, if_false, State.tellDecode]
  case rebuild =>
    rintro s u v ppa us reads r b hu hr hb hstep rfl
    refine ⟨exec_rebuildDone_dark hu hr hb hstep, fun hlit => ⟨exec_rebuildDone_open hu hr hb hstep hlit,
      fun w hclosed => exec_rebuildDone_unread hu hr hb hstep hlit hclosed, ?_⟩⟩
    rintro w x y others pg hclosed hread rfl rfl rfl
    exact exec_rebuildDone_read hu hr hb hstep hlit hclosed hread
  case timeout =>
    intro s u ppa us r hu hr
    rw [exec_recoveryTimeout hu hr]
    exact ⟨fun hsoon => if_pos hsoon, fun hlate => if_neg (Nat.not_lt.2 hlate)⟩

end Sys2Proof.Machine
end

section
/-!
PROOFS. Blocks through the bulk cores, the GMAC check of a block, the nonce counter and the known-answer tests (chapters 07, 11 and 14: R368, R371, R375,
R395, R598 to R609, R613, R614, R642, R653, R784).
-/
namespace Sys2Proof.Machine
open Sys2Proof

section
variable {s : State}

/-! ### Bulk cores -/

section
variable {core : Nat} {raw : Bytes}

/-- A core that is busy or not in service takes no block, and with none waiting there is none to take (R600, R772). -/
theorem exec_bulkBlockStart_idle
    (h : s.pairsTaking.contains (coreDomain core) = false ∨ s.keys.coreBusy.contains core = true ∨ s.nextBlk = none) :
    exec (.bulkBlockStart core raw) s = .next s := by
  change execBulkBlockStart core raw s = _
  simp only [execBulkBlockStart]
  split
  · rfl
  · next hfree =>
    rw [← or_assoc] at h
    rw [h.resolve_left hfree]

theorem exec_bulkBlockStart_free {x : Exec} {i : Nat} {b : Blk} {v : State} (hd : s.pairsTaking.contains (coreDomain core) = true)
    (hb : s.keys.coreBusy.contains core = false) (hn : s.nextBlk = some (x, i, b)) (hv : v = s.setExec (x.setBlk i (b.toCore core raw))) :
    exec (.bulkBlockStart core raw) s = .next { v with keys := { v.keys with
      lastPocket := x.pocket, coreBusy := v.keys.coreBusy ++ [core], redo := v.keys.redo.filter (fun r => r ≠ (x.id, i)) } } := by
  subst hv
  change execBulkBlockStart core raw s = _
  simp only [execBulkBlockStart, hd, hb, hn, Bool.true_eq_false, Bool.false_eq_true, or_self, if_false]

/-- A core that works on no block finishes none. -/
theorem exec_bulkBlockDone_idle (h : s.keys.coreBusy.contains core = false) : exec (.bulkBlockDone core) s = .next s := if_pos h

/-- A core is free again. -/
def State.coreFreed (s : State) (core : Nat) : State :=
  { s with keys := { s.keys with coreBusy := s.keys.coreBusy.filter (fun k => k ≠ core) } }

section
variable {x : Exec} {i k : Nat} {b : Blk} (h : s.keys.coreBusy.contains core = true) (hx : (s.coreFreed core).coreBlk core = some (x, i))
  (hb : x.blks[i]? = some b)
include h hx hb

/-- An encrypted block may fill the cache, which may put the mover into another mode (R395). -/
theorem exec_bulkBlockDone_encrypted (hp : b.pass = .core true k) :
    exec (.bulkBlockDone core) s = .next ((((s.coreFreed core).encrypted x i b).settle).flushMode) := by
  unfold State.coreFreed at hx
  change execBulkBlockDone core s = _
  simp only [execBulkBlockDone, h, hx, hb, hp, Bool.true_eq_false, if_false, State.coreFreed]

theorem exec_bulkBlockDone_decrypted (hp : b.pass = .core false k) :
    exec (.bulkBlockDone core) s = .next (((s.coreFreed core).decrypted x i b).settle) := by
  unfold State.coreFreed at hx
  change execBulkBlockDone core s = _
  simp only [execBulkBlockDone, h, hx, hb, hp, Bool.true_eq_false, if_false, State.coreFreed]

/-- What a core made of bytes that proved wrong is dropped, and the block goes on (R371, R372). -/
theorem exec_bulkBlockDone_stale (hp : b.pass = .stale k) :
    exec (.bulkBlockDone core) s =
      .next ((((s.coreFreed core).setExec (x.setBlk i { b with pass := .none })).advanceBlk x.id i).settle) := by
  unfold State.coreFreed at hx
  change execBulkBlockDone core s = _
  simp only [execBulkBlockDone, h, hx, hb, hp, Bool.true_eq_false, if_false, State.coreFreed]

end

end

/-! ### GMAC -/

section
variable {q tag i : Nat} {x : Exec} {b : Blk} {fin : Bool} {c : Check}

theorem exec_gmacVerify_none (h : s.execOf q tag = none) : exec (.gmacVerify q tag i) s = .next s := by
  change execGmacVerify q tag i s = _
  simp only [execGmacVerify, h]

/-- Does the tag of a block, recomputed under the command's latched key, agree with the stored one (R602 to R608)? -/
def State.tagAgrees (s : State) (x : Exec) (i : Nat) (b : Blk) (c : Check) : Prop :=
  blockTag (x.ikey.getD []) (s.get SYS_SERIAL.SERIAL) c.count x.pocket (x.cmd.lba + i) b.data = padTo 16 c.tag

section
variable (hx : s.execOf q tag = some x) (hb : x.blks[i]? = some b) (hm : b.codec = .mac fin) (hc : b.check = some c)
include hx hb hm hc

theorem exec_gmacVerify_agrees (h : s.tagAgrees x i b c) :
    exec (.gmacVerify q tag i) s = .next (((s.setExec (x.setBlk i { b with codec := .good })).advanceBlk x.id i).settle) := by
  unfold State.tagAgrees at h
  change execGmacVerify q tag i s = _
  simp only [execGmacVerify, hx, hb, hm, hc, h, if_true]

section
variable {v : State} {b1 : Blk} (h : ¬ s.tagAgrees x i b c) (hw : (s.count CIP_MACFAIL.COUNT 1).withdraw x i b .unpickedMac = (v, b1))
include h hw

/-- A block whose last reading disagrees is lost (R375, R609). -/
theorem exec_gmacVerify_lost (hlast : fin = true ∨ b.again = true) :
    exec (.gmacVerify q tag i) s = .next ((v.setExec (x.setBlk i { b1 with codec := .lost Status.macMismatch.code })).settle) := by
  unfold State.tagAgrees at h
  have hfinal : (fin || b.again) = true := Bool.or_eq_true_iff.2 hlast
  change execGmacVerify q tag i s = _
  simp only [execGmacVerify, hx, hb, hm, hc, h, hw, hfinal, if_false, if_true]

/-- A block that disagrees for the first time is read again; where flash holds it no program has to end first (R375). -/
theorem exec_gmacVerify_again (hfirst : fin = false) (hagain : b.again = false) (hflash : (v.reread x i b1).codec ≠ .flush) :
    exec (.gmacVerify q tag i) s = .next ((((v.awaitProgram x.id x.pocket []).setExec (x.setBlk i (v.reread x i b1))).startBlock x.pocket
      (x.cmd.lba + i) (v.reread x i b1)).settle) := by
  unfold State.tagAgrees at h
  change execGmacVerify q tag i s = _
  simp only [execGmacVerify, hx, hb, hm, hc, h, hw, hfirst, hagain, hflash, Bool.or_self, Bool.false_eq_true, if_false, List.append_nil]

end

end

end

end

/-- Settles O46: each event is a choice on its core, on the block's tag, on the nonce counter or on the pair's domain. -/
theorem cipherEvents : Obligations.CipherEvents := by
  unfold Obligations.CipherEvents
  refine ⟨fun s v c i raw x b => exec_bulkBlockStart_free, fun s c raw => exec_bulkBlockStart_idle, ?done, fun s c => exec_bulkBlockDone_idle, ?gmac,
    fun s q tag i => exec_gmacVerify_none, ?reserve, ?reserved, ?test⟩
  case done =>
    rintro s u c i x b h rfl hx hb
    exact ⟨fun k => exec_bulkBlockDone_encrypted h hx hb, fun k => exec_bulkBlockDone_decrypted h hx hb, fun k => exec_bulkBlockDone_stale h hx hb⟩
  case gmac =>
    intro s q tag i x b fin c hx hb hm hc
    exact ⟨exec_gmacVerify_agrees hx hb hm hc, fun v b1 h hw => exec_gmacVerify_lost hx hb hm hc h hw,
      fun v b1 h hw => exec_gmacVerify_again hx hb hm hc h hw⟩
  case reserve =>
    intro s hr hn
    exact ⟨fun hnear => if_pos ⟨hnear, hr, hn⟩, fun hfar => if_neg fun h => Nat.not_le.2 hfar h.1⟩
  case reserved =>
    intro s hr
    exact ⟨if_pos ⟨hr, rfl⟩, if_neg fun h => Bool.false_ne_true h.2⟩
  case test =>
    intro s v p us hp hd
    have hcheck : ¬ (4 ≤ p ∨ (s.at us).dom (33 + p) ≠ 1) := not_or.2 ⟨Nat.not_le.2 hp, not_not.2 hd⟩
    constructor
    · rintro rfl
      exact if_neg hcheck
    · rintro rfl
      exact if_neg hcheck

end Sys2Proof.Machine
end

section
/-!
PROOFS. The checks of a quad, opening, erasing and releasing Bolts, programs, map segments and checkpoints (chapter 08: R439, R441, R446, R447, R451 to
R458, R460, R463, R468, R471, R474, R478).
-/
namespace Sys2Proof.Machine
open Sys2Proof

section
variable {s : State} {us : Nat}

/-! ### Quads -/

section
variable {q l : Nat} {same : Bool}

/-- What the check of a quad asks for: all of its channels looped back, and its dies agree with the die table (R471). -/
def State.quadSound (s : State) (q l : Nat) (same : Bool) : Bool := decide (l % 16 = 15) && same && !s.flash.differs.contains q

theorem State.quadSound_iff : s.quadSound q l same = true ↔ l % 16 = 15 ∧ same = true ∧ s.flash.differs.contains q = false := by
  simp only [State.quadSound, Bool.and_eq_true, decide_eq_true_eq, Bool.not_eq_true', and_assoc]

theorem State.quadSound_eq_false_iff : s.quadSound q l same = false ↔ l % 16 ≠ 15 ∨ same = false ∨ s.flash.differs.contains q = true := by
  simp only [State.quadSound, Bool.and_eq_false_iff, decide_eq_false_iff_not, Bool.not_eq_false', or_assoc, ne_eq]

theorem exec_quadCheckDone (hq : q < 16) (hd : (s.at us).dom (q + 1) = 1) :
    exec (.quadCheckDone q l same us) s =
      .next (if (s.at us).quadSound q l same then (((s.at us).checkPass (q + 1)).showQuad q).set (FQ_STAT.LOOP_OK q) l
        else (s.at us).checkFail (q + 1)) := by
  change execQuadCheckDone q l same us s = _
  simp only [execQuadCheckDone, Nat.not_le.2 hq, hd, ne_eq, not_true_eq_false, or_self, if_false]
  unfold State.quadSound State.checkEnds
  split <;> rfl

end

/-! ### Opening a Bolt and its erase -/

section
variable {g i : Nat}

/-- A FREE Bolt with enough positions is opened for the host: it gets the next BOLT_SEQ, and each of its positions is erased (R439, R446). -/
theorem exec_boltOpen_host (hfree : s.boltFree g i = true) (hmay : s.mayOpen g .host = true) (hall : 16 ≤ (s.positions g i true).length) :
    exec (.boltOpen g i 0) s = .next { s.erasePages g i with flash := { (s.erasePages g i).flash with
      boltSeq := s.flash.boltSeq + 1, bolts := (s.erasePages g i).flash.bolts ++ [{
        group := g, idx := i, state := .erasing, use := .host, seq := s.flash.boltSeq + 1, t := 0, present := s.positions g i true,
        toErase := s.positions g i true, rows := 0, planes := 1, next := 0, rowsDone := [], bare := [], closing := false, bad := [],
        learnt := true, moved := 0 }] } } := by
  change execBoltOpen g i 0 s = _
  simp only [execBoltOpen, hfree, hmay, if_neg (Nat.not_lt.2 hall), if_true, Bool.and_self, Bool.not_true, Bool.false_eq_true, if_false]

theorem exec_boltOpen_taken {u : Nat} (h : s.boltFree g i = false) : exec (.boltOpen g i u) s = .next s := by
  change execBoltOpen g i u s = _
  simp only [execBoltOpen, h, Bool.false_and, Bool.not_false, if_true]

section
variable {ch : Nat} {b : Bolt} (hb : s.bolt g i = some b) (hstate : b.state = .erasing) (hch : b.toErase.contains ch = true)
include hb hstate hch

/-- A position is erased; the last one opens the Bolt (R446). -/
theorem exec_blockEraseDone_ok :
    exec (.blockEraseDone g i ch true) s =
      if b.toErase.filter (fun c => c ≠ ch) = [] then
        .next ((s.countErase ch g i).boltErased { b with toErase := b.toErase.filter (fun c => c ≠ ch) })
      else .next ((s.countErase ch g i).setBolt { b with toErase := b.toErase.filter (fun c => c ≠ ch) }) := by
  change execBlockEraseDone g i ch true s = _
  simp only [execBlockEraseDone, hb, hstate, hch, ne_eq, not_true_eq_false, Bool.true_eq_false, or_self, if_false, if_true]

/-- A position whose erase failed leaves the Bolt, and its block is retired (R468). -/
theorem exec_blockEraseDone_failed (hmore : b.toErase.filter (fun c => c ≠ ch) ≠ []) :
    exec (.blockEraseDone g i ch false) s = .next (((s.count (FQ_ERR.ERASE_FAIL (ch / 4)) 1).retire ch g i).setBolt { b with
      toErase := b.toErase.filter (fun c => c ≠ ch), present := b.present.filter (fun c => c ≠ ch) }) := by
  change execBlockEraseDone g i ch false s = _
  simp only [execBlockEraseDone, hb, hstate, hch, if_neg hmore, ne_eq, not_true_eq_false, Bool.true_eq_false, Bool.false_eq_true, or_self, if_false]

end

end

/-! ### Programs -/

section
variable {ppa : Nat}

theorem exec_stitchProgramDone (ok : Bool) : exec (.stitchProgramDone ppa ok) s = .next ((s.stitchProgrammed ppa ok).twinAck).entryGo := rfl

/-- No program of a page's word line is on its way while the line is not filled, or while it would hold parity of a row still being written
(R443, R444). -/
theorem State.stitchProgrammed_not {ok : Bool} (h : s.lineFilled ppa = false ∨ s.parityEarly ppa = true) : s.stitchProgrammed ppa ok = s := by
  refine if_pos ?_
  rcases h with h | h
  · rw [h]; rfl
  · rw [h, Bool.or_true]

/-- The programs of a page's word line are no longer in flight. -/
def State.lineOut (s : State) (ppa : Nat) : State :=
  { s with flash := { s.flash with progs := s.flash.progs.filter (fun g => !(s.lineProgs ppa).any (fun h => h.ppa == g.ppa)) } }

section
variable (hfilled : s.lineFilled ppa = true) (hparity : s.parityEarly ppa = false)
include hfilled hparity

/-- The pages of a word line that was programmed are committed (R451, R452). -/
theorem State.stitchProgrammed_ok : s.stitchProgrammed ppa true =
    ((s.lineProgs ppa).foldl (fun t g => t.progOk g) (s.lineOut ppa)).gcRun.flushMode.settle := by
  simp only [State.stitchProgrammed, State.lineOut, hfilled, hparity, Bool.not_true, Bool.or_self, Bool.false_eq_true, if_false, if_true]

/-- The pages of one that failed are placed again, and the row is closed over what it holds (R468, R481). -/
theorem State.stitchProgrammed_failed {b : Bolt} (hb : (s.lineOut ppa).boltAt ppa = some b) : s.stitchProgrammed ppa false =
    (((((s.lineProgs ppa).foldl (fun t g => t.progBad g) (s.lineOut ppa)).redoParity b.group b.idx).padRow b.group b.idx 64).gcRun).flushMode.settle := by
  unfold State.lineOut at hb ⊢
  simp only [State.stitchProgrammed, hfilled, hparity, hb, Bool.not_true, Bool.or_self, Bool.false_eq_true, if_false]

end

end

/-! ### Releasing a Bolt -/

/-- A victim is FREE when nothing in it is kept, a checkpoint has been recorded since its last move, and no read is outstanding in it (R446). -/
theorem exec_boltRelease {g i : Nat} {b : Bolt} (hb : s.bolt g i = some b) :
    exec (.boltRelease g i) s =
      if b.state = .victim ∧ s.liveIn b = 0 ∧ b.moved = 0 ∧ s.readsIn g i = false then
        .next (State.readonlyExit { s with flash := { s.flash with
          mapBolts := s.flash.mapBolts.filter (fun x => x.2 ≠ (g, i)),
          bolts := s.flash.bolts.filter (fun x => !(x.group == g && x.idx == i)) } }).gcMode
      else .next s := by
  change execBoltRelease g i s = _
  simp only [execBoltRelease, hb]

/-! ### Map segments -/

section
variable {e : Nat} {g : Seg} (hg : s.seg e = some g)
include hg

theorem exec_mapSegmentReadDone_reading (hread : g.reading = true) (hrep : s.replaying g = false) :
    exec (.mapSegmentReadDone e) s = .next ((s.cross 0 65536).segArrives e) := by
  change execMapSegmentReadDone e s = _
  simp only [execMapSegmentReadDone, hg, hread, hrep, Bool.not_true, Bool.or_self, Bool.false_eq_true, if_false]

/-- A segment that is not being read, or that the replay is changing, does not come. -/
theorem exec_mapSegmentReadDone_not (h : g.reading = false ∨ s.replaying g = true) : exec (.mapSegmentReadDone e) s = .next s := by
  have hidle : (!g.reading || s.replaying g) = true := by
    rcases h with h | h
    · rw [h]; rfl
    · rw [h, Bool.or_true]
  change execMapSegmentReadDone e s = _
  simp only [execMapSegmentReadDone, hg, hidle, if_true]

/-- Is there a reason to write a segment: it is DIRTY, or its map row lies in a victim (R453, R466; assumption log entry 215)? -/
def State.segDue (s : State) (g : Seg) : Bool := g.dirty || (s.slotBolt g.slot).any (fun b => b.state == .victim)

omit hg in
theorem State.segDue_iff : s.segDue g = true ↔ g.dirty = true ∨ ∃ b, s.slotBolt g.slot = some b ∧ b.state = .victim := by
  simp only [State.segDue, Bool.or_eq_true, Option.any_eq_true, beq_iff_eq]

omit hg in
theorem State.segDue_eq_false_iff : s.segDue g = false ↔ g.dirty = false ∧ ∀ b, s.slotBolt g.slot = some b → b.state ≠ .victim := by
  simp only [State.segDue, Bool.or_eq_false_iff, Option.any_eq_false, beq_eq_false_iff_ne, ne_eq]

theorem State.writeSeg_due (hdue : s.segDue g = true) (hreb : g.rebuilding = false) (hrep : s.replaying g = false) :
    s.writeSeg e = (s.putSeg e).1.runHeld.settle := by
  unfold State.segDue at hdue
  simp only [State.writeSeg, hg, hdue, hreb, hrep, Bool.not_false, Bool.and_self, if_true]

/-- A segment without a reason to be written, or whose content is not whole yet, keeps its map row. -/
theorem State.writeSeg_not (h : g.rebuilding = true ∨ s.replaying g = true ∨ s.segDue g = false) : s.writeSeg e = s := by
  have hkept : (s.segDue g && !g.rebuilding && !s.replaying g) = false := by
    rcases h with h | h | h
    · rw [h, Bool.not_true, Bool.and_false, Bool.false_and]
    · rw [h, Bool.not_true, Bool.and_false]
    · rw [h, Bool.false_and, Bool.false_and]
  unfold State.segDue at hkept
  simp only [State.writeSeg, hg, hkept, Bool.false_eq_true, if_false]

end

theorem State.writeSeg_none {e : Nat} (h : s.seg e = none) : s.writeSeg e = s := by
  simp only [State.writeSeg, h]

/-! ### Checkpoints -/

/-- The timer starts a checkpoint 30 s after the last, where a segment is DIRTY (R460). -/
theorem exec_checkpointTimer : exec (.checkpointTimer us) s =
    if (s.at us).flash.ckptUs + 30000000 ≤ us ∧ 0 < (s.at us).dirtySegs then .next (s.at us).startCkpt else .next (s.at us) := rfl

theorem State.startCkpt_idle (hruns : s.flash.ckptRuns = none) (hrep : s.flag SYS_BOOTSTAT.REPLAY = false) : s.startCkpt = s.beginCkpt false false :=
  if_neg fun h => (State.ckptLater_iff.1 h).elim (· hruns) (Bool.eq_false_iff.1 hrep)

/-- None starts while another runs or the replay does (assumption log entry 212). -/
theorem State.startCkpt_not (h : s.flash.ckptRuns.isSome = true ∨ s.flag SYS_BOOTSTAT.REPLAY = true) : s.startCkpt = s :=
  if_pos (Bool.or_eq_true_iff.2 h)

theorem exec_checkpointDone : exec (.checkpointDone us) s = .next ((s.at us).ckptEnds.1).entryGo := rfl

theorem State.ckptEnds_none (h : s.flash.ckptRuns = none) : s.ckptEnds.1 = s := by
  simp only [State.ckptEnds, h]

section
variable {c : CkptRun} (hc : s.flash.ckptRuns = some c)
include hc

theorem State.ckptEnds_segs (hsegs : c.segs ≠ []) : s.ckptEnds.1 = s := by
  simp only [State.ckptEnds, hc, List.isEmpty_eq_false_iff.2 hsegs, Bool.not_false, if_true]

/-- The index pages come before the record: while one of them is dirty no record is written (R458, R460). -/
theorem State.ckptEnds_index (hsegs : c.segs = []) (hidx : s.writeIndex.flash.idxDirty ≠ []) : s.ckptEnds.1 = s.writeIndex := by
  simp only [State.ckptEnds, hc, List.isEmpty_iff.2 hsegs, List.isEmpty_eq_false_iff.2 hidx, Bool.not_true, Bool.not_false, Bool.false_eq_true,
    if_false, if_true]

theorem State.ckptEnds_record (hsegs : c.segs = []) (hidx : s.writeIndex.flash.idxDirty = []) : s.ckptEnds.1 =
    (if c.own then (s.writeIndex.ckptRecord c).finishFor .checkpoint
      (fun t => .ok t [] [("ms", dec (roundDiv (s.clk - s.flash.ckptOwnUs) 1000))]) else s.writeIndex.ckptRecord c).settle := by
  simp only [State.ckptEnds, hc, List.isEmpty_iff.2 hsegs, List.isEmpty_iff.2 hidx, Bool.not_true, Bool.false_eq_true, if_false]

end

end

/-- Settles O40: each event is a choice on where its quad, Bolt, word line, segment or checkpoint stands. -/
theorem boltsAndMap : Obligations.BoltsAndMap := by
  unfold Obligations.BoltsAndMap
  refine ⟨?check, fun s q hown hretry => if_pos ⟨hown, hretry⟩, ?opened, fun s g i u => exec_boltOpen_taken, ?erased, ?programmed, ?notProgrammed,
    ?release, fun s e g hg => ⟨exec_mapSegmentReadDone_reading hg, exec_mapSegmentReadDone_not hg⟩, ?segWrite, ?segNone, ?timer, ?timerNot, ?ckptNone,
    ?ckpt⟩
  case check =>
    intro s v q l us same hq hd
    rw [exec_quadCheckDone hq hd]
    refine ⟨?_, fun hfault => ?_⟩
    · rintro hl hsame hdies rfl
      rw [State.quadSound_iff.2 ⟨hl, hsame, hdies⟩]
      rfl
    · rw [State.quadSound_eq_false_iff.2 hfault]
      rfl
  case opened =>
    rintro s v g i all hfree hmay rfl hall rfl
    exact exec_boltOpen_host hfree hmay hall
  case erased =>
    intro s v g i ch b hb hstate hch
    refine ⟨?_, ?_, ?_⟩
    · rintro rfl hlast
      rw [exec_blockEraseDone_ok hb hstate hch, if_pos hlast, hlast]
    · rintro rfl hmore
      rw [exec_blockEraseDone_ok hb hstate hch, if_neg hmore]
    · rintro rfl hmore
      exact exec_blockEraseDone_failed hb hstate hch hmore
  case programmed =>
    rintro s u ppa line hfilled hparity rfl rfl
    refine ⟨?_, fun b hb => ?_⟩
    · rw [exec_stitchProgramDone, State.stitchProgrammed_ok hfilled hparity, State.lineOut]
    · rw [exec_stitchProgramDone, State.stitchProgrammed_failed hfilled hparity hb, State.lineOut]
  case notProgrammed =>
    intro s ppa ok h
    rw [exec_stitchProgramDone, State.stitchProgrammed_not h]
  case release =>
    intro s g i b hb
    rw [exec_boltRelease hb]
    refine ⟨fun hvictim hlive hmoved hreads => if_pos ⟨hvictim, hlive, hmoved, hreads⟩, fun hkept => if_neg ?_⟩
    rintro ⟨hvictim, hlive, hmoved, hreads⟩
    rcases hkept with h | h | h | h
    · exact h hvictim
    · exact h hlive
    · exact h hmoved
    · exact Bool.eq_false_iff.1 hreads h
  case segWrite =>
    rintro s u e fit g rfl hg
    constructor
    · exact fun h => congrArg _ (State.writeSeg_not hg (h.imp_right (Or.imp_right State.segDue_eq_false_iff.2)))
    · exact fun hreb hrep hdue => congrArg _ (State.writeSeg_due hg (State.segDue_iff.2 hdue) hreb hrep)
  case segNone =>
    rintro s u e fit rfl hnone
    exact congrArg _ (State.writeSeg_none hnone)
  case timer =>
    rintro s u us rfl hlate hdirty
    rw [exec_checkpointTimer, if_pos ⟨hlate, hdirty⟩]
    exact ⟨fun hruns hrep => congrArg _ (State.startCkpt_idle hruns hrep), fun h => congrArg _ (State.startCkpt_not h)⟩
  case timerNot =>
    rintro s u us rfl h
    rw [exec_checkpointTimer]
    refine if_neg fun ⟨hlate, hdirty⟩ => ?_
    rcases h with h | h
    · exact Nat.not_lt.2 hlate h
    · exact hdirty.ne' h
  case ckptNone =>
    rintro s u us rfl hnone
    rw [exec_checkpointDone, State.ckptEnds_none hnone]
  case ckpt =>
    rintro s u v us c rfl hc rfl
    rw [exec_checkpointDone]
    refine ⟨fun hsegs => ?_, fun hsegs hidx => ?_, fun hsegs hidx hown => ?_, fun hsegs hidx hown => ?_⟩
    · rw [State.ckptEnds_segs hc hsegs]
    · rw [State.ckptEnds_index hc hsegs hidx]
    · rw [State.ckptEnds_record hc hsegs hidx, hown]
      rfl
    · rw [State.ckptEnds_record hc hsegs hidx, hown]
      rfl

end Sys2Proof.Machine
end

section
/-!
PROOFS. Garbage collection, wear levelling, relocation, the patrol and the end of a format (chapters 08, 09 and 20: R465 to R470, R505, R525, R526,
R1059).
-/
namespace Sys2Proof.Machine
open Sys2Proof

section
variable {s : State}

/-! ### A card that has quiesced -/

/-- While the card has quiesced nothing is collected, levelled, relocated or patrolled. -/
theorem exec_upkeep_quiesced (h : s.quiesced = true) (g us : Nat) :
    exec .gcStart s = .next s ∧ exec (.wearLevelStart g) s = .next s ∧ exec .relocation s = .next s ∧
      ((s.at us).quiesced = true → exec (.flashPatrolRead us) s = .next (s.at us)) := by
  refine ⟨if_pos h, if_pos h, if_pos h, fun hat => if_pos ?_⟩
  rw [hat, Bool.or_true, Bool.true_or]

/-! ### Collection -/

section
variable (hq : s.quiesced = false)
include hq

theorem exec_gcStart_enough (h : s.gcStartAt ≤ s.freeBolts) : exec .gcStart s = .next s.gcMode :=
  (if_neg (Bool.eq_false_iff.1 hq)).trans (if_pos h)

section
variable (hfew : s.freeBolts < s.gcStartAt)
include hfew

theorem exec_gcStart_victim {b : Bolt} (hb : s.gcVictim = some b) : exec .gcStart s = .next (s.takeVictim b).gcMode := by
  change execGcStart s = _
  simp only [execGcStart, hq, if_neg (Nat.not_le.2 hfew), hb, Bool.false_eq_true, if_false]

/-- With no Bolt to free and none FREE beyond the reserve the card takes no more data (R470). -/
theorem exec_gcStart_readonly (hnone : s.gcVictim = none) (hfree : s.freeBolts ≤ 2) (hro : s.flag MOV_STAT.READONLY = false) :
    exec .gcStart s = .next ((s.set MOV_STAT.READONLY 1).notify "flash readonly" []).gcMode := by
  change execGcStart s = _
  simp only [execGcStart, hq, if_neg (Nat.not_le.2 hfew), hnone, hfree, hro, and_self, Bool.false_eq_true, if_false, if_true]

end

/-! ### Wear levelling -/

/-- Where the erase counts of a group's blocks lie further apart than MOV_WL allows, its least worn FULL Bolt becomes a victim (R467). -/
theorem exec_wearLevelStart_spread {g lo : Nat} {b : Bolt} (hlo : leastBy (fun n => n) (s.groupErases g) = some lo)
    (hspread : lo + clamp 50 10000 (s.get MOV_WL.SPREAD) < (s.groupErases g).foldl max 0)
    (hb : leastBy (fun b => (b.present.map (fun c => s.eraseCount c b.group b.idx)).foldl min (2 ^ 32))
      (s.flash.bolts.filter (fun b => b.state == .full && b.group == g)) = some b) :
    exec (.wearLevelStart g) s = .next (s.takeVictim b) := by
  have hwide : ¬ (s.groupErases g).foldl max 0 - lo ≤ clamp 50 10000 (s.get MOV_WL.SPREAD) := by omega
  change execWearLevelStart g s = _
  simp only [execWearLevelStart, hq, hlo, if_neg hwide, hb, Bool.false_eq_true, if_false]

/-! ### Relocation -/

/-- The oldest queued Stitch is copied while its entry still names the page that it was queued for; else it leaves the queue (R505). -/
theorem exec_relocation_next {r : Reloc} {b : Bolt} (hr : s.flash.relocs.find? (fun r => !r.copying) = some r)
    (hb : (s.openBolts .gc).find? (fun b => b.room) = some b) :
    exec .relocation s =
      if s.entry r.pocket r.stitch = 0 ∨ entryPpa (s.entry r.pocket r.stitch) ≠ r.ppa then .next (s.tidyReloc r.pocket r.stitch)
      else .next (State.copyStitch { s with flash := { s.flash with
        relocs := s.flash.relocs.map (fun x => if x = r then { x with copying := true } else x) } } b r.pocket r.stitch r.poison) := by
  change execRelocation s = _
  simp only [execRelocation, hq, hr, hb, Bool.false_eq_true, if_false]

end

/-- Nothing is relocated without a Stitch that waits for its copy and room in the Bolt open for collection. -/
theorem exec_relocation_not (h : s.flash.relocs.find? (fun r => !r.copying) = none ∨ (s.openBolts .gc).find? (fun b => b.room) = none) :
    exec .relocation s = .next s := by
  change execRelocation s = _
  unfold execRelocation
  rcases h with h | h
  · simp only [h, ite_self]
  · cases hr : s.flash.relocs.find? (fun r => !r.copying) with
    | none => simp only [ite_self]
    | some r => simp only [h, ite_self]

/-! ### The patrol -/

section
variable {u : State} {us : Nat} (hu : u = s.at us)
include hu

section
variable (hready : u.ready = true) (hawake : u.asleep = false) (hquiet : u.quiesced = false) (hon : u.flag ECC_CFG.PATROL_EN = true)
include hready hawake hquiet hon

theorem exec_flashPatrolRead_next {pos ppa : Nat} (hnext : u.patrolNext = some (pos, ppa)) (hbusy : u.channelBusy (ppaCh ppa) = false)
    (harm : u.flag PWR_STATE.IDLE_ARM = false) :
    exec (.flashPatrolRead us) s = .next { u with flash := { u.flash with
      patrolPos := pos + 1, patrolUs := upsert (ppaCh ppa) us u.flash.patrolUs, reads := u.flash.reads ++ [ppa] } } := by
  subst hu
  change execFlashPatrolRead us s = _
  simp only [execFlashPatrolRead, hready, hawake, hquiet, hon, hnext, hbusy, harm, Bool.not_true, Bool.or_self, Bool.false_and, Bool.true_eq_false,
    decide_false, Bool.false_eq_true, if_false]

/-- With no page left the lap ends, once its last read has (R525). -/
theorem exec_flashPatrolRead_last (hnext : u.patrolNext = none) :
    exec (.flashPatrolRead us) s = .next (if u.flash.reads = [] ∧ 0 < u.flash.patrolPos then u.lapEnds else u) := by
  subst hu
  change execFlashPatrolRead us s = _
  simp only [execFlashPatrolRead, hready, hawake, hquiet, hon, hnext, Bool.not_true, Bool.or_self, Bool.true_eq_false, decide_false,
    Bool.false_eq_true, if_false]

end

/-- A lap that has lasted longer than WARN_H hours is warned of once (R526). -/
theorem exec_patrolSlow_late (hready : u.ready = true) (hon : u.flag ECC_CFG.PATROL_EN = true) (hfirst : u.flash.lapWarned = false)
    (hlate : 3600000000 * clamp 24 8760 (u.get ECC_FPATROL.WARN_H) < us - u.flash.lapStart) :
    exec (.patrolSlow us) s = .next (State.notify { u with flash := { u.flash with lapWarned := true } } "flash patrol slow"
      [("h", dec ((us - u.flash.lapStart) / 3600000000))]) := by
  subst hu
  have hdue : ¬ ((s.at us).flash.lapWarned = true ∨ (s.at us).ready = false ∨ (s.at us).flag ECC_CFG.PATROL_EN = false ∨
      us - (s.at us).flash.lapStart ≤ 3600000000 * clamp 24 8760 ((s.at us).get ECC_FPATROL.WARN_H)) := by
    simp only [hready, hon, hfirst, Nat.not_le.2 hlate, Bool.true_eq_false, Bool.false_eq_true, or_self, not_false_eq_true]
  exact if_neg hdue

/-! ### The end of a format -/

theorem exec_flashFormatDone : exec (.flashFormatDone us) s =
    if u.flash.formatting = true ∧ u.ready = true then .next (u.formatAll.endJobOf "flash format" .done) else .next u := by
  subst hu
  rfl

end

theorem exec_patrolSlow_warned {us : Nat} (h : s.flash.lapWarned = true) : exec (.patrolSlow us) s = .next (s.at us) :=
  if_pos (.inl ((congrArg Flash.lapWarned (State.at_flash s us)).trans h))

end

/-- Settles O41: each of the first four is kept back while the card has quiesced, and turns then on what it has to work on and where to. -/
theorem flashUpkeep : Obligations.FlashUpkeep := by
  unfold Obligations.FlashUpkeep
  refine ⟨fun s g us h => exec_upkeep_quiesced h g us, fun s => exec_gcStart_enough, ?collect, fun s g lo b hq => exec_wearLevelStart_spread hq,
    ?relocate, fun s => exec_relocation_not, ?patrol, ?lapEnd,
    fun s u us => exec_patrolSlow_late, fun s us => exec_patrolSlow_warned, ?format⟩
  case collect =>
    rintro s useful hq hfew rfl
    refine ⟨fun b hb => exec_gcStart_victim hq hfew hb, fun hnone => exec_gcStart_readonly hq hfew ?_⟩
    simp only [State.gcVictim, hnone, leastBy]
  case relocate =>
    rintro s u r b hq hr hb rfl
    rw [exec_relocation_next hq hr hb]
    exact ⟨fun hentry hpage => if_neg (not_or.2 ⟨hentry, not_not.2 hpage⟩), fun h => if_pos h⟩
  case patrol =>
    intro s u us pos ppa hu hready hawake hquiet hon
    exact exec_flashPatrolRead_next hu hready hawake hquiet hon
  case lapEnd =>
    intro s u us hu hready hawake hquiet hon hnext
    rw [exec_flashPatrolRead_last hu hready hawake hquiet hon hnext]
    refine ⟨fun hreads hpos => congrArg _ (if_pos ⟨hreads, hpos⟩), fun h => congrArg _ (if_neg fun ⟨hreads, hpos⟩ => ?_)⟩
    rcases h with h | h
    · exact h hreads
    · exact hpos.ne' h
  case format =>
    rintro s u us hu
    rw [exec_flashFormatDone hu]
    exact ⟨fun hformat hready => if_pos ⟨hformat, hready⟩, fun hnot => if_neg fun h => Bool.eq_false_iff.1 hnot h.1⟩

end Sys2Proof.Machine
end

section
/-!
PROOFS. The verb `ecc` and a write of ECC_INJ (chapters 09 and 20: R489, R528, R529, R1065 to R1067).
-/
namespace Sys2Proof.Machine
open Sys2Proof

section
variable {s : State} {ln : Ln} {us : Nat}

/-! ### `ecc cfg` -/

section
variable {a : EccAttrs}

/-- Is every setting that `ecc cfg` names in its range (R1065, Table SDP-4)? FIXED_T takes 0 too, which makes the strength automatic
(R490). -/
structure EccInRange (a : EccAttrs) : Prop where
  refresh : within a.refresh 50 100 = true
  retry : within a.retry 0 12 = true
  rb : within a.rb 0 12 = true
  z : within a.z 2 12 = true
  growth : within a.growth 8 255 = true
  fixedT : a.fixedT = some 0 ∨ within a.fixedT 16 160 = true
  tInit : within a.tInit 16 160 = true
  tInitStep : multipleOf a.tInit 8 = true
  warnH : within a.warnH 24 8760 = true

/-- The settings that `ecc cfg` names are kept, and TNEXT of every group follows them (R489, R1065). -/
def State.putEccCfg (s : State) (a : EccAttrs) : State :=
  ((((((((((s.keepIf ECC_CFG.REFRESH_PCT a.refresh).keepIf ECC_CFG.RETRY_STEPS a.retry).keepIf ECC_CFG.RB_STEPS a.rb).keepIf
    ECC_CFG.PATROL_EN (a.patrol.map bit01)).keepIf ECC_CFG.SCRUB_EN (a.scrub.map bit01)).keepIf ECC_STR.Z a.z).keepIf ECC_STR.GROWTH
    a.growth).keepIf ECC_STR.FIXED_T a.fixedT).keepIf ECC_STR.T_INIT a.tInit).keepIf ECC_FPATROL.WARN_H a.warnH).showStrengths

theorem exec_eccCfg_inRange (h : s.runs (Say.eccCfg a us) ln us (changing [.operator] []) false) (ha : EccInRange a) :
    exec (.eccCfg ln a us) s = .next (((s.taken ln us).putEccCfg a).done ln [] ((s.taken ln us).putEccCfg a).eccKv) := by
  obtain ⟨hrefresh, hretry, hrb, hz, hgrowth, hfixed, htInit, hstep, hwarn⟩ := ha
  have hfixedOk : (a.fixedT == some 0 || within a.fixedT 16 160) = true := by simpa only [Bool.or_eq_true, beq_iff_eq] using hfixed
  refine State.cmd_done h rfl ?_
  simp only [hrefresh, hretry, hrb, hz, hgrowth, hfixedOk, htInit, hstep, hwarn, Bool.not_true, Bool.or_self, Bool.false_eq_true, if_false]
  rfl

end

/-! ### `ecc inject` -/

section
variable {target : Nat} {unit bits : Option Nat}

/-- The highest UNIT of a target: 3 for the BCH pools, the last domain for SRAM, else the field's own (Table SDP-5, R1066). -/
def topUnit (target : Nat) : Nat := if target = 3 then 3 else if target = 0 then 50 else 255

/-- With values in range the line turns on ARM first, then on R529; which of the two refusals comes first is assumption log entry 126. -/
theorem exec_eccInject_inRange (h : s.runs (Say.eccInject target unit bits us) ln us (changing [.operator] []) false) (ht : target ≤ 3)
    (hunit : within unit 0 (topUnit target) = true) (hbits : within bits 1 255 = true) : exec (.eccInject ln target unit bits us) s =
    if (s.taken ln us).flag ECC_INJ.ARM = true then .next ((s.taken ln us).refused ln .wrongState)
    else if ((s.taken ln us).armInjection target (unit.getD 0) (bits.getD 1)).injMay = true then
      .next (((s.taken ln us).armInjection target (unit.getD 0) (bits.getD 1)).done ln [] [("armed", "yes")])
    else .next ((s.taken ln us).refused ln .lifecycle) := by
  have hin : ¬ (3 < target ∨ within unit 0 (topUnit target) = false ∨ within bits 1 255 = false) := by
    rw [hunit, hbits]
    simpa using ht
  split
  next harm => exact State.cmd_refused h rfl ((if_neg hin).trans (if_pos harm))
  next harm =>
    split
    next hmay =>
      refine State.cmd_done h rfl ((if_neg hin).trans ((if_neg harm).trans (if_neg ?_)))
      rw [hmay]
      exact Bool.false_ne_true
    next hnot =>
      refine State.cmd_refused h rfl ((if_neg hin).trans ((if_neg harm).trans (if_pos ?_)))
      rw [Bool.eq_false_iff.2 hnot]
      rfl

end

/-! ### A write of ECC_INJ -/

theorem exec_eccInjArm_p0 {target unit bits : Nat} : exec (.eccInjArm target unit bits false) s =
    .next (if (s.armInjection target unit bits).injMay then s.armInjection target unit bits
      else (s.armInjection target unit bits).set ECC_INJ.ARM 0) := rfl

/-- A write from P1 is ignored (R529). -/
theorem exec_eccInjArm_p1 {target unit bits : Nat} : exec (.eccInjArm target unit bits true) s = .next s := rfl

end

/-- Settles O19: each form is a row of its verb; `ecc inject` turns on ARM and on where an injection may act. -/
theorem eccCommands : Obligations.EccCommands := by
  unfold Obligations.EccCommands
  refine ⟨?shown, ?group, ?cfg, ?inject, ?write⟩
  case shown =>
    rintro s u ln us rfl h
    exact ⟨State.cmd_ok h rfl rfl, rfl⟩
  case group =>
    rintro s u ln g us rfl h
    exact ⟨fun hg => State.cmd_ok h rfl (if_neg (Nat.not_lt.2 hg)), fun hg => State.cmd_fail h rfl (if_pos hg)⟩
  case cfg =>
    rintro s u v ln a us rfl h hrefresh hretry hrb hz hgrowth hfixed htInit hstep hwarn rfl
    exact exec_eccCfg_inRange h ⟨hrefresh, hretry, hrb, hz, hgrowth, hfixed, htInit, hstep, hwarn⟩
  case inject =>
    rintro s u v ln target unit bits us rfl h ht hunit hbits rfl
    rw [exec_eccInject_inRange h ht hunit hbits]
    exact ⟨fun harm hmay => (if_neg (Bool.eq_false_iff.1 harm)).trans (if_pos hmay),
      fun harm hmay => (if_neg (Bool.eq_false_iff.1 harm)).trans (if_neg (Bool.eq_false_iff.1 hmay)), fun harm => if_pos harm⟩
  case write =>
    rintro s v target unit bits rfl
    exact ⟨exec_eccInjArm_p0, exec_eccInjArm_p1⟩

end Sys2Proof.Machine
end

section
/-!
PROOFS. Accesses of the Tailor cores, the policy extension, tag writes and uncorrectable SRAM reads (chapters 09, 12 and 21: R511, R663 to R668, R672 to
R675, R680, R1118).
-/
namespace Sys2Proof.Machine
open Sys2Proof

section
variable {s : State}

/-! ### The MPU -/

/-- An access that a core can make, judged by its regions and the address map (R663, R1118). -/
theorem exec_mpuFault {core a addr us : Nat} {p1 : Bool} (hcore : core < 2) (ha : a < 3) (hp1 : p1 = true → core = 1)
    (hin : (s.at us).domIn (49 + core) = true) :
    exec (.mpuFault core p1 a addr us) s =
      if (s.at us).coreRefused core p1 a addr = true then .next ((s.at us).mpuFault core p1 a addr) else .next (s.at us) := by
  have ht0 : ¬ (core = 0 ∧ p1 = true) := fun ⟨h0, h1⟩ => by simp [hp1 h1] at h0
  change execMpuFault core p1 a addr us s = _
  simp only [execMpuFault, Nat.not_le.2 hcore, Nat.not_le.2 ha, ht0, hin, Bool.true_eq_false, false_or]
  cases (s.at us).coreRefused core p1 a addr <;> rfl

/-- A core at P0 sets its own LOCK (R664, R665). -/
theorem exec_mpuLock_own {core : Nat} (hcore : core < 2) (hd : s.dom (49 + core) ≠ 0) :
    exec (.mpuLock core core false) s = .next (s.set (MPU_CTL.LOCK core) 1) := by
  refine if_pos ⟨hcore, ?_, hd⟩
  simp only [State.mpuWriter, beq_self_eq_true, Bool.true_or, Bool.not_false, Bool.and_self]

/-- No LOCK is set by a core that may not write the registers (R664). -/
theorem exec_mpuLock_barred {core w : Nat} {p1 : Bool} (h : s.mpuWriter core w p1 = false) : exec (.mpuLock core w p1) s = .next s :=
  if_neg fun ⟨_, hw, _⟩ => Bool.eq_false_iff.1 h hw

theorem State.mpuWriter_p1 (core w : Nat) : s.mpuWriter core w true = false := rfl

/-- T0 does not write T1's registers while T1 is in service (R664). -/
theorem State.mpuWriter_t0_t1 (hin : s.domIn 50 = true) : s.mpuWriter 1 0 false = false := by
  simp only [State.mpuWriter, hin]
  rfl

/-! ### The policy extension -/

section
variable {img : Bytes} {slot : Nat}

section
variable (hmay : s.extMayStart = true) (hp1 : s.flag (MPU_CTL.P1ACT 1) = false) (hext : s.access.ext = some (img, slot))
include hmay hp1 hext

/-- A stored image that passes Table ACC-3 gets its regions, and P1 execution starts (R673, R675). -/
theorem exec_extensionStart_passes (hcheck : (s.haltExt.loadExt img).extCheck img slot = none) :
    exec .extensionStart s =
      .next ((((s.haltExt.loadExt img).programRegions (extRegions img)).set (MPU_CTL.P1ACT 1) 1).set MPU_EXT.STATE 1) := by
  refine (if_pos ⟨hmay, hp1⟩).trans ?_
  simp only [State.startExt, hext, hcheck]

/-- One that fails a check is rejected with that check's status (R675, Table ACC-3). -/
theorem exec_extensionStart_rejected {st : Status} (hcheck : (s.haltExt.loadExt img).extCheck img slot = some st) :
    exec .extensionStart s =
      .next (((s.haltExt.loadExt img).set MPU_EXT.STATE 2).notify "mpu ext rejected" [("status", hex0x 3 st.code)]) := by
  refine (if_pos ⟨hmay, hp1⟩).trans ?_
  simp only [State.startExt, hext, hcheck]

end

/-- Nothing starts while the card may not start an extension, or with none stored. -/
theorem exec_extensionStart_not (h : s.extMayStart = false ∨ s.access.ext = none) : exec .extensionStart s = .next s := by
  rcases h with hmay | hext
  · exact if_neg fun ⟨hstart, _⟩ => Bool.eq_false_iff.1 hmay hstart
  · change execExtensionStart s = _
    simp only [execExtensionStart, State.startExt, hext, ite_self]

end

/-! ### Tag writes -/

section
variable {core v n c : Nat}

theorem exec_tagWrite (hcore : core < 2) : exec (.tagWrite core v false) s = .next (s.tagWrite core v) :=
  if_neg (not_or.2 ⟨Bool.false_ne_true, Nat.not_le.2 hcore⟩)

/-- P1 writes no tag (R680). -/
theorem exec_tagWrite_p1 : exec (.tagWrite core v true) s = .next s := rfl

/-- A line of the cache or of the inbound area keeps its tag, and ERR is set (R680). -/
theorem State.tagWrite_barred (h : s.inCarve "cache" (64 * s.getOn core TAG_WADDR.LINE) = true ∨
    s.inCarve "inbound" (64 * s.getOn core TAG_WADDR.LINE) = true) :
    s.tagWrite core v = (s.setOn core TAG_WCTL.VALUE v).setOn core TAG_WCTL.ERR 1 := if_pos h

/-- A line of DRAM in service that holds data gets the tag (R680). -/
theorem State.tagWrite_line (hcache : s.inCarve "cache" (64 * s.getOn core TAG_WADDR.LINE) = false)
    (hinbound : s.inCarve "inbound" (64 * s.getOn core TAG_WADDR.LINE) = false) (hsize : 64 * s.getOn core TAG_WADDR.LINE < s.dramSize)
    (hchan : s.chanOf (64 * s.getOn core TAG_WADDR.LINE) = (n, c)) (hserves : s.drcServes n = true) (hdata : s.inTagStore n c = false) :
    s.tagWrite core v = ((s.setOn core TAG_WCTL.VALUE v).setOn core TAG_WCTL.ERR 0).tagByte n c (v % 256) := by
  simp only [State.tagWrite, hcache, hinbound, Nat.not_le.2 hsize, hchan, hserves, hdata, Bool.false_eq_true, Bool.true_eq_false, or_self, if_false]

end

/-! ### Uncorrectable SRAM reads -/

section
variable {arr d n b c : Nat} {o : Owner} {cl : Option Nat}

/-- Among the 13 stored bits of a byte, none read wrong changes nothing. -/
theorem exec_sramUncorrectable_none : exec (.sramUncorrectable arr d [] o n cl) s = .next s := rfl

/-- One is corrected and counted (R507, R510). -/
theorem exec_sramUncorrectable_single (hb : b < 13) : exec (.sramUncorrectable arr d [b] o n cl) s = .next (s.count ECC_SCORR.CORR 1) := by
  change execSramUncorrectable arr d [b] o n cl s = _
  have hstored : ([b].filter (fun x => decide (x < 13))).eraseDups = [b] := by simp [hb, List.eraseDups_cons]
  simp only [execSramUncorrectable, hstored]

/-- Two are beyond the code: the read is uncorrectable (R507, R511). -/
theorem exec_sramUncorrectable_double (hb : b < 13) (hc : c < 13) (hne : b ≠ c) :
    exec (.sramUncorrectable arr d [b, c] o n cl) s = .next (s.sramLost arr d o n cl) := by
  change execSramUncorrectable arr d [b, c] o n cl s = _
  have hstored : ([b, c].filter (fun x => decide (x < 13))).eraseDups = [b, c] := by
    simp [hb, hc, List.eraseDups_cons, hne.symm]
  simp only [execSramUncorrectable, hstored]

end

/-- The counter and the record that every uncorrectable SRAM read leaves (R511). -/
def State.sramNoted (s : State) (arr d : Nat) : State := ((s.count ECC_SCORR.UNC 1).set ECC_SLAST.DOMAIN d).set ECC_SLAST.ARRAY arr

section
variable {d n : Nat} {o : Owner} {cl : Option Nat}

/-- A queue context costs its quarter's domain (Table SDP-1, row 3). -/
theorem State.sramLost_quarter (hlo : 39 ≤ d) (hhi : d ≤ 42) : s.sramLost 3 d o n cl = (s.sramNoted 3 d).runFault d causeMemErr := if_pos ⟨hlo, hhi⟩

/-- A key slot's content, unless the byte was a command's latch, comes again from the key journal at once (Table SDP-1, row 4; assumption log entry
218). -/
theorem State.sramLost_slot {k live : KeySlot} (ho : ∀ q t, o ≠ .command q t) (himg : (s.sramNoted 4 d).keys.image.lookup n = some k)
    (hlive : (s.sramNoted 4 d).keys.slots.lookup n = some live) :
    s.sramLost 4 d o n cl = { s.sramNoted 4 d with keys := { (s.sramNoted 4 d).keys with
      slots := upsert n (live.reloaded k) (s.sramNoted 4 d).keys.slots } } := by
  unfold State.sramNoted at himg hlive ⊢
  simp only [State.sramLost, himg, hlive]

section
variable (hrun : (s.sramNoted 7 d).life.run = none)
include hrun

/-- With no swatch running, the TCM of T1 restarts T1 (Table SDP-1, row 7). -/
theorem State.sramLost_tcmT1 (hd : d = 50) : s.sramLost 7 d o n cl =
    if (s.sramNoted 7 d).dom 50 = 0 then s.sramNoted 7 d else (s.sramNoted 7 d).resetDomain 50 .card := by
  unfold State.sramNoted at hrun ⊢
  simp only [State.sramLost, hrun, if_pos hd, State.restartT1]

/-- That of T0 begins a warm reset (Table SDP-1, row 7). -/
theorem State.sramLost_tcmT0 (hd : d ≠ 50) : s.sramLost 7 d o n cl = (s.sramNoted 7 d).beginReset .warm causeMemErr := by
  unfold State.sramNoted at hrun ⊢
  simp only [State.sramLost, hrun, if_neg hd]

end

/-- In the domain that a swatch runs in it is a fault of that run. -/
theorem State.sramLost_tcmSwatch {r : BistRun} (hrun : (s.sramNoted 7 d).life.run = some r) (hd : r.dom = d) :
    s.sramLost 7 d o n cl = (s.sramNoted 7 d).runFault d causeMemErr := by
  unfold State.sramNoted at hrun ⊢
  simp only [State.sramLost, hrun, if_pos hd]

/-- The first ROM error since the last cold reset begins a warm reset (Table SDP-1, row 9; assumption log entry 75). -/
theorem State.sramLost_romFirst (hfirst : (s.sramNoted 9 d).boot.romErrs = 0) : s.sramLost 9 d o n cl =
    State.beginReset { s.sramNoted 9 d with boot := { (s.sramNoted 9 d).boot with romErrs := 1 } } .warm causeMemErr := by
  unfold State.sramNoted at hfirst ⊢
  simp only [State.sramLost, hfirst, if_true]

/-- A later one puts the card in LIMP. -/
theorem State.sramLost_romAgain (hlater : (s.sramNoted 9 d).boot.romErrs ≠ 0) : s.sramLost 9 d o n cl =
    State.enterLimp { s.sramNoted 9 d with boot := { (s.sramNoted 9 d).boot with romErrs := (s.sramNoted 9 d).boot.romErrs + 1 } } 1 49 := by
  unfold State.sramNoted at hlater ⊢
  simp only [State.sramLost, if_neg hlater]

end

end

/-- Settles O43: each access is a choice on who asks and for what; an uncorrectable read is a row of Table SDP-1. -/
theorem accessEvents : Obligations.AccessEvents := by
  unfold Obligations.AccessEvents
  refine ⟨?fault, ?extension, fun s => exec_extensionStart_not, ?lock, fun s _ hin => exec_mpuLock_barred (State.mpuWriter_t0_t1 hin), ?tag,
    fun s core v => exec_tagWrite_p1, fun s arr d b n o cl hb => ⟨exec_sramUncorrectable_none, exec_sramUncorrectable_single hb⟩, ?sram⟩
  case fault =>
    rintro s u core a addr us p1 rfl hcore ha hp1 hin
    rw [exec_mpuFault hcore ha hp1 hin]
    exact ⟨fun hrefused => if_pos hrefused, fun hpermitted => if_neg (Bool.eq_false_iff.1 hpermitted)⟩
  case extension =>
    rintro s u img slot hmay hp1 hext rfl
    exact ⟨exec_extensionStart_passes hmay hp1 hext, fun st => exec_extensionStart_rejected hmay hp1 hext⟩
  case lock =>
    intro s core hcore hd
    exact ⟨exec_mpuLock_own hcore hd, fun w => exec_mpuLock_barred (State.mpuWriter_p1 core w)⟩
  case tag =>
    rintro s u core v n c a hcore rfl rfl hchan
    rw [exec_tagWrite hcore]
    exact ⟨fun hbarred => congrArg _ (State.tagWrite_barred hbarred),
      fun hcache hinbound hsize hserves hdata => congrArg _ (State.tagWrite_line hcache hinbound hsize hchan hserves hdata)⟩
  case sram =>
    rintro s v arr d o n cl e rfl ⟨b, c, hb, hc, hne, rfl⟩
    rw [exec_sramUncorrectable_double hb hc hne]
    refine ⟨?data, ?repeatStore, ?quarter, ?latch, ?slot, ?segment, ?tagCache, ?tcmT1, ?tcmT0, ?tcmSwatch, ?meter, ?romFirst, ?romAgain⟩
    case data => rintro rfl; rfl
    case repeatStore => rintro rfl; rfl
    case quarter =>
      rintro rfl hlo hhi
      exact congrArg _ (State.sramLost_quarter hlo hhi)
    case latch => rintro q t rfl rfl; rfl
    case slot =>
      rintro k live rfl ho himg hlive
      exact congrArg _ (State.sramLost_slot ho himg hlive)
    case segment => rintro g rfl rfl; rfl
    case tagCache => rintro rfl; rfl
    case tcmT1 =>
      rintro rfl hd hrun
      exact congrArg _ (State.sramLost_tcmT1 hrun hd)
    case tcmT0 =>
      rintro rfl hd hrun
      exact congrArg _ (State.sramLost_tcmT0 hrun hd)
    case tcmSwatch =>
      rintro r rfl hrun hd
      exact congrArg _ (State.sramLost_tcmSwatch hrun hd)
    case meter => rintro rfl; rfl
    case romFirst =>
      rintro rfl hfirst
      exact congrArg _ (State.sramLost_romFirst hfirst)
    case romAgain =>
      rintro rfl hlater
      exact congrArg _ (State.sramLost_romAgain hlater)

end Sys2Proof.Machine
end

section
/-!
PROOFS. The verb `dram`, and the upkeep of the DRAM channels (chapters 10 and 20: R545, R551, R563, R564, R571, R573 to R577, R583, R584, R588, R1062 to
R1064).
-/
namespace Sys2Proof.Machine
open Sys2Proof

section
variable {s : State}

section
variable {ln : Ln} {us : Nat}

/-! ### `dram cfg` and `dram port` -/

section
variable {ch : Option Nat}

/-- Is every setting that `dram cfg` names in its range (R1062)? -/
structure DramInRange (ch : Option Nat) (a : DramAttrs) : Prop where
  channel : within ch 0 1 = true
  rateMax : a.rateMax = none ∨ a.rateMax = some 6400 ∨ a.rateMax = some 3200
  idleNs : within a.idleNs 20 5000 = true
  guardNs : within a.guardNs 500 65535 = true
  act : within a.act 256 32768 = true
  share : within a.share 10 90 = true

/-- The settings that `dram cfg` names are kept for the channels it names (R1062). -/
def State.putDramCfg (s : State) (cs : List Nat) (a : DramAttrs) : State :=
  (((((((s.keepCh cs DRC_CFG.RATE_MAX (a.rateMax.map (fun n => if n = 3200 then 1 else 0))).keepCh cs DRC_CFG.SPARE_EN
    (a.spare.map bit01)).keepCh cs DRC_CFG.QOS (a.deadline.map bit01)).keepCh cs DRC_CFG.PAGE (a.close.map bit01)).keepCh cs DRC_PAGE.IDLE_NS
    a.idleNs).keepCh cs DRC_GUARD.NS a.guardNs).keepCh cs DRC_ACT.THRESH a.act).keepCh cs DRC_SPARE.SHARE a.share

/-- The settings of channel 0 as `dram cfg` answers them. -/
def State.dramKv (s : State) : List KV :=
  [("rate_max", if s.flag (DRC_CFG.RATE_MAX 0) then "3200" else "6400"), ("spare", onOff (s.flag (DRC_CFG.SPARE_EN 0))),
   ("qos", if s.flag (DRC_CFG.QOS 0) then "deadline" else "priority"), ("page", if s.flag (DRC_CFG.PAGE 0) then "close" else "hint"),
   ("idle_ns", dec (s.get (DRC_PAGE.IDLE_NS 0))), ("guard_ns", dec (s.get (DRC_GUARD.NS 0))), ("act", dec (s.get (DRC_ACT.THRESH 0))),
   ("share", dec (s.get (DRC_SPARE.SHARE 0)))]

theorem exec_dramCfg_inRange {a : DramAttrs} (h : s.runs (Say.dramCfg ch a us) ln us (changing [.operator] (dramUnits ch)) false)
    (ha : DramInRange ch a) : exec (.dramCfg ln ch a us) s =
      .next (((s.taken ln us).putDramCfg (dramChannels ch) a).done ln [] ((s.taken ln us).putDramCfg (dramChannels ch) a).dramKv) := by
  obtain ⟨hch, hrate, hidle, hguard, hact, hshare⟩ := ha
  refine State.cmd_done h rfl (if_neg ?_)
  rw [hch, hidle, hguard, hact, hshare]
  rcases hrate with hrate | hrate | hrate <;> rw [hrate] <;> decide

theorem exec_dramPort_inRange {port : Nat} {target prio : Option Nat}
    (h : s.runs (Say.dramPort port ch target prio us) ln us (changing [.operator] (dramUnits ch)) false) (hport : port ≤ 7)
    (hch : within ch 0 1 = true) (htarget : within target 10 65535 = true) (hprio : within prio 0 7 = true) {v : State}
    (hv : v = ((s.taken ln us).keepCh (dramChannels ch) (fun n => DRC_PORT.TARGET_NS n port) target).keepCh (dramChannels ch)
      (fun n => DRC_PORT.PRIO n port) prio) : exec (.dramPort ln port ch target prio us) s = .next (v.done ln []
      [("port", portName port), ("target_ns", dec (v.get (DRC_PORT.TARGET_NS 0 port))), ("prio", dec (v.get (DRC_PORT.PRIO 0 port)))]) := by
  subst hv
  refine State.cmd_done h rfl (if_neg ?_)
  rw [hch, htarget, hprio]
  simpa using hport

end

/-! ### `dram masks` -/

section
variable {cs bg0 bg1 bg2 ba0 ba1 : Nat}

/-- Do the six masks of a `dram masks` line meet R551? -/
def masksOk (cs bg0 bg1 bg2 ba0 ba1 : Nat) : Bool :=
  maskOk 11 cs && maskOk 6 bg0 && maskOk 7 bg1 && maskOk 8 bg2 && maskOk 9 ba0 && maskOk 10 ba1

variable (h : s.runs (Say.dramMasks cs bg0 bg1 bg2 ba0 ba1 us) ln us (changing [.operator] (dramUnits none)) false)
include h

/-- Masks that meet R551 wait for the next reset (R1063). -/
theorem exec_dramMasks_stored (hok : masksOk cs bg0 bg1 bg2 ba0 ba1 = true) {u : State} (hu : u = s.taken ln us) :
    exec (.dramMasks ln cs bg0 bg1 bg2 ba0 ba1 us) s =
      .next (State.done { u with dram := { u.dram with masksNext := some [cs, bg0, bg1, bg2, ba0, ba1] } } ln []
        [("cs", hex0x 8 cs), ("bg0", hex0x 8 bg0), ("bg1", hex0x 8 bg1), ("bg2", hex0x 8 bg2), ("ba0", hex0x 8 ba0), ("ba1", hex0x 8 ba1),
         ("at", "next_reset")]) := by
  subst hu
  refine State.cmd_done h rfl (if_neg ?_)
  change ¬ (!masksOk cs bg0 bg1 bg2 ba0 ba1) = true
  rw [hok]
  decide

theorem exec_dramMasks_refused (hok : masksOk cs bg0 bg1 bg2 ba0 ba1 = false) :
    exec (.dramMasks ln cs bg0 bg1 bg2 ba0 ba1 us) s = .next ((s.taken ln us).refused ln .badArg) := by
  refine State.cmd_refused h rfl (if_pos ?_)
  change (!masksOk cs bg0 bg1 bg2 ba0 ba1) = true
  rw [hok]
  rfl

end

end

end

/-- Settles O18: each form is a row of its verb; the ranges of R1062 and the masks' conditions of R551 decide between its effect and a refusal. -/
theorem dramCommands : Obligations.DramCommands := by
  unfold Obligations.DramCommands
  refine ⟨?shown, ?cfg, ?port, ?masks⟩
  case shown =>
    rintro s u ln us rfl h
    refine ⟨_, State.cmd_ok h rfl rfl, ?_, ?_⟩
    · simp only [List.length_append, List.length_map]
    · simp only [List.map_append, List.map_map]
      rfl
  case cfg =>
    rintro s u v ln ch a us cs rfl h hch hrate hidle hguard hact hshare hcs rfl
    obtain rfl : cs = dramChannels ch := hcs.trans (by cases ch <;> rfl)
    exact exec_dramCfg_inRange h ⟨hch, hrate, hidle, hguard, hact, hshare⟩
  case port =>
    rintro s u v ln port ch target prio us cs rfl h hport hch htarget hprio hcs rfl
    obtain rfl : cs = dramChannels ch := hcs.trans (by cases ch <;> rfl)
    exact exec_dramPort_inRange h hport hch htarget hprio rfl
  case masks =>
    rintro s u ln cs bg0 bg1 bg2 ba0 ba1 us rfl h
    refine ⟨fun hcs hbg0 hbg1 hbg2 hba0 hba1 => exec_dramMasks_stored h ?_ rfl, fun hbad => exec_dramMasks_refused h ?_⟩
    · rw [masksOk, hcs, hbg0, hbg1, hbg2, hba0, hba1]
      rfl
    · simpa only [masksOk, Bool.and_eq_false_iff, or_assoc] using hbad

section
variable {s : State} {ch : Nat}

/-! ### Refresh, idle rows and alerts -/

section
variable (hch : ch < 2)
include hch

section
variable {rank : Nat} (hrank : rank < 3) (hserves : s.drcServes ch = true) (hfit : s.get (rankFld ch rank) ≠ 0)
  (hkept : s.get (rankFld ch rank) ≠ 4)
include hrank hserves hfit hkept

/-- A refresh of a rank that is present and not retired; a page policy that has changed closes every row of the channel (R563, R564). -/
theorem exec_dramRefresh : exec (.dramRefresh ch rank) s = .next (s.setDrc ch { s.drc ch with
    rows := if (s.drc ch).closePage = s.flag (DRC_CFG.PAGE ch) then (s.drc ch).rows.filter (fun o => s.physRank ch o.rank != rank) else []
    closePage := s.flag (DRC_CFG.PAGE ch) }) := by
  refine if_neg ?_
  rintro (h | h | h | h | h)
  · omega
  · omega
  · exact Bool.false_ne_true (h.symm.trans hserves)
  · exact hfit h
  · exact hkept h

end

/-- An open row is closed once IDLE_NS, held between 20 and 5000, has passed since its last access (R563). -/
theorem exec_rowIdleClose {rank bank ns : Nat} {u : State} (hu : u = s.at (ns / 1000)) : exec (.rowIdleClose ch rank bank ns) s =
    .next (u.setDrc ch { u.drc ch with rows := (u.drc ch).rows.filter (fun o =>
      !(o.rank == rank && o.bank == bank && decide (o.last + max 20 (min 5000 (u.get (DRC_PAGE.IDLE_NS ch))) ≤ ns))) }) := by
  subst hu
  exact if_neg (Nat.not_le.2 hch)

section
variable {us : Nat} {u : State} (hu : u = (s.at us).count (DRC_ERR.ALERT ch) 1)
include hu

/-- An alert is counted, and the first gives a notice (R545). -/
theorem exec_dramAlert_first (hnone : (u.drc ch).alertUs = none) : exec (.dramAlert ch us) s =
    .next ((u.setDrc ch { u.drc ch with alertUs := some us }).notify "dram alert" [("ch", dec ch)]) := by
  subst hu
  change execDramAlert ch us s = _
  simp only [execDramAlert, Nat.not_le.2 hch, hnone, Bool.false_eq_true, if_false]

/-- Within a second of the last notice an alert is counted alone (R545). -/
theorem exec_dramAlert_quiet {t : Nat} (hlast : (u.drc ch).alertUs = some t) (hsoon : us < t + 1000000) : exec (.dramAlert ch us) s = .next u := by
  subst hu
  change execDramAlert ch us s = _
  simp only [execDramAlert, Nat.not_le.2 hch, hlast, hsoon, decide_true, if_true, if_false]

end

end

/-! ### Migration and retirement -/

section
variable {m : Migration}

/-- Rank m.src retires and m.dst takes its logical rank number (R573, R576). -/
def State.migrated (s : State) (ch : Nat) (m : Migration) : State :=
  State.setLog (((s.setDrc ch { s.drc ch with migration := none, failing := [] }).set (rankFld ch m.src) 4).set (rankFld ch m.dst) 1)
    ch m.logical m.dst

/-- The remap targets that serve lines of a logical rank are given back: what a target holds goes to the place its line has on the new rank (R576;
assumption log entry 186). -/
def State.remapsGivenBack (s : State) (ch logical : Nat) : State :=
  ((List.range 16).filter (fun i => s.flag (ECC_DREMAP.VALID ch i) &&
    (s.placeOf ch (64 * s.get (ECC_DREMAP.LINE ch i))).rank == logical)).foldl (fun t i =>
    (t.moveLine ch (t.chLines ch - 16 + i) (t.get (ECC_DREMAP.LINE ch i))).setWord (ECC_DREMAP.addr ch i) 0) s

section
variable (hch : ch < 2) (hstays : s.removing = false) (hm : (s.drc ch).migration = some m)
include hch hstays hm

/-- A line of the source that decodes is copied, and the copy pointer goes to the next line of the rank (R574, R575). -/
theorem exec_migrationCopyLine_good {res : LineErrs} {o : Owner} {v : State} {go : Nat} (hserves : s.drcServes ch = true)
    (hmore : m.next < s.chLines ch) (hread : s.decodeLine ch m.next res false = (v, .good))
    (hgo : go = (v.nextLine ch m.logical (m.next + 1)).getD (v.chLines ch)) : exec (.migrationCopyLine ch res o) s =
    .next ((v.setDrc ch { v.drc ch with migration := some { m with next := go } }).set (DRC_SPARE.PROGRESS ch) (v.copyPart ch m.logical go)) := by
  change execMigrationCopyLine ch res o s = _
  simp only [execMigrationCopyLine, Nat.not_le.2 hch, hserves, hstays, hm, Nat.not_le.2 hmore, hread, ← hgo, reduceCtorEq, Bool.true_eq_false,
    Bool.false_eq_true, or_self, false_and, if_false]

/-- With every line copied and no second rank failing, the source retires (R576, R588). -/
theorem exec_migrationDone_all (hall : s.chLines ch ≤ m.next) (hfail : (s.drc ch).failing = []) : exec (.migrationDone ch) s =
    .next (((s.migrated ch m).remapsGivenBack ch m.logical).notify "dram rank retired" (rankKv ch m.src ++ [("spare", "used")])) := by
  change execMigrationDone ch s = _
  simp only [execMigrationDone, Nat.not_le.2 hch, hstays, hm, Nat.not_lt.2 hall, hfail, List.foldl_nil, Bool.false_eq_true, or_self, if_false]
  rfl

end

section
variable (h : (s.drc ch).migration = none ∨ s.removing = true)
include h

/-- No line is copied without a migration, or once the removal ladder has started (R592). -/
theorem exec_migrationCopyLine_none {res : LineErrs} {o : Owner} : exec (.migrationCopyLine ch res o) s = .next s := by
  change execMigrationCopyLine ch res o s = _
  rcases h with h | h <;> simp only [execMigrationCopyLine, h, or_true, if_true, ite_self]

theorem exec_migrationDone_none : exec (.migrationDone ch) s = .next s := by
  change execMigrationDone ch s = _
  rcases h with h | h <;> simp only [execMigrationDone, h, or_true, if_true, ite_self]

end

end

/-- A rank without a spare retires, and the card resets without it (R577). -/
theorem exec_rankShrink_due {r : Nat} (hch : ch < 2) (hreplay : s.flag SYS_BOOTSTAT.REPLAY = false) (hr : (s.drc ch).shrink = some r) :
    exec (.rankShrink ch) s = .next ((((s.setDrc ch { s.drc ch with shrink := none }).set (rankFld ch r) 4).notify "dram rank retired"
      (rankKv ch r ++ [("spare", "none")])).beginReset .warm causeShrink) := by
  change execRankShrink ch s = _
  simp only [execRankShrink, Nat.not_le.2 hch, hreplay, hr, Bool.false_eq_true, or_self, if_false]

/-- No rank is due, or a replay completes first (R593). -/
theorem exec_rankShrink_not (h : s.flag SYS_BOOTSTAT.REPLAY = true ∨ (s.drc ch).shrink = none) : exec (.rankShrink ch) s = .next s := by
  change execRankShrink ch s = _
  rcases h with h | h <;> simp only [execRankShrink, h, or_true, if_true, ite_self]

/-! ### DQS tracking and training patterns -/

/-- One device's move of its write DQS delay: 1 a step up, 2 a step down, else none (R583). -/
def State.dqsMove (s : State) (ch d move : Nat) : State :=
  if move = 1 then s.set (DRC_DQS.DQS_TX ch d) (min 255 (s.get (DRC_DQS.DQS_TX ch d) + 1))
  else if move = 2 then s.set (DRC_DQS.DQS_TX ch d) (s.get (DRC_DQS.DQS_TX ch d) - 1) else s

/-- Each of the five devices makes its own move, in order. -/
theorem exec_dqsTrack {moves : List Nat} (hch : ch < 2) (hserves : s.drcServes ch = true) : exec (.dqsTrack ch moves) s =
    .next ((List.range 5).foldl (fun t d => t.dqsMove ch d (moves.getD d 0)) s) := by
  refine if_neg ?_
  rintro (h | h)
  · omega
  · exact Bool.false_ne_true (h.symm.trans hserves)

/-- A pattern runs where the helpers may be used: its mismatches count bit by bit, and a run that writes empties the channel's lines (R584;
assumption log entry 69). -/
theorem exec_drcTpatStart_runs {rank dir pat : Nat} {got beats : List Nat} {u v : State} (hch : ch < 2) (hfree : s.helpersFree ch = true)
    (hin : s.domIn (29 + 2 * ch) = true) (hu : u = ((s.set (DRC_TPAT.RANK ch) rank).set (DRC_TPAT.DIR ch) dir).set (DRC_TPAT.PAT ch) pat)
    (hbeats : beats = got.take (16 * u.get (DRC_TLEN.LINES ch)))
    (hv : v = (List.range 40).foldl (fun t b => t.count (DRC_TCMP.MISS ch b)
      ((beats.zip (u.trainBits ch pat b beats.length)).filter (fun x => x.1.testBit b != x.2)).length) u) :
    exec (.drcTpatStart ch rank dir pat got) s = .next (if dir = 1 then v.setDrc ch { v.drc ch with lines := [] } else v) := by
  subst hu hbeats hv
  refine congrArg _ (if_neg ?_)
  rw [hfree, hin]
  simpa using hch

theorem exec_drcTpatStart_barred {rank dir pat : Nat} {got : List Nat} (hbarred : s.helpersFree ch = false) :
    exec (.drcTpatStart ch rank dir pat got) s = .next s :=
  congrArg _ (if_pos (.inr (.inl hbarred)))

end

/-- Settles O45: each event acts where its channel serves or its helpers are free, as far as a migration or a retirement has come. -/
theorem dramUpkeep : Obligations.DramUpkeep := by
  unfold Obligations.DramUpkeep
  refine ⟨?refresh, fun s => rfl, fun s u ch rank bank ns hu hch => exec_rowIdleClose hch hu, ?alert, ?copy,
    fun s ch res o h => ⟨exec_migrationCopyLine_none h, exec_migrationDone_none h⟩, ?done,
    fun s ch r hch hreplay hr => exec_rankShrink_due hch hreplay hr, fun s ch h => exec_rankShrink_not h, ?track,
    fun s u v ch rank dir pat got beats hch hfree hin hu hbeats hv => exec_drcTpatStart_runs hch hfree hin hu hbeats hv,
    fun s ch rank dir pat got hbarred => exec_drcTpatStart_barred hbarred⟩
  case refresh =>
    intro s ch rank hch hrank hserves hfit hkept
    rw [exec_dramRefresh hch hrank hserves hfit hkept]
    exact ⟨fun hsame => by rw [if_pos hsame, ← hsame], fun hchanged => by rw [if_neg hchanged]⟩
  case alert =>
    intro s u ch us hu hch
    exact ⟨exec_dramAlert_first hch hu, fun t => exec_dramAlert_quiet hch hu⟩
  case copy =>
    rintro s v ch go res o m e hch hserves hstays hm hmore hread rfl hgo
    exact exec_migrationCopyLine_good hch hstays hm hserves hmore hread hgo
  case done =>
    rintro s v w ch m hch hstays hm hall hfail rfl rfl
    exact exec_migrationDone_all hch hstays hm hall hfail
  case track =>
    intro s ch hch hserves
    rw [exec_dqsTrack hch hserves, exec_dqsTrack hch hserves]
    exact ⟨rfl, rfl⟩

end Sys2Proof.Machine
end

section
/-!
PROOFS. The verb `key` (chapters 11, 16 and 19: R624 to R632, R635, R638, R869, R1000 to R1011).
-/
namespace Sys2Proof.Machine
open Sys2Proof

section
variable {s : State} {c : Say} {ln : Ln} {us : Nat} {f : Form}

/-! ### Commands that name slots -/

section
variable {slots : List Nat} {body : State → State × Result} (h : s.runs c ln us f false) (hf : f.changing = true)
  (hn : (s.taken ln us).isSecondary = false) (htwin : (s.taken ln us).namesTwinKey slots = false)
include h hf hn htwin

theorem State.keyCmd_done {v : State} {d : List (List KV)} {kv : List KV} (hb : body (s.taken ln us) = (v, .ok d kv)) :
    s.keyCmd c ln us f slots body = .next (v.done ln d kv) :=
  State.confCmd_done h hf hn ((if_neg (Bool.eq_false_iff.1 htwin)).trans hb)

theorem State.keyCmd_refused {v : State} {st : Status} (hb : body (s.taken ln us) = (v, .fail st)) :
    s.keyCmd c ln us f slots body = .next (v.refused ln st) :=
  State.confCmd_refused h hf hn ((if_neg (Bool.eq_false_iff.1 htwin)).trans hb)

theorem State.keyCmd_wait {v : State} {w : AwaitFor} (hb : body (s.taken ln us) = (v, .wait w)) :
    s.keyCmd c ln us f slots body = .next (v.waiting ln w) :=
  State.confCmd_wait h hf hn ((if_neg (Bool.eq_false_iff.1 htwin)).trans hb)

end

/-! ### Loads and generations -/

section
variable {slots : List Nat} {body : Bytes → State → State × Result} {t : State} (h : s.runs c ln us f false) (hf : f.changing = true)
  (ht : t = (s.taken ln us).setBlob ln.path []) (hn : t.isSecondary = false) (htwin : t.namesTwinKey slots = false)
include h hf ht hn htwin

theorem State.loadCmd_refused {v : State} {st : Status} (hb : body ((s.taken ln us).session ln.path).blob t = (v, .fail st)) :
    s.loadCmd c ln us f slots body = .next (v.refused ln st) := by
  rw [State.loadCmd_run h ht hn htwin, hb]
  simp only [State.answer, State.settled, State.refused, hf, if_true]

theorem State.loadCmd_wait {v : State} {w : AwaitFor} (hb : body ((s.taken ln us).session ln.path).blob t = (v, .wait w)) :
    s.loadCmd c ln us f slots body = .next (v.waiting ln w) := by
  rw [State.loadCmd_run h ht hn htwin, hb]
  simp only [State.answer, State.waiting, hf, if_true]

end

section
variable {slot kind wrap : Nat} {owner : Option Nat} {blob m : Bytes}

section
variable (hfault : s.arrivalFault slot kind .wrapped (some wrap) owner = none) (hlen : blob.length = kindLen kind + 8)
include hfault hlen

/-- A blob whose initial value agrees is unwrapped and counted; it asks for the update that fills the slot (R626, R635). -/
theorem State.loadWrapped_agrees (hiv : (keyUnwrap (s.slot wrap).material blob).1 = wrapIv kind)
    (hxts : xtsEqual kind (keyUnwrap (s.slot wrap).material blob).2 = false) : s.loadWrapped blob slot kind wrap owner =
    ((s.count KEY_UNWRAP.OK 1).loadSlot slot kind (owner.getD 0) (keyUnwrap (s.slot wrap).material blob).2 [] [], .wait .journal) := by
  simp only [State.loadWrapped, hfault, hlen, hiv, hxts, ne_eq, not_true_eq_false, Bool.false_eq_true, if_false]

theorem State.loadWrapped_differs (hiv : (keyUnwrap (s.slot wrap).material blob).1 ≠ wrapIv kind) :
    s.loadWrapped blob slot kind wrap owner = (s.count KEY_UNWRAP.FAIL 1, .fail .unwrapFail) := by
  simp only [State.loadWrapped, hfault, hlen, hiv, ne_eq, not_true_eq_false, not_false_eq_true, if_false, if_true]

end

theorem State.loadPlain_accepted (hfault : s.arrivalFault slot kind .plain none owner = none) (hlen : blob.length = kindLen kind) :
    s.loadPlain blob slot kind owner = (s.loadSlot slot kind 0 blob [] [], .wait .journal) := by
  simp only [State.loadPlain, hfault, hlen, ne_eq, not_true_eq_false, if_false]

/-- The material of a generation is the card's own; its reply carries it wrapped (R1006). -/
theorem State.genKey_accepted (hfault : s.arrivalFault slot kind .generated (some wrap) owner = none)
    (hm : m = (List.range (kindLen kind)).map (fun i => Config.randomByte s.free i)) (hxts : xtsEqual kind m = false)
    (hblob : blob = keyWrap (s.slot wrap).material (wrapIv kind) m) : s.genKey slot kind wrap owner =
    (s.useFree.loadSlot slot kind (owner.getD 0) m [("bytes", dec blob.length)] (blobLines 0 blob), .wait .journal) := by
  subst hm hblob
  simp only [State.genKey, hfault, hxts, Bool.false_eq_true, if_false]

end

/-! ### Erasure and UPDATE_LOST -/

/-- Key updates are served while FQ0 and FQ8, which hold the journal's copies, are in service (R784). -/
theorem State.journalServes_iff : s.journalServes = true ↔ s.domIn 1 = true ∧ s.domIn 9 = true := by
  rw [State.journalServes, Bool.and_eq_true]

section
variable {slot : Nat} (hslot : slot ≤ 575)
include hslot

theorem State.eraseKey_empty (hk : (s.slot slot).state = .empty) :
    s.eraseKey slot = (s, .ok [] [("slot", keySlotId slot), ("state", "empty"), ("jseq", dec s.keys.jseq)]) := by
  simp only [State.eraseKey, Nat.not_lt.2 hslot, hk, if_false]

/-- A LOADED slot retires; the update that empties it answers the line (R632). -/
theorem State.eraseKey_loaded (hk : (s.slot slot).state = .loaded) (hserves : s.journalServes = true) :
    s.eraseKey slot = (s.retireSlot slot, .wait .journal) := by
  simp only [State.eraseKey, Nat.not_lt.2 hslot, hk, hserves, if_false, if_true]

theorem State.eraseKey_retiring (hk : (s.slot slot).state = .retiring) : s.eraseKey slot = (s, .fail .wrongState) := by
  simp only [State.eraseKey, Nat.not_lt.2 hslot, hk, if_false]

end

/-- The slots that `key show clear` clears: with UPDATE_LOST, and the one it names or all (R1010). -/
def State.lostSlots (s : State) (slot : Option Nat) : List Nat :=
  (s.keys.slots.filter (fun x => x.2.lost && (match slot with | some c => x.1 == c | none => true))).map (·.1)

section
variable {slot : Option Nat}

theorem State.clearLostFlags_none (hnone : s.lostSlots slot = []) :
    s.clearLostFlags slot = (s, .ok [] [("cleared", "0"), ("jseq", dec s.keys.jseq)]) := by
  unfold State.clearLostFlags
  extract_lets hit
  rw [show hit = [] from hnone]

/-- One update clears the flag of every slot found (R638, R1010). -/
theorem State.clearLostFlags_some {c : Nat} {r : List Nat} (hsome : s.lostSlots slot = c :: r) (hserves : s.journalServes = true) :
    s.clearLostFlags slot = (s.startUpdate {
      slot := c, content := none, startUs := s.clk, line := true, clears := s.lostSlots slot,
      kv := [("cleared", dec (s.lostSlots slot).length), ("jseq", "")], data := [] }, .wait .journal) := by
  unfold State.clearLostFlags
  extract_lets hit
  rw [hsome, show hit = c :: r from hsome]
  simp only [hserves, Bool.not_true, Bool.false_eq_true, if_false]

end

end

/-- Settles O13: each form is a row of its verb; its checks decide between a reply, a wait for the journal and a refusal. -/
theorem keyCommands : Obligations.KeyCommands := by
  unfold Obligations.KeyCommands
  refine ⟨?add, ?clear, ?wrapped, ?plain, ?generated, ?erase, ?shown, ?cleared, ?list⟩
  case add =>
    rintro s u ln hex us b rfl h rfl hne hlen
    refine ⟨fun hroom => State.cmd_ok h rfl (if_neg ?_), fun hover => State.cmd_fail h rfl (if_pos (.inr (.inr hover)))⟩
    exact not_or.2 ⟨hne, not_or.2 ⟨Nat.not_lt.2 hlen, Nat.not_lt.2 hroom⟩⟩
  case clear =>
    rintro s u ln us rfl h
    exact State.cmd_ok h rfl rfl
  case wrapped =>
    rintro s u v ln slot kind wrap owner us blob m rfl h hn htwin rfl hv hfault hlen rfl
    exact ⟨fun hiv hxts => State.loadCmd_wait (body := fun b t => t.loadWrapped b slot kind wrap owner) h rfl hv hn htwin
        (State.loadWrapped_agrees hfault hlen hiv hxts),
      fun hiv => State.loadCmd_refused (body := fun b t => t.loadWrapped b slot kind wrap owner) h rfl hv hn htwin
        (State.loadWrapped_differs hfault hlen hiv)⟩
  case plain =>
    rintro s u v ln slot kind owner us blob rfl h hn htwin rfl hv hfault hlen
    exact State.loadCmd_wait (body := fun b t => t.loadPlain b slot kind owner) h rfl hv hn htwin (State.loadPlain_accepted hfault hlen)
  case generated =>
    rintro s u ln slot kind wrap owner us m b rfl h hn htwin hfault hm hxts hb
    exact State.keyCmd_wait h rfl hn htwin (State.genKey_accepted hfault hm hxts hb)
  case erase =>
    rintro s u ln slot us rfl h hn htwin hslot
    refine ⟨fun hk => State.keyCmd_done h rfl hn htwin (State.eraseKey_empty hslot hk), fun hk hfq0 hfq8 => ?_,
      fun hk => State.keyCmd_refused h rfl hn htwin (State.eraseKey_retiring hslot hk)⟩
    refine State.keyCmd_wait h rfl hn htwin ((State.eraseKey_loaded hslot hk (State.journalServes_iff.2 ⟨hfq0, hfq8⟩)).trans ?_)
    simp only [State.retireSlot, hk, if_true]
  case shown =>
    rintro s u ln slot us k rfl h hslot htwin rfl
    exact State.cmd_ok h rfl ((if_neg (Nat.not_lt.2 hslot)).trans (if_neg (Bool.eq_false_iff.1 htwin)))
  case cleared =>
    rintro s u ln slot us hit rfl h hn htwin rfl
    exact ⟨fun hnone => State.keyCmd_done h rfl hn htwin (State.clearLostFlags_none hnone),
      fun c r hsome hfq0 hfq8 => State.keyCmd_wait h rfl hn htwin (State.clearLostFlags_some hsome (State.journalServes_iff.2 ⟨hfq0, hfq8⟩))⟩
  case list =>
    rintro s u ln owner frm us hit rfl h hhit
    refine State.cmd_ok h rfl (congrArg _ ((listReply_map hhit _ keySlotId).trans ?_))
    cases hit[256]? <;> rfl

end Sys2Proof.Machine
end

section
/-!
PROOFS. The verb `cipher` (chapters 11 and 19: R602, R612 to R618, R1012 to R1016).
-/
namespace Sys2Proof.Machine
open Sys2Proof

section
variable {s : State} {slot : Nat} {m hex : Bytes}

/-- Below the limit a GMAC takes the next nonce at once (R613, R614). -/
theorem State.cipherGmac_below (hfault : s.cipherFault slot gmacKinds = none) (hin : s.domIn 38 = true) (hbelow : s.keys.nonce < s.keys.limit) :
    s.cipherGmac slot m = s.gmacReply slot m := by
  simp only [State.cipherGmac, hfault, hin, hbelow, Bool.not_true, Bool.false_eq_true, if_false, if_true]

/-- One block through the raw key of a slot (R618). -/
theorem State.cipherRaw_block (decr : Bool) (hlen : hex.length = 16) (hfault : s.cipherFault slot [7, 8] = none) :
    s.cipherRaw decr slot hex = (s, .ok [] [("hex", hexBytes ((if decr then aesDec else aesEnc) (s.slot slot).material hex))]) := by
  simp only [State.cipherRaw, hlen, hfault, ne_eq, not_true_eq_false, if_false]

theorem State.cipherRaw_length (decr : Bool) (hlen : hex.length ≠ 16) : s.cipherRaw decr slot hex = (s, .fail .badArg) := if_pos hlen

end

/-- Settles O14: each form reads its message and its slot's key, and the checks of R1012 to R1015 decide between a reply and a refusal. -/
theorem cipherCommands : Obligations.CipherCommands := by
  unfold Obligations.CipherCommands
  refine ⟨?shown, ?gmac, ?cmac, ?raw, ?rawLength⟩
  case shown =>
    rintro s u ln us rfl h
    exact State.cmd_ok h rfl rfl
  case gmac =>
    rintro s u ln slot hex us n serial m rfl h hm hfault hin rfl hbelow rfl
    refine State.cmd_ok h rfl ?_
    simp only [hm, State.cipherGmac_below hfault hin hbelow]
    rfl
  case cmac =>
    rintro s u ln slot hex us m rfl h hm hfault hin
    refine State.cmd_ok h rfl ?_
    simp only [hm, hfault, hin, if_true]
  case raw =>
    rintro s u ln slot hex us rfl hlen hfault
    exact ⟨fun h => State.cmd_ok h rfl (State.cipherRaw_block false hlen hfault), fun h => State.cmd_ok h rfl (State.cipherRaw_block true hlen hfault)⟩
  case rawLength =>
    rintro s u ln slot hex us rfl hlen
    exact ⟨fun h => State.cmd_fail h rfl (State.cipherRaw_length false hlen), fun h => State.cmd_fail h rfl (State.cipherRaw_length true hlen)⟩

end Sys2Proof.Machine
end

section
/-!
PROOFS. The key journal and the raw-block core (chapter 11: R618 to R620, R630 to R632, R635, R637, R640, R641, R650, R657).
-/
namespace Sys2Proof.Machine
open Sys2Proof

section
variable {s u : State} {us : Nat}

/-! ### Drains -/

section
variable {c t : Nat}

/-- A drain ends once no command holds a latch of the slot (R632). -/
theorem exec_keyDrainEnd_of_drains (ht : s.keys.drains.lookup c = some t) :
    exec (.keyDrainEnd c) s = if s.latchesOf c = [] then .next (s.drainEnds c) else .next s := by
  change execKeyDrainEnd c s = _
  simp only [execKeyDrainEnd, ht, Option.isSome_some, List.isEmpty_iff, true_and]

/-- A drain that has lasted 2 ms ends with the commands that still hold a latch (R632). -/
theorem exec_keyDrainTimeout_of_drains (hu : u = s.at us) (ht : u.keys.drains.lookup c = some t) : exec (.keyDrainTimeout c us) s =
    if us < t + 2000 then .next u else .next ((((u.latchesOf c).foldl (fun v x => v.abortExec x .keyRetired) u).drainEnds c).deletionsGo) := by
  subst hu
  change execKeyDrainTimeout c us s = _
  simp only [execKeyDrainTimeout, ht]

end

/-! ### Updates -/

/-- The keys as a commit leaves them: the slots switched and the copies swapped; the copy that was active is erased further where it has no room
for one more update (R631, R635, R637, R640). -/
def Keys.committed (k : Keys) (x : KeyUpdate) : Keys :=
  { k.program x 4 true with
    slots := x.slots k.slots, image := imageSlots (x.slots k.slots), jseq := k.jseq + 1, update := none, active := 1 - k.active,
    interrupted := none, erasing := decide ((k.program x 4 true).room.getD k.active 0 < 5) }

/-- The keys of a card whose update has committed, and what a deletion does next (R319, R635). -/
def State.updateCommitted (s : State) (x : KeyUpdate) : State :=
  (State.set { s with keys := s.keys.committed x } KEY_STAT.ACTIVE (1 - s.keys.active)).deletionsGo

section
variable {x : KeyUpdate} (hu : u = s.at us) (hx : u.keys.update = some x)
include hu hx

theorem exec_journalCommit_of_update : exec (.journalCommit us) s =
    .next ((((u.updateCommitted x).tellUpdate x).finishFor .journal (fun t => .ok t x.data
      (x.kv.map (fun e => if e.1 = "jseq" then (e.1, dec (u.keys.jseq + 1)) else e)))).nextUpdate) := by
  subst hu
  change execJournalCommit us s = _
  simp only [execJournalCommit, hx]
  rfl

/-- An update that has not committed after 25 ms fails (R641). -/
theorem exec_journalTimeout_of_update {paged : Bool} : exec (.journalTimeout paged us) s =
    if us < x.startUs + 25000 then .next u else .next ((u.updateFails x paged).nextUpdate).deletionsGo := by
  subst hu
  change execJournalTimeout paged us s = _
  simp only [execJournalTimeout, hx, Option.some_or, Option.isSome_some, Bool.and_true]

end

theorem exec_journalCommit_none (h : s.keys.update = none) : exec (.journalCommit us) s = .next (s.at us) := by
  change execJournalCommit us s = _
  simp only [execJournalCommit, State.at_keys, h]

theorem exec_journalTimeout_none {paged : Bool} (h : s.keys.update = none) (hw : s.keys.waiting = []) :
    exec (.journalTimeout paged us) s = .next (s.at us) := by
  change execJournalTimeout paged us s = _
  simp only [execJournalTimeout, State.at_keys, h, hw, List.find?_nil, Option.or_none]

/-! ### The raw-block core -/

section
variable {core c : Nat} {p1 : Bool} {k : KeySlot}

/-- A raw key that a core at a privilege may name: T0 at P0 any, T1 at P1 one that P000 owns (R619, R620). -/
structure KeySlot.RawFor (k : KeySlot) (core : Nat) (p1 : Bool) : Prop where
  raw : k.kind = 7 ∨ k.kind = 8
  loaded : k.state = .loaded
  named : (core = 0 ∧ p1 = false) ∨ (core = 1 ∧ p1 = true ∧ k.owner = 0)

/-- The core's KEY_RB with a request of slot c and a direction in it. -/
def State.rbAsked (s : State) (core c : Nat) (decr : Bool) : State := (s.setOn core KEY_RBCTL.SLOT c).setOn core KEY_RBCTL.DIR (if decr then 1 else 0)

/-- A request ends: ERR says whether it was refused, and START is 0 (R620). -/
def State.rbEnds (s : State) (core err : Nat) : State := (s.setOn core KEY_RBCTL.ERR err).setOn core KEY_RBCTL.START 0

theorem State.rawBlock_of_rawFor (decr : Bool) (hk : s.keys.slots.lookup c = some k) (hraw : k.RawFor core p1) : s.rawBlock core p1 decr c =
    ((s.rbAsked core c decr).rbOutput core ((if decr then aesDec else aesEnc) k.material ((s.rbAsked core c decr).rbInput core))).rbEnds core 0 := by
  simp only [State.rawBlock, State.setOn_keys, hk]
  exact if_pos ⟨hraw.raw, hraw.loaded, hraw.named⟩

theorem State.rawBlock_refused (decr : Bool) (hno : ∀ k, s.keys.slots.lookup c = some k → ¬ k.RawFor core p1) :
    s.rawBlock core p1 decr c = (s.rbAsked core c decr).rbEnds core 1 := by
  simp only [State.rawBlock, State.setOn_keys]
  split
  · next k hk => exact if_neg fun ⟨hraw, hloaded, hnamed⟩ => hno k hk ⟨hraw, hloaded, hnamed⟩
  · rfl

section
variable (hcore : core < 2) (hin : s.domIn 37 = true)
include hcore hin

theorem exec_keyRbEncrypt_in : exec (.keyRbEncrypt core p1 c) s = .next (s.rawBlock core p1 false c) := if_pos ⟨hcore, hin⟩

theorem exec_keyRbDecrypt_in : exec (.keyRbDecrypt core p1 c) s = .next (s.rawBlock core p1 true c) := if_pos ⟨hcore, hin⟩

end

end

end

/-- Settles O47: each event acts on what the journal or the raw-block core holds, at the times of R632 and R641. -/
theorem keyEvents : Obligations.KeyEvents := by
  unfold Obligations.KeyEvents
  refine ⟨?drainEnd, ?drainTimeout, ?program, ?commit, ?timeout, ?idle, ?erase, ?raw, ?refused, ?off⟩
  case drainEnd =>
    intro s c t ht
    rw [exec_keyDrainEnd_of_drains ht]
    exact ⟨fun hfree => if_pos hfree, fun hheld => if_neg hheld⟩
  case drainTimeout =>
    intro s u c us t hu ht
    rw [exec_keyDrainTimeout_of_drains hu ht]
    exact ⟨fun hearly => if_pos hearly, fun hdue => if_neg (Nat.not_lt.2 hdue)⟩
  case program =>
    intro k x n commit
    exact ⟨rfl, rfl, rfl, _, rfl, rfl, rfl, rfl, rfl⟩
  case commit =>
    rintro s u v us a k slots y hu hk rfl rfl rfl rfl
    exact exec_journalCommit_of_update hu hk
  case timeout =>
    intro s u us p k hu hk
    rw [exec_journalTimeout_of_update hu hk]
    exact ⟨fun hearly => if_pos hearly, fun hdue => if_neg (Nat.not_lt.2 hdue)⟩
  case idle =>
    intro s us p h hw
    exact ⟨exec_journalCommit_none h, exec_journalTimeout_none h hw⟩
  case erase =>
    rintro s u us c n rfl rfl rfl
    exact ⟨fun herase => ⟨_, rfl, if_pos herase⟩, fun hidle => if_neg (Bool.eq_false_iff.1 hidle)⟩
  case raw =>
    intro s u core c p1 k hcore hin hk hraw hloaded hnamed
    rw [exec_keyRbEncrypt_in hcore hin, exec_keyRbDecrypt_in hcore hin, State.rawBlock_of_rawFor false hk ⟨hraw, hloaded, hnamed⟩,
      State.rawBlock_of_rawFor true hk ⟨hraw, hloaded, hnamed⟩]
    refine ⟨?_, ?_⟩ <;> rintro rfl <;> rfl
  case refused =>
    rintro s u core c p1 hcore hin rfl hno
    rw [exec_keyRbEncrypt_in hcore hin, State.rawBlock_refused false]
    · rfl
    · rintro k hk ⟨-, -, hnamed⟩
      rcases hno with hnone | ⟨rfl, rfl⟩
      · exact nomatch hnone.symm.trans hk
      · rcases hnamed with ⟨h, -⟩ | ⟨-, h, -⟩ <;> cases h
  case off =>
    intro s core c p1 hoff
    exact ⟨if_neg fun h => Bool.eq_false_iff.1 hoff h.2, if_neg fun h => Bool.eq_false_iff.1 hoff h.2⟩

end Sys2Proof.Machine
end

section
/-!
PROOFS. The verb `lining` (chapters 13 and 20: R707 to R709, R715, R732, R743, R1053 to R1057).
-/
namespace Sys2Proof.Machine
open Sys2Proof

section
variable {s : State} {ln : Ln} {us : Nat}

/-! ### A command that goes on as a job, and one that is refused before it acts -/

section
variable {c : Say} {f : Form} (h : s.runs c ln us f false) (hf : f.changing = true)
include h hf

/-- A changing command that goes on as a job: its reply names the job, which holds the configuration lock (R161, R175). -/
theorem State.cmd_jobbed {body : State → State × Result} {v : State} {what : String} (hb : body (s.taken ln us) = (v, .job what)) :
    s.cmd c ln us f body = .next (v.jobbed ln what) := by
  simp only [State.cmd_run h, hb, State.answer, hf, if_true, State.jobbed]

theorem State.cmdThen_refused {check : State → Option Status} {after : State → State} {st : Status} (hc : check (s.taken ln us) = some st) :
    s.cmdThen c ln us f check after = .next ((s.taken ln us).refused ln st) := by
  obtain ⟨⟨hripe, hgood, hgate⟩, hsays⟩ := h
  simp only [State.taken] at hgate hc
  simp only [State.cmdThen, State.runThen, hripe, hgood, hgate, hsays, hc, State.answer, State.taken, State.settled, State.refused, hf, Bool.not_true,
    Bool.and_self, Bool.false_eq_true, if_false, if_true]

end

/-! ### `lining cfg` -/

/-- Is every setting that `lining cfg` names in its range (R1053, Tables LIN-3 and LIN-8)? -/
structure LiningInRange (a : LiningAttrs) : Prop where
  desc : descInRange a.esrMax a.float a.ilim a.slotW = true
  eta : within a.eta 500 980 = true
  kder : within a.kder 500 1000 = true
  efix : within a.efix 10 1000 = true
  cap : within a.cap 1 16 = true
  floorW : within a.floorW 0 48 = true

theorem exec_liningCfg_inRange {a : LiningAttrs} (h : s.runs (Say.liningCfg a us) ln us (changing [.operator] []) false) (ha : LiningInRange a) :
    exec (.liningCfg ln a us) s = .next (((s.taken ln us).configLining a).done ln [] ((s.taken ln us).configLining a).liningKv) := by
  obtain ⟨hdesc, heta, hkder, hefix, hcap, hfloor⟩ := ha
  refine State.cmd_done h rfl (if_neg ?_)
  rw [hdesc, heta, hkder, hefix, hcap, hfloor]
  decide

/-! ### `lining desc` -/

/-- The descriptor with the first `n` of the fields that a `lining desc` names (R707). -/
def State.descProgrammed (s : State) (a : DescAttrs) (n : Nat) : State := s.setLin { s.lin with desc := s.lin.desc.program a n }

section
variable {a : DescAttrs} (hlife : (s.taken ln us).get LCS_STATE.STATE = 1) (hnom : within a.nom 1000 6000 = true)
  (hrange : descInRange a.esrMax a.float a.ilim a.slotW = true) (hblank : (s.taken ln us).lin.desc.taken a = false)
include hlife hnom hrange hblank

/-- In its state of life, with every value in its range and every field blank, the line programs the descriptor. -/
theorem liningDesc_guards_pass {α : Type} {r1 r2 r3 r4 : α} :
    (if (s.taken ln us).get LCS_STATE.STATE ≠ 1 then r1
      else if !within a.nom 1000 6000 || !descInRange a.esrMax a.float a.ilim a.slotW then r2
      else if (s.taken ln us).lin.desc.taken a then r3 else r4) = r4 := by
  simp only [hlife, hnom, hrange, hblank, ne_eq, not_true_eq_false, Bool.not_true, Bool.or_self, Bool.false_eq_true, if_false]

/-- Every field that the line names verifies (R1057). -/
theorem exec_liningDesc_verified (h : s.runs (Say.liningDesc a none us) ln us (changing [.operator] []) false) : exec (.liningDesc ln a none us) s =
    .next (((s.taken ln us).descProgrammed a 5).done ln [] ((s.taken ln us).lin.desc.program a 5).kv) :=
  State.cmd_done h rfl (liningDesc_guards_pass hlife hnom hrange hblank)

/-- A field fails its verification, and the fields before it stand (R1057; assumption log entry 120). -/
theorem exec_liningDesc_failed {bad : Nat} (h : s.runs (Say.liningDesc a (some bad) us) ln us (changing [.operator] []) false) :
    exec (.liningDesc ln a (some bad) us) s = .next (((s.taken ln us).descProgrammed a bad).refused ln .timeout) :=
  State.cmd_refused h rfl (liningDesc_guards_pass hlife hnom hrange hblank)

end

end

/-- Settles O20: each form is a row of its verb; the ranges, the charge state and the state of life decide between its effect and a refusal. -/
theorem liningCommands : Obligations.LiningCommands := by
  unfold Obligations.LiningCommands
  refine ⟨?shown, ?cfg, ?probe, ?drill, ?desc, ?descRefused⟩
  case shown =>
    rintro s u ln us rfl h
    exact State.cmd_ok h rfl rfl
  case cfg =>
    rintro s u v ln a us rfl h hdesc heta hkder hefix hcap hfloor rfl
    exact exec_liningCfg_inRange h ⟨hdesc, heta, hkder, hefix, hcap, hfloor⟩
  case probe =>
    rintro s u ln us rfl h
    exact ⟨fun hst => State.cmd_jobbed h rfl (if_pos hst), fun hcv hfloat => State.cmd_refused h rfl (if_neg (not_or.2 ⟨hcv, hfloat⟩))⟩
  case drill =>
    rintro s u ln us rfl h
    exact ⟨fun hst => State.cmdThen_done h rfl (if_pos hst),
      fun h0 h1 h3 => State.cmdThen_refused h rfl (if_neg (not_or.2 ⟨h0, not_or.2 ⟨h1, h3⟩⟩))⟩
  case desc =>
    rintro s u ln a us d rfl hlife hnom hrange hblank
    refine ⟨?_, fun bad => ?_⟩
    · rintro rfl h
      exact exec_liningDesc_verified hlife hnom hrange hblank h
    · rintro rfl h
      exact exec_liningDesc_failed hlife hnom hrange hblank h
  case descRefused =>
    rintro s u ln a bad us rfl h hlife
    exact State.cmd_refused h rfl (if_pos hlife)

end Sys2Proof.Machine
end

section
/-!
PROOFS. Samples, charging, probes, faults and the budget of the Lining (chapters 13 and 15: R704 to R706, R708 to R717, R721 to R728, R751, R824, R1175,
Table LIN-4).
-/
namespace Sys2Proof.Machine
open Sys2Proof

section
variable {s u : State} {us : Nat}

theorem State.linRuns_at (s : State) (us : Nat) : (s.at us).linRuns = s.linRuns := by
  simp only [State.linRuns, State.at_boot]

/-! ### Samples -/

/-- A sample of a floating bank at −20.0 °C or above: no limit of the charging states acts, and V_oc, the window and the faults follow (R704 to R706,
R710, R715). -/
theorem exec_liningSample_float {v w : State} {mv h : Nat} {i t : Int} (hu : u = s.at us) (hruns : u.linRuns = true) (hwarm : -200 ≤ t)
    (hv : v = u.setLin { u.lin with vocs := u.lin.vocs.filter (fun x => decide (us < x.1 + 1000)) ++
      [(us, (10000 * mv : Nat) - i * (if u.lin.esrUs.isSome then (u.get LIN_ESR.EST : Int) else 0))] })
    (hw : w = ((v.set LIN_VI.I_MA (signed16 i)).setSat LIN_VI.VOC_MV v.vocMv).set LIN_TEMP.T_DC (signed16 t))
    (hfloat : w.get LIN_STAT.STATE = 4) : exec (.liningSample mv i t h us) s = .next (((w.setLin { w.lin with
      targetMa := min w.iLim h
      weakUs := if 100 ≤ i.natAbs ∨ 5000000 ≤ w.voc then us else w.lin.weakUs
      lowUs := none }).windowRuns i us).linMoves false |>.sampleFaults mv i t) := by
  have hcold : decide (t < -200) = false := decide_eq_false (Int.not_lt.2 hwarm)
  have hcharging : ¬ (w.get LIN_STAT.STATE = 1 ∨ w.get LIN_STAT.STATE = 2) := by rw [hfloat]; decide
  have hcv : ¬ w.get LIN_STAT.STATE = 3 := by rw [hfloat]; decide
  change execLiningSample mv i t h us s = _
  simp only [execLiningSample, ← hu, hruns, ← hv, ← hw, hcold, hcharging, hcv, false_and, Bool.not_true, Bool.false_eq_true, if_false]

/-! ### FLOAT -/

section
variable {t : Nat} (hu : u = s.at us) (hcv : u.get LIN_STAT.STATE = 3) (hlow : u.lin.lowUs = some t)
include hu hcv hlow

/-- The current has been low for less than 1 s (Table LIN-4). -/
theorem exec_chargeFloatEntry_early (hearly : us < t + 1000000) : exec (.chargeFloatEntry us) s = .next u := by
  change execChargeFloatEntry us s = _
  simp only [execChargeFloatEntry, ← hu, hcv, hlow, hearly, if_true]

/-- The current has been low for 1 s: the bank floats, and the first time after power-on a notice says so (Table LIN-4). -/
theorem exec_chargeFloatEntry_due (hdue : t + 1000000 ≤ us) : exec (.chargeFloatEntry us) s =
    if (u.linStop 4).flag LIN_STAT.CHARGED then .next (u.linStop 4)
    else .next (((u.linStop 4).set LIN_STAT.CHARGED 1).notify "lining charged" [("s", dec (roundDiv (us - (u.linStop 4).boot.onUs) 1000000))]) := by
  change execChargeFloatEntry us s = _
  simp only [execChargeFloatEntry, ← hu, hcv, hlow, Nat.not_lt.2 hdue, if_false]

end

/-! ### Probes -/

section
variable {w : CapWin} (hu : u = s.at us) (hprobe : u.get LIN_STAT.STATE = 5) (hw : u.lin.win = some w)
include hu hprobe hw

/-- V_oc has fallen by less than 200 mV (R715). -/
theorem exec_probeDone_early (hearly : (w.startV - u.voc).toNat < 2000000) : exec (.probeDone us) s = .next u := by
  change execProbeDone us s = _
  simp only [execProbeDone, ← hu, hprobe, hw, hearly, if_true]

/-- V_oc has fallen by 200 mV: the estimate is judged, the probe ends, and the bank is charged again (R715, R717). -/
theorem exec_probeDone_due {v : State} {ok : Bool} (hdue : 2000000 ≤ (w.startV - u.voc).toNat)
    (htake : u.takeCap (w.charge / (w.startV - u.voc).toNat) = (v, ok)) (hstays : v.get LIN_STAT.STATE = 5) :
    exec (.probeDone us) s = .next ((v.probeEnds ok).linRamp) := by
  change execProbeDone us s = _
  simp only [execProbeDone, ← hu, hprobe, hw, Nat.not_lt.2 hdue, htake, hstays, ne_eq, not_true_eq_false, if_false]

end

/-! ### Faults -/

theorem State.enterFault_not_woken (h : (s.linStop 7).flag PWR_WAKEEN.LINING = false) : s.enterFault = s.linStop 7 := if_neg (Bool.eq_false_iff.1 h)

/-- A stopping fault that has been absent for 10 s leads back to the ramp, on a bank that is present, at 60 °C or below, and to be charged
(Table LIN-4, R1175). -/
theorem exec_liningFaultRetry_due (hu : u = s.at us) (hfault : u.get LIN_STAT.STATE = 7) (hpresent : u.flag LIN_STAT.ABSENT = false)
    (hdue : u.lin.faultUs + 10000000 ≤ us) (hcool : u.bankT ≤ 600) (hchg : u.flag LIN_CFG.CHG_EN = true) :
    exec (.liningFaultRetry us) s = .next u.linRamp := by
  change execLiningFaultRetry us s = _
  simp only [execLiningFaultRetry, ← hu, hfault, hpresent, Nat.not_lt.2 hdue, Int.not_lt.2 hcool, hchg, ne_eq, not_true_eq_false, Bool.false_eq_true,
    or_self, if_false, if_true]

/-- The converter's fault is judged while it switches, at 0.5 V or above in any charge state (R1175). -/
theorem exec_converterFault_judged (hu : u = s.at us) (hen : u.lin.en = true) (hv : 5000000 ≤ u.voc) :
    exec (.converterFault us) s = .next (u.linFault 6) := by
  change execConverterFault us s = _
  simp only [execConverterFault, ← hu, hen, Int.not_lt.2 hv, Bool.true_eq_false, and_false, or_self, if_false]

/-! ### A write of LIN_CFG -/

theorem State.writeLinCfg_ignored {word : BitVec 32} (h : s.get LIN_STAT.STATE = 6 ∨ s.removing = true) : s.writeLinCfg word = s := if_pos h

/-- In OFF the fields are kept, held to the descriptor's, and CHG_EN starts the controller (R708, R709, Table LIN-4). -/
theorem State.writeLinCfg_off {v : State} {word : BitVec 32} (hoff : s.get LIN_STAT.STATE = 0) (hstays : s.removing = false)
    (hruns : s.linRuns = true)
    (hv : v = (((s.setWord LIN_CFG.addr (word &&& 0xF3FF3FFF#32)).set LIN_CFG.FLOAT (min s.lin.desc.floatV (clamp 420 540 (LIN_CFG.FLOAT.of word)))).set
      LIN_CFG.ILIM (min s.lin.desc.ilimV (LIN_CFG.ILIM.of word))).set LIN_CFG.SLOT_W (min s.lin.desc.slotV (clamp 20 150 (LIN_CFG.SLOT_W.of word)))) :
    s.writeLinCfg word = if v.flag LIN_CFG.CHG_EN then v.linRamp else v := by
  have hvruns : v.linRuns = true := by rw [hv]; exact hruns
  have hacts : ¬ (s.get LIN_STAT.STATE = 6 ∨ s.removing = true) := by rw [hoff, hstays]; decide
  refine (if_neg hacts).trans ?_
  simp only [← hv, hvruns, hoff, and_self, true_or, if_true]

/-! ### The budget -/

/-- With fewer than eight episodes kept, one more of at least 256 MiB joins them and none is dropped (R725, R726). -/
theorem exec_ebSample_kept {b e d : Nat} {l : List Nat} (hb : 268435456 ≤ b) (hruns : s.linRuns = true) (hlen : s.lin.ebs.length < 8)
    (hl : l = s.lin.ebs ++ [(e - min 48 (s.get LIN_EB.FLOOR_W) * d) * 1000000 / b]) : exec (.ebSample b e d) s =
      .next (((s.setLin { s.lin with ebs := l }).set LIN_EB.SAMPLES l.length).set LIN_EB.PJ (clamp 4000 20000 (l.foldl max 0))) := by
  have hall : l.length - 8 = 0 := by rw [hl, List.length_append, List.length_singleton]; omega
  change execEbSample b e d s = _
  simp only [execEbSample, ← hl, hall, List.drop_zero, hruns, Nat.not_lt.2 hb, Bool.true_eq_false, or_self, if_false]

/-! ### The write-through notice -/

/-- 10 s after the last notice the condition is looked at again, and what has changed is reported (R728). -/
theorem exec_throughNotice_of_noticed {t : Nat} (hu : u = s.at us) (ht : u.lin.thruUs = some t) : exec (.throughNotice us) s =
    if us < t + 10000000 then .next u
    else if u.lin.thru = u.lin.thruSaid then .next (u.setLin { u.lin with thruUs := none })
    else .next ((u.setLin { u.lin with thruSaid := u.lin.thru, thruUs := some us }).notify
      (if u.lin.thru then "lining through on" else "lining through off") []) := by
  change execThroughNotice us s = _
  simp only [execThroughNotice, ← hu, ht]

end

/-- Settles O48: each event is a choice on the charge state, on what the Lining holds, and on the times of Table LIN-4. -/
theorem liningEvents : Obligations.LiningEvents := by
  unfold Obligations.LiningEvents
  refine ⟨?unreleased, fun s u v w mv us h i t hu hruns hwarm hv hw hfloat => exec_liningSample_float hu hruns hwarm hv hw hfloat, ?ramp, ?float,
    ?refresh, ?esr, ?probe, ?retry, ?absent, fun s => State.enterFault_not_woken, ?faults, ?converter, ?cfg, ?probeStart,
    fun s b e d hsmall => if_pos (.inl hsmall), fun s b e d l hb hruns hlen hl => exec_ebSample_kept hb hruns hlen hl, ?through⟩
  case unreleased =>
    intro s v us i t h haon
    have hruns : ¬ (s.at us).linRuns = true := by rw [State.linRuns_at]; exact Bool.eq_false_iff.1 haon
    exact ⟨if_pos (by rw [Bool.eq_false_iff.2 hruns]; rfl), if_neg hruns, if_neg hruns, if_neg fun h => hruns h.1, if_neg hruns⟩
  case ramp =>
    rintro s u us rfl hsoft
    exact ⟨fun hdue => if_pos ⟨hsoft, hdue⟩, fun hearly => if_neg fun h => Nat.not_le.2 hearly h.2⟩
  case float =>
    rintro s u v us t hu hcv hlow rfl
    refine ⟨exec_chargeFloatEntry_early hu hcv hlow, fun hdue hagain => ?_, fun hdue hfirst => ?_⟩
    · exact (exec_chargeFloatEntry_due hu hcv hlow hdue).trans (if_pos hagain)
    · exact (exec_chargeFloatEntry_due hu hcv hlow hdue).trans (if_neg (Bool.eq_false_iff.1 hfirst))
  case refresh =>
    rintro s u us rfl
    exact ⟨fun hdue hst => if_pos ⟨hdue, hst⟩, fun hfresh => if_neg fun h => Bool.eq_false_iff.1 hfresh h.1⟩
  case esr =>
    rintro s u dv di us rfl
    refine ⟨fun hstep hst => if_pos ⟨hstep, ?_⟩, fun hsmall => if_neg fun h => Nat.not_le.2 hsmall h.1⟩
    exact hst.imp_right .inr
  case probe =>
    intro s u us w hu hprobe hw
    exact ⟨exec_probeDone_early hu hprobe hw, fun v ok hdue htake hstays => exec_probeDone_due hu hprobe hw hdue htake hstays⟩
  case retry =>
    intro s u us hu hfault hpresent
    refine ⟨exec_liningFaultRetry_due hu hfault hpresent, fun hearly => ?_⟩
    subst hu
    exact if_pos (.inr (.inr (.inl hearly)))
  case absent =>
    rintro s u us rfl hst hweak
    exact if_pos ⟨hst, hweak⟩
  case faults =>
    rintro s u us rfl hruns
    exact ⟨fun hbuck => if_pos ⟨hruns, hbuck⟩, fun hboost => if_neg fun h => Bool.eq_false_iff.1 h.2 hboost, if_pos hruns, if_pos hruns, if_pos hruns⟩
  case converter =>
    intro s u us hu
    refine ⟨fun hoff => ?_, exec_converterFault_judged hu⟩
    subst hu
    exact if_pos (.inl hoff)
  case cfg =>
    intro s v word
    exact ⟨rfl, fun h => congrArg _ (State.writeLinCfg_ignored h),
      fun hoff hstays hruns hv => congrArg _ (State.writeLinCfg_off hoff hstays hruns hv)⟩
  case probeStart =>
    intro s
    refine ⟨rfl, fun hst => if_pos ⟨rfl, hst⟩, fun hcc => if_neg fun h => ?_⟩
    rw [hcc] at h
    exact absurd h.2 (by decide)
  case through =>
    intro s u us t hu ht
    rw [exec_throughNotice_of_noticed hu ht]
    refine ⟨fun hearly => if_pos hearly, fun hdue hsame => ?_, fun hdue hon hunsaid => ?_⟩
    · exact (if_neg (Nat.not_lt.2 hdue)).trans (if_pos hsame)
    · rw [if_neg (Nat.not_lt.2 hdue), hon, hunsaid]
      rfl

end Sys2Proof.Machine
end

section
/-!
PROOFS. The canonical form of the register file through every step (chapter 21: R1124).
-/
namespace Sys2Proof.Machine
open Sys2Proof

theorem exec_canonical {i : Instr} {s t : State} (hs : s.canonical = true) (h : exec i s = .next t) : t.canonical = true :=
  ((exec_keeps ⟨hs, rfl⟩ i).wf t h).1

/-- Settles O4: each command keeps the canonical form, and taking it off the queue touches no register. -/
theorem stepKeepsCanonical : Obligations.StepKeepsCanonical := by
  unfold Obligations.StepKeepsCanonical
  intro s t hs h
  cases hq : s.pending with
  | nil =>
    rw [step_nil hq] at h
    cases h
    exact hs
  | cons c rest =>
    rw [step_cons hq] at h
    exact exec_canonical (s := { s with pending := rest }) hs h

end Sys2Proof.Machine
end

section
/-!
PROOFS. A core's load or store of a register (chapters 11, 12, 14 and 21: R657, R658, R663, R667, R770, R1118 to R1121).
-/
namespace Sys2Proof.Machine
open Sys2Proof

section
variable {s u : State} {c a b ep us : Nat} {p1 : Bool} (w : BitVec 32) (ms : List Nat)

/-! ### A core that does not run -/

/-- No access comes from a core that is not there, is not in service, or is T0 at P1 (R658, R667). -/
def State.coreIdle (s : State) (c : Nat) (p1 : Bool) : Prop := 2 ≤ c ∨ (p1 = true ∧ c = 0) ∨ s.domIn (49 + c) = false

theorem State.not_coreIdle (hc : c < 2) (hp : p1 = false ∨ c = 1) (hd : s.domIn (49 + c) = true) : ¬ s.coreIdle c p1 := by
  rintro (h | ⟨h, h0⟩ | h)
  · omega
  · rcases hp with hp | hp
    · exact Bool.false_ne_true (hp.symm.trans h)
    · omega
  · exact Bool.false_ne_true (h.symm.trans hd)

theorem exec_registerWrite_idle (hu : u = s.at us) (h : u.coreIdle c p1) :
    exec (.registerWrite c a b p1 ep w none ms us) s = .next u := by
  subst hu
  exact if_pos h

theorem exec_registerReadClear_idle (hu : u = s.at us) (h : u.coreIdle c p1) : exec (.registerReadClear c a b p1 ep us) s = .next u := by
  subst hu
  exact if_pos h

/-! ### A core that runs -/

section
variable (hu : u = s.at us) (h : ¬ u.coreIdle c p1)
include hu h

/-- What a store of one core alone does, check by check (R663, R770, R1118 to R1121). -/
theorem exec_registerWrite_runs : exec (.registerWrite c a b p1 ep w none ms us) s =
    if u.coreRefused c p1 1 a then .next (u.mpuFault c p1 1 a)
    else if inRegSpace a = false then .next (u.areaStore c p1 a (leBytes (min 4 b) w.toNat))
    else if servedShape a b = false then .next u
    else if u.regDark a then .next (u.busError a)
    else if u.staleFor a ep then .next u.staleAnswer
    else .next (u.regWrite c a p1 w ms us) := by
  subst hu
  exact if_neg h

/-- What a load does, check by check (R663, R770, R1118 to R1121). -/
theorem exec_registerReadClear_runs : exec (.registerReadClear c a b p1 ep us) s =
    if u.coreRefused c p1 0 a then .next (u.mpuFault c p1 0 a)
    else if inRegSpace a = false then .next (u.areaLoad c p1 a b)
    else if servedShape a b = false then .next (u.took 0)
    else if u.regDark a then .next ((u.busError a).took 0)
    else if u.staleFor a ep then .next u.staleAnswer
    else .next ((u.readClear c a).took (u.readWord c a).toNat) := by
  subst hu
  exact if_neg h

end

/-- An access of another width, or off a word's boundary, has no served shape (R1118). -/
theorem servedShape_of_odd (h : b ≠ 4 ∨ a % 4 ≠ 0) : servedShape a b = false := by
  rw [servedShape, Bool.and_eq_false_iff, Bool.and_eq_false_iff, beq_eq_false_iff_ne, beq_eq_false_iff_ne]
  exact .inl h

end

/-- The checks after the MPU's: register space, the shape of the access, the domain of the register and its epoch (R770, R1118 to R1121). -/
theorem access_checks {α : Type} {u : State} {a b ep : Nat} {elsewhere odd dark stale served x : α}
    (hx : x = if inRegSpace a = false then elsewhere else if servedShape a b = false then odd else if u.regDark a then dark
      else if u.staleFor a ep then stale else served) :
    (inRegSpace a = false → x = elsewhere) ∧ (inRegSpace a = true → b ≠ 4 ∨ a % 4 ≠ 0 → x = odd) ∧
      (servedShape a b = true → u.regDark a = true → x = dark) ∧
      (servedShape a b = true → u.regDark a = false → u.staleFor a ep = true → x = stale) ∧
      (servedShape a b = true → u.regDark a = false → u.staleFor a ep = false → x = served) := by
  subst hx
  refine ⟨fun hspace => if_pos hspace, fun hspace hodd => ?_, fun hs hd => ?_, fun hs hd he => ?_, fun hs hd he => ?_⟩
  · simp only [hspace, servedShape_of_odd hodd, Bool.true_eq_false, if_false, if_true]
  all_goals simp only [inRegSpace_of_servedShape hs, hs, hd, Bool.true_eq_false, Bool.false_eq_true, if_false, if_true]
  · simp only [he, if_true]
  · simp only [he, Bool.false_eq_true, if_false]

/-! ### The write of a register -/

section
variable {s : State} {c a us : Nat} {p1 : Bool} {w : BitVec 32} {ms : List Nat}

theorem State.regWrite_ignored (hp : p1 = true) (h : ignoresP1 a = true) : s.regWrite c a p1 w ms us = s := if_pos ⟨hp, h⟩

/-- The registers outside whole blocks of their own whose write does more than store its fields. -/
def effectRegs : List Nat :=
  [SYS_RSTCTL.addr, SYS_WDOG.addr, SYS_COLCFG.BAUD_DIV.addr, SEAM_CFG.addr, CCH_CFG.addr, ECC_STR.addr, ECC_INJ.addr, BIST_CTL.addr, LCS_CTL.addr,
   DRC_TPAT.addr 0, DRC_TPAT.addr 1]

/-- Of the blocks of the Sleeve link, the Pockets and the queues only SLV_CTL has a write with an effect. -/
theorem effectRegs_blocks : ∀ r ∈ effectRegs, r / 0x10000 ≠ 0x4004 ∧ r / 0x10000 ≠ 0x4006 ∧ r / 0x10000 ≠ 0x4007 := by decide

section
variable (hb : a / 0x10000 = 0x4004 ∨ a / 0x10000 = 0x4006 ∨ a / 0x10000 = 0x4007)
include hb

/-- Those three are none of the blocks whose registers have writes of their own kind. -/
theorem plainBlocks_apart : ¬ (0x4001 ≤ a / 0x10000 ∧ a / 0x10000 ≤ 0x4003) ∧ ¬ (a / 0x10000 = 0x4009 ∨ a / 0x10000 = 0x400C ∨ a / 0x10000 = 0x400D) ∧
    ¬ a / 0x10000 = 0x400B ∧ ¬ (a / 0x10000 = 0x4011 ∨ a / 0x10000 = 0x4012) := by
  omega

theorem ne_effectReg : ∀ r ∈ effectRegs, ¬ a = r := by
  rintro r hr rfl
  obtain ⟨h4, h6, h7⟩ := effectRegs_blocks a hr
  rcases hb with hb | hb | hb
  · exact h4 hb
  · exact h6 hb
  · exact h7 hb

theorem State.regWrite_plain (hp : p1 = false) (hs : a ≠ SLV_CTL.addr) : s.regWrite c a p1 w ms us = s.plainWrite c a w := by
  obtain ⟨hpower, hbank, hmpu, hdram⟩ := plainBlocks_apart hb
  have hne := ne_effectReg hb
  simp only [effectRegs, List.forall_mem_cons, List.not_mem_nil, false_imp_iff, implies_true, and_true] at hne
  obtain ⟨h1, h2, h3, h4, h5, h6, h7, h8, h9, h10, h11⟩ := hne
  simp only [State.regWrite, State.unitWrite, h1, h2, h3, h4, h5, h6, h7, h8, h9, h10, h11, hs, hpower, hbank, hmpu, hdram, hp, Bool.false_eq_true,
    false_and, or_self, if_false]

end

end

/-- Settles O60: the checks of a load or a store stand in one order, and what passes them all is served. -/
theorem registerAccess : Obligations.RegisterAccess := by
  unfold Obligations.RegisterAccess
  refine ⟨fun s u c a b ep us p1 w ms hu h => ⟨exec_registerWrite_idle w ms hu h, exec_registerReadClear_idle hu h⟩, ?runs,
    fun s c a us p1 w ms => ⟨State.regWrite_ignored, State.regWrite_plain⟩⟩
  case runs =>
    intro s u c a b ep us p1 w ms hu hc hp hd
    have hrun := State.not_coreIdle hc hp hd
    rw [exec_registerWrite_runs w ms hu hrun, exec_registerReadClear_runs hu hrun]
    refine ⟨fun h => if_pos h, fun h => if_pos h, fun h => ?_, fun h => ?_⟩
    · exact access_checks (if_neg (Bool.eq_false_iff.1 h))
    · exact access_checks (if_neg (Bool.eq_false_iff.1 h))

end Sys2Proof.Machine
end

section
/-!
PROOFS. The four forms of `hello` (chapter 19: R183 to R186, R976 to R979).
-/
namespace Sys2Proof.Machine
open Sys2Proof

/-! ### Forms that are answered before READY -/

section
variable {s v : State} {c : Say} {ln : Ln} {us : Nat} {f : Form} {body : State → State × Result} (h : s.runs c ln us f true)
include h

theorem State.cmdEarly_fail {st : Status} (hf : f.changing = false) (hb : body (s.taken ln us) = (v, .fail st)) :
    s.cmdEarly c ln us f body = .next (v.reply ln.path (.er ln.tag st)) := by
  simp only [State.cmdEarly_run h, hb, State.answer, State.settled, hf, Bool.false_eq_true, if_false]

theorem State.cmdEarly_busy (hb : body (s.taken ln us) = (v, .busy)) : s.cmdEarly c ln us f body = .next (v.reply ln.path (.bz ln.tag)) := by
  simp only [State.cmdEarly_run h, hb, State.answer]

end

/-! ### The role a session takes -/

section
variable (s : State) (p : Path) (r : Role)

theorem State.startRole_takeRole : (s.takeRole p r).startRole p = s.startRole p := by
  cases p <;> rfl

theorem State.role_session_takeRole : ((s.takeRole p r).session p).role = if r = .mantle then .none else r := by
  rw [State.takeRole, State.session_setSession_same]

theorem State.takeRole_regs : (s.takeRole p r).regs = s.regs := State.setSession_regs s p _

theorem State.session_takeRole_other {q : Path} (h : q ≠ p) : (s.takeRole p r).session q = s.session q :=
  State.session_setSession_other s p q _ h

variable {s p r}

theorem State.roleOf_of_role (h : (s.session p).role ≠ .none) : s.roleOf p = (s.session p).role := by
  unfold State.roleOf
  split
  next hr => exact absurd hr h
  next => rfl

theorem State.roleOf_of_no_role (h : (s.session p).role = .none) : s.roleOf p = s.startRole p := by
  simp only [State.roleOf, h]

/-- A session that takes SERVICE, or the role its path starts with, holds it. -/
theorem State.roleOf_takeRole (h : r = .service ∨ (r = s.startRole p ∧ r ≠ .none)) : (s.takeRole p r).roleOf p = r := by
  have hrole := s.role_session_takeRole p r
  by_cases hm : r = .mantle
  · rw [if_pos hm] at hrole
    rw [State.roleOf_of_no_role hrole, State.startRole_takeRole]
    rcases h with h | ⟨h, -⟩
    · exact absurd (hm.symm.trans h) (by decide)
    · exact h.symm
  · rw [if_neg hm] at hrole
    have hsome : r ≠ .none := by
      rcases h with h | ⟨-, h⟩
      · rw [h]; decide
      · exact h
    rw [State.roleOf_of_role (by rw [hrole]; exact hsome), hrole]

/-! ### Asking for SERVICE -/

variable {us : Nat}

theorem State.askService_open (h : s.get LCS_STATE.STATE ≠ 2) : s.askService p us = (s.takeRole p .service, .ok [] [("role", "SERVICE")]) :=
  if_pos h

section
variable (h : s.get LCS_STATE.STATE = 2)
include h

theorem State.askService_lockout (hl : s.col.lockout = true) : s.askService p us = (s, .busy) :=
  (if_neg (not_not.2 h)).trans (if_pos hl)

/-- A FIELD card with the service key loaded issues a challenge (R978). -/
theorem State.askService_challenge {n : Nat} (hl : s.col.lockout = false) (hk : (s.slot 575).state = .loaded)
    (hn : n = (Config.random32 s.free).toNat) : s.askService p us =
      (State.setSession { s with free := s.free + 1 } p { s.session p with chal := some { num := n, issuedUs := us } },
        .ok [] [("challenge", hexPlain 8 n), ("ttl", "60")]) := by
  subst hn
  exact (if_neg (not_not.2 h)).trans ((if_neg (Bool.eq_false_iff.1 hl)).trans (if_neg (not_not.2 hk)))

end

end

/-! ### The response -/

section
variable {s : State} {ln : Ln} {resp : Bytes} {us : Nat} {c : Challenge}

/-- The body of `hello response=` on a FIELD card whose challenge stands and whose key is loaded: the response decides (R979). -/
theorem exec_helloResponse_judged {u v : State} (hu : u = s.taken ln us) (h : s.runs (Say.helloResponse resp us) ln us helloForm true)
    (hl : u.get LCS_STATE.STATE = 2) (hlen : resp.length = 8) (hc : (u.session ln.path).chal = some c) (ht : us ≤ c.issuedUs + 60000000)
    (hk : (u.slot 575).state = .loaded) (hv : v = u.setSession ln.path { u.session ln.path with chal := none }) :
    exec (.helloResponse ln resp us) s = .next (if resp = u.response ln.path c.num
      then (v.takeRole ln.path .service).reply ln.path (.ok ln.tag [] [("role", "SERVICE")])
      else State.reply { v with col := { v.col with lockout := true } } ln.path (.er ln.tag .role)) := by
  subst hu hv
  change execHelloResponse ln resp us s = _
  unfold execHelloResponse
  rw [State.cmdEarly_run h]
  simp only [hl, hlen, hc, hk, Nat.not_lt.2 ht, ne_eq, not_true_eq_false, if_false]
  split <;> rfl

end

/-- Settles O8: each form is a row of its verb; the state of life, the lockout and the challenge decide what it answers. -/
theorem helloForms : Obligations.HelloForms := by
  unfold Obligations.HelloForms
  refine ⟨?plain, ?role, ?otherRole, ?service, ?challenge, ?lockout, ?response, ?takes⟩
  case plain =>
    rintro s u ln us rfl h
    exact State.cmdEarly_ok h rfl rfl
  case role =>
    rintro s u ln r us rfl h hservice hnone hstart
    exact State.cmdEarly_ok h rfl ((if_neg hservice).trans (if_neg (not_or.2 ⟨hnone, not_not.2 hstart⟩)))
  case otherRole =>
    rintro s u ln r us rfl h hservice hother
    exact State.cmdEarly_fail h rfl ((if_neg hservice).trans (if_pos (.inr hother)))
  case service =>
    rintro s u ln us rfl h hlife
    exact State.cmdEarly_ok h rfl (State.askService_open hlife)
  case challenge =>
    rintro s u ln us n rfl h hlife hl hk hn
    exact State.cmdEarly_ok h rfl (State.askService_challenge hlife hl hk hn)
  case lockout =>
    rintro s u ln us rfl h hlife hl
    exact State.cmdEarly_busy h (State.askService_lockout hlife hl)
  case response =>
    intro s u v ln resp us c hu h hlife hlen hc ht hk hv
    rw [exec_helloResponse_judged hu h hlife hlen hc ht hk hv]
    exact ⟨fun hr => by rw [if_pos hr], fun hr => by rw [if_neg hr]⟩
  case takes => exact fun u p r h => ⟨State.roleOf_takeRole h, u.takeRole_regs p r, fun q => u.session_takeRole_other p r⟩

end Sys2Proof.Machine
end

section
/-!
PROOFS. The reading commands of the session verbs (chapter 19: R980 to R984, R986, R987).
-/
namespace Sys2Proof.Machine
open Sys2Proof

section
variable {s : State} {ln : Ln} {us : Nat}

/-! ### `help` -/

/-- The rows of `help`: each verb with its subcommands (R982). -/
def State.helpRows (s : State) : List (List KV) :=
  helpVerbs.map (fun v => [("verb", v), ("subs", subsOf (((helpTable s.plainRoles).lookup v).getD []))])

theorem State.helpRows_length (s : State) : s.helpRows.length = 31 := by
  rw [State.helpRows, List.length_map]
  rfl

theorem State.helpRows_keys (s : State) : s.helpRows.map (fun r => r.map (·.1)) = List.replicate 31 ["verb", "subs"] := by
  rw [State.helpRows, List.map_map]
  rfl

theorem State.helpRows_verbs (s : State) : s.helpRows.map (fun r => r.lookup "verb") = helpVerbs.map some := by
  rw [State.helpRows, List.map_map]
  rfl

theorem exec_help (h : s.runs (Say.help us) ln us (reading rolesOHM []) false) :
    exec (.help ln us) s = .next ((s.taken ln us).reply ln.path (.ok ln.tag (s.taken ln us).helpRows [("n", dec 31)])) :=
  (s.taken ln us).helpRows_length ▸ State.cmd_ok h rfl rfl

/-! ### `help VERB` -/

section
variable {verb : String} {sub : Option String}

/-- The forms of a verb that `help VERB` lists: all, or those of the subcommand it names (R983). -/
def State.verbRows (s : State) (verb : String) : Option String → List HelpRow
  | some w => (((helpTable s.plainRoles).lookup verb).getD []).filter (fun r => r.sub == w)
  | none => ((helpTable s.plainRoles).lookup verb).getD []

theorem State.verbRows_eq_filter (s : State) : s.verbRows verb sub =
    (((helpTable s.plainRoles).lookup verb).getD []).filter (fun r => match sub with | some w => r.sub == w | none => true) := by
  cases sub
  · exact (List.filter_eq_self.2 fun _ _ => rfl).symm
  · rfl

section
variable (h : s.runs (Say.helpVerb verb sub us) ln us (reading rolesOHM []) false)
include h

theorem exec_helpVerb_listed (hrows : (s.taken ln us).verbRows verb sub ≠ []) : exec (.helpVerb ln verb sub us) s = .next ((s.taken ln us).reply ln.path
    (.ok ln.tag (((s.taken ln us).verbRows verb sub).map HelpRow.kvs) [("n", dec ((s.taken ln us).verbRows verb sub).length)])) := by
  refine State.cmd_ok h rfl ?_
  cases sub <;> exact if_neg fun he => hrows (List.isEmpty_iff.1 he)

theorem exec_helpVerb_unknown (hrows : (s.taken ln us).verbRows verb sub = []) :
    exec (.helpVerb ln verb sub us) s = .next ((s.taken ln us).reply ln.path (.er ln.tag .badArg)) := by
  refine State.cmd_fail h rfl ?_
  cases sub <;> exact if_pos (List.isEmpty_iff.2 hrows)

end

end

end

/-- Settles O9: each command is a row that answers at once with what the registers and the tables of chapter 19 say. -/
theorem sessionReads : Obligations.SessionReads := by
  unfold Obligations.SessionReads
  refine ⟨?id, ?ver, ?help, ?helpVerb, ?line, ?clock⟩
  case id =>
    rintro s u ln us rfl h
    exact State.cmdEarly_ok h rfl rfl
  case ver =>
    rintro s u ln us rfl h
    exact State.cmdEarly_ok h rfl rfl
  case help =>
    rintro s u ln us rfl h
    exact ⟨_, exec_help h, State.helpRows_length _, State.helpRows_keys _, State.helpRows_verbs _⟩
  case helpVerb =>
    rintro s u ln verb sub us rows rfl h hrows
    obtain rfl : rows = (s.taken ln us).verbRows verb sub := hrows.trans (s.taken ln us).verbRows_eq_filter.symm
    exact ⟨exec_helpVerb_listed h, exec_helpVerb_unknown h⟩
  case line =>
    rintro s u ln us rfl hp h
    exact State.lineCmd_ok hp h rfl
  case clock =>
    rintro s u ln us rfl h
    exact State.cmd_ok h rfl rfl

end Sys2Proof.Machine
end

section
/-!
PROOFS. The verb `flash` (chapters 08 and 20: R469, R1058 to R1061).
-/
namespace Sys2Proof.Machine
open Sys2Proof

section
variable {s : State} {ln : Ln} {us : Nat}

/-! ### `flash cfg` -/

/-- Is every setting that `flash cfg` names in its range (R1058, Table FLS-15)? -/
structure MoverInRange (a : MoverAttrs) : Prop where
  op : within a.op 2 50 = true
  openHost : within a.openHost 1 8 = true
  gcStart : within a.gcStart 3 64 = true
  gcUrgent : within a.gcUrgent 0 255 = true
  wlSpread : within a.wlSpread 50 10000 = true

/-- The settings of the mover that a `flash cfg` names are kept, and collection takes the mode they give (R1058). -/
def State.putMoverCfg (s : State) (a : MoverAttrs) : State :=
  (((((s.keepIf MOV_CFG.OP_PCT a.op).keepIf MOV_CFG.OPEN_HOST a.openHost).keepIf MOV_GC.START a.gcStart).keepIf MOV_GC.URGENT
    a.gcUrgent).keepIf MOV_WL.SPREAD a.wlSpread).gcMode

theorem exec_flashCfg_inRange {a : MoverAttrs} {v : State} (h : s.runs (Say.flashCfg a us) ln us (changing [.operator] [44]) false) (ha : MoverInRange a)
    (hv : v = (s.taken ln us).putMoverCfg a) : exec (.flashCfg ln a us) s = .next (v.done ln []
      [("op", dec (v.get MOV_CFG.OP_PCT)), ("open_host", dec (v.get MOV_CFG.OPEN_HOST)), ("gc_start", dec (v.get MOV_GC.START)),
       ("gc_urgent", dec (v.get MOV_GC.URGENT)), ("wl_spread", dec (v.get MOV_WL.SPREAD))]) := by
  subst hv
  obtain ⟨hop, hopen, hstart, hurgent, hspread⟩ := ha
  refine State.cmd_done h rfl (if_neg ?_)
  rw [hop, hopen, hstart, hurgent, hspread]
  decide

/-! ### `flash format` -/

/-- A `flash format` that names the card's serial, with no tenant's Pocket and on no secondary, goes on as a job (R469, R1059). -/
theorem exec_flashFormat_confirmed {u : State} (hu : u = s.taken ln us)
    (h : s.runs (Say.flashFormat (u.get SYS_SERIAL.SERIAL) us) ln us (changing [.service] [43, 44]) false)
    (hempty : u.pockets.any (fun x => x.1 != 0) = false) (hn : u.isSecondary = false) : exec (.flashFormat ln (u.get SYS_SERIAL.SERIAL) us) s =
      .next (State.jobbed { u with flash := { u.flash with formatting := true } } ln "flash format") := by
  subst hu
  refine State.cmd_jobbed h rfl ((if_neg (not_not.2 rfl)).trans (if_neg ?_))
  rw [hempty, hn]
  decide

end

/-- Settles O17: each form is a row of its verb; the ranges, the serial and the card's tenants decide between its effect and a refusal. -/
theorem flashCommands : Obligations.FlashCommands := by
  unfold Obligations.FlashCommands
  refine ⟨?shown, ?die, ?cfg, ?format, ?unconfirmed⟩
  case shown =>
    rintro s u ln us rfl h
    exact State.cmd_ok h rfl rfl
  case die =>
    rintro s u ln ch us rfl h
    exact ⟨fun hch => State.cmd_ok h rfl (if_neg (Nat.not_lt.2 hch)), fun hch => State.cmd_fail h rfl (if_pos hch)⟩
  case cfg =>
    rintro s u v ln a us rfl h hop hopen hstart hurgent hspread hv
    exact exec_flashCfg_inRange h ⟨hop, hopen, hstart, hurgent, hspread⟩ hv
  case format =>
    rintro s u v ln us hu h hempty hn rfl
    exact exec_flashFormat_confirmed hu h hempty hn
  case unconfirmed =>
    rintro s u ln confirm us rfl h hconfirm
    exact State.cmd_refused h rfl (if_pos hconfirm)

end Sys2Proof.Machine
end

section
/-!
PROOFS. The verb `power` (chapters 15 and 20: R797, R1045): the arming of IDLE is kept in the configuration record.
-/
namespace Sys2Proof.Machine
open Sys2Proof

/-! ### What the answer to a changing command leaves -/

section
variable (s : State)

theorem State.logWrite_conf (b : Bool) (r : LogRec) : (s.logWrite b r).conf = s.conf := ite_part State.conf rfl

theorem State.logBoth_conf (body : BootBody) : (s.logBoth body).conf = s.conf := by
  simp only [State.logBoth, State.logWrite_conf]

theorem State.logBodies_conf (l : List LogRec) : (l.foldl (fun t r => t.logBoth r.body) s).conf = s.conf := by
  induction l generalizing s with
  | nil => rfl
  | cons r l ih => rw [List.foldl_cons, ih, State.logBoth_conf]

theorem State.tidyLog_conf (b : Bool) : (s.tidyLog b).conf = s.conf := by
  unfold State.tidyLog
  dsimp only
  split
  · split
    · rfl
    · split
      · split <;> exact s.logBodies_conf _
      · exact s.logBodies_conf _
  · rfl

theorem State.confRecord_conf : s.confRecord.conf = s.conf := by
  unfold State.confRecord
  split
  · rfl
  · unfold State.bootRecord
    simp only [apply_ite State.conf, State.notify_conf, State.tidyLog_conf, State.logBoth_conf, ite_self]

/-- The record and the reply of a changing command leave the settings that are kept. -/
theorem State.done_conf (ln : Ln) (data : List (List KV)) (kv : List KV) : (s.done ln data kv).conf = s.conf := by
  have hreply : (s.confRecord.reply ln.path (.ok ln.tag data kv)).conf = s.confRecord.conf := by
    obtain ⟨-, -, -, -, -, -, -, -, -, -, -, -, -, -, -, -, -, hconf, -⟩ := s.confRecord.reply_keeps ln.path (.ok ln.tag data kv)
    exact hconf
  exact hreply.trans s.confRecord_conf

end

/-! ### `power state=run` -/

theorem State.armCheck_ready {s : State} (h : s.notReadyNow = false) : s.armCheck = none := if_neg (Bool.eq_false_iff.1 h)

/-- IDLE is disarmed, and the setting is kept (R797, R1045). -/
theorem exec_powerStateRun_kept {s : State} {ln : Ln} {us : Nat} (h : s.runs (Say.powerStateRun us) ln us (changing rolesOHM []) false)
    (hr : (s.taken ln us).notReadyNow = false) :
    exec (.powerStateRun ln us) s = .next (((s.taken ln us).keep PWR_STATE.IDLE_ARM 0).done ln [] []) := by
  refine State.cmd_done h rfl ?_
  rw [State.armCheck_ready hr]
  rfl

/-- A card in service: its banner is sent, READY is high and T0 is in service; no setting has been kept. -/
def servingCard : State := State.set { State.reset with boot := { State.reset.boot with ready := true, done := [.banner] } } (PWR_DSTAT.STATE 49) 3

/-- A line of the Collar without a tag. -/
def collarLine : Ln := { path := .collar, tag := none, bad := false }

/-- Refutes O21: `power state=run` keeps the disarmed IDLE among the settings of the configuration record, and the statement's next state has the
register's field alone. On a card in service without a kept setting the two differ in the list of kept settings. -/
theorem not_powerCommands : ¬ Obligations.PowerCommands := by
  unfold Obligations.PowerCommands
  rintro ⟨-, hstate, -⟩
  have hruns : servingCard.runs (Say.powerStateRun 0) collarLine 0 (changing rolesOHM []) false := by
    refine ⟨⟨?_, rfl, ?_⟩, ?_⟩ <;> decide +kernel
  have hready : (servingCard.taken collarLine 0).notReadyNow = false := by decide +kernel
  have hnone : (servingCard.taken collarLine 0).conf = [] := by decide +kernel
  have hset := ((hstate servingCard _ collarLine 0 rfl).1 hready).1 hruns
  rw [exec_powerStateRun_kept hruns hready] at hset
  have hconf := congrArg State.conf (Host.Outcome.next.inj hset)
  rw [State.done_conf, State.done_conf, State.set_conf, hnone] at hconf
  exact List.append_ne_nil_of_right_ne_nil _ (List.cons_ne_nil _ _) hconf

end Sys2Proof.Machine
end

section
/-!
PROOFS. The verbs `domain` and `reset` (chapters 14 and 20: R754, R772 to R779, R782, R786 to R788, R1049 to R1052, R1102, R1103).
-/
namespace Sys2Proof.Machine
open Sys2Proof

section
variable {s v : State} {ln : Ln} {d us : Nat}

theorem domOk_of_range (h1 : 1 ≤ d) (h2 : d ≤ 50) : domOk d = true := by
  simp only [domOk, h1, h2, decide_true, Bool.and_self]

theorem domOk_of_outside (h : d = 0 ∨ 50 < d) : domOk d = false := by
  rw [domOk, Bool.and_eq_false_iff, decide_eq_false_iff_not, decide_eq_false_iff_not]
  omega

/-! ### A command that asks for a change of a domain -/

section
variable {c : Say} {f : Form} {bad : Bool} {change : State → State × Option Result} {w : AwaitFor} (h : s.runs c ln us f false) (hf : f.changing = true)
  (hb : bad = false)
include h hf hb

theorem State.changeCmd_done {data : List (List KV)} {kv : List KV} (hc : change (s.taken ln us) = (v, some (.ok data kv))) :
    s.cmd c ln us f (fun t => if bad then (t, .fail .badArg) else orWait (change t) w) = .next (v.done ln data kv) :=
  State.cmd_done h hf ((if_neg (Bool.eq_false_iff.1 hb)).trans (by rw [hc]; rfl))

theorem State.changeCmd_refused {st : Status} (hc : change (s.taken ln us) = (v, some (.fail st))) :
    s.cmd c ln us f (fun t => if bad then (t, .fail .badArg) else orWait (change t) w) = .next (v.refused ln st) :=
  State.cmd_refused h hf ((if_neg (Bool.eq_false_iff.1 hb)).trans (by rw [hc]; rfl))

theorem State.changeCmd_waits (hc : change (s.taken ln us) = (v, none)) :
    s.cmd c ln us f (fun t => if bad then (t, .fail .badArg) else orWait (change t) w) = .next (v.waiting ln w) :=
  State.cmd_wait h hf ((if_neg (Bool.eq_false_iff.1 hb)).trans (by rw [hc]; rfl))

end

/-! ### Switching on -/

section
variable {who : OpBy}

/-- Is a domain being switched on by another command (assumption log entry 187)? -/
def State.rampsByCommand (s : State) (d : Nat) : Bool := s.pwr.ramps.any (fun r => r.1 == d && r.2.command)

theorem State.domainOn_lit (h : s.dom d ≠ 0) : s.domainOn d who = (s, some (.ok [] [("state", if s.dom d = 3 then "in" else "shadow")])) :=
  (if_pos (.inl h)).trans (by simp only [State.domIn, beq_iff_eq])

theorem State.domainOn_ramping (h : s.dom d = 0) (hr : s.rampsByCommand d = true) :
    s.domainOn d who = (s, some (.ok [] [("state", "shadow")])) :=
  (if_pos (.inr hr)).trans (by rw [State.domIn, h]; rfl)

section
variable (h : s.dom d = 0) (hr : s.rampsByCommand d = false)
include h hr

theorem State.domainOn_off_guard : ¬ (s.dom d ≠ 0 ∨ s.pwr.ramps.any (fun r => r.1 == d && r.2.command) = true) := by
  rintro (hd | hc)
  · exact hd h
  · exact Bool.false_ne_true (hr.symm.trans hc)

theorem State.domainOn_fixed (ho : s.flag (PWR_DSTAT.OFFABLE d) = false) : s.domainOn d who = (s, some (.fail .wrongState)) :=
  (if_neg (State.domainOn_off_guard h hr)).trans (if_pos (by rw [ho]; rfl))

/-- A domain that is off begins to be switched on for whoever asked (R754, R779). -/
theorem State.domainOn_begins (ho : s.flag (PWR_DSTAT.OFFABLE d) = true) :
    ∃ v : State, s.domainOn d who = (v, none) ∧ (d, who) ∈ v.pwr.ramps :=
  ⟨_, (if_neg (State.domainOn_off_guard h hr)).trans (if_neg (by rw [ho]; decide)), List.mem_append_right _ List.mem_cons_self⟩

end

end

/-! ### Switching off -/

section
variable {abort : Bool} {window : Nat} {p : Path} {who : OpBy}

theorem State.domainOff_fixed (ho : s.flag (PWR_DSTAT.OFFABLE d) = false) :
    s.domainOff d abort window (some p) who = (s, some (.fail .wrongState)) :=
  if_pos (by rw [ho]; rfl)

section
variable (ho : s.flag (PWR_DSTAT.OFFABLE d) = true)
include ho

theorem State.domainOff_needed (hp : s.pathNeeds p d = true) : s.domainOff d abort window (some p) who = (s, some (.fail .wrongState)) :=
  (if_neg (by rw [ho]; decide)).trans (if_pos hp)

section
variable (hp : s.pathNeeds p d = false)
include hp

/-- A domain that may be switched off goes by its state: off, checked or fenced, or at work (R754, R772, R776). -/
theorem State.domainOff_free : s.domainOff d abort window (some p) who =
    if s.dom d = 0 then
      (if d = 17 ∧ (s.slv.stopWas.contains d && s.linkUp) = true then (((s.cutOps d none .domainOff).dropChange d).set (PWR_DSTAT.CMD_OFF d) 1).linkDown
       else if d = 26 ∧ (s.slv.stopWas.contains d && s.linkUp) = true then (((s.cutOps d none .domainOff).dropChange d).set (PWR_DSTAT.CMD_OFF d) 1).sleeveReset
       else ((s.cutOps d none .domainOff).dropChange d).set (PWR_DSTAT.CMD_OFF d) 1, some (.ok [] []))
    else if s.dom d = 1 ∨ s.dom d = 4 then
      ((((s.takeOut d 0 .drained).cutOps d none .domainOff).dropChange d).set (PWR_DSTAT.CMD_OFF d) 1, some (.ok [] []))
    else (s.startDrain d abort (s.clk + window) who, none) :=
  (if_neg (by rw [ho]; decide)).trans (if_neg (Bool.eq_false_iff.1 hp))

theorem State.domainOff_dark (h : s.dom d = 0) (hl : ¬ ((d = 17 ∨ d = 26) ∧ s.slv.stopWas.contains d = true ∧ s.linkUp = true)) :
    s.domainOff d abort window (some p) who = (((s.cutOps d none .domainOff).dropChange d).set (PWR_DSTAT.CMD_OFF d) 1, some (.ok [] [])) := by
  rw [State.domainOff_free ho hp, if_pos h, if_neg, if_neg]
  all_goals
    rw [Bool.and_eq_true]
    tauto

/-- The link's own domain stays off for good: the link goes down (R256). -/
theorem State.domainOff_link (h : s.dom d = 0) (hd : d = 17) (hs : s.slv.stopWas.contains 17 = true) (hu : s.linkUp = true) :
    s.domainOff d abort window (some p) who = ((((s.cutOps d none .domainOff).dropChange d).set (PWR_DSTAT.CMD_OFF d) 1).linkDown, some (.ok [] [])) := by
  subst hd
  rw [State.domainOff_free ho hp, if_pos h, if_pos ⟨rfl, by rw [hs, hu]; rfl⟩]

theorem State.domainOff_sleeve (h : s.dom d = 0) (hd : d = 26) (hs : s.slv.stopWas.contains 26 = true) (hu : s.linkUp = true) :
    s.domainOff d abort window (some p) who = ((((s.cutOps d none .domainOff).dropChange d).set (PWR_DSTAT.CMD_OFF d) 1).sleeveReset, some (.ok [] [])) := by
  subst hd
  rw [State.domainOff_free ho hp, if_pos h, if_neg (fun h17 => absurd h17.1 (by decide)), if_pos ⟨rfl, by rw [hs, hu]; rfl⟩]

theorem State.domainOff_apart (h : s.dom d = 1 ∨ s.dom d = 4) : s.domainOff d abort window (some p) who =
    ((((s.takeOut d 0 .drained).cutOps d none .domainOff).dropChange d).set (PWR_DSTAT.CMD_OFF d) 1, some (.ok [] [])) := by
  rw [State.domainOff_free ho hp, if_neg (by omega), if_pos h]

theorem State.domainOff_drains (h : s.dom d = 2 ∨ s.dom d = 3) :
    s.domainOff d abort window (some p) who = (s.startDrain d abort (s.clk + window) who, none) := by
  rw [State.domainOff_free ho hp, if_neg (by omega), if_neg (by omega)]

end

end

end

/-! ### Resets -/

section
variable {p : Path} {who : OpBy}

theorem State.domainReset_fixed (hr : s.flag (PWR_DSTAT.RESETTABLE d) = false) : s.domainReset d (some p) who = (s, some (.fail .wrongState)) :=
  if_pos (by rw [hr]; rfl)

section
variable (hr : s.flag (PWR_DSTAT.RESETTABLE d) = true)
include hr

theorem State.domainReset_needed (hp : s.pathNeeds p d = true) : s.domainReset d (some p) who = (s, some (.fail .wrongState)) :=
  (if_neg (by rw [hr]; decide)).trans (if_pos hp)

section
variable (hp : s.pathNeeds p d = false)
include hp

/-- A domain that may be reset goes by its state, and by a drain that a command has begun in it (R777; assumption log entry 187). -/
theorem State.domainReset_free : s.domainReset d (some p) who =
    if s.dom d = 0 then (s, some (.fail .domainOff))
    else if s.pwr.drains.any (fun r => r.dom == d && r.who.command) then (s.resetDomain d .card, some (.fail .domainOff))
    else (s.resetDomain d who, none) :=
  (if_neg (by rw [hr]; decide)).trans (if_neg (Bool.eq_false_iff.1 hp))

theorem State.domainReset_dark (h : s.dom d = 0) : s.domainReset d (some p) who = (s, some (.fail .domainOff)) := by
  rw [State.domainReset_free hr hp, if_pos h]

theorem State.domainReset_drained (h : s.dom d ≠ 0) (hd : s.pwr.drains.any (fun r => r.dom == d && r.who.command) = true) :
    s.domainReset d (some p) who = (s.resetDomain d .card, some (.fail .domainOff)) := by
  rw [State.domainReset_free hr hp, if_neg h, if_pos hd]

theorem State.domainReset_begins (h : s.dom d ≠ 0) (hd : s.pwr.drains.any (fun r => r.dom == d && r.who.command) = false) :
    s.domainReset d (some p) who = (s.resetDomain d who, none) := by
  rw [State.domainReset_free hr hp, if_neg h, if_neg (Bool.eq_false_iff.1 hd)]

end

end

end

end

/-- Settles O22: each form is a row of its verb, and the state of the domain decides between its effect, a wait and a refusal. -/
theorem domainAndResetCommands : Obligations.DomainAndResetCommands := by
  unfold Obligations.DomainAndResetCommands
  refine ⟨?shown, ?on, ?off, ?card, ?reset⟩
  case shown =>
    rintro s u ln d us rfl
    refine ⟨fun h1 h2 h => ?_, fun hout h => ?_, fun h => State.cmd_ok h rfl rfl⟩
    · exact State.cmd_ok h rfl (if_neg (by rw [domOk_of_range h1 h2]; decide))
    · exact State.cmd_fail h rfl (if_pos (by rw [domOk_of_outside hout]; rfl))
  case on =>
    rintro s u ln d us rfl h h1 h2
    have hok : (!domOk d) = false := by rw [domOk_of_range h1 h2]; rfl
    refine ⟨fun hlit => ?_, fun hoff hr => ?_, fun hoff hr ho => ?_, fun hoff hr ho => ?_⟩
    · exact State.changeCmd_done h rfl hok (State.domainOn_lit (by omega))
    · exact State.changeCmd_done h rfl hok (State.domainOn_ramping hoff hr)
    · obtain ⟨v, hv, hmem⟩ := State.domainOn_begins (who := .line) hoff hr ho
      exact ⟨v, hv, State.changeCmd_waits h rfl hok hv, hmem⟩
    · exact State.changeCmd_refused h rfl hok (State.domainOn_fixed hoff hr ho)
  case off =>
    rintro s u ln d us abort drain rfl h h1 h2 hw
    have hok : (!domOk d || !windowOk drain) = false := by rw [domOk_of_range h1 h2, windowOk, hw]; rfl
    exact ⟨fun ho => State.changeCmd_refused h rfl hok (State.domainOff_fixed ho),
      fun ho hp => State.changeCmd_refused h rfl hok (State.domainOff_needed ho hp),
      fun ho hp hd hl => State.changeCmd_done h rfl hok (State.domainOff_dark ho hp hd hl),
      fun ho hp hd h17 hs hu => State.changeCmd_done h rfl hok (State.domainOff_link ho hp hd h17 hs hu),
      fun ho hp hd h26 hs hu => State.changeCmd_done h rfl hok (State.domainOff_sleeve ho hp hd h26 hs hu),
      fun ho hp hd => State.changeCmd_done h rfl hok (State.domainOff_apart ho hp hd),
      fun ho hp hd => State.changeCmd_waits h rfl hok (State.domainOff_drains ho hp hd)⟩
  case card =>
    rintro s u ln us rfl
    exact ⟨fun h => State.cmdThen_done h rfl rfl, fun h => State.cmdThen_done h rfl rfl⟩
  case reset =>
    rintro s u ln d us rfl h h1 h2
    have hok : (!domOk d) = false := by rw [domOk_of_range h1 h2]; rfl
    exact ⟨fun hr => State.changeCmd_refused h rfl hok (State.domainReset_fixed hr),
      fun hr hp hd => State.changeCmd_refused h rfl hok (State.domainReset_dark hr hp hd),
      fun hr hp => State.changeCmd_refused h rfl hok (State.domainReset_needed hr hp),
      fun hr hp hd hc => State.changeCmd_refused h rfl hok (State.domainReset_drained hr hp hd hc),
      fun hr hp hd hc => State.changeCmd_waits h rfl hok (State.domainReset_begins hr hp hd hc)⟩

end Sys2Proof.Machine
end

section
/-!
PROOFS. Drains, switch-on, CHECK, rejoin, hangs, late replies and PWR_DREQ (chapters 14 and 15: R755, R765 to R767, R771 to R774, R777, R779, R782, R793,
R794, R811).
-/
namespace Sys2Proof.Machine
open Sys2Proof

section
variable {s u : State} {d us : Nat}

/-! ### Drains -/

section
variable {r : Drain}

/-- A drain is complete when nothing of its domain is at work (R772). -/
theorem exec_drainComplete_drains (hr : s.drainOf d = some r) : exec (.drainComplete d) s = if s.busyIn d then .next s else .next (s.drained r) := by
  change execDrainComplete d s = _
  simp only [execDrainComplete, hr]

theorem State.drained_of_entry (h : r.who = .entry) : s.drained r = (s.entryDrained r.dom false).entryGo := by
  simp only [State.drained, h]

theorem State.drained_of_dreq (h : r.who = .dreq) : s.drained r = s.offAfterDrain r .drained := by
  simp only [State.drained, h]

section
variable {f : Nat} (hu : u = s.at us) (hr : u.drainOf d = some r)
include hu hr

theorem exec_drainWindowEnd_early (h : us < r.endUs) : exec (.drainWindowEnd d f us) s = .next u := by
  change execDrainWindowEnd d f us s = _
  simp only [execDrainWindowEnd, ← hu, hr, h, if_true]

section
variable (h : r.endUs ≤ us)
include h

theorem exec_drainWindowEnd_idle (hb : u.busyIn d = false) : exec (.drainWindowEnd d f us) s = .next (u.drained r) := by
  change execDrainWindowEnd d f us s = _
  simp only [execDrainWindowEnd, ← hu, hr, Nat.not_lt.2 h, hb, Bool.not_false, if_false, if_true]

section
variable (hb : u.busyIn d = true)
include hb

/-- Work is left at the end of a window that no entry asked for: a fence in abort mode, a refusal in wait mode (R773). -/
theorem exec_drainWindowEnd_busy (he : u.pwr.entry = none) : exec (.drainWindowEnd d f us) s =
    if r.abort then .next (u.offAfterDrain r .abort) else .next (u.drainRefused r f) := by
  change execDrainWindowEnd d f us s = _
  simp only [execDrainWindowEnd, ← hu, hr, Nat.not_lt.2 h, hb, he, Bool.not_true, Bool.false_eq_true, if_false]
  cases r.who <;> rfl

/-- Work is left at the end of a window of an entry in wait mode: the entry is refused (R812). -/
theorem exec_drainWindowEnd_entry {e : PEntry} (he : u.pwr.entry = some e) (hw : r.who = .entry) (ha : r.abort = false) :
    exec (.drainWindowEnd d f us) s = .next (u.refuseEntry e .pwrRefused f (domainId f)) := by
  change execDrainWindowEnd d f us s = _
  simp only [execDrainWindowEnd, ← hu, hr, Nat.not_lt.2 h, hb, he, hw, ha, Bool.not_true, Bool.false_eq_true, if_false]

end

end

end

end

/-! ### Holds, ramps, checks and hangs -/

theorem exec_resetHoldEnd_held {w : OpBy} (hu : u = s.at us) (hw : u.pwr.holds.lookup d = some w) : exec (.resetHoldEnd d us) s =
    .next (if d = 50 then (u.enterCheck d w).recordReset .t1 [causeT1] else u.enterCheck d w) := by
  change execResetHoldEnd d us s = _
  simp only [execResetHoldEnd, ← hu, hw]

theorem exec_resetHoldEnd_none (h : s.pwr.holds.lookup d = none) : exec (.resetHoldEnd d us) s = .next (s.at us) := by
  change execResetHoldEnd d us s = _
  simp only [execResetHoldEnd, State.at_pwr, h]

theorem exec_domainSwitchOnDone_none (h : s.pwr.ramps.lookup d = none) : exec (.domainSwitchOnDone d) s = .next s := by
  change execDomainSwitchOnDone d s = _
  simp only [execDomainSwitchOnDone, h]

theorem exec_domainSwitchOnDone_ramping {w : OpBy} (h : s.pwr.ramps.lookup d = some w) : exec (.domainSwitchOnDone d) s = .next (s.enterCheck d w) := by
  change execDomainSwitchOnDone d s = _
  simp only [execDomainSwitchOnDone, h]

theorem exec_domainCheckDone_checking {ok : Bool} (hu : u = s.at us) (h : u.dom d = 1) (hd : (26 ≤ d ∧ d ≤ 32) ∨ (37 ≤ d ∧ d ≤ 50)) :
    exec (.domainCheckDone d ok us) s = .next (u.checkEnds d ok) := by
  subst hu
  exact if_pos ⟨h, by omega, by omega, by omega⟩

/-- A hang is counted, and its domain is reset, or the card where the domain cannot be (R755, R771, R793). -/
theorem exec_fabricHang_lit (hu : u = s.at us) (h1 : 1 ≤ d) (h2 : d ≤ 50) (h : u.dom d ≠ 0) : exec (.fabricHang d us) s =
    .next ((((u.count PWR_HUNG.COUNT 1).set PWR_HUNG.DOMAIN d).notify "domain hung" [("domain", domainId d)]).runFault d causeHang) := by
  subst hu
  refine if_neg ?_
  rintro (hd | hd | hd)
  · omega
  · omega
  · exact h hd

section
variable {cause : Nat} (h : s.life.run = none)
include h

theorem State.runFault_no_run : s.runFault d cause = s.faultReset d cause := by
  simp only [State.runFault, h]

theorem State.runFault_resettable (hr : s.flag (PWR_DSTAT.RESETTABLE d) = true) : s.runFault d cause = s.resetDomain d .card :=
  (State.runFault_no_run h).trans (if_pos hr)

theorem State.runFault_fixed (hr : s.flag (PWR_DSTAT.RESETTABLE d) = false) : s.runFault d cause = s.beginReset .warm cause :=
  (State.runFault_no_run h).trans (if_neg (Bool.eq_false_iff.1 hr))

end

/-! ### PWR_DREQ -/

/-- The fields of PWR_DREQ as a write stores them. -/
def State.dreqFields (s : State) (op d : Nat) (abort : Bool) : State :=
  ((s.set PWR_DREQ.OP op).setFlag PWR_DREQ.MODE abort).set PWR_DREQ.DOMAIN d

/-- A request begins: START and BUSY are set, and PWR_DRES names the domain (R794). -/
def State.dreqBegun (s : State) (op d : Nat) (abort : Bool) : State :=
  (((s.dreqFields op d abort).set PWR_DREQ.START 1).set PWR_DRES.DOMAIN (clamp 1 50 d)).set PWR_DRES.BUSY 1

theorem exec_pwrDreqOn {op : Nat} (h : op = 0 ∨ op = 3) :
    exec (.pwrDreqOn op d us) s = .next ((s.at us).dreq op d false (fun t => t.domainOn (clamp 1 50 d) .dreq)) := if_pos h

section
variable {op : Nat} {abort : Bool} {act : State → State × Option Result} {v : State}

/-- A request while another runs stores its fields alone (assumption log entry 157). -/
theorem State.dreq_busy (h : s.flag PWR_DRES.BUSY = true) : s.dreq op d abort act = s.dreqFields op d abort := if_pos h

section
variable (h : s.flag PWR_DRES.BUSY = false) (hr : s.life.run = none)
include h hr

theorem State.dreq_begins : s.dreq op d abort act = match (act (s.dreqBegun op d abort)).2 with
    | some (.fail st) => (((act (s.dreqBegun op d abort)).1.set PWR_DREQ.START 0).set PWR_DRES.BUSY 0).set PWR_DRES.STATUS st.code
    | some _ => (((act (s.dreqBegun op d abort)).1.set PWR_DREQ.START 0).set PWR_DRES.BUSY 0).set PWR_DRES.STATUS 0
    | none => (act (s.dreqBegun op d abort)).1 := by
  have hrun : (s.dreqBegun op d abort).life.run.isSome = false := by
    change s.life.run.isSome = false
    rw [hr]
    rfl
  simp only [dreqBegun, dreqFields] at hrun ⊢
  simp only [State.dreq, h, hrun, Bool.false_eq_true, if_false] <;> rfl

theorem State.dreq_runs (ha : act (s.dreqBegun op d abort) = (v, none)) : s.dreq op d abort act = v := by
  rw [State.dreq_begins h hr, ha]

/-- A request that is refused ends at once with its status (R794). -/
theorem State.dreq_refused {st : Status} (ha : act (s.dreqBegun op d abort) = (v, some (.fail st))) :
    s.dreq op d abort act = ((v.set PWR_DREQ.START 0).set PWR_DRES.BUSY 0).set PWR_DRES.STATUS st.code := by
  rw [State.dreq_begins h hr, ha]

end

end

end

/-- Settles O50: each event is a choice on the domain's state and on what waits for it; PWR_DREQ is the change that its fields ask for. -/
theorem domainEvents : Obligations.DomainEvents := by
  unfold Obligations.DomainEvents
  refine ⟨?drain, ?window, ?hold, ?none, fun s d w => exec_domainSwitchOnDone_ramping, ?check, ?unchecked, ?rejoin, ?hang, ?reply, ?retry, ?busy, ?begin⟩
  case drain =>
    intro s d r hr
    rw [exec_drainComplete_drains hr]
    refine ⟨fun hb => if_pos hb, fun hb hw => ?_, fun hb hw => ?_⟩
    · rw [if_neg (Bool.eq_false_iff.1 hb), State.drained_of_entry hw]
    · rw [if_neg (Bool.eq_false_iff.1 hb), State.drained_of_dreq hw]
  case window =>
    intro s u d f us r hu hr
    refine ⟨exec_drainWindowEnd_early hu hr, exec_drainWindowEnd_idle hu hr, fun h hb he ha => ?_, fun h hb he ha => ?_,
      fun e h hb he hw ha => exec_drainWindowEnd_entry hu hr h hb he hw ha⟩
    · rw [exec_drainWindowEnd_busy hu hr h hb he, if_pos ha]
    · rw [exec_drainWindowEnd_busy hu hr h hb he, if_neg (Bool.eq_false_iff.1 ha)]
      rfl
  case hold =>
    intro s u d us w hu hw
    rw [exec_resetHoldEnd_held hu hw]
    exact ⟨fun hd => by rw [if_neg hd], fun hd => by rw [if_pos hd]⟩
  case none => exact fun s d us hh hr => ⟨exec_resetHoldEnd_none hh, exec_domainSwitchOnDone_none hr⟩
  case check => exact fun s u d us hu h hd => ⟨exec_domainCheckDone_checking hu h hd, exec_domainCheckDone_checking hu h hd⟩
  case unchecked =>
    rintro s u d us ok rfl h
    exact if_neg fun hp => h hp.1
  case rejoin => exact fun s d => ⟨fun h hw => if_pos ⟨h, hw⟩, fun h => if_neg fun hp => h hp.1⟩
  case hang =>
    intro s u v d us hu h1 h2
    refine ⟨?_, fun h hv => ?_⟩
    · subst hu
      exact fun h => if_pos (.inr (.inr h))
    · rw [exec_fabricHang_lit hu h1 h2 h, ← hv]
      exact ⟨fun hrun hr => by rw [State.runFault_resettable hrun hr], fun hrun hr => by rw [State.runFault_fixed hrun hr], fun _ _ => rfl⟩
  case reply =>
    intro s a b r e
    refine ⟨fun h => if_pos (.inl h), if_neg ?_, fun hr he => if_pos (.inr ⟨hr, he⟩), fun he => if_neg ?_⟩
    · rintro (h | h)
      · exact h rfl
      · exact h.1 rfl
    · rintro (h | h)
      · exact h rfl
      · exact h.2 he
  case retry =>
    exact fun s d => ⟨fun ho hr => if_pos ⟨ho, hr⟩, fun ho => if_neg fun hp => Bool.false_ne_true (ho.symm.trans hp.1)⟩
  case busy =>
    rintro s u op d us ab st rfl h hop rfl
    exact ⟨(exec_pwrDreqOn hop).trans (congrArg _ (State.dreq_busy h)), congrArg _ (State.dreq_busy h), congrArg _ (State.dreq_busy h)⟩
  case begin =>
    rintro s u v w d us f rfl h hr rfl
    have hon := exec_pwrDreqOn (s := s) (d := d) (us := us) (.inl rfl)
    refine ⟨fun ha => hon.trans (congrArg _ (State.dreq_runs h hr ha)), fun st ha => hon.trans (congrArg _ (State.dreq_refused h hr ha)), ?_, fun ha => congrArg _ (State.dreq_runs h hr ha)⟩
    rintro rfl ha
    exact congrArg _ (State.dreq_runs h hr ha)

end Sys2Proof.Machine
end

section
/-!
PROOFS. CORECLK gating, levels, the regulator, throttling, entry and exit of the power states, wake sources, comparators, the ADC and the retention log
(chapter 15: R797, R802 to R805, R808, R811, R815, R817, R819 to R829, R838).
-/
namespace Sys2Proof.Machine
open Sys2Proof

section
variable {s u : State} {us : Nat}

/-! ### Levels -/

/-- At a pause of the link the level changes, and a `power level` that waits for it is answered (R802, R1046). -/
theorem exec_levelChangePause_asked {l : Nat} (hu : u = s.at us) (hl : u.pwr.levelTo = some l) : exec (.levelChangePause us) s =
    if !u.pauseOk then .next u
    else .next (((State.setLevel { u with pwr := { u.pwr with pauseUs := us } } l).finishFor .level
      (fun t => .ok t [] (State.setLevel { u with pwr := { u.pwr with pauseUs := us } } l).levelKv)).entryGo) := by
  change execLevelChangePause us s = _
  simp only [execLevelChangePause, ← hu, hl]

/-- At a level above PL1, awake, with no entry and no swatch run, the card is throttled one level down (R805). -/
theorem exec_throttleStep_above {t : Int} {v : State} (hu : u = s.at us) (hc : 2 ≤ u.get PWR_LEVEL.CUR) (he : u.pwr.entry = none)
    (hawake : u.asleep = false) (hrun : u.life.run = none)
    (hv : v = State.set { u with pwr := { u.pwr with fullLevel := if u.flag PWR_LEVEL.THROTTLED then u.pwr.fullLevel else u.get PWR_LEVEL.CUR } }
      PWR_LEVEL.THROTTLED 1) : exec (.throttleStep t us) s =
    .next ((v.levelAsk (u.get PWR_LEVEL.CUR - 1)).notify "power throttle" [("level", "PL" ++ dec (u.get PWR_LEVEL.CUR - 1)), ("t", decInt t)]) := by
  subst hv hu
  refine if_neg ?_
  rw [he, hawake, hrun]
  simpa using Nat.lt_of_succ_le hc

theorem exec_throttleRelease_throttled (hu : u = s.at us) (ht : u.flag PWR_LEVEL.THROTTLED = true) (he : u.pwr.entry = none) (hawake : u.asleep = false) :
    exec (.throttleRelease us) s =
      .next ((u.set PWR_LEVEL.THROTTLED 0).levelAsk (if u.pwr.regBad then u.pwr.fullLevel else u.get PWR_LEVEL.CFG)) := by
  subst hu
  refine if_neg ?_
  rw [ht, he, hawake]
  decide

/-! ### Entry and exit -/

theorem exec_pointOfNoReturn_entering {endUs : Nat} {e : PEntry} (hu : u = s.at us) (he : u.pwr.entry = some e) : exec (.pointOfNoReturn us endUs) s =
    if u.get PWR_STATE.STEP = 4 ∧ u.allDrained e = true then .next (u.goToSleep e endUs) else .next u := by
  change execPointOfNoReturn us endUs s = _
  simp only [execPointOfNoReturn, ← hu, he]

/-! ### Wake events -/

section
variable {src detail : Nat} (hu : u = s.clkTo us)
include hu

/-- Before the point of no return a wake event ends the entry (R815 to R817). -/
theorem State.wakeEvent_entering {e : PEntry} (he : u.pwr.entry = some e) : s.wakeEvent src detail us =
    ((u.refuseEntry e .pwrRefused 0xFF "WAKE").count PWR_PSCNT.WAKE_ABORTS 1).recordWake src detail e.target true false := by
  simp only [State.wakeEvent, ← hu, he]

section
variable (he : u.pwr.entry = none)
include he

theorem State.wakeEvent_awake (h : u.asleep = false) : s.wakeEvent src detail us = u := by
  simp only [State.wakeEvent, ← hu, he, h, Bool.not_false, if_true]

/-- In a power state a wake event is latched (R815). -/
theorem State.wakes_wakeEvent_asleep (h : u.asleep = true) :
    (s.wakeEvent src detail us).pwr.wakes = u.pwr.wakes ++ [{ src := src, detail := detail, us := us }] := by
  simp only [State.wakeEvent, ← hu, he, h, Bool.not_true, Bool.false_eq_true, if_false]
  split
  · rfl
  · split <;> rfl

end

end

/-! ### Comparators -/

section
variable {n : Nat} {out : Bool} (hu : u = s.at us) (hn : n < 8)
include hu hn

/-- A comparator other than ACMP1 and ACMP2 that leaves its polarity shows its output alone (R826). -/
theorem exec_acmpCrossing_away (h1 : n ≠ 1) (h2 : n ≠ 2) (hp : out ≠ u.flag (PWR_ACMP.POL n)) :
    exec (.acmpCrossing n out us) s = .next (u.setFlag (PWR_ACMP.OUT n) out) := by
  change execAcmpCrossing n out us s = _
  simp only [execAcmpCrossing, ← hu, Nat.not_le.2 hn, h1, h2, beq_eq_false_iff_ne.2 hp, decide_false, Bool.or_self, Bool.false_and, Bool.false_eq_true,
    if_false]

/-- A comparator other than ACMP0 that takes its polarity has crossed, and wakes the card where it may (R825 to R827). -/
theorem exec_acmpCrossing_towards {v : State} (h0 : n ≠ 0) (hp : out = u.flag (PWR_ACMP.POL n))
    (hv : v = (u.setFlag (PWR_ACMP.OUT n) out).set (PWR_ACMP.CROSS n) 1) :
    exec (.acmpCrossing n out us) s = .next (if v.flag (PWR_ACMP.WAKE n) then v.wakeEvent 5 n us else v) := by
  have hdir : (decide (n = 1) || decide (n = 2) || (out == u.flag (PWR_ACMP.POL n))) = true := by
    rw [beq_iff_eq.2 hp, Bool.or_true]
  change execAcmpCrossing n out us s = _
  simp only [execAcmpCrossing, ← hu, Nat.not_le.2 hn, hdir, ← hv, bne_iff_ne.2 h0, if_false, if_true, Bool.true_and, Bool.and_true]

end

/-! ### The retention log -/

/-- The log's fields share no bit, so each holds its own start (R823). -/
theorem State.retlogClear_starts (h : s.canonical = true) :
    s.retlogClear.get PWR_RETLOG.MAX = 0 ∧ s.retlogClear.get PWR_RETLOG.MIN = 0xFFF := by
  have hmax := State.set_wf s PWR_RETLOG.MAX 0 h
  unfold State.retlogClear
  rw [State.get_set_apart _ PWR_RETLOG.MAX PWR_RETLOG.MIN _ (by decide) hmax, State.get_set_same _ PWR_RETLOG.MAX _ (by decide) h,
    State.get_set_same _ PWR_RETLOG.MIN _ (by decide) hmax]
  decide

end

/-- Settles O51: each event is a choice on where the level, the entry or the sleep of the card stands. -/
theorem powerEvents : Obligations.PowerEvents := by
  unfold Obligations.PowerEvents
  refine ⟨?gate, ?pause, ?regulator, ?alert, ?throttle, ?release, ?noReturn, ?exit, ?timer, ?comparator, ?adc, ?retlog, ?wake⟩
  case gate =>
    intro s
    exact ⟨fun ha hs he hq => if_pos ⟨ha, hs, he, hq⟩, fun hq => if_neg fun ⟨_, _, _, hquiet⟩ => Bool.false_ne_true (hq.symm.trans hquiet), rfl⟩
  case pause =>
    intro s u v us l hu hl
    rw [exec_levelChangePause_asked hu hl]
    refine ⟨fun hp => by rw [hp]; rfl, ?_⟩
    rintro hp rfl
    rw [hp]
    rfl
  case regulator =>
    rintro s u us rfl
    refine ⟨fun hl hb => if_pos ⟨hl, hb⟩, fun hl => if_neg fun ⟨hsome, _⟩ => ?_⟩
    rw [hl] at hsome
    exact Bool.false_ne_true hsome
  case alert =>
    intro s st us
    change (_ → execPmbusAlert st us s = _) ∧ (_ → execPmbusAlert st us s = _)
    exact ⟨fun h => by simp only [execPmbusAlert, h, if_true], fun h => by simp only [execPmbusAlert, h, Bool.false_eq_true, if_false]⟩
  case throttle =>
    rintro s u v t us c hu rfl
    refine ⟨fun hc he hs hr hv => exec_throttleStep_above hu hc he hs hr hv, ?_⟩
    subst hu
    exact fun hc => if_pos (.inr (.inr (.inr hc)))
  case release =>
    intro s u us hu
    refine ⟨exec_throttleRelease_throttled hu, ?_⟩
    subst hu
    exact fun h => if_pos (.inl h)
  case noReturn =>
    intro s u us endUs e hu he
    rw [exec_pointOfNoReturn_entering hu he]
    exact ⟨fun hstep hd => if_pos ⟨hstep, hd⟩, fun hd => if_neg fun ⟨_, hall⟩ => Bool.false_ne_true (hd.symm.trans hall)⟩
  case exit =>
    rintro s u us rfl
    exact ⟨fun hs hw he => if_pos ⟨hs, hw, he⟩, fun hw => if_neg fun ⟨_, hwakes, _⟩ => hwakes hw⟩
  case timer =>
    intro s us
    refine ⟨fun hs ht hd => if_pos ⟨hs, ht, hd⟩, fun ht => if_neg fun ⟨_, hpos, _⟩ => ?_⟩
    exact absurd hpos (by rw [ht]; decide)
  case comparator =>
    intro s u v us o hu
    refine ⟨?_, fun n hn h1 h2 hp => exec_acmpCrossing_away hu hn h1 h2 hp, fun n hn h0 hp hv => exec_acmpCrossing_towards hu hn h0 hp hv⟩
    subst hu
    exact fun n hn => if_pos hn
  case adc =>
    rintro s u ch c us rfl
    exact ⟨fun h => if_pos (.inl h), fun h => if_neg (by omega), fun h hs => if_pos (.inr ⟨h, hs⟩)⟩
  case retlog =>
    intro s hs
    obtain ⟨hmax, hmin⟩ := State.retlogClear_starts hs
    exact ⟨_, rfl, hmax, hmin, rfl, rfl⟩
  case wake =>
    exact fun s u src d us hu => ⟨fun e => State.wakeEvent_entering hu, State.wakeEvent_awake hu, State.wakes_wakeEvent_asleep hu⟩

end Sys2Proof.Machine
end

section
/-!
PROOFS. Ring frames, hop acknowledgements and go-back (chapters 15 and 16: R815, R857 to R863, R896, R897).
-/
namespace Sys2Proof.Machine
open Sys2Proof

section
variable {s : State} {p : Nat}

/-! ### Frames -/

section
variable {u v : State} {us : Nat} {rx : RxInfo} {f : RFrame}

theorem exec_ringFrameReceive_ignored (hu : u = s.at us) (h : (u.hop p).phase ≠ .up ∨ u.joined = false ∨ f.cls = 4 ∨ 2 ≤ p) :
    exec (.ringFrameReceive p rx f us) s = .next u := by
  subst hu
  exact if_pos (by tauto)

/-- A frame that comes over a hop that is up is judged, and a good one is routed (R857 to R863, R896). -/
theorem exec_ringFrameReceive_heard {ok : Bool} (hu : u = s.at us) (hp : p < 2) (hj : u.joined = true) (hup : (u.hop p).phase = .up) (h0 : f.cls ≠ 0)
    (h4 : f.cls ≠ 4) (hv : u.ringJudge p rx f.payload.length = (v, ok)) : exec (.ringFrameReceive p rx f us) s =
      if !ok then .next v
      else .next (if f.cls = 2 ∧ f.dst = (v.routeFrame p f).ownSlot then (v.routeFrame p f).wakeEvent 4 p us else v.routeFrame p f) := by
  change execRingFrameReceive p rx f us s = _
  simp only [execRingFrameReceive, ← hu, Nat.not_le.2 hp, hj, hup, h0, h4, hv, ne_eq, not_true_eq_false, Bool.true_eq_false, or_self, if_false]

end

/-! ### Acknowledgements -/

section
variable {cs : List (Nat × Nat)} {e : Nat}

theorem exec_seamAck_ignored (h : 2 ≤ p ∨ (s.hop p).phase ≠ .up) : exec (.seamAckReceive p cs) s = .next s ∧ exec (.seamRepReceive p cs) s = .next s ∧
    exec (.seamGoBackTimeout p) s = .next s :=
  ⟨if_pos h, if_pos h, if_pos h⟩

section
variable (hp : p < 2) (hup : (s.hop p).phase = .up)
include hp hup

theorem not_hopIgnores : ¬ (2 ≤ p ∨ (s.hop p).phase ≠ .up) :=
  not_or.2 ⟨Nat.not_le.2 hp, not_not.2 hup⟩

/-- An ACK or a REP whose copies agree on nothing is dropped (R282, R861). -/
theorem exec_seamAck_lost (h : ackTaken cs = none) : exec (.seamAckReceive p cs) s = .next s ∧ exec (.seamRepReceive p cs) s = .next s := by
  change execSeamAckReceive p cs s = _ ∧ execSeamRepReceive p cs s = _
  simp only [execSeamAckReceive, execSeamRepReceive, if_neg (not_hopIgnores hp hup), h, and_self]

/-- An ACK frees what it confirms; a REP has the port go back to what it names (R857, R861). -/
theorem exec_seamAck_taken (h : ackTaken cs = some e) :
    exec (.seamAckReceive p cs) s = .next (s.hopAcked p e) ∧ exec (.seamRepReceive p cs) s = .next (s.hopBack p e) := by
  change execSeamAckReceive p cs s = _ ∧ execSeamRepReceive p cs s = _
  simp only [execSeamAckReceive, execSeamRepReceive, if_neg (not_hopIgnores hp hup), h, and_self]

theorem exec_seamGoBackTimeout_up : exec (.seamGoBackTimeout p) s = match (s.hop p).unacked with
    | [] => .next s
    | i :: _ => .next (s.hopBack p i.seq) :=
  if_neg (not_hopIgnores hp hup)

end

end

end

/-- Settles O53: an event of a hop acts where the hop is up, and a frame goes as it is judged. -/
theorem ringFrames : Obligations.RingFrames := by
  unfold Obligations.RingFrames
  refine ⟨fun s u p us rx f => exec_ringFrameReceive_ignored, ?heard, fun s p cs => exec_seamAck_ignored, ?acks⟩
  case heard =>
    intro s u v p us rx f hu hp hj hup h0 h4
    refine ⟨fun hv => ?_, fun hv => ?_⟩
    all_goals rw [exec_ringFrameReceive_heard hu hp hj hup h0 h4 hv]
    · rfl
    · rw [if_neg (by decide)]
      exact ⟨fun h2 => by rw [if_neg (fun h => h2 h.1)], fun h2 hd => by rw [if_pos ⟨h2, hd⟩]⟩
  case acks =>
    intro s p cs hp hup
    refine ⟨exec_seamAck_lost hp hup, fun e => exec_seamAck_taken hp hup, fun h => ?_, fun i r h => ?_⟩
    all_goals rw [exec_seamGoBackTimeout_up hp hup, h]

end Sys2Proof.Machine
end

section
/-!
PROOFS. The verb `twin` (chapters 16 and 20: R868, R879 to R882, R886, R1075 to R1084).
-/
namespace Sys2Proof.Machine
open Sys2Proof

section
variable {s u : State} {ln : Ln} {us : Nat}

/-! ### `twin show` -/

/-- What `twin show` says of the card's role (R1084). -/
def State.twinRole (s : State) : String :=
  match s.twin.pairing with
  | some g => if g.primary then "primary" else "secondary"
  | none => "none"

/-- What `twin show` says of the pairing that stands (R1084). -/
def State.pairedKv (s : State) : List KV :=
  match s.twin.pairing with
  | some g => [("partner", slotId g.slot), ("key", keySlotId (512 + g.wk)), ("tseq", dec s.tseqShown), ("tconf", dec s.tconfShown),
      ("darn_remain", dec s.darnRemain)]
  | none => []

/-- What `twin show` says of the pairing that is pending (R1084). -/
def State.pendingKv (s : State) (us : Nat) : List KV :=
  match s.twin.offer with
  | some (g, at_) => [("pending", slotId g.slot), ("ttl", dec ((at_ + 60000000 - us) / 1000000))]
  | none => []

theorem exec_twinShow (hu : u = s.taken ln us) (h : s.runs (Say.twinShow us) ln us (reading rolesOHM []) false) : exec (.twinShow ln us) s =
    .next (u.reply ln.path (.ok ln.tag [] ([("role", u.twinRole), ("state", twinName u.twinState)] ++ u.pairedKv ++ u.pendingKv us))) := by
  subst hu
  exact State.cmd_ok h rfl rfl

/-! ### `twin pair` -/

/-- The state in which a pairing is pending and its offer is sent (R1076, R1077; which of the two was second is an operand: assumption log
entry 132). -/
def State.pairingAsked (s : State) (slot wk us : Nat) (primary second : Bool) : State :=
  State.sendOffer { s with twin := { s.twin with
    offer := some ({ slot := slot, serial := 0, wk := wk, primary := primary }, us), offerFirst := !second, offerReq := none } }

section
variable {slot wk : Nat} {primary second : Bool} (h : s.runs (Say.twinPair slot primary wk second us) ln us (changing [.operator, .mantle] []) false)
include h

theorem exec_twinPair_refused {st : Status} (hr : (s.taken ln us).pairRefusal slot wk primary = some st) :
    exec (.twinPair ln slot primary wk second us) s = .next ((s.taken ln us).refused ln st) :=
  State.cmd_refused h rfl (by simp only [hr])

section
variable (hr : (s.taken ln us).pairRefusal slot wk primary = none)
include hr

/-- The first of the two is answered at once. -/
theorem exec_twinPair_first (h2 : second = false) : exec (.twinPair ln slot primary wk second us) s =
    .next (((s.taken ln us).pairingAsked slot wk us primary second).done ln [] [("state", "pending"), ("ttl", "60")]) := by
  subst h2
  exact State.cmd_done h rfl (by simp only [hr]; rfl)

/-- The second of the two waits for the pairing. -/
theorem exec_twinPair_second (h2 : second = true) : exec (.twinPair ln slot primary wk second us) s =
    .next (((s.taken ln us).pairingAsked slot wk us primary second).waiting ln .pairing) := by
  subst h2
  exact State.cmd_wait h rfl (by simp only [hr]; rfl)

end

end

/-! ### `twin offer` -/

section
variable {n wk kcvNum cap serial at_ : Nat} {g : Pairing}

/-- The form of an offer: it takes the configuration lock unless the card's own `twin pair` holds it already (R1077). -/
def State.offerForm (s : State) : Form :=
  { changing := (s.awaiting .pairing).isNone, roles := [.operator, .host, .mantle, .service, .none], needs := [] }

/-- The body of an offer that the card's own pending pairing names: the would-be primary judges it (R868, R1077). -/
def State.takeOffer (s : State) (g : Pairing) (wk kcvNum cap serial : Nat) : State × Result :=
  match s.judgeOffer g wk kcvNum cap with
  | some st => (s.pairRefused g st, .fail st)
  | none => (s.pairedPrimary g serial, .ok [] [])

theorem exec_twinOffer_named (hp : ln.path = .seam n) (ho : s.twin.offer = some (g, at_)) (hg : g.slot = n) : exec (.twinOffer ln wk kcvNum cap serial us) s =
    s.cmd (Say.twinOffer wk kcvNum cap serial us) ln us s.offerForm (fun t => t.takeOffer g wk kcvNum cap serial) := by
  change execTwinOffer ln wk kcvNum cap serial us s = _
  simp only [execTwinOffer, ho, hp, hg, if_true]
  rfl

theorem State.takeOffer_good (h : s.judgeOffer g wk kcvNum cap = none) : s.takeOffer g wk kcvNum cap serial = (s.pairedPrimary g serial, .ok [] []) := by
  simp only [State.takeOffer, h]

theorem State.takeOffer_bad {st : Status} (h : s.judgeOffer g wk kcvNum cap = some st) :
    s.takeOffer g wk kcvNum cap serial = (s.pairRefused g st, .fail st) := by
  simp only [State.takeOffer, h]

theorem State.offerForm_changing (h : s.awaiting .pairing = none) : s.offerForm.changing = true := by
  rw [State.offerForm, h]
  rfl

theorem State.offerForm_reading (h : s.awaiting .pairing ≠ none) : s.offerForm.changing = false :=
  Option.isNone_eq_false_iff.2 (Option.isSome_iff_ne_none.2 h)

end

/-! ### `twin unpair` -/

/-- A primary that mirrors sends HOLD, and the line item that ends the twinset (R882, R1080). -/
def State.unpairAsked (s : State) : State :=
  State.mirrorLine { s.sendHold 1000 with twin := { (s.sendHold 1000).twin with unpairSeq := some (s.sendHold 1000).twin.txNext } } "twin unpair"

theorem exec_twinUnpair_mirroring (h : s.runs (Say.twinUnpair us) ln us (changing [.operator, .mantle] []) false) (hp : (s.taken ln us).isPrimary = true)
    (hm : (s.taken ln us).mirrors = true) : exec (.twinUnpair ln us) s = .next ((s.taken ln us).unpairAsked.waiting ln .unpair) :=
  State.cmd_wait h rfl ((if_neg (by rw [hp]; decide)).trans (if_pos hm))

/-! ### `twin swap` -/

/-- HOLD is sent, and the swap begins (R1081). -/
def State.swapAsked (s : State) (us : Nat) : State :=
  State.swapGo { s.sendHold 1000 with twin := { (s.sendHold 1000).twin with swapUs := some us, swapSeq := none } }

theorem exec_twinSwap_mirroring (h : s.runs (Say.twinSwap us) ln us (changing [.operator, .mantle] []) false) (hp : (s.taken ln us).isPrimary = true)
    (hm : (s.taken ln us).mirroring = true) : exec (.twinSwap ln us) s = .next (((s.taken ln us).swapAsked us).waiting ln .swap) :=
  State.cmd_wait h rfl (if_neg (by rw [hp, hm]; decide))

/-! ### `twin integ` -/

section
variable {p : Nat} {k : Pocket} (hk : s.pockets.lookup p = some k) (hd : k.state ≠ .deleting)
include hk hd

/-- The slot serves the Pocket's integrity: it is loaded with a GMAC key of that owner (R886, R1083). -/
theorem State.setInteg_named {c : Nat} (hc : c < 512) (hl : (s.slot c).state = .loaded) (ho : (s.slot c).owner = p)
    (hkind : (s.slot c).kind = 3 ∨ (s.slot c).kind = 4) : s.setInteg p (some c) =
      ((s.setPocket p { k with integSlot := some c }).tellInteg p (some c), .ok [] [("pocket", pocketId p), ("slot", keySlotId c)]) := by
  have hgmac : gmacKinds.contains (s.slot c).kind = true := by rcases hkind with h | h <;> rw [h] <;> rfl
  simp only [State.setInteg, hk, hd, hc, hl, ho, hgmac, decide_true, beq_self_eq_true, Bool.and_self, Bool.not_true, Bool.false_eq_true, if_false]

theorem State.setInteg_cleared : s.setInteg p none =
    ((s.setPocket p { k with integSlot := none }).tellInteg p none, .ok [] [("pocket", pocketId p), ("slot", "none")]) := by
  simp only [State.setInteg, hk, hd, Bool.not_true, Bool.false_eq_true, if_false]

theorem State.setInteg_empty {c : Nat} (hc : (s.slot c).state = .empty) : s.setInteg p (some c) = (s, .fail .keyEmpty) := by
  have hbad : (decide (c < 512) && (s.slot c).state == .loaded && (s.slot c).owner == p && gmacKinds.contains (s.slot c).kind) = false := by
    rw [hc]
    simp
  simp only [State.setInteg, hk, hd, hbad, Bool.not_false, if_false, if_true]

end

end

/-- Settles O25: each form is a row of its verb; the pairing, the offer and the role of the card decide between its effect, a wait and a refusal. -/
theorem twinCommands : Obligations.TwinCommands := by
  unfold Obligations.TwinCommands
  refine ⟨?shown, ?pending, ?pair, fun s u ln slot wk us primary second st hu h hr => ?refusedPair, ?offer, ?unpair, ?swap, ?takeover, ?integ⟩
  case shown =>
    intro s u ln us hu h ho
    rw [exec_twinShow hu h, State.pendingKv, ho]
    refine ⟨fun hg => ?_, fun g hg => ?_⟩
    all_goals simp only [State.twinRole, State.pairedKv, hg, List.append_nil, List.cons_append, List.nil_append]
  case pending =>
    intro s u ln us at_ g hu h hg ho
    rw [exec_twinShow hu h]
    simp only [State.twinRole, State.pairedKv, State.pendingKv, hg, ho, List.append_nil, List.cons_append, List.nil_append]
  case pair =>
    rintro s u v ln slot wk us primary second rfl h hr rfl
    exact ⟨exec_twinPair_first h hr, exec_twinPair_second h hr⟩
  case refusedPair =>
    subst hu
    exact exec_twinPair_refused h hr
  case offer =>
    rintro s u ln n wk kcvNum cap serial at_ us g rfl hp ho hg h
    rw [exec_twinOffer_named hp ho hg]
    exact ⟨fun hj ha => State.cmd_done h (State.offerForm_changing ha) (State.takeOffer_good hj),
      fun hj ha => State.cmd_ok h (State.offerForm_reading ha) (State.takeOffer_good hj),
      fun st hj ha => State.cmd_refused h (State.offerForm_changing ha) (State.takeOffer_bad hj),
      fun st hj ha => State.cmd_fail h (State.offerForm_reading ha) (State.takeOffer_bad hj)⟩
  case unpair =>
    rintro s u v ln us rfl h
    refine ⟨fun hp => State.cmd_refused h rfl (if_pos (by rw [hp]; rfl)), ?_, fun hp hm => ?_⟩
    · rintro hp hm rfl
      exact exec_twinUnpair_mirroring h hp hm
    · exact State.cmd_done h rfl ((if_neg (by rw [hp]; decide)).trans (if_neg (Bool.eq_false_iff.1 hm)))
  case swap =>
    rintro s u v ln us rfl h
    refine ⟨fun hbar => State.cmd_refused h rfl (if_pos ?_), ?_⟩
    · rcases hbar with hp | hm
      · rw [hp]; rfl
      · rw [hm, Bool.not_false, Bool.or_true]
    · rintro hp hm rfl
      exact exec_twinSwap_mirroring h hp hm
  case takeover =>
    rintro s u ln us rfl h
    refine ⟨fun hst hs hp hh => State.cmd_done h rfl (if_pos ⟨hst, hs, hp, hh⟩), fun hbar => State.cmd_refused h rfl (if_neg ?_)⟩
    rintro ⟨hst, hs, hp, hh⟩
    rcases hbar with hb | hb | hb | hb
    · exact hb hst
    · exact Bool.false_ne_true (hb.symm.trans hs)
    · exact Bool.false_ne_true (hb.symm.trans hp)
    · exact Nat.not_lt.2 hh hb
  case integ =>
    rintro s u ln p us k rfl hn hk hd
    exact ⟨fun c hc hl ho hkind h => State.confCmd_done h rfl hn (State.setInteg_named hk hd hc hl ho hkind),
      fun h => State.confCmd_done h rfl hn (State.setInteg_cleared hk hd),
      fun c hc h => State.confCmd_refused h rfl hn (State.setInteg_empty hk hd hc)⟩

end Sys2Proof.Machine
end

section
/-!
PROOFS. The verbs `ring` and `mantle` (chapters 16, 17 and 20: R845, R854, R857, R864, R895, R932, R1085 to R1092).
-/
namespace Sys2Proof.Machine
open Sys2Proof

section
variable {s u : State} {ln : Ln} {us : Nat}

/-! ### `ring retrain` -/

section
variable {east west : Bool}

/-- The port that the line of a Seam path came in on (R857). -/
def State.cameOn (s : State) : Path → Option Nat
  | .seam n => s.seam.linePort.lookup n
  | _ => none

theorem State.cameOn_elsewhere {p : Path} (h : ∀ n, p ≠ .seam n) : s.cameOn p = none := by
  cases p with
  | collar | mgt => rfl
  | seam n => exact absurd rfl (h n)

/-- The hops named are negotiated anew, the east one first (R857, R1086). -/
def State.retrained (s : State) (east west : Bool) : State :=
  if west then (if east then s.negotiateHop 0 else s).negotiateHop 1 else if east then s.negotiateHop 0 else s

/-- `ring retrain` is for an inserted card, and not for the port that its line came in on. -/
def State.retrainBarred (s : State) (p : Path) (east west : Bool) : Bool :=
  !s.joined || (east && s.cameOn p == some 0) || (west && s.cameOn p == some 1)

section
variable (h : s.runs (Say.ringRetrain east west us) ln us (changing [.operator, .mantle] []) false)
include h

theorem exec_ringRetrain_done (hb : (s.taken ln us).retrainBarred ln.path east west = false) : exec (.ringRetrain ln east west us) s =
    .next (((s.taken ln us).done ln [] []).retrained east west) :=
  State.cmdThen_done h rfl (if_neg (Bool.eq_false_iff.1 hb))

theorem exec_ringRetrain_refused (hb : (s.taken ln us).retrainBarred ln.path east west = true) :
    exec (.ringRetrain ln east west us) s = .next ((s.taken ln us).refused ln .wrongState) :=
  State.cmdThen_refused h rfl (if_pos hb)

end

theorem State.retrainBarred_joined (hj : s.joined = true) (hp : ∀ n, ln.path ≠ .seam n) : s.retrainBarred ln.path east west = false := by
  rw [State.retrainBarred, hj, State.cameOn_elsewhere hp]
  cases east <;> cases west <;> rfl

theorem State.retrainBarred_out (hj : s.joined = false) : s.retrainBarred ln.path east west = true := by
  rw [State.retrainBarred, hj]
  rfl

theorem State.retrainBarred_port {n : Nat} (hp : ln.path = .seam n)
    (h : east = true ∧ s.seam.linePort.lookup n = some 0 ∨ west = true ∧ s.seam.linePort.lookup n = some 1) :
    s.retrainBarred ln.path east west = true := by
  rw [State.retrainBarred, hp, State.cameOn]
  rcases h with ⟨hport, hcame⟩ | ⟨hport, hcame⟩ <;> simp [hport, hcame]

end

/-! ### `ring cfg` -/

section
variable {join : Option Bool} {force : Bool} {rate lanes share : Option Nat}

/-- The settings that a `ring cfg` names are kept, and the ports take them (R845, R854, R864, R1087). -/
def State.putRingCfg (s : State) (join : Option Bool) (rate lanes share : Option Nat) : State :=
  ((((s.keepIf SEAM_CFG.RATE_MAX rate).keepIf SEAM_CFG.ONE_LANE (lanes.map (fun n => 2 - n))).keepIf SEAM_CFG.DARN_SHARE share).keepIf
    SEAM_CFG.JOIN (join.map bit01)).seamCheck

/-- May the card leave the ring by this line? Not by a Seam line; and a twin, a Mantle and a standby only by force (R845). -/
def State.mayLeave (s : State) (p : Path) (force : Bool) : Prop :=
  (∀ n, p ≠ .seam n) ∧ (force = true ∨ (s.twin.pairing = none ∧ s.get SEAM_MANTLE.STATE ≠ 4 ∧ s.get SEAM_MANTLE.STATE ≠ 2))

theorem exec_ringCfg_inRange {v w : State} (hu : u = s.taken ln us)
    (h : s.runs (Say.ringCfg join force rate lanes share us) ln us (changing [.operator, .mantle] []) false) (hrate : within rate 0 2 = true)
    (hlanes : within lanes 1 2 = true) (hshare : within share 10 90 = true) (hleave : join = some false → u.mayLeave ln.path force)
    (hv : v = u.putRingCfg join rate lanes share)
    (hw : w = if join = some false ∧ u.get SEAM_STAT.RING ≠ 0 then v.notify "ring left" [("reason", "cmd")] else v) :
    exec (.ringCfg ln join force rate lanes share us) s = .next (w.done ln []
      [("join", onOff (w.flag SEAM_CFG.JOIN)), ("rate_max", ["2.5", "5.0", "10.0"].getD (w.get SEAM_CFG.RATE_MAX) "10.0"),
       ("lanes", if w.flag SEAM_CFG.ONE_LANE then "1" else "2"), ("darn_share", dec (w.get SEAM_CFG.DARN_SHARE))]) := by
  subst hw hv hu
  refine State.cmd_done h rfl ((if_neg ?_).trans (if_neg ?_))
  · rw [hrate, hlanes, hshare]
    decide
  · rintro ⟨hj, hbar⟩
    obtain ⟨hpath, hfree⟩ := hleave hj
    rcases hbar with hseam | ⟨hforce, hbound⟩
    · revert hseam
      split
      next hp => exact fun _ => hpath _ hp
      next => exact Bool.false_ne_true
    · rcases hfree with hf | ⟨hg, h4, h2⟩
      · exact Bool.false_ne_true (hforce.symm.trans hf)
      · rw [hg, beq_eq_false_iff_ne.2 h4, beq_eq_false_iff_ne.2 h2] at hbound
        exact Bool.false_ne_true hbound

end

/-! ### `mantle relay` -/

section
variable {slot : Nat} {text : String} (h : s.runs (Say.mantleRelay slot text us) ln us (reading [.operator, .host] []) false)
include h

/-- The active Mantle sends a member the line, and the reply comes when the member has answered (R895, R1089, R1090). -/
theorem exec_mantleRelay_sent {req : Nat} {v : State} (hu : u = s.taken ln us) (hm : u.get SEAM_MANTLE.STATE = 4) (hown : slot ≠ u.ownSlot)
    (hmem : (u.get SEAM_ROSTER.MASK).testBit slot = true) (hlen : text.toList.length ≤ 62)
    (hok : malformedPayload (text.toList.map Char.toNat) = false) (hne : text.toList ≠ []) (hreq : req = (u.seam.rseq.lookup 2).getD 0)
    (hv : v = State.ringSend { u with seam := { u.seam with relay := u.seam.relay ++ [{ slot := slot, req := req, us := us, lines := [] }] } } 2 1 slot []
      ((withCheck true text).toList.map (fun c => BitVec.ofNat 8 c.toNat))) : exec (.mantleRelay ln slot text us) s =
    .next (v.setSession ln.path { v.session ln.path with await := some { tag := ln.tag, what := .relay req, sinceUs := v.clk } }) := by
  have hmember : ¬ (slot = u.ownSlot ∨ (u.get SEAM_ROSTER.MASK).testBit slot = false) := by
    rw [hmem]
    exact not_or.2 ⟨hown, by decide⟩
  have htext : ¬ (text.toList.map Char.toNat = [] ∨ 62 < (text.toList.map Char.toNat).length ∨ malformedPayload (text.toList.map Char.toNat) = true) := by
    rw [hok, List.map_eq_nil_iff, List.length_map]
    exact not_or.2 ⟨hne, not_or.2 ⟨Nat.not_lt.2 hlen, by decide⟩⟩
  subst hv hreq hu
  exact State.cmd_awaits h rfl ((if_neg (not_not.2 hm)).trans ((if_neg hmember).trans (if_neg htext)))

end

end

/-- Settles O26: each form is a row of its verb; the ring, the card's part in the shelf and its line's path decide what it answers. -/
theorem ringAndMantleCommands : Obligations.RingAndMantleCommands := by
  unfold Obligations.RingAndMantleCommands
  refine ⟨?shown, ?retrain, ?cfg, ?mantle, ?relay, ?read⟩
  case shown =>
    rintro s u ln us rfl h
    exact ⟨State.cmd_ok h rfl rfl, rfl⟩
  case retrain =>
    rintro s u v ln east west us rfl h rfl
    exact ⟨fun hj hp => exec_ringRetrain_done h (State.retrainBarred_joined hj hp), fun hj => exec_ringRetrain_refused h (State.retrainBarred_out hj),
      fun n hp _ hport => exec_ringRetrain_refused h (State.retrainBarred_port hp hport)⟩
  case cfg =>
    intro s u v ln join force rate lanes share us hu h hrate hlanes hshare hleave hv
    exact ⟨_, rfl, exec_ringCfg_inRange hu h hrate hlanes hshare hleave hv rfl⟩
  case mantle =>
    rintro s u ln us st rfl h rfl
    exact State.cmd_ok h rfl rfl
  case relay =>
    intro s u ln slot us req text hu h
    refine ⟨fun hm => ?_, fun hm hown hmem hlen hok hne hreq => ⟨_, rfl, exec_mantleRelay_sent h hu hm hown hmem hlen hok hne hreq rfl⟩⟩
    subst hu
    exact State.cmd_fail h rfl (if_pos hm)
  case read =>
    rintro s u ln slot p us minute stored rows rfl h
    refine ⟨fun h4 h2 => State.cmd_fail h rfl (if_pos ⟨h4, h2⟩), ?_⟩
    rintro hm hslot hp rfl rfl
    exact ⟨_, State.cmd_ok h rfl ((if_neg (by tauto)).trans (if_neg (by omega))), rfl⟩

end Sys2Proof.Machine
end

section
/-!
PROOFS. Joining the ring and negotiating hops (chapter 16: R843, R845, R847 to R849, R851 to R859, R888).
-/
namespace Sys2Proof.Machine
open Sys2Proof

section
variable {s u : State} {us : Nat}

/-! ### Joining the ring -/

/-- The token has come, no pause of the clock is under way, and the card has not lately left the ring: a card that monitors and may join takes the mode
in which both ports have locked (R847). -/
theorem State.insertOk_of_locked {t : Nat} {m : Nat × Bool} (hm : s.monitoring = true) (hj : s.mayJoin = true) (ht : s.seam.tokenUs = some t)
    (h1 : t ≤ us) (h2 : us ≤ t + 5) (hl : s.seam.leftUs = none) (hp : us < s.pwr.pauseUs ∨ s.pwr.pauseUs + 12 ≤ us)
    (he : s.seam.east.locked = some m) (hw : s.seam.west.locked = some m) : s.insertOk us = some m := by
  have hpause : (decide (s.pwr.pauseUs ≤ us) && decide (us < s.pwr.pauseUs + 12)) = false := by
    rw [Bool.and_eq_false_iff, decide_eq_false_iff_not, decide_eq_false_iff_not]
    omega
  simp only [State.insertOk, hm, hj, ht, h1, h2, hl, hpause, he, hw, decide_true, Bool.and_self, Bool.not_false, if_true]

theorem State.insertOk_none (h : s.monitoring = false ∨ s.mayJoin = false ∨ s.seam.tokenUs = none ∨ s.seam.east.locked ≠ s.seam.west.locked) :
    s.insertOk us = none := by
  unfold State.insertOk
  dsimp only
  rcases h with h | h | h | h
  · simp only [h, Bool.false_and, Bool.false_eq_true, if_false]
  · simp only [h, Bool.and_false, Bool.false_eq_true, if_false]
  · simp only [h, Bool.and_false, Bool.false_and, Bool.false_eq_true, if_false]
  · revert h
    cases s.seam.east.locked <;> cases s.seam.west.locked
    case some.some a b =>
      intro h
      simp only [if_neg (fun hab : a = b => h (congrArg some hab)), ite_self]
    all_goals exact fun _ => ite_self _

/-- A port joins in the mode that both have locked in (R847, R888). -/
def State.joinPort (m : Nat × Bool) (s : State) (p : Nat) : State :=
  ((s.setMode p m.1 m.2).seamOut p (.hop ((s.setMode p m.1 m.2).hopPayload p 0x24 0 0))).setPhase p .up

theorem exec_ringInsert_joins {m : Nat × Bool} (hu : u = s.at us) (h : u.insertOk us = some m) :
    exec (.ringInsert us) s = .next ((((u.openPorts.joinPort m 0).joinPort m 1).joinedNow us).twinGo) := by
  change execRingInsert us s = _
  simp only [execRingInsert, ← hu, h]
  rfl

theorem exec_ringInsert_waits (hu : u = s.at us) (h : u.insertOk us = none) : exec (.ringInsert us) s = .next u := by
  change execRingInsert us s = _
  simp only [execRingInsert, ← hu, h]

/-- A card that may join and whose ports have not locked alike forms the ring itself (R848; the time is not bound: assumption log entry 58). -/
theorem exec_ringFormTimeout_forms (hu : u = s.at us) (hm : u.monitoring = true) (hj : u.mayJoin = true)
    (hl : u.seam.east.locked = none ∨ u.seam.east.locked ≠ u.seam.west.locked) :
    exec (.ringFormTimeout us) s = .next (((u.openPorts.negotiateHop 0).negotiateHop 1).joinedNow us) := by
  have hsame : (u.seam.east.locked.isSome && u.seam.east.locked == u.seam.west.locked) = false := by
    rcases hl with hl | hl
    · rw [hl]
      rfl
    · rw [beq_eq_false_iff_ne.2 hl, Bool.and_false]
  subst hu
  refine if_neg ?_
  rw [hm, hj]
  simpa using hsame

/-! ### Frames of a hop -/

section
variable {p : Nat} {pl : Bytes} {ls : List LaneTrain}

theorem exec_hopFrames_out (h : 2 ≤ p ∨ s.joined = false) : exec (.hopJoinReceive p pl) s = .next s ∧ exec (.identReceive p pl) s = .next s ∧
    exec (.hopReportReceive p pl ls) s = .next s ∧ exec (.identSend p) s = .next s :=
  ⟨if_pos h, if_pos h, if_pos h, if_pos h⟩

section
variable (hp : p < 2) (hj : s.joined = true)
include hp hj

theorem not_hopOut : ¬ (2 ≤ p ∨ s.joined = false) :=
  not_or.2 ⟨Nat.not_le.2 hp, Bool.not_eq_false _ ▸ hj⟩

/-- A hop frame that says nothing is dropped (R849). -/
theorem exec_hopFrames_dropped (h : s.hearHop p pl = none) : exec (.hopJoinReceive p pl) s = .next s.dropFrame ∧
    exec (.identReceive p pl) s = .next s.dropFrame ∧ exec (.hopReportReceive p pl ls) s = .next s.dropFrame := by
  change execHopJoinReceive p pl s = _ ∧ execIdentReceive p pl s = _ ∧ execHopReportReceive p pl ls s = _
  simp only [execHopJoinReceive, execIdentReceive, execHopReportReceive, if_neg (not_hopOut hp hj), h, and_self]

section
variable {v : State} (h : s.hearHop p pl = some v)
include h

theorem exec_hopJoinReceive_heard : exec (.hopJoinReceive p pl) s = .next v := by
  change execHopJoinReceive p pl s = _
  simp only [execHopJoinReceive, if_neg (not_hopOut hp hj), h]

/-- An IDENT that names this card as partner is what attempt 1 waits for (R854, R859). -/
theorem exec_identReceive_heard : exec (.identReceive p pl) s =
    if (v.hop p).phase = .ident ∧ le pl 16 4 = v.get SYS_SERIAL.SERIAL then .next (v.setHop p { v.hop p with echoed := true }) else .next v := by
  change execIdentReceive p pl s = _
  simp only [execIdentReceive, if_neg (not_hopOut hp hj), h]

/-- A REPORT of the attempt in progress is answered by the card's own, and the hop is up when both ends judged every lane of the mode good (R855, R856;
one REPORT for each: assumption log entry 153). -/
theorem exec_hopReportReceive_attempt {w : State} {g n : Nat} (hg : g = lanesGood ls) (ha : (v.hop p).phase = .attempt) (hk : le pl 11 1 = (v.hop p).k)
    (hw : w = v.seamOut p (.hop (v.hopPayload p 0x23 (v.hop p).k (g % 4)))) (hn : n = if (v.hop p).two then 3 else 1) :
    exec (.hopReportReceive p pl ls) s =
      if n &&& g = n ∧ n &&& le pl 12 1 = n then .next ((w.hopUp p).seamOut p (.hop ((w.hopUp p).hopPayload p 0x21 0 0))) else .next w := by
  change execHopReportReceive p pl ls s = _
  simp only [execHopReportReceive, if_neg (not_hopOut hp hj), h, ha, hk, ← hg, ← hw, ← hn, ne_eq, not_true_eq_false, or_self, if_false]

end

/-! ### The times of a hop -/

/-- At its IDENT time a port that has been named as partner begins attempt 1 (R854). -/
theorem exec_identSend_named (hph : (s.hop p).phase = .ident) (he : (s.hop p).echoed = true) :
    exec (.identSend p) s = .next (s.startHopAttempt p 1 (s.firstMode p).1 (s.firstMode p).2) := by
  change execIdentSend p s = _
  simp only [execIdentSend, if_neg (not_hopOut hp hj), hph, he, if_true]

/-- A port that is up, or that waits to be named, sends IDENT (R854, R857). -/
theorem exec_identSend_sends (h : (s.hop p).phase = .up ∨ ((s.hop p).phase = .ident ∧ (s.hop p).echoed = false)) :
    exec (.identSend p) s = .next (s.seamOut p (.hop (s.hopPayload p 0x21 0 0))) := by
  change execIdentSend p s = _
  rcases h with h | ⟨h, he⟩
  · simp only [execIdentSend, if_neg (not_hopOut hp hj), h]
  · simp only [execIdentSend, if_neg (not_hopOut hp hj), h, he, Bool.false_eq_true, if_false]

end

/-- An attempt that ends leads to the next mode, or the hop has failed (R856). -/
theorem exec_hopAttemptEnd_attempt (hp : p < 2) (h : (s.hop p).phase = .attempt) : exec (.hopAttemptEnd p) s =
    match nextHopMode (s.hop p).k (s.hop p).rate (s.hop p).two with
    | some m => .next (s.startHopAttempt p ((s.hop p).k + 1) m.1 m.2)
    | none => .next (s.setPhase p .failed) :=
  if_neg (not_or.2 ⟨Nat.not_le.2 hp, not_not.2 h⟩)

/-- A card whose hop is not up for 10 ms leaves the ring (R852). -/
theorem exec_hopDownLeave_down (hu : u = s.at us) (hp : p < 2) (hj : u.joined = true) (h : (u.hop p).phase ≠ .up) : exec (.hopDownLeave p us) s =
    .next ((State.leaveRing { u with seam := { u.seam with leftUs := some us } } 1).notify "ring left"
      [("reason", "hop"), ("port", if p = 0 then "E" else "W")]) := by
  subst hu
  refine if_neg ?_
  rintro (h2 | hout | hup)
  · exact Nat.not_le.2 hp h2
  · exact Bool.false_ne_true (hout.symm.trans hj)
  · exact h hup

end

end

/-- Settles O52: each event is a choice on the ring, on the phase of the hop and on what the port has heard. -/
theorem hopEvents : Obligations.HopEvents := by
  unfold Obligations.HopEvents
  refine ⟨fun s p r two h hp => ⟨if_pos ⟨hp, h⟩, if_pos ⟨hp, h⟩⟩, fun s p r two h => ⟨if_neg fun hp => h hp.2, if_neg fun hp => h hp.2⟩, ?insert, ?form,
    fun s p pl ls => exec_hopFrames_out, fun s p pl ls => exec_hopFrames_dropped, ?heard, ?report, fun s p hp hj => ⟨exec_identSend_named hp hj,
    exec_identSend_sends hp hj⟩, ?attempt, ?retry, ?leave⟩
  case insert =>
    intro s u us t m hu
    refine ⟨?_, fun h => exec_ringInsert_waits hu (State.insertOk_none h)⟩
    rintro hm hj ht h1 h2 hl hp he hw f rfl
    exact exec_ringInsert_joins hu (State.insertOk_of_locked hm hj ht h1 h2 hl hp he hw)
  case form =>
    intro s u us hu
    refine ⟨exec_ringFormTimeout_forms hu, ?_⟩
    rintro (h | h) <;> subst hu
    · exact if_pos (.inl h)
    · exact if_pos (.inr (.inl h))
  case heard =>
    intro s v p pl hp hj h
    rw [exec_identReceive_heard hp hj h]
    exact ⟨exec_hopJoinReceive_heard hp hj h, fun hph hs => if_pos ⟨hph, hs⟩, fun hs => if_neg fun hp => hs hp.2⟩
  case report =>
    intro s v w p g pl ls hg hp hj h ha hk hw n hn
    rw [exec_hopReportReceive_attempt hp hj h hg ha hk hw hn]
    exact ⟨fun hgood => if_pos hgood, fun hbad => if_neg (by tauto)⟩
  case attempt =>
    intro s p hp h
    rw [exec_hopAttemptEnd_attempt hp h]
    exact ⟨fun m hm => by rw [hm], fun hm => by rw [hm]⟩
  case retry =>
    exact fun s p hp => ⟨fun h => if_pos ⟨hp, h⟩, fun h => if_neg fun hc => h hc.2, fun h => if_pos ⟨hp, h⟩, fun h => if_neg fun hc => h hc.2⟩
  case leave =>
    intro s u p us hu hp hj
    refine ⟨exec_hopDownLeave_down hu hp hj, ?_⟩
    subst hu
    exact fun h => if_pos (.inr (.inr h))

end Sys2Proof.Machine
end

section
/-!
PROOFS. BEATs, the Mantle's election and succession, minutes that the card closes itself, and a member's lines (chapters 16, 17 and 20: R846, R847, R860,
R865 to R868, R878, R888 to R894, R918, R919, R1077, R1079, R1090, R1091).
-/
namespace Sys2Proof.Machine
open Sys2Proof

section
variable {s u : State} {us : Nat}

/-! ### BEATs -/

/-- A BEAT's frame with the PASS bits it is forwarded with (R866). -/
def beatPassing (f : RFrame) (pass : Nat) : RFrame := { f with payload := f.payload.take 20 ++ leBytes 3 pass ++ f.payload.drop 23 }

/-- The PASS bits a card forwards a BEAT with: to those of the Mantle's it adds its own (R866). -/
def State.passBits (s : State) (b : Beat) : Nat := if b.mantle then b.pass ||| 2 ^ s.ownSlot else b.pass

theorem State.passBits_of_member {b : Beat} (h : b.mantle = false) : s.passBits b = b.pass := if_neg (Bool.eq_false_iff.1 h)

section
variable {p : Nat} {rx : RxInfo} {f : RFrame}

theorem exec_beatReceive_ignored (hu : u = s.at us) (h : f.cls ≠ 4 ∨ (u.monitoring = false ∧ u.joined = false)) :
    exec (.beatReceive p rx f us) s = .next u := by
  subst hu
  rcases h with h | ⟨hm, hj⟩
  · exact if_pos (.inr h)
  · refine ite_eq_left_iff.2 fun _ => ?_
    exact (if_neg (Bool.eq_false_iff.1 hm)).trans (if_pos (.inl hj))

section
variable (hc : f.cls = 4) (hl : 64 ≤ f.payload.length) (hver : le f.payload 0 1 = 1)
include hc hl hver

/-- A monitoring card listens to BEATs alone (R846, R847). -/
theorem exec_beatReceive_monitoring (hu : u = s.at us) (hp : p < 2) (hm : u.monitoring = true) : exec (.beatReceive p rx f us) s =
    if rx.crcOk = false then .next u
    else if f.src = u.ownSlot then .next u.dupSlot
    else .next ((if p = 1 ∧ u.isToken us (Beat.of f.payload) = true then { u with seam := { u.seam with tokenUs := some us } } else u).hearBeat f.src us
      (Beat.of f.payload)) := by
  change execBeatReceive p rx f us s = _
  simp only [execBeatReceive, ← hu, Nat.not_le.2 hp, hc, hm, hver, Nat.not_lt.2 hl, ne_eq, not_true_eq_false, decide_false, Bool.or_self, or_self,
    Bool.false_eq_true, if_false, if_true]

/-- An inserted card judges a BEAT that came from the east: its own comes back, another card of its slot is marked, and a fresh one of another card is
heard and forwarded (R860, R865, R866). -/
theorem exec_beatReceive_east {v : State} (hu : u = s.at us) (hm : u.monitoring = false) (hj : u.joined = true) (hup : (u.hop 0).phase = .up)
    (hv : u.ringJudge 0 rx f.payload.length = (v, true)) : exec (.beatReceive 0 rx f us) s =
    if f.src = v.ownSlot then
      .next (if (Beat.of f.payload).serial = v.get SYS_SERIAL.SERIAL then v.ownBeatBack 0 us (Beat.of f.payload) else v.dupSlot)
    else if !(v.freshFrame f).2 then .next (v.freshFrame f).1
    else .next (((v.freshFrame f).1.hearBeat f.src us (Beat.of f.payload)).forward 0
      (beatPassing f (((v.freshFrame f).1.hearBeat f.src us (Beat.of f.payload)).passBits (Beat.of f.payload)))) := by
  have hbeat : ¬ (2 ≤ 0 ∨ f.cls ≠ 4) := not_or.2 ⟨by decide, not_not.2 hc⟩
  change execBeatReceive 0 rx f us s = _
  simp only [execBeatReceive, ← hu, if_neg hbeat, hm, hj, hup, hv, hver, Nat.not_lt.2 hl, ne_eq, not_true_eq_false, decide_false, Bool.or_self, or_self,
    Bool.true_eq_false, Bool.false_eq_true, Bool.not_true, zero_ne_one, false_and, if_false, beatPassing, State.passBits]

end

/-! ### A BEAT that stays away -/

section
variable {sl : Nat} (hu : u = s.at us)
include hu

theorem exec_beatSilence_unheard (h : u.beatOf sl = none) : exec (.beatSilence sl us) s = .next u := by
  change execBeatSilence sl us s = _
  simp only [execBeatSilence, ← hu, h]

section
variable {r : BeatRec} (h : u.beatOf sl = some r)
include h

theorem exec_beatSilence_early (he : r.counted = true ∨ us < r.us + 30000) : exec (.beatSilence sl us) s = .next u := by
  change execBeatSilence sl us s = _
  simp only [execBeatSilence, ← hu, h, if_pos he]

/-- Without a pairing, and with a Mantle named in the BEATs still heard, a silence is counted alone (R867, R878, R888). -/
theorem exec_beatSilence_counted {v : State} (hc : r.counted = false) (hd : r.us + 30000 ≤ us)
    (hv : v = State.count { u with seam := { u.seam with beats := u.seam.beats.map (fun b => if b.src = sl then { b with counted := true } else b) } }
      SEAM_BEATMISS.COUNT 1) (hn : v.seam.named = true) (hp : v.twin.pairing = none) : exec (.beatSilence sl us) s = .next v := by
  have hdue : ¬ (r.counted = true ∨ us < r.us + 30000) := by
    rw [hc]
    exact not_or.2 ⟨Bool.false_ne_true, Nat.not_lt.2 hd⟩
  change execBeatSilence sl us s = _
  simp only [execBeatSilence, ← hu, h, if_neg hdue, ← hv, hp, hn, Option.isSome_none, Bool.false_eq_true, Bool.true_eq_false, false_and, and_false,
    if_false]

end

end

end

/-! ### The election and the succession -/

/-- Has the active Mantle's BEAT stayed away for `n` µs? -/
def State.mantleAway (s : State) (n us : Nat) : Bool := match s.seam.mantleUs with | some t => decide (t + n ≤ us) | none => true

theorem State.mantleAway_none {n : Nat} (h : s.seam.mantleUs = none) : s.mantleAway n us = true := by
  rw [State.mantleAway, h]

theorem State.mantleAway_some {n t : Nat} (h : s.seam.mantleUs = some t) : s.mantleAway n us = decide (t + n ≤ us) := by
  rw [State.mantleAway, h]

theorem exec_standbyBeatWaitExpiry (hu : u = s.at us) : exec (.standbyBeatWaitExpiry us) s =
    if u.get SEAM_MANTLE.STATE = 1 ∧ u.mantleAway 50000 us = true then .next u.elect else .next u := by
  subst hu
  rfl

theorem exec_mantleStandbyTakeover (hu : u = s.at us) : exec (.mantleStandbyTakeover us) s =
    if u.get SEAM_MANTLE.STATE = 2 ∧ u.mantleAway 30000 us = true then
      .next (u.becomeMantle.sendBeat us (decide (u.get SEAM_MINUTE.MINUTE < u.get HTG_MINUTE.MINUTE)))
    else .next u := by
  subst hu
  rfl

/-! ### Minutes the card closes itself -/

/-- Has a Pocket a minute before the counter's that it has not closed (R918)? -/
def State.minuteDue (s : State) (p : Nat) : Bool :=
  match (s.htg.minute p).stamp with
  | some x => decide (x + 1 < s.get HTG_MINUTE.MINUTE)
  | none => decide (0 < s.get HTG_MINUTE.MINUTE)

theorem State.minuteDue_of {p : Nat} (h : ((s.htg.minute p).stamp = none ∧ 0 < s.get HTG_MINUTE.MINUTE) ∨
    (∃ x, (s.htg.minute p).stamp = some x ∧ x + 1 < s.get HTG_MINUTE.MINUTE)) : s.minuteDue p = true := by
  rw [State.minuteDue]
  rcases h with ⟨hstamp, hm⟩ | ⟨x, hstamp, hm⟩
  all_goals
    rw [hstamp]
    exact decide_eq_true hm

theorem exec_localMinuteClose (hu : u = s.at us) : exec (.localMinuteClose us) s =
    if u.meteredPockets.any u.minuteDue = true ∧ u.get SEAM_MINUTE.MINUTE < u.get HTG_MINUTE.MINUTE ∧ 1000 ≤ u.htg.phase ∧ u.removing = false then
      .next (u.closeAll (u.get HTG_MINUTE.MINUTE) false)
    else .next u := by
  subst hu
  rfl

/-! ### A member's lines -/

section
variable {src req : Nat} {last : Bool} {text : String} (hu : u = s.at us)
include hu

/-- The reply to the card's own offer is judged (R1077, R1079). -/
theorem exec_seamReplyReceive_offer {g : Pairing} {at_ : Nat} (ho : u.twin.offer = some (g, at_)) (hg : g.slot = src) (hr : u.twin.offerReq = some req) :
    exec (.seamReplyReceive src req last text us) s = .next (u.offerJudged g (dropCheck text)) := by
  change execSeamReplyReceive src req last text us s = _
  simp only [execSeamReplyReceive, ← hu, ho, hg, hr, and_self, if_true]

/-- A reply that nothing waits for is dropped. -/
theorem exec_seamReplyReceive_unasked (ho : u.twin.offer = none) (hr : u.seam.relay.find? (fun r => r.slot == src && r.req == req) = none) :
    exec (.seamReplyReceive src req last text us) s = .next u := by
  change execSeamReplyReceive src req last text us s = _
  simp only [execSeamReplyReceive, ← hu, ho, hr]

end

end

/-- Settles O54: each event is a choice on the card's part in the ring, on the Mantle's BEATs and on the minute. -/
theorem mantleEvents : Obligations.MantleEvents := by
  unfold Obligations.MantleEvents
  refine ⟨?send, ?monitored, fun s u p us rx f => exec_beatReceive_ignored, ?joined, ?silence, ?election, ?minute, ?reply,
    fun s src tx => ⟨fun h => if_pos h, fun h => if_neg (not_not.2 h)⟩⟩
  case send =>
    rintro s u us rfl
    exact ⟨fun h => if_pos h, fun h => if_neg (Bool.eq_false_iff.1 h)⟩
  case monitored =>
    intro s u p us rx f hu hp hc hl hver hm
    rw [exec_beatReceive_monitoring hc hl hver hu hp hm]
    refine ⟨fun hcrc => if_pos hcrc, fun hcrc hown => ?_, fun hcrc hown hp => ?_⟩
    · rw [hcrc, if_neg (by decide), if_pos hown]
    · rw [hcrc, if_neg (by decide), if_neg hown, if_neg fun h => absurd (hp.symm.trans h.1) (by decide)]
  case joined =>
    rintro s u v us rx f b hu hc hl hver rfl hm hj hup hv
    rw [exec_beatReceive_east hc hl hver hu hm hj hup hv]
    refine ⟨fun hown hser => ?_, fun hown hser => ?_, fun w hown hw => ?_, fun w hown hw hmantle => ?_⟩
    · rw [if_pos hown, if_pos hser]
    · rw [if_pos hown, if_neg hser]
    · rw [if_neg hown, hw]
      rfl
    · rw [if_neg hown, hw, State.passBits_of_member hmantle]
      rfl
  case silence =>
    intro s u sl us hu
    exact ⟨exec_beatSilence_unheard hu, fun r => exec_beatSilence_early hu,
      fun r v h hc hd _ _ hv hn hp => exec_beatSilence_counted hu h hc hd hv hn hp⟩
  case election =>
    intro s u us hu
    rw [exec_standbyBeatWaitExpiry hu, exec_mantleStandbyTakeover hu]
    subst hu
    refine ⟨fun hj h0 hs => if_pos ⟨hj, h0, hs⟩, fun h0 => if_neg fun ⟨_, h, _⟩ => h0 h, fun h1 hm => if_pos ⟨h1, State.mantleAway_none hm⟩,
      fun t h1 hm ht => if_pos ⟨h1, (State.mantleAway_some hm).trans (decide_eq_true ht)⟩, fun t hm ht => if_neg fun h => ?_,
      fun h3 hh => if_pos ⟨h3, hh⟩, fun hh => if_neg fun h => Bool.false_ne_true (hh.symm.trans h.2),
      fun t h2 hm ht => if_pos ⟨h2, (State.mantleAway_some hm).trans (decide_eq_true ht)⟩, fun h2 => if_neg fun h => h2 h.1⟩
    exact Nat.not_le.2 ht (of_decide_eq_true ((State.mantleAway_some hm).symm.trans h.2))
  case minute =>
    rintro s u us m p hu rfl
    rw [exec_localMinuteClose hu]
    refine ⟨fun hp hdue hm hphase hrem => if_pos ⟨?due, hm, hphase, hrem⟩, fun hbar => if_neg ?bar⟩
    case due => exact List.any_eq_true.2 ⟨p, hp, State.minuteDue_of hdue⟩
    case bar =>
      rintro ⟨-, hm, hphase, hrem⟩
      rcases hbar with h | h | h
      · exact Nat.not_lt.2 h hm
      · exact Nat.not_le.2 h hphase
      · exact Bool.false_ne_true (hrem.symm.trans h)
  case reply =>
    intro s u src q us la tx hu
    exact ⟨fun g x ho hg hr => exec_seamReplyReceive_offer hu ho hg hr, exec_seamReplyReceive_unasked hu⟩

end Sys2Proof.Machine
end

section
/-!
PROOFS. The items a secondary receives (chapter 16: R872, R873, R875, R876, R882, R884, R886).
-/
namespace Sys2Proof.Machine
open Sys2Proof

section
variable {s u v : State} {q p lba us : Nat}

/-! ### An item that is not the next -/

section
variable (h : s.takesItem q = false)
include h

theorem State.applyData_ignored (half : Nat) (integ poison : Bool) (ikey count : Nat) (tag bytes : Bytes) :
    s.applyData q lba p half integ poison ikey count tag bytes = s :=
  if_pos (by rw [h]; rfl)

theorem State.applyUnmap_ignored (n : Nat) : s.applyUnmap q lba p n = s := if_pos (by rw [h]; rfl)

theorem State.applyCopy_ignored (src n dst : Nat) (integ : Bool) (dkey ikey : Nat) : s.applyCopy q src p n dst integ dkey ikey = s :=
  if_pos (by rw [h]; rfl)

theorem exec_twinRegionEnd_ignored (r : Nat) : exec (.twinRegionEnd q r p) s = .next s := if_neg (Bool.eq_false_iff.1 h)

end

theorem exec_twinHold_ignored (ms : Nat) (h : (s.at us).takesItem q = false) : exec (.twinHold q ms us) s = .next (s.at us) :=
  if_neg (Bool.eq_false_iff.1 h)

theorem exec_twinLine_ignored (cmd : TwinCmd) (h : (s.at us).takesItem q = false) : exec (.twinLine q cmd us) s = .next (s.at us) :=
  if_pos (by rw [h]; rfl)

/-! ### DATA and DARN -/

section
variable {half ikey count : Nat} {integ poison : Bool} {tag bytes : Bytes} (h : s.takesItem q = true)
include h

/-- A block of a Pocket that the secondary does not have is refused (R875). -/
theorem State.applyData_noPocket (hp : s.pockets.lookup p = none) :
    s.applyData q lba p half integ poison ikey count tag bytes = (s.cross p 2048).itemRefused q := by
  simp only [State.applyData, h, hp, Option.isNone_none, Bool.not_true, Bool.false_eq_true, if_false, if_true, State.itemHeard]

section
variable (hp : s.pockets.lookup p ≠ none)
include hp

/-- A block for which the cache has no place is not taken, and comes again (assumption log entry 216). -/
theorem State.applyData_noRoom (h1 : half = 1) (hr : s.blockRoom p lba (!s.admits p 4096) = false) :
    s.applyData q lba p half integ poison ikey count tag bytes = s.cross p 2048 := by
  simp only [State.applyData, h, Option.isNone_eq_false_iff.2 (Option.isSome_iff_ne_none.2 hp), h1, hr, and_self, Bool.not_true, Bool.false_eq_true,
    if_false, if_true, State.itemHeard]

/-- The first half of a block waits for the second (R872). -/
theorem State.applyData_first {t : State} (h0 : half = 0) (ht : t = (s.meter p 7 2048).cross p 2048) :
    s.applyData q lba p half integ poison ikey count tag bytes =
      State.itemApplied { t with twin := { t.twin with half := some (padTo 2048 bytes) } } := by
  simp only [State.applyData, h, Option.isNone_eq_false_iff.2 (Option.isSome_iff_ne_none.2 hp), h0, zero_ne_one, false_and, Bool.not_true,
    Bool.false_eq_true, if_false, if_true, State.itemHeard, ← ht]

section
variable (h1 : half = 1) (hr : s.blockRoom p lba (!s.admits p 4096) = true)
include h1 hr

/-- With its second half a block that bears no tag, or that is poison, enters the cache (R872, R873). -/
theorem State.applyData_untagged {t : State} (ht : t = (s.meter p 7 2048).cross p 2048) (hi : integ = false ∨ poison = true) :
    s.applyData q lba p half integ poison ikey count tag bytes = (State.storeMirrored { t with twin := { t.twin with half := none } } q p lba poison
      ((t.twin.half.getD (List.replicate 2048 0)) ++ padTo 2048 bytes) none).itemApplied := by
  have hplain : (poison || !integ) = true := by
    rcases hi with hi | hi <;> rw [hi]
    · exact Bool.or_true _
    · rfl
  simp only [State.applyData, h, Option.isNone_eq_false_iff.2 (Option.isSome_iff_ne_none.2 hp), h1, hr, hplain, one_ne_zero, Bool.true_eq_false,
    and_false, Bool.not_true, Bool.false_eq_true, if_false, if_true, State.itemHeard, ← ht]

/-- A tagged block whose integrity slot holds no key cannot be checked, and is refused (R875, R886). -/
theorem State.applyData_noKey (hi : integ = true) (hpo : poison = false) (hk : s.latch ikey = none) :
    s.applyData q lba p half integ poison ikey count tag bytes = (s.cross p 2048).itemRefused q := by
  simp only [State.applyData, h, Option.isNone_eq_false_iff.2 (Option.isSome_iff_ne_none.2 hp), h1, hr, hi, hpo, hk, one_ne_zero, Bool.true_eq_false,
    and_false, Bool.not_true, Bool.or_self, Bool.false_eq_true, if_false, State.itemHeard]

end

end

end

/-! ### TRIM and UNMAP, COPY -/

section
variable (h : s.takesItem q = true)
include h

theorem exec_twinRegionEnd_taken (r : Nat) : exec (.twinRegionEnd q r p) s = .next (s.cross p 2048).itemApplied := if_pos h

section
variable {n : Nat}

theorem State.applyUnmap_noPocket (hp : s.pockets.lookup p = none) : s.applyUnmap q lba p n = (s.cross p 2048).itemRefused q := by
  simp only [State.applyUnmap, h, hp, Option.isNone_none, Bool.not_true, Bool.false_eq_true, if_false, if_true, State.itemHeard]

/-- The range is unmapped as far as its segments are held; a range that is not through goes on when the item comes again (R873; assumption log
entry 216). -/
theorem State.applyUnmap_taken {k : Nat} (hp : s.pockets.lookup p ≠ none)
    (hu : ((s.cross p 2048).dropPrefetch p lba n).unmapFrom p lba n s.twin.itemDone (n / segBlocks + 2) = (v, k)) : s.applyUnmap q lba p n =
      if k < n then { v with twin := { v.twin with itemDone := k } } else (v.trimRecord p lba n).itemApplied := by
  simp only [State.applyUnmap, h, Option.isNone_eq_false_iff.2 (Option.isSome_iff_ne_none.2 hp), State.itemHeard, hu, Bool.not_true, Bool.false_eq_true,
    if_false]

end

section
variable {src n dst dkey ikey : Nat} {integ : Bool}

theorem State.applyCopy_waits (hr : s.copyReady p src n dst = false) : s.applyCopy q src p n dst integ dkey ikey =
    (s.segsOf p src n ++ s.segsOf p dst n).foldl State.needSeg (s.cross p 2048) := by
  simp only [State.applyCopy, h, hr, Bool.not_true, Bool.not_false, Bool.false_eq_true, if_false, if_true, State.itemHeard]

theorem State.applyCopy_ready (hr : s.copyReady p src n dst = true) : s.applyCopy q src p n dst integ dkey ikey =
    match ((s.cross p 2048).dropPrefetch p dst n).copyAll q p src dst integ dkey ikey n with
    | some t => t.itemApplied
    | none => (s.cross p 2048).itemRefused q := by
  unfold State.applyCopy
  rw [h, hr]
  rfl

end

end

/-! ### Line items -/

section
variable {cmd : TwinCmd} (hu : u = s.at us) (h : u.takesItem q = true) (hv : v = u.pairAnswered)
include hu h hv

/-- While the configuration lock is held a line item is discarded, and comes again (R876; assumption log entry 130). -/
theorem exec_twinLine_locked (hl : v.locked = true) : exec (.twinLine q cmd us) s = .next v := by
  change execTwinLine q cmd us s = _
  simp only [execTwinLine, ← hu, h, ← hv, hl, Bool.not_true, Bool.false_eq_true, if_false, if_true]

section
variable (hl : v.locked = false) {w : State}
include hl

theorem exec_twinLine_done {d : List (List KV)} {kv : List KV} (hd : (v.cross 0 2048).doLine cmd = (w, .ok d kv)) :
    exec (.twinLine q cmd us) s = .next (w.confRecord.itemApplied.lineAfter cmd) := by
  change execTwinLine q cmd us s = _
  simp only [execTwinLine, ← hu, h, ← hv, hl, State.itemHeard, hd, Bool.not_true, Bool.false_eq_true, if_false]

theorem exec_twinLine_refused {st : Status} (hd : (v.cross 0 2048).doLine cmd = (w, .fail st)) :
    exec (.twinLine q cmd us) s = .next (w.itemRefused q) := by
  change execTwinLine q cmd us s = _
  simp only [execTwinLine, ← hu, h, ← hv, hl, State.itemHeard, hd, Bool.not_true, Bool.false_eq_true, if_false]

/-- A line whose reply comes later holds up the items after it (R873). -/
theorem exec_twinLine_waits {x : AwaitFor} (hd : (v.cross 0 2048).doLine cmd = (w, .wait x)) : exec (.twinLine q cmd us) s =
    .next { w with twin := { w.twin with rxNext := q + 1, fresh := false, lineAwait := some (q, x) } } := by
  change execTwinLine q cmd us s = _
  simp only [execTwinLine, ← hu, h, ← hv, hl, State.itemHeard, hd, Bool.not_true, Bool.false_eq_true, if_false]

end

end

end

/-- Settles O55: each item is a choice on whether it is the next, whether the secondary can apply it, and whether it can do so now. -/
theorem twinItems : Obligations.TwinItems := by
  unfold Obligations.TwinItems
  refine ⟨?ignored, ?noPocket, ?data, ?unmap, ?copy, ?hold, ?expiry, ?line⟩
  case ignored =>
    intro s q lba p h ik c a n us d r ig po tg by_ cm hq
    exact ⟨congrArg _ (State.applyData_ignored hq ..), congrArg _ (State.applyData_ignored hq ..), congrArg _ (State.applyUnmap_ignored hq _),
      congrArg _ (State.applyUnmap_ignored hq _), congrArg _ (State.applyCopy_ignored hq ..), exec_twinRegionEnd_ignored hq _,
      fun hat => ⟨exec_twinHold_ignored _ hat, exec_twinLine_ignored _ hat⟩⟩
  case noPocket =>
    exact fun s q lba p h ik c ig po tg by_ hq hp => ⟨congrArg _ (State.applyData_noPocket hq hp), congrArg _ (State.applyData_noPocket hq hp)⟩
  case data =>
    intro s t q lba p h ik c ig po tg by_ hq hp ht i hi
    have happly : exec i s = .next (s.applyData q lba p h ig po ik c tg by_) := by
      rcases hi with rfl | rfl <;> rfl
    rw [happly]
    exact ⟨fun h1 hr => congrArg _ (State.applyData_noRoom hq hp h1 hr), fun h0 => congrArg _ (State.applyData_first hq hp h0 ht),
      fun h1 hr hi => congrArg _ (State.applyData_untagged hq hp h1 hr ht hi),
      fun h1 hr hi hpo hk => congrArg _ (State.applyData_noKey hq hp h1 hr hi hpo hk)⟩
  case unmap =>
    rintro s h q lba p n r hq rfl
    refine ⟨exec_twinRegionEnd_taken hq r,
      fun hp => ⟨congrArg _ (State.applyUnmap_noPocket hq hp), congrArg _ (State.applyUnmap_noPocket hq hp)⟩, fun v k i hp hi hv => ?_⟩
    have happly : exec i s = .next (s.applyUnmap q lba p n) := by
      rcases hi with rfl | rfl <;> rfl
    rw [happly, State.applyUnmap_taken hq hp hv]
    exact ⟨fun hk => by rw [if_pos hk], fun hk => by rw [if_neg (Nat.not_lt.2 hk)]⟩
  case copy =>
    rintro s h q src p n d dk ik ig hq rfl
    have happly : exec (.twinCopy q src p n d ig dk ik) s = .next (s.applyCopy q src p n d ig dk ik) := rfl
    rw [happly]
    refine ⟨fun hr => by rw [State.applyCopy_waits hq hr], fun t hr ht => ?_, fun hr ht => ?_⟩
    all_goals rw [State.applyCopy_ready hq hr, ht]
  case hold =>
    rintro s u q ms us rfl hq
    exact if_pos hq
  case expiry =>
    rintro s u us rfl
    exact ⟨fun h => if_pos h, fun h => if_neg (Nat.not_le.2 h)⟩
  case line =>
    exact fun s u v q us cm hu h hv => ⟨exec_twinLine_locked hu h hv, fun w d kv hl hd => exec_twinLine_done hu h hv hl hd,
      fun w st hl hd => exec_twinLine_refused hu h hv hl hd, fun w x hl hd => exec_twinLine_waits hu h hv hl hd⟩

end Sys2Proof.Machine
end

section
/-! PROOFS. The confirmations a primary receives, the loss of its mirror, takeover, darning and the timers of offers, swaps and relays (O56). -/
namespace Sys2Proof.Machine
open Sys2Proof

/-! ### Confirmations and the loss of the mirror -/

section
variable {s u : State} {q n us : Nat}

theorem exec_twinAck (hu : u = s.at us) : exec (.twinAck n us) s = if u.mirrors then .next (u.twinAcked n).twinGo else .next u := by
  subst hu; rfl

theorem exec_twinNak_ignored (h : s.mirrors = false ∨ s.twin.unconf = []) : exec (.twinNak q) s = .next s := by
  refine if_pos (h.imp_right fun hempty => ?_)
  rw [hempty]; rfl

theorem exec_twinNak_heard (h : s.mirrors = true) (hq : (s.twin.unconf.any (fun i => i.tseq == q)) = true) : exec (.twinNak q) s =
    if s.twin.refused = some q then .next s.toLost else .next (State.twinBack { s with twin := { s.twin with refused := some q } }) :=
  if_neg (by rw [h, hq]; simp)

/-! ### Takeover and darning -/

theorem exec_takeoverAuto (hu : u = s.at us) : exec (.takeoverAuto us) s =
    if u.twinState = 6 ∧ u.twin.fromStandby = true ∧ u.primarySilent us = true ∧ u.twin.holdUntil ≤ us ∧ u.rosterLacks = true then .next u.takeover
    else .next u := by
  subst hu; rfl

section
variable {reads : List (Nat × List (List Nat))} {unc : List Nat}

theorem exec_darnRegion_ignored (h : s.twinState ≠ 1 ∨ 64 ≤ s.twin.inCopy.length) : exec (.darnRegion reads unc) s = .next s := if_pos h

section
variable (h1 : s.twinState = 1) (hroom : s.twin.inCopy.length < 64)
include h1 hroom

theorem not_darnRegion_ignored : ¬(s.twinState ≠ 1 ∨ 64 ≤ s.twin.inCopy.length) := not_or.2 ⟨not_not.2 h1, Nat.not_le.2 hroom⟩

theorem exec_darnRegion_ends (hm : lowestRegion s.twin.marked = none) : exec (.darnRegion reads unc) s = .next s.darnEnds := by
  change execDarnRegion reads unc s = _
  simp only [execDarnRegion, if_neg (not_darnRegion_ignored h1 hroom), hm]

/-- The lowest marked region: its absent segments are asked for first, and a block that cannot be read holds it up. -/
theorem exec_darnRegion_lowest {p r : Nat} {away : List Nat} (hm : lowestRegion s.twin.marked = some (p, r))
    (ha : away = (s.segsOf p (256 * r) 256).filter s.segAbsent) : exec (.darnRegion reads unc) s =
      if away ≠ [] then .next (away.foldl State.needSeg s)
      else if (s.regionBlocks p r).all (s.blockReadable p) then .next (s.darnRegion p r reads unc).settle else .next s := by
  subst ha
  change execDarnRegion reads unc s = _
  simp only [execDarnRegion, if_neg (not_darnRegion_ignored h1 hroom), hm]

end

end

section
variable {d : Nat} {cl sv f : Bool}

theorem exec_twinPairItem_ignored (hu : u = s.at us) (h3 : u.twinState ≠ 3) (h7 : u.twinState ≠ 7) : exec (.twinPairItem d cl sv f us) s = .next u := by
  subst hu; exact if_pos ⟨h3, h7⟩

theorem exec_twinPairItem_darns (hu : u = s.at us) (h : u.twinState = 3 ∨ u.twinState = 7) : exec (.twinPairItem d cl sv f us) s =
    .next (u.beginDarning (if f then 0 else d + 1) (cl && !sv && !f && decide (u.twin.confirmed ≤ d + 1))) := by
  subst hu; exact if_neg fun hn => h.elim hn.1 hn.2

end

/-! ### Timers -/

section
variable (hu : u = s.at us)
include hu

theorem exec_twinPairLapse_none (h : u.twin.offer = none) : exec (.twinPairLapse us) s = .next u := by
  change execTwinPairLapse us s = _
  simp only [execTwinPairLapse, ← hu, h]

theorem exec_twinPairLapse_offer {g : Pairing} {a : Nat} (h : u.twin.offer = some (g, a)) : exec (.twinPairLapse us) s =
    if a + 60000000 ≤ us then .next u.lapsePair else .next u := by
  change execTwinPairLapse us s = _
  simp only [execTwinPairLapse, ← hu, h]

theorem exec_twinSwapTimeout_none (h : u.twin.swapUs = none) : exec (.twinSwapTimeout us) s = .next u := by
  change execTwinSwapTimeout us s = _
  simp only [execTwinSwapTimeout, ← hu, h]

theorem exec_twinSwapTimeout_some {a : Nat} (h : u.twin.swapUs = some a) : exec (.twinSwapTimeout us) s =
    if us < a + 1000000 ∨ (u.twin.swapSeq.isSome = true ∧ u.mirroring = true) then .next u
    else .next (State.finishFor { u with twin := { u.twin with swapUs := none, swapSeq := none } } .swap (fun t => .er t .timeout)) := by
  change execTwinSwapTimeout us s = _
  simp only [execTwinSwapTimeout, ← hu, h]

/-- A relayed line is late 1.2 s after it was sent (R1090). -/
def Relay.late (us : Nat) (r : Relay) : Bool := decide (r.us + 1200000 ≤ us)

theorem exec_mantleRelayTimeout : exec (.mantleRelayTimeout us) s = .next ((u.seam.relay.filter (Relay.late us)).foldl
    (fun t r => t.finishFor (.relay r.req) (fun g => .er g .timeout))
    { u with seam := { u.seam with relay := u.seam.relay.filter (fun r => !r.late us) } }) := by
  subst hu; rfl

theorem exec_mantleRelayTimeout_none (h : ∀ r ∈ u.seam.relay, us < r.us + 1200000) : exec (.mantleRelayTimeout us) s = .next u := by
  have hkeep : u.seam.relay.filter (fun r => !r.late us) = u.seam.relay := by
    refine List.filter_eq_self.2 fun r hr => ?_
    simpa only [Relay.late, Bool.not_eq_true', decide_eq_false_iff_not, Nat.not_le] using h r hr
  have hlate : u.seam.relay.filter (Relay.late us) = [] := by
    refine List.filter_eq_nil_iff.2 fun r hr => ?_
    simpa only [Relay.late, decide_eq_true_eq, Nat.not_le] using h r hr
  rw [exec_mantleRelayTimeout hu, hkeep, hlate]
  rfl

theorem exec_mantleRelayTimeout_all (h : ∀ r ∈ u.seam.relay, r.us + 1200000 ≤ us) : exec (.mantleRelayTimeout us) s = .next
    (u.seam.relay.foldl (fun t r => t.finishFor (.relay r.req) (fun g => .er g .timeout)) { u with seam := { u.seam with relay := [] } }) := by
  have hkeep : u.seam.relay.filter (fun r => !r.late us) = [] := by
    refine List.filter_eq_nil_iff.2 fun r hr => ?_
    simpa only [Relay.late, Bool.not_eq_true', decide_eq_false_iff_not, not_not] using h r hr
  have hlate : u.seam.relay.filter (Relay.late us) = u.seam.relay :=
    List.filter_eq_self.2 fun r hr => decide_eq_true (h r hr)
  rw [exec_mantleRelayTimeout hu, hkeep, hlate]

end

end

/-- Settles O56: each command is a choice on the twin state, the items still unconfirmed and the time. -/
theorem twinEvents : Obligations.TwinEvents := by
  unfold Obligations.TwinEvents
  refine ⟨?ack, ?nak, ?nakIgnored, ?confirm, ?lost, ?takeover, ?darn, ?pair, ?offer, ?swap, ?relay⟩
  case ack =>
    exact fun s u n us hu => ⟨fun h => by rw [exec_twinAck hu, if_pos h], fun h => by rw [exec_twinAck hu, if_neg (Bool.eq_false_iff.1 h)]⟩
  case nak =>
    exact fun s q h hq => ⟨fun hr => by rw [exec_twinNak_heard h hq, if_pos hr], fun hr => by rw [exec_twinNak_heard h hq, if_neg hr]⟩
  case nakIgnored => exact fun s q => exec_twinNak_ignored
  case confirm => exact fun s => ⟨fun h => if_pos h, fun h => if_neg (Bool.eq_false_iff.1 h)⟩
  case lost =>
    rintro s u us rfl
    exact ⟨fun hm hc => if_pos ⟨hm, hc⟩, fun h => if_neg fun ⟨hm, hc⟩ => h.elim (Bool.eq_false_iff.1 · hm) hc⟩
  case takeover =>
    intro s u us hu
    rw [exec_takeoverAuto hu]
    refine ⟨fun h6 hf hs ht hr => if_pos ⟨h6, hf, hs, ht, hr⟩, fun h => if_neg ?_⟩
    rintro ⟨h6, hf, -, ht, hr⟩
    rcases h with h | h | h | h
    · exact h h6
    · exact Bool.eq_false_iff.1 h hf
    · exact Nat.not_le.2 h ht
    · exact Bool.eq_false_iff.1 h hr
  case darn =>
    refine fun s reads unc => ⟨exec_darnRegion_ignored, exec_darnRegion_ends, fun p r away h1 hroom hm ha => ?_⟩
    rw [exec_darnRegion_lowest h1 hroom hm ha]
    exact ⟨fun haway => if_pos haway, fun hnone hall => by rw [if_neg (not_not.2 hnone), if_pos hall],
      fun hnone hall => by rw [if_neg (not_not.2 hnone), if_neg (Bool.eq_false_iff.1 hall)]⟩
  case pair =>
    refine fun s u d us cl sv hu => ⟨fun h3 h7 f => exec_twinPairItem_ignored hu h3 h7, fun h => ⟨?_, ?_⟩⟩
    · rw [exec_twinPairItem_darns hu h, Bool.not_true, Bool.and_false, Bool.false_and, if_pos rfl]
    · rw [exec_twinPairItem_darns hu h, Bool.not_false, Bool.and_true, if_neg Bool.false_ne_true]
  case offer =>
    refine fun s u us hu => ⟨by rw [hu]; rfl, exec_twinPairLapse_none hu, fun g a h => ?_⟩
    rw [exec_twinPairLapse_offer hu h]
    exact ⟨fun ht => if_pos ht, fun ht => if_neg (Nat.not_le.2 ht)⟩
  case swap =>
    refine fun s u us hu => ⟨exec_twinSwapTimeout_none hu, fun a h hw => ?_, fun a h ht hw => ?_⟩
    · rw [exec_twinSwapTimeout_some hu h, if_pos hw]
    · rw [exec_twinSwapTimeout_some hu h, if_neg]
      rintro (hlt | ⟨hseq, hm⟩)
      · exact Nat.not_lt.2 ht hlt
      · exact hw.elim (fun hn => by simp [hn] at hseq) (Bool.eq_false_iff.1 · hm)
  case relay => exact fun s u us hu => ⟨exec_mantleRelayTimeout_none hu, exec_mantleRelayTimeout_all hu⟩

end Sys2Proof.Machine
end

section
/-! PROOFS. The Hangtag's samples, buckets and selection registers (O57). -/
namespace Sys2Proof.Machine
open Sys2Proof

/-! ### Samples -/

/-- One Pocket's step of `State.countSample`. -/
def State.countPocket (s : State) (p : Nat) : State :=
  let o := s.htg.minute p
  { s with htg := { s.htg with minutes := upsert p { o with samples := min (2 ^ 32 - 1) (o.samples + 1) } s.htg.minutes } }

theorem State.countSample_eq (s : State) : s.countSample = (s.meteredPockets.foldl State.countPocket s).count HTG_STAT.SAMPLES 1 := rfl

theorem State.foldl_countPocket_cross (ps : List Nat) (s : State) : (ps.foldl State.countPocket s).htg.cross = s.htg.cross := by
  induction ps generalizing s with
  | nil => rfl
  | cons p ps ih => exact ih (s.countPocket p)

theorem State.countSample_cross (s : State) : s.countSample.htg.cross = s.htg.cross := by
  rw [State.countSample_eq, State.count, State.set_htg, State.foldl_countPocket_cross]

/-- What one Pocket's meters of busy time and held entries take of a sample (R908). -/
def State.meterUse (busy : List (Nat × Nat)) (t : State) (p : Nat) : State := (t.meter p 3 (busyOf busy p)).meter p 6 (t.heldEntries p)

/-- P000 has neither busy time nor cache entries. -/
theorem State.meterUse_zero (busy : List (Nat × Nat)) (t : State) : t.meterUse busy 0 = (t.meter 0 3 0).meter 0 6 0 := rfl

section
variable {s v : State} {cv ci us : Nat} {b : List (Nat × Nat)}
  (hv : v = ((s.at us).minuteRuns).set HTG_LASTE.NJ ((cv % 4096) * (ci % 4096) * 32400000 / 2 ^ 24))
include hv

theorem exec_htgSample_removing (h : v.removing = true) : exec (.htgSample cv ci b us) s = .next { v with htg := { v.htg with cross := [] } } := by
  subst hv; exact if_pos h

theorem exec_htgSample_tack (h : v.removing = false) (h3 : v.get PWR_STATE.STATE = 3) : exec (.htgSample cv ci b us) s = .next (State.countSample { v with
    htg := { v.htg with tack := v.htg.tack + (cv % 4096) * (ci % 4096) * 32400000 / 2 ^ 24, cross := [] } }) := by
  subst hv; exact (if_neg (Bool.eq_false_iff.1 h)).trans (if_pos h3)

/-- Outside TACK the Pockets share the energy, then each takes its own use. -/
theorem exec_htgSample_metered {w x : State} (h : v.removing = false) (h3 : v.get PWR_STATE.STATE ≠ 3)
    (hw : w = v.shareEnergy b ((cv % 4096) * (ci % 4096) * 32400000 / 2 ^ 24)) (hx : x = w.meteredPockets.foldl (State.meterUse b) w) :
    exec (.htgSample cv ci b us) s = .next (State.countSample { x with htg := { x.htg with cross := [] } }) := by
  change execHtgSample cv ci b us s = _
  simp only [execHtgSample, sampleEnergy, ← hv, h, h3, ← hw, Bool.false_eq_true, if_false]
  rw [hx]
  rfl

theorem exec_htgSample_cross (h : v.removing = false) : ∃ t : State, exec (.htgSample cv ci b us) s = .next t ∧ t.htg.cross = [] := by
  by_cases h3 : v.get PWR_STATE.STATE = 3
  · exact ⟨_, exec_htgSample_tack hv h h3, State.countSample_cross _⟩
  · exact ⟨_, exec_htgSample_metered hv h h3 rfl rfl, State.countSample_cross _⟩

end

/-! ### Buckets -/

section
variable {s u : State} {us : Nat} (hu : u = s.at us)
include hu

theorem exec_bucketBroadcast : exec (.bucketBroadcast us) s = if u.joined then .next (u.broadcast us (fun b => b.state == 1)) else .next u := by
  subst hu; rfl

theorem exec_bucketRepeat : exec (.bucketRepeat us) s =
    if u.joined then .next (u.broadcast us (fun b => b.state == 2 && decide (b.sentUs + 2000000 ≤ us))) else .next u := by
  subst hu; rfl

end

section
variable {s : State} {src : Nat} {b : Bytes}

theorem exec_htgBucketReceive_ignored (h : b.length ≠ 128 ∨ (s.get SEAM_MANTLE.STATE ≠ 4 ∧ s.get SEAM_MANTLE.STATE ≠ 2)) :
    exec (.htgBucketReceive src b) s = .next s := if_pos h

/-- The active Mantle acknowledges what it shelves; the standby does not (R930). -/
theorem exec_htgBucketReceive_kept (hb : b.length = 128) (h : s.get SEAM_MANTLE.STATE = 4 ∨ s.get SEAM_MANTLE.STATE = 2) :
    exec (.htgBucketReceive src b) s = .next (if s.get SEAM_MANTLE.STATE = 4 then
      (s.shelve b).ringSend 3 2 src ((b.drop 1).take 1 ++ List.replicate 3 0 ++ (b.drop 12).take 4 ++ (b.drop 4).take 4) [] else s.shelve b) :=
  if_neg fun hn => hn.elim (· hb) fun ⟨h4, h2⟩ => h.elim h4 h2

end

/-- Settles O57: a sample is a choice on removal and TACK, a bucket a choice on the ring and the Mantle's state. -/
theorem hangtagEvents : Obligations.HangtagEvents := by
  unfold Obligations.HangtagEvents
  refine ⟨?sample, ?ring, ?receive, fun s p g m => rfl, ?selection⟩
  case sample =>
    intro s v cv ci us b hv
    refine ⟨exec_htgSample_removing hv, exec_htgSample_tack hv, fun w h h3 hw hp => ?_, exec_htgSample_cross hv⟩
    rw [exec_htgSample_metered hv h h3 hw rfl, hp, List.foldl_cons, List.foldl_nil, State.meterUse_zero]
  case ring =>
    intro s u us hu
    rw [exec_bucketBroadcast hu, exec_bucketRepeat hu]
    exact ⟨fun h => ⟨if_neg (Bool.eq_false_iff.1 h), if_neg (Bool.eq_false_iff.1 h)⟩, fun h => ⟨if_pos h, if_pos h⟩⟩
  case receive =>
    refine fun s src b => ⟨fun h => exec_htgBucketReceive_ignored (.inl h), fun h4 h2 => exec_htgBucketReceive_ignored (.inr ⟨h4, h2⟩), fun hb h2 => ?_,
      fun hb h4 => ?_⟩
    · rw [exec_htgBucketReceive_kept hb (.inr h2), if_neg (by rw [h2]; decide)]
    · rw [exec_htgBucketReceive_kept hb (.inl h4), if_pos h4]
  case selection =>
    exact fun s c m p => ⟨fun h => ⟨if_pos h, if_pos h⟩, fun h => ⟨if_neg (Nat.not_lt.2 h), if_neg (Nat.not_lt.2 h)⟩⟩

end Sys2Proof.Machine
end

section
/-! PROOFS. Lifecycle programming, swatch runs and JTAG instructions (O58). -/
namespace Sys2Proof.Machine
open Sys2Proof

/-! ### Lifecycle programming -/

section
variable {s v : State} {f : Option (Nat × Nat)}

theorem exec_jtagMakeTransition_ignored (h : s.get LCS_STATE.STATE ≠ 0) : exec (.jtagMakeTransition f) s = .next s := if_pos h

section
variable (h : s.get LCS_STATE.STATE = 0) (hv : v = { s with life := { s.life with copies := programmed s.life.copies 1 f } })
include h hv

/-- A copy that fails twice forms the state at once (R948). -/
theorem exec_jtagMakeTransition_failed (hf : f ≠ none) : exec (.jtagMakeTransition f) s = .next v.formLife := by
  obtain ⟨x, rfl⟩ := Option.ne_none_iff_exists'.1 hf
  subst hv
  exact if_neg (not_not.2 h)

theorem exec_jtagMakeTransition_verified (hf : f = none) : exec (.jtagMakeTransition f) s =
    if v.ready then .next (v.beginReset .cold causeLife) else .next v := by
  subst hf hv
  exact if_neg (not_not.2 h)

end

theorem exec_lifecycleProgramDone_idle (h : s.life.trans = none) : exec (.lifecycleProgramDone f) s = .next s := by
  change execLifecycleProgramDone f s = _
  simp only [execLifecycleProgramDone, h]

section
variable {t : LifeTrans} (ht : s.life.trans = some t) (h0 : t.byT0 = false)
  (hv : v = { s with life := { s.life with copies := programmed s.life.copies t.bits f, trans := none } })
include ht h0 hv

theorem exec_lifecycleProgramDone_failed (hf : f ≠ none) : exec (.lifecycleProgramDone f) s =
    .next (v.finishFor .life (fun g => .er g .timeout)).formLife := by
  obtain ⟨x, rfl⟩ := Option.ne_none_iff_exists'.1 hf
  change execLifecycleProgramDone (some x) s = _
  simp only [execLifecycleProgramDone, ht, h0, ← hv, Bool.false_eq_true, if_false]

theorem exec_lifecycleProgramDone_verified (hf : f = none) : exec (.lifecycleProgramDone f) s =
    .next (((v.finishFor .life (fun g => .ok g [] [("state", lifeLower t.target)])).notify "life"
      [("state", lifeName t.target)]).beginReset .cold causeLife) := by
  subst hf
  change execLifecycleProgramDone none s = _
  simp only [execLifecycleProgramDone, ht, h0, ← hv, Bool.false_eq_true, if_false]

end

/-! ### The lifecycle request of T0 -/

variable {k tg : Nat}

theorem exec_lcsCtlStart_noStart : exec (.lcsCtlStart k tg false) s = .next s := rfl

theorem State.lcsCtl_badKey (hk : k ≠ 0x5A) : s.lcsCtl k tg true = s.set LCS_CTL.TARGET tg := by
  simp only [State.lcsCtl, hk, ne_eq, not_false_eq_true, Bool.true_eq_false, true_or, if_true, if_false]

theorem exec_lcsCtlStart_badKey (hk : k ≠ 0x5A) : exec (.lcsCtlStart k tg true) s = .next (s.set LCS_CTL.TARGET tg) :=
  congrArg Host.Outcome.next (State.lcsCtl_badKey hk)

section
variable (hv : v = s.set LCS_CTL.TARGET tg) (ht : v.life.trans = none) (hl : v.locked = false)
include hv ht hl

theorem State.lcsCtl_refused {st : Status} (hr : v.lifeRefusal (tg % 8) = some st) : s.lcsCtl 0x5A tg true = v.set LCS_RESULT.STATUS st.code := by
  simp only [State.lcsCtl, ← hv, ht, hl, hr, Option.isSome_none, ne_eq, not_true_eq_false, Bool.false_eq_true, Bool.true_eq_false, or_self, if_false]

theorem State.lcsCtl_begins (hr : v.lifeRefusal (tg % 8) = none) : s.lcsCtl 0x5A tg true =
    (State.set { v with col := { v.col with t0Lock := true } } LCS_CTL.START 1).beginLife (tg % 8) true := by
  simp only [State.lcsCtl, ← hv, ht, hl, hr, Option.isSome_none, ne_eq, not_true_eq_false, Bool.false_eq_true, Bool.true_eq_false, or_self, if_false]

end

end

/-! ### Swatch runs -/

section
variable {u v : State} {w d : Nat} (hv : v = (u.set BIST_CTL.SWATCH w).set BIST_CTL.DOMAIN d)
include hv

theorem State.bistCtl_noStart : u.bistCtl w d false = v := by
  simp only [State.bistCtl, ← hv, true_or, if_true]

theorem State.bistCtl_running (h : u.life.run.isSome = true) : u.bistCtl w d true = v := by
  simp only [State.bistCtl, ← hv, h, or_true, if_true]

section
variable (h : u.life.run = none)
include h

theorem State.bistCtl_locked (hl : v.locked = true) : u.bistCtl w d true = v.runRefused .wrongState := by
  simp only [State.bistCtl, h, ← hv, hl, Option.isSome_none, Bool.false_eq_true, Bool.true_eq_false, or_self, if_false, if_true]

theorem State.bistCtl_refused {st : Status} (hl : v.locked = false) (hr : v.runRefusal (clamp 1 40 w) (min 50 d) = some st) :
    u.bistCtl w d true = v.runRefused st := by
  simp only [State.bistCtl, h, ← hv, hl, hr, Option.isSome_none, Bool.false_eq_true, Bool.true_eq_false, or_self, if_false]

theorem State.bistCtl_begins (hl : v.locked = false) (hr : v.runRefusal (clamp 1 40 w) (min 50 d) = none) : u.bistCtl w d true =
    (State.set { v with col := { v.col with t0Lock := true } } BIST_CTL.START 1).beginRun (clamp 1 40 w) (min 50 d) none false := by
  simp only [State.bistCtl, h, ← hv, hl, hr, Option.isSome_none, Bool.false_eq_true, Bool.true_eq_false, or_self, if_false]

end

end

section
variable {s u : State} {x us : Nat} {ok : Bool} (hu : u = s.at us)
include hu

theorem exec_bistRunDone_none (h : u.life.run = none) : exec (.bistRunDone ok x us) s = .next u := by
  change execBistRunDone ok x us s = _
  simp only [execBistRunDone, ← hu, h]

theorem exec_bistRunTimeout_none (h : u.life.run = none) : exec (.bistRunTimeout x us) s = .next u := by
  change execBistRunTimeout x us s = _
  simp only [execBistRunTimeout, ← hu, h]

section
variable {r : BistRun} (h : u.life.run = some r)
include h

/-- A run that has passed its bound cannot end any more but by its timeout (R960, R961). -/
theorem exec_bistRunDone_some : exec (.bistRunDone ok x us) s =
    if r.startUs + u.runBound r.swatch r.dom < us then .next u else .next (u.endRun r (if ok then 1 else 2) x us) := by
  change execBistRunDone ok x us s = _
  simp only [execBistRunDone, ← hu, h]

theorem exec_bistRunTimeout_some : exec (.bistRunTimeout x us) s =
    if us < r.startUs + u.runBound r.swatch r.dom then .next u else .next (u.endRun r 3 x us) := by
  change execBistRunTimeout x us s = _
  simp only [execBistRunTimeout, ← hu, h]

end

end

/-! ### JTAG instructions -/

section
variable {s : State} {i : JtagInstr}

theorem exec_jtagInstruction : exec (.jtagInstruction i) s = .next { s with life := { s.life with tapIn := i, tap := s.tapActs i } } := rfl

/-- A SCRAP card answers JTAG with nothing. -/
theorem State.tapActs_scrap (h : s.get LCS_STATE.STATE = 4) : s.tapActs i = .closed := if_pos h

theorem State.tapActs_open (h : s.get LCS_STATE.STATE ≠ 4) (hi : i = .idcode ∨ i = .bypass) : s.tapActs i = i := by
  rcases hi with rfl | rfl <;> exact if_neg h

theorem State.tapActs_scan {d : Nat} (h : s.get LCS_STATE.STATE ≠ 4) : s.tapActs (.scan d) =
    if s.get LCS_STATE.STATE = 2 ∨ (s.get LCS_STATE.STATE = 3 ∧ d = 37) then .bypass else .scan d := if_neg h

theorem State.tapActs_internal (h : s.get LCS_STATE.STATE ≠ 4) : s.tapActs .internal =
    if s.get LCS_STATE.STATE = 0 ∨ s.get LCS_STATE.STATE = 1 then .internal else .bypass := if_neg h

end

/-- Settles O58: a transition is a choice on its copies, a run one on its bound, an instruction one on the lifecycle state. -/
theorem lifeEvents : Obligations.LifeEvents := by
  unfold Obligations.LifeEvents
  refine ⟨?make, fun s f => exec_lifecycleProgramDone_idle, ?done, ?request, ?start, ?run, ?tap⟩
  case make =>
    refine fun s v f => ⟨exec_jtagMakeTransition_ignored, fun h hv => ⟨exec_jtagMakeTransition_failed h hv, fun hf hr => ?_, fun hf hr => ?_⟩⟩
    · rw [exec_jtagMakeTransition_verified h hv hf, if_neg (Bool.eq_false_iff.1 hr)]
    · rw [exec_jtagMakeTransition_verified h hv hf, if_pos hr]
  case done =>
    exact fun s v f t ht h0 hv => ⟨exec_lifecycleProgramDone_failed ht h0 hv, exec_lifecycleProgramDone_verified ht h0 hv⟩
  case request =>
    exact fun s k tg => ⟨exec_lcsCtlStart_noStart, exec_lcsCtlStart_badKey, fun v hv ht hl =>
      ⟨fun st hr => congrArg Host.Outcome.next (State.lcsCtl_refused hv ht hl hr), fun hr => congrArg Host.Outcome.next (State.lcsCtl_begins hv ht hl hr)⟩⟩
  case start =>
    rintro s u w d us rfl
    exact ⟨fun v hv => ⟨congrArg Host.Outcome.next (State.bistCtl_noStart hv), fun h => congrArg Host.Outcome.next (State.bistCtl_running hv h),
        fun h hl => congrArg Host.Outcome.next (State.bistCtl_locked hv h hl)⟩,
      fun v h hv hl => ⟨fun st hr => congrArg Host.Outcome.next (State.bistCtl_refused hv h hl hr),
        fun hr => congrArg Host.Outcome.next (State.bistCtl_begins hv h hl hr)⟩⟩
  case run =>
    intro s u x us ok hu
    refine ⟨fun h => ⟨exec_bistRunDone_none hu h, exec_bistRunTimeout_none hu h⟩, fun r h hlt => ?_, fun r h hlt => ?_⟩
    · rw [exec_bistRunDone_some hu h, exec_bistRunDone_some hu h, exec_bistRunTimeout_some hu h]
      exact ⟨if_neg hlt.not_gt, if_neg hlt.not_gt, if_pos hlt⟩
    · rw [exec_bistRunDone_some hu h, exec_bistRunTimeout_some hu h]
      exact ⟨if_pos hlt, if_neg hlt.not_gt⟩
  case tap =>
    rintro s i f rfl
    rw [exec_jtagInstruction]
    refine ⟨fun h4 => ?scrap, fun h4 hi => ?isOpen, fun h2 hi => ?field, fun h3 hi => ?fieldScan, fun h3 d hd hi => ?returnScan, fun h1 hi => ?internal⟩
    case scrap => rw [State.tapActs_scrap h4]
    case isOpen => rw [State.tapActs_open h4 hi]
    case field =>
      have h4 : s.get LCS_STATE.STATE ≠ 4 := by rw [h2]; decide
      rcases hi with ⟨d, rfl⟩ | rfl
      · rw [State.tapActs_scan h4, if_pos (.inl h2)]
      · rw [State.tapActs_internal h4, if_neg (by rw [h2]; decide)]
    case fieldScan =>
      subst hi
      rw [State.tapActs_scan (by rw [h3]; decide), if_pos (.inr ⟨h3, rfl⟩)]
    case returnScan =>
      subst hi
      rw [State.tapActs_scan (by rw [h3]; decide), if_neg]
      rintro (h2 | ⟨-, h37⟩)
      · exact absurd (h3.symm.trans h2) (by decide)
      · exact hd h37
    case internal =>
      subst hi
      have h01 : s.get LCS_STATE.STATE = 0 ∨ s.get LCS_STATE.STATE = 1 := Nat.le_one_iff_eq_zero_or_eq_one.1 h1
      rw [State.tapActs_internal (h1.trans_lt (by decide)).ne, if_pos h01]

end Sys2Proof.Machine
end

section
/-! PROOFS. The verbs `mpu`, `colour` and `log` (O23). -/
namespace Sys2Proof.Machine
open Sys2Proof

section
variable {s u : State} {ln : Ln} {us : Nat}

/-! ### The image buffer of `mpu` -/

theorem State.imageOf_own {p : Path} {n : Nat} {b : Bytes} (h : u.access.image = some (p, n, b)) : u.imageOf p = some (n, b) := by
  simp only [State.imageOf, h, if_true]

theorem exec_mpuLoad_begun {length : Nat} (hu : u = s.taken ln us) (h : s.runs (Say.mpuLoad length us) ln us (changing [.operator] []) false)
    (hlo : 128 ≤ length) (hhi : length ≤ 131072) : exec (.mpuLoad ln length us) s =
      .next ((u.setImage (some (ln.path, length, []))).done ln [] [("bytes", "0"), ("length", dec length)]) := by
  subst hu
  exact State.cmd_done h rfl (if_neg (not_or.2 ⟨Nat.not_lt.2 hlo, Nat.not_lt.2 hhi⟩))

section
variable {off n : Nat} {hex b : Bytes} (hu : u = s.taken ln us) (h : s.runs (Say.mpuAdd off hex us) ln us (changing [.operator] []) false)
  (hi : u.access.image = some (ln.path, n, b))
include hu h hi

/-- Bytes are added in order, one to 16 at a time, up to the length that `mpu load` named (R1069). -/
theorem exec_mpuAdd_added (hne : hex ≠ []) (h16 : hex.length ≤ 16) (hoff : off = b.length) (hfit : b.length + hex.length ≤ n) :
    exec (.mpuAdd ln off hex us) s = .next ((u.setImage (some (ln.path, n, b ++ hex))).done ln [] [("bytes", dec (b.length + hex.length))]) := by
  subst hu
  refine State.cmd_done h rfl ?_
  simp only [State.imageOf_own hi]
  refine if_neg ?_
  rintro (h0 | hlong | hoff' | hover)
  · exact hne h0
  · exact Nat.not_lt.2 h16 hlong
  · exact hoff' hoff
  · exact Nat.not_lt.2 hfit hover

theorem exec_mpuAdd_refused (hbad : hex = [] ∨ 16 < hex.length ∨ off ≠ b.length ∨ n < b.length + hex.length) :
    exec (.mpuAdd ln off hex us) s = .next (u.refused ln .badArg) := by
  subst hu
  refine State.cmd_refused h rfl ?_
  simp only [State.imageOf_own hi]
  exact if_pos hbad

end

section
variable {v : State} {slot n : Nat} {b : Bytes} (hu : u = s.taken ln us) (h : s.runs (Say.mpuAdmit slot us) ln us (changing [.operator] []) false)
  (hi : u.access.image = some (ln.path, n, b)) (hv : v = u.setImage none)
include hu h hi hv

/-- An image that passes the checks of Table ACC-3 is stored, and the extension starts where it may (R674). -/
theorem exec_mpuAdmit_admitted {w : State} (hn : b.length = n) (hslot : slot ≤ 511) (hc : v.extCheck b slot = none)
    (hw : w = (State.showExt { v.haltExt with access := { v.haltExt.access with ext := some (b, slot) } }).set MPU_EXT.STATE 0) :
    exec (.mpuAdmit ln slot us) s = .next ((if w.extMayStart then w.startExt else w).done ln []
      [("state", if w.extMayStart then "running" else "held"), ("length", dec b.length),
       ("regions", dec ((extRegions b).filter (fun r => r.n != 0)).length)]) := by
  subst hu hv hw
  refine State.cmd_done h rfl ?_
  simp only [State.imageOf_own hi, hc, if_neg (not_not.2 hn), if_neg (Nat.not_lt.2 hslot)]
  rfl

theorem exec_mpuAdmit_failed {st : Status} (hn : b.length = n) (hslot : slot ≤ 511) (hc : v.extCheck b slot = some st) :
    exec (.mpuAdmit ln slot us) s = .next (v.refused ln st) := by
  subst hu hv
  refine State.cmd_refused h rfl ?_
  simp only [State.imageOf_own hi, hc, if_neg (not_not.2 hn), if_neg (Nat.not_lt.2 hslot)]

theorem exec_mpuAdmit_incomplete (hn : b.length ≠ n) : exec (.mpuAdmit ln slot us) s = .next (v.refused ln .wrongState) := by
  subst hu hv
  refine State.cmd_refused h rfl ?_
  simp only [State.imageOf_own hi, if_pos hn]

end

/-! ### `colour tag` -/

section
variable {addr : Nat} {e : LineErrs}

/-- The tag of a granule of shared SRAM, where no DRAM channel that serves stands at the address (R1074; assumption log entry 127). -/
theorem State.colourTag_sram (hlo : 0x20000000 ≤ addr) (hhi : addr < 0x20400000) (hd : addr < u.dramSize → u.drcServes (u.chanOf addr).1 = false) :
    u.colourTag addr e = (u, .ok [] (u.granuleKv addr)) := by
  have hnot : ¬(addr < u.dramSize ∧ u.drcServes (u.chanOf addr).1 = true) := fun ⟨hlt, hserves⟩ => Bool.eq_false_iff.1 (hd hlt) hserves
  have hsram : inSram addr = true := by
    simp only [inSram, hlo, hhi, decide_true, Bool.and_self]
  simp only [State.colourTag, if_neg hnot, hsram, if_true]

theorem State.colourTag_dram (hlt : addr < u.dramSize) (hserves : u.drcServes (u.chanOf addr).1 = true) :
    u.colourTag addr e = u.tagOf addr (u.chanOf addr).1 (u.chanOf addr).2 e := if_pos ⟨hlt, hserves⟩

end

/-! ### `log faults` -/

theorem exec_logFaults_rows {frm count : Option Nat} {total old f n first : Nat} {rows : List (List KV)} (hu : u = s.taken ln us)
    (h : s.runs (Say.logFaults frm count us) ln us (reading rolesOHM []) false) (htotal : total = u.get TAG_FTOTAL.COUNT)
    (hold : old = max 1 u.oldestFault) (hf : f = frm.getD old) (hn : n = count.getD 16) (hf0 : f ≠ 0) (hn0 : n ≠ 0) (hn64 : n ≤ 64) (hfirst : first = max f old)
    (hrows : rows = (List.range (min n (total + 1 - first))).map (fun k => faultKv (first + k) ((u.access.log.lookup ((first + k - 1) % 64)).getD []))) :
    exec (.logFaults ln frm count us) s = .next (u.reply ln.path (.ok ln.tag rows
      [("n", dec rows.length), ("next", dec (first + rows.length)), ("lost", dec (first - f))])) := by
  subst hu htotal hold hf hn hfirst hrows
  refine State.cmd_ok h rfl (if_neg ?_)
  rintro (h0 | h0 | h64)
  · exact hf0 h0
  · exact hn0 h0
  · exact Nat.not_lt.2 hn64 h64

end

/-- Settles O23: each form is a row of its verb; the image buffer, the address and the ranges decide between its effect and a refusal. -/
theorem accessCommands : Obligations.AccessCommands := by
  unfold Obligations.AccessCommands
  refine ⟨?mpuShow, ?load, ?add, ?admission, ?remove, ?colourShow, ?tag, ?logShow, ?faults⟩
  case mpuShow =>
    rintro s u ln core us c rfl h rfl hc hdom
    exact State.cmd_ok h rfl ((if_neg (Nat.not_lt.2 hc)).trans (if_neg hdom))
  case load =>
    refine fun s u ln length us hu h => ⟨fun hlo hhi => exec_mpuLoad_begun hu h hlo hhi, fun hbad => ?_⟩
    subst hu
    exact State.cmd_refused h rfl (if_pos hbad)
  case add =>
    exact fun s u ln off hex us n b hu h hi => ⟨exec_mpuAdd_added hu h hi, exec_mpuAdd_refused hu h hi⟩
  case admission =>
    exact fun s u v w ln slot us n b hu h hi hv => ⟨exec_mpuAdmit_admitted hu h hi hv, fun hn hslot st => exec_mpuAdmit_failed hu h hi hv hn hslot,
      exec_mpuAdmit_incomplete hu h hi hv⟩
  case remove =>
    rintro s u ln us rfl h
    exact State.cmd_done h rfl rfl
  case colourShow =>
    rintro s u ln us rfl h
    exact State.cmd_ok h rfl rfl
  case tag =>
    rintro s u ln addr us e rfl h
    exact ⟨fun hlo hhi hd => State.cmd_ok h rfl (State.colourTag_sram hlo hhi hd),
      fun v d kv hlt hserves ht => State.cmd_ok h rfl ((State.colourTag_dram hlt hserves).trans ht)⟩
  case logShow =>
    rintro s u ln us n rfl h rfl
    exact State.cmd_ok h rfl rfl
  case faults =>
    exact fun s u ln frm count us total old f n first rows hu h => exec_logFaults_rows hu h

end Sys2Proof.Machine
end

section
/-! PROOFS. The verbs `bist`, `life`, `peek` and `poke`, and an unknown verb (O24). -/
namespace Sys2Proof.Machine
open Sys2Proof

section
variable {s u : State} {ln : Ln} {us : Nat}

/-! ### `bist` -/

section
variable {sw d : Nat} {w : Swatch} (hu : u = s.taken ln us) (h : s.runs (Say.bistRun sw d us) ln us (changing [.service] []) false)
include hu h

theorem exec_bistRun_short (hr : u.runRefusal sw d = none) (hw : swatch sw = some w) (ht : u.swatchUs w d ≤ 1000000) :
    exec (.bistRun ln sw d us) s = .next ((u.beginRun sw d (some ln.path) false).waiting ln (.bist sw)) := by
  subst hu
  refine State.cmd_wait h rfl ?_
  simp only [hr, hw, decide_eq_false (Nat.not_lt.2 ht), Bool.false_eq_true, if_false]

/-- A run whose budget exceeds 1 s is a job (R1094). -/
theorem exec_bistRun_long (hr : u.runRefusal sw d = none) (hw : swatch sw = some w) (ht : 1000000 < u.swatchUs w d) :
    exec (.bistRun ln sw d us) s = .next ((u.beginRun sw d (some ln.path) true).jobbed ln "bist run") := by
  subst hu
  refine State.cmd_jobbed h rfl ?_
  simp only [hr, hw, decide_eq_true ht, if_true]

theorem exec_bistRun_refused {st : Status} (hr : u.runRefusal sw d = some st) : exec (.bistRun ln sw d us) s = .next (u.refused ln st) := by
  subst hu
  refine State.cmd_refused h rfl ?_
  simp only [hr]

end

/-- A line of `bist list` (R1095). -/
def swatchRow (x : Nat × Swatch) : List KV :=
  [("swatch", swatchId x.1), ("name", x.2.name), ("budget", dec x.2.us), ("field", yesNo x.2.field)]

/-- The lines of `bist list`: Table LCS-4, numbered from 1. -/
def swatchRows : List (List KV) := (((List.range 40).map (fun k => k + 1)).zip (swatchesA ++ swatchesB)).map swatchRow

theorem swatchRows_length : swatchRows.length = 40 := rfl

theorem swatchRows_id : swatchRows.map (fun r => r.lookup "swatch") = ((List.range 41).drop 1).map (fun k => some (swatchId k)) := rfl

theorem swatchRows_keys : swatchRows.map (fun r => r.map (·.1)) = List.replicate 40 ["swatch", "name", "budget", "field"] := rfl

/-! ### `life set` -/

section
variable {target : Nat} (hu : u = s.taken ln us) (ht : target ≤ 4)
include hu

theorem exec_lifeSet_unconfirmed {confirm : Nat} (hc : confirm ≠ u.get SYS_SERIAL.SERIAL)
    (h : s.runs (Say.lifeSet target confirm us) ln us (changing [.service] []) false) : exec (.lifeSet ln target confirm us) s =
      .next (u.refused ln .badArg) := by
  subst hu
  exact State.cmd_refused h rfl (if_pos (.inl hc))

variable (h : s.runs (Say.lifeSet target (u.get SYS_SERIAL.SERIAL) us) ln us (changing [.service] []) false)
include ht h

theorem exec_lifeSet_begins (hr : u.lifeRefusal target = none) : exec (.lifeSet ln target (u.get SYS_SERIAL.SERIAL) us) s =
    .next ((u.beginLife target false).waiting ln .life) := by
  subst hu
  refine State.cmd_wait h rfl ((if_neg (not_or.2 ⟨not_not.2 rfl, Nat.not_lt.2 ht⟩)).trans ?_)
  simp only [hr]

theorem exec_lifeSet_refused {st : Status} (hr : u.lifeRefusal target = some st) : exec (.lifeSet ln target (u.get SYS_SERIAL.SERIAL) us) s =
    .next (u.refused ln st) := by
  subst hu
  refine State.cmd_refused h rfl ((if_neg (not_or.2 ⟨not_not.2 rfl, Nat.not_lt.2 ht⟩)).trans ?_)
  simp only [hr]

end

/-! ### `peek` -/

theorem Target.ok_inRegSpace {t : Target} (h : t.ok = true) : inRegSpace t.addr = true := by
  simp only [Target.ok, Bool.and_eq_true] at h
  exact h.1.1

theorem Target.spec_none {t : Target} (h : t.field = none) : t.spec = none := by
  simp only [Target.spec, h]

section
variable {t : Target} (hu : u = s.taken ln us) (h : s.runs (Say.peek t none us) ln us (reading rolesOHM []) false) (ht : t.ok = true)
include hu h ht

theorem exec_peek_dark (hd : u.regDark t.addr = true) : exec (.peek ln t none us) s = .next (u.reply ln.path (.er ln.tag .domainOff)) := by
  subst hu
  refine State.cmd_fail h rfl ?_
  simp [ht, Target.ok_inRegSpace ht, hd, within]

theorem exec_peek_word (hd : u.regDark t.addr = false) (hf : t.field = none) : exec (.peek ln t none us) s =
    .next ((u.readClear 0 t.addr).reply ln.path (.ok ln.tag [] [(wordName t.addr, hexWord (u.readWord 0 t.addr))])) := by
  subst hu
  refine State.cmd_ok h rfl ?_
  simp [ht, Target.ok_inRegSpace ht, hd, within, Target.spec_none hf]

theorem exec_peek_field {f : FSpec} (hd : u.regDark t.addr = false) (hf : t.spec = some f) : exec (.peek ln t none us) s =
    .next ((u.readClear 0 t.addr).reply ln.path
      (.ok ln.tag [] [(wordName t.addr ++ "." ++ f.name, hexShort ((f.fld t.addr).of (u.readWord 0 t.addr)))])) := by
  subst hu
  refine State.cmd_ok h rfl ?_
  simp [ht, Target.ok_inRegSpace ht, hd, within, hf]

end

theorem exec_peek_words {t : Target} {n : Nat} {as : List Nat} (hu : u = s.taken ln us)
    (h : s.runs (Say.peek t (some n) us) ln us (reading rolesOHM []) false) (ht : t.ok = true) (hf : t.field = none) (h1 : 1 ≤ n) (h16 : n ≤ 16)
    (has : as = (List.range n).map (fun k => t.addr + 4 * k)) (hin : as.all inRegSpace = true) (hd : as.any u.regDark = false) :
    exec (.peek ln t (some n) us) s = .next ((as.foldl (fun v a => v.readClear 0 a) u).reply ln.path
      (.ok ln.tag (as.map (fun a => [(wordName a, hexWord (u.readWord 0 a))])) [("n", dec n)])) := by
  subst hu has
  refine State.cmd_ok h rfl ?_
  simp only [Option.getD_some, ht, within_some.2 ⟨h1, h16⟩, hf, hin, hd, Target.spec_none hf, Option.isSome_none, Bool.true_eq_false, Bool.false_eq_true,
    false_and, or_self, if_false]

/-! ### `poke` -/

section
variable {v : State} {t : Target} {value : Nat} {got : List Nat} (hu : u = s.taken ln us)
  (h : s.runs (Say.poke t value got us) ln us (changing [.operator] []) false)
include hu h

/-- A value that is too wide for the field, and a field that is read only (R1100). -/
theorem exec_poke_refused {f : FSpec} (hf : t.spec = some f) (hbad : 2 ^ f.width ≤ value ∨ f.acc = .ro) :
    exec (.poke ln t value got us) s = .next (u.refused ln .badArg) := by
  subst hu
  refine State.cmd_refused h rfl ?_
  have hwide : (decide (2 ^ f.width ≤ value) || f.acc == .ro) = true := by
    rw [Bool.or_eq_true, decide_eq_true_eq, beq_iff_eq]
    exact hbad
  simp only [hf, hwide, or_true, if_true]

variable (ht : t.ok = true) (hd : u.regDark t.addr = false)
include ht hd

theorem exec_poke_word (hf : t.field = none) (hv : value < 2 ^ 32) (hw : v = u.regWrite 0 t.addr false (BitVec.ofNat 32 value) got us) :
    exec (.poke ln t value got us) s = .next (v.done ln [] [(wordName t.addr, hexWord (v.readBack t.addr))]) := by
  subst hu hw
  refine State.cmd_done h rfl ?_
  simp only [Target.spec_none hf, ht, hd, decide_eq_false (Nat.not_le.2 hv), Bool.true_eq_false, Bool.false_eq_true, or_self, if_false]

theorem exec_poke_field {f : FSpec} (hf : t.spec = some f) (hv : value < 2 ^ f.width) (hacc : f.acc ≠ .ro)
    (hw : v = u.regWrite 0 t.addr false (u.pokeWord t.addr f value) got us) :
    exec (.poke ln t value got us) s = .next (v.done ln [] [(wordName t.addr, hexWord (v.readBack t.addr))]) := by
  subst hu hw
  refine State.cmd_done h rfl ?_
  simp only [hf, ht, hd, decide_eq_false (Nat.not_le.2 hv), beq_false_of_ne hacc, Bool.or_self, Bool.true_eq_false, Bool.false_eq_true, or_self, if_false]

end

/-! ### An unknown verb -/

theorem exec_unknownCommandLine_heard (hu : u = (s.wakeLine ln.path ln.rx).heard ln.path ln.rx) (hr : s.ripe (Say.unknownCommandLine.waited ln) ln.rx = true)
    (hs : s.says Say.unknownCommandLine ln = true)
    (hg : u.gate ln.path { changing := false, roles := [.operator, .host, .mantle, .service], needs := [] } false = none) :
    exec (.unknownCommandLine ln) s = .next (u.reply ln.path (.er ln.tag .badVerb)) := by
  subst hu
  change execUnknownCommandLine ln s = _
  simp only [execUnknownCommandLine, State.runLine, hr, hs, hg, Bool.and_self, Bool.not_true, Bool.false_eq_true, if_false, State.answer, State.settled]

end

/-- Settles O24: each form is a row of its verb; what refuses a run, a transition or an access decides between its effect and a refusal. -/
theorem serviceCommands : Obligations.ServiceCommands := by
  unfold Obligations.ServiceCommands
  refine ⟨?run, ?runRefused, ?bistShow, ?list, ?lifeShow, ?lifeSet, ?peek, ?peekWords, ?poke, ?unknown⟩
  case run =>
    exact fun s u ln sw d us w hu h hr hw => ⟨exec_bistRun_short hu h hr hw, exec_bistRun_long hu h hr hw⟩
  case runRefused => exact fun s u ln sw d us st hu h hr => exec_bistRun_refused hu h hr
  case bistShow =>
    rintro s u ln sw us rfl h
    exact ⟨fun h1 h40 => State.cmd_ok h rfl (if_neg (not_or.2 ⟨Nat.ne_of_gt h1, Nat.not_lt.2 h40⟩)), fun hbad => State.cmd_fail h rfl (if_pos hbad)⟩
  case list =>
    rintro s u ln us rfl h
    exact ⟨swatchRows, State.cmd_ok h rfl rfl, swatchRows_length, swatchRows_id, swatchRows_keys⟩
  case lifeShow =>
    rintro s u ln us rfl h
    exact State.cmd_ok h rfl rfl
  case lifeSet =>
    exact fun s u ln target us hu ht => ⟨fun hr h => exec_lifeSet_begins hu ht h hr, fun st hr h => exec_lifeSet_refused hu ht h hr,
      fun confirm => exec_lifeSet_unconfirmed hu⟩
  case peek =>
    exact fun s u ln t us hu h ht => ⟨exec_peek_dark hu h ht, exec_peek_word hu h ht, fun hd f => exec_peek_field hu h ht hd⟩
  case peekWords => exact fun s u ln t n us as hu h ht hf h1 h16 has hin hd => exec_peek_words hu h ht hf h1 h16 has hin hd
  case poke =>
    intro s u v ln t value us got hu h ht hd
    exact ⟨exec_poke_word hu h ht hd, fun f hf => exec_poke_field hu h ht hd hf, fun f hf => exec_poke_refused hu h hf⟩
  case unknown => exact fun s u ln => exec_unknownCommandLine_heard

end Sys2Proof.Machine
end
